-- ==== Sys2Proof/Word.lean ====
section
/-!
DEFINITION. Word.lean: the words of the SPZ9160's interfaces and their plainest arithmetic.
-/
namespace Sys2Proof

/-- A 32-bit register word (R453). -/
abbrev Word := BitVec 32

/-- A byte. -/
abbrev Byte := BitVec 8

/-- A 64-byte line, byte `i` in bits 8i to 8i+7 (R5, the line of 00_scope.md). -/
abbrev Line := BitVec 512

/-- The byte mask of a partial write: bit `i` set means byte `i` is written. -/
abbrev Mask := BitVec 64

/-- Bits `hi` down to `lo` of a word, as a number. -/
def Word.field (w : Word) (hi lo : Nat) : Nat := w.toNat / 2 ^ lo % 2 ^ (hi + 1 - lo)

/-- Replace bits `hi` down to `lo` of a word. -/
def Word.setField (w : Word) (hi lo v : Nat) : Word :=
  BitVec.ofNat 32 (w.toNat - w.field hi lo * 2 ^ lo + v % 2 ^ (hi + 1 - lo) * 2 ^ lo)

/-- A word with one field set. -/
def Word.ofField (hi lo v : Nat) : Word := BitVec.ofNat 32 (v % 2 ^ (hi + 1 - lo) * 2 ^ lo)

/-- The line whose bytes under `m` come from `b` and whose others come from `a`. -/
def Line.overlay (a b : Line) (m : Mask) : Line :=
  let full : Line := BitVec.ofNat 512 ((List.range 64).foldl
    (fun n i => if m.getLsbD i then n + 255 * 2 ^ (8 * i) else n) 0)
  (a &&& ~~~full) ||| (b &&& full)

/-- The full byte mask. -/
def Mask.full : Mask := BitVec.allOnes 64

/-- Ceiling division. -/
def ceilDiv (a b : Nat) : Nat := if b = 0 then 0 else (a + b - 1) / b

/-- A value held within limits. -/
def clamp (lo hi v : Nat) : Nat := if v < lo then lo else if hi < v then hi else v

end Sys2Proof
end

