-- ==== Sys2Proof/Machine/SMap.lean ====
section
/-!
DEFINITION. Machine/SMap.lean: sparse tables in one canonical form: cells by key, keys strictly rising. `put` also drops
a cell that holds the table's default value, so that equal tables are equal data.
-/
namespace Sys2Proof.Machine

/-- A sparse table: (key, value) cells in rising order of key. -/
structure SMap (α : Type) where
  cells : List (Nat × α) := []
  deriving DecidableEq, Repr

variable {α β : Type}

/-- The empty table. -/
def SMap.empty : SMap α := ⟨[]⟩

/-- The value at a key in a list of cells. -/
def SMap.findL : List (Nat × α) → Nat → Option α
  | [], _ => none
  | (k, v) :: t, x => if k = x then some v else SMap.findL t x

/-- The cells with `x` set to `v`. -/
def SMap.insL : List (Nat × α) → Nat → α → List (Nat × α)
  | [], x, v => [(x, v)]
  | (k, w) :: t, x, v =>
    if x < k then (x, v) :: (k, w) :: t
    else if x = k then (x, v) :: t
    else (k, w) :: SMap.insL t x v

/-- The cells without `x`. -/
def SMap.delL : List (Nat × α) → Nat → List (Nat × α)
  | [], _ => []
  | (k, w) :: t, x => if k = x then SMap.delL t x else (k, w) :: SMap.delL t x

/-- The value at a key, if the table lists it. -/
def SMap.find? (m : SMap α) (k : Nat) : Option α := SMap.findL m.cells k

/-- The value at a key, or the default. -/
def SMap.getD (m : SMap α) (k : Nat) (d : α) : α := (m.find? k).getD d

/-- Whether the table lists a key. -/
def SMap.has (m : SMap α) (k : Nat) : Bool := (m.find? k).isSome

/-- Set a key. -/
def SMap.insert (m : SMap α) (k : Nat) (v : α) : SMap α := ⟨SMap.insL m.cells k v⟩

/-- Remove a key. -/
def SMap.erase (m : SMap α) (k : Nat) : SMap α := ⟨SMap.delL m.cells k⟩

/-- Set a key of a table whose unlisted keys hold `d`. -/
def SMap.put [DecidableEq α] (m : SMap α) (d : α) (k : Nat) (v : α) : SMap α :=
  if v = d then m.erase k else m.insert k v

/-- Change the value at a key, if listed. -/
def SMap.modify (m : SMap α) (k : Nat) (f : α → α) : SMap α :=
  match m.find? k with
  | none => m
  | some v => m.insert k (f v)

/-- The keys, rising. -/
def SMap.keys (m : SMap α) : List Nat := m.cells.map (·.1)

/-- The values, by rising key. -/
def SMap.values (m : SMap α) : List α := m.cells.map (·.2)

/-- How many keys are listed. -/
def SMap.size (m : SMap α) : Nat := m.cells.length

/-- Keep the cells that satisfy `p`. -/
def SMap.filter (m : SMap α) (p : Nat → α → Bool) : SMap α := ⟨m.cells.filter (fun c => p c.1 c.2)⟩

/-- Change every value. -/
def SMap.mapVals (m : SMap α) (f : Nat → α → α) : SMap α := ⟨m.cells.map (fun c => (c.1, f c.1 c.2))⟩

/-- The first key, rising, whose cell satisfies `p`. -/
def SMap.findKey? (m : SMap α) (p : Nat → α → Bool) : Option Nat :=
  (m.cells.find? (fun c => p c.1 c.2)).map (·.1)

/-- The least of `k … k+n-1` that is not listed. -/
def SMap.freeFrom (m : SMap α) : Nat → Nat → Option Nat
  | 0, _ => none
  | n + 1, k => if m.has k then m.freeFrom n (k + 1) else some k

/-- The least of `0 … n-1` that is not listed. -/
def SMap.freeKey? (m : SMap α) (n : Nat) : Option Nat := m.freeFrom n 0

/-- Keys strictly rising. -/
def SMap.sortedL : List (Nat × α) → Bool
  | [] => true
  | (k, _) :: t => t.all (fun c => decide (k < c.1)) && SMap.sortedL t

/-- The canonical form of a table whose unlisted keys hold `d k`. -/
def SMap.wf [DecidableEq α] (m : SMap α) (d : Nat → α) : Bool :=
  SMap.sortedL m.cells && m.cells.all (fun c => decide (c.2 ≠ d c.1))

end Sys2Proof.Machine
end

