-- ==== Sys2Proof/Machine/Types.lean ====
section
/-!
DEFINITION. Machine/Types.lean: the names and small records that commands and state share.
-/
namespace Sys2Proof.Machine

/-- The six modes (01_architecture.md, Modes). -/
inductive Mode where
  | standby | restore | serve | solo | preserve | hold
  deriving DecidableEq, Repr

/-- SYS_MODE.STATE. -/
def Mode.code : Mode → Nat
  | .standby => 0 | .restore => 1 | .serve => 2 | .solo => 3 | .preserve => 4 | .hold => 5

/-- The mode a STATE code names; 6 and 7 are reserved. -/
def Mode.ofCode : Nat → Option Mode
  | 0 => some .standby | 1 => some .restore | 2 => some .serve | 3 => some .solo
  | 4 => some .preserve | 5 => some .hold | _ => none

/-- The supply and reset inputs as the supervisor samples them (R496, R552): PFAIL_N, HOLDUP_OK, SEQ_IN, RESET_N and
PG_IN[11:0]. -/
structure Pins where
  pfailN : Bool
  holdupOk : Bool
  seqIn : Bool
  resetN : Bool
  pg : BitVec 12
  deriving DecidableEq, Repr

/-- The mailbox a Tilma command came through: the function (R369, the code of MBX_STATUS.SOURCE), whether it is the
secondary mailbox, the payload length the host gave, and the command's tag (the model's own, to tell replies apart). -/
structure Mbx where
  fn : Nat
  secondary : Bool
  len : Nat
  deriving DecidableEq, Repr

end Sys2Proof.Machine
end

