-- ==== Sys2Proof/Machine/StMem.lean ====
section
/-!
DEFINITION. Machine/StMem.lean: the state of the memory side: home lines, tier manager, line cache, channel controllers, code
engines.
-/
namespace Sys2Proof.Machine

/-! ## Homes -/

/-- A place of a line in home space: the memory (HBM or DDR5) and the home line number, home address over 64. -/
structure Home where
  hbm : Bool
  line : Nat
  deriving DecidableEq, Repr

/-- The key of a home line in the tables of home lines. -/
def Home.key (h : Home) : Nat := 2 * h.line + (if h.hbm then 1 else 0)

/-- What a home line holds (R248, R256, R279): a line written through the code engine, kept as plaintext with the device line
and the key slot it was encrypted under; the poison marker; or a raw codeword of a test write, 16 beats and check symbols. -/
inductive Cell where
  | plain (dev key : Nat) (data : BitVec 512)
  | poison
  | raw (beats : BitVec 512) (chk : BitVec 128)
  deriving DecidableEq, Repr

/-! ## Tier manager (06_tiers.md) -/

/-- A run of extents placed at RESTORE (R170): first extent, how many, the tier, the home extent of the first. -/
structure PlaceRun where
  first : Nat
  count : Nat
  hbm : Bool
  home : Nat
  deriving DecidableEq, Repr

/-- A move (R163 to R169): from and to, the cursor, and whether it waits for a merged refetch at the cursor. -/
structure Move where
  extent : Nat
  fromHbm : Bool
  fromHome : Nat
  toHbm : Bool
  toHome : Nat
  cursor : Nat
  /-- A read of the line at the cursor is outstanding. -/
  reading : Bool
  /-- The move waits at its cursor for a merged refetch (R169). -/
  refetch : Bool
  deriving DecidableEq, Repr

/-- Why an extent is to be promoted or evicted. -/
inductive MoveWhy where
  | auto | pin | unpin | sched (id step : Nat)
  deriving DecidableEq, Repr

/-- A move asked for and not started: TM issues them in the order of R175, R176, R186. -/
structure MoveAsk where
  extent : Nat
  toHbm : Bool
  why : MoveWhy
  deriving DecidableEq, Repr

/-- A tenant's floor and ceiling (R172). -/
structure Tenant where
  floor : Nat := 0
  ceil : Nat := 0
  deriving DecidableEq, Repr

/-- A step of a schedule (R178). -/
structure SchedStep where
  deadline : Nat
  firstRun : Nat
  count : Nat
  deriving DecidableEq, Repr

/-- A loaded schedule (R178 to R187). -/
structure Sched where
  lead : Nat
  loop : Bool
  doorbell : Nat
  subst : Nat
  steps : List SchedStep
  runs : List (Nat × Nat)
  /-- STEP of the status word (R183, R563). -/
  step : Nat
  /-- LATE of the status word. -/
  late : Bool
  /-- BLOCKED of the status word (R186). -/
  blocked : Bool
  /-- No trigger has come since SCHED_LOAD (R563). -/
  fresh : Bool
  /-- Trigger and late counts, 32 bits (R180). -/
  triggers : Nat
  lates : Nat
  /-- Device time of the last trigger, or of the load (R186, R563). -/
  since : Nat
  deriving DecidableEq, Repr

/-- The tier manager. -/
structure TierMgr where
  /-- Placement of RESTORE (R170). -/
  runs : List PlaceRun := []
  /-- Extents moved since: their tier and home extent (R162). -/
  moved : SMap (Bool × Nat) := {}
  /-- Free HBM home places, runs of (first, count). -/
  freeHbm : List (Nat × Nat) := []
  /-- Free DDR5 home places, runs of (first, count). -/
  freeDdr : List (Nat × Nat) := []
  /-- TM_HBM_PLACES.TOTAL, 16 bits. Reset column: 0. -/
  hbmTotal : Nat := 0
  /-- DDR5 home places after reserves (R177). -/
  ddrTotal : Nat := 0
  /-- AGE of extents, 4 bits; an extent not listed has 15 (R170, R173). -/
  age : SMap Nat := {}
  /-- Extents whose AGE reached 0 in the present ageing period (R173). -/
  fresh : SMap Unit := {}
  /-- Moves in progress, at most 64 (R168). -/
  moves : List Move := []
  /-- Moves asked for and not started, in order of issue (R175, R176, R186). -/
  asks : List MoveAsk := []
  /-- The candidate table, 4,096 places: misses in this period by extent (R175). -/
  cands : SMap Nat := {}
  /-- The scan pointer of R174. -/
  scan : Nat := 0
  /-- Tenants (R172); non-volatile in the vault's TABLE records. -/
  tenants : SMap Tenant := {}
  /-- Schedules by SCHED_ID, at most 1,024 (R178). -/
  scheds : SMap Sched := {}
  /-- Merged refetches in progress (R188): line, and the source tried: 0 twin, 1 vault, 2 freeze handling. -/
  refetch : SMap Nat := {}
  deriving DecidableEq, Repr

/-! ## Line cache (07_line_cache.md) -/

/-- One way (R193). -/
structure Way where
  v : Bool := false
  d : Bool := false
  p : Bool := false
  age : Nat := 0
  rank : Nat := 0
  tag : Nat := 0
  data : BitVec 512 := 0
  deriving DecidableEq, Repr

/-- A set: its 16 ways and the entry that holds its miss slot (R206). -/
structure LSet where
  ways : List Way
  slot : Option Nat
  deriving DecidableEq, Repr

/-- A range operation (R209 to R216): OP, its runs of device lines (first and last), class, who asked (a mailbox with its tag, or
LC_OP_CMD), lines acted on so far. -/
structure RangeOp where
  op : Nat
  spans : List (Nat × Nat)
  cls : Nat
  reply : Option (Mbx × Nat)
  acted : Nat
  /-- Lines whose write-back has not reached DRAM (R210). -/
  pending : List Nat
  /-- The walk or probing has passed every line (R211). -/
  walked : Bool
  /-- The next set the walk handles in every slice (R215). -/
  set : Nat
  deriving DecidableEq, Repr

/-- LC_STATUS.STATE. -/
inductive LcState where
  | enabled | disabled | sweeping
  deriving DecidableEq, Repr

/-- The STATE code. -/
def LcState.code : LcState → Nat
  | .enabled => 0 | .disabled => 1 | .sweeping => 2

/-- The line cache. -/
structure LineCache where
  /-- Sets by 2,048 × slice + set; a set not listed is empty (R191). -/
  sets : SMap LSet := {}
  /-- LC_STATUS.STATE, 2 bits (R217). Reset column: ENABLED. -/
  state : LcState := .enabled
  /-- LC_STATUS.SLICE, 6 bits. Reset column: 0. -/
  slice : Nat := 0
  /-- LC_STATUS.REENABLE, 1 bit (R219). Reset column: 0. -/
  reenable : Bool := false
  /-- LC_WAYOFFnn.OFF, 64 × 16 bits (R197). Reset column: 0. -/
  wayOff : SMap (BitVec 16) := {}
  /-- The range operation that runs (R214). -/
  op : Option RangeOp := none
  /-- CACHE_OPs that wait for it (R214). -/
  opq : List RangeOp := []
  /-- LC_OP_STATUS.RESULT, 2 bits. Reset column: 0. -/
  opResult : Nat := 0
  deriving DecidableEq, Repr

/-! ## Channel controllers (08_channel_controllers.md) -/

/-- DCnn_STATUS.STATE. -/
inductive ChState where
  | off | training | active | frozen | retired
  deriving DecidableEq, Repr

/-- The STATE code. -/
def ChState.code : ChState → Nat
  | .off => 0 | .training => 1 | .active => 2 | .frozen => 3 | .retired => 4

/-- Where a home line lies (R60, HBM and DDR5 layouts): instance 0 to 15 DC, 16 to 47 HC; subchannel or pseudo-channel; rank;
bank group; bank; row; column. -/
structure DramAddr where
  inst : Nat
  sc : Nat
  rank : Nat
  bg : Nat
  ba : Nat
  row : Nat
  col : Nat
  deriving DecidableEq, Repr

/-- For whom a channel reads. -/
inductive ReadFor where
  | entry (id : Nat)
  | move (extent : Nat)
  | scrub
  deriving DecidableEq, Repr

/-- A request at a channel (R224 to R227): its port, home line, urgency level, arrival, what it reads for or writes. -/
structure ChReq where
  id : Nat
  port : Nat
  home : Home
  dev : Nat
  level : Nat
  since : Nat
  /-- A read and for whom; none for a write. -/
  rd : Option ReadFor
  /-- The cell a write writes. -/
  wr : Option Cell
  /-- Its command has been issued: a read awaits its data, a write its 64 cycles (R226). -/
  issued : Bool
  deriving DecidableEq, Repr

/-- One channel controller. -/
structure Channel where
  /-- STATE, 3 bits. Reset column: OFF. -/
  state : ChState := .off
  /-- Read queue, 64 entries (R224). -/
  rq : List ChReq := []
  /-- Write queue, 64 entries (R224). -/
  wq : List ChReq := []
  /-- Requests held at their ports (R224). -/
  held : List ChReq := []
  /-- DRAIN, 1 bit (R228). Reset column: 0. -/
  drain : Bool := false
  /-- Writes issued since a level-3 read began to wait, per subchannel (R230). -/
  brk : Nat × Nat := (0, 0)
  /-- Refreshes owed, by 64 × subchannel + rank (R232). -/
  owed : SMap Nat := {}
  /-- Open rows by bank: the row, and row hits in a row while another row waited (R231). -/
  rows : SMap (Nat × Nat) := {}
  /-- TEMP, 8 bits (R233). Reset column: 0. -/
  temp : Nat := 0
  /-- REF2X, 1 bit (R233). Reset column: 0. -/
  ref2x : Bool := false
  /-- The temperature at the last DQS or HBM3 calibration (R239). -/
  calTemp : Nat := 0
  /-- Device time of the last over-temperature report (R234). -/
  tempReport : Option Nat := none
  /-- Failed stack temperature reads in a row (R414). -/
  tempFails : Nat := 0
  /-- CAP0.CAUSE, 4 bits (R240). Reset column: 0. -/
  capCause : Nat := 0
  /-- CAP0 to CAP2: the location and home address captured (R240). Reset column: 0. -/
  capAt : Option (DramAddr × Home) := none
  /-- CAP3, 32 bits (R240). Reset column: 0. -/
  capTime : Nat := 0
  /-- Device time of the freeze in force (R242, R244). -/
  frozenAt : Nat := 0
  /-- The last command issued, for CA_PARITY and ALERT (DCnn_CAP0). -/
  lastCmd : Option (DramAddr × Home) := none
  /-- The remap entry's old TO line of a RETIRE_LINE in progress awaiting its merged refetch (R243): the device line. -/
  retireWait : Option Nat := none
  /-- The next request number. -/
  nextId : Nat := 0
  deriving DecidableEq, Repr

/-! ## Code engines (09_codes.md) -/

/-- A merge-buffer entry (R75, R76): the home channel whose buffer holds it, its data and mask, the device time of its oldest
byte, its place in the order of allocation. -/
structure MergeEntry where
  inst : Nat
  data : BitVec 512
  mask : BitVec 64
  since : Nat
  arr : Nat
  deriving DecidableEq, Repr

/-- An erasure mark (R259): instance, subchannel or pseudo-channel, rank or stack ID, device or symbol. -/
structure Mark where
  inst : Nat
  sc : Nat
  rank : Nat
  dev : Nat
  deriving DecidableEq, Repr

/-- A remap entry (R262): FROM, TO, the device line (none for a reserve line), time filled. -/
structure Remap where
  inst : Nat
  src : Home
  dst : Home
  dev : Nat
  time : Nat
  deriving DecidableEq, Repr

/-- A row of a device repaired by post-package repair (R266, R268). -/
structure RepairedRow where
  inst : Nat
  sc : Nat
  rank : Nat
  bg : Nat
  ba : Nat
  dev : Nat
  row : Nat
  deriving DecidableEq, Repr

/-- What the repair table keeps (R268), each with the serial number of its DIMM or of the package. -/
structure RepairTable where
  remaps : List (Remap × Nat) := []
  rows : List (RepairedRow × Nat) := []
  marks : List (Mark × Nat) := []
  retired : List (Nat × List Nat) := []
  deriving DecidableEq, Repr

/-- A row repair in progress (R267). -/
structure RowRepair where
  row : RepairedRow
  hard : Bool
  reply : Mbx
  tag : Nat
  /-- A repair that fault handling asked for (R406): whether for the row, or for a line whose RETIRE_LINE was refused. -/
  auto : Option Bool := none
  deriving DecidableEq, Repr

/-- The code engines. -/
structure CodeEng where
  /-- Merge buffers: entries by device line (R75). -/
  merge : SMap MergeEntry := {}
  nextArr : Nat := 0
  /-- Marks in force (R259). -/
  marks : List Mark := []
  /-- Counts of R258 by mark unit. -/
  counts : List (Mark × Nat) := []
  /-- Mark units whose first corrected read in this pass has been logged (R282). -/
  logged : List Mark := []
  /-- Remap tables (R262). -/
  remaps : List Remap := []
  /-- Spare lines unusable until the next RESTORE (R265). -/
  unusable : List Home := []
  /-- EC_REMAPnn.REFUSED by instance, 16 bits, saturates. Reset column: 0. -/
  refused : SMap Nat := {}
  /-- Rows repaired by sPPR (R268). -/
  rows : List RepairedRow := []
  /-- Retired DDR5 channels with the serial numbers of their DIMMs (R566). -/
  retired : List (Nat × List Nat) := []
  /-- Serial numbers of the DIMMs by channel, from the SPDs (R222, R268). -/
  serials : SMap (List Nat) := {}
  /-- A row repair in progress. -/
  repair : Option RowRepair := none
  /-- EC_SCRUB_STATUS.PASSES, 16 bits. Reset column: 0. -/
  passes : Nat := 0
  /-- Scrub position: lines of the pass done, and lines the pass covers (R274). -/
  scrubDone : Nat := 0
  scrubAll : Nat := 0
  /-- Where the pass goes on: the next device line, or 2^38 and the number of the next reserve line (R274). -/
  scrubAt : Nat := 0
  /-- EC_SCRUB_RATE.MBPS, 16 bits. Reset column: 0. -/
  scrubRate : Nat := 0
  /-- A scrub read of this home line is outstanding, and a write of it has come since (R276). -/
  scrubbing : Option (Home × Nat × Bool) := none
  /-- EC_TEST_CTL.RESULT, 3 bits. Reset column: 0. -/
  testResult : Nat := 0
  /-- EC_TEST_RES.VERDICT and NSYM, EC_TEST_SYM and SYM_HI. Reset column: 0. -/
  verdict : Nat := 0
  nsym : Nat := 0
  symMask : Nat := 0
  deriving DecidableEq, Repr

end Sys2Proof.Machine
end

