-- ==== Sys2Proof/Machine/StNet.lean ====
section
/-!
DEFINITION. Machine/StNet.lean: the state of the network engine (11_network.md).
-/
namespace Sys2Proof.Machine

/-- What the network engine reads of an arriving Ethernet frame (R324 to R326). IPv4 addresses are IPv4-mapped. -/
structure Eth where
  mac : Nat
  port : Nat
  /-- VLAN PCP, DSCP (6 bits), ECN (2 bits), VLAN ID. -/
  pcp : Nat
  dscp : Nat
  ecn : Nat
  vlan : Nat
  srcMac : Nat
  srcIp : BitVec 128
  dstIp : BitVec 128
  /-- The destination MAC is the port's own; FCS and ICRC are good; UDP ports. -/
  dstMacOwn : Bool
  fcsGood : Bool
  icrcGood : Bool
  udpSrc : Nat
  udpDst : Nat
  /-- Bytes the frame takes in the ingress buffer. -/
  bytes : Nat
  deriving DecidableEq, Repr

/-- The base transport header and what follows it (R331, R332). -/
structure Bth where
  opcode : Nat
  tver : Nat
  pkey : Nat
  qpn : Nat
  psn : Nat
  ackReq : Bool
  deriving DecidableEq, Repr

/-- An RDMA extended transport header: virtual address, rkey, DMA length. -/
structure Reth where
  va : Nat
  rkey : Nat
  len : Nat
  deriving DecidableEq, Repr

/-- What an RDMA packet carries. -/
inductive RdmaBody where
  | write (reth : Option Reth) (payload : List (BitVec 8))
  | read (reth : Reth)
  | cmpSwap (va rkey : Nat) (compare swap : BitVec 64)
  | fetchAdd (va rkey : Nat) (addend : BitVec 64)
  /-- An RC opcode outside R331's executed ones. -/
  | other
  deriving DecidableEq, Repr

/-- An RDMA packet on the reliable-connection transport. -/
structure RdmaPkt where
  eth : Eth
  bth : Bth
  body : RdmaBody
  deriving DecidableEq, Repr

/-- Where the answers of a connection go (R325). -/
structure Route where
  mac : Nat := 0
  port : Nat := 0
  dstMac : Nat := 0
  vlan : Nat := 0
  prio : Nat := 0
  dscp : Nat := 0
  dstIp : BitVec 128 := 0
  deriving DecidableEq, Repr

/-- What a frame the engine sends carries. -/
inductive NetOut where
  | ack (qpn psn msn : Nat)
  | nak (qpn syndrome psn msn : Nat)
  | readResp (qpn psn msn opcode : Nat) (data : List (BitVec 8))
  | atomicAck (qpn psn msn : Nat) (orig : BitVec 64)
  | cnp (qpn : Nat)
  | probeReply (pairId ctrlId : Nat) (seq : BitVec 64)
  | probe (pairId ctrlId : Nat) (seq : BitVec 64)
  | announce (ip : BitVec 128)
  | arpReply (ip : BitVec 128)
  | cmRep (qpn respRes : Nat)
  | cmRej (reason : Nat)
  | cmDreq (qpn : Nat)
  | cmDrep (qpn : Nat)
  | pfc (prio : Nat) (xoff : Bool)
  deriving DecidableEq, Repr

/-- A frame and where it goes. -/
structure NetFrame where
  mac : Nat
  port : Nat
  prio : Nat
  dstMac : Nat
  vlan : Nat
  dscp : Nat
  dstIp : BitVec 128
  udpSrc : Nat
  what : NetOut
  deriving DecidableEq, Repr

/-- A responder resource entry (R338). -/
inductive Res where
  | read (psn len va : Nat)
  | atomic (psn : Nat) (orig : BitVec 64)
  deriving DecidableEq, Repr

/-- An operation of a connection in the tracker, from its acceptance until it is done (R82, R83). -/
structure NetOp where
  /-- 0 WRITE packet, 1 READ, 2 ATOMIC. -/
  kind : Nat
  psn : Nat
  /-- PSN of its last packet or response packet. -/
  psnEnd : Nat
  /-- The packet ends its message (Last, Only, ATOMIC, READ). -/
  ends : Bool
  ackReq : Bool
  /-- First device address, bytes. -/
  addr : Nat
  len : Nat
  /-- Lines whose entry has not completed. -/
  left : Nat
  /-- A READ whose line reads have begun (R83). -/
  begun : Bool
  /-- READ: line results by number of the line; ATOMIC: its original value under 0. -/
  got : SMap (BitVec 512 × Bool)
  /-- READ: response packets sent. -/
  sentPkts : Nat
  /-- The revocation epoch it is counted against (R358). -/
  epoch : Option Nat
  /-- A fresh number of the operation, so that abandoned reads are told apart (R351). -/
  serial : Nat
  /-- Its answer has been abandoned (R351, R342). -/
  abandoned : Bool
  deriving DecidableEq, Repr

/-- A WRITE message in progress (R337): rkey, running VA, remaining length; a packet of it asked for an ACK (R352). -/
structure WriteMsg where
  rkey : Nat
  va : Nat
  left : Nat
  ackReq : Bool
  deriving DecidableEq, Repr

/-- A connection context (R337): own, or the shadow of a connection of the twin (R363). -/
structure Conn where
  own : Bool
  qpn : Nat
  reqQpn : Nat
  pkey : Nat
  mtu : Nat
  udpSrc : Nat
  domain : Nat
  respRes : Nat
  epsn : Nat
  msn : Nat
  nakPending : Bool
  /-- Its REP has been sent: the context is in RTS (R336); else it is being set up. -/
  rts : Bool
  /-- RTU or a first in-sequence packet has come (R336). -/
  ready : Bool
  error : Bool
  /-- The connection ends: its slot is freed once its operations have left (R337). -/
  closing : Bool
  wr : Option WriteMsg
  route : Route
  res : List Res
  ops : List NetOp
  /-- Messages completed since the last ACK, device time of the oldest of them, PSN of the last one completed (R352). -/
  ackCount : Nat
  ackSince : Nat
  donePsn : Nat
  /-- Device time of the last CNP (R334). -/
  cnpAt : Option Nat
  /-- A packet in a STALL wait, the device time it began (R354), and the epoch it is counted against (R358). -/
  stall : Option (RdmaPkt × Nat × Option Nat)
  /-- A packet has been accepted here: the route is that of the latest one (R325). -/
  routed : Bool
  /-- Owners of the keys it has used (CONN_LIST). -/
  usedBy : List Nat
  /-- The twin has still to apply that the connection ends (R362). -/
  twinWait : Bool
  /-- A DREP is owed once it has (R337). -/
  drepOwed : Bool
  deriving DecidableEq, Repr

/-- A key-table entry or a grant (R343): STATE 0 FREE, 1 VALID, 2 REVOKING. -/
structure KeyEnt where
  state : Nat := 0
  rights : Nat := 0
  gen : Nat := 0
  local_ : Nat := 0
  base : Nat := 0
  len : Nat := 0
  owner : Nat := 0
  deriving DecidableEq, Repr

/-- A domain (R345, R346). -/
structure Domain where
  state : Nat := 0
  gen : Nat := 0
  grants : List KeyEnt := []
  deriving DecidableEq, Repr

/-- What a revocation revokes (R359). -/
inductive RevokeWhat where
  | key (index : Nat)
  | domain (d : Nat)
  | grants (d : Nat)
  deriving DecidableEq, Repr

/-- A revocation in progress: the epoch it waits to drain (none while it waits at step 2) and the tag of its command. -/
structure Revocation where
  what : RevokeWhat
  epoch : Option Nat
  tag : Nat
  deriving DecidableEq, Repr

/-- An IP address of a port (ADDR_SET): the address, byte 0 in bits 7:0; its prefix length; whether it is the twin's. -/
structure PortAddr where
  ip : BitVec 128
  plen : Nat
  twin : Bool
  deriving DecidableEq, Repr

/-- One Ethernet port. -/
structure EthPort where
  /-- LINK, 1 bit. Reset column: 0. -/
  link : Bool := false
  /-- PAUSED_RX, 8 bits, with the device time each pause began (R329, R330). Reset column: 0. -/
  pausedRx : SMap Nat := {}
  /-- PAUSED_TX, 8 bits, with the device time XOFF began (R327, R330). Reset column: 0. -/
  pausedTx : SMap Nat := {}
  /-- Priorities whose received pause is ignored (R330). -/
  ignore : List Nat := []
  /-- Priorities that no longer send XOFF (R330). -/
  stopped : List Nat := []
  /-- Frames that wait in egress for a paused priority (R329). -/
  egress : List NetFrame := []
  /-- IP addresses (ADDR_SET). -/
  addrs : List PortAddr := []
  deriving DecidableEq, Repr

/-- The network engine. -/
structure Net where
  /-- Mode in force of E0 to E7, 2 bits each (R322, R323). Reset column: 1. -/
  mode : List Nat := [1, 1, 1, 1, 1, 1, 1, 1]
  /-- MACs whose retraining after a committed change of MODE runs (R323). -/
  retrain : List Nat := []
  /-- Ports by 4 × MAC + p. -/
  ports : SMap EthPort := {}
  /-- Frames in the ingress buffers, in order of arrival: packets the engine has not drained (R69, R327). -/
  ingress : List RdmaPkt := []
  /-- Connections by slot, 20 bits (R335). -/
  conns : SMap Conn := {}
  /-- The context cache: cached slots and their last use (R339). -/
  cached : SMap Nat := {}
  useTick : Nat := 0
  /-- Fetches in flight, at most 256 (R340). -/
  fetching : List Nat := []
  /-- The miss buffer, 256 packets, with their slots (R340, R354). -/
  missbuf : List (Nat × RdmaPkt) := []
  /-- Key table, 262,144 entries (R343). -/
  keys : SMap KeyEnt := {}
  /-- Domain table, 65,536 entries (R345). -/
  domains : SMap Domain := {}
  /-- Service IDs enabled and their domains (LISTEN_SET). -/
  listen : List (Nat × Nat) := []
  /-- NET_REVOKE.EPOCH, 2 bits. Reset column: 0. -/
  epoch : Nat := 0
  /-- The four epoch counters (R358). -/
  counts : List Nat := [0, 0, 0, 0]
  /-- Revocations accepted and not completed (R359). -/
  revs : List Revocation := []
  /-- The serial of the next operation. -/
  nextSerial : Nat := 0
  /-- Connections being handed back to the twin (R365). -/
  handback : List Nat := []
  /-- NET_CTL.PROT in force (R347). Reset column: 0. -/
  prot : Bool := false
  /-- NET_SPILL.MAX_CONN in force (R33). Reset column: 0x10_0000. -/
  maxConn : Nat := 1048576
  /-- Sequence number of the next probe (R111). -/
  probeSeq : Nat := 0
  deriving DecidableEq, Repr

end Sys2Proof.Machine
end

