-- ==== Sys2Proof/Machine/StPath.lean ====
section
/-!
DEFINITION. Machine/StPath.lean: the state of the request path: served range, regions, shares and fences, tracker, pair,
twin link.
-/
namespace Sys2Proof.Machine

/-! ## Served range and regions (02_address_space.md) -/

/-- A region (R35): the fields of its descriptor. `base` and `len` are in extents, `dpaBase` in units of 2 MiB. -/
structure Region where
  id : Nat
  tenant : Nat
  base : Nat
  len : Nat
  bounded : Bool
  lag : Nat
  affinity : Nat
  drop : Bool
  shareable : Bool
  vzone : Nat
  tier : Nat
  keySlot : Nat
  ownerLd : Nat
  ldWrite : Bool
  noLd : Bool
  dpaBase : Nat
  deriving DecidableEq, Repr

/-- A share (R48): the region's local index, its first extent and extent count within the region, the target LD and the
DPA of its window there in units of 2 MiB. -/
structure Share where
  region : Nat
  first : Nat
  count : Nat
  ld : Nat
  dpaBase : Nat
  deriving DecidableEq, Repr

/-- A fence (R42): REGION_ZERO or REGION_DELETE of a region, from its acceptance to its completion, under its command's tag. -/
structure Fence where
  region : Nat
  delete : Bool
  tag : Nat
  /-- Place in the order of arrival at its acceptance: entries granted before it complete (R42). -/
  arr : Nat
  /-- The region has been discarded here; the fence stands until the command completes. -/
  localDone : Bool
  deriving DecidableEq, Repr

/-- The memory population and what RESTORE computes from it (R31, R32, R222, R284). -/
structure Population where
  /-- Capacity of DDR5 in bytes, from the SPDs (R31, R222). -/
  ddr : Nat := 0
  /-- Capacity of HBM in bytes (R31). -/
  hbm : Nat := 0
  /-- Channels populated with x8 devices (R222). -/
  x8 : Bool := false
  /-- DDR5 channels populated, 0 to 16 (R31, R222). -/
  channels : Nat := 0
  /-- DIMMs per populated channel, 1 or 2: DCnn_CFG.DPC (R222). -/
  dpc : Nat := 0
  /-- Rows, ranks and channel bits of the population, as TM_XMAP_GEOM codes them: ROW_BITS, RANK_BITS, CH_BITS. -/
  rowBits : Nat := 0
  rankBits : Nat := 0
  chBits : Nat := 0
  /-- NAND per channel: LUNs and chip enables as NFnn_CFG codes them; CES 0 a channel without NAND (R284). -/
  nandCes : Nat := 0
  nandLuns : Nat := 0
  deriving DecidableEq, Repr

/-- The served range (R31, R32). -/
structure Served where
  pop : Population := {}
  /-- L in extents (R32). -/
  len : Nat := 0
  /-- The reserves in bytes in the order of R31's table, move headroom last. -/
  reserves : List Nat := []
  deriving DecidableEq, Repr

/-- The region table and the valid map. -/
structure AddrMap where
  served : Served := {}
  /-- Regions by local index, 16 bits (R35). -/
  regions : SMap Region := {}
  /-- Shares, at most 4,096 (R48), by a number of the model's. -/
  shares : SMap Share := {}
  /-- Fences in progress (R42). -/
  fences : List Fence := []
  /-- The valid map: leaves whose bit is 1 (R55). -/
  valid : SMap Unit := {}
  /-- Leaf fills in progress: the mask of lines written by requests since the first write (R56). -/
  fills : SMap (BitVec 64) := {}
  deriving DecidableEq, Repr

/-! ## The tracker (03_request_path.md) -/

/-- Tracker entry states (03_request_path.md, codes 0x1 to 0xA; FREE is absence from the table). -/
inductive TState where
  | decode | lineWait | lookup | residentWait | home | merge | order | mirror | held | respond
  deriving DecidableEq, Repr

/-- The state code. -/
def TState.code : TState → Nat
  | .decode => 1 | .lineWait => 2 | .lookup => 3 | .residentWait => 4 | .home => 5 | .merge => 6
  | .order => 7 | .mirror => 8 | .held => 9 | .respond => 10

/-- What an entry does to its line. -/
inductive TOp where
  | read
  | write (data : BitVec 512) (mask : BitVec 64) (poison : Bool)
  | cmpSwap (word : Nat) (compare swap : BitVec 64)
  | fetchAdd (word : Nat) (addend : BitVec 64)
  /-- A MemInv: it waits for the line's earlier writes from its link and does nothing (R372). -/
  | inv
  deriving DecidableEq, Repr

/-- Whether the operation writes. -/
def TOp.writes : TOp → Bool
  | .read => false
  | .inv => false
  | _ => true

/-- Whom an entry answers. -/
inductive Dst where
  /-- A CXL.mem requester: port 0 A or 1 B, link 0 or 1, LD, the message's tag; `spec` a MemSpecRd, which gets no
  answer. -/
  | cxl (port link ld tag : Nat) (spec : Bool)
  /-- A line of an RDMA operation: the connection's slot, the operation's serial number, the number of the line in it. -/
  | rdma (conn serial idx : Nat)
  /-- A line the twin asked for by RA_REQ: the message's TAG, its number in the message. -/
  | assist (tag idx : Nat)
  /-- A write or atomic the twin forwarded: the message's TAG, its number in the message. -/
  | fwd (tag idx : Nat)
  /-- An internal operation: scrub 0, checker test 1, merge read-modify-write 2, vault 3, diagnostics 4; 16 + class for a line of a ZERO
  operation (R212). -/
  | internal (kind : Nat)
  /-- The write of a mailbox command with this tag, which completes with it. -/
  | command (tag : Nat)
  deriving DecidableEq, Repr

/-- A tracker entry (R63). -/
structure Entry where
  src : Nat
  line : Nat
  op : TOp
  dst : Dst
  state : TState
  /-- The DPA window is read-only or absent (R46): the write has no effect, the read is poison. -/
  bad : Bool
  /-- Device time of the grant, for TRACKER_SNAPSHOT. -/
  since : Nat
  /-- Place in the order of arrival at the slices (R70). -/
  arr : Nat
  /-- The order number given to its write (R71). -/
  ord : Option (BitVec 32)
  /-- The write has been applied here (R81). -/
  applied : Bool
  /-- The read or the atomic has its data: the line, and whether it is poison. -/
  result : Option (BitVec 512 × Bool)
  /-- TAG of the twin message whose answer it waits for. -/
  tag : Option Nat
  /-- Its completion has been sent (or it has none to send). -/
  sent : Bool
  /-- Work is owed to the twin for it (R63). -/
  owed : Bool
  /-- It was ordered under BOUNDED (R39). -/
  bounded : Bool := false
  deriving DecidableEq, Repr

/-- A request that no entry could be granted to (R64, R69). -/
structure Waiting where
  src : Nat
  line : Nat
  op : TOp
  dst : Dst
  bad : Bool
  deriving DecidableEq, Repr

/-- The tracker. -/
structure Tracker where
  /-- Entries in use, by number below 65,536 (R63). -/
  entries : SMap Entry := {}
  /-- Requests held back, in order of arrival (R69). -/
  waiting : List Waiting := []
  /-- The next place in the order of arrival. -/
  nextArr : Nat := 0
  /-- The source that took the last shared entry (R65). -/
  rr : Nat := 0
  /-- Per-line order numbers, 32 bits: the last given or applied (R71, R72, R99). -/
  ords : SMap (BitVec 32) := {}
  deriving DecidableEq, Repr

/-! ## The twin link (05_twin_link.md) -/

/-- RKIND and data of a line record (R141). -/
inductive LineBody where
  | full (data : BitVec 512)
  | part (mask : BitVec 64) (data : BitVec 512)
  | nodata
  /-- NODATA of an ORDER_ACK for an atomic: the original value. -/
  | orig (v : BitVec 64)
  | poison
  | cmpSwap (word : Nat) (compare swap : BitVec 64)
  | fetchAdd (word : Nat) (addend : BitVec 64)
  | zero
  deriving DecidableEq, Repr

/-- A line record (R141). -/
structure LineRec where
  line : Nat
  ord : BitVec 32
  epoch : Nat
  body : LineBody
  deriving DecidableEq, Repr

/-- A checkpoint record (R142): the READ entries are (PSN, length, VA), the ATOMIC entries (PSN, original value). -/
structure Ckpt where
  qpn : Nat
  epsn : Nat
  msn : Nat
  reads : List (Nat × Nat × Nat)
  atomics : List (Nat × BitVec 64)
  deriving DecidableEq, Repr

/-- What the home-map entry keeps of an extent for the pair (R121): epoch (16 bits), RD, ST. -/
structure ExtPair where
  epoch : Nat := 0
  rd : Bool := false
  st : Bool := false
  deriving DecidableEq, Repr

/-- What a CONTROL message carries (R36, R118, R362, R423, R449). The spec gives its records no byte layout, so the model keeps
the content as data. -/
inductive CtlMsg where
  /-- PAIR_PROTO of the sender's running firmware (R449). -/
  | proto (version : Nat)
  /-- A P command the bow accepted, to be run by the stroke (R423): tag, opcode, the LD of an unprivileged mailbox, input. -/
  | request (tag opcode : Nat) (ld : Option Nat) (input : List (BitVec 32))
  /-- A P command the stroke has run, to be applied here (R36, R362): tag, opcode, LD, input, the output it gave, and the key pair of a
  KEYSLOT command. -/
  | run (tag opcode : Nat) (ld : Option Nat) (input out : List (BitVec 32)) (key : Option (BitVec 512))
  /-- The command with this tag has been applied (R36). -/
  | ran (tag : Nat)
  /-- The stroke's answer to a request: return code, extended status, output (R423). -/
  | answer (tag rc ext : Nat) (output : List (BitVec 32))
  /-- PAIR_FORM step 3 (R118): the sender is the donor, PAIR_ID, CTRL_ID, serial number, L in extents, the end of its highest
  region in extents. -/
  | identity (donor : Bool) (pairId ctrlId : Nat) (serial : BitVec 128) (len high : Nat)
  /-- PAIR_FORM steps 4 and 5 (R118): the donor's region table, share table, keys (slot, pair, tag), pair-epoch table, valid
  leaves. -/
  | tables (regions : List (Nat × Region)) (shares : List (Nat × Share)) (keys : List (Nat × BitVec 512 × BitVec 32))
      (epochs : List (Nat × ExtPair)) (base : ExtPair) (valid : List Nat)
  /-- PAIR_FORM step 6: the sender is ready to leave HOLD (R118, R119). -/
  | formed
  /-- Connections handed back, by slot (R365), and that they have been taken. -/
  | handback (conns : List (Nat × Conn))
  | handedBack
  /-- Connection setup (R335, R336, R362): the sender proposes this slot for its connection; the answers yes and no. -/
  | connSetup (slot : Nat) (c : Conn)
  | connOk (slot : Nat)
  | connNo (slot : Nat)
  /-- Connection teardown (R337, R362): the connection with this QPN ends, and that this has been applied. -/
  | connEnd (qpn : Nat)
  | connEnded (qpn : Nat)
  /-- The sender enters RESTORE and asks for the network tables; the tables (R367): keys, domains, service IDs, addresses by port. -/
  | askTables
  | netTables (keys : List (Nat × KeyEnt)) (domains : List (Nat × Domain)) (listen : List (Nat × Nat)) (addrs : List (Nat × List PortAddr))
  deriving DecidableEq, Repr

/-- What a RESYNC_CTL message carries (R123, R124, R127). -/
inductive ResyncMsg where
  /-- The sender's epoch table: extents that differ from the base entry, the base entry, and its valid leaves (R123, R124); the lines it
  has poisoned under R105 with their intended order numbers (R107). -/
  | epochs (ext : List (Nat × ExtPair)) (base : ExtPair) (valid : List Nat) (poisoned : List (Nat × BitVec 32))
  /-- Copies of those lines that carry the intended order number (R107). -/
  | copies (recs : List LineRec)
  /-- The extents whose resync has ended (R127). -/
  | ended (extents : List Nat)
  /-- The extents asked for (R140). -/
  | ask (extents : List Nat)
  deriving DecidableEq, Repr

/-- A record of a message, or what stands in its place. -/
inductive TwRec where
  | line (r : LineRec)
  | ckpt (c : Ckpt)
  | tag (t : Nat)
  /-- HANDOVER: record byte 0 and the extent index. -/
  | handover (kind extent : Nat)
  /-- DEPART: record byte 0. -/
  | depart (kind : Nat)
  /-- RESYNC_CTL and CONTROL as received: the spec gives their records no layout; the bytes stand as they are. -/
  | raw (bytes : List (BitVec 8))
  /-- RESYNC_CTL and CONTROL as sent. -/
  | control (c : CtlMsg)
  | resync (c : ResyncMsg)
  deriving DecidableEq, Repr

/-- A message (R139, R140). -/
structure TwMsg where
  typ : Nat
  tag : Nat
  recs : List TwRec
  deriving DecidableEq, Repr

/-- A message being put together in staging (R146): its frames by OFFSET, the frame count once LAST has come, and the
message once all frames are placed. -/
structure RxMsg where
  frames : SMap (List (BitVec 8)) := {}
  count : Option Nat := none
  msg : Option TwMsg := none
  deriving DecidableEq, Repr

/-- A DATA frame a path keeps until it is acknowledged (R135). -/
structure TxFrame where
  pseq : Nat
  msn : Nat
  off : Nat
  last : Bool
  deriving DecidableEq, Repr

/-- TWL_PATHnn_STATUS.STATE. -/
inductive PathState where
  | down | training | up | retiring | dead
  deriving DecidableEq, Repr

/-- The STATE code. -/
def PathState.code : PathState → Nat
  | .down => 0 | .training => 1 | .up => 2 | .retiring => 3 | .dead => 4

/-- One path of the link. -/
structure TwPath where
  /-- STATE, 3 bits. Reset column: DOWN. -/
  state : PathState := .down
  /-- LANES_OUT, 8 bits (R154, R157). Reset column: 0. -/
  lanesOut : BitVec 8 := 0
  /-- MISSED, 5 bits (R150). Reset column: 0. -/
  missed : Nat := 0
  /-- RTT_NS, 16 bits. Reset column: 0. -/
  rtt : Nat := 0
  /-- PSEQ of the next DATA frame to send, 12 bits (R135). -/
  txPseq : Nat := 0
  /-- PSEQ expected, 12 bits (R136). -/
  rxPseq : Nat := 0
  /-- DATA frames sent and not acknowledged, oldest first: the replay buffer, 1,024 frames (R135). -/
  replay : List TxFrame := []
  /-- A NAK has been sent and the expected PSEQ has not arrived (R136). -/
  nakSent : Bool := false
  /-- The PSEQ a resend under way started from (R137). -/
  resending : Option Nat := none
  /-- The replay timer has expired once since the last ACKSEQ progress (R138). -/
  expired : Bool := false
  /-- The path carries no DATA frame until a PATH_UP exchange completes (R138). -/
  blocked : Bool := false
  /-- A PATH_UP request of ours awaits its acknowledge (R152). -/
  upSent : Bool := false
  /-- Our PATH_UP request has been acknowledged by the twin (R152). -/
  upAcked : Bool := false
  /-- The twin's PATH_UP request has been acknowledged by us (R152). -/
  upRecv : Bool := false
  /-- Lanes that the retirement or the return under way will leave running, 8 bits (R155, R157). -/
  target : Option (BitVec 8) := none
  /-- The LANE_RETIRE acknowledge has come, or its 4 µs have passed (R155). -/
  retireAcked : Bool := false
  /-- The path waits for the other path's retirement to end (R156): lanes to remain. -/
  retireWait : Option (BitVec 8) := none
  /-- An identity mismatch has been logged since the last good one (R151). -/
  mismatch : Bool := false
  deriving DecidableEq, Repr

/-- The twin link. -/
structure TwLink where
  pathA : TwPath := {}
  pathB : TwPath := {}
  /-- Send credits in staging slots: TWL_STATUS.CREDIT, 14 bits (R143). Reset column: 0. -/
  credit : Nat := 0
  /-- Slots freed here and not yet returned to the twin (R143). -/
  owedCredit : Nat := 0
  /-- MSN of the next message to send, 20 bits (R144). -/
  txMsn : Nat := 0
  /-- MSN of the next message to apply, 20 bits (R147). -/
  rxMsn : Nat := 0
  /-- The staging, 8,192 frame slots: messages by MSN (R143, R146). -/
  staging : SMap RxMsg := {}
  /-- Messages that wait for credit, in the order handed to the link (R143). -/
  sendq : List TwMsg := []
  /-- Messages sent of which a frame is still unacknowledged, by MSN (R135). -/
  sent : SMap TwMsg := {}
  /-- TAG of the next message that asks for an answer (R139). -/
  nextTag : Nat := 0
  /-- Both paths have been dead or DOWN since the last PATH_UP exchange (R152). -/
  cut : Bool := true
  deriving DecidableEq, Repr

/-! ## The pair (04_durability.md) -/

/-- A pair record (R120). -/
structure PairRec where
  pairId : Nat
  strokeId : Nat
  bowId : Nat
  strokeSerial : BitVec 128
  bowSerial : BitVec 128
  deriving DecidableEq, Repr

/-- A BOUNDED write whose intent has gone and whose data has not (R101). -/
structure OwedData where
  region : Nat
  record : LineRec
  /-- Device time at which its intent was handed over, from which the lag bound counts. -/
  since : Nat
  deriving DecidableEq, Repr

/-- PAIR_FORM in progress (R118, R119). -/
structure Forming where
  donor : Bool
  twinId : Nat
  probeAddr : BitVec 128
  reply : Mbx
  tag : Nat
  /-- The step reached, 1 to 6. -/
  at_ : Nat
  /-- What the donor sent: regions, shares, epochs (R118 steps 4 and 5). -/
  regions : List (Nat × Region)
  shares : List (Nat × Share)
  keys : List (Nat × BitVec 512 × BitVec 32)
  epochs : List (Nat × ExtPair)
  base : ExtPair
  valid : List Nat
  serial : BitVec 128
  twinLen : Nat
  deriving DecidableEq, Repr

/-- The pair as this controller sees it. -/
structure Pair where
  /-- TWIN_STATE, 3 bits (R153). Reset column: 0b111. -/
  twinState : Nat := 7
  /-- TAKEOVER, 1 bit (R112). Reset column: 0. -/
  takeover : Bool := false
  /-- PARTITION, 1 bit (R111). Reset column: 0. -/
  partition : Bool := false
  /-- PROBING, 1 bit (R111). Reset column: 0. -/
  probing : Bool := false
  /-- The twin was lost (R110) and no PATH_UP exchange has followed. -/
  lost : Bool := false
  /-- The twin departed (R115) and no PATH_UP exchange has followed. -/
  departed : Bool := false
  /-- The departing message has been handed to the link (R114). -/
  departSent : Bool := false
  /-- The departing-ack has arrived (R114). -/
  departAcked : Bool := false
  /-- A departing message of the twin waits in HOLD or PRESERVE's record (R116). -/
  twinLeft : Bool := false
  /-- The tag of the twin's pair record from its last PATH_UP (R120). -/
  twinTag : Option Nat := none
  /-- Non-volatile (vault TABLE record, R120): the pair record. -/
  record : Option PairRec := none
  /-- The twin's probe address, from PAIR_FORM (R118). -/
  probeAddr : BitVec 128 := 0
  /-- Epoch, RD and ST of the extents that differ from `base` (R121). -/
  ext : SMap ExtPair := {}
  /-- Epoch, RD and ST of every other extent (R121, R245). -/
  base : ExtPair := {}
  /-- Extents whose epoch has been raised in the present period without the twin (R122). -/
  raised : SMap Unit := {}
  /-- Extents being resynced: whether this side holds the winning copy (R123, R126). -/
  resync : SMap Bool := {}
  /-- SYS_MODE.RESYNC, 1 bit (R126). -/
  resyncing : Bool := false
  /-- The winning epoch of each extent being resynced (R123, R128). -/
  resyncEpoch : SMap Nat := {}
  /-- Extents whose resync has ended, lines copied, and the device time at which the present resync began (RESYNC_STATUS). -/
  resyncDone : Nat := 0
  resyncLines : Nat := 0
  resyncStart : Nat := 0
  /-- Lines of an extent still to be copied by us, by extent: the next line index (R126). -/
  resyncAt : SMap Nat := {}
  /-- Extents in handover from this side: the step reached, 1 to 4 (R98). -/
  handover : SMap Nat := {}
  /-- Extents whose owner of R97 has changed and whose handover has not ended: whether this side still owns them (R40, R98,
  R127). -/
  owned : SMap Bool := {}
  /-- REGION_SET_ATTR commands that wait for handovers, intents or moves: tag, region's local index (R39, R40, R176). -/
  attrWait : List (Nat × Nat) := []
  /-- Intents held without data, in the order received: line and order number (R103, R104). -/
  intents : List (Nat × BitVec 32) := []
  /-- Intent credits held as owner, 0 to 131,072 (R103). -/
  intentCredit : Nat := 0
  /-- BOUNDED data not yet handed to the link, oldest first (R101). -/
  owed : List OwedData := []
  /-- INTENT_DATA messages sent and not yet acknowledged: TAG, and for each line record the place in the order of arrival of its write
  (R103, R381). -/
  dataSent : List (Nat × List Nat) := []
  /-- Extents whose handover marker has come in HOLD and waits for its end (R117). -/
  markers : List Nat := []
  /-- Lines poisoned under R105: the intended order number, until a write completes (R107). -/
  poisoned : SMap (BitVec 32) := {}
  /-- Read-assists asked of the twin: TAG and the entries that wait, in record order (R126, R242). -/
  assists : List (Nat × List Nat) := []
  /-- Leaves whose restore has been asked of the twin: TAG and leaf (R124). -/
  restores : List (Nat × Nat) := []
  /-- Merged refetches asked of the twin: TAG and line (R189). -/
  refetches : List (Nat × Nat) := []
  /-- Own writes and mirrors that wait under R72 for a lower-numbered write of their line. -/
  early : List LineRec := []
  /-- PAIR_FORM in progress (R118). -/
  forming : Option Forming := none
  /-- What the twin's PAIR_FORM has told of it (R118, step 3): donor, PAIR_ID, CTRL_ID, serial number, L, end of its highest region. -/
  twinIdent : Option (Bool × Nat × Nat × BitVec 128 × Nat × Nat) := none
  /-- Device time at which the twin was lost, for the probe of R111. -/
  lostAt : Nat := 0
  deriving DecidableEq, Repr

end Sys2Proof.Machine
end

