-- ==== Sys2Proof/Machine/Operand.lean ====
section
/-!
DEFINITION. Machine/Operand.lean: the records that commands take as operands.
-/
namespace Sys2Proof.Machine

/-- A CXL.mem message (R372): port (0 A, 1 B), link, LD-ID, host physical address, tag. -/
structure CxlMsg where
  port : Nat
  link : Nat
  ldid : Nat
  hpa : Nat
  tag : Nat
  deriving DecidableEq, Repr

/-- What host software programs into an HDM decoder before it commits it (R376): bytes; interleave ways and granularity; the
LD's target position; Lock On Commit. -/
structure HdmProg where
  base : Nat
  size : Nat
  skip : Nat
  iw : Nat
  ig : Nat
  pos : Nat
  lock : Bool
  deriving DecidableEq, Repr

/-- What resets a link (R392): PERST_N, a hot reset, a secondary bus reset, or the LD-ID Hot Reset Vector with its LDs. -/
inductive ResetCause where
  | perst
  | hot
  | secondaryBus
  | ldVector (lds : BitVec 16)
  deriving DecidableEq, Repr

/-- Why a received Ethernet frame is discarded (R324 to R326). -/
inductive RxDrop where
  /-- A bad FCS, ICRC, or a frame for no one here. -/
  | badFcs | badIcrc | other
  deriving DecidableEq, Repr

/-- A CM REQ as the responder reads it (R336). -/
structure CmReq where
  serviceId : Nat
  reqQpn : Nat
  pkey : Nat
  startPsn : Nat
  mtu : Nat
  respRes : Nat
  initDepth : Nat
  rc : Bool
  deriving DecidableEq, Repr

/-- The header fields of a frame of the twin link (R134). -/
structure TwHeader where
  pseq : Nat
  ackseq : Nat
  nak : Bool
  crd : Nat
  msn : Nat
  off : Nat
  last : Bool
  deriving DecidableEq, Repr

/-- A BEAT (05_twin_link.md, Heartbeat): mode code, RESYNC, CTRL_ID, PAIR_ID, device time, lanes, window fill, free slots. -/
structure TwBeat where
  state : Nat
  resync : Bool
  ctrlId : Nat
  pairId : Nat
  time : Nat
  lanes : BitVec 8
  fill : Nat
  free : Nat
  deriving DecidableEq, Repr

/-- A PATH_UP: CTRL_ID, PAIR_ID, lanes, request or acknowledge, pair-record tag. -/
structure TwPathUp where
  ctrlId : Nat
  pairId : Nat
  lanes : BitVec 8
  ack : Bool
  tag : Nat
  deriving DecidableEq, Repr

/-- What a bring-up reads of the memory and vault population (R31, R222, R268, R284): the population, the serial numbers of the
DIMMs by channel, pages per block, blocks per LUN and raw main capacity of the NAND, whether the population keeps R222 and R283. -/
structure BootPop where
  pop : Population
  serials : List (Nat × List Nat)
  pages : Nat
  blocks : Nat
  raw : Nat
  good : Bool
  deriving DecidableEq, Repr

/-- What reading a record's page finds (R287, R289, R314): bit errors in the two codewords of its quarter, and in the same codewords of the page
rebuilt by XOR. -/
structure PageRead where
  e0 : Nat
  e1 : Nat
  r0 : Nat
  r1 : Nat
  deriving DecidableEq, Repr

/-- A JTAG instruction (R554) and, for SAMPLE/PRELOAD, the boundary bits sampled. -/
inductive JtagInstr where
  | bypass | idcode
  | sample (bits : BitVec 64)
  | extest
  | scan
  | other
  deriving DecidableEq, Repr

end Sys2Proof.Machine
end

