-- ==== Sys2Proof/Syntax.lean ====
section
/-!
DEFINITION. Syntax.lean: the commands of the block, one constructor per row of the opcode table (spec/opcode_table.json), with the
operands each takes. A command of a mailbox carries its mailbox and its input; a command's docstring is its row's summary.
-/
namespace Sys2Proof
open Sys2Proof.Machine

/-- A command (the rows of spec/opcode_table.json). -/
inductive Instr where
  /-- SYS_MODE_REQ_WRITE (R21). A write to SYS_MODE_REQ requests a mode change; the request is accepted or rejected and RESULT is set. -/
  | sysModeReqWrite (who target purpose : Nat) (delayed : Bool)
  /-- RSC_WRITE_LANDS (R10). A pending write to an RSC field crosses to the always-on domain within 2 AON ticks, and WRITE_PENDING clears. -/
  | rscWriteLands (addr : Nat)
  /-- MODE_REQUEST (R431). The Tilma command MODE_REQUEST requests a mode change and completes once SYS_MODE_REQ.RESULT is set. -/
  | modeRequest (m : Mbx) (inp : List Word)
  /-- MODE_STATUS (R431). MODE_STATUS returns SYS_MODE and SYS_HOLD. -/
  | modeStatus (m : Mbx) (inp : List Word)
  /-- AON_TICK (R20). The 1 MHz AON tick refreshes SYS_MODE and the core copies of always-on registers. -/
  | aonTick (ns : Nat) (pins : Pins)
  /-- HOLD_DWELL_EXPIRED (R29). The dwell in HOLD exceeds SYS_HOLD.LIMIT; the controller leaves HOLD and releases held CXL requests. -/
  | holdDwellExpired
  /-- HOLD_PURPOSE_FINISHED (R22). The activity of the HOLD purpose finishes, and the controller leaves HOLD for SERVE or SOLO. -/
  | holdPurposeFinished
  /-- PRESERVE_COMPLETE (R22). The preserve-complete record is written; the controller returns to the mode it left or powers down to STANDBY. -/
  | preserveComplete (joules : Nat)
  /-- TIM_CAPTURE_GO (R19). A write of 1 to TIM_CAP_CTL.GO starts a capture of device time and the AON tick count, and clears VALID. -/
  | timCaptureGo (go : Bool)
  /-- TIM_CAPTURE_LANDS (R19). Both captured values land in the capture registers, and TIM_CAP_CTL.VALID sets. -/
  | timCaptureLands
  /-- HANDSHAKE_STALL (R400). A handshake left unacknowledged for 10 µs is reported, and the channel is fenced, tested, reset and its operations reissued. -/
  | handshakeStall (channel unit : Nat)
  /-- PWR_VCORE_TARGET_WRITE (R15). A write to PWR_VCORE.TARGET is clamped to 0.65–0.85 V and sets the core supply target. -/
  | pwrVcoreTargetWrite (who target : Nat) (delayed : Bool)
  /-- REGION_CREATE (R35). REGION_CREATE creates a region from its descriptor, or rejects it. -/
  | regionCreate (m : Mbx) (inp : List Word)
  /-- REGION_DELETE (R44). REGION_DELETE fences the region, zeroes it, revokes its keys, and removes its window and range. -/
  | regionDelete (m : Mbx) (inp : List Word)
  /-- REGION_SET_ATTR (R428). REGION_SET_ATTR changes the permitted attributes of a live region. -/
  | regionSetAttr (m : Mbx) (inp : List Word)
  /-- REGION_ZERO (R43). REGION_ZERO fences the region, discards it from the line cache, clears its valid bits and frees its leaf-map entries on both twins. -/
  | regionZero (m : Mbx) (inp : List Word)
  /-- REGION_FENCE_END (R42). The discard walk of a REGION_ZERO or REGION_DELETE finishes; the fence ends and the waiting requests proceed. -/
  | regionFenceEnd (region : Nat)
  /-- REGION_LIST (R437). REGION_LIST returns region descriptors from a given local index. -/
  | regionList (m : Mbx) (inp : List Word)
  /-- IDENTIFY_REGIONS (R437). IDENTIFY_REGIONS returns capacities, reserves, L and the region allocation. -/
  | identifyRegions (m : Mbx) (inp : List Word)
  /-- SHARE_CREATE (R48). SHARE_CREATE maps extents of a shareable region, read-only, into another LD. -/
  | shareCreate (m : Mbx) (inp : List Word)
  /-- SHARE_DELETE (R430). SHARE_DELETE removes a share by its SHARE_ID. -/
  | shareDelete (m : Mbx) (inp : List Word)
  /-- SYS_POOL_WRITE (R54). A guarded write to SYS_POOL sets the pool identity only in HOLD or RESTORE with the unlock open. -/
  | sysPoolWrite (who : Nat) (value : Word)
  /-- LEAF_FILL_DONE (R56). All 64 lines of a filling leaf are written; its valid bit sets and the leaf joins the dirty window. -/
  | leafFillDone (leaf : Nat)
  /-- MEM_RD (R372). A CXL.mem MemRd or MemRdData reads one line and is answered with DRS MemData. -/
  | memRd (p : CxlMsg)
  /-- MEM_WR (R372). A CXL.mem MemWr writes a full line and completes with NDR Cmp under R81. -/
  | memWr (p : CxlMsg) (data : Line) (poison : Bool)
  /-- MEM_WR_PTL (R75). A CXL.mem MemWrPtl writes part of a line under its byte mask, through the cache or a merge-buffer entry. -/
  | memWrPtl (p : CxlMsg) (data : Line) (mask : Mask) (poison : Bool)
  /-- MEM_SPEC_RD (R372). A MemSpecRd starts the home-map and valid-map lookup of its line, with no data and no response. -/
  | memSpecRd (p : CxlMsg)
  /-- MEM_INV (R372). A MemInv or MemInvNT completes with NDR Cmp once the line's earlier writes from the link have completed. -/
  | memInv (p : CxlMsg)
  /-- M2S_BAD_OPCODE (R372). An M2S message with an unsupported opcode is discarded and counted, with no response. -/
  | m2sBadOpcode (port link opcode : Nat)
  /-- HDM_DECODER_COMMIT (R376). Host software commits an HDM decoder, which sets Committed or Error Not Committed. -/
  | hdmDecoderCommit (fn idx : Nat) (d : HdmProg)
  /-- GPF_PHASE2_REQUEST (R381). A GPF Phase 2 request starts the wait for the writes that the link accepted before it. -/
  | gpfPhase2Request (port link : Nat)
  /-- GPF_PHASE2_RESPONSE (R381). The covered writes have completed and, for BOUNDED regions, been applied on the non-owner; the GPF response is sent. -/
  | gpfPhase2Response (port link : Nat)
  /-- PERST_N_ASSERT (R392). PERST_N, a hot reset or a secondary bus reset takes the link down and resets the CXL.io state of its functions. -/
  | perstNAssert (port link : Nat) (cause : ResetCause)
  /-- FUNCTION_LEVEL_RESET (R393). An FLR resets the CXL.io state of one function, its HDM decoders excepted. -/
  | functionLevelReset (fn : Nat)
  /-- CXL_LANE_FAILURE (R388). Lanes of a CXL link fail, and the link retrains through Recovery at a narrower width. -/
  | cxlLaneFailure (port link : Nat) (good : BitVec 16)
  /-- CXL_LINK_L0 (R389). A retraining link returns to L0 and the retry buffer replays unacknowledged flits. -/
  | cxlLinkL0 (port link : Nat)
  /-- CXL_LINK_RECOVERY_TIMEOUT (R390). A link that has not returned to L0 within 1 ms is a port fault; its accepted operations complete internally. -/
  | cxlLinkRecoveryTimeout (port link : Nat)
  /-- RETRAIN_FULL (R391). A write to CXA_CTL.RETRAIN_FULL starts the return of a degraded link to its configured width. -/
  | retrainFull (port link : Nat) (pass : Bool)
  /-- IDE_INTEGRITY_FAIL (R387). An IDE integrity check fails; the stream becomes INSECURE and the link consumes nothing more. -/
  | ideIntegrityFail (port link : Nat)
  /-- IDE_KM (R386). An IDE_KM exchange over secured SPDM programs a link's IDE stream keys. -/
  | ideKm (port link : Nat)
  /-- SET_LD_ALLOCATIONS (R379). The FM API command Set LD Allocations sets LD DPA spans. -/
  | setLdAllocations (m : Mbx) (spans : List (Nat × Nat))
  /-- GET_LD_INFO (R379). The FM API command Get LD Info returns the port's LD information. -/
  | getLdInfo (m : Mbx)
  /-- GET_LD_ALLOCATIONS (R379). The FM API command Get LD Allocations returns the LD spans. -/
  | getLdAllocations (m : Mbx) (start limit : Nat)
  /-- CXA_LD_SPAN_WRITE (R379). A write to CXA_LDnn_SPAN sets an LD's span, or is refused and counted. -/
  | cxaLdSpanWrite (port ld span : Nat)
  /-- GET_EVENT_RECORDS (R426). Get Event Records returns records from a function's event logs. -/
  | getEventRecords (m : Mbx) (log : Nat)
  /-- CLEAR_EVENT_RECORDS (R426). Clear Event Records clears records from a function's event logs. -/
  | clearEventRecords (m : Mbx) (log count : Nat)
  /-- GET_EVENT_INTERRUPT_POLICY (R426). Get Event Interrupt Policy returns the MSI-X assignment of each log. -/
  | getEventInterruptPolicy (m : Mbx)
  /-- SET_EVENT_INTERRUPT_POLICY (R426). Set Event Interrupt Policy assigns MSI-X vectors to the logs. -/
  | setEventInterruptPolicy (m : Mbx) (vectors : List (Option Nat))
  /-- GET_FW_INFO (R426). Get FW Info reports the firmware slots and their versions. -/
  | getFwInfo (m : Mbx)
  /-- TRANSFER_FW (R446). Transfer FW writes an image into the inactive slot, and checks it at End. -/
  | transferFw (m : Mbx) (action slot offset : Nat) (data : List (BitVec 256))
  /-- ACTIVATE_FW (R447). Activate FW sets the preferred slot, or activates the image online through HOLD. -/
  | activateFw (m : Mbx) (action slot : Nat)
  /-- FW_READY (R447). The new firmware posts ready; CRY_BOOT switches and the controller leaves HOLD. -/
  | fwReady
  /-- ACTIVATION_TIMEOUT (R448). Ready is not reached within 30 ms of restart; the controller reverts to the old image. -/
  | activationTimeout
  /-- GET_TIMESTAMP (R426). Get Timestamp returns device time plus the timestamp offset. -/
  | getTimestamp (m : Mbx)
  /-- SET_TIMESTAMP (R426). Set Timestamp changes the offset added to device time. -/
  | setTimestamp (m : Mbx) (ns : Nat)
  /-- GET_SUPPORTED_LOGS (R426). Get Supported Logs lists the CEL. -/
  | getSupportedLogs (m : Mbx)
  /-- GET_LOG (R426). Get Log returns the Command Effects Log. -/
  | getLog (m : Mbx) (offset length : Nat)
  /-- IDENTIFY_MEMORY_DEVICE (R426). Identify Memory Device reports the capacities and the poison list limit. -/
  | identifyMemoryDevice (m : Mbx)
  /-- GET_PARTITION_INFO (R426). Get Partition Info reports all capacity as active persistent capacity. -/
  | getPartitionInfo (m : Mbx)
  /-- GET_HEALTH_INFO (R426). Get Health Info reports maintenance, life used, temperature and error counts. -/
  | getHealthInfo (m : Mbx)
  /-- GET_ALERT_CONFIGURATION (R426). Get Alert Configuration returns the alert thresholds. -/
  | getAlertConfiguration (m : Mbx)
  /-- SET_ALERT_CONFIGURATION (R426). Set Alert Configuration sets the life-used and temperature thresholds. -/
  | setAlertConfiguration (m : Mbx) (life temp : Nat)
  /-- GET_SHUTDOWN_STATE (R426). Get Shutdown State reports dirty when the last vault image was not complete. -/
  | getShutdownState (m : Mbx)
  /-- SET_SHUTDOWN_STATE (R426). Set Shutdown State is accepted and has no effect. -/
  | setShutdownState (m : Mbx) (dirty : Bool)
  /-- GET_POISON_LIST (R426). Get Poison List returns the DPAs in the function's windows that have held poison. -/
  | getPoisonList (m : Mbx) (dpa length : Nat)
  /-- INJECT_POISON (R426). Inject Poison writes a poisoned line as a poisoned MemWr does. -/
  | injectPoison (m : Mbx) (dpa : Nat)
  /-- CLEAR_POISON (R426). Clear Poison writes a full line and completes under R81. -/
  | clearPoison (m : Mbx) (dpa : Nat) (data : Line)
  /-- SCAN_MEDIA_CAPABILITIES (R426). Scan Media Capabilities reports the scan capabilities. -/
  | scanMediaCapabilities (m : Mbx)
  /-- SCAN_MEDIA (R426). Scan Media reads and decodes every written line of a DPA range in the background. -/
  | scanMedia (m : Mbx) (dpa length : Nat)
  /-- GET_SCAN_MEDIA_RESULTS (R426). Get Scan Media Results returns the poison that a scan found. -/
  | getScanMediaResults (m : Mbx)
  /-- BACKGROUND_COMMAND_DONE (R421). A background mailbox command finishes and reports its completion. -/
  | backgroundCommandDone (fn : Nat) (secondary : Bool)
  /-- UNSUPPORTED_OPCODE (R427). A mailbox command with an unlisted opcode returns Unsupported. -/
  | unsupportedOpcode (m : Mbx) (opcode : Nat)
  /-- TRACKER_ENTRY_FREED (R65). A tracker entry frees and is granted to a waiting source in round-robin order. -/
  | trackerEntryFreed (id : Nat)
  /-- HOME_READ_RETURN (R226). Data of a DRAM read returns and passes or fails the line-code check; it is then used or fills the cache. -/
  | homeReadReturn (inst req : Nat) (errs : List (Nat × BitVec 16))
  /-- MERGED_REFETCH_DONE (R190). A merged refetch finds a good copy or none, and its waiters are released with data or poison. -/
  | mergedRefetchDone (line : Nat) (bad : Nat)
  /-- MERGE_ENTRY_TIMEOUT (R76). The oldest byte of a merge-buffer entry has waited 2 µs, and the entry is written to its home. -/
  | mergeEntryTimeout (line : Nat) (errs : List (Nat × BitVec 16))
  /-- WRITE_QUEUE_RETIRE (R226). 64 DRAM cycles pass after a write's last data beat without a command error, and the write leaves the queue. -/
  | writeQueueRetire (inst req : Nat)
  /-- DRAM_COMMAND_ISSUE (R230). A subchannel or pseudo-channel chooses and issues its next DRAM command. -/
  | dramCommandIssue (inst sc : Nat) (ready : List Nat)
  /-- URGENCY_LEVEL_UP (R227). A queued request's age crosses a threshold of its port target, and its urgency level rises. -/
  | urgencyLevelUp (inst req : Nat)
  /-- REFRESH_DUE (R232). A rank's or pseudo-channel's tREFI interval passes, and a refresh falls due. -/
  | refreshDue (inst sc rank : Nat)
  /-- TEMPERATURE_POLL (R233). The memory temperature is read, and the refresh rate and over-temperature report are set from it. -/
  | temperaturePoll (inst : Nat) (temp : Option Nat)
  /-- ZQ_CALIBRATION_DUE (R239). A rank's ZQ calibration interval passes. -/
  | zqCalibrationDue (inst sc rank : Nat)
  /-- DQS_CALIBRATION_DUE (R239). A DQS-oscillator or HBM3 periodic calibration falls due by interval or temperature change. -/
  | dqsCalibrationDue (inst sc rank : Nat)
  /-- CA_PARITY_ERROR (R240). A DDR5 CA parity error is reported, and the channel freezes. -/
  | caParityError (inst : Nat)
  /-- WRITE_CRC_ERROR (R240). A DDR5 write CRC error is reported, and the channel freezes. -/
  | writeCrcError (inst req : Nat)
  /-- ALERT_N (R240). ALERT_n asserts with no cause read back, and the channel freezes. -/
  | alertN (inst : Nat)
  /-- DATA_PARITY (R240). An HBM stack reports a command or data parity error, and the channel freezes. -/
  | dataParity (inst : Nat)
  /-- RELEASE (R243). The DCnn_ACTION RELEASE makes a frozen channel ACTIVE, calibrates it and reissues its held operations. -/
  | release (who inst : Nat)
  /-- RETIRE_LINE (R243). The DCnn_ACTION RETIRE_LINE remaps the captured line to a spare line and releases the channel, or is refused. -/
  | retireLine (who inst : Nat)
  /-- RETIRE_CHANNEL (R243). The DCnn_ACTION RETIRE_CHANNEL makes the channel RETIRED. -/
  | retireChannel (who inst : Nat)
  /-- FREEZE_LIMIT_EXPIRED (R244). A channel has been frozen for LIMIT_MS without an action, and the controller retires it. -/
  | freezeLimitExpired (inst : Nat)
  /-- FREEZE_READ_TIMEOUT (R242). In SOLO, a read of a frozen channel reaches TIMEOUT_US from the freeze and returns poison. -/
  | freezeReadTimeout (inst : Nat)
  /-- SCRUB_PASS_START (R275). A scrub period ends and a new pass starts, with its rate set and the counts halved. -/
  | scrubPassStart
  /-- SCRUB_READ (R274). Scrub issues the read of its next line through P-MT. -/
  | scrubRead
  /-- MARK_SET (R261). MARK_SET sets or clears a mark of one rank and subchannel or pseudo-channel. -/
  | markSet (m : Mbx) (inp : List Word)
  /-- MARK_LIST (R437). MARK_LIST returns the marks and the high counts of an instance. -/
  | markList (m : Mbx) (inp : List Word)
  /-- REMAP_LIST (R437). REMAP_LIST returns the remap entries of an instance. -/
  | remapList (m : Mbx) (inp : List Word)
  /-- ERR_COUNTS (R437). ERR_COUNTS returns the corrected-read counts of an instance. -/
  | errCounts (m : Mbx) (inp : List Word)
  /-- PPR_RUN (R266). PPR_RUN starts a row repair on a frozen channel. -/
  | pprRun (m : Mbx) (inp : List Word)
  /-- PPR_DONE (R267). A row repair finishes its write-back and verify, and the command completes. -/
  | pprDone (outcome : Nat)
  /-- RAW_WRITE (R279). The checker-test RAW_WRITE writes the test beats and check symbols unchanged. -/
  | rawWrite (who : Nat) (ctl : Word)
  /-- ENC_WRITE (R279). The checker-test ENC_WRITE writes the test beats with computed check symbols XORed with the test checks. -/
  | encWrite (who : Nat) (ctl : Word)
  /-- RAW_READ (R279). The checker-test RAW_READ returns the received beats and check symbols. -/
  | rawRead (who : Nat) (ctl : Word) (errs : List (Nat × BitVec 16))
  /-- DEC_READ (R279). The checker-test DEC_READ decodes the line and reports the verdict and the corrected symbols. -/
  | decRead (who : Nat) (ctl : Word) (errs : List (Nat × BitVec 16))
  /-- MOVE_START (R164). The tier manager starts moving an extent to the other tier. -/
  | moveStart (extent : Nat)
  /-- MOVE_COMPLETE (R164). The last line of a move is copied; the home map updates and the old place is freed. -/
  | moveComplete (extent : Nat)
  /-- AGEING_PERIOD_END (R173). An ageing period ends; AGE advances and the candidate counts clear. -/
  | ageingPeriodEnd
  /-- TENANT_SET (R172). TENANT_SET sets a tenant's HBM floor and ceiling. -/
  | tenantSet (m : Mbx) (inp : List Word)
  /-- TENANT_STATUS (R437). TENANT_STATUS returns a tenant's floor, effective ceiling and use. -/
  | tenantStatus (m : Mbx) (inp : List Word)
  /-- SCHED_LOAD (R178). SCHED_LOAD loads a stream schedule and stages its first steps. -/
  | schedLoad (m : Mbx) (inp : List Word)
  /-- SCHED_UNLOAD (R180). SCHED_UNLOAD ends a schedule and returns its doorbell line to memory. -/
  | schedUnload (m : Mbx) (inp : List Word)
  /-- SCHED_STATUS (R433). SCHED_STATUS returns a schedule's header, status word and counts. -/
  | schedStatus (m : Mbx) (inp : List Word)
  /-- HOME_QUERY (R437). HOME_QUERY returns an extent's home-map entry and move cursor. -/
  | homeQuery (m : Mbx) (inp : List Word)
  /-- CACHE_OP (R209). The command CACHE_OP runs a range operation on the line cache. -/
  | cacheOp (m : Mbx) (inp : List Word)
  /-- CLEAN (R209). An LC_OP_CMD write of CLEAN writes back the dirty lines of a range and keeps them clean. -/
  | clean
  /-- INVALIDATE (R209). An LC_OP_CMD write of INVALIDATE writes back and invalidates the lines of a range. -/
  | invalidate
  /-- CLEAN_INVALIDATE (R209). An LC_OP_CMD write of CLEAN_INVALIDATE writes back and invalidates the lines of a range, completing after the DRAM writes. -/
  | cleanInvalidate
  /-- ZERO (R212). An LC_OP_CMD write of ZERO writes zero lines over a range as ordered, mirrored writes. -/
  | zero (cls : Nat)
  /-- DISCARD (R213). An LC_OP_CMD write of DISCARD invalidates a range without write-back, or is refused. -/
  | discard (who : Nat)
  /-- RANGE_WALK_SET (R215). Every 0.375 µs a range walk handles the next set of every slice. -/
  | rangeWalkSet
  /-- RANGE_OP_DONE (R210). A range operation finishes, and BUSY clears with its result. -/
  | rangeOpDone
  /-- CACHE_SWEEP_DONE (R217). Slice 63 is empty; the cache becomes DISABLED, or ENABLED again if REENABLE is set. -/
  | cacheSweepDone
  /-- WRITE_BEHIND_LEAF (R301). Write-behind takes the oldest leaf of the dirty window and reads it for the vault. -/
  | writeBehindLeaf (loc : Nat) (bad : List Nat)
  /-- NAND_PROGRAM_DONE (R290). A NAND program reports its status; on PASS with row parity, the leaves leave the dirty window. -/
  | nandProgramDone (page : Nat) (pass : Bool)
  /-- NAND_ERASE_DONE (R319). A NAND erase finishes, and the block is checked for its erase state. -/
  | nandEraseDone (seg pos : Nat) (pass : Bool) (zeros : List Nat)
  /-- MAP_DELTA_WRITE (R297). Leaf-map changes are written as a MAP_DELTA record within 10 ms. -/
  | mapDeltaWrite
  /-- CHECKPOINT_CYCLE_START (R297). A checkpoint cycle starts, by delta bytes or by period. -/
  | checkpointCycleStart
  /-- CHECKPOINT_CYCLE_DONE (R297). A checkpoint cycle ends with the superblock update. -/
  | checkpointCycleDone
  /-- CLEANING_START (R305). Free segments fall below START_PCT, and cleaning relocates the live leaves of a segment. -/
  | cleaningStart (zone : Nat) (dst : List Nat)
  /-- SEAL_RECORD_WRITTEN (R307). After the departing-ack, or forced-dead paths, or the end of quiesce, the SEAL record is written and the save proceeds. -/
  | sealRecordWritten
  /-- LEAF_RESTORE_START (R311). The vault or the twin starts restoring the next leaf in restore order. -/
  | leafRestoreStart (leaf : Nat)
  /-- LEAF_RESTORE_DONE (R313). A leaf is restored to its home, and the requests that wait on it proceed. -/
  | leafRestoreDone (leaf : Nat) (reads : List PageRead)
  /-- VAULT_STATUS (R437). VAULT_STATUS returns the capacity, zone use, wear and image state of the vault. -/
  | vaultStatus (m : Mbx) (inp : List Word)
  /-- VAULT_FORMAT (R434). VAULT_FORMAT arms a format in HOLD for diagnostics. -/
  | vaultFormat (m : Mbx) (inp : List Word)
  /-- VAULT_ERASE_GO (R321). A write of VLT_ERASE.GO executes the armed format. -/
  | vaultEraseGo (who : Nat)
  /-- VAULT_FORMAT_DONE (R321). The format finishes with a GEN 1 superblock and every leaf free. -/
  | vaultFormatDone (failed : List (Nat × Nat))
  /-- ZONE_SET (R434). ZONE_SET stages the code strength of one vault zone. -/
  | zoneSet (m : Mbx) (inp : List Word)
  /-- VAULT_LOST_LIST (R437). VAULT_LOST_LIST returns the leaves lost under R316. -/
  | vaultLostList (m : Mbx) (inp : List Word)
  /-- PRESERVE_REPORT (R437). PRESERVE_REPORT returns the last PRESERVE_DONE record. -/
  | preserveReport (m : Mbx) (inp : List Word)
  /-- VAULT_CHECKPOINT (R437). VAULT_CHECKPOINT starts a checkpoint cycle at once. -/
  | vaultCheckpoint (m : Mbx) (inp : List Word)
  /-- RDMA_WRITE_PACKET (R349). An RDMA WRITE packet is checked for sequence and access, and its lines are applied when it is accepted. -/
  | rdmaWritePacket (p : RdmaPkt)
  /-- RDMA_READ_REQUEST (R349). An RDMA READ request is checked, and is executed after earlier writes complete. -/
  | rdmaReadRequest (p : RdmaPkt)
  /-- CMP_SWAP (R73). An RDMA CmpSwap is checked and executed at the owner's slice. -/
  | cmpSwap (p : RdmaPkt)
  /-- FETCH_ADD (R73). An RDMA FetchAdd is checked and executed at the owner's slice, or triggers a doorbell. -/
  | fetchAdd (p : RdmaPkt)
  /-- RC_UNSUPPORTED_OPCODE (R331). An unsupported RC opcode receives NAK 0x61. -/
  | rcUnsupportedOpcode (p : RdmaPkt)
  /-- RX_FRAME_DISCARDED (R324). A received frame that is not for the responder, probe or firmware is discarded and counted. -/
  | rxFrameDiscarded (e : Eth) (why : RxDrop)
  /-- ARP_ND_FRAME (R324). An ARP, neighbour discovery or ICMP frame is passed to control firmware. -/
  | arpNdFrame (e : Eth) (target : BitVec 128)
  /-- PROBE_PACKET (R366). A twin probe is answered in hardware when its PAIR_ID matches. -/
  | probePacket (e : Eth) (pairId ctrlId : Nat) (seq : BitVec 64)
  /-- CM_REQ (R336). A CM REQ on QPN 1 is accepted with REP or answered with REJ. -/
  | cmReq (e : Eth) (r : CmReq)
  /-- CM_RTU (R336). A CM RTU lets the connection serve packets. -/
  | cmRtu (e : Eth) (qpn : Nat)
  /-- CM_REJ (R337). A CM REJ after REP ends the connection. -/
  | cmRej (e : Eth) (qpn : Nat)
  /-- CM_MRA (R336). A CM MRA is handled by control firmware. -/
  | cmMra (e : Eth) (qpn : Nat)
  /-- CM_DREQ (R337). A CM DREQ ends the connection and is answered. -/
  | cmDreq (e : Eth) (qpn : Nat)
  /-- CM_DREP (R337). A CM DREP completes a disconnection. -/
  | cmDrep (e : Eth) (qpn : Nat)
  /-- ERROR_DREQ (R342). Control firmware sends a DREQ within 10 ms for a connection in ERROR. -/
  | errorDreq (qpn : Nat)
  /-- PFC_FRAME_RECEIVED (R329). A received PFC frame pauses or resumes a priority of the port. -/
  | pfcFrameReceived (mac port : Nat) (prios : BitVec 8) (quanta : List Nat)
  /-- PAUSE_QUANTA_EXPIRED (R329). The quanta of a received XOFF run out, and the priority resumes. -/
  | pauseQuantaExpired (mac port prio : Nat)
  /-- XOFF_REFRESH (R328). While XOFF holds, it is resent every 32,768 quanta. -/
  | xoffRefresh (mac port prio : Nat)
  /-- RX_PAUSE_STORM (R330). A priority has been paused continuously for STORM_MS, and received pause is ignored for 1 s. -/
  | rxPauseStorm (mac port prio : Nat)
  /-- RX_STORM_IGNORE_END (R330). The 1 s during which received pause is ignored ends. -/
  | rxStormIgnoreEnd (mac port prio : Nat)
  /-- TX_PAUSE_STORM (R330). A port has sent XOFF continuously for STORM_MS, and it stops XOFF and discards. -/
  | txPauseStorm (mac port prio : Nat)
  /-- CONTEXT_FETCH_DONE (R340). A connection-context fetch lands, and the waiting packets proceed. -/
  | contextFetchDone (slot : Nat)
  /-- STALL_EXPIRED (R354). A STALL wait exceeds STALL_US, and the packet is handled as under DROP. -/
  | stallExpired (slot : Nat)
  /-- ACK_DELAY_EXPIRED (R352). NET_ACK.DELAY passes since the oldest unacknowledged completion, and an ACK is sent. -/
  | ackDelayExpired (slot : Nat)
  /-- REVOCATION_DRAIN_DONE (R359). The epoch counters reach zero on both twins; the key entry becomes FREE and the revocation completes. -/
  | revocationDrainDone (index : Nat)
  /-- KEY_REGISTER (R344). KEY_REGISTER registers a memory key and returns its rkey. -/
  | keyRegister (m : Mbx) (inp : List Word)
  /-- KEY_REVOKE (R359). KEY_REVOKE starts the revocation of a key. -/
  | keyRevoke (m : Mbx) (inp : List Word)
  /-- KEY_LIST (R437). KEY_LIST returns key-table entries. -/
  | keyList (m : Mbx) (inp : List Word)
  /-- DOMAIN_SET (R346). DOMAIN_SET replaces a domain's grant list. -/
  | domainSet (m : Mbx) (inp : List Word)
  /-- DOMAIN_REVOKE (R359). DOMAIN_REVOKE revokes a domain and all its grants. -/
  | domainRevoke (m : Mbx) (inp : List Word)
  /-- NET_STATUS (R437). NET_STATUS returns port modes, links, addresses and counts. -/
  | netStatus (m : Mbx) (inp : List Word)
  /-- ADDR_SET (R437). ADDR_SET replaces a port's own and twin IP addresses. -/
  | addrSet (m : Mbx) (inp : List Word)
  /-- LISTEN_SET (R437). LISTEN_SET enables or disables a service ID with its domain. -/
  | listenSet (m : Mbx) (inp : List Word)
  /-- CONN_LIST (R437). CONN_LIST returns connection slots. -/
  | connList (m : Mbx) (inp : List Word)
  /-- CONN_CLOSE (R337). CONN_CLOSE ends a connection. -/
  | connClose (m : Mbx) (inp : List Word)
  /-- MAC_MODE_RETRAIN_DONE (R323). A MAC retrains its links in the committed mode. -/
  | macModeRetrainDone (mac : Nat)
  /-- ETHERNET_LINK_CHANGE (R396). An Ethernet port link goes down or up, and the change is reported. -/
  | ethernetLinkChange (mac port : Nat) (up : Bool)
  /-- DATA_FRAME (R136). A Darimin DATA frame arrives; it is accepted and placed, or discarded with a NAK. -/
  | dataFrame (path : Nat) (h : TwHeader) (payload : List (BitVec 8))
  /-- IDLE_FRAME (R136). An IDLE frame delivers its ACKSEQ, NAK and CRD fields. -/
  | idleFrame (path : Nat) (h : TwHeader)
  /-- BEAT (R150). A good BEAT arrives; MISSED resets and TWIN_STATE updates. -/
  | beat (path : Nat) (h : TwHeader) (b : TwBeat)
  /-- PATH_UP (R152). A PATH_UP request or acknowledge arrives, and the path can become UP. -/
  | pathUp (path : Nat) (h : TwHeader) (b : TwPathUp)
  /-- LANE_RETIRE (R155). A LANE_RETIRE request or acknowledge arrives, and the retirement advances. -/
  | laneRetire (path : Nat) (h : TwHeader) (which : Nat) (lanes : BitVec 8) (ack : Bool)
  /-- WRITE_FWD (R71). A forwarded write or atomic is applied by the owner, which orders it and returns an ORDER_ACK. -/
  | writeFwd
  /-- ORDER_ACK (R81). The owner's ordering acknowledgement arrives at the non-owner. -/
  | orderAck
  /-- MIRROR (R100). A MIRROR is applied under R72, and a mirror-ack is returned. -/
  | mirror
  /-- MIRROR_ACK (R103). A MIRROR_ACK completes SYNC writes and returns intent credits. -/
  | mirrorAck
  /-- INTENT (R103). Intents without data are held on the non-owner. -/
  | intent
  /-- INTENT_DATA (R102). Intent data is applied on the non-owner. -/
  | intentData
  /-- RA_REQ (R189). A read-assist request is answered with the lines or POISON. -/
  | raReq
  /-- RA_RESP (R190). A read-assist response delivers the lines. -/
  | raResp
  /-- CHECKPOINT (R363). Responder checkpoints update shadow contexts. -/
  | checkpoint
  /-- RESYNC_COPY (R126). Resync copies are applied unless a newer write has been applied. -/
  | resyncCopy
  /-- RESYNC_CTL (R123). Epoch tables and extent lists decide the winning copies and the resync progress. -/
  | resyncCtl (c : ResyncMsg)
  /-- HANDOVER_MARKER (R98). A handover marker makes the new owner take ownership and send the handover-ack. -/
  | handoverMarker
  /-- HANDOVER_ACK (R98). A handover-ack makes the old owner forward the waiting writes. -/
  | handoverAck
  /-- DEPARTING (R115). A departing message makes the twin take ownership and acknowledge. -/
  | departing
  /-- DEPARTING_ACK (R114). The departing-ack arrives and the SEAL record may be written. -/
  | departingAck
  /-- CONTROL (R36). A CONTROL message carries a replicated command, pair tables or keys. -/
  | control (c : CtlMsg)
  /-- BEAT_SEND (R149). Every 2.0 µs a BEAT is sent on each UP or RETIRING path. -/
  | beatSend
  /-- MISSED_BEAT_INTERVAL (R150). A 2 µs interval ends without a beat; at 25 the path is declared dead. -/
  | missedBeatInterval (path : Nat)
  /-- REPLAY_TIMER_EXPIRED (R137). REPLAY_US passes without ACKSEQ progress, and the frames are resent or moved to the other path. -/
  | replayTimerExpired (path : Nat)
  /-- PATH_UP_TIMEOUT (R138). A PATH_UP exchange has not completed in 1 ms, and the path is declared dead. -/
  | pathUpTimeout (path : Nat)
  /-- DEAD_PATH_RETRAIN (R152). Every 1 ms a DEAD path retrains. -/
  | deadPathRetrain (path : Nat)
  /-- LANE_FAULT (R154). A receiving lane is faulty, and retirement starts or the path dies. -/
  | laneFault (path lane : Nat) (lostLock : Bool)
  /-- LANE_RETIRE_ACK_TIMEOUT (R155). No LANE_RETIRE acknowledge arrives in 4 µs, and the side retrains alone. -/
  | laneRetireAckTimeout (path : Nat)
  /-- LANE_RETRAIN_DONE (R155). The retained half locks at its new width. -/
  | laneRetrainDone (path : Nat) (locked : Bool)
  /-- FORCE_DEAD (R152). A write of TWL_PATHnn_CTL.FORCE_DEAD declares the path dead and holds it, or lets it retrain. -/
  | forceDead (who path : Nat) (dead : Bool)
  /-- RESTORE_LANES (R157). A write of RESTORE_LANES starts the return of retired lanes. -/
  | restoreLanes (path : Nat) (pass : Bool)
  /-- DEPARTING_ACK_TIMEOUT (R114). 5 ms pass without a departing-ack; both paths are forced dead and the twin is counted lost. -/
  | departingAckTimeout
  /-- PROBE_SEND (R111). Every 100 µs a loss-confirmation probe is sent. -/
  | probeSend
  /-- PROBE_REPLY (R111). The probe is answered; a partition is declared and the bow goes off. -/
  | probeReply (seq : Nat)
  /-- PROBE_SILENT (R111). The probe has been silent for 2 ms; the kept completions are released and takeover proceeds. -/
  | probeSilent
  /-- HANDOVER_START (R98). The old owner marks an extent HANDOVER and begins a handover. -/
  | handoverStart (extent : Nat)
  /-- RESYNC_EXTENT_DONE (R127). An extent's resync ends; RD and ST clear and ownership returns. -/
  | resyncExtentDone (extent : Nat)
  /-- PAIR_FORM (R118). PAIR_FORM starts pair formation through HOLD. -/
  | pairForm (m : Mbx) (inp : List Word)
  /-- PAIR_FORM_COMPLETE (R120). Pair formation reaches step 6; pair records are written and both sides enter SERVE. -/
  | pairFormComplete
  /-- PAIR_STATUS (R432). PAIR_STATUS returns the pair state. -/
  | pairStatus (m : Mbx) (inp : List Word)
  /-- RESYNC_STATUS (R437). RESYNC_STATUS returns the resync progress. -/
  | resyncStatus (m : Mbx) (inp : List Word)
  /-- FAULT_EVENT (R394). A fault event is recorded, its unit is contained and a handling is queued. -/
  | faultEvent (unit code cls at_ : Nat)
  /-- FAULT_SLOT_DISPATCH (R407). A slot frees and takes the next queued or fenced handling. -/
  | faultSlotDispatch (slot : Nat)
  /-- SELFTEST_DONE (R405). A targeted test finishes, and the unit is transient or lasting. -/
  | selftestDone (slot : Nat) (pass row : Bool) (dev us : Nat)
  /-- STUCK_OPERATION (R402). A tracker entry ages past AGE_MS, and a stuck-operation event is raised. -/
  | stuckOperation (id : Nat)
  /-- LOCKSTEP_MISMATCH (R411). The cox-pair comparator detects a mismatch, and the firmware restarts from its checkpoint. -/
  | lockstepMismatch
  /-- COX_RESTART_DONE (R411). The cox pair restarts from the checkpoint, and commands are completed or rerun. -/
  | coxRestartDone
  /-- FIRMWARE_CHECKPOINT (R411). At least every 1 ms the firmware writes its checkpoint. -/
  | firmwareCheckpoint
  /-- ENGINE_FAULT (R413). An engine fault moves its work to a spare engine. -/
  | engineFault (eight engine items : Nat)
  /-- REFERENCE_CLOCK_LOST (R556). A reference clock stops or drifts by more than 1 %, and its loss is handled. -/
  | referenceClockLost (clock : Nat)
  /-- REFERENCE_CLOCK_RESTORED (R556). A reference clock is back within limits for 10 ms, and it is restored. -/
  | referenceClockRestored (clock : Nat)
  /-- FAULT_STATUS (R437). FAULT_STATUS returns the slots and the queue. -/
  | faultStatus (m : Mbx) (inp : List Word)
  /-- FAULT_CHANNELS (R437). FAULT_CHANNELS lists the handshake channels. -/
  | faultChannels (m : Mbx) (inp : List Word)
  /-- SELFTEST_RUN (R437). SELFTEST_RUN runs a targeted test on a named unit. -/
  | selftestRun (m : Mbx) (inp : List Word)
  /-- TRACKER_SNAPSHOT (R437). TRACKER_SNAPSHOT returns the tracker counts and ages. -/
  | trackerSnapshot (m : Mbx) (inp : List Word)
  /-- FRAME_COMMIT (R435). FRAME_COMMIT makes a SHUTTER commit of a group mask. -/
  | frameCommit (m : Mbx) (inp : List Word)
  /-- FRAME_REWIND (R435). FRAME_REWIND returns to an older kept frame. -/
  | frameRewind (m : Mbx) (inp : List Word)
  /-- FRAME_LIST (R436). FRAME_LIST returns the four kept frames. -/
  | frameList (m : Mbx) (inp : List Word)
  /-- FRAME_STATUS (R436). FRAME_STATUS returns the frame in force and its strip time left. -/
  | frameStatus (m : Mbx) (inp : List Word)
  /-- LOG_SNAPSHOT (R545). LOG_SNAPSHOT returns a consistent range of records. -/
  | logSnapshot (m : Mbx) (inp : List Word)
  /-- LOG_CLEAR (R544). LOG_CLEAR stages CLEARED and erases the FIX area. -/
  | logClear (m : Mbx) (inp : List Word)
  /-- LOG_FLUSH (R538). LOG_FLUSH flushes staged records to flash. -/
  | logFlush (m : Mbx) (inp : List Word)
  /-- POWER_STATUS (R522). POWER_STATUS returns the supervisor state. -/
  | powerStatus (m : Mbx) (inp : List Word)
  /-- SEC_STATUS (R437). SEC_STATUS returns CRY_BOOT and CRY_STATUS. -/
  | secStatus (m : Mbx) (inp : List Word)
  /-- IDENTITY_GET (R437). IDENTITY_GET returns the serial number and the certificate chain. -/
  | identityGet (m : Mbx) (inp : List Word)
  /-- KEYSLOT_LOAD (R441). KEYSLOT_LOAD unwraps a key pair into an empty slot. -/
  | keyslotLoad (m : Mbx) (inp : List Word)
  /-- KEYSLOT_GENERATE (R441). KEYSLOT_GENERATE fills a slot from the random source. -/
  | keyslotGenerate (m : Mbx) (inp : List Word)
  /-- KEYSLOT_CLEAR (R442). KEYSLOT_CLEAR erases an unused slot. -/
  | keyslotClear (m : Mbx) (inp : List Word)
  /-- KEYSLOT_LIST (R441). KEYSLOT_LIST returns the used slots and their tags. -/
  | keyslotList (m : Mbx) (inp : List Word)
  /-- FW_SVN_ADVANCE (R445). FW_SVN_ADVANCE burns the fused SVN up to that of the active image. -/
  | fwSvnAdvance (m : Mbx) (inp : List Word)
  /-- SYS_UNLOCK_WRITE (R458). A write to SYS_UNLOCK.KEY opens or closes the writer's unlock. -/
  | sysUnlockWrite (who key : Nat)
  /-- UNLOCK_EXPIRED (R460). An unlock closes 100 ms after it opened. -/
  | unlockExpired (who : Nat)
  /-- SHT_COMMIT_WRITE (R464). A write to SHT_COMMIT requests a commit, which is checked and applied or rejected. -/
  | shtCommitWrite (groups : BitVec 32)
  /-- SHT_REWIND_WRITE (R472). A write to SHT_REWIND requests a rewind to an older frame. -/
  | shtRewindWrite (back : Nat)
  /-- FRAME_WRITE_DONE (R468). A frame write to flash ends, and BUSY clears or UNSAVED sets. -/
  | frameWriteDone (pass : Bool)
  /-- FRAME_WRITE_ABANDONED (R489). A frame write not finished in 100 ms is abandoned. -/
  | frameWriteAbandoned
  /-- TEST_STRIP_END (R475). A test strip ends without a fault, and the frame is accepted. -/
  | testStripEnd
  /-- AUTO_REWIND_RETRY (R476). A pending automatic rewind retries its HOLD request at an AON tick. -/
  | autoRewindRetry
  /-- REGISTER_WRITE (R10). A write to a register with no behaviour of its own acts by its fields' access codes. -/
  | registerWrite (who width addr : Nat) (data : BitVec 64)
  /-- FLASH_READ (R480). An FLS_CMD READ returns data, or the status word for a busy bank. -/
  | flashRead (who : Nat)
  /-- FLASH_PROGRAM (R478). An FLS_CMD PROGRAM queues a word program, or is refused. -/
  | flashProgram (who : Nat)
  /-- FLASH_ERASE (R493). An FLS_CMD ERASE queues a journalled sector erase, or is refused. -/
  | flashErase (who : Nat)
  /-- FLASH_SUSPEND (R483). An FLS_CMD SUSPEND suspends an erase or program. -/
  | flashSuspend (who : Nat)
  /-- FLASH_RESUME (R483). An FLS_CMD RESUME resumes a suspended operation. -/
  | flashResume (who : Nat)
  /-- PROT_WRITE (R487). An FLS_CMD PROT_WRITE sets the protection bits if the password allows. -/
  | protWrite (who : Nat)
  /-- PWD_SET (R487). An FLS_CMD PWD_SET sets the protection password once. -/
  | pwdSet (who : Nat)
  /-- FLASH_PROGRAM_DONE (R482). A word program ends with PASS or FAIL. -/
  | flashProgramDone (bank : Nat) (pass : Bool)
  /-- FLASH_ERASE_DONE (R482). A sector erase ends with PASS or FAIL and is journalled DONE. -/
  | flashEraseDone (bank : Nat) (pass : Bool)
  /-- FETCH_SUSPEND (R481). A cox-pair fetch to a busy bank suspends its operation and is served. -/
  | fetchSuspend (bank : Nat)
  /-- PROG_WAIT_EXPIRED (R484). A program has waited PROG_WAIT_MS behind an erase, which is then suspended. -/
  | progWaitExpired (bank : Nat)
  /-- JOURNAL_SCAN (R494). At VDD_FLASH the journals are scanned and cut erases are redone. -/
  | journalScan
  /-- ROLL_ERASE (R542). The logbook erases a ROLL sector ahead of its write point after moving TAIL. -/
  | rollErase
  /-- VDD_AON_APPLIED (R550). The always-on domain leaves reset at the first application of VDD_AON. -/
  | vddAonApplied (pins : Pins) (mfgTestN xtalBypass : Bool) (eeprom : Option (List (BitVec 32 × BitVec 32)))
  /-- POWER_UP_START (R500). A pending on request starts a power-up once its conditions hold. -/
  | powerUpStart
  /-- STEP_QUALIFIED (R501). A step's power-goods qualify, and the next step starts. -/
  | stepQualified (pop : Option BootPop)
  /-- STEP_TIMEOUT (R501). A step's TIMEOUT_MS ends unqualified, and a sequence fault follows. -/
  | stepTimeout
  /-- TRAINING_COMPLETE (R561). Boot, frame load and training complete, and STATE becomes RESTORE. -/
  | trainingComplete
  /-- LEAF_MAP_REBUILT (R312). The leaf-map rebuild ends; LAZY sets and hosts are served. -/
  | leafMapRebuilt
  /-- BRINGUP_FAILURE (R22). Bring-up fails; rails go down and the previous frame is retried once. -/
  | bringupFailure (cause : Nat)
  /-- PG_FALL (R504). A qualified power-good is low for more than 2 µs, which is a rail fault. -/
  | pgFall (bit : Nat) (ns : Nat)
  /-- SEQ_IN_LOW (R506). SEQ_IN is low for more than 2 µs, which is an off request. -/
  | seqInLow
  /-- OUT_HOLD_EXPIRED (R507). OUT_HOLD_MS after SEQ_OUT falls, the core is held in reset and the chains go down. -/
  | outHoldExpired
  /-- CHAIN_DISCHARGED (R507). A chain's power-goods all read low, and the next chain goes down. -/
  | chainDischarged (chain : Nat)
  /-- DISCHARGE_TIMEOUT (R507). A step's bits stay high past DISCH_MS, and RAIL_STUCK is logged. -/
  | dischargeTimeout (step : Nat)
  /-- OFF_WAIT_END (R508). MIN_OFF_MS ends, and SEQ_STATE becomes OFF. -/
  | offWaitEnd
  /-- HOST_NOTIFY (R533). A whole Host Notify message arrives; it is an on or off request or is latched. -/
  | hostNotify (bus sender data : Nat)
  /-- PFAIL_N_FALL (R511). PFAIL_N falls; the ride timer counts and write-behind is raised. -/
  | pfailNFall
  /-- PFAIL_N_RISE (R511). PFAIL_N rises; the ride timer holds. -/
  | pfailNRise
  /-- RIDE_REARM_EXPIRED (R511). PFAIL_N has been high for REARM_MS, and the ride timer clears. -/
  | rideRearmExpired
  /-- RIDE_TIMER_EXPIRED (R512). The ride timer reaches T_RIDE_MS, and PRESERVE is triggered. -/
  | rideTimerExpired
  /-- BANK_READING (R515). The bank energy is read over SB2, and the need and the cap are recomputed. -/
  | bankReading (joules : Option Nat)
  /-- BANK_READING_STALE (R398). A bank reading older than 1 s counts as 0 J. -/
  | bankReadingStale
  /-- HOLDUP_OK_LOW (R519). HOLDUP_OK is low for more than 100 µs, and PRESERVE is triggered. -/
  | holdupOkLow
  /-- VCORE_STEP (R521). VDD_CORE moves by one step of at most 10 mV toward its target. -/
  | vcoreStep
  /-- VCORE_READBACK (R521). READ_VOUT is read every 1 ms, and a lasting difference is reported. -/
  | vcoreReadback (mv : Nat)
  /-- RESET_N_LOW (R552). RESET_N is low for more than 1 µs, which is an off request. -/
  | resetNLow
  /-- JUNCTION_OVERTEMP (R559). A junction reading of 115 °C for 1 ms is an off request. -/
  | junctionOvertemp (temp : Nat)
  /-- SB_CMD (R525). A write to SBn_CMD starts a sideband transfer. -/
  | sbCmd (who bus : Nat) (cmd : Word) (hung : Option (Option Nat))
  /-- SB_TRANSFER_DONE (R525). A sideband transfer ends with its result. -/
  | sbTransferDone (bus result : Nat) (data : List (BitVec 8))
  /-- SCL_LOW_TIMEOUT (R526). SCL has been held low for 25 ms; the transfer is aborted and the hang cure runs. -/
  | sclLowTimeout (bus : Nat) (freed : Option Nat)
  /-- HANG_CURE_RETRY (R528). A failed bus repeats the cure every 100 ms. -/
  | hangCureRetry (bus : Nat) (freed : Option Nat)
  /-- ARBITRATION_LOST (R529). The controller loses arbitration and retries after the bus frees. -/
  | arbitrationLost (bus : Nat)
  /-- BUS_ERROR (R531). A START arrives during an ACK clock, and the transfer aborts. -/
  | busError (bus : Nat) (hung : Option (Option Nat))
  /-- LOG_FLUSH_AGE (R538). The oldest unflushed record reaches FLUSH_MS, and a flush starts. -/
  | logFlushAge
  /-- LOG_FLUSH_DONE (R541). A flush finishes writing records in SEQ order. -/
  | logFlushDone
  /-- OVERFLOW_RECORD (R539). Room returns, and one OVERFLOW record is staged for the dropped records. -/
  | overflowRecord
  /-- PERST_N_RELEASE (R371). A host releases CXA_PERST_N or CXB_PERST_N, and the link trains up and its functions become reachable. -/
  | perstNRelease (port link : Nat)
  /-- THERM_N (R558). The junction reads 105 °C or more and THERM_N is pulled low, or reads 102 °C or less and THERM_N is released. -/
  | thermN (temp : Nat)
  /-- VDD_AON_REMOVED (R553). VDD_AON is removed; the always-on domain, device time and the straps are lost until the next application. -/
  | vddAonRemoved
  /-- INTENT_DATA_SEND (R101). In a BOUNDED region the owner hands a write's data to the link as INTENT_DATA, no later than the lag bound minus 2 µs after the write's completion. -/
  | intentDataSend
  /-- RESYNC_COPY_SEND (R126). During resync the side holding the winning copy reads a line and sends it to the twin as a RESYNC_COPY record. -/
  | resyncCopySend (extent : Nat)
  /-- FRAME_BAD_CRC (R136). A Darimin frame with a bad CRC, a reserved KIND or subtype, or a wrong PATH bit arrives and is ignored and counted. -/
  | frameBadCrc (path : Nat)
  /-- LANE_RETIRE_WAIT_EXPIRED (R156). A path that met a lane fault while the other path was RETIRING has waited 40 µs without the other path's step 5 and starts its own retirement. -/
  | laneRetireWaitExpired (path : Nat)
  /-- DOE_REQUEST (R370). A request on a function's DOE mailbox (discovery, CDAT table access, CMA/SPDM) is answered, for example with the CDAT table or the SPDM measurement of the accepted image. -/
  | doeRequest (fn protocol : Nat) (words : List Word)
  /-- JTAG_INSTRUCTION (R554). An instruction shifted into the JTAG port is executed, as BYPASS, IDCODE and SAMPLE/PRELOAD, or with MFG_TEST_N low as EXTEST and scan. -/
  | jtagInstruction (instr : JtagInstr)
  /-- CRC_THRESHOLD (R385). The CXL link layer reaches its CRC or retry threshold on received flits, and RAS reports a correctable error with AER and MSI-X. -/
  | crcThreshold (port link : Nat) (retry : Bool)
  deriving DecidableEq, Repr

end Sys2Proof
end

