-- ==== Sys2Proof/Machine/Codec.lean ====
section
/-!
DEFINITION. Machine/Codec.lean: the arithmetic of the line codes (R249 to R257) and CRC-32C (R133).
-/
namespace Sys2Proof.Machine

/-! ## GF(2^16) (R250) -/

/-- Multiply by α: p(x) = x^16 + x^12 + x^3 + x + 1. -/
def gfDouble (a : Nat) : Nat := if a < 0x8000 then 2 * a else (2 * a) ^^^ 0x1100B

/-- Sum over the bits of `b`, from the highest of `n`. -/
def gfMulN : Nat → Nat → Nat → Nat
  | 0, _, _ => 0
  | n + 1, a, b => gfDouble (gfMulN n a (b / 2)) ^^^ (if b % 2 = 1 then a else 0)

/-- Product of two symbols. -/
def gfMul (a b : Nat) : Nat := gfMulN 16 a b

/-- `a ^ (2^n)`. -/
def gfSq : Nat → Nat → Nat
  | 0, a => a
  | n + 1, a => gfSq n (gfMul a a)

/-- The product of `a^(2^k)` for k = 1 … n. -/
def gfInvN : Nat → Nat → Nat
  | 0, _ => 1
  | n + 1, a => gfMul (gfInvN n (gfMul a a)) (gfMul a a)

/-- The inverse: a^(2^16 − 2). -/
def gfInv (a : Nat) : Nat := gfInvN 15 a

/-- α^n. -/
def gfAlpha : Nat → Nat
  | 0 => 1
  | n + 1 => gfDouble (gfAlpha n)

/-! ## Polynomials over the field, lowest coefficient first -/

/-- Value at a point. -/
def polyEval : List Nat → Nat → Nat
  | [], _ => 0
  | c :: t, x => c ^^^ gfMul x (polyEval t x)

/-- Sum. -/
def polyAdd : List Nat → List Nat → List Nat
  | [], q => q
  | p, [] => p
  | a :: p, b :: q => (a ^^^ b) :: polyAdd p q

/-- Scalar multiple. -/
def polyScale (k : Nat) (p : List Nat) : List Nat := p.map (gfMul k)

/-- Product. -/
def polyMul : List Nat → List Nat → List Nat
  | [], _ => []
  | a :: p, q => polyAdd (polyScale a q) (0 :: polyMul p q)

/-- Formal derivative: odd coefficients stay, even ones vanish. -/
def polyDeriv (p : List Nat) : List Nat :=
  (p.drop 1).zipIdx.map (fun c => if c.2 % 2 = 0 then c.1 else 0)

/-- Degree of a polynomial, 0 for a constant. -/
def polyDeg (p : List Nat) : Nat :=
  (p.zipIdx.foldl (fun d c => if c.1 ≠ 0 then c.2 else d) 0)

/-! ## The codes -/

/-- The generator with `r` roots α^0 … α^(r−1) (R251, R254). -/
def rsGen : Nat → List Nat
  | 0 => [1]
  | r + 1 => polyMul (rsGen r) [gfAlpha r, 1]

/-- One step of the systematic division: shift a message symbol in. -/
def rsShift (g : List Nat) (reg : List Nat) (m : Nat) : List Nat :=
  let fb := m ^^^ reg.getLastD 0
  polyAdd (0 :: reg.dropLast) (polyScale fb (g.take reg.length))

/-- The check symbols c_0 … c_(r−1) of message symbols c_r, c_(r+1), … (R251). -/
def rsCheck (r : Nat) (msg : List Nat) : List Nat :=
  msg.reverse.foldl (rsShift (rsGen r)) (List.replicate r 0)

/-- Syndromes s_i = r(α^i), i = 0 … r−1, of a word given as symbols by position. -/
def rsSyndromes (r : Nat) (word : List (Nat × Nat)) : List Nat :=
  (List.range r).map (fun i => word.foldl (fun s c => s ^^^ gfMul c.2 (gfAlpha (i * c.1 % 65535))) 0)

/-- State of the Berlekamp-Massey iteration: Λ, B, L, the shift, the last discrepancy. -/
structure BmState where
  lam : List Nat
  b : List Nat
  len : Nat
  sh : Nat
  bd : Nat
  deriving DecidableEq, Repr

/-- One step of it on syndrome number `n`. -/
def bmStep (t : List Nat) (st : BmState) (n : Nat) : BmState :=
  let d := (List.range (st.len + 1)).foldl
    (fun a i => if i ≤ n then a ^^^ gfMul (st.lam.getD i 0) (t.getD (n - i) 0) else a) 0
  if d = 0 then { st with sh := st.sh + 1 }
  else
    let k := gfMul d (gfInv st.bd)
    let lam := polyAdd st.lam (List.replicate st.sh 0 ++ polyScale k st.b)
    if 2 * st.len ≤ n then ⟨lam, st.lam, n + 1 - st.len, 1, d⟩ else { st with lam := lam, sh := st.sh + 1 }

/-- The error locator of a syndrome sequence, with its degree. -/
def bm (t : List Nat) : List Nat × Nat :=
  let st := (List.range t.length).foldl (bmStep t) ⟨[1], [1], 0, 1, 1⟩
  (st.lam, st.len)

/-- errata_decode of R253 for a code of length `n` with `r` checks: the errata found, as (position, value), with these erasures
and at most `maxErr` errors beside them. -/
def errataDecode (n r : Nat) (s : List Nat) (eras : List Nat) (maxErr : Nat) : Option (List (Nat × Nat)) :=
  let gamma := eras.foldl (fun g j => polyMul g [1, gfAlpha j]) [1]
  let t := ((polyMul gamma s).take r).drop eras.length
  let (lam, len) := bm t
  if maxErr < len || r < 2 * len + eras.length then none else
  let psi := polyMul lam gamma
  let roots := (List.range n).filter (fun j => polyEval psi (gfAlpha ((65535 - j) % 65535)) == 0)
  if roots.length ≠ polyDeg psi then none else
  let omega := (polyMul s psi).take r
  let dpsi := polyDeriv psi
  let errs := roots.map (fun j =>
    let xi := gfAlpha ((65535 - j) % 65535)
    (j, gfMul (gfAlpha j) (gfMul (polyEval omega xi) (gfInv (polyEval dpsi xi)))))
  if rsSyndromes r errs = s then some (errs.filter (fun e => e.2 ≠ 0)) else none

/-- Which code a home line is under: HBM (R254) or DDR5 (R251). -/
structure CodeOf where
  n : Nat
  r : Nat
  deriving DecidableEq, Repr

/-- RS(36,32) of R254 or RS(40,32) of R251. -/
def codeOf (hbm : Bool) : CodeOf := if hbm then ⟨36, 4⟩ else ⟨40, 8⟩

/-- The symbols of a device (R252) or the symbol position itself on HBM. -/
def deviceSymbols (hbm x8 : Bool) (d : Nat) : List Nat :=
  if hbm then [d]
  else if x8 then (if d = 4 then List.range 8 else (List.range 8).map (· + (8 + 8 * d)))
  else if d = 8 then [0, 1, 2, 3] else if d = 9 then [4, 5, 6, 7]
  else (List.range 4).map (· + (8 + 4 * d))

/-- The device of a symbol (R252), or the symbol itself on HBM. -/
def symbolDevice (hbm x8 : Bool) (j : Nat) : Nat :=
  if hbm then j
  else if x8 then (if j < 8 then 4 else (j - 8) / 8)
  else if j < 4 then 8 else if j < 8 then 9 else (j - 8) / 4

/-- The outcome of a decode (R253, R255, R257). -/
inductive Verdict where
  | clean
  | corrected (errs : List (Nat × Nat))
  | poison
  | uncorrectable
  deriving DecidableEq, Repr

/-- The symbol of every check position of the poison marker (R256). -/
def poisonSymbol : Nat := 0x9E37

/-- The poison marker as a word (R256). -/
def poisonWord (hbm : Bool) : List (Nat × Nat) := (List.range (codeOf hbm).r).map (fun j => (j, poisonSymbol))

/-- Decode a word, given as symbols by position (those left out are 0), with or without a mark (R253, R255, R257). -/
def decodeWord (hbm x8 : Bool) (mark : Option Nat) (word : List (Nat × Nat)) : Verdict :=
  let c := codeOf hbm
  let s := rsSyndromes c.r word
  if s.all (· == 0) then .clean else
  let eras := match mark with | none => [] | some d => deviceSymbols hbm x8 d
  let budget := match mark with
    | none => if hbm then 1 else 4
    | some _ => if hbm then 1 else 2
  match errataDecode c.n c.r s eras budget with
  | some e => .corrected e
  | none =>
    let sp := List.zipWith (· ^^^ ·) s (rsSyndromes c.r (poisonWord hbm))
    let pb := match mark with
      | none => if hbm then 1 else 2
      | some _ => if hbm then 0 else 1
    match errataDecode c.n c.r sp eras pb with
    | some _ => .poison
    | none => .uncorrectable

/-- Symbol L of a line: bit b of the symbol is bit L of beat b (R249, R250). -/
def lineSymbol (d : Line) (l : Nat) : Nat :=
  (List.range 16).foldl (fun n b => if d.getLsbD (32 * b + l) then n + 2 ^ b else n) 0

/-- The 32 data symbols of a line. -/
def lineSymbols (d : Line) : List Nat := (List.range 32).map (lineSymbol d)

/-- A line from symbol values on its data lanes: the line bits that a list of (position, value) sets, check symbols left out. -/
def symbolsLine (r : Nat) (word : List (Nat × Nat)) : Line :=
  word.foldl (fun d c =>
    if c.1 < r then d else
    d ^^^ BitVec.ofNat 512 ((List.range 16).foldl
      (fun n b => if (c.2 / 2 ^ b) % 2 = 1 then n + 2 ^ (32 * b + (c.1 - r)) else n) 0)) 0

/-- The check part of a word: symbol j in bits 16j to 16j+15. -/
def symbolsCheck (r : Nat) (word : List (Nat × Nat)) : BitVec 128 :=
  word.foldl (fun d c => if c.1 < r then d ^^^ BitVec.ofNat 128 (c.2 * 2 ^ (16 * c.1)) else d) 0

/-- Check symbol j of a stored check part. -/
def checkSymbol (chk : BitVec 128) (j : Nat) : Nat := chk.toNat / 2 ^ (16 * j) % 65536

/-- A raw codeword as symbols by position. -/
def rawWord (hbm : Bool) (beats : Line) (chk : BitVec 128) : List (Nat × Nat) :=
  let r := (codeOf hbm).r
  (List.range r).map (fun j => (j, checkSymbol chk j)) ++ (List.range 32).map (fun l => (r + l, lineSymbol beats l))

/-- The check part computed for a line (R251, R254). -/
def encodeCheck (hbm : Bool) (d : Line) : BitVec 128 :=
  let r := (codeOf hbm).r
  symbolsCheck r ((rsCheck r (lineSymbols d)).zipIdx.map (fun c => (c.2, c.1)))

/-- An error list as (position, value). -/
def errWord (errs : List (Nat × BitVec 16)) : List (Nat × Nat) := errs.map (fun e => (e.1, e.2.toNat))

/-! ## CRC-32C (R133) -/

/-- One bit of the reflected CRC with polynomial 0x1EDC6F41. -/
def crcBit (c : Nat) : Nat := if c % 2 = 1 then (c / 2) ^^^ 0x82F63B78 else c / 2

/-- Eight bits. -/
def crcByte (c : Nat) (b : Byte) : Nat :=
  crcBit (crcBit (crcBit (crcBit (crcBit (crcBit (crcBit (crcBit (c ^^^ b.toNat))))))))

/-- CRC-32C of a list of bytes. -/
def crc32c (bytes : List Byte) : Nat := (bytes.foldl crcByte 0xFFFFFFFF) ^^^ 0xFFFFFFFF

/-- The `n` bytes of a value, least significant first. -/
def bytesOf : Nat → Nat → List Byte
  | 0, _ => []
  | n + 1, v => BitVec.ofNat 8 v :: bytesOf n (v / 256)

/-- The value of bytes, least significant first. -/
def bytesVal : List Byte → Nat
  | [] => 0
  | b :: t => b.toNat + 256 * bytesVal t

end Sys2Proof.Machine
end

