-- ==== Sys2Proof/Config.lean ====
section
/-!
DEFINITION. Config.lean: what the spec leaves open or takes from outside: free values and the functions of the security
block, all opaque, so that nothing can be proved about their values.
-/
namespace Sys2Proof

/-- A value the spec leaves open: the n-th free value of a run. -/
opaque Config.freeNat : Nat → Nat

/-- AES-256-XTS encryption of a line (R438): key pair K1 ‖ K2, device address over 64, plaintext. -/
opaque Config.encrypt : BitVec 512 → Nat → Line → Line

/-- AES-256-XTS decryption of a line (R438). -/
opaque Config.decrypt : BitVec 512 → Nat → Line → Line

/-- The key tag of a key pair (R439). -/
opaque Config.keyTag : BitVec 512 → BitVec 32

/-- The key pair drawn from the random source (R441): the n-th draw. -/
opaque Config.randomKey : Nat → BitVec 512

/-- The unwrap of KEYSLOT_LOAD (R441): CTRL_ID, SLOT, EPHEMERAL and WRAPPED as the input's words; none where the integrity
check fails. -/
opaque Config.unwrapKey : Nat → Nat → List Word → Option (BitVec 512)

/-- EPHEMERAL is a point on the curve (R441). -/
opaque Config.pointOnCurve : List Word → Bool

/-- SHA-384 of a signing key (R444), as the header's bytes 0x44 to 0xA4. -/
opaque Config.keyHash : BitVec 776 → BitVec 384

/-- SIGNATURE verifies over the header (R444): the words of the slot from its base. -/
opaque Config.signatureGood : List (BitVec 256) → Bool

/-- DIGEST matches the body (R444): the words of the slot from its base. -/
opaque Config.digestGood : List (BitVec 256) → Bool

/-- The words of an answer of a DOE mailbox whose content the CXL and SPDM standards give and the spec does not: protocol and
request (R370). -/
opaque Config.doeAnswer : Nat → List Word → List Word

/-- The handshake channels of the part (R395, R437): number, page of the requesting block, page of the acknowledging block. -/
opaque Config.handshakeChannels : List (Nat × Nat × Nat)

/-- The hash that picks the set of the context cache for a QPN (R339). -/
opaque Config.qpnHash : Nat → Nat

/-- The generation of a domain that is set for the first time (R345). -/
opaque Config.domainGen : Nat → Nat

/-- The content of the identity sector, written at manufacture (16_config_flash.md): the package serial number, the Ethernet MAC base
address, the certificate chain's bytes. -/
opaque Config.serial : BitVec 128
opaque Config.macBase : BitVec 48
opaque Config.certChain : List (BitVec 8)

end Sys2Proof
end

