-- ==== Sys2Proof/Machine/RegTable.lean ====
section
/-!
DEFINITION. Machine/RegTable.lean: the register map (R10, R450 to R453 and the register tables of every chapter) as
data: blocks, registers, fields with their access codes and reset values, counters, and the names of all of them.
-/
namespace Sys2Proof.Machine

/-- R10: the access codes of register fields. -/
inductive Acc where
  | ro | rw | w1c | wo | rws | rwg | rsc
  deriving DecidableEq, Repr

/-- One field of a register: its bits, its access code and its Reset column. -/
structure FieldDesc where
  hi : Nat
  lo : Nat
  acc : Acc
  reset : Nat
  deriving DecidableEq, Repr

/-- Registers of one shape in a block: first offset, stride, how many, and their fields. -/
structure RegDesc where
  off : Nat
  stride : Nat
  num : Nat
  fields : List FieldDesc
  deriving DecidableEq, Repr

/-- R450: a block: its first page, its pages, W, its SHUTTER group, whether it is always-on, its registers, its
counters. -/
structure Block where
  page : Nat
  pages : Nat
  w : Nat
  group : Nat
  aon : Bool
  regs : List RegDesc
  ctrs : List (Nat × Nat × Nat)
  deriving DecidableEq, Repr

/-- A field's place in its register: high bit, low bit. -/
structure Fld where
  hi : Nat
  lo : Nat
  deriving DecidableEq, Repr


/-- Registers of block SYS, with the fields of their tables (R450; reserved bits left out). -/
def regsSYS : List RegDesc := [
  ⟨0x0, 0, 1, [⟨31, 16, .ro, 0x1D7A⟩, ⟨15, 8, .ro, 0x1⟩, ⟨7, 0, .ro, 0xB0⟩]⟩ /- SYS_ID -/,
  ⟨0x10, 0, 1, [⟨15, 0, .wo, 0x0⟩]⟩ /- SYS_UNLOCK -/,
  ⟨0x14, 0, 1, [⟨4, 0, .ro, 0x0⟩]⟩ /- SYS_UNLOCK_STATUS -/,
  ⟨0x40, 0, 1, [⟨31, 16, .ro, 0x0⟩, ⟨15, 8, .ro, 0x1⟩, ⟨6, 6, .ro, 0x0⟩, ⟨5, 5, .ro, 0x0⟩, ⟨4, 4, .ro, 0x0⟩, ⟨3, 3, .ro, 0x0⟩, ⟨2, 0, .ro, 0x0⟩]⟩ /- SYS_MODE -/,
  ⟨0x44, 0, 1, [⟨13, 12, .ro, 0x0⟩, ⟨8, 8, .ro, 0x0⟩, ⟨5, 4, .rsc, 0x0⟩, ⟨2, 0, .rsc, 0x0⟩]⟩ /- SYS_MODE_REQ -/,
  ⟨0x48, 0, 1, [⟨15, 0, .rw, 0x32⟩]⟩ /- SYS_HOLD -/,
  ⟨0x50, 0, 1, [⟨31, 31, .rwg, 0x0⟩, ⟨16, 16, .rwg, 0x1⟩, ⟨13, 0, .rwg, 0x0⟩]⟩ /- SYS_POOL -/,
  ⟨0x58, 0, 1, [⟨31, 31, .rwg, 0x0⟩, ⟨30, 30, .rwg, 0x1⟩, ⟨29, 29, .ro, 0x0⟩, ⟨15, 8, .rw, 0x32⟩, ⟨0, 0, .ro, 0x0⟩]⟩ /- SYS_PAIR -/,
  ⟨0x5C, 0, 1, [⟨31, 0, .rwg, 0x0⟩]⟩ /- SYS_PAIR_ID -/,
  ⟨0x60, 0, 1, [⟨31, 16, .ro, 0x0⟩, ⟨15, 15, .ro, 0x0⟩, ⟨14, 14, .ro, 0x0⟩, ⟨13, 13, .ro, 0x0⟩, ⟨9, 8, .ro, 0x0⟩, ⟨2, 0, .ro, 0x7⟩]⟩ /- SYS_PAIR_STATUS -/]

/-- Registers of block PWR, with the fields of their tables (R450; reserved bits left out). -/
def regsPWR : List RegDesc := [
  ⟨0x0, 0, 1, [⟨23, 17, .rsc, 0x20⟩, ⟨16, 16, .ro, 0x0⟩, ⟨0, 0, .rsc, 0x0⟩]⟩ /- PWR_CTL -/,
  ⟨0x4, 0, 1, [⟨31, 29, .ro, 0x0⟩, ⟨27, 24, .ro, 0x0⟩, ⟨23, 23, .ro, 0x0⟩, ⟨22, 22, .ro, 0x0⟩, ⟨21, 21, .ro, 0x0⟩, ⟨15, 8, .ro, 0x30⟩, ⟨7, 7, .ro, 0x0⟩, ⟨6, 6, .ro, 0x0⟩, ⟨5, 5, .ro, 0x0⟩, ⟨4, 4, .ro, 0x0⟩, ⟨3, 0, .ro, 0x0⟩]⟩ /- PWR_STATUS -/,
  ⟨0x8, 0, 1, [⟨31, 16, .rwg, 0x64⟩, ⟨15, 8, .rwg, 0x1⟩, ⟨0, 0, .rwg, 0x1⟩]⟩ /- PWR_SEQ -/,
  ⟨0xC, 0, 1, [⟨31, 16, .rsc, 0x64⟩, ⟨15, 15, .ro, 0x0⟩, ⟨7, 0, .rsc, 0x8⟩]⟩ /- PWR_RIDE -/,
  ⟨0x10, 0, 1, [⟨31, 21, .rsc, 0x28A⟩, ⟨20, 20, .ro, 0x0⟩, ⟨19, 16, .rsc, 0x5⟩, ⟨9, 0, .rsc, 0x32⟩]⟩ /- PWR_BANK -/,
  ⟨0x14, 0, 1, [⟨31, 16, .ro, 0xFFFF⟩, ⟨15, 0, .ro, 0x0⟩]⟩ /- PWR_BANK_E -/,
  ⟨0x18, 0, 1, [⟨16, 16, .ro, 0x0⟩, ⟨15, 8, .rsc, 0xD0⟩, ⟨6, 0, .rsc, 0x2C⟩]⟩ /- PWR_BANK_BUS -/,
  ⟨0x1C, 0, 1, [⟨31, 16, .ro, 0x0⟩, ⟨15, 0, .ro, 0x0⟩]⟩ /- PWR_NEED -/,
  ⟨0x20, 0, 1, [⟨31, 31, .ro, 0x0⟩, ⟨28, 22, .rwg, 0x40⟩, ⟨21, 10, .ro, 0x0⟩, ⟨9, 0, .rsc, 0x2EE⟩]⟩ /- PWR_VCORE -/,
  ⟨0x24, 0, 1, [⟨27, 16, .ro, 0x0⟩, ⟨11, 0, .ro, 0x0⟩]⟩ /- PWR_PG -/,
  ⟨0x28, 0, 1, [⟨31, 28, .ro, 0x0⟩, ⟨27, 24, .ro, 0x0⟩, ⟨11, 0, .ro, 0x0⟩]⟩ /- PWR_FAULT -/,
  ⟨0x40, 8, 12, [⟨31, 31, .rwg, 0x0⟩, ⟨30, 30, .rwg, 0x0⟩, ⟨29, 28, .rwg, 0x0⟩, ⟨27, 27, .rwg, 0x0⟩, ⟨11, 0, .rwg, 0x0⟩]⟩ /- PWR_STEPkk_A -/,
  ⟨0x44, 8, 12, [⟨31, 24, .rwg, 0x32⟩, ⟨23, 16, .rwg, 0x14⟩, ⟨9, 0, .rwg, 0xA⟩]⟩ /- PWR_STEPkk_B -/]

/-- Registers of block SHT, with the fields of their tables (R450; reserved bits left out). -/
def regsSHT : List RegDesc := [
  ⟨0x0, 0, 1, [⟨31, 0, .wo, 0x0⟩]⟩ /- SHT_COMMIT -/,
  ⟨0x4, 0, 1, [⟨31, 31, .ro, 0x0⟩, ⟨30, 30, .ro, 0x0⟩, ⟨29, 29, .ro, 0x0⟩, ⟨28, 28, .ro, 0x0⟩, ⟨27, 27, .w1c, 0x0⟩, ⟨9, 8, .ro, 0x0⟩, ⟨3, 0, .ro, 0x0⟩]⟩ /- SHT_STATUS -/,
  ⟨0x8, 0, 1, [⟨29, 0, .ro, 0x0⟩]⟩ /- SHT_FRAME -/,
  ⟨0xC, 0, 1, [⟨31, 16, .ro, 0x0⟩, ⟨5, 0, .rw, 0xA⟩]⟩ /- SHT_STRIP -/,
  ⟨0x10, 0, 1, [⟨1, 0, .wo, 0x0⟩]⟩ /- SHT_REWIND -/,
  ⟨0x14, 0, 1, [⟨31, 0, .ro, 0x0⟩]⟩ /- SHT_PENDING -/]

/-- Registers of block TIM, with the fields of their tables (R450; reserved bits left out). -/
def regsTIM : List RegDesc := [
  ⟨0x0, 0, 1, [⟨31, 0, .ro, 0x0⟩]⟩ /- TIM_NOW_LO -/,
  ⟨0x4, 0, 1, [⟨31, 0, .ro, 0x0⟩]⟩ /- TIM_NOW_HI -/,
  ⟨0x8, 0, 1, [⟨31, 0, .rw, 0x0⟩]⟩ /- TIM_STAMP_LO -/,
  ⟨0xC, 0, 1, [⟨31, 0, .rw, 0x0⟩]⟩ /- TIM_STAMP_HI -/,
  ⟨0x10, 0, 1, [⟨31, 16, .ro, 0x0⟩, ⟨0, 0, .ro, 0x0⟩]⟩ /- TIM_STATUS -/,
  ⟨0x14, 0, 1, [⟨31, 0, .ro, 0x0⟩]⟩ /- TIM_AON_LO -/,
  ⟨0x18, 0, 1, [⟨31, 0, .ro, 0x0⟩]⟩ /- TIM_AON_HI -/,
  ⟨0x1C, 0, 1, [⟨31, 31, .ro, 0x0⟩, ⟨0, 0, .wo, 0x0⟩]⟩ /- TIM_CAP_CTL -/,
  ⟨0x20, 0, 1, [⟨31, 0, .ro, 0x0⟩]⟩ /- TIM_CAP_DEV_LO -/,
  ⟨0x24, 0, 1, [⟨31, 0, .ro, 0x0⟩]⟩ /- TIM_CAP_DEV_HI -/,
  ⟨0x28, 0, 1, [⟨31, 0, .ro, 0x0⟩]⟩ /- TIM_CAP_AON_LO -/,
  ⟨0x2C, 0, 1, [⟨31, 0, .ro, 0x0⟩]⟩ /- TIM_CAP_AON_HI -/]

/-- Registers of block LOG, with the fields of their tables (R450; reserved bits left out). -/
def regsLOG : List RegDesc := [
  ⟨0x0, 0, 1, [⟨31, 16, .rw, 0x64⟩, ⟨6, 0, .rw, 0x32⟩]⟩ /- LOG_CTL -/,
  ⟨0x4, 0, 1, [⟨31, 31, .ro, 0x0⟩, ⟨25, 24, .ro, 0x0⟩, ⟨8, 0, .ro, 0x0⟩]⟩ /- LOG_STATUS -/,
  ⟨0x8, 0, 1, [⟨31, 0, .ro, 0x0⟩]⟩ /- LOG_HEAD_LO -/,
  ⟨0xC, 0, 1, [⟨31, 0, .ro, 0x0⟩]⟩ /- LOG_HEAD_HI -/,
  ⟨0x10, 0, 1, [⟨31, 0, .ro, 0x0⟩]⟩ /- LOG_TAIL_LO -/,
  ⟨0x14, 0, 1, [⟨31, 0, .ro, 0x0⟩]⟩ /- LOG_TAIL_HI -/,
  ⟨0x18, 0, 1, [⟨31, 0, .ro, 0x0⟩]⟩ /- LOG_FLASHED_LO -/,
  ⟨0x1C, 0, 1, [⟨31, 0, .ro, 0x0⟩]⟩ /- LOG_FLASHED_HI -/,
  ⟨0x20, 0, 1, [⟨31, 0, .ro, 0x0⟩]⟩ /- LOG_FIX_FIRST_LO -/,
  ⟨0x24, 0, 1, [⟨31, 0, .ro, 0x0⟩]⟩ /- LOG_FIX_FIRST_HI -/,
  ⟨0x28, 0, 1, [⟨31, 0, .ro, 0x0⟩]⟩ /- LOG_FIX_LAST_LO -/,
  ⟨0x2C, 0, 1, [⟨31, 0, .ro, 0x0⟩]⟩ /- LOG_FIX_LAST_HI -/]

/-- Registers of block SB0, with the fields of their tables (R450; reserved bits left out). -/
def regsSB0 : List RegDesc := [
  ⟨0x0, 0, 1, [⟨31, 31, .ro, 0x0⟩, ⟨5, 4, .rw, 0x3⟩, ⟨3, 3, .rw, 0x0⟩, ⟨2, 2, .rw, 0x0⟩, ⟨1, 0, .rw, 0x2⟩]⟩ /- SB_CTL -/,
  ⟨0x4, 0, 1, [⟨31, 31, .ro, 0x0⟩, ⟨19, 18, .ro, 0x0⟩, ⟨17, 17, .w1c, 0x0⟩, ⟨15, 12, .ro, 0x0⟩, ⟨2, 0, .ro, 0x0⟩]⟩ /- SB_STATUS -/,
  ⟨0x8, 0, 1, [⟨15, 12, .wo, 0x0⟩, ⟨11, 8, .wo, 0x0⟩, ⟨6, 0, .wo, 0x0⟩]⟩ /- SB_CMD -/,
  ⟨0xC, 0, 1, [⟨31, 0, .rw, 0x0⟩]⟩ /- SB_DATA0 -/,
  ⟨0x10, 0, 1, [⟨31, 0, .rw, 0x0⟩]⟩ /- SB_DATA1 -/,
  ⟨0x14, 0, 1, [⟨31, 31, .w1c, 0x0⟩, ⟨30, 24, .ro, 0x0⟩, ⟨15, 0, .ro, 0x0⟩]⟩ /- SB_NOTIFY -/]

/-- Registers of block SB1, with the fields of their tables (R450; reserved bits left out). -/
def regsSB1 : List RegDesc := [
  ⟨0x0, 0, 1, [⟨31, 31, .ro, 0x0⟩, ⟨5, 4, .rsc, 0x3⟩, ⟨3, 3, .rsc, 0x0⟩, ⟨2, 2, .rsc, 0x1⟩, ⟨1, 0, .rsc, 0x1⟩]⟩ /- SB_CTL -/,
  ⟨0x4, 0, 1, [⟨31, 31, .ro, 0x0⟩, ⟨19, 18, .ro, 0x0⟩, ⟨17, 17, .w1c, 0x0⟩, ⟨15, 12, .ro, 0x0⟩, ⟨2, 0, .ro, 0x0⟩]⟩ /- SB_STATUS -/,
  ⟨0x8, 0, 1, [⟨15, 12, .wo, 0x0⟩, ⟨11, 8, .wo, 0x0⟩, ⟨6, 0, .wo, 0x0⟩]⟩ /- SB_CMD -/,
  ⟨0xC, 0, 1, [⟨31, 0, .rsc, 0x0⟩]⟩ /- SB_DATA0 -/,
  ⟨0x10, 0, 1, [⟨31, 0, .rsc, 0x0⟩]⟩ /- SB_DATA1 -/,
  ⟨0x14, 0, 1, [⟨31, 31, .w1c, 0x0⟩, ⟨30, 24, .ro, 0x0⟩, ⟨15, 0, .ro, 0x0⟩]⟩ /- SB_NOTIFY -/]

/-- Registers of block SB2, with the fields of their tables (R450; reserved bits left out). -/
def regsSB2 : List RegDesc := [
  ⟨0x0, 0, 1, [⟨31, 31, .ro, 0x0⟩, ⟨5, 4, .rsc, 0x3⟩, ⟨3, 3, .rsc, 0x1⟩, ⟨2, 2, .rsc, 0x1⟩, ⟨1, 0, .rsc, 0x0⟩]⟩ /- SB_CTL -/,
  ⟨0x4, 0, 1, [⟨31, 31, .ro, 0x0⟩, ⟨19, 18, .ro, 0x0⟩, ⟨17, 17, .w1c, 0x0⟩, ⟨15, 12, .ro, 0x0⟩, ⟨2, 0, .ro, 0x0⟩]⟩ /- SB_STATUS -/,
  ⟨0x8, 0, 1, [⟨15, 12, .wo, 0x0⟩, ⟨11, 8, .wo, 0x0⟩, ⟨6, 0, .wo, 0x0⟩]⟩ /- SB_CMD -/,
  ⟨0xC, 0, 1, [⟨31, 0, .rsc, 0x0⟩]⟩ /- SB_DATA0 -/,
  ⟨0x10, 0, 1, [⟨31, 0, .rsc, 0x0⟩]⟩ /- SB_DATA1 -/,
  ⟨0x14, 0, 1, [⟨31, 31, .w1c, 0x0⟩, ⟨30, 24, .ro, 0x0⟩, ⟨15, 0, .ro, 0x0⟩]⟩ /- SB_NOTIFY -/]

/-- Registers of block SB3, with the fields of their tables (R450; reserved bits left out). -/
def regsSB3 : List RegDesc := [
  ⟨0x0, 0, 1, [⟨31, 31, .ro, 0x0⟩, ⟨5, 4, .rsc, 0x3⟩, ⟨3, 3, .rsc, 0x0⟩, ⟨2, 2, .rsc, 0x1⟩, ⟨1, 0, .rsc, 0x0⟩]⟩ /- SB_CTL -/,
  ⟨0x4, 0, 1, [⟨31, 31, .ro, 0x0⟩, ⟨19, 18, .ro, 0x0⟩, ⟨17, 17, .w1c, 0x0⟩, ⟨15, 12, .ro, 0x0⟩, ⟨2, 0, .ro, 0x0⟩]⟩ /- SB_STATUS -/,
  ⟨0x8, 0, 1, [⟨15, 12, .wo, 0x0⟩, ⟨11, 8, .wo, 0x0⟩, ⟨6, 0, .wo, 0x0⟩]⟩ /- SB_CMD -/,
  ⟨0xC, 0, 1, [⟨31, 0, .rsc, 0x0⟩]⟩ /- SB_DATA0 -/,
  ⟨0x10, 0, 1, [⟨31, 0, .rsc, 0x0⟩]⟩ /- SB_DATA1 -/,
  ⟨0x14, 0, 1, [⟨31, 31, .w1c, 0x0⟩, ⟨30, 24, .ro, 0x0⟩, ⟨15, 0, .ro, 0x0⟩]⟩ /- SB_NOTIFY -/]

/-- Registers of block FLS, with the fields of their tables (R450; reserved bits left out). -/
def regsFLS : List RegDesc := [
  ⟨0x0, 0, 1, [⟨15, 8, .rws, 0x1⟩, ⟨1, 1, .rws, 0x1⟩, ⟨0, 0, .rws, 0x1⟩]⟩ /- FLS_CTL -/,
  ⟨0x4, 0, 1, [⟨23, 16, .ro, 0x0⟩, ⟨15, 12, .ro, 0x0⟩, ⟨11, 8, .ro, 0x0⟩, ⟨6, 4, .ro, 0x0⟩, ⟨2, 0, .ro, 0x0⟩]⟩ /- FLS_STATUS -/,
  ⟨0x8, 0, 1, [⟨31, 31, .ro, 0x0⟩, ⟨19, 16, .ro, 0x0⟩, ⟨3, 0, .rwg, 0x0⟩]⟩ /- FLS_CMD -/,
  ⟨0xC, 0, 1, [⟨26, 0, .rw, 0x0⟩]⟩ /- FLS_ADDR -/,
  ⟨0x20, 4, 8, [⟨31, 0, .rw, 0x0⟩]⟩ /- FLS_DATAk -/,
  ⟨0x40, 0, 1, [⟨31, 0, .rw, 0x0⟩]⟩ /- FLS_PROT_A -/,
  ⟨0x44, 0, 1, [⟨31, 0, .rw, 0x0⟩]⟩ /- FLS_PROT_B -/,
  ⟨0x48, 0, 1, [⟨7, 0, .rw, 0x0⟩]⟩ /- FLS_PROT_INFO -/,
  ⟨0x50, 0, 1, [⟨31, 0, .wo, 0x0⟩]⟩ /- FLS_PWD_LO -/,
  ⟨0x54, 0, 1, [⟨31, 0, .wo, 0x0⟩]⟩ /- FLS_PWD_HI -/,
  ⟨0x58, 0, 1, [⟨31, 31, .ro, 0x0⟩, ⟨3, 3, .ro, 0x0⟩, ⟨2, 0, .ro, 0x0⟩]⟩ /- FLS_PWD_STATUS -/]

/-- Registers of block MBX, with the fields of their tables (R450; reserved bits left out). -/
def regsMBX : List RegDesc := [
  ⟨0x0, 0, 1, [⟨31, 16, .ro, 0x0⟩, ⟨15, 15, .ro, 0x0⟩, ⟨14, 14, .ro, 0x0⟩, ⟨5, 0, .ro, 0x0⟩]⟩ /- MBX_STATUS -/]

/-- Registers of block ENG, with the fields of their tables (R450; reserved bits left out). -/
def regsENG : List RegDesc := [
  ⟨0x0, 0, 1, [⟨31, 24, .ro, 0xFF⟩, ⟨15, 8, .ro, 0x0⟩, ⟨6, 0, .ro, 0x38⟩]⟩ /- ENG_STATUS -/]

/-- Registers of block FLT, with the fields of their tables (R450; reserved bits left out). -/
def regsFLT : List RegDesc := [
  ⟨0x0, 0, 1, [⟨31, 16, .rw, 0xFA⟩, ⟨15, 8, .rw, 0x18⟩, ⟨3, 0, .rw, 0x3⟩]⟩ /- FLT_CTL -/,
  ⟨0x4, 0, 1, [⟨31, 16, .ro, 0x0⟩, ⟨14, 8, .ro, 0x0⟩, ⟨3, 0, .ro, 0x0⟩]⟩ /- FLT_STATUS -/,
  ⟨0x40, 8, 8, [⟨31, 0, .ro, 0x0⟩]⟩ /- FLT_SLOTk_UNIT -/,
  ⟨0x44, 8, 8, [⟨31, 16, .ro, 0x0⟩, ⟨9, 9, .ro, 0x0⟩, ⟨8, 8, .ro, 0x0⟩, ⟨5, 4, .ro, 0x0⟩, ⟨2, 0, .ro, 0x0⟩]⟩ /- FLT_SLOTk_STATE -/,
  ⟨0x80, 0, 1, [⟨31, 0, .ro, 0x0⟩]⟩ /- FLT_LAST_UNIT -/,
  ⟨0x84, 0, 1, [⟨31, 16, .ro, 0x0⟩, ⟨1, 0, .ro, 0x0⟩]⟩ /- FLT_LAST -/]

/-- Registers of block CRY, with the fields of their tables (R450; reserved bits left out). -/
def regsCRY : List RegDesc := [
  ⟨0x0, 0, 1, [⟨31, 24, .ro, 0x0⟩, ⟨23, 16, .ro, 0x0⟩, ⟨3, 3, .ro, 0x0⟩, ⟨2, 2, .ro, 0x0⟩, ⟨1, 1, .ro, 0x0⟩, ⟨0, 0, .rwg, 0x0⟩]⟩ /- CRY_BOOT -/,
  ⟨0x4, 0, 1, [⟨31, 24, .ro, 0x0⟩, ⟨12, 0, .ro, 0x1⟩]⟩ /- CRY_STATUS -/]

/-- Registers of block CXA, with the fields of their tables (R450; reserved bits left out). -/
def regsCXA : List RegDesc := [
  ⟨0x0, 0, 1, [⟨12, 8, .rws, 0x10⟩, ⟨4, 4, .rws, 0x0⟩, ⟨1, 0, .rws, 0x0⟩]⟩ /- CX_CFG -/,
  ⟨0x4, 0, 1, [⟨1, 0, .wo, 0x0⟩]⟩ /- CX_CTL -/,
  ⟨0x10, 4, 2, [⟨17, 16, .ro, 0x0⟩, ⟨12, 12, .w1c, 0x0⟩, ⟨7, 3, .ro, 0x0⟩, ⟨2, 0, .ro, 0x0⟩]⟩ /- CX_LINKk_STATUS -/,
  ⟨0x100, 4, 16, [⟨16, 0, .rw, 0x0⟩]⟩ /- CX_LDnn_SPAN -/]

/-- Registers of block CXB, with the fields of their tables (R450; reserved bits left out). -/
def regsCXB : List RegDesc := [
  ⟨0x0, 0, 1, [⟨12, 8, .rws, 0x10⟩, ⟨4, 4, .rws, 0x0⟩, ⟨1, 0, .rws, 0x0⟩]⟩ /- CX_CFG -/,
  ⟨0x4, 0, 1, [⟨1, 0, .wo, 0x0⟩]⟩ /- CX_CTL -/,
  ⟨0x10, 4, 2, [⟨17, 16, .ro, 0x0⟩, ⟨12, 12, .w1c, 0x0⟩, ⟨7, 3, .ro, 0x0⟩, ⟨2, 0, .ro, 0x0⟩]⟩ /- CX_LINKk_STATUS -/,
  ⟨0x100, 4, 16, [⟨16, 0, .rw, 0x0⟩]⟩ /- CX_LDnn_SPAN -/]

/-- Registers of block NET, with the fields of their tables (R450; reserved bits left out). -/
def regsNET : List RegDesc := [
  ⟨0x0, 0, 1, [⟨1, 1, .rws, 0x1⟩, ⟨0, 0, .rws, 0x0⟩]⟩ /- NET_CTL -/,
  ⟨0x4, 0, 1, [⟨20, 0, .rws, 0x100000⟩]⟩ /- NET_SPILL -/,
  ⟨0x8, 0, 1, [⟨4, 0, .rws, 0x10⟩]⟩ /- NET_CONN -/,
  ⟨0xC, 0, 1, [⟨31, 16, .rw, 0xA⟩, ⟨7, 0, .rw, 0x10⟩]⟩ /- NET_ACK -/,
  ⟨0x10, 0, 1, [⟨7, 0, .rw, 0xC8⟩]⟩ /- NET_FAULT -/,
  ⟨0x14, 0, 1, [⟨18, 16, .rw, 0x6⟩, ⟨15, 0, .rw, 0x32⟩]⟩ /- NET_CNP -/,
  ⟨0x18, 0, 1, [⟨31, 24, .rws, 0x64⟩, ⟨23, 16, .rws, 0x60⟩, ⟨15, 8, .rws, 0x8⟩, ⟨0, 0, .rws, 0x0⟩]⟩ /- NET_PFC -/,
  ⟨0x1C, 0, 1, [⟨15, 0, .rws, 0x12B9⟩]⟩ /- NET_PROBE -/,
  ⟨0x20, 0, 1, [⟨31, 16, .ro, 0x0⟩, ⟨7, 4, .ro, 0x0⟩, ⟨2, 2, .ro, 0x0⟩, ⟨1, 0, .ro, 0x0⟩]⟩ /- NET_REVOKE -/,
  ⟨0x24, 0, 1, [⟨20, 0, .ro, 0x0⟩]⟩ /- NET_CONN_OWN -/,
  ⟨0x28, 0, 1, [⟨20, 0, .ro, 0x0⟩]⟩ /- NET_CONN_SHADOW -/]

/-- Registers of block QPC, with the fields of their tables (R450; reserved bits left out). -/
def regsQPC : List RegDesc := [
  ⟨0x0, 0, 1, [⟨29, 16, .ro, 0x0⟩, ⟨13, 0, .ro, 0x0⟩]⟩ /- QPC_STATUS -/,
  ⟨0x4, 0, 1, [⟨24, 16, .ro, 0x0⟩, ⟨8, 0, .ro, 0x0⟩]⟩ /- QPC_MISS -/]

/-- Registers of block KEY, with the fields of their tables (R450; reserved bits left out). -/
def regsKEY : List RegDesc := [
  ⟨0x0, 0, 1, [⟨18, 0, .ro, 0x0⟩]⟩ /- KEY_STATUS -/,
  ⟨0x4, 0, 1, [⟨16, 0, .ro, 0x0⟩]⟩ /- KEY_DOMAINS -/]

/-- Registers of block En, with the fields of their tables (R450; reserved bits left out). -/
def regsEn : List RegDesc := [
  ⟨0x0, 0, 1, [⟨1, 0, .rws, 0x1⟩]⟩ /- E_CFG -/,
  ⟨0x10, 4, 4, [⟨25, 25, .w1c, 0x0⟩, ⟨24, 24, .w1c, 0x0⟩, ⟨23, 16, .ro, 0x0⟩, ⟨15, 8, .ro, 0x0⟩, ⟨0, 0, .ro, 0x0⟩]⟩ /- E_PORTp_STATUS -/]

/-- Registers of block TWL, with the fields of their tables (R450; reserved bits left out). -/
def regsTWL : List RegDesc := [
  ⟨0x0, 0, 1, [⟨23, 20, .rw, 0x6⟩, ⟨19, 16, .rw, 0x4⟩, ⟨9, 8, .rws, 0x0⟩, ⟨1, 1, .rws, 0x1⟩, ⟨0, 0, .rws, 0x1⟩]⟩ /- TWL_CTL -/,
  ⟨0x4, 0, 1, [⟨31, 16, .ro, 0x2000⟩, ⟨13, 0, .ro, 0x0⟩]⟩ /- TWL_STATUS -/,
  ⟨0x20, 32, 2, [⟨31, 24, .ro, 0x0⟩, ⟨20, 16, .ro, 0x0⟩, ⟨11, 8, .ro, 0x0⟩, ⟨2, 0, .ro, 0x0⟩]⟩ /- TWL_PATHnn_STATUS -/,
  ⟨0x24, 32, 2, [⟨15, 0, .ro, 0x0⟩]⟩ /- TWL_PATHnn_RTT -/,
  ⟨0x28, 32, 2, [⟨1, 1, .rwg, 0x0⟩, ⟨0, 0, .wo, 0x0⟩]⟩ /- TWL_PATHnn_CTL -/]

/-- Registers of block FAB, with the fields of their tables (R450; reserved bits left out). -/
def regsFAB : List RegDesc := [
  ⟨0x100, 0, 1, [⟨28, 16, .rws, 0x400⟩, ⟨12, 0, .rws, 0x80⟩]⟩ /- FAB_TRK_QUOTAnn 0 -/,
  ⟨0x104, 0, 1, [⟨28, 16, .rws, 0x400⟩, ⟨12, 0, .rws, 0x80⟩]⟩ /- FAB_TRK_QUOTAnn 1 -/,
  ⟨0x108, 0, 1, [⟨28, 16, .rws, 0xA00⟩, ⟨12, 0, .rws, 0x200⟩]⟩ /- FAB_TRK_QUOTAnn 2 -/,
  ⟨0x10C, 0, 1, [⟨28, 16, .rws, 0x400⟩, ⟨12, 0, .rws, 0x100⟩]⟩ /- FAB_TRK_QUOTAnn 3 -/,
  ⟨0x110, 0, 1, [⟨28, 16, .rws, 0x100⟩, ⟨12, 0, .rws, 0x40⟩]⟩ /- FAB_TRK_QUOTAnn 4 -/,
  ⟨0x114, 0, 1, [⟨28, 16, .rws, 0x200⟩, ⟨12, 0, .rws, 0x80⟩]⟩ /- FAB_TRK_QUOTAnn 5 -/,
  ⟨0x118, 0, 1, [⟨28, 16, .rws, 0x40⟩, ⟨12, 0, .rws, 0x10⟩]⟩ /- FAB_TRK_QUOTAnn 6 -/,
  ⟨0x11C, 0, 1, [⟨28, 16, .rws, 0x40⟩, ⟨12, 0, .rws, 0x10⟩]⟩ /- FAB_TRK_QUOTAnn 7 -/,
  ⟨0x140, 4, 8, [⟨16, 0, .ro, 0x0⟩]⟩ /- FAB_TRK_USEnn -/,
  ⟨0x160, 4, 8, [⟨16, 0, .rw, 0x0⟩]⟩ /- FAB_TRK_PEAKnn -/,
  ⟨0x180, 0, 1, [⟨31, 24, .ro, 0x0⟩, ⟨16, 0, .ro, 0x10000⟩]⟩ /- FAB_TRK_STATUS -/]

/-- Registers of block LC, with the fields of their tables (R450; reserved bits left out). -/
def regsLC : List RegDesc := [
  ⟨0x0, 0, 1, [⟨1, 1, .rws, 0x1⟩, ⟨0, 0, .rws, 0x1⟩]⟩ /- LC_CTL -/,
  ⟨0x4, 0, 1, [⟨13, 8, .ro, 0x0⟩, ⟨2, 2, .ro, 0x0⟩, ⟨1, 0, .ro, 0x0⟩]⟩ /- LC_STATUS -/,
  ⟨0x8, 0, 1, [⟨21, 0, .ro, 0x0⟩]⟩ /- LC_DIRTY -/,
  ⟨0x10, 0, 1, [⟨31, 0, .rw, 0x0⟩]⟩ /- LC_OP_FIRST_LO -/,
  ⟨0x14, 0, 1, [⟨11, 0, .rw, 0x0⟩]⟩ /- LC_OP_FIRST_HI -/,
  ⟨0x18, 0, 1, [⟨31, 0, .rw, 0x0⟩]⟩ /- LC_OP_LAST_LO -/,
  ⟨0x1C, 0, 1, [⟨11, 0, .rw, 0x0⟩]⟩ /- LC_OP_LAST_HI -/,
  ⟨0x20, 0, 1, [⟨11, 8, .wo, 0x0⟩, ⟨2, 0, .wo, 0x0⟩]⟩ /- LC_OP_CMD -/,
  ⟨0x24, 0, 1, [⟨31, 31, .ro, 0x0⟩, ⟨1, 0, .ro, 0x0⟩]⟩ /- LC_OP_STATUS -/,
  ⟨0x40, 0, 1, [⟨31, 16, .rws, 0xFFFF⟩, ⟨15, 15, .rws, 0x0⟩, ⟨14, 14, .rws, 0x0⟩, ⟨13, 13, .rws, 0x0⟩, ⟨11, 0, .rws, 0x0⟩]⟩ /- LC_CLASSnn 0 -/,
  ⟨0x44, 0, 1, [⟨31, 16, .rws, 0xFFFF⟩, ⟨15, 15, .rws, 0x0⟩, ⟨14, 14, .rws, 0x0⟩, ⟨13, 13, .rws, 0x0⟩, ⟨11, 0, .rws, 0x0⟩]⟩ /- LC_CLASSnn 1 -/,
  ⟨0x48, 0, 1, [⟨31, 16, .rws, 0xFFFF⟩, ⟨15, 15, .rws, 0x0⟩, ⟨14, 14, .rws, 0x0⟩, ⟨13, 13, .rws, 0x0⟩, ⟨11, 0, .rws, 0x0⟩]⟩ /- LC_CLASSnn 2 -/,
  ⟨0x4C, 0, 1, [⟨31, 16, .rws, 0xFFFF⟩, ⟨15, 15, .rws, 0x0⟩, ⟨14, 14, .rws, 0x0⟩, ⟨13, 13, .rws, 0x0⟩, ⟨11, 0, .rws, 0x0⟩]⟩ /- LC_CLASSnn 3 -/,
  ⟨0x50, 0, 1, [⟨31, 16, .rws, 0x0⟩, ⟨15, 15, .rws, 0x0⟩, ⟨14, 14, .rws, 0x0⟩, ⟨13, 13, .rws, 0x0⟩, ⟨11, 0, .rws, 0x0⟩]⟩ /- LC_CLASSnn 4 -/,
  ⟨0x54, 0, 1, [⟨31, 16, .rws, 0x0⟩, ⟨15, 15, .rws, 0x0⟩, ⟨14, 14, .rws, 0x0⟩, ⟨13, 13, .rws, 0x0⟩, ⟨11, 0, .rws, 0x0⟩]⟩ /- LC_CLASSnn 5 -/,
  ⟨0x58, 0, 1, [⟨31, 16, .rws, 0x0⟩, ⟨15, 15, .rws, 0x0⟩, ⟨14, 14, .rws, 0x0⟩, ⟨13, 13, .rws, 0x0⟩, ⟨11, 0, .rws, 0x0⟩]⟩ /- LC_CLASSnn 6 -/,
  ⟨0x5C, 0, 1, [⟨31, 16, .rws, 0x0⟩, ⟨15, 15, .rws, 0x0⟩, ⟨14, 14, .rws, 0x0⟩, ⟨13, 13, .rws, 0x0⟩, ⟨11, 0, .rws, 0x0⟩]⟩ /- LC_CLASSnn 7 -/,
  ⟨0x60, 0, 1, [⟨31, 16, .rws, 0x0⟩, ⟨15, 15, .rws, 0x0⟩, ⟨14, 14, .rws, 0x0⟩, ⟨13, 13, .rws, 0x0⟩, ⟨11, 0, .rws, 0x0⟩]⟩ /- LC_CLASSnn 8 -/,
  ⟨0x64, 0, 1, [⟨31, 16, .rws, 0x0⟩, ⟨15, 15, .rws, 0x0⟩, ⟨14, 14, .rws, 0x0⟩, ⟨13, 13, .rws, 0x0⟩, ⟨11, 0, .rws, 0x0⟩]⟩ /- LC_CLASSnn 9 -/,
  ⟨0x68, 0, 1, [⟨31, 16, .rws, 0x0⟩, ⟨15, 15, .rws, 0x0⟩, ⟨14, 14, .rws, 0x0⟩, ⟨13, 13, .rws, 0x0⟩, ⟨11, 0, .rws, 0x0⟩]⟩ /- LC_CLASSnn 10 -/,
  ⟨0x6C, 0, 1, [⟨31, 16, .rws, 0x0⟩, ⟨15, 15, .rws, 0x0⟩, ⟨14, 14, .rws, 0x0⟩, ⟨13, 13, .rws, 0x0⟩, ⟨11, 0, .rws, 0x0⟩]⟩ /- LC_CLASSnn 11 -/,
  ⟨0x70, 0, 1, [⟨31, 16, .rws, 0x0⟩, ⟨15, 15, .rws, 0x0⟩, ⟨14, 14, .rws, 0x0⟩, ⟨13, 13, .rws, 0x0⟩, ⟨11, 0, .rws, 0x0⟩]⟩ /- LC_CLASSnn 12 -/,
  ⟨0x74, 0, 1, [⟨31, 16, .rws, 0x0⟩, ⟨15, 15, .rws, 0x0⟩, ⟨14, 14, .rws, 0x0⟩, ⟨13, 13, .rws, 0x0⟩, ⟨11, 0, .rws, 0x0⟩]⟩ /- LC_CLASSnn 13 -/,
  ⟨0x78, 0, 1, [⟨31, 16, .rws, 0x0⟩, ⟨15, 15, .rws, 0x0⟩, ⟨14, 14, .rws, 0x0⟩, ⟨13, 13, .rws, 0x0⟩, ⟨11, 0, .rws, 0x0⟩]⟩ /- LC_CLASSnn 14 -/,
  ⟨0x7C, 0, 1, [⟨31, 16, .rws, 0x0⟩, ⟨15, 15, .rws, 0x0⟩, ⟨14, 14, .rws, 0x0⟩, ⟨13, 13, .rws, 0x0⟩, ⟨11, 0, .rws, 0x0⟩]⟩ /- LC_CLASSnn 15 -/,
  ⟨0x100, 4, 64, [⟨15, 0, .ro, 0x0⟩]⟩ /- LC_WAYOFFnn -/]

/-- Registers of block TM, with the fields of their tables (R450; reserved bits left out). -/
def regsTM : List RegDesc := [
  ⟨0x0, 0, 1, [⟨15, 8, .rws, 0x40⟩, ⟨2, 2, .rws, 0x1⟩, ⟨1, 1, .rws, 0x1⟩, ⟨0, 0, .rws, 0x1⟩]⟩ /- TM_CTL -/,
  ⟨0x4, 0, 1, [⟨31, 16, .rws, 0x80⟩, ⟨6, 0, .rws, 0x40⟩]⟩ /- TM_MOVE -/,
  ⟨0x8, 0, 1, [⟨15, 0, .rws, 0x64⟩]⟩ /- TM_AGE -/,
  ⟨0x10, 0, 1, [⟨31, 31, .ro, 0x0⟩, ⟨22, 16, .ro, 0x0⟩, ⟨9, 0, .ro, 0x0⟩]⟩ /- TM_STATUS -/,
  ⟨0x14, 0, 1, [⟨31, 16, .ro, 0x0⟩, ⟨15, 0, .ro, 0x0⟩]⟩ /- TM_HBM_PLACES -/,
  ⟨0x18, 0, 1, [⟨31, 31, .ro, 0x0⟩, ⟨30, 16, .ro, 0x0⟩, ⟨15, 0, .ro, 0x0⟩]⟩ /- TM_HBM_STAGED -/,
  ⟨0x780, 0, 1, [⟨15, 11, .rws, 0x10⟩, ⟨10, 8, .rws, 0x1⟩, ⟨7, 5, .rws, 0x4⟩, ⟨0, 0, .rws, 0x0⟩]⟩ /- TM_XMAP_GEOM -/,
  ⟨0x800, 0, 1, [⟨31, 6, .rws, 0x1⟩]⟩ /- TM_XMAPnn_LO 0 -/,
  ⟨0x804, 8, 20, [⟨11, 0, .rws, 0x0⟩]⟩ /- TM_XMAPnn_HI -/,
  ⟨0x808, 0, 1, [⟨31, 6, .rws, 0x8⟩]⟩ /- TM_XMAPnn_LO 1 -/,
  ⟨0x810, 0, 1, [⟨31, 6, .rws, 0x10⟩]⟩ /- TM_XMAPnn_LO 2 -/,
  ⟨0x818, 0, 1, [⟨31, 6, .rws, 0x20⟩]⟩ /- TM_XMAPnn_LO 3 -/,
  ⟨0x820, 0, 1, [⟨31, 6, .rws, 0x40⟩]⟩ /- TM_XMAPnn_LO 4 -/,
  ⟨0x828, 0, 1, [⟨31, 6, .rws, 0x80⟩]⟩ /- TM_XMAPnn_LO 5 -/,
  ⟨0x830, 0, 1, [⟨31, 6, .rws, 0x100⟩]⟩ /- TM_XMAPnn_LO 6 -/,
  ⟨0x838, 0, 1, [⟨31, 6, .rws, 0x200⟩]⟩ /- TM_XMAPnn_LO 7 -/,
  ⟨0x840, 0, 1, [⟨31, 6, .rws, 0x400⟩]⟩ /- TM_XMAPnn_LO 8 -/,
  ⟨0x848, 0, 1, [⟨31, 6, .rws, 0x800⟩]⟩ /- TM_XMAPnn_LO 9 -/,
  ⟨0x880, 0, 1, [⟨31, 6, .rws, 0x1⟩]⟩ /- TM_XMAPnn_LO 16 -/,
  ⟨0x888, 0, 1, [⟨31, 6, .rws, 0x2⟩]⟩ /- TM_XMAPnn_LO 17 -/,
  ⟨0x890, 0, 1, [⟨31, 6, .rws, 0x4⟩]⟩ /- TM_XMAPnn_LO 18 -/,
  ⟨0x898, 0, 1, [⟨31, 6, .rws, 0x8⟩]⟩ /- TM_XMAPnn_LO 19 -/,
  ⟨0x8A0, 0, 1, [⟨31, 6, .rws, 0x10⟩]⟩ /- TM_XMAPnn_LO 20 -/,
  ⟨0x8A8, 0, 1, [⟨31, 6, .rws, 0x20⟩]⟩ /- TM_XMAPnn_LO 21 -/,
  ⟨0x8B0, 0, 1, [⟨31, 6, .rws, 0x40⟩]⟩ /- TM_XMAPnn_LO 22 -/,
  ⟨0x8B8, 0, 1, [⟨31, 6, .rws, 0x80⟩]⟩ /- TM_XMAPnn_LO 23 -/,
  ⟨0x8C0, 0, 1, [⟨31, 6, .rws, 0x100⟩]⟩ /- TM_XMAPnn_LO 24 -/,
  ⟨0x8C8, 0, 1, [⟨31, 6, .rws, 0x200⟩]⟩ /- TM_XMAPnn_LO 25 -/]

/-- Registers of block EC, with the fields of their tables (R450; reserved bits left out). -/
def regsEC : List RegDesc := [
  ⟨0x0, 0, 1, [⟨2, 2, .rws, 0x0⟩, ⟨1, 1, .rws, 0x1⟩, ⟨0, 0, .rws, 0x1⟩]⟩ /- EC_CTL -/,
  ⟨0x4, 0, 1, [⟨23, 16, .rws, 0x50⟩, ⟨15, 0, .rws, 0x168⟩]⟩ /- EC_SCRUB -/,
  ⟨0x8, 0, 1, [⟨7, 0, .rw, 0x20⟩]⟩ /- EC_MARK -/,
  ⟨0x10, 0, 1, [⟨31, 16, .ro, 0x0⟩, ⟨8, 8, .ro, 0x0⟩, ⟨7, 0, .ro, 0x0⟩]⟩ /- EC_SCRUB_STATUS -/,
  ⟨0x14, 0, 1, [⟨15, 0, .ro, 0x0⟩]⟩ /- EC_SCRUB_RATE -/,
  ⟨0x100, 0, 1, [⟨31, 31, .ro, 0x0⟩, ⟨30, 28, .ro, 0x0⟩, ⟨12, 12, .rwg, 0x0⟩, ⟨11, 8, .rwg, 0x0⟩, ⟨7, 6, .rwg, 0x0⟩, ⟨2, 0, .rwg, 0x0⟩]⟩ /- EC_TEST_CTL -/,
  ⟨0x104, 0, 1, [⟨31, 0, .rw, 0x0⟩]⟩ /- EC_TEST_ADDR_LO -/,
  ⟨0x108, 0, 1, [⟨31, 31, .rw, 0x0⟩, ⟨11, 0, .rw, 0x0⟩]⟩ /- EC_TEST_ADDR_HI -/,
  ⟨0x140, 4, 16, [⟨31, 0, .rw, 0x0⟩]⟩ /- EC_TEST_DATAk -/,
  ⟨0x180, 4, 4, [⟨31, 16, .rw, 0x0⟩, ⟨15, 0, .rw, 0x0⟩]⟩ /- EC_TEST_CHKk -/,
  ⟨0x1A0, 0, 1, [⟨31, 30, .ro, 0x0⟩, ⟨29, 24, .ro, 0x0⟩, ⟨7, 0, .ro, 0x0⟩]⟩ /- EC_TEST_RES -/,
  ⟨0x1A4, 0, 1, [⟨31, 0, .ro, 0x0⟩]⟩ /- EC_TEST_SYM -/,
  ⟨0x200, 0, 1, [⟨31, 16, .ro, 0x0⟩, ⟨13, 8, .ro, 0x20⟩, ⟨5, 0, .ro, 0x0⟩]⟩ /- EC_REMAPnn 0 -/,
  ⟨0x204, 0, 1, [⟨31, 16, .ro, 0x0⟩, ⟨13, 8, .ro, 0x20⟩, ⟨5, 0, .ro, 0x0⟩]⟩ /- EC_REMAPnn 1 -/,
  ⟨0x208, 0, 1, [⟨31, 16, .ro, 0x0⟩, ⟨13, 8, .ro, 0x20⟩, ⟨5, 0, .ro, 0x0⟩]⟩ /- EC_REMAPnn 2 -/,
  ⟨0x20C, 0, 1, [⟨31, 16, .ro, 0x0⟩, ⟨13, 8, .ro, 0x20⟩, ⟨5, 0, .ro, 0x0⟩]⟩ /- EC_REMAPnn 3 -/,
  ⟨0x210, 0, 1, [⟨31, 16, .ro, 0x0⟩, ⟨13, 8, .ro, 0x20⟩, ⟨5, 0, .ro, 0x0⟩]⟩ /- EC_REMAPnn 4 -/,
  ⟨0x214, 0, 1, [⟨31, 16, .ro, 0x0⟩, ⟨13, 8, .ro, 0x20⟩, ⟨5, 0, .ro, 0x0⟩]⟩ /- EC_REMAPnn 5 -/,
  ⟨0x218, 0, 1, [⟨31, 16, .ro, 0x0⟩, ⟨13, 8, .ro, 0x20⟩, ⟨5, 0, .ro, 0x0⟩]⟩ /- EC_REMAPnn 6 -/,
  ⟨0x21C, 0, 1, [⟨31, 16, .ro, 0x0⟩, ⟨13, 8, .ro, 0x20⟩, ⟨5, 0, .ro, 0x0⟩]⟩ /- EC_REMAPnn 7 -/,
  ⟨0x220, 0, 1, [⟨31, 16, .ro, 0x0⟩, ⟨13, 8, .ro, 0x20⟩, ⟨5, 0, .ro, 0x0⟩]⟩ /- EC_REMAPnn 8 -/,
  ⟨0x224, 0, 1, [⟨31, 16, .ro, 0x0⟩, ⟨13, 8, .ro, 0x20⟩, ⟨5, 0, .ro, 0x0⟩]⟩ /- EC_REMAPnn 9 -/,
  ⟨0x228, 0, 1, [⟨31, 16, .ro, 0x0⟩, ⟨13, 8, .ro, 0x20⟩, ⟨5, 0, .ro, 0x0⟩]⟩ /- EC_REMAPnn 10 -/,
  ⟨0x22C, 0, 1, [⟨31, 16, .ro, 0x0⟩, ⟨13, 8, .ro, 0x20⟩, ⟨5, 0, .ro, 0x0⟩]⟩ /- EC_REMAPnn 11 -/,
  ⟨0x230, 0, 1, [⟨31, 16, .ro, 0x0⟩, ⟨13, 8, .ro, 0x20⟩, ⟨5, 0, .ro, 0x0⟩]⟩ /- EC_REMAPnn 12 -/,
  ⟨0x234, 0, 1, [⟨31, 16, .ro, 0x0⟩, ⟨13, 8, .ro, 0x20⟩, ⟨5, 0, .ro, 0x0⟩]⟩ /- EC_REMAPnn 13 -/,
  ⟨0x238, 0, 1, [⟨31, 16, .ro, 0x0⟩, ⟨13, 8, .ro, 0x20⟩, ⟨5, 0, .ro, 0x0⟩]⟩ /- EC_REMAPnn 14 -/,
  ⟨0x23C, 0, 1, [⟨31, 16, .ro, 0x0⟩, ⟨13, 8, .ro, 0x20⟩, ⟨5, 0, .ro, 0x0⟩]⟩ /- EC_REMAPnn 15 -/,
  ⟨0x240, 0, 1, [⟨31, 16, .ro, 0x0⟩, ⟨13, 8, .ro, 0x10⟩, ⟨5, 0, .ro, 0x0⟩]⟩ /- EC_REMAPnn 16 -/,
  ⟨0x244, 0, 1, [⟨31, 16, .ro, 0x0⟩, ⟨13, 8, .ro, 0x10⟩, ⟨5, 0, .ro, 0x0⟩]⟩ /- EC_REMAPnn 17 -/,
  ⟨0x248, 0, 1, [⟨31, 16, .ro, 0x0⟩, ⟨13, 8, .ro, 0x10⟩, ⟨5, 0, .ro, 0x0⟩]⟩ /- EC_REMAPnn 18 -/,
  ⟨0x24C, 0, 1, [⟨31, 16, .ro, 0x0⟩, ⟨13, 8, .ro, 0x10⟩, ⟨5, 0, .ro, 0x0⟩]⟩ /- EC_REMAPnn 19 -/,
  ⟨0x250, 0, 1, [⟨31, 16, .ro, 0x0⟩, ⟨13, 8, .ro, 0x10⟩, ⟨5, 0, .ro, 0x0⟩]⟩ /- EC_REMAPnn 20 -/,
  ⟨0x254, 0, 1, [⟨31, 16, .ro, 0x0⟩, ⟨13, 8, .ro, 0x10⟩, ⟨5, 0, .ro, 0x0⟩]⟩ /- EC_REMAPnn 21 -/,
  ⟨0x258, 0, 1, [⟨31, 16, .ro, 0x0⟩, ⟨13, 8, .ro, 0x10⟩, ⟨5, 0, .ro, 0x0⟩]⟩ /- EC_REMAPnn 22 -/,
  ⟨0x25C, 0, 1, [⟨31, 16, .ro, 0x0⟩, ⟨13, 8, .ro, 0x10⟩, ⟨5, 0, .ro, 0x0⟩]⟩ /- EC_REMAPnn 23 -/,
  ⟨0x260, 0, 1, [⟨31, 16, .ro, 0x0⟩, ⟨13, 8, .ro, 0x10⟩, ⟨5, 0, .ro, 0x0⟩]⟩ /- EC_REMAPnn 24 -/,
  ⟨0x264, 0, 1, [⟨31, 16, .ro, 0x0⟩, ⟨13, 8, .ro, 0x10⟩, ⟨5, 0, .ro, 0x0⟩]⟩ /- EC_REMAPnn 25 -/,
  ⟨0x268, 0, 1, [⟨31, 16, .ro, 0x0⟩, ⟨13, 8, .ro, 0x10⟩, ⟨5, 0, .ro, 0x0⟩]⟩ /- EC_REMAPnn 26 -/,
  ⟨0x26C, 0, 1, [⟨31, 16, .ro, 0x0⟩, ⟨13, 8, .ro, 0x10⟩, ⟨5, 0, .ro, 0x0⟩]⟩ /- EC_REMAPnn 27 -/,
  ⟨0x270, 0, 1, [⟨31, 16, .ro, 0x0⟩, ⟨13, 8, .ro, 0x10⟩, ⟨5, 0, .ro, 0x0⟩]⟩ /- EC_REMAPnn 28 -/,
  ⟨0x274, 0, 1, [⟨31, 16, .ro, 0x0⟩, ⟨13, 8, .ro, 0x10⟩, ⟨5, 0, .ro, 0x0⟩]⟩ /- EC_REMAPnn 29 -/,
  ⟨0x278, 0, 1, [⟨31, 16, .ro, 0x0⟩, ⟨13, 8, .ro, 0x10⟩, ⟨5, 0, .ro, 0x0⟩]⟩ /- EC_REMAPnn 30 -/,
  ⟨0x27C, 0, 1, [⟨31, 16, .ro, 0x0⟩, ⟨13, 8, .ro, 0x10⟩, ⟨5, 0, .ro, 0x0⟩]⟩ /- EC_REMAPnn 31 -/,
  ⟨0x280, 0, 1, [⟨31, 16, .ro, 0x0⟩, ⟨13, 8, .ro, 0x10⟩, ⟨5, 0, .ro, 0x0⟩]⟩ /- EC_REMAPnn 32 -/,
  ⟨0x284, 0, 1, [⟨31, 16, .ro, 0x0⟩, ⟨13, 8, .ro, 0x10⟩, ⟨5, 0, .ro, 0x0⟩]⟩ /- EC_REMAPnn 33 -/,
  ⟨0x288, 0, 1, [⟨31, 16, .ro, 0x0⟩, ⟨13, 8, .ro, 0x10⟩, ⟨5, 0, .ro, 0x0⟩]⟩ /- EC_REMAPnn 34 -/,
  ⟨0x28C, 0, 1, [⟨31, 16, .ro, 0x0⟩, ⟨13, 8, .ro, 0x10⟩, ⟨5, 0, .ro, 0x0⟩]⟩ /- EC_REMAPnn 35 -/,
  ⟨0x290, 0, 1, [⟨31, 16, .ro, 0x0⟩, ⟨13, 8, .ro, 0x10⟩, ⟨5, 0, .ro, 0x0⟩]⟩ /- EC_REMAPnn 36 -/,
  ⟨0x294, 0, 1, [⟨31, 16, .ro, 0x0⟩, ⟨13, 8, .ro, 0x10⟩, ⟨5, 0, .ro, 0x0⟩]⟩ /- EC_REMAPnn 37 -/,
  ⟨0x298, 0, 1, [⟨31, 16, .ro, 0x0⟩, ⟨13, 8, .ro, 0x10⟩, ⟨5, 0, .ro, 0x0⟩]⟩ /- EC_REMAPnn 38 -/,
  ⟨0x29C, 0, 1, [⟨31, 16, .ro, 0x0⟩, ⟨13, 8, .ro, 0x10⟩, ⟨5, 0, .ro, 0x0⟩]⟩ /- EC_REMAPnn 39 -/,
  ⟨0x2A0, 0, 1, [⟨31, 16, .ro, 0x0⟩, ⟨13, 8, .ro, 0x10⟩, ⟨5, 0, .ro, 0x0⟩]⟩ /- EC_REMAPnn 40 -/,
  ⟨0x2A4, 0, 1, [⟨31, 16, .ro, 0x0⟩, ⟨13, 8, .ro, 0x10⟩, ⟨5, 0, .ro, 0x0⟩]⟩ /- EC_REMAPnn 41 -/,
  ⟨0x2A8, 0, 1, [⟨31, 16, .ro, 0x0⟩, ⟨13, 8, .ro, 0x10⟩, ⟨5, 0, .ro, 0x0⟩]⟩ /- EC_REMAPnn 42 -/,
  ⟨0x2AC, 0, 1, [⟨31, 16, .ro, 0x0⟩, ⟨13, 8, .ro, 0x10⟩, ⟨5, 0, .ro, 0x0⟩]⟩ /- EC_REMAPnn 43 -/,
  ⟨0x2B0, 0, 1, [⟨31, 16, .ro, 0x0⟩, ⟨13, 8, .ro, 0x10⟩, ⟨5, 0, .ro, 0x0⟩]⟩ /- EC_REMAPnn 44 -/,
  ⟨0x2B4, 0, 1, [⟨31, 16, .ro, 0x0⟩, ⟨13, 8, .ro, 0x10⟩, ⟨5, 0, .ro, 0x0⟩]⟩ /- EC_REMAPnn 45 -/,
  ⟨0x2B8, 0, 1, [⟨31, 16, .ro, 0x0⟩, ⟨13, 8, .ro, 0x10⟩, ⟨5, 0, .ro, 0x0⟩]⟩ /- EC_REMAPnn 46 -/,
  ⟨0x2BC, 0, 1, [⟨31, 16, .ro, 0x0⟩, ⟨13, 8, .ro, 0x10⟩, ⟨5, 0, .ro, 0x0⟩]⟩ /- EC_REMAPnn 47 -/]

/-- Registers of block VLT, with the fields of their tables (R450; reserved bits left out). -/
def regsVLT : List RegDesc := [
  ⟨0x0, 0, 1, [⟨1, 1, .rws, 0x1⟩, ⟨0, 0, .rws, 0x1⟩]⟩ /- VLT_CTL -/,
  ⟨0x4, 0, 1, [⟨31, 24, .rws, 0x50⟩, ⟨23, 16, .rws, 0x14⟩, ⟨6, 0, .rws, 0x30⟩]⟩ /- VLT_WINDOW -/,
  ⟨0x8, 0, 1, [⟨31, 31, .ro, 0x0⟩, ⟨24, 0, .ro, 0x0⟩]⟩ /- VLT_WINDOW_STATUS -/,
  ⟨0xC, 0, 1, [⟨15, 0, .ro, 0x3C⟩]⟩ /- VLT_NEED -/,
  ⟨0x10, 0, 1, [⟨31, 16, .rws, 0x258⟩, ⟨15, 0, .rws, 0x400⟩]⟩ /- VLT_CKPT -/,
  ⟨0x14, 0, 1, [⟨7, 0, .rws, 0x5⟩]⟩ /- VLT_CLEAN -/,
  ⟨0x20, 4, 8, [⟨2, 0, .rws, 0x2⟩]⟩ /- VLT_ZONEnn -/,
  ⟨0x40, 0, 1, [⟨31, 30, .ro, 0x0⟩, ⟨29, 29, .ro, 0x0⟩, ⟨28, 16, .ro, 0x0⟩, ⟨15, 8, .ro, 0x0⟩, ⟨7, 0, .ro, 0x0⟩]⟩ /- VLT_STATUS -/,
  ⟨0x44, 0, 1, [⟨31, 16, .ro, 0x0⟩, ⟨15, 0, .ro, 0x0⟩]⟩ /- VLT_PRESERVE_LAST -/,
  ⟨0x50, 0, 1, [⟨0, 0, .rwg, 0x0⟩]⟩ /- VLT_ERASE -/]

/-- Registers of block DC, with the fields of their tables (R450; reserved bits left out). -/
def regsDC : List RegDesc := [
  ⟨0x0, 0, 1, [⟨23, 20, .rws, 0x4⟩, ⟨17, 16, .ro, 0x0⟩, ⟨8, 8, .rws, 0x1⟩, ⟨1, 1, .rws, 0x1⟩, ⟨0, 0, .rws, 0x1⟩]⟩ /- DC_CFG -/,
  ⟨0x4, 0, 1, [⟨14, 8, .rws, 0x30⟩, ⟨6, 0, .rws, 0x10⟩]⟩ /- DC_WQ -/,
  ⟨0x10, 0, 1, [⟨15, 0, .rws, 0x19⟩]⟩ /- DC_TARGETk 0 -/,
  ⟨0x14, 0, 1, [⟨15, 0, .rws, 0x190⟩]⟩ /- DC_TARGETk 1 -/,
  ⟨0x18, 0, 1, [⟨15, 0, .rws, 0xC8⟩]⟩ /- DC_TARGETk 2 -/,
  ⟨0x1C, 0, 1, [⟨15, 0, .rws, 0x7D0⟩]⟩ /- DC_TARGETk 3 -/,
  ⟨0x20, 0, 1, [⟨15, 0, .rws, 0x64⟩]⟩ /- DC_TARGETk 4 -/,
  ⟨0x24, 0, 1, [⟨15, 0, .rws, 0x1388⟩]⟩ /- DC_TARGETk 5 -/,
  ⟨0x30, 0, 1, [⟨23, 16, .rw, 0x5F⟩, ⟨15, 8, .rw, 0x55⟩, ⟨3, 0, .rw, 0x1⟩]⟩ /- DC_THERM -/,
  ⟨0x34, 0, 1, [⟨31, 16, .rw, 0x80⟩, ⟨15, 0, .rw, 0x20⟩]⟩ /- DC_CAL -/,
  ⟨0x38, 0, 1, [⟨31, 16, .rw, 0x64⟩, ⟨15, 0, .rw, 0x7D0⟩]⟩ /- DC_FREEZE -/,
  ⟨0x40, 0, 1, [⟨31, 24, .ro, 0x0⟩, ⟨23, 23, .ro, 0x0⟩, ⟨22, 22, .ro, 0x0⟩, ⟨18, 16, .ro, 0x0⟩, ⟨14, 8, .ro, 0x0⟩, ⟨6, 0, .ro, 0x0⟩]⟩ /- DC_STATUS -/,
  ⟨0x50, 0, 1, [⟨31, 28, .ro, 0x0⟩, ⟨27, 27, .ro, 0x0⟩, ⟨26, 22, .ro, 0x0⟩, ⟨21, 19, .ro, 0x0⟩, ⟨18, 17, .ro, 0x0⟩, ⟨16, 0, .ro, 0x0⟩]⟩ /- DC_CAP0 -/,
  ⟨0x54, 0, 1, [⟨31, 0, .ro, 0x0⟩]⟩ /- DC_CAP1 -/,
  ⟨0x58, 0, 1, [⟨27, 16, .ro, 0x0⟩, ⟨11, 0, .ro, 0x0⟩]⟩ /- DC_CAP2 -/,
  ⟨0x5C, 0, 1, [⟨31, 0, .ro, 0x0⟩]⟩ /- DC_CAP3 -/,
  ⟨0x60, 0, 1, [⟨1, 0, .rwg, 0x0⟩]⟩ /- DC_ACTION -/]

/-- Registers of block HC, with the fields of their tables (R450; reserved bits left out). -/
def regsHC : List RegDesc := [
  ⟨0x0, 0, 1, [⟨23, 20, .rws, 0x4⟩, ⟨17, 16, .ro, 0x0⟩, ⟨8, 8, .rws, 0x1⟩, ⟨1, 1, .rws, 0x1⟩, ⟨0, 0, .rws, 0x1⟩]⟩ /- DC_CFG -/,
  ⟨0x4, 0, 1, [⟨14, 8, .rws, 0x30⟩, ⟨6, 0, .rws, 0x10⟩]⟩ /- DC_WQ -/,
  ⟨0x10, 0, 1, [⟨15, 0, .rws, 0x19⟩]⟩ /- DC_TARGETk 0 -/,
  ⟨0x14, 0, 1, [⟨15, 0, .rws, 0x190⟩]⟩ /- DC_TARGETk 1 -/,
  ⟨0x18, 0, 1, [⟨15, 0, .rws, 0xC8⟩]⟩ /- DC_TARGETk 2 -/,
  ⟨0x1C, 0, 1, [⟨15, 0, .rws, 0x7D0⟩]⟩ /- DC_TARGETk 3 -/,
  ⟨0x20, 0, 1, [⟨15, 0, .rws, 0x64⟩]⟩ /- DC_TARGETk 4 -/,
  ⟨0x24, 0, 1, [⟨15, 0, .rws, 0x1388⟩]⟩ /- DC_TARGETk 5 -/,
  ⟨0x30, 0, 1, [⟨23, 16, .rw, 0x5F⟩, ⟨15, 8, .rw, 0x55⟩, ⟨3, 0, .rw, 0x1⟩]⟩ /- DC_THERM -/,
  ⟨0x34, 0, 1, [⟨31, 16, .rw, 0x80⟩, ⟨15, 0, .rw, 0x20⟩]⟩ /- DC_CAL -/,
  ⟨0x38, 0, 1, [⟨31, 16, .rw, 0x64⟩, ⟨15, 0, .rw, 0x7D0⟩]⟩ /- DC_FREEZE -/,
  ⟨0x40, 0, 1, [⟨31, 24, .ro, 0x0⟩, ⟨23, 23, .ro, 0x0⟩, ⟨22, 22, .ro, 0x0⟩, ⟨18, 16, .ro, 0x0⟩, ⟨14, 8, .ro, 0x0⟩, ⟨6, 0, .ro, 0x0⟩]⟩ /- DC_STATUS -/,
  ⟨0x50, 0, 1, [⟨31, 28, .ro, 0x0⟩, ⟨27, 27, .ro, 0x0⟩, ⟨26, 22, .ro, 0x0⟩, ⟨21, 19, .ro, 0x0⟩, ⟨18, 17, .ro, 0x0⟩, ⟨16, 0, .ro, 0x0⟩]⟩ /- DC_CAP0 -/,
  ⟨0x54, 0, 1, [⟨31, 0, .ro, 0x0⟩]⟩ /- DC_CAP1 -/,
  ⟨0x58, 0, 1, [⟨27, 16, .ro, 0x0⟩, ⟨11, 0, .ro, 0x0⟩]⟩ /- DC_CAP2 -/,
  ⟨0x5C, 0, 1, [⟨31, 0, .ro, 0x0⟩]⟩ /- DC_CAP3 -/,
  ⟨0x60, 0, 1, [⟨1, 0, .rwg, 0x0⟩]⟩ /- DC_ACTION -/]

/-- Registers of block NF, with the fields of their tables (R450; reserved bits left out). -/
def regsNF : List RegDesc := [
  ⟨0x0, 0, 1, [⟨19, 16, .rws, 0x7⟩, ⟨8, 8, .rws, 0x1⟩, ⟨5, 4, .ro, 0x0⟩, ⟨3, 0, .ro, 0x0⟩]⟩ /- NF_CFG -/,
  ⟨0x4, 0, 1, [⟨31, 0, .ro, 0x0⟩]⟩ /- NF_STATUS -/,
  ⟨0x8, 0, 1, [⟨1, 0, .ro, 0x0⟩]⟩ /- NF_STATE -/]

/-- 64-bit counters of block SYS: offset, stride, number. -/
def ctrsSYS : List (Nat × Nat × Nat) := [(0x70, 0, 1), (0x78, 0, 1), (0x80, 0, 1), (0x88, 0, 1), (0x90, 0, 1), (0x98, 0, 1), (0xA0, 0, 1)]

/-- 64-bit counters of block PWR: offset, stride, number. -/
def ctrsPWR : List (Nat × Nat × Nat) := [(0x100, 0, 1), (0x108, 0, 1), (0x110, 0, 1), (0x118, 0, 1), (0x120, 0, 1)]

/-- 64-bit counters of block SHT: offset, stride, number. -/
def ctrsSHT : List (Nat × Nat × Nat) := [(0x100, 0, 1), (0x108, 0, 1), (0x110, 0, 1), (0x118, 0, 1)]

/-- 64-bit counters of block TIM: offset, stride, number. -/
def ctrsTIM : List (Nat × Nat × Nat) := []

/-- 64-bit counters of block LOG: offset, stride, number. -/
def ctrsLOG : List (Nat × Nat × Nat) := [(0x40, 0, 1), (0x48, 0, 1), (0x50, 0, 1), (0x58, 0, 1)]

/-- 64-bit counters of block SB0: offset, stride, number. -/
def ctrsSB0 : List (Nat × Nat × Nat) := [(0x40, 0, 1), (0x48, 0, 1), (0x50, 0, 1), (0x58, 0, 1), (0x60, 0, 1), (0x68, 0, 1), (0x70, 0, 1), (0x78, 0, 1)]

/-- 64-bit counters of block SB1: offset, stride, number. -/
def ctrsSB1 : List (Nat × Nat × Nat) := [(0x40, 0, 1), (0x48, 0, 1), (0x50, 0, 1), (0x58, 0, 1), (0x60, 0, 1), (0x68, 0, 1), (0x70, 0, 1), (0x78, 0, 1)]

/-- 64-bit counters of block SB2: offset, stride, number. -/
def ctrsSB2 : List (Nat × Nat × Nat) := [(0x40, 0, 1), (0x48, 0, 1), (0x50, 0, 1), (0x58, 0, 1), (0x60, 0, 1), (0x68, 0, 1), (0x70, 0, 1), (0x78, 0, 1)]

/-- 64-bit counters of block SB3: offset, stride, number. -/
def ctrsSB3 : List (Nat × Nat × Nat) := [(0x40, 0, 1), (0x48, 0, 1), (0x50, 0, 1), (0x58, 0, 1), (0x60, 0, 1), (0x68, 0, 1), (0x70, 0, 1), (0x78, 0, 1)]

/-- 64-bit counters of block FLS: offset, stride, number. -/
def ctrsFLS : List (Nat × Nat × Nat) := [(0x80, 0, 1), (0x88, 0, 1), (0x90, 0, 1), (0x98, 0, 1), (0xA0, 0, 1), (0xA8, 0, 1)]

/-- 64-bit counters of block MBX: offset, stride, number. -/
def ctrsMBX : List (Nat × Nat × Nat) := [(0x100, 0, 1), (0x108, 0, 1), (0x110, 0, 1), (0x118, 0, 1)]

/-- 64-bit counters of block ENG: offset, stride, number. -/
def ctrsENG : List (Nat × Nat × Nat) := []

/-- 64-bit counters of block FLT: offset, stride, number. -/
def ctrsFLT : List (Nat × Nat × Nat) := [(0x100, 0, 1), (0x108, 0, 1), (0x110, 0, 1), (0x118, 0, 1), (0x120, 0, 1), (0x128, 0, 1), (0x130, 0, 1), (0x138, 0, 1), (0x140, 0, 1), (0x148, 0, 1), (0x150, 0, 1), (0x158, 0, 1)]

/-- 64-bit counters of block CRY: offset, stride, number. -/
def ctrsCRY : List (Nat × Nat × Nat) := [(0x100, 0, 1), (0x108, 0, 1), (0x110, 0, 1), (0x118, 0, 1)]

/-- 64-bit counters of block CXA: offset, stride, number. -/
def ctrsCXA : List (Nat × Nat × Nat) := [(0x200, 128, 2), (0x208, 128, 2), (0x210, 128, 2), (0x218, 128, 2), (0x220, 128, 2), (0x228, 128, 2), (0x230, 128, 2), (0x238, 128, 2), (0x240, 128, 2), (0x248, 128, 2), (0x250, 128, 2), (0x258, 128, 2), (0x400, 0, 1)]

/-- 64-bit counters of block CXB: offset, stride, number. -/
def ctrsCXB : List (Nat × Nat × Nat) := [(0x200, 128, 2), (0x208, 128, 2), (0x210, 128, 2), (0x218, 128, 2), (0x220, 128, 2), (0x228, 128, 2), (0x230, 128, 2), (0x238, 128, 2), (0x240, 128, 2), (0x248, 128, 2), (0x250, 128, 2), (0x258, 128, 2), (0x400, 0, 1)]

/-- 64-bit counters of block NET: offset, stride, number. -/
def ctrsNET : List (Nat × Nat × Nat) := [(0x200, 0, 1), (0x208, 0, 1), (0x210, 0, 1), (0x218, 0, 1), (0x220, 0, 1), (0x228, 0, 1), (0x230, 0, 1), (0x238, 0, 1), (0x240, 0, 1), (0x248, 0, 1), (0x250, 0, 1), (0x258, 0, 1), (0x260, 0, 1)]

/-- 64-bit counters of block QPC: offset, stride, number. -/
def ctrsQPC : List (Nat × Nat × Nat) := []

/-- 64-bit counters of block KEY: offset, stride, number. -/
def ctrsKEY : List (Nat × Nat × Nat) := []

/-- 64-bit counters of block En: offset, stride, number. -/
def ctrsEn : List (Nat × Nat × Nat) := [(0x100, 64, 4), (0x108, 64, 4), (0x110, 64, 4), (0x118, 64, 4), (0x120, 64, 4), (0x128, 64, 4)]

/-- 64-bit counters of block TWL: offset, stride, number. -/
def ctrsTWL : List (Nat × Nat × Nat) := [(0x100, 128, 2), (0x108, 128, 2), (0x110, 128, 2), (0x118, 128, 2), (0x120, 128, 2), (0x128, 128, 2), (0x130, 128, 2), (0x138, 128, 2), (0x140, 128, 2), (0x148, 128, 2), (0x150, 128, 2), (0x200, 0, 1), (0x208, 0, 1), (0x210, 0, 1), (0x218, 0, 1), (0x220, 0, 1)]

/-- 64-bit counters of block FAB: offset, stride, number. -/
def ctrsFAB : List (Nat × Nat × Nat) := [(0x200, 0, 1), (0x208, 0, 1), (0x210, 0, 1), (0x218, 0, 1), (0x220, 0, 1), (0x228, 0, 1), (0x230, 0, 1)]

/-- 64-bit counters of block LC: offset, stride, number. -/
def ctrsLC : List (Nat × Nat × Nat) := [(0x400, 16, 16), (0x408, 16, 16), (0x600, 0, 1), (0x608, 0, 1), (0x610, 0, 1), (0x618, 0, 1), (0x620, 0, 1), (0x628, 0, 1), (0x630, 0, 1), (0x638, 0, 1), (0x640, 0, 1)]

/-- 64-bit counters of block TM: offset, stride, number. -/
def ctrsTM : List (Nat × Nat × Nat) := [(0x100, 0, 1), (0x108, 0, 1), (0x110, 0, 1), (0x118, 0, 1), (0x120, 0, 1), (0x128, 0, 1), (0x130, 0, 1), (0x138, 0, 1), (0x140, 0, 1), (0x148, 0, 1), (0x150, 0, 1), (0x158, 0, 1)]

/-- 64-bit counters of block EC: offset, stride, number. -/
def ctrsEC : List (Nat × Nat × Nat) := [(0x400, 0, 1), (0x408, 0, 1), (0x410, 0, 1), (0x418, 0, 1), (0x420, 0, 1), (0x428, 0, 1), (0x430, 0, 1), (0x438, 0, 1), (0x440, 0, 1), (0x448, 0, 1), (0x450, 0, 1), (0x458, 0, 1), (0x460, 0, 1), (0x468, 0, 1), (0x470, 0, 1)]

/-- 64-bit counters of block VLT: offset, stride, number. -/
def ctrsVLT : List (Nat × Nat × Nat) := [(0x100, 0, 1), (0x108, 0, 1), (0x110, 0, 1), (0x118, 0, 1), (0x120, 0, 1), (0x128, 0, 1), (0x130, 0, 1), (0x138, 0, 1), (0x140, 0, 1), (0x148, 0, 1), (0x150, 0, 1), (0x158, 0, 1)]

/-- 64-bit counters of block DC: offset, stride, number. -/
def ctrsDC : List (Nat × Nat × Nat) := [(0x100, 0, 1), (0x108, 0, 1), (0x110, 0, 1), (0x118, 0, 1), (0x120, 0, 1), (0x128, 0, 1), (0x130, 0, 1), (0x138, 0, 1), (0x140, 8, 6), (0x170, 0, 1)]

/-- 64-bit counters of block HC: offset, stride, number. -/
def ctrsHC : List (Nat × Nat × Nat) := [(0x100, 0, 1), (0x108, 0, 1), (0x110, 0, 1), (0x118, 0, 1), (0x120, 0, 1), (0x128, 0, 1), (0x130, 0, 1), (0x138, 0, 1), (0x140, 8, 6), (0x170, 0, 1)]

/-- 64-bit counters of block NF: offset, stride, number. -/
def ctrsNF : List (Nat × Nat × Nat) := []

/-- R450: the blocks and their pages. -/
def blocks : List Block := [
  ⟨0x0, 1, 8, 0, true, regsSYS, ctrsSYS⟩,
  ⟨0x1, 1, 9, 0, true, regsPWR, ctrsPWR⟩,
  ⟨0x2, 1, 9, 12, false, regsSHT, ctrsSHT⟩,
  ⟨0x3, 1, 7, 11, true, regsTIM, ctrsTIM⟩,
  ⟨0x4, 1, 8, 11, false, regsLOG, ctrsLOG⟩,
  ⟨0x5, 1, 7, 11, false, regsSB0, ctrsSB0⟩,
  ⟨0x6, 1, 7, 11, true, regsSB1, ctrsSB1⟩,
  ⟨0x7, 1, 7, 11, true, regsSB2, ctrsSB2⟩,
  ⟨0x8, 1, 7, 11, true, regsSB3, ctrsSB3⟩,
  ⟨0x9, 1, 8, 12, false, regsFLS, ctrsFLS⟩,
  ⟨0xA, 1, 9, 12, false, regsMBX, ctrsMBX⟩,
  ⟨0xB, 1, 4, 12, false, regsENG, ctrsENG⟩,
  ⟨0xC, 1, 9, 12, false, regsFLT, ctrsFLT⟩,
  ⟨0xD, 1, 9, 12, false, regsCRY, ctrsCRY⟩,
  ⟨0x10, 1, 11, 9, false, regsCXA, ctrsCXA⟩,
  ⟨0x11, 1, 11, 10, false, regsCXB, ctrsCXB⟩,
  ⟨0x12, 1, 10, 8, false, regsNET, ctrsNET⟩,
  ⟨0x13, 1, 3, 8, false, regsQPC, ctrsQPC⟩,
  ⟨0x14, 1, 3, 8, false, regsKEY, ctrsKEY⟩,
  ⟨0x18, 8, 10, 8, false, regsEn, ctrsEn⟩,
  ⟨0x20, 1, 10, 7, false, regsTWL, ctrsTWL⟩,
  ⟨0x21, 1, 10, 1, false, regsFAB, ctrsFAB⟩,
  ⟨0x22, 1, 11, 2, false, regsLC, ctrsLC⟩,
  ⟨0x23, 1, 12, 3, false, regsTM, ctrsTM⟩,
  ⟨0x24, 1, 11, 5, false, regsEC, ctrsEC⟩,
  ⟨0x25, 1, 9, 6, false, regsVLT, ctrsVLT⟩,
  ⟨0x40, 16, 9, 4, false, regsDC, ctrsDC⟩,
  ⟨0x60, 32, 9, 4, false, regsHC, ctrsHC⟩,
  ⟨0x80, 32, 4, 6, false, regsNF, ctrsNF⟩]

/-- The block that holds a page. -/
def blockOfPage (page : Nat) : Option Block :=
  blocks.find? (fun b => decide (b.page ≤ page) && decide (page < b.page + b.pages))

/-- Whether a register of shape `r` stands at in-block offset `o`. -/
def RegDesc.holds (r : RegDesc) (o : Nat) : Bool :=
  if r.stride = 0 then o == r.off
  else decide (r.off ≤ o) && (o - r.off) % r.stride == 0 && decide ((o - r.off) / r.stride < r.num)

/-- The register at BAR2 offset `a` of the live view (already folded by R451). -/
def regAt (a : Nat) : Option RegDesc :=
  match blockOfPage (a / 0x10000) with
  | none => none
  | some b => b.regs.find? (fun r => r.holds (a % 0x10000))

/-- Whether a 64-bit counter starts at BAR2 offset `a` of the live view. -/
def ctrAt (a : Nat) : Bool :=
  match blockOfPage (a / 0x10000) with
  | none => false
  | some b => b.ctrs.any (fun c =>
      if c.2.1 = 0 then a % 0x10000 == c.1
      else decide (c.1 ≤ a % 0x10000) && (a % 0x10000 - c.1) % c.2.1 == 0
        && decide ((a % 0x10000 - c.1) / c.2.1 < c.2.2))

/-- The mask of bits `hi` down to `lo`. -/
def bitMask (hi lo : Nat) : Nat := (2 ^ (hi + 1 - lo) - 1) * 2 ^ lo

/-- The mask of a register's fields with an access code among `accs`. -/
def RegDesc.maskOf (r : RegDesc) (accs : List Acc) : BitVec 32 :=
  BitVec.ofNat 32 (r.fields.foldl (fun m f => if accs.contains f.acc then m + bitMask f.hi f.lo else m) 0)

/-- The reset word of a register. -/
def RegDesc.resetWord (r : RegDesc) : BitVec 32 :=
  BitVec.ofNat 32 (r.fields.foldl (fun m f => m + f.reset * 2 ^ f.lo) 0)

/-- The reset word of the register at `a`; 0 where there is none. -/
def resetAt (a : Nat) : BitVec 32 :=
  match regAt a with
  | none => 0
  | some r => r.resetWord


/-! Register addresses, by the names of the spec: the BAR2 offset in the live view. Arrays take their index; paged
blocks (En, DC, HC, NF, CXA and CXB, SBn) take the page as `p`. -/

abbrev Reg.SYS_ID : Nat := 0x0
abbrev Reg.SYS_UNLOCK : Nat := 0x10
abbrev Reg.SYS_UNLOCK_STATUS : Nat := 0x14
abbrev Reg.SYS_MODE : Nat := 0x40
abbrev Reg.SYS_MODE_REQ : Nat := 0x44
abbrev Reg.SYS_HOLD : Nat := 0x48
abbrev Reg.SYS_POOL : Nat := 0x50
abbrev Reg.SYS_PAIR : Nat := 0x58
abbrev Reg.SYS_PAIR_ID : Nat := 0x5C
abbrev Reg.SYS_PAIR_STATUS : Nat := 0x60
abbrev Reg.PWR_CTL : Nat := 0x10000
abbrev Reg.PWR_STATUS : Nat := 0x10004
abbrev Reg.PWR_SEQ : Nat := 0x10008
abbrev Reg.PWR_RIDE : Nat := 0x1000C
abbrev Reg.PWR_BANK : Nat := 0x10010
abbrev Reg.PWR_BANK_E : Nat := 0x10014
abbrev Reg.PWR_BANK_BUS : Nat := 0x10018
abbrev Reg.PWR_NEED : Nat := 0x1001C
abbrev Reg.PWR_VCORE : Nat := 0x10020
abbrev Reg.PWR_PG : Nat := 0x10024
abbrev Reg.PWR_FAULT : Nat := 0x10028
abbrev Reg.PWR_STEP_A (n : Nat) : Nat := 0x10040 + 8 * n
abbrev Reg.PWR_STEP_B (n : Nat) : Nat := 0x10044 + 8 * n
abbrev Reg.SHT_COMMIT : Nat := 0x20000
abbrev Reg.SHT_STATUS : Nat := 0x20004
abbrev Reg.SHT_FRAME : Nat := 0x20008
abbrev Reg.SHT_STRIP : Nat := 0x2000C
abbrev Reg.SHT_REWIND : Nat := 0x20010
abbrev Reg.SHT_PENDING : Nat := 0x20014
abbrev Reg.TIM_NOW_LO : Nat := 0x30000
abbrev Reg.TIM_NOW_HI : Nat := 0x30004
abbrev Reg.TIM_STAMP_LO : Nat := 0x30008
abbrev Reg.TIM_STAMP_HI : Nat := 0x3000C
abbrev Reg.TIM_STATUS : Nat := 0x30010
abbrev Reg.TIM_AON_LO : Nat := 0x30014
abbrev Reg.TIM_AON_HI : Nat := 0x30018
abbrev Reg.TIM_CAP_CTL : Nat := 0x3001C
abbrev Reg.TIM_CAP_DEV_LO : Nat := 0x30020
abbrev Reg.TIM_CAP_DEV_HI : Nat := 0x30024
abbrev Reg.TIM_CAP_AON_LO : Nat := 0x30028
abbrev Reg.TIM_CAP_AON_HI : Nat := 0x3002C
abbrev Reg.LOG_CTL : Nat := 0x40000
abbrev Reg.LOG_STATUS : Nat := 0x40004
abbrev Reg.LOG_HEAD_LO : Nat := 0x40008
abbrev Reg.LOG_HEAD_HI : Nat := 0x4000C
abbrev Reg.LOG_TAIL_LO : Nat := 0x40010
abbrev Reg.LOG_TAIL_HI : Nat := 0x40014
abbrev Reg.LOG_FLASHED_LO : Nat := 0x40018
abbrev Reg.LOG_FLASHED_HI : Nat := 0x4001C
abbrev Reg.LOG_FIX_FIRST_LO : Nat := 0x40020
abbrev Reg.LOG_FIX_FIRST_HI : Nat := 0x40024
abbrev Reg.LOG_FIX_LAST_LO : Nat := 0x40028
abbrev Reg.LOG_FIX_LAST_HI : Nat := 0x4002C
abbrev Reg.SB_CTL (p : Nat) : Nat := p * 0x10000 + 0x0
abbrev Reg.SB_STATUS (p : Nat) : Nat := p * 0x10000 + 0x4
abbrev Reg.SB_CMD (p : Nat) : Nat := p * 0x10000 + 0x8
abbrev Reg.SB_DATA0 (p : Nat) : Nat := p * 0x10000 + 0xC
abbrev Reg.SB_DATA1 (p : Nat) : Nat := p * 0x10000 + 0x10
abbrev Reg.SB_NOTIFY (p : Nat) : Nat := p * 0x10000 + 0x14
abbrev Reg.FLS_CTL : Nat := 0x90000
abbrev Reg.FLS_STATUS : Nat := 0x90004
abbrev Reg.FLS_CMD : Nat := 0x90008
abbrev Reg.FLS_ADDR : Nat := 0x9000C
abbrev Reg.FLS_DATA (n : Nat) : Nat := 0x90020 + 4 * n
abbrev Reg.FLS_PROT_A : Nat := 0x90040
abbrev Reg.FLS_PROT_B : Nat := 0x90044
abbrev Reg.FLS_PROT_INFO : Nat := 0x90048
abbrev Reg.FLS_PWD_LO : Nat := 0x90050
abbrev Reg.FLS_PWD_HI : Nat := 0x90054
abbrev Reg.FLS_PWD_STATUS : Nat := 0x90058
abbrev Reg.MBX_STATUS : Nat := 0xA0000
abbrev Reg.ENG_STATUS : Nat := 0xB0000
abbrev Reg.FLT_CTL : Nat := 0xC0000
abbrev Reg.FLT_STATUS : Nat := 0xC0004
abbrev Reg.FLT_SLOT_UNIT (n : Nat) : Nat := 0xC0040 + 8 * n
abbrev Reg.FLT_SLOT_STATE (n : Nat) : Nat := 0xC0044 + 8 * n
abbrev Reg.FLT_LAST_UNIT : Nat := 0xC0080
abbrev Reg.FLT_LAST : Nat := 0xC0084
abbrev Reg.CRY_BOOT : Nat := 0xD0000
abbrev Reg.CRY_STATUS : Nat := 0xD0004
abbrev Reg.CX_CFG (p : Nat) : Nat := p * 0x10000 + 0x0
abbrev Reg.CX_CTL (p : Nat) : Nat := p * 0x10000 + 0x4
abbrev Reg.CX_LINK_STATUS (p : Nat) (n : Nat) : Nat := p * 0x10000 + 0x10 + 4 * n
abbrev Reg.CX_LD_SPAN (p : Nat) (n : Nat) : Nat := p * 0x10000 + 0x100 + 4 * n
abbrev Reg.NET_CTL : Nat := 0x120000
abbrev Reg.NET_SPILL : Nat := 0x120004
abbrev Reg.NET_CONN : Nat := 0x120008
abbrev Reg.NET_ACK : Nat := 0x12000C
abbrev Reg.NET_FAULT : Nat := 0x120010
abbrev Reg.NET_CNP : Nat := 0x120014
abbrev Reg.NET_PFC : Nat := 0x120018
abbrev Reg.NET_PROBE : Nat := 0x12001C
abbrev Reg.NET_REVOKE : Nat := 0x120020
abbrev Reg.NET_CONN_OWN : Nat := 0x120024
abbrev Reg.NET_CONN_SHADOW : Nat := 0x120028
abbrev Reg.QPC_STATUS : Nat := 0x130000
abbrev Reg.QPC_MISS : Nat := 0x130004
abbrev Reg.KEY_STATUS : Nat := 0x140000
abbrev Reg.KEY_DOMAINS : Nat := 0x140004
abbrev Reg.E_CFG (p : Nat) : Nat := p * 0x10000 + 0x0
abbrev Reg.E_PORT_STATUS (p : Nat) (n : Nat) : Nat := p * 0x10000 + 0x10 + 4 * n
abbrev Reg.TWL_CTL : Nat := 0x200000
abbrev Reg.TWL_STATUS : Nat := 0x200004
abbrev Reg.TWL_PATH_STATUS (n : Nat) : Nat := 0x200020 + 32 * n
abbrev Reg.TWL_PATH_RTT (n : Nat) : Nat := 0x200024 + 32 * n
abbrev Reg.TWL_PATH_CTL (n : Nat) : Nat := 0x200028 + 32 * n
abbrev Reg.FAB_TRK_QUOTA (n : Nat) : Nat := 0x210100 + 4 * n
abbrev Reg.FAB_TRK_USE (n : Nat) : Nat := 0x210140 + 4 * n
abbrev Reg.FAB_TRK_PEAK (n : Nat) : Nat := 0x210160 + 4 * n
abbrev Reg.FAB_TRK_STATUS : Nat := 0x210180
abbrev Reg.LC_CTL : Nat := 0x220000
abbrev Reg.LC_STATUS : Nat := 0x220004
abbrev Reg.LC_DIRTY : Nat := 0x220008
abbrev Reg.LC_OP_FIRST_LO : Nat := 0x220010
abbrev Reg.LC_OP_FIRST_HI : Nat := 0x220014
abbrev Reg.LC_OP_LAST_LO : Nat := 0x220018
abbrev Reg.LC_OP_LAST_HI : Nat := 0x22001C
abbrev Reg.LC_OP_CMD : Nat := 0x220020
abbrev Reg.LC_OP_STATUS : Nat := 0x220024
abbrev Reg.LC_CLASS (n : Nat) : Nat := 0x220040 + 4 * n
abbrev Reg.LC_WAYOFF (n : Nat) : Nat := 0x220100 + 4 * n
abbrev Reg.TM_CTL : Nat := 0x230000
abbrev Reg.TM_MOVE : Nat := 0x230004
abbrev Reg.TM_AGE : Nat := 0x230008
abbrev Reg.TM_STATUS : Nat := 0x230010
abbrev Reg.TM_HBM_PLACES : Nat := 0x230014
abbrev Reg.TM_HBM_STAGED : Nat := 0x230018
abbrev Reg.TM_XMAP_GEOM : Nat := 0x230780
abbrev Reg.TM_XMAP_LO (n : Nat) : Nat := 0x230800 + 8 * n
abbrev Reg.TM_XMAP_HI (n : Nat) : Nat := 0x230804 + 8 * n
abbrev Reg.EC_CTL : Nat := 0x240000
abbrev Reg.EC_SCRUB : Nat := 0x240004
abbrev Reg.EC_MARK : Nat := 0x240008
abbrev Reg.EC_SCRUB_STATUS : Nat := 0x240010
abbrev Reg.EC_SCRUB_RATE : Nat := 0x240014
abbrev Reg.EC_TEST_CTL : Nat := 0x240100
abbrev Reg.EC_TEST_ADDR_LO : Nat := 0x240104
abbrev Reg.EC_TEST_ADDR_HI : Nat := 0x240108
abbrev Reg.EC_TEST_DATA (n : Nat) : Nat := 0x240140 + 4 * n
abbrev Reg.EC_TEST_CHK (n : Nat) : Nat := 0x240180 + 4 * n
abbrev Reg.EC_TEST_RES : Nat := 0x2401A0
abbrev Reg.EC_TEST_SYM : Nat := 0x2401A4
abbrev Reg.EC_REMAP (n : Nat) : Nat := 0x240200 + 4 * n
abbrev Reg.VLT_CTL : Nat := 0x250000
abbrev Reg.VLT_WINDOW : Nat := 0x250004
abbrev Reg.VLT_WINDOW_STATUS : Nat := 0x250008
abbrev Reg.VLT_NEED : Nat := 0x25000C
abbrev Reg.VLT_CKPT : Nat := 0x250010
abbrev Reg.VLT_CLEAN : Nat := 0x250014
abbrev Reg.VLT_ZONE (n : Nat) : Nat := 0x250020 + 4 * n
abbrev Reg.VLT_STATUS : Nat := 0x250040
abbrev Reg.VLT_PRESERVE_LAST : Nat := 0x250044
abbrev Reg.VLT_ERASE : Nat := 0x250050
abbrev Reg.DC_CFG (p : Nat) : Nat := p * 0x10000 + 0x0
abbrev Reg.DC_WQ (p : Nat) : Nat := p * 0x10000 + 0x4
abbrev Reg.DC_TARGET (p : Nat) (n : Nat) : Nat := p * 0x10000 + 0x10 + 4 * n
abbrev Reg.DC_THERM (p : Nat) : Nat := p * 0x10000 + 0x30
abbrev Reg.DC_CAL (p : Nat) : Nat := p * 0x10000 + 0x34
abbrev Reg.DC_FREEZE (p : Nat) : Nat := p * 0x10000 + 0x38
abbrev Reg.DC_STATUS (p : Nat) : Nat := p * 0x10000 + 0x40
abbrev Reg.DC_CAP0 (p : Nat) : Nat := p * 0x10000 + 0x50
abbrev Reg.DC_CAP1 (p : Nat) : Nat := p * 0x10000 + 0x54
abbrev Reg.DC_CAP2 (p : Nat) : Nat := p * 0x10000 + 0x58
abbrev Reg.DC_CAP3 (p : Nat) : Nat := p * 0x10000 + 0x5C
abbrev Reg.DC_ACTION (p : Nat) : Nat := p * 0x10000 + 0x60
abbrev Reg.NF_CFG (p : Nat) : Nat := p * 0x10000 + 0x0
abbrev Reg.NF_STATUS (p : Nat) : Nat := p * 0x10000 + 0x4
abbrev Reg.NF_STATE (p : Nat) : Nat := p * 0x10000 + 0x8

/-! Counter addresses (64-bit counters, live view). -/

/-- Twin-loss declarations. -/
abbrev Ctr.SYS_CNT_TWIN_LOST : Nat := 0x70
/-- Lines poisoned for an intent without data. -/
abbrev Ctr.SYS_CNT_INTENT_POISON : Nat := 0x78
/-- Extent ownership handovers completed. -/
abbrev Ctr.SYS_CNT_HANDOVER : Nat := 0x80
/-- Extents resynced. -/
abbrev Ctr.SYS_CNT_RESYNC_EXT : Nat := 0x88
/-- BOUNDED writes that waited in MIRROR for the lag bound or for intent credit. -/
abbrev Ctr.SYS_CNT_LAG_HOLD : Nat := 0x90
/-- Guarded writes refused, and SYS_UNLOCK writes of a wrong key. -/
abbrev Ctr.SYS_CNT_GUARD_REFUSED : Nat := 0x98
/-- Writes narrower than 32 bits dropped under R453. -/
abbrev Ctr.SYS_CNT_NARROW_WR : Nat := 0xA0
/-- Ride-throughs ended without PRESERVE (R511). -/
abbrev Ctr.PWR_CNT_RIDE : Nat := 0x10100
/-- Power-good lows of 2 µs or less on qualified steps. -/
abbrev Ctr.PWR_CNT_PG_GLITCH : Nat := 0x10108
/-- Sequence faults. -/
abbrev Ctr.PWR_CNT_SEQ_FAULT : Nat := 0x10110
/-- Rail faults under R504. -/
abbrev Ctr.PWR_CNT_RAIL_FAULT : Nat := 0x10118
/-- Steps logged RAIL_STUCK under R507. -/
abbrev Ctr.PWR_CNT_RAIL_STUCK : Nat := 0x10120
/-- Commits applied, accepted rewinds included (R472). -/
abbrev Ctr.SHT_CNT_COMMIT : Nat := 0x20100
/-- Commits and rewinds rejected, BUSY included. -/
abbrev Ctr.SHT_CNT_REJECT : Nat := 0x20108
/-- Automatic rewinds under R474. -/
abbrev Ctr.SHT_CNT_AUTO_REWIND : Nat := 0x20110
/-- Live-view writes to RWS fields ignored under R456. -/
abbrev Ctr.SHT_CNT_LIVE_WR : Nat := 0x20118
/-- Records staged. -/
abbrev Ctr.LOG_CNT_RECORD : Nat := 0x40040
/-- Records dropped under R539. -/
abbrev Ctr.LOG_CNT_OVERFLOW : Nat := 0x40048
/-- Flushes completed. -/
abbrev Ctr.LOG_CNT_FLUSH : Nat := 0x40050
/-- Records failing their CRC during scans and snapshots. -/
abbrev Ctr.LOG_CNT_CRC : Nat := 0x40058
/-- Transfers ended DONE. -/
abbrev Ctr.SB_CNT_XFER (p : Nat) : Nat := p * 0x10000 + 0x40
/-- Transfers ended NAK_ADDR or NAK_DATA. -/
abbrev Ctr.SB_CNT_NAK (p : Nat) : Nat := p * 0x10000 + 0x48
/-- Arbitration losses (R529). -/
abbrev Ctr.SB_CNT_ARB_LOST (p : Nat) : Nat := p * 0x10000 + 0x50
/-- Bus errors (R531). -/
abbrev Ctr.SB_CNT_BUS_ERR (p : Nat) : Nat := p * 0x10000 + 0x58
/-- Hang cures applied (R527). -/
abbrev Ctr.SB_CNT_HANG (p : Nat) : Nat := p * 0x10000 + 0x60
/-- Clock-low timeouts (R526). -/
abbrev Ctr.SB_CNT_TIMEOUT (p : Nat) : Nat := p * 0x10000 + 0x68
/-- Whole Host Notify messages received. -/
abbrev Ctr.SB_CNT_NOTIFY (p : Nat) : Nat := p * 0x10000 + 0x70
/-- Host Notify messages discarded (R532, R533). -/
abbrev Ctr.SB_CNT_NOTIFY_DROP (p : Nat) : Nat := p * 0x10000 + 0x78
/-- Register reads answered with the status word. -/
abbrev Ctr.FLS_CNT_READ_BUSY : Nat := 0x90080
/-- Programs ending with FAIL. -/
abbrev Ctr.FLS_CNT_PROG_FAIL : Nat := 0x90088
/-- Erases ending with FAIL. -/
abbrev Ctr.FLS_CNT_ERASE_FAIL : Nat := 0x90090
/-- Suspends for cox-pair fetches under R481. -/
abbrev Ctr.FLS_CNT_FETCH_SUSPEND : Nat := 0x90098
/-- Sectors erased again under R494. -/
abbrev Ctr.FLS_CNT_JOURNAL_REERASE : Nat := 0x900A0
/-- PROT_WRITE and PWD_SET refused with PASSWORD. -/
abbrev Ctr.FLS_CNT_PWD_REFUSED : Nat := 0x900A8
/-- Commands completed, all mailboxes. -/
abbrev Ctr.MBX_CNT_CMD : Nat := 0xA0100
/-- Commands returned Busy under R421, R422 or R423. -/
abbrev Ctr.MBX_CNT_BUSY : Nat := 0xA0108
/-- Commands refused with NOT_PRIVILEGED. -/
abbrev Ctr.MBX_CNT_NOPRIV : Nat := 0xA0110
/-- Completions discarded or commands cancelled under R424. -/
abbrev Ctr.MBX_CNT_RESET_LOST : Nat := 0xA0118
/-- INFO events. -/
abbrev Ctr.FLT_CNT_INFO : Nat := 0xC0100
/-- MINOR events. -/
abbrev Ctr.FLT_CNT_MINOR : Nat := 0xC0108
/-- MAJOR events. -/
abbrev Ctr.FLT_CNT_MAJOR : Nat := 0xC0110
/-- CRITICAL events. -/
abbrev Ctr.FLT_CNT_CRITICAL : Nat := 0xC0118
/-- Units found transient. -/
abbrev Ctr.FLT_CNT_TRANSIENT : Nat := 0xC0120
/-- Units found lasting, escalations included. -/
abbrev Ctr.FLT_CNT_LASTING : Nat := 0xC0128
/-- Escalations under R408 or R410. -/
abbrev Ctr.FLT_CNT_ESCALATED : Nat := 0xC0130
/-- Units fenced under R409. -/
abbrev Ctr.FLT_CNT_OVERFLOW : Nat := 0xC0138
/-- Handshake stalls. -/
abbrev Ctr.FLT_CNT_STALL : Nat := 0xC0140
/-- Stuck-operation events under R402. -/
abbrev Ctr.FLT_CNT_STUCK_OP : Nat := 0xC0148
/-- Lockstep mismatches. -/
abbrev Ctr.FLT_CNT_LOCKSTEP : Nat := 0xC0150
/-- Engine work items reissued. -/
abbrev Ctr.FLT_CNT_ENG_REISSUE : Nat := 0xC0158
/-- Encryptions redone under R443. -/
abbrev Ctr.CRY_CNT_AES_MISMATCH : Nat := 0xD0100
/-- KEYSLOT_LOAD unwraps that failed. -/
abbrev Ctr.CRY_CNT_UNWRAP_FAIL : Nat := 0xD0108
/-- Images refused under R444. -/
abbrev Ctr.CRY_CNT_BOOT_REJECT : Nat := 0xD0110
/-- Online activations reverted under R448. -/
abbrev Ctr.CRY_CNT_ACT_REVERT : Nat := 0xD0118
/-- Reads answered. -/
abbrev Ctr.CX_CNT_RD (p : Nat) (n : Nat) : Nat := p * 0x10000 + 0x200 + 128 * n
/-- Writes completed, partial writes included. -/
abbrev Ctr.CX_CNT_WR (p : Nat) (n : Nat) : Nat := p * 0x10000 + 0x208 + 128 * n
/-- Reads answered with poison under R383. -/
abbrev Ctr.CX_CNT_POISON_RD (p : Nat) (n : Nat) : Nat := p * 0x10000 + 0x210 + 128 * n
/-- Poisoned writes received. -/
abbrev Ctr.CX_CNT_POISON_WR (p : Nat) (n : Nat) : Nat := p * 0x10000 + 0x218 + 128 * n
/-- Reads handled under R46 or R377. -/
abbrev Ctr.CX_CNT_NOWIN_RD (p : Nat) (n : Nat) : Nat := p * 0x10000 + 0x220 + 128 * n
/-- Writes handled under R46 or R377. -/
abbrev Ctr.CX_CNT_NOWIN_WR (p : Nat) (n : Nat) : Nat := p * 0x10000 + 0x228 + 128 * n
/-- Messages discarded under R372. -/
abbrev Ctr.CX_CNT_BAD_OP (p : Nat) (n : Nat) : Nat := p * 0x10000 + 0x230 + 128 * n
/-- Messages discarded under R380. -/
abbrev Ctr.CX_CNT_BAD_LD (p : Nat) (n : Nat) : Nat := p * 0x10000 + 0x238 + 128 * n
/-- GPF Phase 2 responses sent. -/
abbrev Ctr.CX_CNT_GPF (p : Nat) (n : Nat) : Nat := p * 0x10000 + 0x240 + 128 * n
/-- Width degrades under R388. -/
abbrev Ctr.CX_CNT_DEGRADE (p : Nat) (n : Nat) : Nat := p * 0x10000 + 0x248 + 128 * n
/-- Port faults under R390. -/
abbrev Ctr.CX_CNT_PORT_FAULT (p : Nat) (n : Nat) : Nat := p * 0x10000 + 0x250 + 128 * n
/-- IDE integrity failures under R387. -/
abbrev Ctr.CX_CNT_IDE_FAIL (p : Nat) (n : Nat) : Nat := p * 0x10000 + 0x258 + 128 * n
/-- Span writes refused under R379. -/
abbrev Ctr.CX_CNT_SPAN_REFUSED (p : Nat) : Nat := p * 0x10000 + 0x400
/-- NAKs with syndrome 0x60. -/
abbrev Ctr.NET_CNT_NAK_SEQ : Nat := 0x120200
/-- NAKs with syndrome 0x61. -/
abbrev Ctr.NET_CNT_NAK_INV : Nat := 0x120208
/-- NAKs with syndrome 0x62. -/
abbrev Ctr.NET_CNT_NAK_ACC : Nat := 0x120210
/-- NAKs with syndrome 0x63 under R357. -/
abbrev Ctr.NET_CNT_POISON : Nat := 0x120218
/-- Duplicate packets under R351. -/
abbrev Ctr.NET_CNT_DUP : Nat := 0x120220
/-- Packets discarded under R332. -/
abbrev Ctr.NET_CNT_PKEY : Nat := 0x120228
/-- Packets that entered a STALL wait. -/
abbrev Ctr.NET_CNT_STALL : Nat := 0x120230
/-- STALL waits that ended as DROP. -/
abbrev Ctr.NET_CNT_STALL_EXPIRED : Nat := 0x120238
/-- Packets discarded under R355 or R356. -/
abbrev Ctr.NET_CNT_DROP : Nat := 0x120240
/-- CNPs sent. -/
abbrev Ctr.NET_CNT_CNP : Nat := 0x120248
/-- Revocations completed. -/
abbrev Ctr.NET_CNT_REVOKE : Nat := 0x120250
/-- Context fetches. -/
abbrev Ctr.QPC_CNT_MISS : Nat := 0x120258
/-- Packets discarded under R340. -/
abbrev Ctr.QPC_CNT_MISS_DROP : Nat := 0x120260
/-- RoCEv2 packets delivered to the responder. -/
abbrev Ctr.E_CNT_RX_PKT (p : Nat) (n : Nat) : Nat := p * 0x10000 + 0x100 + 64 * n
/-- Packets sent. -/
abbrev Ctr.E_CNT_TX_PKT (p : Nat) (n : Nat) : Nat := p * 0x10000 + 0x108 + 64 * n
/-- Frames discarded under R324. -/
abbrev Ctr.E_CNT_DISCARD (p : Nat) (n : Nat) : Nat := p * 0x10000 + 0x110 + 64 * n
/-- Frames discarded under R326. -/
abbrev Ctr.E_CNT_DROP_LOSSY (p : Nat) (n : Nat) : Nat := p * 0x10000 + 0x118 + 64 * n
/-- Frames discarded under R330. -/
abbrev Ctr.E_CNT_DROP_STORM (p : Nat) (n : Nat) : Nat := p * 0x10000 + 0x120 + 64 * n
/-- Uncorrectable FEC codewords. -/
abbrev Ctr.E_CNT_FEC_UNC (p : Nat) (n : Nat) : Nat := p * 0x10000 + 0x128 + 64 * n
/-- DATA frames sent, resends included. -/
abbrev Ctr.TWL_CNT_TX (n : Nat) : Nat := 0x200100 + 128 * n
/-- DATA frames accepted. -/
abbrev Ctr.TWL_CNT_RX (n : Nat) : Nat := 0x200108 + 128 * n
/-- Frames ignored for a bad CRC, a reserved KIND or subtype, or a wrong PATH bit. -/
abbrev Ctr.TWL_CNT_CRC (n : Nat) : Nat := 0x200110 + 128 * n
/-- NAKs sent. -/
abbrev Ctr.TWL_CNT_NAK (n : Nat) : Nat := 0x200118 + 128 * n
/-- Resends started under R137. -/
abbrev Ctr.TWL_CNT_REPLAY (n : Nat) : Nat := 0x200120 + 128 * n
/-- Frames of this path resent on the other path under R138. -/
abbrev Ctr.TWL_CNT_XRESEND (n : Nat) : Nat := 0x200128 + 128 * n
/-- Missed-beat intervals. -/
abbrev Ctr.TWL_CNT_MISS (n : Nat) : Nat := 0x200130 + 128 * n
/-- Retirements completed, in either direction. -/
abbrev Ctr.TWL_CNT_RETIRE (n : Nat) : Nat := 0x200138 + 128 * n
/-- Dead-path declarations. -/
abbrev Ctr.TWL_CNT_DEAD (n : Nat) : Nat := 0x200140 + 128 * n
/-- Corrected FEC symbols, all lanes. -/
abbrev Ctr.TWL_CNT_FECCORR (n : Nat) : Nat := 0x200148 + 128 * n
/-- Uncorrectable FEC codewords. -/
abbrev Ctr.TWL_CNT_FECUNC (n : Nat) : Nat := 0x200150 + 128 * n
/-- Messages sent. -/
abbrev Ctr.TWL_CNT_MSG_TX : Nat := 0x200200
/-- Messages applied. -/
abbrev Ctr.TWL_CNT_MSG_APPLIED : Nat := 0x200208
/-- Duplicate DATA frames discarded under R146. -/
abbrev Ctr.TWL_CNT_DUP : Nat := 0x200210
/-- Messages that waited for credit under R143. -/
abbrev Ctr.TWL_CNT_CREDIT_STALL : Nat := 0x200218
/-- Messages refused under R148. -/
abbrev Ctr.TWL_CNT_FORMAT_ERR : Nat := 0x200220
/-- Credit-withholding intervals started at CXA or CXB. -/
abbrev Ctr.FAB_CNT_BP_CXL : Nat := 0x210200
/-- Ingress-drain stops at NET. -/
abbrev Ctr.FAB_CNT_BP_NET : Nat := 0x210208
/-- Entries that entered LINE_WAIT. -/
abbrev Ctr.FAB_CNT_LINE_WAIT : Nat := 0x210210
/-- Entries that entered RESIDENT_WAIT. -/
abbrev Ctr.FAB_CNT_RES_WAIT : Nat := 0x210218
/-- Writes and atomics forwarded from this side to the owner. -/
abbrev Ctr.FAB_CNT_FWD : Nat := 0x210220
/-- Forwarded writes re-ordered locally after twin loss. -/
abbrev Ctr.FAB_CNT_FWD_REORDER : Nat := 0x210228
/-- Reads resolved against a merge-buffer entry. -/
abbrev Ctr.FAB_CNT_MERGE_RD : Nat := 0x210230
/-- Hits by class nn. -/
abbrev Ctr.LC_CNT_HIT (n : Nat) : Nat := 0x220400 + 16 * n
/-- Misses by class nn. -/
abbrev Ctr.LC_CNT_MISS (n : Nat) : Nat := 0x220408 + 16 * n
/-- Dirty victims written back (R205). -/
abbrev Ctr.LC_CNT_WRITEBACK : Nat := 0x220600
/-- Streaming fills. -/
abbrev Ctr.LC_CNT_STREAM_FILL : Nat := 0x220608
/-- Requests that did not allocate under R201. -/
abbrev Ctr.LC_CNT_BYPASS : Nat := 0x220610
/-- Misses that waited for their set's slot (R206). -/
abbrev Ctr.LC_CNT_SET_WAIT : Nat := 0x220618
/-- Read misses that joined a fill (R207). -/
abbrev Ctr.LC_CNT_JOIN : Nat := 0x220620
/-- Corrected data-array errors. -/
abbrev Ctr.LC_CNT_SRAM_CORR : Nat := 0x220628
/-- Uncorrectable errors handled under R195. -/
abbrev Ctr.LC_CNT_SRAM_UNC : Nat := 0x220630
/-- Lines acted on by range operations. -/
abbrev Ctr.LC_CNT_OP_LINES : Nat := 0x220638
/-- Lines written back by sweeps. -/
abbrev Ctr.LC_CNT_SWEEP_LINES : Nat := 0x220640
/-- Extents moved into HBM. -/
abbrev Ctr.TM_CNT_PROMOTE : Nat := 0x230100
/-- Extents moved into DDR5. -/
abbrev Ctr.TM_CNT_EVICT : Nat := 0x230108
/-- Bytes read from old homes by moves. -/
abbrev Ctr.TM_CNT_MOVE_BYTES : Nat := 0x230110
/-- Requests that waited at a move cursor. -/
abbrev Ctr.TM_CNT_CURSOR_WAIT : Nat := 0x230118
/-- Doorbell triggers evaluated. -/
abbrev Ctr.TM_CNT_TRIGGER : Nat := 0x230120
/-- Triggers that found their step not staged. -/
abbrev Ctr.TM_CNT_LATE : Nat := 0x230128
/-- Extent moves cancelled by a late trigger. -/
abbrev Ctr.TM_CNT_CANCEL : Nat := 0x230130
/-- Triggers naming a step at or above NSTEPS. -/
abbrev Ctr.TM_CNT_TRIG_BAD : Nat := 0x230138
/-- Promotions or staging moves refused for want of a victim. -/
abbrev Ctr.TM_CNT_NO_VICTIM : Nat := 0x230140
/-- Merged refetches that found a good copy. -/
abbrev Ctr.TM_CNT_MERGE_REFETCH : Nat := 0x230148
/-- Merged refetches that found none. -/
abbrev Ctr.TM_CNT_MERGE_POISON : Nat := 0x230150
/-- Home-map cache misses. -/
abbrev Ctr.TM_CNT_HMC_MISS : Nat := 0x230158
/-- Reads corrected, all sources but checker test. -/
abbrev Ctr.EC_CNT_CE : Nat := 0x240400
/-- Reads uncorrectable, all sources but checker test. -/
abbrev Ctr.EC_CNT_UE : Nat := 0x240408
/-- Reads returned as poison under R257. -/
abbrev Ctr.EC_CNT_POISON_RD : Nat := 0x240410
/-- Marks set. -/
abbrev Ctr.EC_CNT_MARK : Nat := 0x240418
/-- Marks refused under R260. -/
abbrev Ctr.EC_CNT_MARK_REFUSED : Nat := 0x240420
/-- Merge read-modify-writes. -/
abbrev Ctr.EC_CNT_RMW : Nat := 0x240428
/-- Merge entries written with a full mask. -/
abbrev Ctr.EC_CNT_MERGE_FULL : Nat := 0x240430
/-- Merge entries written at the 2 µs timeout. -/
abbrev Ctr.EC_CNT_MERGE_TIMEOUT : Nat := 0x240438
/-- Merge entries written because of channel pressure. -/
abbrev Ctr.EC_CNT_MERGE_PRESSURE : Nat := 0x240440
/-- Lines read by scrub. -/
abbrev Ctr.EC_CNT_SCRUB_LINES : Nat := 0x240448
/-- Scrub rewrites of corrected lines. -/
abbrev Ctr.EC_CNT_SCRUB_FIX : Nat := 0x240450
/-- Scrub rewrites dropped under R276. -/
abbrev Ctr.EC_CNT_SCRUB_DROP : Nat := 0x240458
/-- Requests redirected under R263. -/
abbrev Ctr.EC_CNT_REMAP_HIT : Nat := 0x240460
/-- Row repairs completed. -/
abbrev Ctr.EC_CNT_PPR : Nat := 0x240468
/-- Stack on-die ECC reports. -/
abbrev Ctr.EC_CNT_HBM_ODECC : Nat := 0x240470
/-- Leaves written behind. -/
abbrev Ctr.VLT_CNT_WB_LEAVES : Nat := 0x250100
/-- Leaves relocated by cleaning. -/
abbrev Ctr.VLT_CNT_RELOC : Nat := 0x250108
/-- Blocks erased. -/
abbrev Ctr.VLT_CNT_ERASE : Nat := 0x250110
/-- Programs reporting FAIL. -/
abbrev Ctr.VLT_CNT_PROG_FAIL : Nat := 0x250118
/-- Pages rebuilt from row parity. -/
abbrev Ctr.VLT_CNT_REBUILD : Nat := 0x250120
/-- Records discarded under R314. -/
abbrev Ctr.VLT_CNT_TORN : Nat := 0x250128
/-- Blocks failing the erase-state check. -/
abbrev Ctr.VLT_CNT_ERASE_CHK : Nat := 0x250130
/-- Writes that waited under R303. -/
abbrev Ctr.VLT_CNT_THROTTLE : Nat := 0x250138
/-- On-demand leaf restores. -/
abbrev Ctr.VLT_CNT_LAZY : Nat := 0x250140
/-- Preserves completed. -/
abbrev Ctr.VLT_CNT_PRESERVE : Nat := 0x250148
/-- Preserves longer than NEED_MS. -/
abbrev Ctr.VLT_CNT_PRESERVE_SLOW : Nat := 0x250150
/-- Bits corrected by the page code. -/
abbrev Ctr.VLT_CNT_CORR_BITS : Nat := 0x250158
/-- Read bursts issued. -/
abbrev Ctr.DC_CNT_RD (p : Nat) : Nat := p * 0x10000 + 0x100
/-- Write bursts issued, reissues included. -/
abbrev Ctr.DC_CNT_WR (p : Nat) : Nat := p * 0x10000 + 0x108
/-- Reads and writes issued to an open row. -/
abbrev Ctr.DC_CNT_ROWHIT (p : Nat) : Nat := p * 0x10000 + 0x110
/-- Drains started at the high watermark. -/
abbrev Ctr.DC_CNT_DRAIN (p : Nat) : Nat := p * 0x10000 + 0x118
/-- Drains started by a level-3 write. -/
abbrev Ctr.DC_CNT_FORCED (p : Nat) : Nat := p * 0x10000 + 0x120
/-- Reads served from the write queue (R225). -/
abbrev Ctr.DC_CNT_FWD (p : Nat) : Nat := p * 0x10000 + 0x128
/-- Freezes entered. -/
abbrev Ctr.DC_CNT_FREEZE (p : Nat) : Nat := p * 0x10000 + 0x130
/-- Refreshes issued at the 2× rate. -/
abbrev Ctr.DC_CNT_REF2X (p : Nat) : Nat := p * 0x10000 + 0x138
/-- Requests of port k that reached urgency level 3. -/
abbrev Ctr.DC_CNT_L3 (p : Nat) (n : Nat) : Nat := p * 0x10000 + 0x140 + 8 * n
/-- Periodic calibrations run. -/
abbrev Ctr.DC_CNT_CAL (p : Nat) : Nat := p * 0x10000 + 0x170

/-! Fields, by the names of the spec: (high bit, low bit). -/

abbrev Fld.SYS_ID_VENDOR : Fld := ⟨31, 16⟩
abbrev Fld.SYS_ID_PKG : Fld := ⟨15, 8⟩
abbrev Fld.SYS_ID_STEPPING : Fld := ⟨7, 0⟩
abbrev Fld.SYS_UNLOCK_KEY : Fld := ⟨15, 0⟩
abbrev Fld.SYS_UNLOCK_STATUS_OPEN : Fld := ⟨4, 0⟩
abbrev Fld.SYS_MODE_COUNT : Fld := ⟨31, 16⟩
abbrev Fld.SYS_MODE_REASON : Fld := ⟨15, 8⟩
abbrev Fld.SYS_MODE_HELD : Fld := ⟨6, 6⟩
abbrev Fld.SYS_MODE_LAZY : Fld := ⟨5, 5⟩
abbrev Fld.SYS_MODE_RESYNC : Fld := ⟨4, 4⟩
abbrev Fld.SYS_MODE_TRANSIT : Fld := ⟨3, 3⟩
abbrev Fld.SYS_MODE_STATE : Fld := ⟨2, 0⟩
abbrev Fld.SYS_MODE_REQ_RESULT : Fld := ⟨13, 12⟩
abbrev Fld.SYS_MODE_REQ_WRITE_PENDING : Fld := ⟨8, 8⟩
abbrev Fld.SYS_MODE_REQ_PURPOSE : Fld := ⟨5, 4⟩
abbrev Fld.SYS_MODE_REQ_TARGET : Fld := ⟨2, 0⟩
abbrev Fld.SYS_HOLD_LIMIT : Fld := ⟨15, 0⟩
abbrev Fld.SYS_POOL_VALID : Fld := ⟨31, 31⟩
abbrev Fld.SYS_POOL_ALIAS : Fld := ⟨16, 16⟩
abbrev Fld.SYS_POOL_CTRL_ID : Fld := ⟨13, 0⟩
abbrev Fld.SYS_PAIR_PAIRED : Fld := ⟨31, 31⟩
abbrev Fld.SYS_PAIR_PROBE : Fld := ⟨30, 30⟩
abbrev Fld.SYS_PAIR_FORMED : Fld := ⟨29, 29⟩
abbrev Fld.SYS_PAIR_RESYNC_PCT : Fld := ⟨15, 8⟩
abbrev Fld.SYS_PAIR_ROLE : Fld := ⟨0, 0⟩
abbrev Fld.SYS_PAIR_ID_PAIR_ID : Fld := ⟨31, 0⟩
abbrev Fld.SYS_PAIR_STATUS_INTENTS_HELD : Fld := ⟨31, 16⟩
abbrev Fld.SYS_PAIR_STATUS_TAKEOVER : Fld := ⟨15, 15⟩
abbrev Fld.SYS_PAIR_STATUS_PARTITION : Fld := ⟨14, 14⟩
abbrev Fld.SYS_PAIR_STATUS_PROBING : Fld := ⟨13, 13⟩
abbrev Fld.SYS_PAIR_STATUS_PATHS : Fld := ⟨9, 8⟩
abbrev Fld.SYS_PAIR_STATUS_TWIN_STATE : Fld := ⟨2, 0⟩
abbrev Fld.PWR_CTL_MGMT_ADDR : Fld := ⟨23, 17⟩
abbrev Fld.PWR_CTL_WRITE_PENDING : Fld := ⟨16, 16⟩
abbrev Fld.PWR_CTL_AUTO_ON : Fld := ⟨0, 0⟩
abbrev Fld.PWR_STATUS_SEQ_STATE : Fld := ⟨31, 29⟩
abbrev Fld.PWR_STATUS_STEP : Fld := ⟨27, 24⟩
abbrev Fld.PWR_STATUS_ON_PENDING : Fld := ⟨23, 23⟩
abbrev Fld.PWR_STATUS_RIDING : Fld := ⟨22, 22⟩
abbrev Fld.PWR_STATUS_CAPPED : Fld := ⟨21, 21⟩
abbrev Fld.PWR_STATUS_CAP_GIB : Fld := ⟨15, 8⟩
abbrev Fld.PWR_STATUS_HOLDUP_OK : Fld := ⟨7, 7⟩
abbrev Fld.PWR_STATUS_PFAIL_N : Fld := ⟨6, 6⟩
abbrev Fld.PWR_STATUS_SEQ_OUT : Fld := ⟨5, 5⟩
abbrev Fld.PWR_STATUS_SEQ_IN : Fld := ⟨4, 4⟩
abbrev Fld.PWR_STATUS_SEQ_EN : Fld := ⟨3, 0⟩
abbrev Fld.PWR_SEQ_MIN_OFF_MS : Fld := ⟨31, 16⟩
abbrev Fld.PWR_SEQ_OUT_HOLD_MS : Fld := ⟨15, 8⟩
abbrev Fld.PWR_SEQ_IN_GATE : Fld := ⟨0, 0⟩
abbrev Fld.PWR_RIDE_REARM_MS : Fld := ⟨31, 16⟩
abbrev Fld.PWR_RIDE_WRITE_PENDING : Fld := ⟨15, 15⟩
abbrev Fld.PWR_RIDE_T_RIDE_MS : Fld := ⟨7, 0⟩
abbrev Fld.PWR_BANK_PRES_W : Fld := ⟨31, 21⟩
abbrev Fld.PWR_BANK_WRITE_PENDING : Fld := ⟨20, 20⟩
abbrev Fld.PWR_BANK_POLL_MS : Fld := ⟨19, 16⟩
abbrev Fld.PWR_BANK_RESERVE_J : Fld := ⟨9, 0⟩
abbrev Fld.PWR_BANK_E_AGE_MS : Fld := ⟨31, 16⟩
abbrev Fld.PWR_BANK_E_ENERGY_J : Fld := ⟨15, 0⟩
abbrev Fld.PWR_BANK_BUS_WRITE_PENDING : Fld := ⟨16, 16⟩
abbrev Fld.PWR_BANK_BUS_CODE : Fld := ⟨15, 8⟩
abbrev Fld.PWR_BANK_BUS_ADDR : Fld := ⟨6, 0⟩
abbrev Fld.PWR_NEED_CEIL_NEED_J : Fld := ⟨31, 16⟩
abbrev Fld.PWR_NEED_NEED_J : Fld := ⟨15, 0⟩
abbrev Fld.PWR_VCORE_WRITE_PENDING : Fld := ⟨31, 31⟩
abbrev Fld.PWR_VCORE_ADDR : Fld := ⟨28, 22⟩
abbrev Fld.PWR_VCORE_ACTUAL_MV : Fld := ⟨21, 10⟩
abbrev Fld.PWR_VCORE_TARGET : Fld := ⟨9, 0⟩
abbrev Fld.PWR_PG_QUAL : Fld := ⟨27, 16⟩
abbrev Fld.PWR_PG_LIVE : Fld := ⟨11, 0⟩
abbrev Fld.PWR_FAULT_KIND : Fld := ⟨31, 28⟩
abbrev Fld.PWR_FAULT_STEP : Fld := ⟨27, 24⟩
abbrev Fld.PWR_FAULT_PG : Fld := ⟨11, 0⟩
abbrev Fld.PWR_STEP_A_VALID : Fld := ⟨31, 31⟩
abbrev Fld.PWR_STEP_A_HEAD : Fld := ⟨30, 30⟩
abbrev Fld.PWR_STEP_A_CHAIN : Fld := ⟨29, 28⟩
abbrev Fld.PWR_STEP_A_PRES : Fld := ⟨27, 27⟩
abbrev Fld.PWR_STEP_A_PG : Fld := ⟨11, 0⟩
abbrev Fld.PWR_STEP_B_DISCH_MS : Fld := ⟨31, 24⟩
abbrev Fld.PWR_STEP_B_TIMEOUT_MS : Fld := ⟨23, 16⟩
abbrev Fld.PWR_STEP_B_QUAL : Fld := ⟨9, 0⟩
abbrev Fld.SHT_COMMIT_GROUPS : Fld := ⟨31, 0⟩
abbrev Fld.SHT_STATUS_BUSY : Fld := ⟨31, 31⟩
abbrev Fld.SHT_STATUS_STRIP : Fld := ⟨30, 30⟩
abbrev Fld.SHT_STATUS_DEFERRED : Fld := ⟨29, 29⟩
abbrev Fld.SHT_STATUS_UNSAVED : Fld := ⟨28, 28⟩
abbrev Fld.SHT_STATUS_AUTO : Fld := ⟨27, 27⟩
abbrev Fld.SHT_STATUS_RESULT : Fld := ⟨9, 8⟩
abbrev Fld.SHT_STATUS_REJECT_CAUSE : Fld := ⟨3, 0⟩
abbrev Fld.SHT_FRAME_FRAME : Fld := ⟨29, 0⟩
abbrev Fld.SHT_STRIP_LEFT_MS : Fld := ⟨31, 16⟩
abbrev Fld.SHT_STRIP_SECONDS : Fld := ⟨5, 0⟩
abbrev Fld.SHT_REWIND_BACK : Fld := ⟨1, 0⟩
abbrev Fld.SHT_PENDING_GROUPS : Fld := ⟨31, 0⟩
abbrev Fld.TIM_NOW_LO_NS : Fld := ⟨31, 0⟩
abbrev Fld.TIM_NOW_HI_NS : Fld := ⟨31, 0⟩
abbrev Fld.TIM_STAMP_LO_OFFSET : Fld := ⟨31, 0⟩
abbrev Fld.TIM_STAMP_HI_OFFSET : Fld := ⟨31, 0⟩
abbrev Fld.TIM_STATUS_RELOCKS : Fld := ⟨31, 16⟩
abbrev Fld.TIM_STATUS_LOCKED : Fld := ⟨0, 0⟩
abbrev Fld.TIM_AON_LO_TICKS : Fld := ⟨31, 0⟩
abbrev Fld.TIM_AON_HI_TICKS : Fld := ⟨31, 0⟩
abbrev Fld.TIM_CAP_CTL_VALID : Fld := ⟨31, 31⟩
abbrev Fld.TIM_CAP_CTL_GO : Fld := ⟨0, 0⟩
abbrev Fld.TIM_CAP_DEV_LO_VALUE : Fld := ⟨31, 0⟩
abbrev Fld.TIM_CAP_DEV_HI_VALUE : Fld := ⟨31, 0⟩
abbrev Fld.TIM_CAP_AON_LO_VALUE : Fld := ⟨31, 0⟩
abbrev Fld.TIM_CAP_AON_HI_VALUE : Fld := ⟨31, 0⟩
abbrev Fld.LOG_CTL_FLUSH_MS : Fld := ⟨31, 16⟩
abbrev Fld.LOG_CTL_FLUSH_PCT : Fld := ⟨6, 0⟩
abbrev Fld.LOG_STATUS_FLUSHING : Fld := ⟨31, 31⟩
abbrev Fld.LOG_STATUS_FIX_STATE : Fld := ⟨25, 24⟩
abbrev Fld.LOG_STATUS_STAGED_KIB : Fld := ⟨8, 0⟩
abbrev Fld.LOG_HEAD_LO_SEQ : Fld := ⟨31, 0⟩
abbrev Fld.LOG_HEAD_HI_SEQ : Fld := ⟨31, 0⟩
abbrev Fld.LOG_TAIL_LO_SEQ : Fld := ⟨31, 0⟩
abbrev Fld.LOG_TAIL_HI_SEQ : Fld := ⟨31, 0⟩
abbrev Fld.LOG_FLASHED_LO_SEQ : Fld := ⟨31, 0⟩
abbrev Fld.LOG_FLASHED_HI_SEQ : Fld := ⟨31, 0⟩
abbrev Fld.LOG_FIX_FIRST_LO_SEQ : Fld := ⟨31, 0⟩
abbrev Fld.LOG_FIX_FIRST_HI_SEQ : Fld := ⟨31, 0⟩
abbrev Fld.LOG_FIX_LAST_LO_SEQ : Fld := ⟨31, 0⟩
abbrev Fld.LOG_FIX_LAST_HI_SEQ : Fld := ⟨31, 0⟩
abbrev Fld.SB_CTL_WRITE_PENDING : Fld := ⟨31, 31⟩
abbrev Fld.SB_CTL_RETRIES : Fld := ⟨5, 4⟩
abbrev Fld.SB_CTL_PEC : Fld := ⟨3, 3⟩
abbrev Fld.SB_CTL_HN_EN : Fld := ⟨2, 2⟩
abbrev Fld.SB_CTL_SPEED : Fld := ⟨1, 0⟩
abbrev Fld.SB_STATUS_BUSY : Fld := ⟨31, 31⟩
abbrev Fld.SB_STATUS_RETRY : Fld := ⟨19, 18⟩
abbrev Fld.SB_STATUS_BUS_ERROR : Fld := ⟨17, 17⟩
abbrev Fld.SB_STATUS_RESULT : Fld := ⟨15, 12⟩
abbrev Fld.SB_STATUS_STATE : Fld := ⟨2, 0⟩
abbrev Fld.SB_CMD_RLEN : Fld := ⟨15, 12⟩
abbrev Fld.SB_CMD_WLEN : Fld := ⟨11, 8⟩
abbrev Fld.SB_CMD_ADDR : Fld := ⟨6, 0⟩
abbrev Fld.SB_DATA0_DATA : Fld := ⟨31, 0⟩
abbrev Fld.SB_DATA1_DATA : Fld := ⟨31, 0⟩
abbrev Fld.SB_NOTIFY_VALID : Fld := ⟨31, 31⟩
abbrev Fld.SB_NOTIFY_SENDER : Fld := ⟨30, 24⟩
abbrev Fld.SB_NOTIFY_DATA : Fld := ⟨15, 0⟩
abbrev Fld.FLS_CTL_PROG_WAIT_MS : Fld := ⟨15, 8⟩
abbrev Fld.FLS_CTL_BCACHE_EN : Fld := ⟨1, 1⟩
abbrev Fld.FLS_CTL_PREFETCH_EN : Fld := ⟨0, 0⟩
abbrev Fld.FLS_STATUS_REERASED : Fld := ⟨23, 16⟩
abbrev Fld.FLS_STATUS_QUEUE_B : Fld := ⟨15, 12⟩
abbrev Fld.FLS_STATUS_QUEUE_A : Fld := ⟨11, 8⟩
abbrev Fld.FLS_STATUS_STATE_B : Fld := ⟨6, 4⟩
abbrev Fld.FLS_STATUS_STATE_A : Fld := ⟨2, 0⟩
abbrev Fld.FLS_CMD_BUSY : Fld := ⟨31, 31⟩
abbrev Fld.FLS_CMD_RESULT : Fld := ⟨19, 16⟩
abbrev Fld.FLS_CMD_OP : Fld := ⟨3, 0⟩
abbrev Fld.FLS_ADDR_FA : Fld := ⟨26, 0⟩
abbrev Fld.FLS_DATA_DATA : Fld := ⟨31, 0⟩
abbrev Fld.FLS_PROT_A_GROUPS : Fld := ⟨31, 0⟩
abbrev Fld.FLS_PROT_B_GROUPS : Fld := ⟨31, 0⟩
abbrev Fld.FLS_PROT_INFO_SECTORS : Fld := ⟨7, 0⟩
abbrev Fld.FLS_PWD_LO_PWD : Fld := ⟨31, 0⟩
abbrev Fld.FLS_PWD_HI_PWD : Fld := ⟨31, 0⟩
abbrev Fld.FLS_PWD_STATUS_SET : Fld := ⟨31, 31⟩
abbrev Fld.FLS_PWD_STATUS_LOCKED : Fld := ⟨3, 3⟩
abbrev Fld.FLS_PWD_STATUS_WRONG : Fld := ⟨2, 0⟩
abbrev Fld.MBX_STATUS_OPCODE : Fld := ⟨31, 16⟩
abbrev Fld.MBX_STATUS_BUSY : Fld := ⟨15, 15⟩
abbrev Fld.MBX_STATUS_REMOTE : Fld := ⟨14, 14⟩
abbrev Fld.MBX_STATUS_SOURCE : Fld := ⟨5, 0⟩
abbrev Fld.ENG_STATUS_SPARES : Fld := ⟨31, 24⟩
abbrev Fld.ENG_STATUS_LOST : Fld := ⟨15, 8⟩
abbrev Fld.ENG_STATUS_ACTIVE : Fld := ⟨6, 0⟩
abbrev Fld.FLT_CTL_AGE_MS : Fld := ⟨31, 16⟩
abbrev Fld.FLT_CTL_RECUR_H : Fld := ⟨15, 8⟩
abbrev Fld.FLT_CTL_RECUR_N : Fld := ⟨3, 0⟩
abbrev Fld.FLT_STATUS_FENCED : Fld := ⟨31, 16⟩
abbrev Fld.FLT_STATUS_QUEUED : Fld := ⟨14, 8⟩
abbrev Fld.FLT_STATUS_ACTIVE : Fld := ⟨3, 0⟩
abbrev Fld.FLT_SLOT_UNIT_UNIT : Fld := ⟨31, 0⟩
abbrev Fld.FLT_SLOT_STATE_CODE : Fld := ⟨31, 16⟩
abbrev Fld.FLT_SLOT_STATE_LASTING : Fld := ⟨9, 9⟩
abbrev Fld.FLT_SLOT_STATE_ESCALATED : Fld := ⟨8, 8⟩
abbrev Fld.FLT_SLOT_STATE_CLASS : Fld := ⟨5, 4⟩
abbrev Fld.FLT_SLOT_STATE_STAGE : Fld := ⟨2, 0⟩
abbrev Fld.FLT_LAST_UNIT_UNIT : Fld := ⟨31, 0⟩
abbrev Fld.FLT_LAST_CODE : Fld := ⟨31, 16⟩
abbrev Fld.FLT_LAST_CLASS : Fld := ⟨1, 0⟩
abbrev Fld.CRY_BOOT_FUSED_SVN : Fld := ⟨31, 24⟩
abbrev Fld.CRY_BOOT_IMAGE_SVN : Fld := ⟨23, 16⟩
abbrev Fld.CRY_BOOT_HASH0_REVOKED : Fld := ⟨3, 3⟩
abbrev Fld.CRY_BOOT_FALLBACK : Fld := ⟨2, 2⟩
abbrev Fld.CRY_BOOT_ACTIVE : Fld := ⟨1, 1⟩
abbrev Fld.CRY_BOOT_PREF : Fld := ⟨0, 0⟩
abbrev Fld.CRY_STATUS_PAIRS_SINGLE : Fld := ⟨31, 24⟩
abbrev Fld.CRY_STATUS_SLOTS_USED : Fld := ⟨12, 0⟩
abbrev Fld.CX_CFG_LDS : Fld := ⟨12, 8⟩
abbrev Fld.CX_CFG_IDE_REQ : Fld := ⟨4, 4⟩
abbrev Fld.CX_CFG_MODE : Fld := ⟨1, 0⟩
abbrev Fld.CX_CTL_RETRAIN_FULL : Fld := ⟨1, 0⟩
abbrev Fld.CX_LINK_STATUS_IDE : Fld := ⟨17, 16⟩
abbrev Fld.CX_LINK_STATUS_DEGRADED : Fld := ⟨12, 12⟩
abbrev Fld.CX_LINK_STATUS_WIDTH : Fld := ⟨7, 3⟩
abbrev Fld.CX_LINK_STATUS_STATE : Fld := ⟨2, 0⟩
abbrev Fld.CX_LD_SPAN_SPAN : Fld := ⟨16, 0⟩
abbrev Fld.NET_CTL_CNP_EN : Fld := ⟨1, 1⟩
abbrev Fld.NET_CTL_PROT : Fld := ⟨0, 0⟩
abbrev Fld.NET_SPILL_MAX_CONN : Fld := ⟨20, 0⟩
abbrev Fld.NET_CONN_RESP_MAX : Fld := ⟨4, 0⟩
abbrev Fld.NET_ACK_DELAY : Fld := ⟨31, 16⟩
abbrev Fld.NET_ACK_COUNT : Fld := ⟨7, 0⟩
abbrev Fld.NET_FAULT_STALL_US : Fld := ⟨7, 0⟩
abbrev Fld.NET_CNP_PRIO : Fld := ⟨18, 16⟩
abbrev Fld.NET_CNP_GAP_US : Fld := ⟨15, 0⟩
abbrev Fld.NET_PFC_STORM_MS : Fld := ⟨31, 24⟩
abbrev Fld.NET_PFC_HEADROOM_KIB : Fld := ⟨23, 16⟩
abbrev Fld.NET_PFC_LOSSLESS : Fld := ⟨15, 8⟩
abbrev Fld.NET_PFC_TRUST : Fld := ⟨0, 0⟩
abbrev Fld.NET_PROBE_PORT : Fld := ⟨15, 0⟩
abbrev Fld.NET_REVOKE_PENDING : Fld := ⟨31, 16⟩
abbrev Fld.NET_REVOKE_DRAIN : Fld := ⟨7, 4⟩
abbrev Fld.NET_REVOKE_WAITING : Fld := ⟨2, 2⟩
abbrev Fld.NET_REVOKE_EPOCH : Fld := ⟨1, 0⟩
abbrev Fld.NET_CONN_OWN_COUNT : Fld := ⟨20, 0⟩
abbrev Fld.NET_CONN_SHADOW_COUNT : Fld := ⟨20, 0⟩
abbrev Fld.QPC_STATUS_PINNED : Fld := ⟨29, 16⟩
abbrev Fld.QPC_STATUS_CACHED : Fld := ⟨13, 0⟩
abbrev Fld.QPC_MISS_MISSBUF : Fld := ⟨24, 16⟩
abbrev Fld.QPC_MISS_FETCHING : Fld := ⟨8, 0⟩
abbrev Fld.KEY_STATUS_USED : Fld := ⟨18, 0⟩
abbrev Fld.KEY_DOMAINS_USED : Fld := ⟨16, 0⟩
abbrev Fld.E_CFG_MODE : Fld := ⟨1, 0⟩
abbrev Fld.E_PORT_STATUS_STORM_TX : Fld := ⟨25, 25⟩
abbrev Fld.E_PORT_STATUS_STORM_RX : Fld := ⟨24, 24⟩
abbrev Fld.E_PORT_STATUS_PAUSED_TX : Fld := ⟨23, 16⟩
abbrev Fld.E_PORT_STATUS_PAUSED_RX : Fld := ⟨15, 8⟩
abbrev Fld.E_PORT_STATUS_LINK : Fld := ⟨0, 0⟩
abbrev Fld.TWL_CTL_CORR_LIMIT : Fld := ⟨23, 20⟩
abbrev Fld.TWL_CTL_REPLAY_US : Fld := ⟨19, 16⟩
abbrev Fld.TWL_CTL_SPRAY : Fld := ⟨9, 8⟩
abbrev Fld.TWL_CTL_RETIRE_EN : Fld := ⟨1, 1⟩
abbrev Fld.TWL_CTL_ENABLE : Fld := ⟨0, 0⟩
abbrev Fld.TWL_STATUS_STAGE_FREE : Fld := ⟨31, 16⟩
abbrev Fld.TWL_STATUS_CREDIT : Fld := ⟨13, 0⟩
abbrev Fld.TWL_PATH_STATUS_LANES_OUT : Fld := ⟨31, 24⟩
abbrev Fld.TWL_PATH_STATUS_MISSED : Fld := ⟨20, 16⟩
abbrev Fld.TWL_PATH_STATUS_WIDTH : Fld := ⟨11, 8⟩
abbrev Fld.TWL_PATH_STATUS_STATE : Fld := ⟨2, 0⟩
abbrev Fld.TWL_PATH_RTT_RTT_NS : Fld := ⟨15, 0⟩
abbrev Fld.TWL_PATH_CTL_FORCE_DEAD : Fld := ⟨1, 1⟩
abbrev Fld.TWL_PATH_CTL_RESTORE_LANES : Fld := ⟨0, 0⟩
abbrev Fld.FAB_TRK_QUOTA_CEIL : Fld := ⟨28, 16⟩
abbrev Fld.FAB_TRK_QUOTA_FLOOR : Fld := ⟨12, 0⟩
abbrev Fld.FAB_TRK_USE_CUR : Fld := ⟨16, 0⟩
abbrev Fld.FAB_TRK_PEAK_PEAK : Fld := ⟨16, 0⟩
abbrev Fld.FAB_TRK_STATUS_BP : Fld := ⟨31, 24⟩
abbrev Fld.FAB_TRK_STATUS_FREE : Fld := ⟨16, 0⟩
abbrev Fld.LC_CTL_STREAM_OLD : Fld := ⟨1, 1⟩
abbrev Fld.LC_CTL_ENABLE : Fld := ⟨0, 0⟩
abbrev Fld.LC_STATUS_SLICE : Fld := ⟨13, 8⟩
abbrev Fld.LC_STATUS_REENABLE : Fld := ⟨2, 2⟩
abbrev Fld.LC_STATUS_STATE : Fld := ⟨1, 0⟩
abbrev Fld.LC_DIRTY_COUNT : Fld := ⟨21, 0⟩
abbrev Fld.LC_OP_FIRST_LO_ADDR_LO : Fld := ⟨31, 0⟩
abbrev Fld.LC_OP_FIRST_HI_ADDR_HI : Fld := ⟨11, 0⟩
abbrev Fld.LC_OP_LAST_LO_ADDR_LO : Fld := ⟨31, 0⟩
abbrev Fld.LC_OP_LAST_HI_ADDR_HI : Fld := ⟨11, 0⟩
abbrev Fld.LC_OP_CMD_CLASS : Fld := ⟨11, 8⟩
abbrev Fld.LC_OP_CMD_OP : Fld := ⟨2, 0⟩
abbrev Fld.LC_OP_STATUS_BUSY : Fld := ⟨31, 31⟩
abbrev Fld.LC_OP_STATUS_RESULT : Fld := ⟨1, 0⟩
abbrev Fld.LC_CLASS_WAYS : Fld := ⟨31, 16⟩
abbrev Fld.LC_CLASS_TEN_EN : Fld := ⟨15, 15⟩
abbrev Fld.LC_CLASS_POLICY : Fld := ⟨14, 14⟩
abbrev Fld.LC_CLASS_FILL_OLD : Fld := ⟨13, 13⟩
abbrev Fld.LC_CLASS_TENANT : Fld := ⟨11, 0⟩
abbrev Fld.LC_WAYOFF_OFF : Fld := ⟨15, 0⟩
abbrev Fld.TM_CTL_PROMO_THRESH : Fld := ⟨15, 8⟩
abbrev Fld.TM_CTL_SCHED_EN : Fld := ⟨2, 2⟩
abbrev Fld.TM_CTL_AUTO_EN : Fld := ⟨1, 1⟩
abbrev Fld.TM_CTL_MOVE_EN : Fld := ⟨0, 0⟩
abbrev Fld.TM_MOVE_MAX_GBPS : Fld := ⟨31, 16⟩
abbrev Fld.TM_MOVE_CONC : Fld := ⟨6, 0⟩
abbrev Fld.TM_AGE_PERIOD_MS : Fld := ⟨15, 0⟩
abbrev Fld.TM_STATUS_SUSPENDED : Fld := ⟨31, 31⟩
abbrev Fld.TM_STATUS_MOVING : Fld := ⟨22, 16⟩
abbrev Fld.TM_STATUS_SCHEDULES : Fld := ⟨9, 0⟩
abbrev Fld.TM_HBM_PLACES_FREE : Fld := ⟨31, 16⟩
abbrev Fld.TM_HBM_PLACES_TOTAL : Fld := ⟨15, 0⟩
abbrev Fld.TM_HBM_STAGED_FULL : Fld := ⟨31, 31⟩
abbrev Fld.TM_HBM_STAGED_STAGED : Fld := ⟨30, 16⟩
abbrev Fld.TM_HBM_STAGED_PINNED : Fld := ⟨15, 0⟩
abbrev Fld.TM_XMAP_GEOM_ROW_BITS : Fld := ⟨15, 11⟩
abbrev Fld.TM_XMAP_GEOM_RANK_BITS : Fld := ⟨10, 8⟩
abbrev Fld.TM_XMAP_GEOM_CH_BITS : Fld := ⟨7, 5⟩
abbrev Fld.TM_XMAP_GEOM_X8 : Fld := ⟨0, 0⟩
abbrev Fld.TM_XMAP_LO_MASK_LO : Fld := ⟨31, 6⟩
abbrev Fld.TM_XMAP_HI_MASK_HI : Fld := ⟨11, 0⟩
abbrev Fld.EC_CTL_X8_MARK : Fld := ⟨2, 2⟩
abbrev Fld.EC_CTL_MARK_EN : Fld := ⟨1, 1⟩
abbrev Fld.EC_CTL_SCRUB_EN : Fld := ⟨0, 0⟩
abbrev Fld.EC_SCRUB_MAX_RATE : Fld := ⟨23, 16⟩
abbrev Fld.EC_SCRUB_PASS_MIN : Fld := ⟨15, 0⟩
abbrev Fld.EC_MARK_THRESH : Fld := ⟨7, 0⟩
abbrev Fld.EC_SCRUB_STATUS_PASSES : Fld := ⟨31, 16⟩
abbrev Fld.EC_SCRUB_STATUS_SUSPENDED : Fld := ⟨8, 8⟩
abbrev Fld.EC_SCRUB_STATUS_PCT : Fld := ⟨7, 0⟩
abbrev Fld.EC_SCRUB_RATE_MBPS : Fld := ⟨15, 0⟩
abbrev Fld.EC_TEST_CTL_BUSY : Fld := ⟨31, 31⟩
abbrev Fld.EC_TEST_CTL_RESULT : Fld := ⟨30, 28⟩
abbrev Fld.EC_TEST_CTL_TMARK_EN : Fld := ⟨12, 12⟩
abbrev Fld.EC_TEST_CTL_TMARK_DEV : Fld := ⟨11, 8⟩
abbrev Fld.EC_TEST_CTL_TMARK_HI : Fld := ⟨7, 6⟩
abbrev Fld.EC_TEST_CTL_OP : Fld := ⟨2, 0⟩
abbrev Fld.EC_TEST_ADDR_LO_ADDR_LO : Fld := ⟨31, 0⟩
abbrev Fld.EC_TEST_ADDR_HI_MEM : Fld := ⟨31, 31⟩
abbrev Fld.EC_TEST_ADDR_HI_ADDR_HI : Fld := ⟨11, 0⟩
abbrev Fld.EC_TEST_DATA_BEAT : Fld := ⟨31, 0⟩
abbrev Fld.EC_TEST_CHK_SYM_ODD : Fld := ⟨31, 16⟩
abbrev Fld.EC_TEST_CHK_SYM_EVEN : Fld := ⟨15, 0⟩
abbrev Fld.EC_TEST_RES_VERDICT : Fld := ⟨31, 30⟩
abbrev Fld.EC_TEST_RES_NSYM : Fld := ⟨29, 24⟩
abbrev Fld.EC_TEST_RES_SYM_HI : Fld := ⟨7, 0⟩
abbrev Fld.EC_TEST_SYM_SYM_LO : Fld := ⟨31, 0⟩
abbrev Fld.EC_REMAP_REFUSED : Fld := ⟨31, 16⟩
abbrev Fld.EC_REMAP_CAP : Fld := ⟨13, 8⟩
abbrev Fld.EC_REMAP_USED : Fld := ⟨5, 0⟩
abbrev Fld.VLT_CTL_CLEAN_EN : Fld := ⟨1, 1⟩
abbrev Fld.VLT_CTL_WB_EN : Fld := ⟨0, 0⟩
abbrev Fld.VLT_WINDOW_WB_GBPS : Fld := ⟨31, 24⟩
abbrev Fld.VLT_WINDOW_IDLE_GBPS : Fld := ⟨23, 16⟩
abbrev Fld.VLT_WINDOW_CEIL_GIB : Fld := ⟨6, 0⟩
abbrev Fld.VLT_WINDOW_STATUS_THROTTLE : Fld := ⟨31, 31⟩
abbrev Fld.VLT_WINDOW_STATUS_LEAVES : Fld := ⟨24, 0⟩
abbrev Fld.VLT_NEED_NEED_MS : Fld := ⟨15, 0⟩
abbrev Fld.VLT_CKPT_PERIOD_S : Fld := ⟨31, 16⟩
abbrev Fld.VLT_CKPT_DELTA_MIB : Fld := ⟨15, 0⟩
abbrev Fld.VLT_CLEAN_START_PCT : Fld := ⟨7, 0⟩
abbrev Fld.VLT_ZONE_T : Fld := ⟨2, 0⟩
abbrev Fld.VLT_STATUS_LAST_IMAGE : Fld := ⟨31, 30⟩
abbrev Fld.VLT_STATUS_SHORT : Fld := ⟨29, 29⟩
abbrev Fld.VLT_STATUS_SUSPECT : Fld := ⟨28, 16⟩
abbrev Fld.VLT_STATUS_DIES_LOST : Fld := ⟨15, 8⟩
abbrev Fld.VLT_STATUS_FREE_PCT : Fld := ⟨7, 0⟩
abbrev Fld.VLT_PRESERVE_LAST_TIME_MS : Fld := ⟨31, 16⟩
abbrev Fld.VLT_PRESERVE_LAST_MARGIN_J : Fld := ⟨15, 0⟩
abbrev Fld.VLT_ERASE_GO : Fld := ⟨0, 0⟩
abbrev Fld.DC_CFG_RATE : Fld := ⟨23, 20⟩
abbrev Fld.DC_CFG_DPC : Fld := ⟨17, 16⟩
abbrev Fld.DC_CFG_REF_SB : Fld := ⟨8, 8⟩
abbrev Fld.DC_CFG_CRC_EN : Fld := ⟨1, 1⟩
abbrev Fld.DC_CFG_PAR_EN : Fld := ⟨0, 0⟩
abbrev Fld.DC_WQ_HIGH : Fld := ⟨14, 8⟩
abbrev Fld.DC_WQ_LOW : Fld := ⟨6, 0⟩
abbrev Fld.DC_TARGET_TARGET : Fld := ⟨15, 0⟩
abbrev Fld.DC_THERM_CRIT : Fld := ⟨23, 16⟩
abbrev Fld.DC_THERM_THRESH : Fld := ⟨15, 8⟩
abbrev Fld.DC_THERM_POLL_MS : Fld := ⟨3, 0⟩
abbrev Fld.DC_CAL_ZQ_MS : Fld := ⟨31, 16⟩
abbrev Fld.DC_CAL_DQS_MS : Fld := ⟨15, 0⟩
abbrev Fld.DC_FREEZE_LIMIT_MS : Fld := ⟨31, 16⟩
abbrev Fld.DC_FREEZE_TIMEOUT_US : Fld := ⟨15, 0⟩
abbrev Fld.DC_STATUS_TEMP : Fld := ⟨31, 24⟩
abbrev Fld.DC_STATUS_REF2X : Fld := ⟨23, 23⟩
abbrev Fld.DC_STATUS_DRAIN : Fld := ⟨22, 22⟩
abbrev Fld.DC_STATUS_STATE : Fld := ⟨18, 16⟩
abbrev Fld.DC_STATUS_WQ : Fld := ⟨14, 8⟩
abbrev Fld.DC_STATUS_RQ : Fld := ⟨6, 0⟩
abbrev Fld.DC_CAP0_CAUSE : Fld := ⟨31, 28⟩
abbrev Fld.DC_CAP0_SC : Fld := ⟨27, 27⟩
abbrev Fld.DC_CAP0_RANK : Fld := ⟨26, 22⟩
abbrev Fld.DC_CAP0_BG : Fld := ⟨21, 19⟩
abbrev Fld.DC_CAP0_BA : Fld := ⟨18, 17⟩
abbrev Fld.DC_CAP0_ROW : Fld := ⟨16, 0⟩
abbrev Fld.DC_CAP1_HOME_LO : Fld := ⟨31, 0⟩
abbrev Fld.DC_CAP2_COL : Fld := ⟨27, 16⟩
abbrev Fld.DC_CAP2_HOME_HI : Fld := ⟨11, 0⟩
abbrev Fld.DC_CAP3_TIME : Fld := ⟨31, 0⟩
abbrev Fld.DC_ACTION_ACTION : Fld := ⟨1, 0⟩
abbrev Fld.NF_CFG_RATE : Fld := ⟨19, 16⟩
abbrev Fld.NF_CFG_MODE : Fld := ⟨8, 8⟩
abbrev Fld.NF_CFG_LUNS : Fld := ⟨5, 4⟩
abbrev Fld.NF_CFG_CES : Fld := ⟨3, 0⟩
abbrev Fld.NF_STATUS_LOST : Fld := ⟨31, 0⟩
abbrev Fld.NF_STATE_STATE : Fld := ⟨1, 0⟩

end Sys2Proof.Machine
end

