-- ==== Sys2Proof/Machine/StCmd.lean ====
section
/-!
DEFINITION. Machine/StCmd.lean: the state of the control complex and of the security block (14_control.md): commands in
progress, key slots, firmware slots, boot state.
-/
namespace Sys2Proof.Machine

/-- A mailbox command that has not completed (R421, R422): its mailbox, opcode, tag (R411), whether it is a C command,
whether it runs in the background, whether it is past its commit point (R424), whether its completion is discarded (R424), and
once it has finished its return code, extended status and output. -/
structure Job where
  mbx : Mbx
  opcode : Nat
  tag : Nat
  cfg : Bool
  background : Bool
  committed : Bool
  discard : Bool
  done : Option (Nat × Nat × List (BitVec 32))
  deriving DecidableEq, Repr

/-- Whose a P command is that has not completed (R423): our own, run here; our own, carried to the stroke; the bow's, run here; the
stroke's, applied here. -/
inductive ReplRole where
  | own | carried | bows | applied
  deriving DecidableEq, Repr

/-- A P command that has not completed (R423): its tag, opcode, whose it is, and whether the twin has applied it or need not. -/
structure Repl where
  tag : Nat
  opcode : Nat
  role : ReplRole
  twinDone : Bool
  /-- Return code, extended status and output to answer at its completion. -/
  answer : Nat × Nat × List (BitVec 32)
  deriving DecidableEq, Repr

/-- A key slot (R439): the key pair K1 ‖ K2, and the slot's key tag. -/
structure KeySlot where
  key : BitVec 512
  tag : BitVec 32
  deriving DecidableEq, Repr

/-- A firmware transfer (R446): the function that started it, whether through its secondary mailbox, the slot, the next offset
in units of 128 bytes. -/
structure FwTransfer where
  fn : Nat
  secondary : Bool
  slot : Nat
  next : Nat
  deriving DecidableEq, Repr

/-- An online activation (R447): its mailbox and tag, the slot it activates, the step reached, the device time of step 5. -/
structure FwActivate where
  reply : Mbx
  tag : Nat
  slot : Nat
  step : Nat
  since : Nat
  /-- The PURPOSE 0b00 HOLD ended before the firmware was ready (R448). -/
  left : Bool
  deriving DecidableEq, Repr

/-- The control complex and the security block. -/
structure Control where
  /-- Commands in progress, oldest first. -/
  jobs : List Job := []
  /-- The C command carried from the twin that runs here (R423): opcode and tag. -/
  remote : Option (Nat × Nat) := none
  /-- P commands that have not completed (R423). -/
  repl : List Repl := []
  /-- P commands that ran here with no twin to carry them to, oldest first: they are replayed to the twin at reunion (R36, R362). -/
  replay : List (Nat × Option Nat × List (BitVec 32) × List (BitVec 32) × Option (BitVec 512)) := []
  /-- Tags of carried commands applied here (R423, R411). -/
  applied : List Nat := []
  /-- The tag of the next command (R411). -/
  nextTag : Nat := 0
  /-- Life-used threshold in per cent and temperature threshold in °C (R426). -/
  alert : Nat × Nat := (0, 0)
  /-- Non-volatile (wrapped, in TABLE records, R440): key slots that are not empty (R441). -/
  keys : SMap KeySlot := {}
  /-- Fused: the security version (R444), 0 to 64. -/
  fusedSvn : Nat := 0
  /-- Fused: KEY_HASH0 and KEY_HASH1 (R444). -/
  hash0 : BitVec 384 := 0
  hash1 : BitVec 384 := 0
  /-- Fused: KEY_HASH0 is revoked (R444). -/
  hash0Revoked : Bool := false
  /-- The slot of the running image, CRY_BOOT.ACTIVE; none while no image runs (R444). -/
  active : Option Nat := none
  /-- CRY_BOOT.FALLBACK, 1 bit. Reset column: 0. -/
  fallback : Bool := false
  /-- A transfer in progress (R446). -/
  transfer : Option FwTransfer := none
  /-- An online activation in progress (R447). -/
  activate : Option FwActivate := none
  /-- PAIR_PROTO of the twin's running firmware, from its first CONTROL message after PATH_UP (R449). -/
  twinProto : Option Nat := none
  /-- VAULT_FORMAT has armed the format (R434). -/
  formatArmed : Bool := false
  /-- Dirty Shutdown Count of Get Health Info (R426). -/
  dirtyCount : Nat := 0
  deriving DecidableEq, Repr

end Sys2Proof.Machine
end

