-- ==== Sys2Proof/Machine/StCtl.lean ====
section
/-!
DEFINITION. Machine/StCtl.lean: the state of the always-on domain and of the service blocks: mode controller, timebase,
power supervisor, package pins, sideband buses, logbook, SHUTTER and frames, unlocks.
-/
namespace Sys2Proof.Machine

/-- How far a bring-up has come (R500 to R502, R561, R312). -/
inductive Bringup where
  | none        -- no bring-up runs and no host is served
  | sequencing  -- rails rise (R501)
  | boot        -- after the last step: secure boot, frame load and training (R502); STATE still STANDBY
  | rebuild     -- trained, STATE RESTORE, before step 6 of R312
  | served      -- step 6 of R312 passed: hosts are served
  deriving DecidableEq, Repr

/-- The mode controller (01_architecture.md; always-on). -/
structure ModeCtl where
  /-- SYS_MODE.STATE, 3 bits (R22). Reset column: STANDBY. -/
  mode : Mode := .standby
  /-- SYS_MODE.TRANSIT, 1 bit: a transition is in progress (R21). Reset column: 0. -/
  transit : Bool := false
  /-- SYS_MODE.REASON, 8 bits: cause of the last transition (R562). Reset column: 0x01. -/
  reason : Nat := 1
  /-- SYS_MODE.COUNT, 16 bits, wraps (R24, R562). Reset column: 0. -/
  count : Nat := 0
  /-- SYS_MODE_REQ.RESULT, 2 bits (R21). Reset column: 0. -/
  reqResult : Nat := 0
  /-- PURPOSE of the HOLD the controller is in, 2 bits (R21, R22). -/
  holdPurpose : Nat := 0
  /-- The mode that PRESERVE was entered from (R22, R24). -/
  leftMode : Mode := .standby
  /-- An off request is pending: PRESERVE ends in STANDBY (R22, R26). -/
  offPending : Bool := false
  /-- A rail dropped during PRESERVE, on a step with PRES = 0 (R22, R505). -/
  railDropped : Bool := false
  /-- The preserve-complete record of this PRESERVE has been written (R22, R307). -/
  preserveDone : Bool := false
  /-- How far the bring-up has come (R561). -/
  bringup : Bringup := .none
  /-- The bring-up that runs is the one retry of R22 with an older frame. -/
  retrying : Bool := false
  deriving DecidableEq, Repr

/-- The timebase (R18, R19; always-on). -/
structure Timebase where
  /-- Device time in ns, 64 bits (R18). Reset column: 0. -/
  ns : Nat := 0
  /-- AON ticks since the first application of VDD_AON, 64 bits (R19). Reset column: 0. -/
  ticks : Nat := 0
  /-- TIM_STATUS.LOCKED, 1 bit (R18). Reset column: 0. -/
  locked : Bool := false
  /-- TIM_STATUS.RELOCKS, 16 bits, saturates (R18). Reset column: 0. -/
  relocks : Nat := 0
  /-- TIM_CAP_DEV, 64 bits (R19). Reset column: 0. -/
  capDev : Nat := 0
  /-- TIM_CAP_AON, 64 bits (R19). Reset column: 0. -/
  capAon : Nat := 0
  /-- TIM_CAP_CTL.VALID, 1 bit (R19). Reset column: 0. -/
  capValid : Bool := false
  /-- A capture that GO took and that has not landed: device time and ticks (R19). -/
  capPending : Option (Nat × Nat) := none
  deriving DecidableEq, Repr

/-- PWR_STATUS.SEQ_STATE (17_power.md). -/
inductive SeqState where
  | noTable | off | upSeq | up | downSeq | offWait
  deriving DecidableEq, Repr

/-- The SEQ_STATE code. -/
def SeqState.code : SeqState → Nat
  | .noTable => 0 | .off => 1 | .upSeq => 2 | .up => 3 | .downSeq => 4 | .offWait => 5

/-- What the always-on domain keeps of a power event until the next bring-up writes it (R503, R562, R559). -/
structure PowerEvent where
  /-- Kind: 0 to 5 as PWR_FAULT.KIND; 0x10 a bring-up that ended in STANDBY, `bits` its REASON; 0x11 a thermal off
  request, `bits` the temperature. -/
  kind : Nat
  step : Nat
  bits : Nat
  time : Nat
  deriving DecidableEq, Repr

/-- The power supervisor (17_power.md; always-on) and the package inputs it watches. -/
structure PowerSup where
  /-- VDD_AON is applied (R550, R553). Before its first application the part does nothing. -/
  aon : Bool := false
  /-- PWR_STATUS.SEQ_STATE, 3 bits. Reset column: NO_TABLE. -/
  seq : SeqState := .noTable
  /-- PWR_STATUS.STEP, 4 bits: the step running or the highest started. Reset column: 0. -/
  step : Nat := 0
  /-- PWR_STATUS.ON_PENDING, 1 bit (R500). Reset column: 0. -/
  onPending : Bool := false
  /-- The copy of the step table used by this power-up and the power-down after it, 12 × 64 bits (R499). -/
  table : List (BitVec 32 × BitVec 32) := []
  /-- Steps started in this power-up (R501, R507). -/
  started : Nat := 0
  /-- Steps qualified in this power-up (R501). -/
  qualified : Nat := 0
  /-- PWR_STATUS.SEQ_EN, 4 bits (R501). Reset column: 0. -/
  seqEn : BitVec 4 := 0
  /-- PWR_STATUS.SEQ_OUT, 1 bit (R502). Reset column: 0. -/
  seqOut : Bool := false
  /-- The core domain is powered and out of reset (R502, R507). -/
  core : Bool := false
  /-- The chains of the power-down in progress, in the order they are switched off (R507). -/
  downChains : List Nat := []
  /-- Power-down waits for PWR_SEQ.OUT_HOLD_MS (R507 step 2). -/
  downHold : Bool := false
  /-- Steps of the chain switched off last that were logged RAIL_STUCK (R507). -/
  stuck : List Nat := []
  /-- The SEQ of the first BRINGUP record since VDD_AON was applied: records before it do not count for R405. -/
  aonSeq : Option Nat := none
  /-- An off request or crossing event waits for the current step to end: its REASON and whether the on request stays
  pending (R510). -/
  crossing : Option (Nat × Bool) := none
  /-- PFAIL_N as sampled, 1 bit (R496). Reset column: 0. -/
  pfailN : Bool := false
  /-- HOLDUP_OK as sampled, 1 bit (R496). Reset column: 0. -/
  holdupOk : Bool := false
  /-- SEQ_IN as sampled, 1 bit (R496). Reset column: 0. -/
  seqIn : Bool := false
  /-- RESET_N as sampled, 1 bit, pulled up on die (R552). -/
  resetN : Bool := true
  /-- PWR_PG.LIVE, 12 bits (R496). Reset column: 0. -/
  pg : BitVec 12 := 0
  /-- The ride timer is not zero: PWR_STATUS.RIDING, 1 bit (R511). Reset column: 0. -/
  riding : Bool := false
  /-- The bank reading: PWR_BANK_E.ENERGY_J, 16 bits, and the AON tick at which it landed; none before the first (R515).
  Reset column: energy 0, age 0xFFFF. -/
  bank : Option (Nat × Nat) := none
  /-- The bank reading counts as 0 J because it is stale (R398). -/
  bankStale : Bool := false
  /-- PWR_NEED.NEED_J, 16 bits (R516). Reset column: 0. -/
  needJ : Nat := 0
  /-- PWR_NEED.CEIL_NEED_J, 16 bits (R516). Reset column: 0. -/
  ceilNeedJ : Nat := 0
  /-- PWR_STATUS.CAPPED and CAP_GIB while it is 1 (R520). Reset column: not capped, CAP_GIB 0x30. -/
  cap : Option Nat := none
  /-- The voltage last commanded in mV; none before the first command (R521). -/
  vcoreCmd : Option Nat := none
  /-- PWR_VCORE.ACTUAL_MV, 12 bits (R521). Reset column: 0. -/
  vcoreMv : Nat := 0
  /-- The device time since which ACTUAL_MV has been more than 25 mV off TARGET, and whether that has been reported (R521). -/
  vcoreOffSince : Option (Nat × Bool) := none
  /-- PWR_FAULT.KIND, 4 bits. Reset column: 0. -/
  faultKind : Nat := 0
  /-- PWR_FAULT.STEP, 4 bits. Reset column: 0. -/
  faultStep : Nat := 0
  /-- PWR_FAULT.PG, 12 bits. Reset column: 0. -/
  faultPg : BitVec 12 := 0
  /-- The last 16 power events (R503). -/
  events : List PowerEvent := []
  /-- The junction has reached 115 °C and not yet fallen to 95 °C: an on request waits (R559). -/
  hot : Bool := false
  /-- The junction temperature last read, °C (R558). -/
  junction : Nat := 25
  /-- THERM_N, an open-drain output: 1 released (R551, R558). -/
  thermN : Bool := true
  /-- The strap MFG_TEST_N as sampled at the first application of VDD_AON (R553). -/
  mfgTestN : Bool := true
  /-- The strap XTAL_BYPASS as sampled (R553). -/
  xtalBypass : Bool := false
  /-- REFCLK_CXL is within its limits (R556). -/
  refCxl : Bool := true
  /-- REFCLK_ETH is within its limits (R556). -/
  refEth : Bool := true
  /-- The crystal is within its limits; else the internal oscillator serves (R496, R556). -/
  xtal : Bool := true
  deriving DecidableEq, Repr

/-- What a sideband bus is doing: SBn_STATUS.STATE (18_sideband.md). -/
inductive SbState where
  | idle | active | waitFree | cure | failed
  deriving DecidableEq, Repr

/-- The STATE code. -/
def SbState.code : SbState → Nat
  | .idle => 0 | .active => 1 | .waitFree => 2 | .cure => 3 | .failed => 4

/-- A transfer on a sideband bus (R525): who asked (the power supervisor or control firmware), the target, the bytes to
write, how many to read, and the retries used (R529). -/
structure SbReq where
  supervisor : Bool
  addr : Nat
  wr : List (BitVec 8)
  rlen : Nat
  retry : Nat := 0
  deriving DecidableEq, Repr

/-- One two-wire bus (18_sideband.md; SB0 core, SB1 to SB3 always-on). -/
structure SbBus where
  /-- SBn_STATUS.STATE, 3 bits. Reset column: IDLE. -/
  state : SbState := .idle
  /-- SBn_STATUS.RESULT, 4 bits. Reset column: 0. -/
  result : Nat := 0
  /-- SBn_STATUS.RETRY, 2 bits: retries used by the last transfer. Reset column: 0. -/
  retry : Nat := 0
  /-- The transfer that runs (R524). -/
  cur : Option SbReq := none
  /-- The transfers that wait: those of the supervisor first (R524). -/
  queue : List SbReq := []
  /-- SBn_NOTIFY: the latched message, sender (7 bits) and data word (16 bits); VALID is 1 while one is held (R533).
  Reset column: VALID 0. -/
  notify : Option (Nat × Nat) := none
  /-- The device time at which the latched message came while the core was unpowered, until the next bring-up writes it (R533). -/
  notifyOff : Option Nat := none
  deriving DecidableEq, Repr

/-- A logbook record (R534): TYPE, SOURCE, CLASS, REPLAYED, SEQ, TIME and the payload in 32-bit words. -/
structure LogRec where
  typ : Nat
  source : Nat
  cls : Nat
  replayed : Bool
  seq : Nat
  time : Nat
  payload : List (BitVec 32)
  deriving DecidableEq, Repr

/-- Where a record stands in flash: its sector of the area and its byte offset in the sector. -/
structure LogPlaced where
  sector : Nat
  off : Nat
  record : LogRec
  deriving DecidableEq, Repr

/-- The logbook (19_logbook.md; core domain, its ROLL and FIX areas in config flash). -/
structure Logbook where
  /-- Records staged and not yet in flash, oldest first (R536, R538): the staging buffer, 256 KiB. -/
  staged : List LogRec := []
  /-- The records the flush in progress writes: how many of the oldest staged; none while no flush runs (R538, R541). -/
  flushing : Option Nat := none
  /-- The SEQ the next record takes, 64 bits (R536, R537). -/
  next : Nat := 0
  /-- HEAD: the newest SEQ staged, 64 bits (R542). Reset column: 0. -/
  head : Nat := 0
  /-- TAIL: the first SEQ kept in ROLL, 64 bits (R542). Reset column: 0. -/
  tail : Nat := 0
  /-- The newest SEQ in flash, 64 bits (LOG_FLASHED). Reset column: 0. -/
  flashed : Nat := 0
  /-- Records dropped for want of room and the device times of the first and the last drop (R539). -/
  dropped : Option (Nat × Nat × Nat) := none
  /-- Bytes staged in this PRESERVE, at most 32 KiB (R540). -/
  preserveBytes : Nat := 0
  /-- The SEQ that the first record after the seal of this PRESERVE takes (R540). -/
  preserveFrom : Nat := 0
  /-- The second flush of PRESERVE (R540): 0 none, 1 owed once the first has ended, 2 running. -/
  secondFlush : Nat := 0
  /-- LOG_STATUS.FIX_STATE, 2 bits: FILLING 0, ERASING 1, FULL 2 (R543, R544). Reset column: 0. -/
  fixState : Nat := 0
  /-- FIX sectors still to be erased by a LOG_CLEAR (R544). -/
  fixErase : List Nat := []
  /-- Non-volatile: the records in the ROLL area, in SEQ order (R542). -/
  roll : List LogPlaced := []
  /-- Non-volatile: the records in the FIX area, in SEQ order (R543). -/
  fix : List LogPlaced := []
  /-- Non-volatile: the ROLL sector the writer stands in and the next free byte in it (R541, R542). -/
  rollAt : Nat × Nat := (0, 0)
  /-- Non-volatile: the same for FIX (R543). -/
  fixAt : Nat × Nat := (0, 0)
  /-- LOG_FLUSH commands that wait: the tag and the SEQ that has to reach flash (R538). -/
  waiters : List (Nat × Nat) := []
  deriving DecidableEq, Repr

/-- The state of a kept frame (R469, R473, R475; FRAME_LIST). -/
inductive FrameState where
  | testing | accepted | kept | rejected
  deriving DecidableEq, Repr

/-- A frame (R468): its number, the device time of its commit, its GROUPS mask, its state and the committed value of every
RWS register word that differs from its reset word. -/
structure Frame where
  num : Nat
  time : Nat
  groups : BitVec 32
  state : FrameState
  values : SMap (BitVec 32)
  deriving DecidableEq, Repr

/-- What SHUTTER is doing (R464, R468, R476). -/
structure Shutter where
  /-- Staged values of RWS registers that differ from the reset word (R456). -/
  staged : SMap (BitVec 32) := {}
  /-- Committed values of RWS registers that differ from the reset word (R457). -/
  committed : SMap (BitVec 32) := {}
  /-- Non-volatile (R468): the frames kept in flash, newest first, at most 4 (R469). -/
  frames : List Frame := []
  /-- Frames the core works with, newest first: those of flash and one not yet written (R468, R470). -/
  live : List Frame := []
  /-- Non-volatile (R468): the number of the frame recorded in force. -/
  recorded : Nat := 0
  /-- SHT_FRAME.FRAME, 30 bits: the frame in force. Reset column: 0. -/
  inForce : Nat := 0
  /-- The highest frame number ever issued, 30 bits (R469); non-volatile with the frames. -/
  highest : Nat := 0
  /-- A frame write runs (R468): the number of the frame it writes. -/
  writing : Option Nat := none
  /-- SHT_STATUS.UNSAVED, 1 bit (R470). Reset column: 0. -/
  unsaved : Bool := false
  /-- SHT_STATUS.RESULT, 2 bits (R466). Reset column: 0. -/
  result : Nat := 0
  /-- SHT_STATUS.REJECT_CAUSE, 4 bits (R466). Reset column: 0. -/
  cause : Nat := 0
  /-- The frame in force is on its test strip until this device time, and the frame that was in force before it (R474). -/
  strip : Option (Nat × Nat) := none
  /-- An automatic rewind is pending: the frame it goes to (R474, R476). -/
  autoPending : Option Nat := none
  /-- The HOLD that the automatic rewind asked for has been entered (R474). -/
  autoHold : Bool := false
  deriving DecidableEq, Repr

/-- Unlocks (R458 to R460): one for each requester: 0 control firmware, 1 to 4 the privileged functions of port A links 0
and 1 and port B links 0 and 1. -/
structure Unlocks where
  /-- SYS_UNLOCK_STATUS.OPEN, 5 bits. Reset column: 0. -/
  isOpen : BitVec 5 := 0
  deriving DecidableEq, Repr

end Sys2Proof.Machine
end

