-- ==== Sys2Proof/Machine/StFault.lean ====
section
/-!
DEFINITION. Machine/StFault.lean: the state of the fault manager, of the engines and of the cox pair (13_faults.md).
-/
namespace Sys2Proof.Machine

/-- A fault event (R394): unit ID, fault class code, event class. -/
structure FaultEv where
  unit : Nat
  code : Nat
  cls : Nat
  deriving DecidableEq, Repr

/-- A handling slot (R407): FLT_SLOTk_UNIT and FLT_SLOTk_STATE. -/
structure FltSlot where
  unit : Nat
  code : Nat
  cls : Nat
  /-- STAGE: 1 CONTAIN, 2 TEST, 3 DECIDE, 4 ACT, 5 RETURN. -/
  stage : Nat
  escalated : Bool := false
  lasting : Bool := false
  deriving DecidableEq, Repr

/-- One eight: 8 engines (R413, R419). -/
structure Eight where
  /-- Engines that run work. -/
  active : List Nat := [0, 1, 2, 3, 4, 5, 6]
  /-- The standby spare. -/
  spare : Option Nat := some 7
  /-- Engines under BIST. -/
  parked : List Nat := []
  /-- Engines retired. -/
  retired : List Nat := []
  deriving DecidableEq, Repr

/-- The cox pair (R411, R412). -/
inductive CoxState where
  | running | restarting | stopped
  deriving DecidableEq, Repr

/-- The fault manager. -/
structure FaultMgr where
  /-- Events that blocks have raised and the manager has not recorded yet, in order (R394). -/
  reports : List FaultEv := []
  /-- FLT_SLOT0 to 7 (R407). Reset column: 0 (free). -/
  slots : SMap FltSlot := {}
  /-- The queue of 64, ordered by class, CRITICAL first, and then by arrival (R407). -/
  queue : List FaultEv := []
  /-- Units fenced under R409, in fencing order. -/
  fenced : List FaultEv := []
  /-- FLT_LAST_UNIT, FLT_LAST (R394). Reset column: 0. -/
  last : FaultEv := ⟨0, 0, 0⟩
  /-- Transient events: unit, code, device time (R405). -/
  transient : List (Nat × Nat × Nat) := []
  /-- Tracker entries that have raised the stuck-operation event (R402). -/
  stuck : List Nat := []
  /-- Device times of the last freezes of HC instances, by stack: (stack, instance, time) (R414). -/
  hbmFreezes : List (Nat × Nat × Nat) := []
  /-- HBM stacks retired, kept in the repair table (R414). -/
  stackList : List Nat := []
  /-- Handshake channels fenced, each with the unit of its acknowledging block (R400). -/
  channels : List (Nat × Nat) := []
  /-- The eights (R413): those that differ from the reset population. -/
  eights : SMap Eight := {}
  /-- AES pairs that run on one engine: CRY_STATUS.PAIRS_SINGLE, 8 bits (R443). Reset column: 0. -/
  aesSingle : BitVec 8 := 0
  /-- The cox pair (R411). -/
  cox : CoxState := .running
  /-- Device time at which the last restart ended or the mismatch came (R412). -/
  coxAt : Option Nat := none
  /-- Tags of commands whose commit point lies before the last firmware checkpoint (R411). -/
  ckptTags : List Nat := []
  /-- Line-cache slices bypassed (R406, R201). -/
  bypass : List Nat := []
  deriving DecidableEq, Repr

end Sys2Proof.Machine
end

