-- ==== Sys2Proof/Machine/StFlash.lean ====
section
/-!
DEFINITION. Machine/StFlash.lean: the state of the configuration flash (16_config_flash.md): array words, banks and their
queues, journals, the force log, protection.
-/
namespace Sys2Proof.Machine

/-- FLS_STATUS.STATE_A. -/
inductive BankState where
  | idle | programming | erasing | eraseSuspended | programSuspended | nested
  deriving DecidableEq, Repr

/-- The STATE code. -/
def BankState.code : BankState → Nat
  | .idle => 0 | .programming => 1 | .erasing => 2 | .eraseSuspended => 3 | .programSuspended => 4 | .nested => 5

/-- Who issued a flash operation: FLS_CMD, or the controller's own sequencer for the frame writer, the logbook, firmware
transfer (R488). -/
inductive FlsClient where
  | register | frames | logbook | firmware
  deriving DecidableEq, Repr

/-- An operation at a bank (R479): a word program (its word) or a sector erase, at its flash address. -/
structure FlsOp where
  client : FlsClient
  fa : Nat
  /-- The word of a program; none for an erase. -/
  word : Option (BitVec 256)
  deriving DecidableEq, Repr

/-- A journal or force-log entry (R492, R490): KIND, byte 1, the 32-bit field at bytes 4 to 7, SEQ. -/
structure JEntry where
  kind : Nat
  info : Nat
  fa : Nat
  seq : Nat
  deriving DecidableEq, Repr

/-- A pair of sectors of entries (R490, R493): the words of the first and of the second sector (none: a word whose CRC fails),
which sector is active, the last SEQ. -/
structure JPair where
  a : List (Option JEntry) := []
  b : List (Option JEntry) := []
  second : Bool := false
  seq : Nat := 0
  deriving DecidableEq, Repr

/-- One bank. -/
structure Bank where
  /-- STATE, 3 bits. Reset column: IDLE. -/
  state : BankState := .idle
  /-- The operation that runs or is suspended; the erase while a program is nested in it (R483). -/
  cur : Option FlsOp := none
  /-- The program nested in the suspended erase (R483). -/
  inner : Option FlsOp := none
  /-- Operations queued, at most 8, in arrival order (R479). -/
  queue : List FlsOp := []
  /-- FAIL: the bank's last finished operation failed (R480). -/
  failed : Bool := false
  /-- The erase was suspended for queued programs and resumes when none is queued (R484). -/
  auto : Bool := false
  /-- A RESUME waits for the nested program to end (R483). -/
  resume : Bool := false
  /-- The bank's erase journal, non-volatile (R493). -/
  journal : JPair := {}
  deriving DecidableEq, Repr

/-- The configuration flash. -/
structure Flash where
  bankA : Bank := {}
  bankB : Bank := {}
  /-- Non-volatile: words that are not all ones, by flash address over 32 (R477, R478). -/
  words : SMap (BitVec 256) := {}
  /-- Non-volatile: sectors whose content is undefined after a failed erase, by flash address over 64 KiB (R482). -/
  undef : SMap Nat := {}
  /-- Non-volatile: the force log (R490). -/
  force : JPair := {}
  /-- Non-volatile: FLS_PROT_A, FLS_PROT_B, FLS_PROT_INFO (R485). -/
  protA : BitVec 32 := 0
  protB : BitVec 32 := 0
  /-- Bit 6, the identity sector, is set at manufacture (R485). -/
  protInfo : BitVec 8 := 0x40
  /-- The values staged for PROT_WRITE by direct writes (FLS_PROT_A). -/
  stageA : BitVec 32 := 0
  stageB : BitVec 32 := 0
  stageInfo : BitVec 8 := 0
  /-- Non-volatile: the password, once set (R487). -/
  password : Option (BitVec 64) := none
  /-- FLS_PWD_STATUS.WRONG, 3 bits. Reset column: 0. -/
  wrong : Nat := 0
  /-- FLS_PWD_STATUS.LOCKED, 1 bit. Reset column: 0. -/
  locked : Bool := false
  /-- FLS_CMD.RESULT, 4 bits. Reset column: 0. -/
  result : Nat := 0
  /-- FLS_CMD.BUSY, 1 bit. Reset column: 0. -/
  busy : Bool := false
  /-- FLS_STATUS.REERASED, 8 bits, saturates (R494). Reset column: 0. -/
  reerased : Nat := 0
  /-- Sectors that the frame writer, the logbook and the journals skip, by flash address over 64 KiB (R495). -/
  skip : List Nat := []
  deriving DecidableEq, Repr

end Sys2Proof.Machine
end

