-- ==== Sys2Proof/Machine/StHost.lean ====
section
/-!
DEFINITION. Machine/StHost.lean: the state of the CXL host ports (12_cxl_ports.md): links, HDM decoders, and what each
function keeps: event logs, interrupt policy, poison list, alert thresholds.
-/
namespace Sys2Proof.Machine

/-- CXA_LINKk_STATUS.STATE. -/
inductive LinkState where
  | down | training | recovery | l0
  deriving DecidableEq, Repr

/-- The STATE code. -/
def LinkState.code : LinkState → Nat
  | .down => 0 | .training => 1 | .recovery => 2 | .l0 => 3

/-- An HDM decoder of an LD (R376): base, size, DPA skip in bytes; interleave ways and granularity in bytes; the LD's own
target position; Lock On Commit, Committed, Error Not Committed. -/
structure Hdm where
  base : Nat := 0
  size : Nat := 0
  skip : Nat := 0
  iw : Nat := 1
  ig : Nat := 256
  pos : Nat := 0
  lock : Bool := false
  committed : Bool := false
  err : Bool := false
  deriving DecidableEq, Repr

/-- A General Media or fault event in a function's event log (R384, R426): kind 0 General Media with DPA and transaction type,
1 a fault event with unit ID and fault class code; its timestamp. -/
structure EvRec where
  kind : Nat
  a : Nat
  b : Nat
  time : Nat
  deriving DecidableEq, Repr

/-- One event log: its records, oldest first, at most 256, and its overflow count. -/
structure EvLog where
  recs : List EvRec := []
  overflow : Nat := 0
  deriving DecidableEq, Repr

/-- What one function keeps (R369, R384, R426). -/
structure Func where
  /-- Logs Informational, Warning, Failure, Fatal (R426). -/
  info : EvLog := {}
  warn : EvLog := {}
  fail : EvLog := {}
  fatal : EvLog := {}
  /-- Device time of the last General Media record (R384). -/
  lastGm : Option Nat := none
  /-- MSI-X vector of each of the four logs; none where no interrupt is assigned (R426). -/
  policy : List (Option Nat) := [none, none, none, none]
  /-- DPAs in the function's windows that have held a poison marker since the last RESTORE (R426). -/
  poison : List Nat := []
  poisonMore : Bool := false
  /-- The result of the last Scan Media: DPAs found poisoned; none while none has run. -/
  scan : Option (List Nat) := none
  /-- HDM decoders 0 to 3 (R376). -/
  hdm : List Hdm := [{}, {}, {}, {}]
  /-- The function's SPDM session for IDE_KM is open (R370, R386). -/
  secured : Bool := false
  deriving DecidableEq, Repr

/-- The writes and atomics that a GPF Phase 2 request covers (R381): places in the order of arrival of those with an entry; LD and tag of
those held back; the next place at the request. -/
structure GpfWait where
  arrs : List Nat
  tags : List (Nat × Nat)
  upTo : Nat
  deriving DecidableEq, Repr

/-- One link of a port. -/
structure Link where
  /-- STATE, 3 bits. Reset column: DOWN. -/
  state : LinkState := .down
  /-- WIDTH, 5 bits. Reset column: 0. -/
  width : Nat := 0
  /-- IDE, 2 bits: 0 no stream, 1 SECURE, 2 INSECURE (R386, R387). Reset column: 0. -/
  ide : Nat := 0
  /-- DEGRADED, 1 bit (R388). Reset column: 0. -/
  degraded : Bool := false
  /-- PERST_N of the link is asserted, as the pin stands at power-on. -/
  perst : Bool := true
  /-- M2S Req and RwD credits the host holds, 0 to 256 each (R374). -/
  req : Nat := 0
  rwd : Nat := 0
  /-- Credits withheld under R69, to be returned: Req, RwD. -/
  withheld : Nat × Nat := (0, 0)
  /-- Responses that wait for L0 (R389): LD, tag, data (none for Cmp), poison. -/
  retry : List (Nat × Nat × Option (BitVec 512) × Bool) := []
  /-- RAS status (R385): bit 0 Mem Poison Received, 1 Receiver Overflow, 2 CRC Threshold, 3 Retry Threshold,
  4 Internal Error, 5 IDE error (R387). -/
  ras : BitVec 6 := 0
  /-- A GPF Phase 2 whose response is owed (R381). -/
  gpf : Option GpfWait := none
  /-- Completions of entries accepted before the link went down are discarded: those entries (R390, R392). -/
  discard : List Nat := []
  deriving DecidableEq, Repr

/-- One port. -/
structure Port where
  /-- CXA_CFG.MODE in force, 2 bits (R368). Reset column: 0. -/
  mode : Nat := 0
  /-- CXA_CFG.LDS in force, 5 bits (R368). Reset column: 0x10. -/
  lds : Nat := 16
  /-- CXA_CFG.IDE_REQ in force, 1 bit (R368). Reset column: 0. -/
  ideReq : Bool := false
  link0 : Link := {}
  link1 : Link := {}
  deriving DecidableEq, Repr

/-- The host ports and their functions. -/
structure CxlHost where
  portA : Port := {}
  portB : Port := {}
  /-- Functions by code: LD numbers 0 to 31, 0x20 and 0x21 the FM-owned LDs. -/
  funcs : SMap Func := {}
  /-- Mem_Active and Media_Status ready (R371). -/
  memActive : Bool := false
  deriving DecidableEq, Repr

end Sys2Proof.Machine
end

