-- ==== Sys2Proof/Machine/StOut.lean ====
section
/-!
DEFINITION. Machine/StOut.lean: what the block sends out: the answers and frames a step emits, kept as a trace.
-/
namespace Sys2Proof.Machine

/-- One thing the block sends or does at its outside. The trace of these is the model's own (the spec's signals, made plain
data). -/
inductive Output where
  /-- A DRS MemData (R372, R383): port, link, LD, tag, data, poison; DevLoad (R375). -/
  | memData (port link ld tag : Nat) (data : BitVec 512) (poison : Bool) (devLoad : Nat)
  /-- An NDR Cmp (R372). -/
  | cmp (port link ld tag devLoad : Nat)
  /-- A GPF Phase 2 response (R381). -/
  | gpf (port link : Nat)
  /-- Credits returned to the host (R374): Req and RwD. -/
  | credit (port link req rwd : Nat)
  /-- AER and the MSI-X vector for a RAS condition (R385): its bit. -/
  | aer (port link bit : Nat)
  /-- An MSI-X vector of a function. -/
  | msix (fn vector : Nat)
  /-- A mailbox completion (R425): return code, extended status, payload in 32-bit words. -/
  | mbx (m : Mbx) (opcode rc ext : Nat) (payload : List (BitVec 32))
  /-- An answer on a function's DOE mailbox (R370): protocol and the words of the answer. -/
  | doe (fn protocol : Nat) (words : List (BitVec 32))
  /-- An Ethernet frame sent (R325). -/
  | frame (f : NetFrame)
  /-- A frame handed to control firmware (R324): MAC, port, kind 0 ARP, neighbour discovery or ICMP, 1 CM. -/
  | toFirmware (mac port kind : Nat)
  /-- A DATA frame of the twin link (R134): path, PSEQ, ACKSEQ, CRD, MSN, OFFSET, LAST. -/
  | twData (path pseq ackseq crd msn off : Nat) (last : Bool)
  /-- An IDLE frame (R134): path, ACKSEQ, NAK, CRD. -/
  | twIdle (path ackseq : Nat) (nak : Bool) (crd : Nat)
  /-- A BEAT (R149): path, ACKSEQ, CRD. -/
  | twBeat (path ackseq crd : Nat)
  /-- PATH_UP, request or acknowledge (R152), with the pair-record tag (R120). -/
  | twPathUp (path : Nat) (ack : Bool) (tag : Nat)
  /-- LANE_RETIRE, request or acknowledge (R155): lanes to remain. -/
  | twRetire (path : Nat) (ack : Bool) (lanes : BitVec 8)
  /-- A message handed to the twin link (R139). -/
  | twMessage (m : TwMsg)
  /-- A transfer started on a sideband bus (R525). -/
  | sideband (bus : Nat) (r : SbReq)
  /-- SCL clocks and a STOP of the hang cure (R527). -/
  | cure (bus clocks : Nat)
  /-- A DRAM command (R230): instance, kind 0 read, 1 write, 2 precharge, 3 activate, 4 refresh, 5 calibration; location. -/
  | dram (inst kind : Nat) (sc rank bg ba row col : Nat)
  /-- A quarter programmed to NAND (R286, R292): its LOC, main bytes and spare bytes. -/
  | nand (loc : Nat) (main spare : List (BitVec 8))
  /-- Bits the JTAG port shifts out (R554): the 32-bit identification, the bypass bit or the boundary sample. -/
  | jtag (instr : Nat) (bits : BitVec 64)
  deriving DecidableEq, Repr

end Sys2Proof.Machine
end

