-- ==== Sys2Proof/Machine/StVault.lean ====
section
/-!
DEFINITION. Machine/StVault.lean: the state of the vault (10_vault.md): what the NAND holds, leaf map, dirty window, preserve
and restore progress.
-/
namespace Sys2Proof.Machine

/-- A LEAF record (R292, R293): its header fields and its 64 lines, of which only those that are not zero are listed, each with
what its ciphertext was encrypted under (device line, key tag); POISON is a mask. -/
structure LeafRec where
  leaf : Nat
  zone : Nat
  seq : Nat
  reloc : Bool
  twinSrc : Bool
  epoch : Nat
  regionId : Nat
  keytag : BitVec 32
  poison : BitVec 64
  /-- PREV, where PREV_VALID is 1 (R292). -/
  prev : Option Nat
  /-- Device time at which it was written, for the record of R317. -/
  time : Nat
  lines : SMap (BitVec 512)
  /-- The quarter's page has reported PASS (R290). -/
  programmed : Bool
  deriving DecidableEq, Repr

/-- A leaf-map entry (R296): PRESENT is membership; ZONE and LOC, 40 bits. -/
structure LeafLoc where
  zone : Nat
  loc : Nat
  deriving DecidableEq, Repr

/-- Where a leaf of the dirty window stands: in join order (R301), and whether it is twin-backed (R304). -/
structure WinLeaf where
  leaf : Nat
  twinBacked : Bool
  deriving DecidableEq, Repr

/-- A leaf record on its way to NAND (R290, R301): its LOC, its leaf, whether a line of the leaf was applied since its read
began, whether the page of the record has reported PASS. -/
structure WbLeaf where
  leaf : Nat
  loc : Nat
  dirtied : Bool
  pagePass : Bool
  /-- The record is a relocation (R305). -/
  reloc : Bool
  deriving DecidableEq, Repr

/-- A segment (R285, R299): zone and strength code of an open or written segment, the SEQ at opening, its erase count, whether
it is open, and the pages of it programmed. -/
structure Segment where
  zone : Nat
  t : Nat
  seq : Nat
  erases : Nat
  isOpen : Bool
  deriving DecidableEq, Repr

/-- The TABLE records of one checkpoint or preserve (R293, R268, R367). -/
structure Tables where
  regions : SMap Region := {}
  shares : SMap Share := {}
  keys : SMap KeySlot := {}
  repair : RepairTable := {}
  ext : SMap ExtPair := {}
  extBase : ExtPair := {}
  pair : Option PairRec := none
  memKeys : SMap KeyEnt := {}
  domains : SMap Domain := {}
  listen : List (Nat × Nat) := []
  addrs : SMap (List PortAddr) := {}
  /-- NET_CTL.PROT in force when the network tables were written (R347). -/
  prot : Bool := false
  tenants : SMap Tenant := {}
  stackList : List Nat := []
  deriving DecidableEq, Repr

/-- A superblock page (R295). -/
structure Superblock where
  gen : Nat
  seq : Nat
  ctrlId : Nat
  pairId : Nat
  /-- Chip enables, LUNs, pages per block, blocks per LUN. -/
  geometry : Nat × Nat × Nat × Nat
  zones : List Nat
  ckptSeq : Nat
  s : Nat
  deriving DecidableEq, Repr

/-- A SEAL record (R293, R307): its SEQ, its dirty leaves, its twin-backed extents. -/
structure SealRec where
  seq : Nat
  leaves : List Nat
  twinBacked : List Nat
  deriving DecidableEq, Repr

/-- A PRESERVE_DONE record (R293): its SEQ, the SEQ of its SEAL, preserve time in ms, bank energy in J, leaves written. -/
structure DoneRec where
  seq : Nat
  sealSeq : Nat
  ms : Nat
  joules : Nat
  leaves : Nat
  deriving DecidableEq, Repr

/-- A leaf that RESTORE has still to bring back: from the twin, and whether it was asked for on demand or raised (R311). -/
structure Unrestored where
  fromTwin : Bool
  /-- 0 on demand, 1 raised, 2 in address order. -/
  prio : Nat
  running : Bool
  /-- The twin's answer has come, and its lines stand at their homes (R124). -/
  got : Bool := false
  /-- The winning epoch of its extent, for a leaf due from the twin (R124). -/
  epoch : Nat := 0
  deriving DecidableEq, Repr

/-- What the NAND holds, all non-volatile. -/
structure Nand where
  /-- LEAF records by LOC (R296). -/
  leaves : SMap LeafRec := {}
  /-- Segments that are not erased, by stripe group × 65,536 + block (R285). -/
  segs : SMap Segment := {}
  /-- Stripe rows whose parity page has been programmed with PASS: segment and row (R289, R290). -/
  parity : List (Nat × Nat) := []
  /-- Segments erased and free, in the order in which they were erased, each with its erase count (R320). -/
  free : List (Nat × Nat) := []
  /-- Superblock copies A and B, latest page of each (R295). -/
  supA : Option Superblock := none
  supB : Option Superblock := none
  /-- The leaf map as the latest complete checkpoint cycle holds it (R297). -/
  ckptMap : SMap LeafLoc := {}
  /-- MAP_DELTA entries written: SEQ of the record, leaf, entry (none: free), oldest first (R297). -/
  deltas : List (Nat × Nat × Option LeafLoc) := []
  /-- The latest TABLE records (R293). -/
  tables : Tables := {}
  /-- The latest SEAL and PRESERVE_DONE records. -/
  sealed : Option SealRec := none
  done : Option DoneRec := none
  /-- Blocks retired, by segment and group position, and their erase counts (R291). -/
  retired : List (Nat × Nat) := []
  /-- Dies lost: channel × 32 + CE × 4 + LUN (R291). -/
  lost : List Nat := []
  /-- The capacity geometry: pages per block and blocks per LUN of the parameter page (R283). -/
  pages : Nat := 0
  blocks : Nat := 0
  /-- Main bytes of a page and LUN capacity as the parameter page gives them: raw main capacity in bytes (R283). -/
  raw : Nat := 0
  deriving DecidableEq, Repr

/-- The vault controller. -/
structure Vault where
  nand : Nand := {}
  /-- The leaf map, in its DDR5 reserve (R296). -/
  map : SMap LeafLoc := {}
  /-- SEQ of the next record (R294). -/
  seq : Nat := 1
  /-- Changes of the leaf map not yet written as MAP_DELTA: leaf and entry (R297). -/
  pending : List (Nat × Option LeafLoc) := []
  /-- MAP_DELTA bytes written since the last cycle began (R297). -/
  deltaBytes : Nat := 0
  /-- A checkpoint cycle runs: the SEQ at its start and the map as it stood (R297). -/
  cycle : Option (Nat × SMap LeafLoc) := none
  /-- VAULT_CHECKPOINT commands that wait (R437): mailbox and tag. -/
  waiters : List (Mbx × Nat) := []
  /-- The dirty window in join order (R94, R301, R304). -/
  window : List WinLeaf := []
  /-- Records on their way (R290). -/
  inflight : List WbLeaf := []
  /-- The segment that cleaning relocates from (R305). -/
  cleaning : Option Nat := none
  /-- Segments being erased: the positions still to be erased (R298, R319). -/
  erasing : SMap (List Nat) := {}
  /-- Failed programs and erases: die, segment and device time (R291). -/
  fails : List (Nat × Nat × Nat) := []
  /-- Erase-state checks failed by the block under preparation: segment × 16 + position, count (R319). -/
  checks : SMap Nat := {}
  /-- VLT_STATUS.LAST_IMAGE, 2 bits. Reset column: 0. -/
  lastImage : Nat := 0
  /-- SHORT, 1 bit. Reset column: 0. -/
  short : Bool := false
  /-- SUSPECT, 13 bits, saturates: the extents logged under R318. Reset column: 0. -/
  suspects : List Nat := []
  /-- VLT_PRESERVE_LAST: TIME_MS and MARGIN_J, 16 bits each. Reset column: 0. -/
  lastMs : Nat := 0
  lastJ : Nat := 0
  /-- The bring-up that runs has read the vault's tables and rebuilt the leaf map (R312, steps 2 to 4). -/
  loaded : Bool := false
  /-- The step of R307 reached; 0 outside PRESERVE. -/
  step : Nat := 0
  /-- Device time of step 1 and NEED_MS as it stood then (R309). -/
  startNs : Nat := 0
  needMs : Nat := 0
  /-- The SEAL of this PRESERVE: its SEQ, and the leaves still to be written (R307). -/
  sealSeq : Nat := 0
  sealLeft : List Nat := []
  sealCount : Nat := 0
  /-- Leaves with an image that are not restored yet (R311); empty once LAZY is 0. -/
  unrestored : SMap Unrestored := {}
  /-- Leaves lost under R316. -/
  lostLeaves : List Nat := []
  /-- The format runs (R321). -/
  formatting : Bool := false
  deriving DecidableEq, Repr

end Sys2Proof.Machine
end

