-- ==== Sys2Proof/Machine/State.lean ====
section
/-!
DEFINITION. Machine/State.lean: the state of the block, how it stands before VDD_AON is first applied, and how a step can
stop.
-/
namespace Sys2Proof.Machine

/-- The state of the controller: plain data, all that the spec gives it, and the queue of the commands that wait. -/
structure State where
  /-- The commands that wait, first in, first out (the model's own: how the outside reaches the block). -/
  pending : List Instr := []
  /-- What the block has sent, newest first (the model's own). -/
  out : List Output := []
  /-- How many free values have been used (the model's own): DESIGN CHOICE 0. -/
  fresh : Nat := 0
  /-- Register words whose RW, RWG, RSC or W1C bits differ from the Reset column, by BAR2 offset of the live view (R10,
  R450). RWS fields hold the value in force. -/
  regs : SMap (BitVec 32) := {}
  /-- Register values written to RSC fields and not yet landed (R10, R463). -/
  rsc : SMap (BitVec 32) := {}
  /-- The core's copies of always-on registers as the last AON tick left them (R20, R462). -/
  copies : SMap (BitVec 32) := {}
  /-- 64-bit counters that are not 0, by BAR2 offset (R10, R450). -/
  ctrs : SMap (BitVec 64) := {}
  /-- High words of counters latched by a 32-bit read of the low word, by 8 × offset + requester (R454). -/
  latched : SMap (BitVec 32) := {}
  mode : ModeCtl := {}
  tim : Timebase := {}
  pwr : PowerSup := {}
  sb0 : SbBus := {}
  sb1 : SbBus := {}
  sb2 : SbBus := {}
  sb3 : SbBus := {}
  log : Logbook := {}
  sht : Shutter := {}
  unlocks : Unlocks := {}
  addr : AddrMap := {}
  trk : Tracker := {}
  twl : TwLink := {}
  pair : Pair := {}
  tier : TierMgr := {}
  lc : LineCache := {}
  /-- Channel controllers 0 to 47: 16 DC, then 32 HC (R220); one not listed is as at reset. -/
  ch : SMap Channel := {}
  ec : CodeEng := {}
  /-- Home lines by `Home.key` (HBM and DDR5, R162): a line not listed holds what power-up left there. -/
  mem : SMap Cell := {}
  vlt : Vault := {}
  net : Net := {}
  cxl : CxlHost := {}
  flt : FaultMgr := {}
  cmd : Control := {}
  fls : Flash := {}
  deriving DecidableEq, Repr

/-- Why a step stops with a fault. -/
inductive Fault where
  /-- Raised by JTAG_INSTRUCTION for EXTEST and the manufacturing scan with MFG_TEST_N low: the spec gives these no effect on the
  block's state (R553, R554). Safe: nothing is said of what follows. -/
  | manufacturingScan
  deriving DecidableEq, Repr

/-- Why a step refuses. -/
inductive Refusal where
  /-- Raised by `exec` for a command that has no meaning yet, by its mnemonic. Safe: nothing is said of what follows. -/
  | notModelled (mnemonic : String)
  deriving DecidableEq, Repr

/-- The machine before the first application of VDD_AON: every field at its Reset column or at the value the log names. -/
def State.reset : State := {}

end Sys2Proof.Machine
end

