-- ==== Sys2Proof/Machine/Ops.lean ====
section
/-!
DEFINITION. Machine/Ops.lean: the shared operations on registers, counters, free values, outputs, the logbook's staging
buffer, fault reports, unlocks.
-/
namespace Sys2Proof.Machine

/-- What a command answers. -/
abbrev Ans := Host.Outcome State Fault Refusal

/-! ## Registers and counters -/

/-- The word a register's stored fields hold (R10, R12). -/
def State.reg (s : State) (a : Nat) : Word := s.regs.getD a (resetAt a)

/-- A stored field of a register. -/
def State.fld (s : State) (a : Nat) (f : Fld) : Nat := (s.reg a).field f.hi f.lo

/-- Store a register word. -/
def State.setReg (s : State) (a : Nat) (w : Word) : State := { s with regs := s.regs.put (resetAt a) a w }

/-- Store one field of a register. -/
def State.setFld (s : State) (a : Nat) (f : Fld) (v : Nat) : State := s.setReg a ((s.reg a).setField f.hi f.lo v)

/-- A 64-bit counter. -/
def State.ctr (s : State) (a : Nat) : BitVec 64 := s.ctrs.getD a 0

/-- Advance a counter by `n`; counters wrap (R10). -/
def State.bumpBy (s : State) (a n : Nat) : State :=
  { s with ctrs := s.ctrs.put 0 a (s.ctr a + BitVec.ofNat 64 n) }

/-- Advance a counter. -/
def State.bump (s : State) (a : Nat) : State := s.bumpBy a 1

/-- A field with the clamping of its description: values outside `lo` to `hi` count as the nearer limit. -/
def State.fldIn (s : State) (a : Nat) (f : Fld) (lo hi : Nat) : Nat := clamp lo hi (s.fld a f)

/-! ## Time, free values, outputs -/

/-- Device time in ns (R9, R18). -/
def State.now (s : State) : Nat := s.tim.ns

/-- The next free value: one the spec leaves open. -/
def State.freeVal (s : State) : Nat := Config.freeNat s.fresh

/-- The state after a free value has been used. -/
def State.freed (s : State) : State := { s with fresh := s.fresh + 1 }

/-- Send something. -/
def State.emit (s : State) (o : Output) : State := { s with out := o :: s.out }

/-! ## The logbook's staging buffer (R534 to R540) -/

/-- The length in bytes of a record with `n` payload words (R534): header 24, payload at least 16, CRC 4. -/
def logLen (n : Nat) : Nat := 28 + 4 * clamp 4 249 n

/-- The bytes a record takes. -/
def LogRec.len (r : LogRec) : Nat := logLen r.payload.length

/-- The bytes staged. -/
def Logbook.used (l : Logbook) : Nat := l.staged.foldl (fun n r => n + r.len) 0

/-- The staging buffer in bytes. -/
def logBuf : Nat := 262144

/-- A payload as it is laid out: 4 to 249 words (R534). -/
def logPayload (p : List Word) : List Word := (p ++ List.replicate (4 - p.length) 0).take 249

/-- Start a flush of all that is staged, where none runs (R538). -/
def Logbook.startFlush (l : Logbook) : Logbook :=
  if l.flushing.isSome || l.staged.isEmpty then l else { l with flushing := some l.staged.length }

/-- The second flush of PRESERVE (R540): at once, or when the flush that runs has ended. -/
def Logbook.flushAgain (l : Logbook) : Logbook :=
  if l.flushing.isSome then { l with secondFlush := 1 } else { l.startFlush with secondFlush := 2 }

/-- Whether the fill has reached LOG_CTL.FLUSH_PCT (R538). -/
def State.logFull (s : State) : Bool :=
  decide (s.fldIn Reg.LOG_CTL Fld.LOG_CTL_FLUSH_PCT 10 90 * logBuf ≤ 100 * s.log.used)

/-- Stage a record with the time given, REPLAYED or not, where the logbook is powered (R536, R539, R540). -/
def State.logAt (s : State) (typ source cls : Nat) (replayed : Bool) (time : Nat) (payload : List Word) : State :=
  if !s.pwr.core then s else
  let p := logPayload payload
  let n := logLen p.length
  let inPreserve := s.mode.mode == .preserve
  if logBuf < s.log.used + n || (inPreserve && decide (32768 < s.log.preserveBytes + n)) then
    let d := match s.log.dropped with
      | none => (1, s.now, s.now)
      | some (k, t0, _) => (k + 1, t0, s.now)
    { s.bump Ctr.LOG_CNT_OVERFLOW with log := { s.log with dropped := some d } }
  else
    let r : LogRec := ⟨typ, source, cls, replayed, s.log.next, time, p⟩
    let s := { s.bump Ctr.LOG_CNT_RECORD with
      log := { s.log with
        staged := s.log.staged ++ [r], head := s.log.next, next := s.log.next + 1,
        preserveBytes := if inPreserve then s.log.preserveBytes + n else s.log.preserveBytes } }
    if s.logFull && !inPreserve then { s with log := s.log.startFlush } else s

/-- Stage a record now. -/
def State.logRec (s : State) (typ source cls : Nat) (payload : List Word) : State :=
  s.logAt typ source cls false s.now payload

/-- Low and high words of a 64-bit value. -/
def lohi (n : Nat) : List Word := [BitVec.ofNat 32 n, BitVec.ofNat 32 (n / 2 ^ 32)]

/-! Record types (R535, R282) and sources. The types of a group that the spec does not name are the model's (DESIGN CHOICE, log
entry 12). -/

abbrev LogT.bringup : Nat := 0x01
abbrev LogT.modeChange : Nat := 0x02
abbrev LogT.cleared : Nat := 0x03
abbrev LogT.overflow : Nat := 0x04
abbrev LogT.powerEvent : Nat := 0x05
abbrev LogT.faultEvent : Nat := 0x10
abbrev LogT.overflowFault : Nat := 0x11
abbrev LogT.intentPoison : Nat := 0x20
abbrev LogT.resync : Nat := 0x21
abbrev LogT.format : Nat := 0x22
abbrev LogT.mismatch : Nat := 0x23
abbrev LogT.vaultLoss : Nat := 0x40
abbrev LogT.preserve : Nat := 0x41
abbrev LogT.vault : Nat := 0x42
abbrev LogT.net : Nat := 0x50
abbrev LogT.cxl : Nat := 0x51
abbrev LogT.config : Nat := 0x60
abbrev LogT.command : Nat := 0x61
abbrev LogT.firmware : Nat := 0x62
abbrev LogT.power : Nat := 0x70
abbrev LogT.sideband : Nat := 0x71
abbrev Src.mode : Nat := 0x00
abbrev Src.power : Nat := 0x01
abbrev Src.flt : Nat := 0x02
abbrev Src.ec : Nat := 0x03
abbrev Src.vlt : Nat := 0x04
abbrev Src.tm : Nat := 0x05
abbrev Src.net : Nat := 0x06
abbrev Src.twl : Nat := 0x07
abbrev Src.cxa : Nat := 0x08
abbrev Src.cxb : Nat := 0x09
abbrev Src.cox : Nat := 0x0A
abbrev Src.eights : Nat := 0x0B
abbrev Src.sht : Nat := 0x0C
abbrev Src.cry : Nat := 0x0D
abbrev Src.fls : Nat := 0x0E
abbrev Src.sb0 : Nat := 0x0F
abbrev Src.log : Nat := 0x13

/-! Event classes (R418). -/

abbrev Cls.info : Nat := 0
abbrev Cls.minor : Nat := 1
abbrev Cls.major : Nat := 2
abbrev Cls.critical : Nat := 3

/-! ## Fault reports -/

/-- A unit ID (R395): kind and instance. -/
def unitId (kind inst : Nat) : Nat := kind * 2 ^ 24 + inst

/-- Hand a fault event to the fault manager, which records it as a FAULT_EVENT of its own (R394). -/
def State.report (s : State) (unit code cls : Nat) : State :=
  { s with flt := { s.flt with reports := s.flt.reports ++ [⟨unit, code, cls⟩] } }

/-- The action of a unit's handling has been taken, or the unit returns: its slot frees, and what waits for it is dropped (R407). -/
def State.unitDone (s : State) (unit : Nat) : State :=
  { s with flt := { s.flt with slots := ⟨s.flt.slots.cells.filter (fun c => c.2.unit != unit)⟩,
                               queue := s.flt.queue.filter (fun e => e.unit != unit),
                               fenced := s.flt.fenced.filter (fun e => e.unit != unit) } }

/-! ## Unlocks (R458 to R461) -/

/-- Whether the requester's unlock is open. -/
def State.unlocked (s : State) (who : Nat) : Bool := who < 5 && s.unlocks.isOpen.getLsbD who

/-- Close a requester's unlock. -/
def State.relock (s : State) (who : Nat) : State :=
  { s with unlocks := { isOpen := s.unlocks.isOpen &&& ~~~(BitVec.ofNat 5 (2 ^ who)) } }

/-- A guarded write by a requester (R459, R460): whether its RWG fields take it; the unlock closes, and a write that meets it
closed is counted. -/
def State.guarded (s : State) (who : Nat) : Bool × State :=
  if s.unlocked who then (true, s.relock who) else (false, s.bump Ctr.SYS_CNT_GUARD_REFUSED)

/-- The requester of the privileged function of a link (R460): port A links 0 and 1, port B links 0 and 1. -/
def requesterOf (port link : Nat) : Nat := 1 + 2 * port + link

/-! ## Modes -/

/-- The mode. -/
abbrev State.mode? (s : State) : Mode := s.mode.mode

/-- The controller serves hosts: step 6 of R312 has passed (R561). -/
def State.serving (s : State) : Bool := s.pwr.core && s.mode.bringup == .served

/-- The address of a paged block's register: DC and HC pages by instance 0 to 47. -/
def chPage (inst : Nat) : Nat := if inst < 16 then 0x40 + inst else 0x60 + (inst - 16)

/-- A channel controller. -/
def State.chan (s : State) (inst : Nat) : Channel := s.ch.getD inst {}

/-- Set a channel controller. -/
def State.setChan (s : State) (inst : Nat) (c : Channel) : State := { s with ch := s.ch.put {} inst c }

/-! ## CTRL_ID and role -/

/-- SYS_POOL.CTRL_ID. -/
def State.ctrlId (s : State) : Nat := s.fld Reg.SYS_POOL Fld.SYS_POOL_CTRL_ID

/-- This controller is the bow (SYS_PAIR.ROLE). -/
def State.isBow (s : State) : Bool := s.ctrlId % 2 == 1

/-- SYS_PAIR.PAIRED. -/
def State.paired (s : State) : Bool := s.fld Reg.SYS_PAIR Fld.SYS_PAIR_PAIRED == 1

/-- SYS_PAIR_ID.PAIR_ID. -/
def State.pairId (s : State) : Nat := s.fld Reg.SYS_PAIR_ID Fld.SYS_PAIR_ID_PAIR_ID

end Sys2Proof.Machine
end

