-- ==== Sys2Proof/Machine/Maps.lean ====
section
/-!
DEFINITION. Machine/Maps.lean: addresses: served range and reserves (R31, R32), regions and windows (R45, R46), HDM decode (R376,
R377), pool addresses (R50, R51), home map (R160 to R164), home address to DRAM (R60), owner of an extent (R97).
-/
namespace Sys2Proof.Machine

/-- 2 MiB. -/
abbrev extentBytes : Nat := 2097152
/-- Lines of an extent. -/
abbrev extentLines : Nat := 32768
/-- Lines of a leaf. -/
abbrev leafLines : Nat := 64
/-- Leaves of an extent. -/
abbrev extentLeaves : Nat := 512

/-- The extent of a line of the served range. -/
def extentOf (line : Nat) : Nat := line / extentLines
/-- The leaf of a line. -/
def leafOf (line : Nat) : Nat := line / leafLines

/-! ## The served range -/

/-- Round up to extents, in bytes. -/
def roundUp2M (n : Nat) : Nat := ceilDiv n extentBytes * extentBytes

/-- HBM capacity in use: one stack of 24 GiB once a stack is lost (R415). -/
def hbmInUse (pop : Population) (stackList : List Nat) : Nat := if stackList.isEmpty then pop.hbm else pop.hbm / 2

/-- Span S (R31). -/
def spanOf (pop : Population) (stackList : List Nat) : Nat :=
  min (2 ^ 44) ((pop.ddr + hbmInUse pop stackList) / extentBytes * extentBytes)

/-- The seven tables of R31 in its order, without the headroom. -/
def tablesOf (pop : Population) (stackList : List Nat) (maxConn : Nat) : List Nat :=
  let s := spanOf pop stackList
  [roundUp2M (s / 512), roundUp2M (s / 32768), roundUp2M (maxConn * 512), roundUp2M (262144 * 32),
   extentBytes * pop.channels, roundUp2M (8388608 * 8), extentBytes * (if stackList.isEmpty then 32 else 16)]

/-- Sum of a list. -/
def sumL (l : List Nat) : Nat := l.foldl (· + ·) 0

/-- L in bytes (R32). -/
def servedLen (pop : Population) (stackList : List Nat) (maxConn : Nat) : Nat :=
  min (2 ^ 44) ((pop.ddr + hbmInUse pop stackList - sumL (tablesOf pop stackList maxConn) - 1073741824) / extentBytes * extentBytes)

/-- What RESTORE computes from the population (R31, R32). -/
def computeServed (pop : Population) (stackList : List Nat) (maxConn : Nat) : Served :=
  let t := tablesOf pop stackList maxConn
  let l := servedLen pop stackList maxConn
  { pop := pop, len := l / extentBytes, reserves := t ++ [pop.ddr + hbmInUse pop stackList - sumL t - l] }

/-- First byte of the DDR5 spare-line area: below leaf map, valid map, connection spill and key table (R31). -/
def spareBaseDdr (v : Served) : Nat := v.pop.ddr - sumL (v.reserves.take 5)

/-- First byte of the HBM spare-line area: below the home map. -/
def spareBaseHbm (v : Served) (stackList : List Nat) : Nat :=
  hbmInUse v.pop stackList - sumL ((v.reserves.drop 5).take 2)

/-- Whether a home line is a spare line (R31, R262). -/
def State.isSpare (s : State) (h : Home) : Bool :=
  let v := s.addr.served
  if h.hbm then
    let b := spareBaseHbm v s.flt.stackList
    decide (b ≤ 64 * h.line) && decide (64 * h.line < b + v.reserves.getD 6 0)
  else
    let b := spareBaseDdr v
    decide (b ≤ 64 * h.line) && decide (64 * h.line < b + v.reserves.getD 4 0)

/-! ## Regions -/

/-- The region that holds an extent, with its local index. -/
def State.regionOf (s : State) (x : Nat) : Option (Nat × Region) :=
  s.addr.regions.cells.find? (fun c => decide (c.2.base ≤ x) && decide (x < c.2.base + c.2.len))

/-- The local index of the region with a global ID. -/
def State.regionById (s : State) (id : Nat) : Option (Nat × Region) :=
  s.addr.regions.cells.find? (fun c => c.2.id == id)

/-- The end of the highest allocated region, in extents. -/
def State.highestRegion (s : State) : Nat :=
  s.addr.regions.cells.foldl (fun m c => max m (c.2.base + c.2.len)) 0

/-- The lag bound in µs: LAG 0 selects 20 (R35). -/
def Region.lagUs (r : Region) : Nat := if r.lag = 0 then 20 else r.lag

/-! ## LD windows (R45) -/

/-- A window of an LD: its DPA base and device base in extents, its extents, whether the LD may write through it. -/
structure Window where
  dpa : Nat
  dev : Nat
  len : Nat
  write : Bool
  deriving DecidableEq, Repr

/-- The windows of an LD: one per region it owns, one per share mapped into it. -/
def State.windows (s : State) (ld : Nat) : List Window :=
  (s.addr.regions.cells.filterMap (fun c =>
    if !c.2.noLd && c.2.ownerLd == ld then some ⟨c.2.dpaBase, c.2.base, c.2.len, c.2.ldWrite⟩ else none)) ++
  (s.addr.shares.cells.filterMap (fun c =>
    if c.2.ld == ld then
      (s.addr.regions.find? c.2.region).map (fun r => ⟨c.2.dpaBase, r.base + c.2.first, c.2.count, false⟩)
    else none))

/-- The window of an LD that holds a DPA (bytes). -/
def State.windowAt (s : State) (ld dpa : Nat) : Option Window :=
  (s.windows ld).find? (fun w =>
    decide (w.dpa * extentBytes ≤ dpa) && decide (dpa < (w.dpa + w.len) * extentBytes))

/-- The device address of a DPA in a window. -/
def Window.device (w : Window) (dpa : Nat) : Nat := w.dev * extentBytes + (dpa - w.dpa * extentBytes)

/-- The DPA span of an LD in bytes: CXA_LDnn_SPAN in units of 256 MiB (R379). LDs 16 to 31 are those of port B. -/
def State.ldSpan (s : State) (ld : Nat) : Nat :=
  s.fld (Reg.CX_LD_SPAN (if ld < 16 then 0x10 else 0x11) (ld % 16)) Fld.CX_LD_SPAN_SPAN * 268435456

/-! ## Ports and functions -/

/-- A port's state. -/
def State.port (s : State) (p : Nat) : Port := if p = 0 then s.cxl.portA else s.cxl.portB

/-- Set a port's state. -/
def State.setPort (s : State) (p : Nat) (v : Port) : State :=
  if p = 0 then { s with cxl := { s.cxl with portA := v } } else { s with cxl := { s.cxl with portB := v } }

/-- A link of a port. -/
def State.link (s : State) (p k : Nat) : Link := if k = 0 then (s.port p).link0 else (s.port p).link1

/-- Set a link of a port. -/
def State.setLink (s : State) (p k : Nat) (l : Link) : State :=
  if k = 0 then s.setPort p { s.port p with link0 := l } else s.setPort p { s.port p with link1 := l }

/-- A function. -/
def State.func (s : State) (fn : Nat) : Func := s.cxl.funcs.getD fn {}

/-- Set a function. -/
def State.setFunc (s : State) (fn : Nat) (f : Func) : State :=
  { s with cxl := { s.cxl with funcs := s.cxl.funcs.put {} fn f } }

/-- The number of LDs of a port in MLD mode: 0 counts as 1, above 16 as 16. -/
def Port.ldCount (p : Port) : Nat := clamp 1 16 p.lds

/-- Whether link `k` is in use in the port's mode. -/
def Port.hasLink (p : Port) (k : Nat) : Bool := k == 0 || (k == 1 && p.mode == 2)

/-- The LD number (as OWNER_LD) that a link and LD-ID name (12_cxl_ports.md); none for an LD-ID that names none (R380). -/
def State.ldOf (s : State) (p k ldid : Nat) : Option Nat :=
  let q := s.port p
  if q.mode = 1 then (if ldid < q.ldCount then some (16 * p + ldid) else none)
  else some (16 * p + k)

/-- The functions of a link. -/
def State.linkFuncs (s : State) (p k : Nat) : List Nat :=
  let q := s.port p
  if q.mode = 1 then (List.range q.ldCount).map (· + 16 * p) ++ [0x20 + p] else [16 * p + k]

/-- Port and link of a function. -/
def State.linkOf (s : State) (fn : Nat) : Nat × Nat :=
  if fn = 0x20 then (0, 0) else if fn = 0x21 then (1, 0) else
  let p := fn / 16
  if (s.port p).mode = 2 then (p, fn % 16) else (p, 0)

/-- Whether a function's primary mailbox is privileged (R369). -/
def State.fnPrivileged (s : State) (fn : Nat) : Bool :=
  if fn = 0x20 then (s.port 0).mode == 1
  else if fn = 0x21 then (s.port 1).mode == 1
  else (s.port (fn / 16)).mode != 1

/-- Whether an LD number has a function in a port mode (R368). -/
def ldExists (mode lds ld : Nat) : Bool :=
  if mode = 1 then decide (ld % 16 < clamp 1 16 lds) else if mode = 2 then decide (ld % 16 < 2) else ld % 16 == 0

/-! ## HDM decode -/

/-- The DPA base of decoder `i` of a function: the end of the decoders before it plus its skip (R376). -/
def hdmDpaBase (ds : List Hdm) (i : Nat) : Nat :=
  (ds.take i).foldl (fun n d => if d.committed then n + d.skip + d.size / d.iw else n) 0 + (ds.getD i {}).skip

/-- The DPA of an HPA through an LD's decoders; none where no committed decoder holds it or the interleave position is another
target's (R377). -/
def hdmDecode (ds : List Hdm) (hpa : Nat) : Option Nat :=
  match ds.zipIdx.find? (fun d => d.1.committed && decide (d.1.base ≤ hpa) && decide (hpa < d.1.base + d.1.size)) with
  | none => none
  | some (d, i) =>
    let off := hpa - d.base
    if off / d.ig % d.iw ≠ d.pos then none
    else some (hdmDpaBase ds i + off / (d.ig * d.iw) * d.ig + off % d.ig)

/-! ## The home map -/

/-- The home extent of an extent by the placement of RESTORE and the moves since (R162, R170): the memory and the home extent. -/
def State.placeOf (s : State) (x : Nat) : Bool × Nat :=
  match s.tier.moved.find? x with
  | some h => h
  | none =>
    match s.tier.runs.find? (fun r => decide (r.first ≤ x) && decide (x < r.first + r.count)) with
    | some r => (r.hbm, r.home + (x - r.first))
    | none => (false, x)

/-- The move of an extent, if it moves. -/
def State.moveOf (s : State) (x : Nat) : Option Move := s.tier.moves.find? (fun m => m.extent == x)

/-- The home of a line by R164: while its extent moves, the new place below the cursor. -/
def State.homeOf (s : State) (line : Nat) : Home :=
  let x := extentOf line
  let o := line % extentLines
  match s.moveOf x with
  | some m => if o < m.cursor then ⟨m.toHbm, m.toHome * extentLines + o⟩ else ⟨m.fromHbm, m.fromHome * extentLines + o⟩
  | none => let h := s.placeOf x; ⟨h.1, h.2 * extentLines + o⟩

/-- The line stands at a move's cursor (R164). -/
def State.atCursor (s : State) (line : Nat) : Bool :=
  match s.moveOf (extentOf line) with
  | some m => m.cursor == line % extentLines
  | none => false

/-! ## Home address to DRAM (R60) -/

/-- Even parity of the masked bits of a number. -/
def parityOf (v mask : Nat) : Nat :=
  (List.range 44).foldl (fun p i => if (v / 2 ^ i) % 2 = 1 && (mask / 2 ^ i) % 2 = 1 then 1 - p else p) 0

/-- Mask nn of R60, in force. -/
def State.xmask (s : State) (nn : Nat) : Nat :=
  s.fld (Reg.TM_XMAP_LO nn) Fld.TM_XMAP_LO_MASK_LO * 64 + s.fld (Reg.TM_XMAP_HI nn) Fld.TM_XMAP_HI_MASK_HI * 2 ^ 32

/-- `n` select outputs from output nn on, lowest first, as a number. -/
def State.selects (s : State) (a nn n : Nat) : Nat :=
  (List.range n).foldl (fun v k => v + parityOf a (s.xmask (nn + k)) * 2 ^ k) 0

/-- Bits of an address. -/
def bitsOf (a lo n : Nat) : Nat := a / 2 ^ lo % 2 ^ n

/-- Where a home line lies (02_address_space.md, DDR5 layout, HBM layout; R415 forces the surviving stack). -/
def State.dramOf (s : State) (h : Home) : DramAddr :=
  let a := 64 * h.line
  if h.hbm then
    let st := match s.flt.stackList with
      | [] => s.selects a 21 1
      | k :: _ => 1 - k
    { inst := 16 + 16 * st + s.selects a 17 4, sc := s.selects a 16 1, rank := bitsOf a 34 2,
      bg := s.selects a 22 2, ba := s.selects a 24 2, row := bitsOf a 20 14, col := bitsOf a 16 4 }
  else
    let cb := s.fld Reg.TM_XMAP_GEOM Fld.TM_XMAP_GEOM_CH_BITS
    let rb := s.fld Reg.TM_XMAP_GEOM Fld.TM_XMAP_GEOM_RANK_BITS
    let wb := s.fld Reg.TM_XMAP_GEOM Fld.TM_XMAP_GEOM_ROW_BITS
    let ch := if s.fld Reg.TM_XMAP_GEOM Fld.TM_XMAP_GEOM_X8 = 1 then 4 else 5
    { inst := s.selects a 1 cb, sc := s.selects a 0 1, bg := s.selects a 5 3, ba := s.selects a 8 2,
      col := (bitsOf a (14 + cb) ch * 4 + bitsOf a 7 2) * 16,
      rank := bitsOf a (14 + cb + ch) rb, row := bitsOf a (14 + cb + ch + rb) wb }

/-- The redirection of a home line by the remap tables (R263). -/
def State.remapOf (s : State) (h : Home) : Home :=
  match s.ec.remaps.find? (fun r => r.src == h) with
  | some r => r.dst
  | none => h

/-- The channel that serves a home line, the redirection applied. -/
def State.instOf (s : State) (h : Home) : Nat := (s.dramOf (s.remapOf h)).inst

/-- A home line's channel is FROZEN or RETIRED. -/
def State.stopped (s : State) (h : Home) : Bool :=
  let st := (s.chan (s.instOf h)).state
  st == .frozen || st == .retired

/-! ## The pair -/

/-- A path is UP or RETIRING. -/
def TwPath.up (p : TwPath) : Bool := p.state == .up || p.state == .retiring

/-- A path of the link. -/
def State.path (s : State) (n : Nat) : TwPath := if n = 0 then s.twl.pathA else s.twl.pathB

/-- Set a path of the link. -/
def State.setPath (s : State) (n : Nat) (p : TwPath) : State :=
  if n = 0 then { s with twl := { s.twl with pathA := p } } else { s with twl := { s.twl with pathB := p } }

/-- At least one path is up. -/
def State.linkUp (s : State) : Bool := s.twl.pathA.up || s.twl.pathB.up

/-- PAIR_PROTO of the running firmware (14_control.md): the image header's field, in the low half-word at offset 0x00A. -/
def State.pairProto (s : State) : Nat :=
  match s.cmd.active with
  | none => 0
  | some slot => (s.fls.words.getD (slot * 2 ^ 21) (BitVec.allOnes 256)).toNat / 2 ^ 80 % 65536

/-- The pair record's 40 bytes (R120). -/
def PairRec.bytes (r : PairRec) : List Byte :=
  bytes4 r.pairId ++ bytes2 r.strokeId ++ bytes2 r.bowId ++ bytes16 r.strokeSerial.toNat ++ bytes16 r.bowSerial.toNat
where
  bytes2 (n : Nat) : List Byte := [BitVec.ofNat 8 n, BitVec.ofNat 8 (n / 256)]
  bytes4 (n : Nat) : List Byte := bytes2 n ++ bytes2 (n / 65536)
  bytes16 (n : Nat) : List Byte := (List.range 16).map (fun i => BitVec.ofNat 8 (n / 256 ^ i))

/-- The pair record's tag (R120): its CRC-32C, 0 carried as all ones. -/
def PairRec.tag (r : PairRec) : Nat := let c := crc32c r.bytes; if c = 0 then 2 ^ 32 - 1 else c

/-- The tag this side's PATH_UP carries: 0 without a pair record (R120). -/
def State.ownTag (s : State) : Nat := match s.pair.record with | some r => r.tag | none => 0

/-- The twin is reachable (R120, R115, R449): a path is up, the pair records' tags agree, PAIR_ID is not 0, the twin has not
departed, the PAIR_PROTO majors agree where the twin has sent its own. -/
def State.twinReachable (s : State) : Bool :=
  s.linkUp && s.paired && s.pairId != 0 && !s.pair.departed && !s.pair.lost &&
  (match s.pair.record, s.pair.twinTag with
   | some r, some t => t == r.tag
   | _, _ => false) &&
  (match s.cmd.twinProto with
   | some v => v / 256 == s.pairProto / 256
   | none => true)

/-- The two sides order writes together (R97): SERVE; HOLD or RESTORE with the twin reachable; PRESERVE entered from one of
these until the departing-ack or the loss. -/
def State.together (s : State) : Bool :=
  match s.mode.mode with
  | .serve => true
  | .hold | .restore => s.twinReachable
  | .preserve => !s.pair.lost && !s.pair.departAcked && !s.pair.departed &&
      (s.mode.leftMode == .serve || ((s.mode.leftMode == .hold || s.mode.leftMode == .restore) && s.twinReachable))
  | .standby | .solo => false

/-- The owner R97's table names for an extent while both sides order together: whether it is this side. -/
def State.tableOwner (s : State) (x : Nat) : Bool :=
  let aff := match s.regionOf x with
    | some (_, r) => r.affinity
    | none => 0
  let strokeOwns := if aff = 1 then true else if aff = 2 then false else x % 2 == 0
  strokeOwns != s.isBow

/-- This side owns the extent (R97, R98). -/
def State.owns (s : State) (x : Nat) : Bool :=
  if s.together then
    match s.pair.owned.find? x with
    | some b => b
    | none =>
      match s.pair.resync.find? x with
      | some w => w
      | none => s.tableOwner x
  else !(s.mode.mode == .preserve && s.pair.departAcked)

/-- The twin's mode as last reported is SERVE, and it is reachable: "the twin in SERVE" of R81, R188, R242. -/
def State.twinServes (s : State) : Bool := s.linkUp && !s.pair.departed && !s.pair.lost && s.pair.twinState == 2

/-- Completion follows the mirror policy (R81): SERVE, or RESTORE with the twin in SERVE. -/
def State.mirrored (s : State) : Bool :=
  match s.mode.mode with
  | .serve => true
  | .restore => s.twinServes
  | .preserve => s.together
  | _ => false

/-- The epoch, RD and ST of an extent (R121). -/
def State.extPair (s : State) (x : Nat) : ExtPair := s.pair.ext.getD x s.pair.base

/-- Set them. -/
def State.setExtPair (s : State) (x : Nat) (e : ExtPair) : State :=
  { s with pair := { s.pair with ext := s.pair.ext.put s.pair.base x e } }

end Sys2Proof.Machine
end

