-- ==== Sys2Proof/Machine/Chan.lean ====
section
/-!
DEFINITION. Machine/Chan.lean: what a home line holds and how a channel controller queues requests for it (08_channel_controllers.md,
R224 to R231, R240 to R243; 09_codes.md, R248, R253 to R260).
-/
namespace Sys2Proof.Machine

/-! ## Keys and cells -/

/-- The key pair of a key slot; 0 where the slot is empty, under which nothing is written (R441, R442). -/
def State.keyPair (s : State) (slot : Nat) : BitVec 512 :=
  match s.cmd.keys.find? slot with
  | some k => k.key
  | none => 0

/-- The key slot of a device line: that of its region, else the device default key (R35, R438). -/
def State.keySlotOf (s : State) (line : Nat) : Nat :=
  match s.regionOf (extentOf line) with
  | some (_, r) => r.keySlot
  | none => 0

/-- What a read of a home line gives (R253 to R257). -/
inductive ReadRes where
  | data (d : Line)
  | poison
  | uncorrectable
  deriving DecidableEq, Repr

/-- The error values of a word summed by position, zero sums left out. -/
def sumErrs (errs : List (Nat × Nat)) : List (Nat × Nat) :=
  (errs.foldl (fun (m : SMap Nat) e => m.put 0 e.1 (m.getD e.1 0 ^^^ e.2)) {}).cells

/-- Decode a home line's word with the symbol errors of the read (R248 reversed): the result and the errata corrected. A line
read under another device line or key than it was written under is decrypted from its ciphertext. -/
def State.readCell (s : State) (hbm : Bool) (mark : Option Nat) (c : Option Cell) (line slot : Nat)
    (errs : List (Nat × Nat)) : ReadRes × List (Nat × Nat) :=
  let x8 := s.addr.served.pop.x8
  let r := (codeOf hbm).r
  let plainOf (dev key : Nat) (d : Line) (diff : List (Nat × Nat)) : Line :=
    if dev = line ∧ key = slot ∧ diff = [] then d
    else Config.decrypt (s.keyPair slot) line (Config.encrypt (s.keyPair key) dev d ^^^ symbolsLine r diff)
  let v := match c with
    | some .poison => decodeWord hbm x8 mark (sumErrs (poisonWord hbm ++ errs))
    | some (.raw b k) => decodeWord hbm x8 mark (sumErrs (rawWord hbm b k ++ errs))
    | _ => decodeWord hbm x8 mark (sumErrs errs)
  match v with
  | .poison => (.poison, [])
  | .uncorrectable => (.uncorrectable, [])
  | .clean =>
    match c with
    | some (.raw b _) => (.data (Config.decrypt (s.keyPair slot) line b), [])
    | some .poison => (.poison, [])
    | some (.plain dev key d) => (.data (plainOf dev key d (sumErrs errs)), [])
    | none => (.data (BitVec.ofNat 512 s.freeVal), [])
  | .corrected e =>
    match c with
    | some (.raw b _) => (.data (Config.decrypt (s.keyPair slot) line (b ^^^ symbolsLine r (sumErrs (errs ++ e)))), e)
    | some .poison => (.data (Config.decrypt (s.keyPair slot) line (symbolsLine r (sumErrs (poisonWord hbm ++ errs ++ e)))), e)
    | some (.plain dev key d) => (.data (plainOf dev key d (sumErrs (errs ++ e))), e)
    | none => (.data (BitVec.ofNat 512 s.freeVal), e)

/-- The cell a home line holds. -/
def State.cell (s : State) (h : Home) : Option Cell := s.mem.find? h.key

/-- Store a cell. -/
def State.setCell (s : State) (h : Home) (c : Cell) : State := { s with mem := s.mem.insert h.key c }

/-- The mark in force for a home line's rank or pseudo-channel (R259). -/
def State.markOf (s : State) (h : Home) : Option Nat :=
  let a := s.dramOf h
  (s.ec.marks.find? (fun m => m.inst == a.inst && m.sc == a.sc && m.rank == a.rank)).map (·.dev)

/-! ## Counters of an instance -/

/-- A counter of an instance: its DCnn or HCnn address. -/
def State.bumpCh (s : State) (inst : Nat) (ctr : Nat → Nat) : State := s.bump (ctr (chPage inst))

/-! ## Queues (R224, R225) -/

/-- Entries a list of requests takes from the shared part: those above 4 at each port (R224). -/
def sharedUse (q : List ChReq) : Nat :=
  (List.range 6).foldl (fun n k => n + ((q.filter (fun r => r.port == k)).length - 4)) 0

/-- Whether a queue has an entry that a port may use: 64 entries, 4 reserved for each of its 5 ports (R224). -/
def queueRoom (q : List ChReq) (port : Nat) : Bool :=
  (q.filter (fun r => r.port == port)).length < 4 || decide (sharedUse q < 44)

/-- The target of a port in ns (R227). -/
def State.target (s : State) (inst port : Nat) : Nat :=
  10 * (max 1 (s.fld (Reg.DC_TARGET (chPage inst) port) Fld.DC_TARGET_TARGET))

/-- The urgency level of a request of an age at a port (R227). -/
def levelAt (target age : Nat) : Nat :=
  if target ≤ age then 3 else if 3 * target ≤ 4 * age then 2 else if target ≤ 2 * age then 1 else 0

/-- Drain mode after a change of the write queue (R228). -/
def State.drainNow (s : State) (inst : Nat) (c : Channel) : Bool :=
  let high := s.fld (Reg.DC_WQ (chPage inst)) Fld.DC_WQ_HIGH
  let low := s.fld (Reg.DC_WQ (chPage inst)) Fld.DC_WQ_LOW
  let l3 := c.wq.any (fun r => r.level == 3)
  let sealed := s.mode.mode == .preserve && decide (2 ≤ s.vlt.step) && !c.wq.isEmpty
  if c.drain then !(decide (c.wq.length ≤ low) && !l3) || sealed else decide (high ≤ c.wq.length) || l3 || sealed

/-- Put a request in its queue: a write joins the entry of its line, keeping its place and taking the higher level (R225). -/
def enterQueue (c : Channel) (r : ChReq) : Channel :=
  match r.wr with
  | none => { c with rq := c.rq ++ [r] }
  | some w =>
    if c.wq.any (fun e => e.home == r.home) then
      { c with wq := c.wq.map (fun e => if e.home == r.home
          then { e with wr := some w, dev := r.dev, level := max e.level r.level, issued := false } else e) }
    else { c with wq := c.wq ++ [r] }

/-- Whether a request may enter its queue now. -/
def mayEnter (c : Channel) (r : ChReq) : Bool :=
  match r.wr with
  | none => queueRoom c.rq r.port
  | some _ => c.wq.any (fun e => e.home == r.home) || queueRoom c.wq r.port

/-- Held requests enter as entries free, oldest first at each port (R224, R241). -/
def enterHeld : Nat → Channel → Channel
  | 0, c => c
  | n + 1, c =>
    match c.held.find? (mayEnter c) with
    | none => c
    | some r => enterHeld n (enterQueue { c with held := c.held.filter (fun e => e.id != r.id) } r)

/-- Store a channel with drain mode as its write queue now asks (R228); DCnn_CNT_DRAIN counts the drains started at the watermark,
DCnn_CNT_FORCED those by a level-3 write. -/
def State.setDrain (s : State) (inst : Nat) (c : Channel) : State :=
  let d := s.drainNow inst c
  let s' := s.setChan inst { c with drain := d }
  if d && !c.drain then
    s'.bumpCh inst (if s.fld (Reg.DC_WQ (chPage inst)) Fld.DC_WQ_HIGH ≤ c.wq.length then Ctr.DC_CNT_DRAIN else Ctr.DC_CNT_FORCED)
  else s'

/-- A request comes to a channel's port (R224). -/
def State.toChannel (s : State) (inst port : Nat) (h : Home) (dev level : Nat) (rd : Option ReadFor) (wr : Option Cell) : State :=
  let c := s.chan inst
  let r : ChReq := { id := c.nextId, port := port, home := h, dev := dev, level := level, since := s.now, rd := rd, wr := wr,
                     issued := false }
  let c := { c with nextId := c.nextId + 1 }
  let blocked := c.held.any (fun e => e.port == port && e.wr.isSome == wr.isSome) && !(wr.isSome && c.wq.any (fun e => e.home == h))
  let c := if mayEnter c r && !blocked then enterQueue c r else { c with held := c.held ++ [r] }
  s.setDrain inst c

/-- The newest write of a home line that a channel has accepted or holds at a port (R225). -/
def State.queued (s : State) (h : Home) : Option Cell :=
  let c := s.chan (s.instOf h)
  let h := s.remapOf h
  match (c.held.filter (fun e => e.home == h && e.wr.isSome)).getLast? with
  | some e => e.wr
  | none => (c.wq.find? (fun e => e.home == h)).bind (·.wr)

/-- What a home line holds once its queued writes have landed. -/
def State.homeCell (s : State) (h : Home) : Option Cell :=
  match s.queued h with
  | some c => some c
  | none => s.cell (s.remapOf h)

/-- A request that the remap table redirects is counted (R263). -/
def State.remapHit (s : State) (h : Home) : State :=
  if s.ec.remaps.any (fun r => r.src == h) then s.bump Ctr.EC_CNT_REMAP_HIT else s

/-- Write a cell to the home of a line through a port (R224); the remap table redirects (R263). A RETIRED channel takes none
(R243, R565). -/
def State.writeHome (s : State) (port level line : Nat) (h : Home) (c : Cell) : State :=
  let inst := s.instOf h
  if (s.chan inst).state == .retired then s
  else
    let s := match s.ec.scrubbing with
      | some (g, k, _) => if g == s.remapOf h then { s with ec := { s.ec with scrubbing := some (g, k, true) } } else s
      | none => s
    (s.remapHit h).toChannel inst port (s.remapOf h) line level none (some c)

/-- Read a home line for someone through a port. -/
def State.readHome (s : State) (port level line : Nat) (h : Home) (who : ReadFor) : State :=
  (s.remapHit h).toChannel (s.instOf h) port (s.remapOf h) line level (some who) none

/-! ## Freeze (R240) -/

/-- The unit of a channel (R395). -/
def chUnit (inst : Nat) : Nat := if inst < 16 then unitId 0x01 inst else unitId 0x02 (inst - 16)

/-- Fault class and event class of a freeze: an uncorrectable read is a row fault (a device fault of an x8 population), a command
error a fault of the channel (13_faults.md, R240). -/
def State.freezeFault (s : State) (inst cause : Nat) : Nat × Nat :=
  if cause = 1 then (if inst < 16 && s.addr.served.pop.x8 then (0x03, Cls.major) else (0x04, Cls.major))
  else if inst < 16 then (0x05, Cls.critical) else (0x06, Cls.critical)

/-- A channel enters FROZEN: the capture latches, DCnn_CNT_FREEZE advances, the fault manager is told (R240, R241). While it is
FROZEN the capture changes only if it holds none (R244). -/
def State.freeze (s : State) (inst cause : Nat) (at_ : Option (DramAddr × Home)) : State :=
  let c := s.chan inst
  let f := s.freezeFault inst cause
  if c.state == .frozen then
    (if c.capCause = 0 then s.setChan inst { c with capCause := cause, capAt := at_, capTime := s.now } else s).report
      (chUnit inst) f.1 f.2
  else if c.state == .active then
    ((s.setChan inst { c with state := .frozen, capCause := cause, capAt := at_, capTime := s.now, frozenAt := s.now }).bumpCh
      inst Ctr.DC_CNT_FREEZE).report (chUnit inst) f.1 f.2
  else s

end Sys2Proof.Machine
end

