-- ==== Sys2Proof/Machine/Cache.lean ====
section
/-!
DEFINITION. Machine/Cache.lean: the line cache and the merge buffers as operations on lines (07_line_cache.md, R191 to R208, R564;
03_request_path.md, R75 to R78; 09_codes.md, R269 to R273).
-/
namespace Sys2Proof.Machine

/-! ## Placement (R192) -/

/-- The slice of a line: the exclusive-or of its 6-bit groups. -/
def sliceOf (line : Nat) : Nat :=
  (List.range 7).foldl (fun v k => v ^^^ (line / 64 ^ k % 64)) 0

/-- The set of a line in its slice. -/
def setIndex (line : Nat) : Nat := line % 2048

/-- The tag of a line. -/
def tagOf (line : Nat) : Nat := line / 2048

/-- The key of a line's set. -/
def setKey (line : Nat) : Nat := 2048 * sliceOf line + setIndex line

/-- An empty set: its ranks are a permutation from the start (R193). -/
def LSet.empty : LSet := ⟨(List.range 16).map (fun i => { rank := i }), none⟩

/-- The set of a line. -/
def State.lset (s : State) (line : Nat) : LSet := s.lc.sets.getD (setKey line) LSet.empty

/-- Store a set. -/
def State.setLset (s : State) (line : Nat) (t : LSet) : State :=
  { s with lc := { s.lc with sets := s.lc.sets.put LSet.empty (setKey line) t } }

/-- The way that holds a line. -/
def LSet.wayOf (t : LSet) (tag : Nat) : Option Nat := t.ways.findIdx? (fun w => w.v && w.tag == tag)

/-- A way. -/
def LSet.way (t : LSet) (i : Nat) : Way := t.ways.getD i {}

/-- Set a way. -/
def LSet.setWay (t : LSet) (i : Nat) (w : Way) : LSet := { t with ways := t.ways.set i w }

/-- The slice serves hits: not swept yet, the cache not disabled (R217). -/
def State.sliceLive (s : State) (line : Nat) : Bool :=
  match s.lc.state with
  | .enabled => true
  | .disabled => false
  | .sweeping => decide (s.lc.slice ≤ sliceOf line)

/-- The line as the cache holds it: its way, data and P. -/
def State.held (s : State) (line : Nat) : Option (Nat × Way) :=
  if s.sliceLive line then
    let t := s.lset line
    (t.wayOf (tagOf line)).map (fun i => (i, t.way i))
  else none

/-! ## Classes (R196, R197) and state (R202, R203) -/

/-- The class of a request (R196). -/
def State.classOf (s : State) (src line : Nat) : Nat :=
  if src < 3 then
    match s.regionOf (extentOf line) with
    | none => src
    | some (_, r) =>
      ((List.range 8).map (· + 8)).find? (fun n =>
        s.fld (Reg.LC_CLASS n) Fld.LC_CLASS_TEN_EN == 1 && s.fld (Reg.LC_CLASS n) Fld.LC_CLASS_TENANT == r.tenant) |>.getD src
  else src

/-- The ways a class may allocate into in a line's slice (R197); none while the cache is disabled or swept (R217). -/
def State.allowed (s : State) (cls line : Nat) : List Nat :=
  if s.lc.state == .enabled && !s.flt.bypass.contains (sliceOf line) then
    let off := s.lc.wayOff.getD (sliceOf line) 0
    let ways := s.fld (Reg.LC_CLASS cls) Fld.LC_CLASS_WAYS
    (List.range 16).filter (fun w => (ways / 2 ^ w) % 2 == 1 && !off.getLsbD w)
  else []

/-- A fill of a line by a class is a streaming fill (R204). -/
def State.streaming (s : State) (cls line : Nat) : Bool :=
  (match s.regionOf (extentOf line) with
   | some (_, r) => r.tier == 3 && s.fld Reg.LC_CTL Fld.LC_CTL_STREAM_OLD == 1
   | none => false) || s.fld (Reg.LC_CLASS cls) Fld.LC_CLASS_FILL_OLD == 1

/-- A hit or fill of a way updates AGE and RANK (R203). -/
def LSet.touch (t : LSet) (i : Nat) (stream : Bool) : LSet :=
  let old := (t.way i).rank
  { t with ways := t.ways.zipIdx.map (fun c =>
      if c.2 = i then { c.1 with age := if stream then 3 else 0, rank := if stream then 15 else 0 }
      else if stream then (if old < c.1.rank then { c.1 with rank := c.1.rank - 1 } else c.1)
      else (if c.1.rank < old then { c.1 with rank := c.1.rank + 1 } else c.1)) }

/-- The device line that a way of a set holds: its set, slice and tag (R192). -/
def lineOfWay (key tag : Nat) : Nat := tag * 2048 + key % 2048

/-- NRU with ageing (R202): the allowed ways aged so that the oldest has 3, and the lowest of those with 3. -/
def LSet.victimNru (t : LSet) (allow : List Nat) : LSet × Option Nat :=
  let m := allow.foldl (fun a w => max a (t.way w).age) 0
  let t := { t with ways := t.ways.zipIdx.map (fun c =>
    if allow.contains c.2 then { c.1 with age := c.1.age + (3 - m) } else c.1) }
  (t, allow.find? (fun w => (t.way w).age == 3))

/-- Exact LRU (R202). -/
def LSet.victimLru (t : LSet) (allow : List Nat) : Option Nat :=
  allow.foldl (fun b w => match b with
    | none => some w
    | some v => if (t.way v).rank < (t.way w).rank then some w else some v) none

/-- A way may be evicted: not dirty, or its home channel is neither frozen nor retired (R205, R565). -/
def State.evictable (s : State) (key : Nat) (w : Way) : Bool :=
  !w.d || !s.stopped (s.homeOf (lineOfWay key w.tag))

/-- Choose a victim over the allowed ways, passing over those that may not be evicted (R202, R205). -/
def State.victimN (s : State) (key : Nat) (lru : Bool) : Nat → LSet → List Nat → LSet × Option Nat
  | 0, t, _ => (t, none)
  | n + 1, t, allow =>
    match allow.find? (fun w => !(t.way w).v) with
    | some w => (t, some w)
    | none =>
      let (t, v) := if lru then (t, t.victimLru allow) else t.victimNru allow
      match v with
      | none => (t, none)
      | some w => if s.evictable key (t.way w) then (t, some w) else s.victimN key lru n t (allow.filter (· != w))

/-- The cell that a cached line leaves at its home. -/
def State.cellOf (s : State) (line : Nat) (d : Line) (p : Bool) : Cell :=
  if p then .poison else .plain line (s.keySlotOf line) d

/-- Write a dirty line of the cache to its home (R205, R209): port and level given. -/
def State.writeBack (s : State) (port line : Nat) (w : Way) : State :=
  s.writeHome port 0 line (s.homeOf line) (s.cellOf line w.data w.p)

/-- Place a line in the cache for a class: the way chosen, its dirty victim written back through P-DW; false where the class has
no way (R200 to R205). -/
def State.place (s : State) (cls line : Nat) (d : Line) (dirty poison : Bool) : State × Bool :=
  let key := setKey line
  let t := s.lset line
  let stream := s.streaming cls line
  let lru := s.fld (Reg.LC_CLASS cls) Fld.LC_CLASS_POLICY == 1
  match s.victimN key lru 16 t (s.allowed cls line) with
  | (t, none) => ((s.setLset line t).bump Ctr.LC_CNT_BYPASS, false)
  | (t, some i) =>
    let old := t.way i
    let s := if old.v && old.d then (s.writeBack 1 (lineOfWay key old.tag) old).bump Ctr.LC_CNT_WRITEBACK else s
    let t := (t.setWay i { old with v := true, d := dirty, p := poison, tag := tagOf line, data := d }).touch i stream
    let s := s.setLset line t
    (if stream then s.bump Ctr.LC_CNT_STREAM_FILL else s, true)

/-- A fill: it never replaces a line that the cache holds (R564). -/
def State.fill (s : State) (cls line : Nat) (d : Line) (dirty poison : Bool) : State × Bool :=
  if (s.held line).isSome then (s, true) else s.place cls line d dirty poison

/-- Change a held way. -/
def State.setHeld (s : State) (line i : Nat) (w : Way) : State := s.setLset line ((s.lset line).setWay i w)

/-- A hit of a way: its AGE and RANK (R203), and the hit counter of the class. -/
def State.hit (s : State) (cls line i : Nat) : State :=
  (s.setLset line ((s.lset line).touch i false)).bump (Ctr.LC_CNT_HIT cls)

/-- Invalidate a line in the cache. -/
def State.dropHeld (s : State) (line : Nat) : State :=
  match (s.lset line).wayOf (tagOf line) with
  | none => s
  | some i => s.setLset line ((s.lset line).setWay i { (s.lset line).way i with v := false, d := false, p := false })

/-- Set or free the miss slot of a line's set (R206). -/
def State.setSlot (s : State) (line : Nat) (o : Option Nat) : State := s.setLset line { s.lset line with slot := o }

/-! ## Merge buffers (R75 to R78, R269 to R273) -/

/-- The merge-buffer entry of a line. -/
def State.mergeOf (s : State) (line : Nat) : Option MergeEntry := s.ec.merge.find? line

/-- Set or release the merge-buffer entry of a line. -/
def State.setMerge (s : State) (line : Nat) (o : Option MergeEntry) : State :=
  { s with ec := { s.ec with merge := match o with
      | none => s.ec.merge.erase line
      | some e => s.ec.merge.insert line e } }

/-- Occupied entries of a home channel's buffer. -/
def State.mergeCount (s : State) (inst : Nat) : Nat := (s.ec.merge.cells.filter (fun c => c.2.inst == inst)).length

/-- Put bytes in the merge-buffer entry of a line, allocating one (R75); none where all 64 of the channel are occupied (R78). -/
def State.mergeBytes (s : State) (line : Nat) (d : Line) (m : Mask) : Option State :=
  match s.mergeOf line with
  | some e => some (s.setMerge line (some { e with data := Line.overlay e.data d m, mask := e.mask ||| m }))
  | none =>
    let inst := (s.dramOf (s.homeOf line)).inst
    if 64 ≤ s.mergeCount inst then none
    else
      let s' := s.setMerge line (some ⟨inst, Line.overlay 0 d m, m, s.now, s.ec.nextArr⟩)
      some { s' with ec := { s'.ec with nextArr := s.ec.nextArr + 1 } }

/-- The line a merge-buffer entry makes of what its home read gave (R77, R271): a poisoned home line counts as zeros outside the
mask. -/
def MergeEntry.overlay (e : MergeEntry) (r : ReadRes) : Line :=
  match r with
  | .data d => Line.overlay d e.data e.mask
  | _ => Line.overlay 0 e.data e.mask

/-- Write a full merge-buffer entry to its home and release it (R76). A stopped channel takes no write-back: the entry stays where
the channel is retired (R565). -/
def State.mergeFlushFull (s : State) (line : Nat) (e : MergeEntry) : State :=
  let h := s.homeOf line
  if (s.chan (s.instOf h)).state == .retired then s
  else ((s.setMerge line none).writeHome 1 0 line h (s.cellOf line e.data false)).bump Ctr.EC_CNT_MERGE_FULL

/-- A write into a line that the cache holds (R75, R194): a full write clears P, a partial one into a poisoned line zeroes the other
bytes. -/
def Way.write (w : Way) (d : Line) (m : Mask) (poison : Bool) : Way :=
  if poison then { w with d := true, p := true }
  else if m = Mask.full then { w with d := true, p := false, data := d }
  else { w with d := true, p := false, data := Line.overlay (if w.p then 0 else w.data) d m }

/-- Apply a write to a line at its slice (R75, R200, R201, R383): to the cached line, the merge-buffer entry, a new line of the
cache or a new entry; none where it has to wait in MERGE (R78). -/
def State.applyLine (s : State) (cls line : Nat) (d : Line) (m : Mask) (poison : Bool) : Option State :=
  match s.held line with
  | some (i, w) => some ((s.setHeld line i (w.write d m poison)).hit cls line i)
  | none =>
    let s1 := s.bump (Ctr.LC_CNT_MISS cls)
    if poison then
      let (s2, ok) := (s1.setMerge line none).place cls line 0 true true
      some (if ok then s2 else s2.writeHome 1 0 line (s2.homeOf line) .poison)
    else if (s.mergeOf line).isSome then
      (s1.mergeBytes line d m).map (fun s2 =>
        match s2.mergeOf line with
        | some e => if e.mask = Mask.full then s2.mergeFlushFull line e else s2
        | none => s2)
    else if m = Mask.full then
      let (s2, ok) := s1.place cls line d true false
      if ok then some s2
      else (s2.mergeBytes line d m).map (fun s3 =>
        match s3.mergeOf line with
        | some e => s3.mergeFlushFull line e
        | none => s3)
    else s1.mergeBytes line d m

/-- The 64-bit word `i` of a line. -/
def Line.word (d : Line) (i : Nat) : BitVec 64 := BitVec.ofNat 64 (d.toNat / 2 ^ (64 * (i % 8)))

/-- A line with word `i` set. -/
def Line.setWord (d : Line) (i : Nat) (v : BitVec 64) : Line :=
  Line.overlay d (BitVec.ofNat 512 (v.toNat * 2 ^ (64 * (i % 8)))) (BitVec.ofNat 64 (255 * 2 ^ (8 * (i % 8))))

/-- What an atomic makes of a line and the original value it returns (R73). -/
def TOp.atomic (o : TOp) (d : Line) : Line × BitVec 64 :=
  match o with
  | .cmpSwap w c x => (if Line.word d w = c then Line.setWord d w x else d, Line.word d w)
  | .fetchAdd w a => (Line.setWord d w (Line.word d w + a), Line.word d w)
  | _ => (d, 0)

/-- Dirty lines in the cache: LC_DIRTY.COUNT. -/
def State.dirtyLines (s : State) : Nat :=
  s.lc.sets.cells.foldl (fun n c => n + (c.2.ways.filter (fun w => w.v && w.d)).length) 0

end Sys2Proof.Machine
end

