-- ==== Sys2Proof/Machine/VaultBase.lean ====
section
/-!
DEFINITION. Machine/VaultBase.lean: the dirty window, the vault image of a leaf and pair epochs, as the request path uses them
(10_vault.md, R301 to R304, R311, R314, R315; 04_durability.md, R94, R122).
-/
namespace Sys2Proof.Machine

/-- Leaves of a GiB. -/
abbrev gibLeaves : Nat := 262144

/-- The window's ceiling in GiB: CEIL_GIB, or the cap of the power supervisor where one holds (R303, R520). -/
def State.ceilGib (s : State) : Nat :=
  let c := s.fldIn Reg.VLT_WINDOW Fld.VLT_WINDOW_CEIL_GIB 1 64
  match s.pwr.cap with
  | some k => min c k
  | none => c

/-- Leaves that count toward F and the ceiling: all but twin-backed ones (R304). -/
def State.windowLeaves (s : State) : Nat := (s.vlt.window.filter (fun w => !w.twinBacked)).length

/-- A leaf is in the window as an ordinary leaf. -/
def State.inWindow (s : State) (leaf : Nat) : Bool := s.vlt.window.any (fun w => w.leaf == leaf && !w.twinBacked)

/-- A leaf is in the window, twin-backed or not. -/
def State.windowHas (s : State) (leaf : Nat) : Bool := s.vlt.window.any (fun w => w.leaf == leaf)

/-- A write to a line of the leaf has to wait for room (R303). -/
def State.windowFull (s : State) (leaf : Nat) : Bool :=
  !s.inWindow leaf && decide (s.ceilGib * gibLeaves ≤ s.windowLeaves)

/-- A line of the leaf has been applied: the leaf joins the window (R94); a record of it on its way is outdated (R301); a twin-backed
leaf becomes an ordinary one (R304). -/
def State.joinWindow (s : State) (leaf : Nat) : State :=
  let infl := s.vlt.inflight.map (fun w => if w.leaf == leaf then { w with dirtied := true } else w)
  if s.inWindow leaf then { s with vlt := { s.vlt with inflight := infl } }
  else { s with vlt := { s.vlt with inflight := infl,
                                    window := s.vlt.window.filter (fun w => w.leaf != leaf) ++ [⟨leaf, false⟩] } }

/-- The key tag of a slot (R439); 0 where it is empty. -/
def State.keyTagOf (s : State) (slot : Nat) : BitVec 32 :=
  match s.cmd.keys.find? slot with
  | some k => k.tag
  | none => 0

/-- A record may be restored: it names the region of its leaf and carries the tag of the region's key (R315). -/
def State.recordFits (s : State) (r : LeafRec) : Bool :=
  match s.regionOf (r.leaf / extentLeaves) with
  | some (_, g) => r.regionId == g.id && r.keytag == s.keyTagOf g.keySlot
  | none => false

/-- A line of a leaf record (R292): poison where its POISON bit is set; a line not listed is zero. -/
def LeafRec.line (r : LeafRec) (k : Nat) : ReadRes :=
  if r.poison.getLsbD k then .poison else .data (r.lines.getD k 0)

/-- The chosen record of a leaf: the one the leaf map names, where it may be restored. -/
def State.imageOf (s : State) (leaf : Nat) : Option LeafRec :=
  match s.vlt.map.find? leaf with
  | none => none
  | some l =>
    match s.vlt.nand.leaves.find? l.loc with
    | some r => if r.leaf == leaf && s.recordFits r then some r else none
    | none => none

/-- A line from the vault image, where its leaf is outside the dirty window (R188, R242, R565). -/
def State.vaultLine (s : State) (line : Nat) : Option ReadRes :=
  if s.windowHas (leafOf line) then none else (s.imageOf (leafOf line)).map (fun r => r.line (line % leafLines))

/-- The leaf waits for its restore (R311). -/
def State.unrestored (s : State) (leaf : Nat) : Bool := s.vlt.unrestored.has leaf

/-- A request starts the on-demand restore of a leaf (R74, R311). -/
def State.onDemand (s : State) (leaf : Nat) : State :=
  match s.vlt.unrestored.find? leaf with
  | none => s
  | some u =>
    if u.prio = 0 then s
    else { s with vlt := { s.vlt with unrestored := s.vlt.unrestored.insert leaf { u with prio := 0 } } }.bump Ctr.VLT_CNT_LAZY

/-- Writes are ordered without the twin (R122). -/
def State.alone (s : State) : Bool :=
  match s.mode.mode with
  | .solo => true
  | .restore | .hold => s.pair.lost || s.pair.departed
  | .preserve => s.mode.leftMode == .solo
  | _ => false

/-- The first write applied to an extent in a period without the twin raises its epoch and sets RD (R122). -/
def State.noteEpoch (s : State) (line : Nat) : State :=
  let x := extentOf line
  if s.alone && !s.pair.raised.has x then
    let e := s.extPair x
    let s := s.setExtPair x { e with epoch := (e.epoch + 1) % 65536, rd := true }
    { s with pair := { s.pair with raised := s.pair.raised.insert x () } }
  else s

/-- The valid bit of a leaf (R55). -/
def State.valid (s : State) (leaf : Nat) : Bool := s.addr.valid.has leaf

/-- A leaf fill of the leaf is in progress (R56). -/
def State.filling (s : State) (leaf : Nat) : Bool := s.addr.fills.has leaf

/-- A line of a leaf is applied: a leaf fill starts or notes the line (R56, R57); a valid leaf joins the window (R94). -/
def State.noteLeaf (s : State) (line : Nat) : State :=
  let leaf := leafOf line
  let bit : BitVec 64 := BitVec.ofNat 64 (2 ^ (line % leafLines))
  if s.valid leaf then s.joinWindow leaf
  else { s with addr := { s.addr with fills := s.addr.fills.insert leaf (s.addr.fills.getD leaf 0 ||| bit) } }

/-- All that an applied write does beside the line itself. -/
def State.noteApplied (s : State) (line : Nat) : State := (s.noteLeaf line).noteEpoch line

/-- The order number last given or applied for a line (R71, R72). -/
def State.ordOf (s : State) (line : Nat) : BitVec 32 := s.trk.ords.getD line 0

/-- Record an order number of a line. -/
def State.setOrd (s : State) (line : Nat) (n : BitVec 32) : State :=
  { s with trk := { s.trk with ords := s.trk.ords.put 0 line n } }

/-- Serial comparison of order numbers (R141): `a` is later than `b`. -/
def ordLater (a b : BitVec 32) : Bool := let d := (a - b).toNat; decide (1 ≤ d) && decide (d < 2 ^ 31)

end Sys2Proof.Machine
end

