-- ==== Sys2Proof/Machine/Sched.lean ====
section
/-!
DEFINITION. Machine/Sched.lean: ageing and candidates of the tier manager, stream schedules and their doorbells (06_tiers.md, R173, R175,
R181 to R187, R563).
-/
namespace Sys2Proof.Machine

/-! ## Ageing and candidates -/

/-- AGE of an extent (R170, R173). -/
def State.ageOf (s : State) (x : Nat) : Nat := s.tier.age.getD x 15

/-- Set AGE. -/
def State.setAge (s : State) (x n : Nat) : State := { s with tier := { s.tier with age := s.tier.age.put 15 x n } }

/-- Ask for a move of an extent, once. -/
def State.askMove (s : State) (x : Nat) (toHbm : Bool) (why : MoveWhy) : State :=
  if s.tier.asks.any (fun a => a.extent == x && a.toHbm == toHbm && a.why == why) then s
  else { s with tier := { s.tier with asks := s.tier.asks ++ [⟨x, toHbm, why⟩] } }

/-- The place of the candidate with the lowest count (R175). -/
def lowestCand (l : List (Nat × Nat)) : Option Nat :=
  (l.foldl (fun b c => match b with
    | none => some c
    | some d => if c.2 < d.2 then some c else some d) none).map (·.1)

/-- A line-cache miss is served from a home (R173, R175): an HBM-homed extent's AGE becomes 0; a miss of an AUTO extent in DDR5 is
counted, and at PROMO_THRESH it is a candidate. -/
def State.noteMiss (s : State) (line : Nat) (hbm : Bool) : State :=
  let x := extentOf line
  if hbm then
    let s := s.setAge x 0
    { s with tier := { s.tier with fresh := s.tier.fresh.insert x () } }
  else
    match s.regionOf x with
    | none => s
    | some (_, r) =>
      if r.tier ≠ 0 then s else
      let n := s.tier.cands.getD x 0 + 1
      let t := if s.tier.cands.has x || s.tier.cands.size < 4096 then s.tier.cands
        else match lowestCand s.tier.cands.cells with
          | some k => s.tier.cands.erase k
          | none => s.tier.cands
      let s := { s with tier := { s.tier with cands := t.insert x n } }
      if n = max 1 (s.fld Reg.TM_CTL Fld.TM_CTL_PROMO_THRESH) && s.fld Reg.TM_CTL Fld.TM_CTL_AUTO_EN = 1
        then s.askMove x true .auto else s

/-! ## Schedules -/

/-- The extents of a step, those that lie in a region that may be staged (R176, R187). -/
def State.stepExtents (s : State) (c : Sched) (j : Nat) : List Nat :=
  match c.steps[j]? with
  | none => []
  | some st =>
    ((c.runs.drop st.firstRun).take st.count).flatMap (fun r => (List.range r.2).map (· + r.1)) |>.filter (fun x =>
      match s.regionOf x with
      | some (_, g) => g.tier != 2
      | none => false)

/-- A step is staged: every extent is HBM-homed and not mid-move. -/
def State.stepStaged (s : State) (c : Sched) (j : Nat) : Bool :=
  (s.stepExtents c j).all (fun x => (s.placeOf x).1 && (s.moveOf x).isNone)

/-- The steps j+1 to j+n, wrapping past the last step only with LOOP, each once. -/
def Sched.ahead (c : Sched) (j n : Nat) : List Nat :=
  ((List.range (min n (c.steps.length - 1))).map (fun k => j + 1 + k)).filterMap (fun k =>
    if k < c.steps.length then some k else if c.loop then some (k % c.steps.length) else none)

/-- The steps that are current or staged ahead: of a schedule not yet triggered, the first LEAD steps (R563). -/
def Sched.window (c : Sched) : List Nat :=
  if c.fresh then List.range (min c.lead c.steps.length) else c.step :: c.ahead c.step c.lead

/-- An extent that a schedule stages. -/
def State.stagedBy (s : State) (c : Sched) (x : Nat) : Bool := c.window.any (fun j => (s.stepExtents c j).contains x)

/-- An extent that some schedule stages (R174, R187). -/
def State.isStaged (s : State) (x : Nat) : Bool := s.tier.scheds.values.any (fun c => s.stagedBy c x)

/-- STAGED_THROUGH (R183, R563). -/
def State.stagedThrough (s : State) (c : Sched) : Nat :=
  let order := if c.fresh then List.range c.steps.length else c.ahead c.step c.steps.length
  ((order.takeWhile (s.stepStaged c)).getLast?).getD c.step

/-- The status word (R183). -/
def State.schedStatus (s : State) (c : Sched) : BitVec 64 :=
  BitVec.ofNat 64 (c.step % 4096 + s.stagedThrough c % 4096 * 2 ^ 12 + (if c.late then c.subst * 2 ^ 24 else 0) +
    c.lates % 256 * 2 ^ 48 + (if c.blocked then 2 ^ 61 else 0) + 2 ^ 62 + (if c.late then 2 ^ 63 else 0))

/-- Store a schedule. -/
def State.setSched (s : State) (id : Nat) (c : Sched) : State :=
  { s with tier := { s.tier with scheds := s.tier.scheds.insert id c } }

/-- Ask for the moves that stage steps of a schedule, where SCHED_EN allows (R186). -/
def State.stageSteps (s : State) (id : Nat) (c : Sched) (steps : List Nat) : State :=
  if s.fld Reg.TM_CTL Fld.TM_CTL_SCHED_EN = 0 then s else
  steps.foldl (fun s j => (s.stepExtents c j).foldl (fun s x =>
    if (s.placeOf x).1 || (s.moveOf x).isSome then s else s.askMove x true (.sched id j)) s) s

/-- The steps that a trigger of step `j` passes (R184). -/
def Sched.passed (c : Sched) (j : Nat) : List Nat :=
  let n := c.steps.length
  if c.fresh then []
  else if c.step < j then (List.range (j - c.step)).map (· + c.step)
  else if c.loop then (List.range (j + n - c.step)).map (fun k => (c.step + k) % n)
  else [c.step]

/-- An extent of a step that has passed, of a T3 region and staged by no other step, takes age 15. -/
def State.ageSpent (s : State) (x : Nat) : State :=
  match s.regionOf x with
  | some (_, r) => if r.tier = 3 && !s.isStaged x then s.setAge x 15 else s
  | none => s

/-- A trigger of step `j` of a schedule (R184). -/
def State.trigger (s : State) (id j : Nat) : State :=
  match s.tier.scheds.find? id with
  | none => s
  | some c =>
    if c.steps.length ≤ j then s.bump Ctr.TM_CNT_TRIG_BAD else
    let late := !s.stepStaged c j
    let s := s.bump Ctr.TM_CNT_TRIGGER
    let gone := s.tier.asks.filter (fun a => a.why == MoveWhy.sched id j)
    let s := if late then
        ({ s with tier := { s.tier with asks := s.tier.asks.filter (fun a => a.why != MoveWhy.sched id j) } }.bump Ctr.TM_CNT_LATE).bumpBy
          Ctr.TM_CNT_CANCEL gone.length
      else s
    let c' : Sched := { c with step := j, late := late, fresh := false, triggers := (c.triggers + 1) % 2 ^ 32,
                               lates := if late then (c.lates + 1) % 2 ^ 32 else c.lates, since := s.now, blocked := false }
    let s := s.setSched id c'
    let spent := (c.passed j).flatMap (s.stepExtents c)
    let s := spent.foldl State.ageSpent s
    s.stageSteps id c' (c'.ahead j c'.lead)

/-- The schedule whose doorbell is a line (R178). -/
def State.doorbellOf (s : State) (line : Nat) : Option Nat := s.tier.scheds.findKey? (fun _ c => c.doorbell == line)

/-- A read of a doorbell line (R181). -/
def State.doorbellLine (s : State) (id : Nat) : Line :=
  match s.tier.scheds.find? id with
  | none => 0
  | some c => BitVec.ofNat 512 ((s.schedStatus c).toNat + (c.triggers + c.lates * 2 ^ 32) * 2 ^ 64)

/-- A write to a doorbell line (R181): one that covers bytes 0 to 7 triggers the step of word 0's bits 11 to 0. -/
def State.doorbellWrite (s : State) (id : Nat) (d : Line) (m : Mask) : State :=
  if m.toNat % 256 = 255 then s.trigger id (d.toNat % 4096) else s

/-- An atomic on a doorbell line (R181): a FetchAdd on word 0 triggers step (STEP + addend) mod NSTEPS and returns the status word
after it; one on another word returns what a read gives there. -/
def State.doorbellAtomic (s : State) (id : Nat) (op : TOp) : State × BitVec 64 :=
  match s.tier.scheds.find? id, op with
  | some c, .fetchAdd 0 a =>
    let s := s.trigger id ((c.step + a.toNat) % c.steps.length)
    (s, Line.word (s.doorbellLine id) 0)
  | _, .fetchAdd w _ => (s, Line.word (s.doorbellLine id) w)
  | _, _ => (s, 0)

end Sys2Proof.Machine
end

