-- ==== Sys2Proof/Machine/TwinTx.lean ====
section
/-!
DEFINITION. Machine/TwinTx.lean: handing messages to the twin link and placing their frames on the paths (05_twin_link.md, R135, R139 to
R145).
-/
namespace Sys2Proof.Machine

/-- How many bits of a byte mask are set. -/
def popCount (m : BitVec 64) : Nat := (List.range 64).foldl (fun n i => if m.getLsbD i then n + 1 else n) 0

/-- A multiple of 8, rounded up. -/
def pad8 (n : Nat) : Nat := ceilDiv n 8 * 8

/-- Bytes of a line record (R141). -/
def LineBody.size : LineBody → Nat
  | .full _ => 80
  | .part m _ => 24 + pad8 (popCount m)
  | .nodata => 16
  | .orig _ => 24
  | .poison => 16
  | .cmpSwap .. => 32
  | .fetchAdd .. => 24
  | .zero => 16

/-- Bytes of a record (R140 to R142). HANDOVER and DEPART records take 8 bytes; CONTROL and RESYNC_CTL contents are kept as data, 228 bytes
of one frame (DESIGN CHOICE, log entry 20). -/
def TwRec.size : TwRec → Nat
  | .line r => r.body.size
  | .ckpt c => 32 + 16 * c.reads.length + 16 * c.atomics.length
  | .tag _ => 4
  | .handover .. => 8
  | .depart _ => 8
  | .raw b => b.length
  | .control _ => 228
  | .resync _ => 228

/-- LEN of a message (R139). -/
def TwMsg.len (m : TwMsg) : Nat := m.recs.foldl (fun n r => n + r.size) 16

/-- Frames of a message (R139). -/
def TwMsg.frames (m : TwMsg) : Nat := ceilDiv m.len 244

/-- Lanes in use of a path. -/
def TwPath.lanes (p : TwPath) : Nat := 8 - popCount (p.lanesOut.setWidth 64)

/-- A path takes a DATA frame now (R135, R138, R155): UP, not blocked, its replay buffer not full. -/
def TwPath.takes (p : TwPath) : Bool := p.state == .up && !p.blocked && decide (p.replay.length < 1024)

/-- The path of the next DATA frame (R145, TWL_CTL.SPRAY); none where neither takes one. -/
def State.pickPath (s : State) : Option Nat :=
  let a := s.twl.pathA
  let b := s.twl.pathB
  let spray := s.fld Reg.TWL_CTL Fld.TWL_CTL_SPRAY
  if spray = 1 && a.up then (if a.takes then some 0 else none)
  else if spray = 2 && b.up then (if b.takes then some 1 else none)
  else if a.takes && b.takes then
    (if a.replay.length * b.lanes ≤ b.replay.length * a.lanes then some 0 else some 1)
  else if a.takes then some 0 else if b.takes then some 1 else none

/-- ACKSEQ of a path (R134). -/
def TwPath.ackseq (p : TwPath) : Nat := (p.rxPseq + 4095) % 4096

/-- CRD of the next frame: freed slots in units of 8, at most 15 units (R134, R143). -/
def State.takeCrd (s : State) : State × Nat :=
  let c := min 15 (s.twl.owedCredit / 8)
  ({ s with twl := { s.twl with owedCredit := s.twl.owedCredit - 8 * c } }, c)

/-- Send one DATA frame on a path (R135). -/
def State.sendFrame (s : State) (n msn off : Nat) (last : Bool) : State :=
  let (s, crd) := s.takeCrd
  let p := s.path n
  let s := s.setPath n { p with txPseq := (p.txPseq + 1) % 4096, replay := p.replay ++ [⟨p.txPseq, msn, off, last⟩] }
  (s.emit (.twData n p.txPseq p.ackseq crd msn off last)).bump (Ctr.TWL_CNT_TX n)

/-- Send the frames `off …` of a message; the number left where no path takes one. -/
def State.sendFrames (s : State) (msn total : Nat) : Nat → State
  | 0 => s
  | k + 1 =>
    match s.pickPath with
    | none => s
    | some n => (s.sendFrame n msn (total - (k + 1)) (k == 0)).sendFrames msn total k

/-- Room for frames on the paths that take them. -/
def State.frameRoom (s : State) : Nat :=
  (if s.twl.pathA.takes then 1024 - s.twl.pathA.replay.length else 0) +
  (if s.twl.pathB.takes then 1024 - s.twl.pathB.replay.length else 0)

/-- Send the messages that wait, in order, while credits and replay buffers allow (R143, R144). -/
def State.drainN : Nat → State → State
  | 0, s => s
  | k + 1, s =>
    match s.twl.sendq with
    | [] => s
    | m :: rest =>
      let f := m.frames
      if s.twl.credit < f then s.bump Ctr.TWL_CNT_CREDIT_STALL
      else if s.frameRoom < f || s.pickPath.isNone then s
      else
        let msn := s.twl.txMsn
        let s := { s with twl := { s.twl with sendq := rest, credit := s.twl.credit - f, txMsn := (msn + 1) % 2 ^ 20,
                                              sent := s.twl.sent.insert msn m } }
        drainN k ((s.sendFrames msn f f).bump Ctr.TWL_CNT_MSG_TX)

/-- Send what waits. -/
def State.drainLink (s : State) : State := s.drainN (s.twl.sendq.length)

/-- Hand a message to the link (R144). -/
def State.hand (s : State) (typ tag : Nat) (recs : List TwRec) : State :=
  let m : TwMsg := ⟨typ, tag, recs⟩
  ({ s with twl := { s.twl with sendq := s.twl.sendq ++ [m] } }.emit (.twMessage m)).drainLink

/-- The next TAG. -/
def State.newTag (s : State) : Nat := s.twl.nextTag

/-- Hand a message with a fresh TAG. -/
def State.handNew (s : State) (typ : Nat) (recs : List TwRec) : State :=
  { s with twl := { s.twl with nextTag := (s.twl.nextTag + 1) % 2 ^ 32 } }.hand typ s.twl.nextTag recs

/-- Return the credits of staging slots freed here: owed until the next frame carries them (R143). -/
def State.freeSlots (s : State) (n : Nat) : State := { s with twl := { s.twl with owedCredit := s.twl.owedCredit + n } }

/-- The body of a line record for a write. -/
def bodyOf (d : Line) (m : Mask) (poison : Bool) : LineBody :=
  if poison then .poison else if m = Mask.full then .full d else .part m d

end Sys2Proof.Machine
end

