-- ==== Sys2Proof/Machine/Track.lean ====
section
/-!
DEFINITION. Machine/Track.lean: tracker entries: floors, ceilings, the shared pool, grants and waiting requests (03_request_path.md, R63 to
R69; R374).
-/
namespace Sys2Proof.Machine

/-- Entries in the tracker. -/
abbrev trackerSize : Nat := 65536

/-- A source's floor in entries. -/
def State.floorOf (s : State) (src : Nat) : Nat := 16 * s.fld (Reg.FAB_TRK_QUOTA src) Fld.FAB_TRK_QUOTA_FLOOR

/-- A source's ceiling in entries; 0 counts as 1 unit, above 4,096 units as 4,096. -/
def State.ceilOf (s : State) (src : Nat) : Nat := 16 * clamp 1 4096 (s.fld (Reg.FAB_TRK_QUOTA src) Fld.FAB_TRK_QUOTA_CEIL)

/-- Entries a source holds: FAB_TRK_USEnn.CUR. -/
def State.trkUse (s : State) (src : Nat) : Nat := (s.trk.entries.cells.filter (fun c => c.2.src == src)).length

/-- Free entries: FAB_TRK_STATUS.FREE. -/
def State.trkFree (s : State) : Nat := trackerSize - s.trk.entries.size

/-- Free entries of a source's floor. -/
def State.floorFree (s : State) (src : Nat) : Nat := s.floorOf src - s.trkUse src

/-- Free entries of the shared pool: those outside all floors. -/
def State.sharedFree (s : State) : Nat := s.trkFree - sumL ((List.range 8).map s.floorFree)

/-- Whether a source may be granted an entry (R64). -/
def State.mayGrant (s : State) (src : Nat) : Bool :=
  decide (s.trkUse src < s.floorOf src) || (decide (s.trkUse src < s.ceilOf src) && decide (0 < s.sharedFree))

/-- The grant would come from the shared pool. -/
def State.fromShared (s : State) (src : Nat) : Bool := !decide (s.trkUse src < s.floorOf src)

/-- A source is held back (R69): FAB_TRK_STATUS.BP. -/
def State.heldBack (s : State) (src : Nat) : Bool := s.trk.waiting.any (fun w => w.src == src)

/-- The least number not used by rising keys. -/
def firstGap : List (Nat × Entry) → Nat → Nat
  | [], n => n
  | (k, _) :: t, n => if k = n then firstGap t (n + 1) else n

/-- An entry. -/
def State.entry (s : State) (id : Nat) : Option Entry := s.trk.entries.find? id

/-- Store an entry. -/
def State.setEntry (s : State) (id : Nat) (e : Entry) : State :=
  { s with trk := { s.trk with entries := s.trk.entries.insert id e } }

/-- A link's credits come back for a granted request (R374). -/
def State.returnCredit (s : State) (d : Dst) (rwd : Bool) : State :=
  match d with
  | .cxl p k _ _ _ =>
    let l := s.link p k
    if l.ide = 2 then s else
    let l := if rwd then { l with rwd := min 256 (l.rwd + 1) } else { l with req := min 256 (l.req + 1) }
    (s.setLink p k l).emit (.credit p k (if rwd then 0 else 1) (if rwd then 1 else 0))
  | _ => s

/-- Grant an entry to a request (R63, R64): the number of the entry. -/
def State.grant (s : State) (w : Waiting) : State × Nat :=
  let id := firstGap s.trk.entries.cells 0
  let shared := s.fromShared w.src
  let e : Entry := { src := w.src, line := w.line, op := w.op, dst := w.dst, state := .decode, bad := w.bad, since := s.now,
                     arr := s.trk.nextArr, ord := none, applied := false, result := none, tag := none, sent := false, owed := false }
  let s := s.setEntry id e
  let s := { s with trk := { s.trk with nextArr := s.trk.nextArr + 1, rr := if shared then w.src else s.trk.rr } }
  let use := s.trkUse w.src
  let s := if s.fld (Reg.FAB_TRK_PEAK w.src) Fld.FAB_TRK_PEAK_PEAK < use then
      s.setFld (Reg.FAB_TRK_PEAK w.src) Fld.FAB_TRK_PEAK_PEAK use else s
  (s.returnCredit w.dst (match w.op with | .write .. => true | _ => false), id)

/-- Hold a request back (R69); a new interval of a CXL port or of the network engine is counted. -/
def State.holdBack (s : State) (w : Waiting) : State :=
  let s := if s.heldBack w.src then s
    else if w.src < 2 then s.bump Ctr.FAB_CNT_BP_CXL
    else if w.src = 2 then s.bump Ctr.FAB_CNT_BP_NET else s
  { s with trk := { s.trk with waiting := s.trk.waiting ++ [w] } }

/-- A request asks for an entry: the entry granted, if one is (R64); requests of one source keep their order. -/
def State.request (s : State) (w : Waiting) : State × Option Nat :=
  if s.mayGrant w.src && !s.heldBack w.src then
    let (s, id) := s.grant w
    (s, some id)
  else (s.holdBack w, none)

/-- The source a freed entry goes to (R65): VLT first in PRESERVE; else one under its floor, else round robin by source number. -/
def State.nextSource (s : State) : Option Nat :=
  let ok := fun src => s.heldBack src && s.mayGrant src
  if s.mode.mode == .preserve && ok 5 then some 5
  else match (List.range 8).find? (fun src => ok src && !s.fromShared src) with
    | some src => some src
    | none => ((List.range 8).map (fun k => (s.trk.rr + 1 + k) % 8)).find? ok

/-- Grant freed entries to those that wait; the entries granted. -/
def State.grantN : Nat → State → List Nat → State × List Nat
  | 0, s, ids => (s, ids)
  | n + 1, s, ids =>
    match s.nextSource with
    | none => (s, ids)
    | some src =>
      match s.trk.waiting.find? (fun w => w.src == src) with
      | none => (s, ids)
      | some w =>
        let s := { s with trk := { s.trk with waiting := s.trk.waiting.erase w } }
        let (s, id) := s.grant w
        grantN n s (ids ++ [id])

/-- Grant to all that can be granted. -/
def State.grantWaiting (s : State) : State × List Nat := s.grantN s.trk.waiting.length []

/-- Free an entry. -/
def State.dropEntry (s : State) (id : Nat) : State :=
  { s with trk := { s.trk with entries := s.trk.entries.erase id }, flt := { s.flt with stuck := s.flt.stuck.filter (· != id) } }

/-- Put an entry in a state; entering LINE_WAIT and RESIDENT_WAIT is counted. -/
def State.park (s : State) (id : Nat) (e : Entry) (st : TState) : State :=
  if e.state == st then s
  else
    let s := s.setEntry id { e with state := st }
    if st == .lineWait then s.bump Ctr.FAB_CNT_LINE_WAIT
    else if st == .residentWait then s.bump Ctr.FAB_CNT_RES_WAIT else s

end Sys2Proof.Machine
end

