-- ==== Sys2Proof/Machine/HostOut.lean ====
section
/-!
DEFINITION. Machine/HostOut.lean: answers of the CXL ports, events in a function's logs, poison lists, RAS (12_cxl_ports.md, R372 to R375,
R383 to R385, R389; 14_control.md, R426).
-/
namespace Sys2Proof.Machine

/-- The page of a port's block. -/
def portPage (p : Nat) : Nat := if p = 0 then 0x10 else 0x11

/-- Advance a counter of a link. -/
def State.bumpLink (s : State) (p k : Nat) (c : Nat → Nat → Nat) : State := s.bump (c (portPage p) k)

/-- DevLoad of a port's source (R375). -/
def State.devLoad (s : State) (p : Nat) : Nat :=
  let u := s.trkUse p
  let c := s.ceilOf p
  if s.heldBack p then 3 else if 3 * c ≤ 4 * u then 2 else if c ≤ 2 * u then 1 else 0

/-- The log of a function by number: 0 Informational, 1 Warning, 2 Failure, 3 Fatal. -/
def Func.log (f : Func) (n : Nat) : EvLog :=
  if n = 0 then f.info else if n = 1 then f.warn else if n = 2 then f.fail else f.fatal

/-- Set a log. -/
def Func.setLog (f : Func) (n : Nat) (l : EvLog) : Func :=
  if n = 0 then { f with info := l } else if n = 1 then { f with warn := l } else if n = 2 then { f with fail := l } else { f with fatal := l }

/-- The timestamp of an event: device time plus the offset of TIM_STAMP (R426), modulo 2^64. -/
def State.stamp (s : State) : Nat :=
  (s.now + (s.reg Reg.TIM_STAMP_LO).toNat + (s.reg Reg.TIM_STAMP_HI).toNat * 2 ^ 32) % 2 ^ 64

/-- Record an event in a log of a function: at most 256, more advance the overflow count (R426); the log's MSI-X vector is sent when the
record is added. -/
def State.event (s : State) (fn n kind a b : Nat) : State :=
  let f := s.func fn
  let l := f.log n
  if 256 ≤ l.recs.length then s.setFunc fn (f.setLog n { l with overflow := l.overflow + 1 })
  else
    let s := s.setFunc fn (f.setLog n { l with recs := l.recs ++ [⟨kind, a, b, s.stamp⟩] })
    match f.policy.getD n none with
    | some v => s.emit (.msix fn v)
    | none => s

/-- A General Media event (R384): at most one record per function and ms; more advance the overflow count. -/
def State.gmEvent (s : State) (fn dpa typ : Nat) : State :=
  let f := s.func fn
  match f.lastGm with
  | some t =>
    if s.now < t + 1000000 then
      s.setFunc fn (f.setLog 1 { f.warn with overflow := f.warn.overflow + 1 })
    else (s.setFunc fn { f with lastGm := some s.now }).event fn 1 0 dpa typ
  | none => (s.setFunc fn { f with lastGm := some s.now }).event fn 1 0 dpa typ

/-- The DPAs at which LDs see a line: function and DPA. -/
def State.dpasOf (s : State) (line : Nat) : List (Nat × Nat) :=
  (List.range 32).flatMap (fun ld => (s.windows ld).filterMap (fun w =>
    if w.dev * extentLines ≤ line ∧ line < (w.dev + w.len) * extentLines then
      some (ld, w.dpa * extentBytes + 64 * (line - w.dev * extentLines)) else none))

/-- Records a poison list holds (R426). -/
abbrev poisonMax : Nat := 4096

/-- A line holds a poison marker: it enters the poison list of each function whose windows hold it (R426). -/
def State.notePoison (s : State) (line : Nat) : State :=
  (s.dpasOf line).foldl (fun s c =>
    let f := s.func c.1
    if f.poison.contains c.2 then s
    else if poisonMax ≤ f.poison.length then s.setFunc c.1 { f with poisonMore := true }
    else s.setFunc c.1 { f with poison := f.poison ++ [c.2] }) s

/-- A RAS condition of a link; its first occurrence raises AER and the Fatal or Warning log's vector of the link's functions (R385). -/
def State.ras (s : State) (p k bit : Nat) : State :=
  let l := s.link p k
  if l.ras.getLsbD bit then s
  else
    let s := (s.setLink p k { l with ras := l.ras ||| BitVec.ofNat 6 (2 ^ bit) }).emit (.aer p k bit)
    (s.linkFuncs p k).foldl (fun s fn =>
      match (s.func fn).policy.getD (if bit == 1 || bit == 4 || bit == 5 then 3 else 1) none with
      | some v => s.emit (.msix fn v)
      | none => s) s

/-- Send a response of a link, or keep it until the link is in L0 (R389). -/
def State.respond (s : State) (p k ld tag : Nat) (data : Option Line) (poison : Bool) : State :=
  let l := s.link p k
  if l.state == .l0 then
    match data with
    | some d => s.emit (.memData p k ld tag d poison (s.devLoad p))
    | none => s.emit (.cmp p k ld tag (s.devLoad p))
  else s.setLink p k { l with retry := l.retry ++ [(ld, tag, data, poison)] }

end Sys2Proof.Machine
end

