-- ==== Sys2Proof/Machine/EcBase.lean ====
section
/-!
DEFINITION. Machine/EcBase.lean: records and corrected-read counts of the code engines (09_codes.md, R258 to R260, R282).
-/
namespace Sys2Proof.Machine

/-- The 32-byte payload of the code engines' records (R282). -/
def ecPayload (a : DramAddr) (dev nsym port flags : Nat) (h : Home) (devaddr : Nat) (syms : Nat) : List Word :=
  let home := 64 * h.line + (if h.hbm then 2 ^ 63 else 0)
  [BitVec.ofNat 32 (a.inst % 64 + a.sc % 2 * 64 + a.rank % 256 * 256 + dev % 256 * 2 ^ 16 + nsym % 256 * 2 ^ 24),
   BitVec.ofNat 32 (port % 8 + flags % 256 * 256)] ++ lohi home ++ lohi (if 2 ^ 44 ≤ devaddr then 2 ^ 64 - 1 else devaddr) ++ lohi (syms % 2 ^ 40)

/-- A record of the code engines. -/
def State.ecRecord (s : State) (typ cls dev nsym port flags : Nat) (h : Home) (devaddr syms : Nat) : State :=
  s.logRec typ Src.ec cls (ecPayload (s.dramOf h) dev nsym port flags h devaddr syms)

/-- A poison marker has been written for a line (R282, POISON_WRITTEN): the record, and the poison lists (R426). -/
def State.poisonWritten (s : State) (port cause line : Nat) : State :=
  (s.ecRecord 0x37 Cls.minor 0xFF 0 port (4 + 8 * cause) (s.homeOf line) (64 * line) 0).notePoison line

/-- The unit of a device or symbol (R395). -/
def Mark.unit (m : Mark) : Nat := unitId 0x04 (m.inst * 2 ^ 18 + m.sc * 2 ^ 17 + m.rank * 2 ^ 9 + m.dev * 2 ^ 3)

/-- A mark may be set on this unit's population (R259). -/
def State.markable (s : State) (m : Mark) : Bool :=
  s.fld Reg.EC_CTL Fld.EC_CTL_MARK_EN == 1 &&
  (m.inst ≥ 16 || !s.addr.served.pop.x8 || s.fld Reg.EC_CTL Fld.EC_CTL_X8_MARK == 1)

/-- Marks share a rank and subchannel or pseudo-channel. -/
def Mark.same (a b : Mark) : Bool := a.inst == b.inst && a.sc == b.sc && a.rank == b.rank

/-- One corrected read of a device or symbol is counted (R258); at THRESH it is marked (R259) or refused (R260). -/
def State.countCorrected (s : State) (m : Mark) (h : Home) (line nsym port : Nat) : State :=
  let n := ((s.ec.counts.find? (fun c => c.1 == m)).map (·.2)).getD 0 + 1
  let s := { s with ec := { s.ec with counts := s.ec.counts.filter (fun c => c.1 != m) ++ [(m, n)] } }
  let s := if s.ec.logged.contains m then s
    else { s with ec := { s.ec with logged := s.ec.logged ++ [m] } }.ecRecord 0x31 Cls.minor m.dev nsym port
      (if s.ec.marks.any m.same then 1 else 0) h (64 * line) 0
  if n = max 1 (s.fld Reg.EC_MARK Fld.EC_MARK_THRESH) then
    if s.ec.marks.contains m then s
    else if s.ec.marks.any m.same then
      ((s.bump Ctr.EC_CNT_MARK_REFUSED).ecRecord 0x34 Cls.major m.dev nsym port 1 h (64 * line) 0).report m.unit 0x02 Cls.major
    else if s.markable m then
      (({ s with ec := { s.ec with marks := s.ec.marks ++ [m] } }.bump Ctr.EC_CNT_MARK).ecRecord 0x33 Cls.major m.dev nsym port 1 h
        (64 * line) 0).report m.unit 0x02 Cls.major
    else s
  else s

/-- A read that the decoder corrected: each device or symbol position it corrected is counted once (R258), EC_CNT_CE advances. -/
def State.noteCorrected (s : State) (h : Home) (line port : Nat) (errs : List (Nat × Nat)) : State :=
  if errs.isEmpty then s else
  let a := s.dramOf h
  let devs := (errs.map (fun e => symbolDevice h.hbm s.addr.served.pop.x8 e.1)).eraseDups
  devs.foldl (fun s d => s.countCorrected ⟨a.inst, a.sc, a.rank, d⟩ h line errs.length port) (s.bump Ctr.EC_CNT_CE)

/-- An uncorrectable read (R240, R282): EC_CNT_UE, the record, the freeze of its channel. -/
def State.noteUncorrectable (s : State) (h : Home) (line port : Nat) : State :=
  let a := s.dramOf h
  ((s.bump Ctr.EC_CNT_UE).ecRecord 0x32 Cls.major 0xFF 0 port 0 h (64 * line) 0).freeze a.inst 1 (some (a, h))

end Sys2Proof.Machine
end

