-- ==== Sys2Proof/Machine/NetBase.lean ====
section
/-!
DEFINITION. Machine/NetBase.lean: what a connection does as its operations complete: answers, acknowledgements, checkpoints
(11_network.md, R82, R83, R325, R329, R342, R349 to R352, R357, R358; 04_durability.md, R108).
-/
namespace Sys2Proof.Machine

/-- PSN and MSN arithmetic. -/
abbrev psnMod : Nat := 16777216

/-- The address of an Ethernet port in the port table. -/
def portKey (mac p : Nat) : Nat := 4 * mac + p

/-- An Ethernet port. -/
def State.ethPort (s : State) (mac p : Nat) : EthPort := s.net.ports.getD (portKey mac p) {}

/-- Set an Ethernet port. -/
def State.setEthPort (s : State) (mac p : Nat) (v : EthPort) : State :=
  { s with net := { s.net with ports := s.net.ports.put {} (portKey mac p) v } }

/-- The page of a MAC's block. -/
def macPage (mac : Nat) : Nat := 0x18 + mac

/-- Send a frame, or keep it in egress while its priority is paused (R329); a port whose link is down sends nothing. -/
def State.sendFrameEth (s : State) (f : NetFrame) : State :=
  let p := s.ethPort f.mac f.port
  if !p.link then s
  else if p.pausedRx.has f.prio then s.setEthPort f.mac f.port { p with egress := p.egress ++ [f] }
  else (s.emit (.frame f)).bump (Ctr.E_CNT_TX_PKT (macPage f.mac) f.port)

/-- A connection. -/
def State.conn (s : State) (slot : Nat) : Option Conn := s.net.conns.find? slot

/-- Store a connection. -/
def State.setConn (s : State) (slot : Nat) (c : Conn) : State := { s with net := { s.net with conns := s.net.conns.insert slot c } }

/-- A frame of a connection, by its route (R325). -/
def Conn.frame (c : Conn) (w : NetOut) : NetFrame :=
  { mac := c.route.mac, port := c.route.port, prio := c.route.prio, dstMac := c.route.dstMac, vlan := c.route.vlan,
    dscp := c.route.dscp, dstIp := c.route.dstIp, udpSrc := c.udpSrc, what := w }

/-- An operation of the connection leaves: its epoch's count falls (R358). -/
def State.epochLeave (s : State) (o : NetOp) : State :=
  match o.epoch with
  | none => s
  | some e => { s with net := { s.net with counts := s.net.counts.set e (s.net.counts.getD e 0 - 1) } }

/-- Send an ACK for the latest completed message (R352). -/
def State.sendAck (s : State) (slot : Nat) (c : Conn) : State :=
  (s.sendFrameEth (c.frame (.ack c.reqQpn c.donePsn c.msn))).setConn slot { c with ackCount := 0 }

/-- The answer of an operation is abandoned; line reads that have not begun never do (R342, R351). -/
def NetOp.abandon (o : NetOp) : NetOp := { o with abandoned := true, left := if o.kind == 1 && !o.begun then 0 else o.left }

/-- A NAK with 0x61, 0x62 or 0x63 is decided: the connection enters ERROR, its resource entries are freed, its answers abandoned
(R342). -/
def State.nakError (s : State) (slot : Nat) (c : Conn) (syndrome psn : Nat) : State :=
  let c := { c with error := true, res := [], wr := none, ops := c.ops.map NetOp.abandon }
  let s := (s.sendFrameEth (c.frame (.nak c.reqQpn syndrome psn c.msn))).setConn slot c
  if syndrome = 0x61 then s.bump Ctr.NET_CNT_NAK_INV else if syndrome = 0x62 then s.bump Ctr.NET_CNT_NAK_ACC else s

/-- A message has completed (R349, R352): MSN advances; an ACK goes at NET_ACK.COUNT or where the packet asks for one. -/
def State.messageDone (s : State) (slot : Nat) (c : Conn) (psn : Nat) (ackReq : Bool) : State :=
  let c := { c with msn := (c.msn + 1) % psnMod, donePsn := psn, ackSince := if c.ackCount = 0 then s.now else c.ackSince,
                    ackCount := c.ackCount + 1 }
  if ackReq || decide (max 1 (s.fld Reg.NET_ACK Fld.NET_ACK_COUNT) ≤ c.ackCount) then s.sendAck slot c else s.setConn slot c

/-- First line of an access. -/
def NetOp.firstLine (o : NetOp) : Nat := o.addr / 64

/-- Lines an access of `len` bytes at `addr` spans. -/
def linesSpan (addr len : Nat) : Nat := if len = 0 then 0 else (addr + len - 1) / 64 + 1 - addr / 64

/-- Byte `k` of the answer of a READ. -/
def NetOp.byte (o : NetOp) (k : Nat) : Byte :=
  let a := o.addr + k
  match o.got.find? (a / 64 - o.addr / 64) with
  | some (d, _) => BitVec.ofNat 8 (d.toNat / 2 ^ (8 * (a % 64)))
  | none => 0

/-- Response packets of a READ. -/
def readPkts (mtu len : Nat) : Nat := max 1 (ceilDiv len mtu)

/-- The lines that response packet `i` needs, by number. -/
def NetOp.pktLines (o : NetOp) (mtu i : Nat) : List Nat :=
  let lo := o.addr + mtu * i
  let n := min mtu (o.len - mtu * i)
  (List.range (linesSpan lo n)).map (fun k => lo / 64 - o.addr / 64 + k)

/-- The opcode of response packet `i` of `n` (R331). -/
def readOpcode (i n : Nat) : Nat := if n = 1 then 0x10 else if i = 0 then 0x0D else if i + 1 = n then 0x0F else 0x0E

/-- The checkpoint of a connection (R108, R142), `ahead` messages counted as completed. -/
def Conn.ckpt (c : Conn) (ahead : Nat) : Ckpt :=
  { qpn := c.qpn, epsn := c.epsn, msn := (c.msn + ahead) % psnMod,
    reads := c.res.filterMap (fun r => match r with | .read p l v => some (p, l, v) | _ => none),
    atomics := c.res.filterMap (fun r => match r with | .atomic p o => some (p, o) | _ => none) }

/-- A connection that ends leaves its slot once its operations are gone (R337). -/
def State.connGone (s : State) (slot : Nat) : State :=
  match s.conn slot with
  | some c =>
    if c.closing && c.ops.isEmpty && !c.twinWait then
      { s with net := { s.net with conns := s.net.conns.erase slot, cached := s.net.cached.erase slot } }
    else s
  | none => s

/-- Remove an operation of a connection. -/
def State.dropOp (s : State) (slot serial : Nat) : State :=
  match s.conn slot with
  | none => s
  | some c =>
    let s := match c.ops.find? (fun o => o.serial == serial) with
      | some o => s.epochLeave o
      | none => s
    (s.setConn slot { c with ops := c.ops.filter (fun o => o.serial != serial) }).connGone slot

/-- Ask for the line reads of a READ (R83). -/
def State.beginRead (s : State) (slot : Nat) (o : NetOp) : State :=
  (List.range (linesSpan o.addr o.len)).foldl (fun s k =>
    (s.request ⟨2, o.firstLine + k, .read, .rdma slot o.serial k, false⟩).1) s

/-- Change an operation of a connection. -/
def State.setOp (s : State) (slot : Nat) (o : NetOp) : State :=
  match s.conn slot with
  | none => s
  | some c => s.setConn slot { c with ops := c.ops.map (fun p => if p.serial == o.serial then o else p) }

/-- Send the response packets of a READ whose lines are there (R351, R352, R357); `n` bounds the loop. -/
def State.sendReads : Nat → State → Nat → Nat → State
  | 0, s, _, _ => s
  | n + 1, s, slot, serial =>
    match s.conn slot with
    | none => s
    | some c =>
      match c.ops.find? (fun o => o.serial == serial) with
      | none => s
      | some o =>
        let total := readPkts c.mtu o.len
        if o.abandoned || total ≤ o.sentPkts then s else
        let ls := o.pktLines c.mtu o.sentPkts
        if !ls.all (fun k => o.got.has k) then s
        else if ls.any (fun k => match o.got.find? k with | some (_, p) => p | none => false) then
          let s := s.logRec LogT.net Src.net Cls.minor ([BitVec.ofNat 32 c.qpn] ++ lohi (o.addr + c.mtu * o.sentPkts))
          (s.bump Ctr.NET_CNT_POISON).nakError slot c 0x63 ((o.psn + o.sentPkts) % psnMod)
        else
          let data := (List.range (min c.mtu (o.len - c.mtu * o.sentPkts))).map (fun k => o.byte (c.mtu * o.sentPkts + k))
          let s := s.sendFrameEth (c.frame (.readResp c.reqQpn ((o.psn + o.sentPkts) % psnMod) c.msn
            (readOpcode o.sentPkts total) data))
          (s.setOp slot { o with sentPkts := o.sentPkts + 1 }).sendReads n slot serial

/-- Move a connection's operations on, oldest first: complete WRITEs and ATOMICs in order (R82), begin READs that no WRITE or ATOMIC
precedes (R83), send and finish READs in order; `n` bounds the loop. -/
def State.connStep : Nat → State → Nat → State
  | 0, s, _ => s
  | n + 1, s, slot =>
    match s.conn slot with
    | none => s
    | some c =>
      match c.ops.find? (fun o => o.abandoned && decide (o.left = 0)) with
      | some o => (s.dropOp slot o.serial).connStep n slot
      | none =>
        let live := c.ops.filter (fun o => !o.abandoned)
        match live.find? (fun o => o.kind == 1 && !o.begun && (live.takeWhile (fun p => p.serial != o.serial)).all (fun p => p.kind == 1)) with
        | some o => ((s.setOp slot { o with begun := true }).beginRead slot o).connStep n slot
        | none =>
          match live with
          | [] => s.connGone slot
          | o :: _ =>
            if o.kind = 0 then
              if o.left ≠ 0 then s
              else if o.ends then ((s.messageDone slot c o.psnEnd o.ackReq).dropOp slot o.serial).connStep n slot
              else (s.dropOp slot o.serial).connStep n slot
            else if o.kind = 2 then
              if o.left ≠ 0 then s
              else
                match o.got.find? 0 with
                | some (d, p) =>
                  if p then
                    let s := s.logRec LogT.net Src.net Cls.minor ([BitVec.ofNat 32 c.qpn] ++ lohi o.addr)
                    ((s.bump Ctr.NET_CNT_POISON).nakError slot c 0x63 o.psn).connStep n slot
                  else
                    let orig : BitVec 64 := BitVec.ofNat 64 d.toNat
                    let c := { c with msn := (c.msn + 1) % psnMod, donePsn := o.psnEnd, ackCount := 0,
                                      res := c.res.map (fun r => match r with
                                        | .atomic q v => if q = o.psn then .atomic q orig else .atomic q v
                                        | r => r) }
                    let s := (s.sendFrameEth (c.frame (.atomicAck c.reqQpn o.psn c.msn orig))).setConn slot c
                    (s.dropOp slot o.serial).connStep n slot
                | none => s
            else
              let s := s.sendReads (readPkts c.mtu o.len + 1) slot o.serial
              match s.conn slot with
              | none => s
              | some c' =>
                match c'.ops.find? (fun p => p.serial == o.serial) with
                | none => s
                | some o' =>
                  if !o'.abandoned && decide (readPkts c'.mtu o'.len ≤ o'.sentPkts) then
                    let fresh := decide ((o'.psnEnd + psnMod - c'.donePsn) % psnMod < 8388608) && o'.psnEnd != c'.donePsn
                    let c' := { c' with msn := if fresh then (c'.msn + 1) % psnMod else c'.msn,
                                        donePsn := if fresh then o'.psnEnd else c'.donePsn, ackCount := if fresh then 0 else c'.ackCount,
                                        res := c'.res.filter (fun r => match r with | .read q _ _ => q != o'.psn | _ => true) }
                    let s := (s.setConn slot c').dropOp slot o'.serial
                    let s := if s.mode.mode == .serve then s.handNew 0x09 [.ckpt (c'.ckpt 0)] else s
                    s.connStep n slot
                  else s

/-- Move a connection on as far as it goes. -/
def State.connRun (s : State) (slot : Nat) : State :=
  match s.conn slot with
  | none => s
  | some c => s.connStep (4 * c.ops.length + 4) slot

/-- A line of an operation has completed: its data for a READ, its original value for an ATOMIC (R357). -/
def State.netLine (s : State) (slot serial idx : Nat) (res : Option (Line × Bool)) : State :=
  match s.conn slot with
  | none => s
  | some c =>
    match c.ops.find? (fun o => o.serial == serial) with
    | none => s
    | some o =>
      let o := { o with left := o.left - 1, got := match res with
        | some r => o.got.insert idx r
        | none => o.got }
      (s.setOp slot o).connRun slot

/-! ## Setup and teardown with the twin gone (R335, R336, R362) -/

/-- The REP goes out: the connection is in RTS (R336). -/
def State.sendRep (s : State) (slot : Nat) (c : Conn) : State :=
  (s.setConn slot { c with rts := true }).sendFrameEth (c.frame (.cmRep c.qpn c.respRes))

/-- Nothing more is waited for of the twin for the end of a connection (R337, R362). -/
def State.endsHere (s : State) (slot : Nat) (c : Conn) : State :=
  let s := s.setConn slot { c with twinWait := false, drepOwed := false }
  (if c.drepOwed then s.sendFrameEth (c.frame (.cmDrep c.reqQpn)) else s).connGone slot

/-- Setups and teardowns that waited for the twin go on without it. -/
def State.connsAlone (s : State) : State :=
  s.net.conns.cells.foldl (fun s c =>
    if c.2.own && !c.2.rts && !c.2.closing then s.sendRep c.1 c.2
    else if c.2.twinWait then s.endsHere c.1 c.2
    else s) s

end Sys2Proof.Machine
end

