-- ==== Sys2Proof/Machine/Engine.lean ====
section
/-!
DEFINITION. Machine/Engine.lean: a tracker entry's way through the request path: waits, hits, home reads, ordering, mirroring, completion
(03_request_path.md, R70 to R92; 04_durability.md, R97 to R104; 07_line_cache.md, R206 to R208; 08_channel_controllers.md, R242, R565).
-/
namespace Sys2Proof.Machine

/-! ## Modes and fences -/

/-- A write the twin forwarded. -/
def Entry.forwarded (e : Entry) : Bool := match e.dst with | .fwd .. => true | _ => false

/-- PRESERVE after the seal (R27). -/
def State.afterSeal (s : State) : Bool := s.mode.mode == .preserve && decide (2 ≤ s.vlt.step)

/-- The mode holds an entry (R27, R28, R117, R561): host requests before hosts are served; in HOLD host requests and forwarded writes; after
the seal of PRESERVE their writes. -/
def State.heldMode (s : State) (e : Entry) : Bool :=
  (e.src < 3 && !s.serving) ||
  ((e.src < 3 || e.forwarded) && (s.mode.mode == .hold || (s.afterSeal && e.op.writes)))

/-- The fence of a region that an entry meets (R42): it arrived after the fence was accepted. -/
def State.fencedFor (s : State) (e : Entry) : Bool :=
  match s.regionOf (extentOf e.line) with
  | none => false
  | some (i, _) => s.addr.fences.any (fun f => f.region == i && decide (f.arr ≤ e.arr)) && (e.src < 3 || e.forwarded)

/-- An earlier write or atomic of the line has not finished at the slice (R70). -/
def State.earlierOp (s : State) (e : Entry) : Bool :=
  s.trk.entries.cells.any (fun c => c.2.line == e.line && decide (c.2.arr < e.arr) && c.2.op.writes && !c.2.applied && !c.2.bad && !c.2.sent)

/-- A region is BOUNDED for a line. -/
def State.boundedLine (s : State) (line : Nat) : Bool :=
  match s.regionOf (extentOf line) with
  | some (_, r) => r.bounded
  | none => false

/-- The local index of a line's region; 65,536 where it lies in none. -/
def State.regionIdx (s : State) (line : Nat) : Nat :=
  match s.regionOf (extentOf line) with
  | some (i, _) => i
  | none => 65536

/-! ## Completion (R81) -/

/-- Answer a read-assist once every line of its message is there (R140, R242). -/
def State.assistDone (s : State) (tag : Nat) : State :=
  let mine := s.trk.entries.cells.filter (fun c => match c.2.dst with | .assist t _ => t == tag | _ => false)
  let left := s.trk.waiting.any (fun w => match w.dst with | .assist t _ => t == tag | _ => false)
  if left || mine.any (fun c => c.2.result.isNone) then s
  else
    let recs := mine.map (fun c => (match c.2.dst with | .assist _ i => i | _ => 0, c.2))
    let ordered := (List.range recs.length).filterMap (fun i => recs.find? (fun r => r.1 == i))
    let msg := ordered.map (fun r => TwRec.line (LineRec.mk r.2.line 0 0 (match r.2.result with
      | some (d, false) => LineBody.full d
      | _ => LineBody.poison)))
    (mine.foldl (fun s c => s.setEntry c.1 { c.2 with sent := true, state := .respond }) s).hand 0x08 tag msg

/-- A read answered with poison is counted, and reported to the LD unless the request itself was bad. -/
def State.poisonRead (s : State) (p k ld line : Nat) (bad : Bool) : State :=
  let s := s.bumpLink p k Ctr.CX_CNT_POISON_RD
  if bad then s else
    match (s.dpasOf line).find? (fun c => c.1 == ld) with
    | some (_, dpa) => s.gmEvent ld dpa 1
    | none => s

/-- Send an entry's completion (R81, R84), with the data of a read or the original value of an atomic. -/
def State.complete (s : State) (id : Nat) (e : Entry) (res : Option (Line × Bool)) : State :=
  let s := if e.op.writes then { s with pair := { s.pair with poisoned := s.pair.poisoned.erase e.line } } else s
  let e := { e with state := .respond, result := res }
  match e.dst with
  | .cxl p k ld tag spec =>
    let s := s.setEntry id { e with sent := true }
    let l := s.link p k
    if spec then s
    else if l.discard.contains id then s.setLink p k { l with discard := l.discard.filter (· != id) }
    else
      let s := if e.op.writes then s.bumpLink p k Ctr.CX_CNT_WR else if e.op == .read then s.bumpLink p k Ctr.CX_CNT_RD else s
      let poison := !e.op.writes && (match res with | some (_, b) => b | none => false)
      let s := if poison then s.poisonRead p k ld e.line e.bad else s
      s.respond p k ld tag (if e.op.writes then none else res.map (·.1)) poison
  | .rdma slot serial idx => (s.setEntry id { e with sent := true }).netLine slot serial idx res
  | .assist tag _ => (s.setEntry id e).assistDone tag
  | .fwd .. => s.setEntry id { e with sent := true }
  | .internal _ | .command _ => s.setEntry id { e with sent := true }

/-- The condition of R81 for an applied write or atomic. -/
def State.mayComplete (s : State) (e : Entry) : Bool :=
  !s.mirrored || (if e.bounded then e.tag.isSome else !e.owed)

/-- Complete an applied write or atomic where R81, the mode and the bow's probe (R111) allow. -/
def State.tryComplete (s : State) (id : Nat) (e : Entry) : State :=
  if s.heldMode e then s.park id e .held
  else if s.pair.probing && s.isBow && e.src < 3 then s
  else if s.mayComplete e then s.complete id e e.result
  else s.park id e .mirror

/-! ## Ordering and mirroring -/

/-- The checkpoint that travels with the last line of an RDMA message (R108). -/
def State.ckptFor (s : State) (e : Entry) : List TwRec :=
  match e.dst with
  | .rdma slot serial idx =>
    match s.conn slot with
    | none => []
    | some c =>
      match c.ops.find? (fun o => o.serial == serial) with
      | none => []
      | some o =>
        if o.ends && idx + 1 == linesSpan o.addr o.len then
          [.ckpt (c.ckpt ((c.ops.takeWhile (fun p => p.serial != serial)).filter (fun p => p.ends) |>.length |> (· + 1)))]
        else []
  | _ => []

/-- The ORDER_ACK of a forwarded message, once all its lines are ordered (R71, R140). -/
def State.orderAck (s : State) (tag : Nat) : State :=
  let mine := s.trk.entries.cells.filter (fun c => match c.2.dst with | .fwd t _ => t == tag | _ => false)
  let left := s.trk.waiting.any (fun w => match w.dst with | .fwd t _ => t == tag | _ => false)
  if left || mine.any (fun c => c.2.ord.isNone) then s
  else
    let recs := mine.map (fun c => (match c.2.dst with | .fwd _ i => i | _ => 0, c.2))
    let ordered := (List.range recs.length).filterMap (fun i => recs.find? (fun r => r.1 == i))
    s.hand 0x02 tag (ordered.map (fun (r : Nat × Entry) => TwRec.line (LineRec.mk r.2.line (r.2.ord.getD 0) 0 (match r.2.op, r.2.result with
      | .write .., _ => LineBody.nodata
      | _, some (_, true) => LineBody.poison
      | _, some (d, false) => LineBody.orig (BitVec.ofNat 64 d.toNat)
      | _, none => LineBody.nodata))))

/-- The oldest data of a region not yet handed over would pass its lag bound less 2 µs (R101). -/
def State.dataLate (s : State) (region : Nat) : Bool :=
  match s.pair.owed.find? (fun o => o.region == region) with
  | none => false
  | some o => decide (((s.addr.regions.find? region).map Region.lagUs).getD 20 * 1000 ≤ s.now - o.since + 2000)

/-- Hand the intent of a BOUNDED write to the link, where a credit is held and the region's intents are not withheld (R101, R103); else
the write waits in MIRROR. -/
def State.tryIntent (s : State) (id : Nat) (e : Entry) (body : LineBody) : State :=
  let r := s.regionIdx e.line
  if s.pair.intentCredit = 0 || s.dataLate r then
    (if e.state == .mirror then s else s.bump Ctr.SYS_CNT_LAG_HOLD).setEntry id { e with state := .mirror, owed := true }
  else
    let rec_ : LineRec := ⟨e.line, e.ord.getD 0, 0, .nodata⟩
    let tag := s.newTag
    let s := s.handNew 0x05 (TwRec.line rec_ :: s.ckptFor e)
    let s := { s with pair := { s.pair with intentCredit := s.pair.intentCredit - 1,
                                            owed := s.pair.owed ++ [OwedData.mk r { rec_ with body := body } s.now] } }
    let e := { e with tag := some tag, owed := true }
    (s.setEntry id e).tryComplete id e

/-- Tell the twin of a write ordered here (R81, R100): a mirror, an intent, or for a forwarded write its mirror and acknowledgement. -/
def State.propagate (s : State) (id : Nat) (e : Entry) (body : LineBody) : State :=
  if !s.together then
    let e := { e with owed := false, tag := none }
    (s.setEntry id e).tryComplete id e
  else if e.forwarded then
    let s := if e.bounded then s else s.handNew 0x03 [TwRec.line (LineRec.mk e.line (e.ord.getD 0) 0 body)]
    let e := { e with owed := false, tag := some 0, state := .respond }
    let s := s.setEntry id e
    match e.dst with
    | .fwd tag _ => (s.orderAck tag).complete id e e.result
    | _ => s
  else if e.bounded then s.tryIntent id e body
  else
    let tag := s.newTag
    let s := s.handNew 0x03 (TwRec.line (LineRec.mk e.line (e.ord.getD 0) 0 body) :: s.ckptFor e)
    let e := { e with tag := some tag, owed := true }
    (s.setEntry id e).tryComplete id e

/-- The class of an entry's allocations: that of its request (R196), or the one a ZERO operation names (R209). -/
def State.classFor (s : State) (e : Entry) : Nat :=
  match e.dst with
  | .internal k => if 16 ≤ k then k - 16 else s.classOf e.src e.line
  | _ => s.classOf e.src e.line

/-- Order and apply a write or an atomic's result here (R71, R81). -/
def State.orderHere (s : State) (id : Nat) (e : Entry) (d : Line) (m : Mask) (poison : Bool) (res : Option (Line × Bool)) : State :=
  match s.applyLine (s.classFor e) e.line d m poison with
  | none => s.park id e .merge
  | some s =>
    let n := s.ordOf e.line + 1
    let s := (s.setOrd e.line n).noteApplied e.line
    let s := if poison then s.poisonWritten 1 7 e.line else s
    let e := { e with ord := some n, applied := true, result := res, bounded := s.boundedLine e.line }
    (s.setEntry id e).propagate id e (bodyOf d m poison)

/-- The atomic has its line: execute it at the slice (R73); a poisoned line is left as it is (R357). -/
def State.atomicHere (s : State) (id : Nat) (e : Entry) (d : Line) (poison : Bool) : State :=
  if poison then
    let e := { e with applied := true, result := some (0, true), owed := false, tag := some 0, ord := some (s.ordOf e.line) }
    let s := s.setEntry id e
    match e.dst with
    | .fwd tag _ => (s.orderAck tag).complete id e e.result
    | _ => s.complete id e e.result
  else
    let (d', orig) := e.op.atomic d
    s.orderHere id e d' Mask.full false (some (BitVec.ofNat 512 orig.toNat, false))

/-- Forward a write or atomic to the owner (R71, R73, R91); in a handover it waits in ORDER (R98). -/
def State.forward (s : State) (id : Nat) (e : Entry) : State :=
  let body := match e.op with
    | .write d m p => bodyOf d m p
    | .cmpSwap w c x => .cmpSwap w c x
    | .fetchAdd w a => .fetchAdd w a
    | .read | .inv => .nodata
  let tag := s.newTag
  let s := s.handNew 0x01 (.line ⟨e.line, 0, 0, body⟩ :: s.ckptFor e)
  (s.setEntry id { e with tag := some tag, owed := true, state := .order, bounded := s.boundedLine e.line }).bump Ctr.FAB_CNT_FWD

/-! ## Reading a line -/

/-- Ask the twin for a line by read-assist. -/
def State.askTwin (s : State) (id : Nat) (e : Entry) : State :=
  let tag := s.newTag
  let s := s.handNew 0x07 [.line ⟨e.line, 0, 0, .nodata⟩]
  let s := { s with pair := { s.pair with assists := s.pair.assists ++ [(tag, [id])] } }
  (s.setSlot e.line (some id)).setEntry id { e with state := .home }

/-- Data for a line has arrived at its slice: a merge entry is overlaid (R77), the line fills the cache unless it is held (R200, R564), the
set's slot is free; the line as it then stands. -/
def State.arrive (s : State) (cls line : Nat) (d : Line) (poison dirty : Bool) : State × Line × Bool :=
  let s := s.setSlot line none
  match s.held line with
  | some (_, w) => (s, w.data, w.p)
  | none =>
    match s.mergeOf line with
    | some m =>
      let d' := m.overlay (if poison then .poison else .data d)
      let s := s.bump Ctr.FAB_CNT_MERGE_RD
      let (s, ok) := s.place cls line d' true false
      let s := s.setMerge line none
      (if ok then s else s.writeHome 5 0 line (s.homeOf line) (s.cellOf line d' false), d', false)
    | none =>
      let (s, ok) := s.place cls line d dirty poison
      (if !ok && dirty then s.writeHome 5 0 line (s.homeOf line) (s.cellOf line d poison) else s, d, poison)

/-- What fetching a line for an entry comes to: its data now, or a wait. -/
inductive Fetch where
  | now (s : State) (d : Line) (poison : Bool)
  | wait (s : State)

/-- A line whose leaf has never been written, or the line of a leaf fill that no request has written yet, reads as zero (R55, R57). -/
def State.readsZero (s : State) (line : Nat) : Bool :=
  !s.valid (leafOf line) && !(s.addr.fills.getD (leafOf line) 0).getLsbD (line % leafLines)

/-- This side waits for the winning copy of the line's extent (R126). -/
def State.losing (s : State) (line : Nat) : Bool := s.pair.resync.find? (extentOf line) == some false

/-- Fetch a line for a read or an atomic: cache, merge entry, never-written leaf, twin, write queue, vault image, home (R77, R126, R206,
R207, R225, R242, R565). -/
def State.fetch (s : State) (id : Nat) (e : Entry) : Fetch :=
  let cls := s.classOf e.src e.line
  match s.held e.line with
  | some (i, w) => .now (s.hit cls e.line i) w.data w.p
  | none =>
    let miss := fun (s : State) => s.bump (Ctr.LC_CNT_MISS cls)
    match (s.lset e.line).slot with
    | some k =>
      if k = id then .wait s
      else if (match s.entry k with | some f => f.line == e.line | none => false) then
        .wait (((miss s).setEntry id { e with state := .home }).bump Ctr.LC_CNT_JOIN)
      else .wait ((if e.state == .lookup then s else s.bump Ctr.LC_CNT_SET_WAIT).park id e .lookup)
    | none =>
      let full := match s.mergeOf e.line with | some m => m.mask == Mask.full | none => false
      if full || s.readsZero e.line then
        let (s, d, p) := (miss s).arrive cls e.line 0 false false
        .now s d p
      else if s.losing e.line then .wait ((miss s).askTwin id e)
      else
        let h := s.homeOf e.line
        if s.stopped h then
          if s.mirrored then .wait ((miss s).askTwin id e)
          else
            match s.queued h with
            | some c =>
              match (s.readCell h.hbm none (some c) e.line (s.keySlotOf e.line) []).1 with
              | .data d => let (s, d, p) := (miss s).arrive cls e.line d false false; .now s d p
              | _ => let (s, d, p) := (miss s).arrive cls e.line 0 true false; .now s d p
            | none =>
              match s.vaultLine e.line with
              | some (.data d) => let (s, d, p) := (miss s).arrive cls e.line d false false; .now s d p
              | some _ => let (s, d, p) := (miss s).arrive cls e.line 0 true false; .now s d p
              | none =>
                if (s.chan (s.instOf h)).state == .retired then .now (miss s) 0 true
                else .wait (s.park id e .residentWait)
        else
          match s.queued h with
          | some c =>
            let s := ((miss s).bumpCh (s.instOf h) Ctr.DC_CNT_FWD).noteMiss e.line h.hbm
            match (s.readCell h.hbm none (some c) e.line (s.keySlotOf e.line) []).1 with
            | .data d => let (s, d, p) := s.arrive cls e.line d false false; .now s d p
            | _ => let (s, d, p) := s.arrive cls e.line 0 true false; .now s d p
          | none =>
            let s := ((miss s).noteMiss e.line h.hbm).setSlot e.line (some id)
            .wait ((s.setEntry id { e with state := .home }).readHome 0 0 e.line h (.entry id))

/-- Try a read. -/
def State.tryRead (s : State) (id : Nat) (e : Entry) : State :=
  if e.state == .home then s
  else if s.heldMode e then s.park id e .held
  else if e.bad then s.complete id e (some (0, true))
  else if s.fencedFor e then s.park id e .residentWait
  else if s.earlierOp e || s.filling (leafOf e.line) then s.park id e .lineWait
  else
    match s.doorbellOf e.line with
    | some k => s.complete id e (some (s.doorbellLine k, false))
    | none =>
      if s.unrestored (leafOf e.line) then (s.onDemand (leafOf e.line)).park id e .residentWait
      else if s.atCursor e.line then s.park id e .residentWait
      else
        match s.fetch id e with
        | .now s d p => s.complete id e (some (d, p))
        | .wait s => s

/-- Try a read-assist the twin asked for (R104, R117, R189, R242, R565): it bypasses the cache on a miss, through P-TW. -/
def State.tryAssist (s : State) (id : Nat) (e : Entry) : State :=
  if e.state == .home || e.result.isSome then s
  else if s.pair.intents.any (fun c => c.1 == e.line) then s.complete id e (some (0, true))
  else if s.earlierOp e || s.filling (leafOf e.line) then s.park id e .lineWait
  else if s.unrestored (leafOf e.line) then (s.onDemand (leafOf e.line)).park id e .residentWait
  else
    match s.held e.line with
    | some (_, w) => s.complete id e (some (w.data, w.p))
    | none =>
      if (s.mergeOf e.line).isSome || s.readsZero e.line then
        match s.fetch id e with
        | .now s d p => s.complete id e (some (d, p))
        | .wait s => s
      else if s.stopped (s.homeOf e.line) then s.complete id e (some (0, true))
      else if s.atCursor e.line then s.park id e .residentWait
      else
        let h := s.homeOf e.line
        match s.queued h with
        | some c =>
          match (s.readCell h.hbm none (some c) e.line (s.keySlotOf e.line) []).1 with
          | .data d => s.complete id e (some (d, false))
          | _ => s.complete id e (some (0, true))
        | none => (s.setEntry id { e with state := .home }).readHome 4 0 e.line h (.entry id)

/-- The intent of a BOUNDED write that was ordered while the twin was away is sent once both are together. -/
def State.lateIntent (s : State) (id : Nat) (e : Entry) : State :=
  match e.op with
  | .write d m p => s.tryIntent id e (bodyOf d m p)
  | _ =>
    match s.held e.line with
    | some (_, w) => s.tryIntent id e (.full w.data)
    | none => s.tryIntent id e .nodata

/-- A write or an atomic to a doorbell line acts on the doorbell (R181). -/
def State.ringDoorbell (s : State) (id : Nat) (e : Entry) (k : Nat) : State :=
  match e.op with
  | .write d m _ => (s.doorbellWrite k d m).complete id { e with applied := true } none
  | op =>
    let (s, v) := s.doorbellAtomic k op
    s.complete id { e with applied := true } (some (BitVec.ofNat 512 v.toNat, false))

/-- A write or an atomic that nothing holds back is ordered here, or forwarded to the owner (R63, R97). -/
def State.placeWrite (s : State) (id : Nat) (e : Entry) : State :=
  if s.unrestored (leafOf e.line) then (s.onDemand (leafOf e.line)).park id e .residentWait
  else if s.atCursor e.line then s.park id e .residentWait
  else if s.pair.handover.has (extentOf e.line) then s.park id e .order
  else if !s.owns (extentOf e.line) then s.forward id e
  else if s.windowFull (leafOf e.line) then
    (if e.state == .residentWait then s else s.bump Ctr.VLT_CNT_THROTTLE).park id e .residentWait
  else
    match e.op with
    | .write d m p =>
      if (m == Mask.full || p) && (s.held e.line).isNone && (s.mergeOf e.line).isNone && (s.lset e.line).slot.isSome then
        (if e.state == .lookup then s else s.bump Ctr.LC_CNT_SET_WAIT).park id e .lookup
      else s.orderHere id e d m p none
    | _ =>
      match s.fetch id e with
      | .now s d p => s.atomicHere id e d p
      | .wait s => s

/-- Try a write or an atomic. -/
def State.tryWrite (s : State) (id : Nat) (e : Entry) : State :=
  if e.applied then
    (if e.bounded && e.tag.isNone && s.together && !e.forwarded then s.lateIntent id e else s.tryComplete id e)
  else if e.state == .home || e.tag.isSome then s
  else if s.heldMode e then s.park id e .held
  else if e.bad then s.complete id e none
  else if s.fencedFor e then s.park id e .residentWait
  else if s.earlierOp e then s.park id e .lineWait
  else
    match s.doorbellOf e.line with
    | some k => s.ringDoorbell id e k
    | none => s.placeWrite id e

/-- Try a MemInv: it is answered once the line's earlier writes from its link have completed (R372). -/
def State.tryInv (s : State) (id : Nat) (e : Entry) : State :=
  let mine : Dst → Bool := fun d => match d, e.dst with
    | .cxl p k _ _ _, .cxl p' k' _ _ _ => p == p' && k == k'
    | _, _ => false
  if s.heldMode e then s.park id e .held
  else if s.trk.entries.cells.any (fun c => c.2.line == e.line && decide (c.2.arr < e.arr) && c.2.op.writes && !c.2.sent && mine c.2.dst)
    then s.park id e .lineWait
  else s.complete id e none

/-- Try an entry. -/
def State.tryEntry (s : State) (id : Nat) : State :=
  match s.entry id with
  | none => s
  | some e =>
    if e.sent then s
    else
      match e.op, e.dst with
      | .inv, _ => s.tryInv id e
      | .read, .cxl _ _ _ _ true => s.complete id e none
      | .read, .assist .. => s.tryAssist id e
      | .read, .internal _ => s
      | .read, _ => s.tryRead id e
      | _, _ => s.tryWrite id e

/-- The entries in the order of arrival (R70). -/
def State.byArrival (s : State) : List Nat :=
  (s.trk.entries.cells.foldl (fun l c =>
    let (a, b) := l.span (fun x => decide (x.1 < c.2.arr))
    a ++ (c.2.arr, c.1) :: b) []).map (·.2)

/-- Try every entry, in the order of arrival, `n` times. -/
def State.pumpN : Nat → State → State
  | 0, s => s
  | n + 1, s => pumpN n (s.byArrival.foldl State.tryEntry s)

/-- Let every entry that can go on go on. -/
def State.pump (s : State) : State := s.pumpN (s.trk.entries.size + s.trk.waiting.length + 1)

/-- A request comes: it is granted an entry and goes as far as it can, or is held back (R63, R64, R69). -/
def State.submit (s : State) (w : Waiting) : State :=
  match s.request w with
  | (s, some id) => s.tryEntry id
  | (s, none) => s

/-- Data for a line has come from a home, the twin or the vault: every entry that waits for it is served, in the order of the grants (R188,
R190, R207, R564). -/
def State.deliver (s : State) (line : Nat) (d : Line) (poison dirty : Bool) : State :=
  let ids := s.byArrival.filter (fun id => match s.entry id with
    | some e => e.line == line && e.state == .home && !e.sent && (match e.dst with | .assist .. => false | _ => true)
    | none => false)
  let cls := match ids.head? with
    | some id => match s.entry id with
      | some e => s.classOf e.src line
      | none => 6
    | none => 6
  let (s, d, poison) := s.arrive cls line d poison dirty
  ids.foldl (fun s id => match s.entry id with
    | some e =>
      match e.op with
      | .read => s.complete id e (some (d, poison))
      | .write .. => s
      | _ => s.atomicHere id { e with state := .lookup } d poison
    | none => s) s

end Sys2Proof.Machine
end

