-- ==== Sys2Proof/Machine/Refetch.lean ====
section
/-!
DEFINITION. Machine/Refetch.lean: the merged refetch (06_tiers.md, R188 to R190), home reads and writes as they end (08_channel_controllers.md,
R226, R240 to R242; 09_codes.md, R253 to R260, R269 to R277).
-/
namespace Sys2Proof.Machine

/-- The source a refetch stands at, or none. -/
def State.setRefetch (s : State) (line : Nat) (o : Option Nat) : State :=
  { s with tier := { s.tier with refetch := match o with
      | none => s.tier.refetch.erase line
      | some n => s.tier.refetch.insert line n } }

/-- The next source after the twin: the own vault image, or the freeze handling (R188). -/
def State.refetchLocal (s : State) (line : Nat) : State :=
  s.setRefetch line (some (if s.windowHas (leafOf line) then 2 else 1))

/-- Start a merged refetch of a line, unless one runs (R188). -/
def State.refetchStart (s : State) (line : Nat) : State :=
  if s.tier.refetch.has line then s
  else if s.mirrored then
    let tag := s.newTag
    let s := s.handNew 0x07 [TwRec.line (LineRec.mk line 0 0 LineBody.nodata)]
    { s.setRefetch line (some 0) with pair := { s.pair with refetches := s.pair.refetches ++ [(tag, line)] } }
  else s.refetchLocal line

/-- Entries that wait for a line. -/
def State.waitersOf (s : State) (line : Nat) : Nat :=
  (s.trk.entries.cells.filter (fun c => c.2.line == line && !c.2.sent && c.2.state == .home)).length

/-- A RETIRE_LINE that waits for the refetch of its line: the spare line receives its outcome (R243). -/
def State.spareOutcome (s : State) (line : Nat) (c : Cell) : State :=
  let h := s.homeOf line
  let ch := s.chan (s.instOf h)
  if ch.retireWait == some line then
    (s.setChan (s.instOf h) { ch with retireWait := none }).writeHome 5 0 line h c
  else s

/-- A move that waits at its cursor for the line goes on (R169). -/
def State.refetchMoves (s : State) (line : Nat) : State :=
  { s with tier := { s.tier with moves := s.tier.moves.map (fun m =>
      if m.extent = extentOf line ∧ m.cursor = line % extentLines then { m with refetch := false, reading := false } else m) } }

/-- A refetch found a good copy (R190): it fills the cache as a dirty line and the waiters are released. -/
def State.refetchGood (s : State) (line : Nat) (d : Line) : State :=
  let s := (((s.setRefetch line none).bump Ctr.TM_CNT_MERGE_REFETCH).deliver line d false true).refetchMoves line
  s.spareOutcome line (s.cellOf line d false)

/-- No source gave a good copy (R190, R256): the waiters receive poison, the marker is written, a record names the line. -/
def State.refetchPoison (s : State) (line : Nat) : State :=
  let rid := match s.regionOf (extentOf line) with | some (_, r) => r.id | none => 0
  let s := (s.setRefetch line none).logRec LogT.faultEvent Src.ec Cls.major
    (lohi (64 * line) ++ [BitVec.ofNat 32 rid, BitVec.ofNat 32 (s.waitersOf line)])
  let s := ((s.bump Ctr.TM_CNT_MERGE_POISON).poisonWritten 7 2 line)
  let s := (s.deliver line 0 true true).refetchMoves line
  s.spareOutcome line .poison

/-- The twin answered a refetch (R188, R189). -/
def State.refetchTwin (s : State) (line : Nat) (good : Option Line) : State :=
  if s.tier.refetch.find? line ≠ some 0 then s else
  match good with
  | some d => s.refetchGood line d
  | none => if s.windowHas (leafOf line) then s.refetchPoison line else s.setRefetch line (some 1)

/-- MERGED_REFETCH_DONE (R190): a refetch from the vault ends, `bad` 0 where the newest record reads well; or the freeze handling gave
nothing. -/
def execMergedRefetchDone (line bad : Nat) (s : State) : Ans :=
  .next (match s.tier.refetch.find? line with
    | some 1 =>
      match (if bad = 0 then s.vaultLine line else none) with
      | some (.data d) => (s.refetchGood line d).pump
      | _ => if s.mirrored then (s.refetchPoison line).pump else s.setRefetch line (some 2)
    | some 2 => (s.refetchPoison line).pump
    | _ => s)

/-! ## Reads of a stopped channel -/

/-- A read of a frozen instance goes back to the lookup; a read-assist and a refetched line keep their slot. -/
def State.redirectRead (s : State) (m : Nat × Nat) : State :=
  match s.entry m.1 with
  | some e => match e.dst with
    | .assist .. => s.setEntry m.1 { e with state := .lookup }
    | _ => if s.tier.refetch.has e.line then s else (s.setSlot e.line none).setEntry m.1 { e with state := .lookup }
  | none => s

/-- The demand reads queued at a channel that stops are handled anew, by R242 or R565. -/
def State.redirectReads (s : State) (inst : Nat) : State :=
  let c := s.chan inst
  let mine := (c.rq ++ c.held).filterMap (fun r => match r.rd with | some (.entry id) => if r.port = 0 ∨ r.port = 4 then some (id, r.id) else none | _ => none)
  let s := s.setChan inst { c with rq := c.rq.filter (fun r => !mine.any (fun m => m.2 == r.id)),
                                   held := c.held.filter (fun r => !mine.any (fun m => m.2 == r.id)) }
  let s := mine.foldl State.redirectRead s
  mine.foldl (fun s m => s.tryEntry m.1) s

/-- An uncorrectable read (R240, R188): the record, the freeze, the refetch of its line, and the channel's other demand reads. -/
def State.uncorrectable (s : State) (h : Home) (line port : Nat) : State :=
  let s := (s.noteUncorrectable h line port).refetchStart line
  s.redirectReads (s.dramOf h).inst

/-! ## Reads and writes end -/

/-- Held requests of a channel enter its queues; drain mode follows (R224, R228). -/
def State.settle (s : State) (inst : Nat) : State :=
  let c := s.chan inst
  let c := enterHeld c.held.length c
  s.setDrain inst c

/-- A scrub read has returned (R276, R277). -/
def State.scrubReturn (s : State) (id : Nat) (e : Entry) (h : Home) (r : ReadRes) (corr : List (Nat × Nat)) : State :=
  let s := s.setEntry id { e with sent := true, state := .respond }
  let rewritten := match s.ec.scrubbing with
    | some (_, k, b) => k == id && b
    | none => false
  let s := { s with ec := { s.ec with scrubbing := none } }
  match r with
  | .poison => s.bump Ctr.EC_CNT_POISON_RD
  | .uncorrectable => if 2 ^ 38 ≤ e.line then s.noteUncorrectable h e.line 5 else s.uncorrectable h e.line 5
  | .data d =>
    if corr.isEmpty then s
    else if rewritten || (s.chan (s.dramOf h).inst).wq.any (fun w => w.home == h) then s.bump Ctr.EC_CNT_SCRUB_DROP
    else (s.toChannel (s.dramOf h).inst 5 h e.line 0 none (some (s.cellOf e.line d false))).bump Ctr.EC_CNT_SCRUB_FIX

/-- A read of a home line has returned to the entry that asked. -/
def State.readReturn (s : State) (id port : Nat) (h : Home) (errs : List (Nat × Nat)) : State :=
  match s.entry id with
  | none => s
  | some e =>
    let c := s.cell h
    let (r, corr) := s.readCell h.hbm (s.markOf h) c e.line (s.keySlotOf e.line) errs
    let s := if c.isNone then s.freed else s
    let s := s.noteCorrected h e.line port corr
    match e.dst with
    | .internal 0 => s.scrubReturn id e h r corr
    | .assist .. =>
      match r with
      | .data d => s.complete id e (some (d, false))
      | .poison => (s.bump Ctr.EC_CNT_POISON_RD).complete id e (some (0, true))
      | .uncorrectable => (s.noteUncorrectable h e.line port).complete id e (some (0, true))
    | _ =>
      match r with
      | .data d => s.deliver e.line d false false
      | .poison => (s.bump Ctr.EC_CNT_POISON_RD).deliver e.line 0 true false
      | .uncorrectable => s.uncorrectable h e.line port

/-- HOME_READ_RETURN (R226): an issued read of an active channel returns with these symbol errors. -/
def execHomeReadReturn (inst req : Nat) (errs : List (Nat × BitVec 16)) (s : State) : Ans :=
  .next (
    let c := s.chan inst
    match c.rq.find? (fun r => r.id == req && r.issued) with
    | none => s
    | some r =>
      if c.state != .active then s else
      let s := (s.setChan inst { c with rq := c.rq.filter (fun q => q.id != req) }).settle inst
      match r.rd with
      | some (.entry id) => (s.readReturn id r.port r.home (errWord errs)).pump
      | _ => s)

/-- WRITE_QUEUE_RETIRE (R226): an issued write of a channel leaves its queue; the line is in DRAM. -/
def execWriteQueueRetire (inst req : Nat) (s : State) : Ans :=
  .next (
    let c := s.chan inst
    match c.wq.find? (fun r => r.id == req && r.issued) with
    | none => s
    | some r =>
      if c.state != .active then s else
      let s := (s.setChan inst { c with wq := c.wq.filter (fun q => q.id != req) }).settle inst
      (match r.wr with
        | some w => s.setCell r.home w
        | none => s).pump)

/-- MERGE_ENTRY_TIMEOUT (R76, R269 to R272): the oldest byte of a merge-buffer entry has waited 2 µs, or its channel holds more than 56
entries and it is the oldest: a full entry is written directly, a partial one by a read-modify-write through P-MT, whose read returns
with these symbol errors. -/
def execMergeEntryTimeout (line : Nat) (errs : List (Nat × BitVec 16)) (s : State) : Ans :=
  .next (match s.mergeOf line with
    | none => s
    | some m =>
      let h := s.homeOf line
      let pressure := 56 < s.mergeCount m.inst
      let why := if pressure then Ctr.EC_CNT_MERGE_PRESSURE else Ctr.EC_CNT_MERGE_TIMEOUT
      if s.atCursor line || s.stopped h then s
      else if m.mask = Mask.full then (s.mergeFlushFull line m).pump
      else
        let level := if s.trk.entries.cells.any (fun c => c.2.state == .merge) then 3 else 0
        let r' := s.remapOf h
        let s := (s.bump why).bump Ctr.EC_CNT_RMW
        let (r, corr) :=
          if s.readsZero line then (ReadRes.data 0, [])
          else match s.queued h with
            | some c => s.readCell h.hbm none (some c) line (s.keySlotOf line) []
            | none => s.readCell h.hbm (s.markOf r') (s.cell r') line (s.keySlotOf line) (errWord errs)
        let s := (if !s.readsZero line && (s.homeCell h).isNone then s.freed else s).noteCorrected r' line 5 corr
        match r with
        | .uncorrectable => (s.uncorrectable r' line 5).pump
        | r => ((s.setMerge line none).writeHome 5 level line h (s.cellOf line (m.overlay r) false)).pump)

end Sys2Proof.Machine
end

