-- ==== Sys2Proof/Machine/MbxBase.lean ====
section
/-!
DEFINITION. Machine/MbxBase.lean: mailboxes: which command a mailbox takes, completions, C and background commands, replication to the twin
(14_control.md, R420 to R427; 02_address_space.md, R36; 12_cxl_ports.md, R369).
-/
namespace Sys2Proof.Machine

/-! ## Payloads -/

/-- Word `i` of a payload; 0 past its end. -/
def wordAt (p : List Word) (i : Nat) : Word := p.getD i 0

/-- The 64-bit value at word `i` of a payload. -/
def wide (p : List Word) (i : Nat) : Nat := (wordAt p i).toNat + (wordAt p (i + 1)).toNat * 2 ^ 32

/-- A word of a number. -/
abbrev w32 (n : Nat) : Word := BitVec.ofNat 32 n

/-- Four bytes as a word, lowest first. -/
def bytesWord (a b c d : Nat) : Word := w32 (a % 256 + b % 256 * 2 ^ 8 + c % 256 * 2 ^ 16 + d % 256 * 2 ^ 24)

/-- The header of a list output (R436 and after): entries that follow, FIRST of the next request. -/
def listHeader (n : Nat) (next : Option Nat) : List Word := [w32 n, w32 (next.getD (2 ^ 32 - 1))]

/-- A list output: the entries from those listed by rising index that fit in 256 KiB, each of `size` bytes; the next request's FIRST is the
index of the first that does not fit. -/
def listOut (size : Nat) (ents : List (Nat × List Word)) : List Word :=
  let cap := (262144 - 8) / size
  let shown := ents.take cap
  listHeader shown.length ((ents.drop cap).head?.map (·.1)) ++ shown.flatMap (·.2)

/-! ## Return codes (R425) -/

/-- A return code, its extended status and the output. -/
structure Reply where
  rc : Nat
  ext : Nat
  out : List Word
  deriving DecidableEq, Repr

/-- Success with an output. -/
def Reply.ok (out : List Word) : Reply := ⟨0, 0, out⟩
/-- Invalid Input. -/
def Reply.invalid : Reply := ⟨2, 0, []⟩
/-- Invalid Input with a cause. -/
def Reply.cause (n : Nat) : Reply := ⟨2, n, []⟩
/-- Invalid Input with MODE. -/
def Reply.mode : Reply := ⟨2, 7, []⟩
/-- Unsupported. -/
def Reply.unsupported : Reply := ⟨3, 0, []⟩
/-- Unsupported with NOT_PRIVILEGED. -/
def Reply.notPrivileged : Reply := ⟨3, 3, []⟩
/-- Resources Exhausted. -/
def Reply.exhausted : Reply := ⟨4, 1, []⟩
/-- Activation reverted. -/
def Reply.reverted : Reply := ⟨4, 6, []⟩
/-- Busy. -/
def Reply.busy : Reply := ⟨6, 0, []⟩
/-- Media Failure. -/
def Reply.media : Reply := ⟨16, 2, []⟩
/-- Aborted. -/
def Reply.aborted : Reply := ⟨17, 0, []⟩
/-- Invalid Payload Length. -/
def Reply.badLength : Reply := ⟨21, 0, []⟩

/-- What a command's body comes to: an answer now, or a completion later under its tag. -/
inductive CmdRes where
  | now (r : Reply)
  | later
  deriving DecidableEq, Repr

/-! ## Functions and mailboxes -/

/-- A function exists and its link is up: its mailboxes can be reached. -/
def State.fnUp (s : State) (fn : Nat) : Bool :=
  let (p, k) := s.linkOf fn
  decide (p < 2) && (s.linkFuncs p k).contains fn && (s.link p k).state == .l0 && (s.port p).hasLink k

/-- A mailbox is privileged (R369). -/
def State.privileged (s : State) (m : Mbx) : Bool := !m.secondary && s.fnPrivileged m.fn

/-- The LD number whose windows a function's commands act on; none for the FM-owned LDs. -/
def Mbx.ld (m : Mbx) : Option Nat := if m.fn < 32 then some m.fn else none

/-- SYS_MODE.STATE allows the command (R28, R561): `status` is a mode or status command. -/
def State.modeAllows (s : State) (priv status : Bool) : Bool :=
  match s.mode.mode with
  | .standby => false
  | .preserve => priv && status
  | .hold => priv
  | .restore => s.mode.bringup == .served || (priv && status)
  | .serve | .solo => true

/-- Send a completion (R420, R425): the mailbox's interrupt goes with it. -/
def State.answer (s : State) (m : Mbx) (op : Nat) (r : Reply) : State :=
  let s := s.bump Ctr.MBX_CNT_CMD
  let s := if r.rc = 6 then s.bump Ctr.MBX_CNT_BUSY else s
  let s := if r.rc = 3 ∧ r.ext = 3 then s.bump Ctr.MBX_CNT_NOPRIV else s
  (s.emit (.mbx m op r.rc r.ext r.out)).emit (.msix m.fn (if m.secondary then 1 else 0))

/-- A foreground command is on the mailbox: its doorbell is set (R421). -/
def State.doorbellSet (s : State) (m : Mbx) : Bool :=
  s.cmd.jobs.any (fun j => j.mbx.fn == m.fn && j.mbx.secondary == m.secondary && !j.background)

/-- A background command runs on the mailbox (R421). -/
def State.inBackground (s : State) (m : Mbx) : Bool :=
  s.cmd.jobs.any (fun j => j.mbx.fn == m.fn && j.mbx.secondary == m.secondary && j.background)

/-- A C command runs here, ours or the twin's (R422, R423): MBX_STATUS.BUSY. -/
def State.cfgRuns (s : State) : Bool := s.cmd.jobs.any (fun j => j.cfg && j.done.isNone) || s.cmd.remote.isSome

/-- What the index says of a command (R426, R427). -/
structure CmdSpec where
  opcode : Nat
  /-- An unprivileged mailbox accepts it, perhaps within limits its definition states. -/
  ld : Bool
  /-- C: a configuration change (R422). -/
  cfg : Bool
  /-- P: replicated (R423). -/
  rep : Bool
  /-- A mode or status command: MODE_STATUS, MODE_REQUEST and the *_STATUS commands (DEDUCED). -/
  status : Bool
  deriving DecidableEq, Repr

/-- A command that only reads, for any mailbox. -/
def CmdSpec.read (op : Nat) : CmdSpec := ⟨op, true, false, false, false⟩

/-- The tag of the next command (R411): its number, and which of the twins it came to, so that carried commands of the two never share one. -/
def State.tagNow (s : State) : Nat := 2 * s.cmd.nextTag + s.ctrlId % 2

/-- Open a job for a command. -/
def State.openJob (s : State) (m : Mbx) (c : CmdSpec) (background : Bool) : State :=
  { s with cmd := { s.cmd with
      jobs := s.cmd.jobs ++ [⟨m, c.opcode, s.tagNow, c.cfg, background, false, false, none⟩],
      nextTag := s.cmd.nextTag + 1 } }

/-- Change the job with a tag. -/
def State.setJob (s : State) (tag : Nat) (f : Job → Job) : State :=
  { s with cmd := { s.cmd with jobs := s.cmd.jobs.map (fun j => if j.tag = tag then f j else j) } }

/-- The command is past its commit point (R424). -/
def State.commitJob (s : State) (tag : Nat) : State := s.setJob tag (fun j => { j with committed := true })

/-- A completion that reaches no one is recorded (R424): opcode, tag, return code. -/
def State.lostCompletion (s : State) (op tag rc : Nat) : State :=
  (s.bump Ctr.MBX_CNT_RESET_LOST).logRec LogT.command Src.cox Cls.info [w32 op, w32 tag, w32 rc]

/-- A command with a tag completes: at once in the foreground; a background one when BACKGROUND_COMMAND_DONE reports it. -/
def State.finish (s : State) (tag : Nat) (r : Reply) : State :=
  match s.cmd.jobs.find? (fun j => j.tag == tag && j.done.isNone) with
  | none => s
  | some j =>
    let rest := s.cmd.jobs.filter (fun k => k.tag != tag)
    if j.discard then { s with cmd := { s.cmd with jobs := rest } }.lostCompletion j.opcode j.tag r.rc
    else if j.background then s.setJob tag (fun k => { k with done := some (r.rc, r.ext, r.out) })
    else { s with cmd := { s.cmd with jobs := rest } }.answer j.mbx j.opcode r

/-- Run a command's body under its tag, with a job that stays open until it completes. -/
def State.runJob (s : State) (m : Mbx) (c : CmdSpec) (background : Bool) (body : Nat → State → State × CmdRes) : State :=
  let tag := s.tagNow
  let s := s.openJob m c background
  let s := if background then (s.emit (.mbx m c.opcode 1 0 [])) else s
  match body tag s with
  | (s, .now r) => s.finish tag r
  | (s, .later) => s

/-- The checks of a command before its body (R28, R369, R420 to R422, R427); `lenOk` that its length is the defined one; `background` whether it
runs in the background. -/
def State.command (s : State) (m : Mbx) (c : CmdSpec) (lenOk background : Bool) (body : Nat → State → State × CmdRes) : State :=
  if !s.pwr.core || s.mode.mode == .standby || !s.fnUp m.fn || s.doorbellSet m then s
  else if !s.privileged m && !c.ld then s.answer m c.opcode .notPrivileged
  else if !lenOk then s.answer m c.opcode .badLength
  else if !s.modeAllows (s.privileged m) c.status then s.answer m c.opcode .mode
  else if background && s.inBackground m then s.answer m c.opcode .busy
  else if c.cfg && s.cfgRuns then s.answer m c.opcode .busy
  else s.runJob m c background body

/-- A command that answers at once. -/
def State.simple (s : State) (m : Mbx) (c : CmdSpec) (lenOk : Bool) (body : State → State × Reply) : State :=
  s.command m c lenOk false (fun _ s => let (s, r) := body s; (s, .now r))

/-- A status command: it changes nothing. -/
def State.query (s : State) (m : Mbx) (c : CmdSpec) (lenOk : Bool) (body : State → Reply) : State :=
  s.simple m c lenOk (fun s => (s, body s))

/-! ## Replication (R36, R423) -/

/-- A P command goes to the twin: SERVE with a path up. -/
def State.replicates (s : State) : Bool := s.mode.mode == .serve && s.linkUp

/-- CONTROL messages. -/
def State.control (s : State) (c : CtlMsg) : State := s.hand 0x0E 0 [.control c]

/-- The key pair a P command carries with it: that of the slot a KEYSLOT command filled. -/
def State.carriedKey (s : State) (op : Nat) (inp : List Word) : Option (BitVec 512) :=
  if op = 0xC910 ∨ op = 0xC911 then (s.cmd.keys.find? ((wordAt inp 0).field 11 0)).map (·.key) else none

/-- The LD of an unprivileged mailbox; none for a privileged one. -/
def State.limitedTo (s : State) (m : Mbx) : Option Nat := if s.privileged m then none else some m.fn

/-- A P command of the bow that the stroke has ended is answered to the bow; one of our own to its mailbox; one of the stroke's is
acknowledged. -/
def State.replEnd (s : State) (r : Repl) : State :=
  match r.role with
  | .own | .carried => s.finish r.tag ⟨r.answer.1, r.answer.2.1, r.answer.2.2⟩
  | .bows => { s with cmd := { s.cmd with remote := none } }.control (.answer r.tag r.answer.1 r.answer.2.1 r.answer.2.2)
  | .applied => s.control (.ran r.tag)

/-- Nothing of the command is left to do here: no fence, revocation or attribute change of its tag. -/
def State.replLocal (s : State) (tag : Nat) : Bool :=
  !s.addr.fences.any (fun f => f.tag == tag && !f.localDone) && !s.net.revs.any (fun r => r.tag == tag) &&
  !s.pair.attrWait.any (fun a => a.1 == tag)

/-- Complete a P command once both sides have applied it (R36, R362, R423): its fence ends, and the requests it held go on (R42). -/
def State.replTry (s : State) (tag : Nat) : State :=
  match s.cmd.repl.find? (fun r => r.tag == tag && r.role != .carried) with
  | none => s
  | some r =>
    if r.twinDone && s.replLocal tag then
      let fenced := s.addr.fences.any (fun f => f.tag == tag)
      let s := { s with cmd := { s.cmd with repl := s.cmd.repl.filter (fun (q : Repl) => q.tag != tag || q.role == ReplRole.carried) },
                        addr := { s.addr with fences := s.addr.fences.filter (fun f => f.tag != tag) } }
      let s := s.replEnd r
      if fenced then s.pump else s
    else s

/-- Run a P command's body here, whosever it is (R423): on an error it ends at once; else it waits for both sides. `out` is what the stroke
sends the bow. -/
def State.replRun (s : State) (tag op : Nat) (ld : Option Nat) (inp : List Word) (role : ReplRole)
    (body : Nat → State → State × Reply) : State :=
  let (s, r) := body tag s
  let e : Repl := ⟨tag, op, role, role == .applied || !s.replicates || r.rc != 0, (r.rc, r.ext, r.out)⟩
  let s := if role == .own && r.rc = 0 then s.commitJob tag else s
  let s := { s with cmd := { s.cmd with repl := s.cmd.repl ++ [e] } }
  let s := if role == .own && r.rc = 0 && !s.replicates && s.pair.record.isSome then
      { s with cmd := { s.cmd with replay := s.cmd.replay ++ [(op, ld, inp, r.out, s.carriedKey op inp)] } }
    else s
  let s := if e.twinDone then s else s.control (.run tag op ld inp r.out (s.carriedKey op inp))
  s.replTry tag

/-- A P command (R423): outside SERVE, or on the stroke, it runs here; the bow carries it to the stroke. -/
def State.pCommand (s : State) (m : Mbx) (c : CmdSpec) (lenOk background : Bool) (inp : List Word)
    (body : Option Nat → Nat → State → State × Reply) : State :=
  s.command m c lenOk background (fun tag s =>
    let ld := s.limitedTo m
    if s.replicates && s.isBow then
      (({ s with cmd := { s.cmd with repl := s.cmd.repl ++ [Repl.mk tag c.opcode .carried false (0, 0, [])] } }).control
        (.request tag c.opcode ld inp), .later)
    else (s.replRun tag c.opcode ld inp .own (body ld), .later))

end Sys2Proof.Machine
end

