-- ==== Sys2Proof/Machine/AonView.lean ====
section
/-!
DEFINITION. Machine/AonView.lean: the live values of always-on registers, the copies the core reads (15_registers.md, R462; 01_architecture.md,
R20), the preserve need and the window cap (10_vault.md, R306; 17_power.md, R516, R517, R520).
-/
namespace Sys2Proof.Machine

/-- A word put together from fields: high bit, low bit, value. -/
def fields (l : List (Fld × Nat)) : Word :=
  BitVec.ofNat 32 (l.foldl (fun n f => n + f.2 % 2 ^ (f.1.hi + 1 - f.1.lo) * 2 ^ f.1.lo) 0)

/-- A truth value as a bit. -/
def bit (b : Bool) : Nat := if b then 1 else 0

/-! ## Preserve need -/

/-- WB_GBPS, 1 to 80. -/
def State.wbGbps (s : State) : Nat := s.fldIn Reg.VLT_WINDOW Fld.VLT_WINDOW_WB_GBPS 1 80

/-- Preserve time in ms for a window of so many leaves (R306): the leaves' bytes at WB_GBPS, and 60 ms. -/
def State.preserveMs (s : State) (leaves : Nat) : Nat := ceilDiv (leaves * 4096) (s.wbGbps * 1000000) + 60

/-- VLT_NEED.NEED_MS (R306). -/
def State.needMs (s : State) : Nat := min 65535 (s.preserveMs s.windowLeaves)

/-- PRES_W, 100 to 2,000. -/
def State.presW (s : State) : Nat := s.fldIn Reg.PWR_BANK Fld.PWR_BANK_PRES_W 100 2000

/-- RESERVE_J. -/
def State.reserveJ (s : State) : Nat := s.fld Reg.PWR_BANK Fld.PWR_BANK_RESERVE_J

/-- Energy in J for a preserve time (R516), rounded up (DESIGN CHOICE). -/
def State.energy (s : State) (ms : Nat) : Nat := min 65535 (ceilDiv (ms * s.presW) 1000 + s.reserveJ)

/-- The energy of the bank as it counts: 0 before the first reading and once the reading is stale (R398, R515). -/
def State.bankJ (s : State) : Nat :=
  match s.pwr.bank with
  | some (e, _) => if s.pwr.bankStale then 0 else e
  | none => 0

/-- CAP_GIB of a reading (R520): ⌊((E − RESERVE_J) ÷ PRES_W − 0.060 s) × WB_GBPS ÷ 1.0737⌋, at least 0. -/
def State.capOf (s : State) (e : Nat) : Nat :=
  let num := 1000 * (e - s.reserveJ)
  let sub := 60 * s.presW
  (num - sub) * s.wbGbps * 10000 / (s.presW * 1000 * 10737)

/-! ## Views -/

/-- LAZY: a leaf of the served range is unrestored (SYS_MODE). -/
def State.lazyLeft (s : State) : Bool :=
  s.mode.mode == .restore && (s.mode.bringup != .served || s.vlt.unrestored.size != 0)

/-- HELD: writes are held (SYS_MODE). -/
def State.held? (s : State) : Bool := s.afterSeal || s.mode.mode == .hold

/-- SYS_MODE. -/
def State.sysMode (s : State) : Word :=
  fields [(Fld.SYS_MODE_COUNT, s.mode.count), (Fld.SYS_MODE_REASON, s.mode.reason), (Fld.SYS_MODE_HELD, bit s.held?),
    (Fld.SYS_MODE_LAZY, bit s.lazyLeft), (Fld.SYS_MODE_RESYNC, bit s.pair.resyncing), (Fld.SYS_MODE_TRANSIT, bit s.mode.transit),
    (Fld.SYS_MODE_STATE, s.mode.mode.code)]

/-- A register's stored word with live fields set. -/
def State.withFields (s : State) (a : Nat) (l : List (Fld × Nat)) : Word :=
  l.foldl (fun (w : Word) f => w.setField f.1.hi f.1.lo f.2) (s.reg a)

/-- SYS_PAIR. -/
def State.sysPair (s : State) : Word :=
  s.withFields Reg.SYS_PAIR [(Fld.SYS_PAIR_FORMED, bit s.pair.record.isSome), (Fld.SYS_PAIR_ROLE, s.ctrlId % 2)]

/-- SYS_PAIR_STATUS. -/
def State.sysPairStatus (s : State) : Word :=
  fields [(Fld.SYS_PAIR_STATUS_INTENTS_HELD, min 65535 s.pair.intents.length), (Fld.SYS_PAIR_STATUS_TAKEOVER, bit s.pair.takeover),
    (Fld.SYS_PAIR_STATUS_PARTITION, bit s.pair.partition), (Fld.SYS_PAIR_STATUS_PROBING, bit s.pair.probing),
    (Fld.SYS_PAIR_STATUS_PATHS, bit s.twl.pathA.up + 2 * bit s.twl.pathB.up), (Fld.SYS_PAIR_STATUS_TWIN_STATE, s.pair.twinState)]

/-- PWR_STATUS. -/
def State.pwrStatus (s : State) : Word :=
  fields [(Fld.PWR_STATUS_SEQ_STATE, s.pwr.seq.code), (Fld.PWR_STATUS_STEP, s.pwr.step), (Fld.PWR_STATUS_ON_PENDING, bit s.pwr.onPending),
    (Fld.PWR_STATUS_RIDING, bit s.pwr.riding), (Fld.PWR_STATUS_CAPPED, bit s.pwr.cap.isSome),
    (Fld.PWR_STATUS_CAP_GIB, s.pwr.cap.getD (s.fldIn Reg.VLT_WINDOW Fld.VLT_WINDOW_CEIL_GIB 1 64)),
    (Fld.PWR_STATUS_HOLDUP_OK, bit s.pwr.holdupOk), (Fld.PWR_STATUS_PFAIL_N, bit s.pwr.pfailN), (Fld.PWR_STATUS_SEQ_OUT, bit s.pwr.seqOut),
    (Fld.PWR_STATUS_SEQ_IN, bit s.pwr.seqIn), (Fld.PWR_STATUS_SEQ_EN, s.pwr.seqEn.toNat)]

/-- PWR_BANK_E: AGE_MS saturates; 0xFFFF before the first reading. -/
def State.pwrBankE (s : State) : Word :=
  match s.pwr.bank with
  | none => fields [(Fld.PWR_BANK_E_AGE_MS, 65535)]
  | some (e, t) => fields [(Fld.PWR_BANK_E_AGE_MS, min 65535 ((s.tim.ticks - t) / 1000)), (Fld.PWR_BANK_E_ENERGY_J, e)]

/-- The entry of the step table in use: its word A. -/
def State.stepA (s : State) (k : Nat) : Word := (s.pwr.table.getD k (0, 0)).1

/-- PG_IN bits of a step. -/
def State.stepPg (s : State) (k : Nat) : Nat := (s.stepA k).field 11 0

/-- PG_IN bits of qualified steps: PWR_PG.QUAL. -/
def State.pgQual (s : State) : Nat := (List.range s.pwr.qualified).foldl (fun n k => n ||| s.stepPg k) 0

/-- A sideband bus. -/
def State.sb (s : State) (n : Nat) : SbBus :=
  if n = 0 then s.sb0 else if n = 1 then s.sb1 else if n = 2 then s.sb2 else s.sb3

/-- Set a sideband bus. -/
def State.setSb (s : State) (n : Nat) (b : SbBus) : State :=
  if n = 0 then { s with sb0 := b } else if n = 1 then { s with sb1 := b } else if n = 2 then { s with sb2 := b } else { s with sb3 := b }

/-- The page of a bus. -/
def sbPage (n : Nat) : Nat := 5 + n

/-- A firmware transfer is queued or runs: SBn_STATUS.BUSY. -/
def SbBus.busy (b : SbBus) : Bool :=
  b.queue.any (fun r => !r.supervisor) || (match b.cur with | some r => !r.supervisor | none => false)

/-- SBn_STATUS. -/
def State.sbStatus (s : State) (n : Nat) : Word :=
  let b := s.sb n
  s.withFields (Reg.SB_STATUS (sbPage n)) [(Fld.SB_STATUS_BUSY, bit b.busy), (Fld.SB_STATUS_RETRY, b.retry), (Fld.SB_STATUS_RESULT, b.result),
    (Fld.SB_STATUS_STATE, b.state.code)]

/-- SBn_NOTIFY. -/
def State.sbNotify (s : State) (n : Nat) : Word :=
  match (s.sb n).notify with
  | none => 0
  | some (a, d) => fields [(Fld.SB_NOTIFY_VALID, 1), (Fld.SB_NOTIFY_SENDER, a), (Fld.SB_NOTIFY_DATA, d)]

/-- The live value of a register of the always-on blocks (R462). -/
def State.aonView (s : State) (a : Nat) : Word :=
  let wait := bit (s.rsc.has a)
  if a = Reg.SYS_MODE then s.sysMode
  else if a = Reg.SYS_UNLOCK then 0
  else if a = Reg.SYS_UNLOCK_STATUS then w32 s.unlocks.isOpen.toNat
  else if a = Reg.SYS_MODE_REQ then
    s.withFields a [(Fld.SYS_MODE_REQ_RESULT, s.mode.reqResult), (Fld.SYS_MODE_REQ_WRITE_PENDING, wait)]
  else if a = Reg.SYS_PAIR then s.sysPair
  else if a = Reg.SYS_PAIR_STATUS then s.sysPairStatus
  else if a = Reg.PWR_CTL then s.withFields a [(Fld.PWR_CTL_WRITE_PENDING, wait)]
  else if a = Reg.PWR_STATUS then s.pwrStatus
  else if a = Reg.PWR_RIDE then s.withFields a [(Fld.PWR_RIDE_WRITE_PENDING, wait)]
  else if a = Reg.PWR_BANK then s.withFields a [(Fld.PWR_BANK_WRITE_PENDING, wait)]
  else if a = Reg.PWR_BANK_E then s.pwrBankE
  else if a = Reg.PWR_BANK_BUS then s.withFields a [(Fld.PWR_BANK_BUS_WRITE_PENDING, wait)]
  else if a = Reg.PWR_NEED then fields [(Fld.PWR_NEED_CEIL_NEED_J, s.pwr.ceilNeedJ), (Fld.PWR_NEED_NEED_J, s.pwr.needJ)]
  else if a = Reg.PWR_VCORE then
    s.withFields a [(Fld.PWR_VCORE_WRITE_PENDING, wait), (Fld.PWR_VCORE_ACTUAL_MV, s.pwr.vcoreMv)]
  else if a = Reg.PWR_PG then fields [(Fld.PWR_PG_QUAL, s.pgQual), (Fld.PWR_PG_LIVE, s.pwr.pg.toNat)]
  else if a = Reg.PWR_FAULT then
    fields [(Fld.PWR_FAULT_KIND, s.pwr.faultKind), (Fld.PWR_FAULT_STEP, s.pwr.faultStep), (Fld.PWR_FAULT_PG, s.pwr.faultPg.toNat)]
  else if a = Reg.TIM_NOW_LO then w32 s.tim.ns
  else if a = Reg.TIM_NOW_HI then w32 (s.tim.ns / 2 ^ 32)
  else if a = Reg.TIM_STATUS then fields [(Fld.TIM_STATUS_RELOCKS, s.tim.relocks), (Fld.TIM_STATUS_LOCKED, bit s.tim.locked)]
  else if a = Reg.TIM_AON_LO then w32 s.tim.ticks
  else if a = Reg.TIM_AON_HI then w32 (s.tim.ticks / 2 ^ 32)
  else if a = Reg.TIM_CAP_CTL then fields [(Fld.TIM_CAP_CTL_VALID, bit s.tim.capValid)]
  else if a = Reg.TIM_CAP_DEV_LO then w32 s.tim.capDev
  else if a = Reg.TIM_CAP_DEV_HI then w32 (s.tim.capDev / 2 ^ 32)
  else if a = Reg.TIM_CAP_AON_LO then w32 s.tim.capAon
  else if a = Reg.TIM_CAP_AON_HI then w32 (s.tim.capAon / 2 ^ 32)
  else if a = Reg.SB_CTL 6 ∨ a = Reg.SB_CTL 7 ∨ a = Reg.SB_CTL 8 then s.withFields a [(Fld.SB_CTL_WRITE_PENDING, wait)]
  else if a = Reg.SB_STATUS 6 then s.sbStatus 1
  else if a = Reg.SB_STATUS 7 then s.sbStatus 2
  else if a = Reg.SB_STATUS 8 then s.sbStatus 3
  else if a = Reg.SB_NOTIFY 6 then s.sbNotify 1
  else if a = Reg.SB_NOTIFY 7 then s.sbNotify 2
  else if a = Reg.SB_NOTIFY 8 then s.sbNotify 3
  else s.reg a

/-- The addresses of the registers of the always-on blocks that the core reads as copies (R462): all but TIM_NOW and the captures. -/
def aonAddrs : List Nat :=
  ((blocks.filter (·.aon)).flatMap (fun b => b.regs.flatMap (fun r =>
    (List.range r.num).map (fun k => b.page * 0x10000 + r.off + k * r.stride)))).filter (fun a =>
      !(a == Reg.TIM_NOW_LO || a == Reg.TIM_NOW_HI || (decide (Reg.TIM_CAP_CTL ≤ a) && decide (a ≤ Reg.TIM_CAP_AON_HI))))

/-- Refresh the core's copies of always-on registers (R20, R462). -/
def State.refreshCopies (s : State) : State :=
  { s with copies := aonAddrs.foldl (fun (m : SMap Word) a => m.put (resetAt a) a (s.aonView a)) {} }

/-- What the core reads of an always-on register: its copy (R462). -/
def State.copyOf (s : State) (a : Nat) : Word := s.copies.getD a (resetAt a)

end Sys2Proof.Machine
end

