-- ==== Sys2Proof/Machine/TwinBase.lean ====
section
/-!
DEFINITION. Machine/TwinBase.lean: applying the twin's writes, handing BOUNDED data over, and what happens when the twin is lost
(03_request_path.md, R72, R79, R91; 04_durability.md, R95, R97, R101 to R113, R128; 11_network.md, R363 to R365).
-/
namespace Sys2Proof.Machine

/-! ## Applying a record (R72) -/

/-- What a record writes: line data, byte mask, poison; none for a record without data. -/
def LineBody.write? : LineBody → Option (Line × Mask × Bool)
  | .full d => some (d, Mask.full, false)
  | .part m d => some (d, m, false)
  | .zero => some (0, Mask.full, false)
  | .poison => some (0, Mask.full, true)
  | .nodata | .orig _ | .cmpSwap .. | .fetchAdd .. => none

/-- A line may be written at its slice now: its leaf is restored, it is not at a move's cursor, the window has room (R74, R95, R170). -/
def State.writable (s : State) (line : Nat) : Bool :=
  !s.unrestored (leafOf line) && !s.atCursor line && !s.windowFull (leafOf line)

/-- Write a line here as the twin or the vault asks, with all that an applied write does; none where it has to wait for a merge-buffer
entry. -/
def State.putLine (s : State) (line : Nat) (d : Line) (m : Mask) (poison : Bool) (cause : Nat) : Option State :=
  (s.applyLine (s.classOf 3 line) line d m poison).map (fun s =>
    let s := s.noteApplied line
    if poison then s.poisonWritten 4 cause line else s)

/-- Poison a line here (R105, R128): the marker is written whatever the line held. -/
def State.poisonLine (s : State) (line cause : Nat) : State := (s.putLine line 0 Mask.full true cause).getD s

/-- Own entries whose write the applied record was: they are applied, their mirror is here (R72, R81). -/
def State.ownApplied (s : State) (line : Nat) (n : BitVec 32) : State :=
  (s.trk.entries.cells.filter (fun c => c.2.line == line && c.2.ord == some n && !c.2.applied && !c.2.forwarded && !c.2.sent && c.2.op.writes)).foldl
    (fun s c =>
      let e := { c.2 with applied := true, owed := false, tag := some 0 }
      (s.setEntry c.1 e).tryComplete c.1 e) s

/-- Apply the records that waited for a lower-numbered write of their line (R72); `n` bounds the loop. -/
def State.applyEarly : Nat → State → Nat → State
  | 0, s, _ => s
  | k + 1, s, line =>
    match s.pair.early.find? (fun r => r.line == line && r.ord == s.ordOf line + 1) with
    | none => s
    | some r =>
      match r.body.write? with
      | none => s
      | some (d, m, p) =>
        match s.putLine line d m p 7 with
        | none => s
        | some s =>
          let s := { s.setOrd line r.ord with pair := { s.pair with early := s.pair.early.erase r } }
          (s.ownApplied line r.ord).applyEarly k line

/-- Apply a record of the twin in order-number order (R72): an older one counts as applied and overwritten, a partial one ahead of its turn
waits; none where the record cannot be taken yet (R74, R78, R95). -/
def State.applyRec (s : State) (r : LineRec) : Option State :=
  match r.body.write? with
  | none => some s
  | some (d, m, p) =>
    if !ordLater r.ord (s.ordOf r.line) then some (s.ownApplied r.line r.ord)
    else if !s.writable r.line then none
    else if m = Mask.full || r.ord == s.ordOf r.line + 1 then
      (s.putLine r.line d m p 7).map (fun s =>
        let s := { s.setOrd r.line r.ord with
          pair := { s.pair with early := s.pair.early.filter (fun e => e.line != r.line || ordLater e.ord r.ord) } }
        (s.ownApplied r.line r.ord).applyEarly s.pair.early.length r.line)
    else some { s with pair := { s.pair with early := s.pair.early ++ [r] } }

/-! ## BOUNDED data (R101, R103) -/

/-- Hand the oldest `n` BOUNDED writes' data to the link in one message; their entries owe the twin nothing more. -/
def State.sendOwed (s : State) (n : Nat) : State :=
  let batch := s.pair.owed.take n
  if batch.isEmpty then s else
  let tag := s.newTag
  let s := s.handNew 0x06 (batch.map (fun o => TwRec.line o.record))
  let arrs := batch.map (fun o =>
    ((s.trk.entries.cells.find? (fun c => c.2.line == o.record.line && c.2.ord == some o.record.ord)).map (fun c => c.2.arr)).getD 0)
  let s := { s with pair := { s.pair with owed := s.pair.owed.drop n, dataSent := s.pair.dataSent ++ [(tag, arrs)] } }
  batch.foldl (fun s o =>
    (s.trk.entries.cells.filter (fun c => c.2.line == o.record.line && c.2.ord == some o.record.ord && c.2.owed)).foldl
      (fun s c => s.setEntry c.1 { c.2 with owed := false }) s) s

/-- The age in ns of the oldest BOUNDED write whose data is still here (LAG_OLDEST_NS). -/
def State.lagOldest (s : State) : Nat :=
  match s.pair.owed with
  | [] => 0
  | o :: _ => s.now - o.since

/-! ## Loss of the twin -/

/-- Put bytes in a line's merge-buffer entry whatever its channel's buffer holds, or in the cache. -/
def State.forceLine (s : State) (line : Nat) (d : Line) (m : Mask) (poison : Bool) : State :=
  match s.putLine line d m poison 7 with
  | some s => s
  | none => (s.setMerge line (some ⟨(s.dramOf (s.homeOf line)).inst, Line.overlay 0 d m, m, s.now, s.ec.nextArr⟩)).noteApplied line

/-- Apply all records that still wait under R72, in order-number order, before own writes are ordered again (R91). -/
def State.flushEarly : Nat → State → State
  | 0, s => { s with pair := { s.pair with early := [] } }
  | k + 1, s =>
    match s.pair.early.find? (fun r => !s.pair.early.any (fun q => q.line == r.line && ordLater r.ord q.ord)) with
    | none => s
    | some r =>
      let s := match r.body.write? with
        | some (d, m, p) => ((s.forceLine r.line d m p).setOrd r.line r.ord).ownApplied r.line r.ord
        | none => s
      flushEarly k { s with pair := { s.pair with early := s.pair.early.erase r } }

/-- The lines of an extent from `i` on. -/
def linesFrom (x i : Nat) : List Nat := (List.range (extentLines - i)).map (fun k => x * extentLines + i + k)

/-- A line whose winning copy the lost twin held (R128): from the own vault where its leaf record carries the winning epoch, else poisoned;
whether it was poisoned. -/
def State.lastCopy (s : State) (line epoch : Nat) : State × Bool :=
  match s.imageOf (leafOf line) with
  | some r =>
    if r.epoch = epoch then
      match r.line (line % leafLines) with
      | .data d => (s.forceLine line d Mask.full false, false)
      | _ => (s.poisonLine line 5, true)
    else (s.poisonLine line 5, true)
  | none => (s.poisonLine line 5, true)

/-- A line of a losing copy that no resync will bring takes the last copy; a line that has none is poisoned and listed. -/
def State.loseLine (s : State) (epoch : Nat) (a : State × List Nat) (line : Nat) : State × List Nat :=
  if s.valid (leafOf line) && !a.1.unrestored (leafOf line) then
    let (t, b) := a.1.lastCopy line epoch
    (t, if b then a.2 ++ [line] else a.2)
  else a

/-- The resync ends with the twin lost (R128): every line still missing its winning copy here is settled, and those poisoned are listed. -/
def State.abandonResync (s : State) : State :=
  let losing := s.pair.resync.cells.filter (fun c => !c.2)
  let (s, bad) := losing.foldl (fun (a : State × List Nat) c =>
    (linesFrom c.1 (s.pair.resyncAt.getD c.1 0)).foldl (State.loseLine s (s.pair.resyncEpoch.getD c.1 0)) a) (s, [])
  let s := if bad.isEmpty then s else s.logRec LogT.resync Src.twl Cls.major (w32 bad.length :: bad.flatMap (fun l => lohi (64 * l)))
  { s with pair := { s.pair with resync := {}, resyncAt := {}, resyncEpoch := {}, resyncing := false } }

/-- A tracker entry whose work at the twin is dropped goes on alone (R110). -/
def State.entryAlone (s : State) (c : Nat × Entry) : State :=
  let e := c.2
  if e.sent then s.setEntry c.1 { e with owed := false }
  else if e.forwarded then s.dropEntry c.1
  else match e.dst with
  | .assist .. => s.dropEntry c.1
  | _ =>
    if e.op.writes && !e.applied && e.state != .home then s.setEntry c.1 { e with owed := false, tag := none, ord := none, state := .decode }
    else s.setEntry c.1 { e with owed := false, tag := none }

/-- Every extent is this side's now (R91, R97): handovers end, work owed to the twin is owed no more, and each write, atomic or read that waits
for it goes on alone. -/
def State.goAlone (s : State) : State :=
  let s := s.flushEarly s.pair.early.length
  let asked := s.pair.refetches.map (·.2)
  let s := { s with pair := { s.pair with handover := {}, owned := {}, owed := [], dataSent := [], markers := [], assists := [],
                                          refetches := [], restores := [] },
                    vlt := { s.vlt with unrestored := s.vlt.unrestored.mapVals (fun _ (u : Unrestored) =>
                      if u.fromTwin && !u.got then { u with running := false } else u) } }
  let s := s.trk.entries.cells.foldl State.entryAlone s
  let s := { s with trk := { s.trk with waiting := s.trk.waiting.filter (fun w => match w.dst with | .fwd .. | .assist .. => false | _ => true) } }
  asked.foldl (fun s line => if s.tier.refetch.find? line == some 0 then s.refetchLocal line else s) s

/-- Reads that asked the twin by read-assist start anew (R25, R110). -/
def State.redoAssists (s : State) (ids : List Nat) : State :=
  ids.foldl (fun s id => match s.entry id with
    | some e => if e.sent then s else (s.setSlot e.line none).setEntry id { e with state := .decode }
    | none => s) s

/-- Commands that waited for the twin (R36, R423): one carried to the stroke completes with Aborted; one run here completes without it;
what the stroke asked is no longer owed an answer. -/
def State.releaseCommands (s : State) : State :=
  let carried := s.cmd.repl.filter (fun r => r.role == .carried)
  let mine := s.cmd.repl.filter (fun r => r.role != .carried)
  let s := { s with cmd := { s.cmd with repl := mine.map (fun r => { r with twinDone := true }), remote := none, applied := [] },
                    pair := { s.pair with attrWait := [] } }
  let s := carried.foldl (fun s (r : Repl) => s.finish r.tag .aborted) s
  (mine.foldl (fun (s : State) (r : Repl) => s.replTry r.tag) s).connsAlone

/-- Poison the lines of intents whose data never came (R105), with one record that lists them. -/
def State.poisonIntents (s : State) : State :=
  let l := s.pair.intents
  if l.isEmpty then s else
  let s := l.foldl (fun s c =>
    let s := (s.poisonLine c.1 0).bump Ctr.SYS_CNT_INTENT_POISON
    { s with pair := { s.pair with poisoned := s.pair.poisoned.insert c.1 c.2 } }) { s with pair := { s.pair with intents := [] } }
  s.logRec LogT.intentPoison Src.twl Cls.major (l.flatMap (fun c =>
    w32 (match s.regionOf (extentOf c.1) with | some (_, r) => r.id | none => 0) :: lohi (64 * c.1)))

/-! ## Handover (R98, R117) -/

/-- The new owner takes an extent and sends the handover-ack (R98, step 4). -/
def State.acceptMarker (s : State) (x : Nat) : State :=
  ({ s with pair := { s.pair with owned := s.pair.owned.erase x } }).hand 0x0C 0 [.handover 2 x]

/-- Markers that waited for the end of HOLD (R117). -/
def State.takeMarkers (s : State) : State :=
  let l := s.pair.markers
  l.foldl State.acceptMarker { s with pair := { s.pair with markers := [] } }

/-! ## Address takeover (R112, R364) -/

/-- Announce addresses on a port (R112, R365): those of the twin, or the own ones. -/
def State.announce (s : State) (twin : Bool) : State :=
  s.net.ports.cells.foldl (fun s c =>
    (c.2.addrs.filter (fun a => a.twin == twin)).foldl (fun s a =>
      s.sendFrameEth { mac := c.1 / 4, port := c.1 % 4, prio := 0, dstMac := 2 ^ 48 - 1, vlan := 0, dscp := 0, dstIp := 0, udpSrc := 0,
                       what := .announce a.ip }) s) s

/-- The survivor takes the twin's addresses over (R112). -/
def State.takeOver (s : State) : State :=
  if s.pair.takeover then s else { s.announce true with pair := { s.pair with takeover := true } }

/-- After the loss (R111, R113): with PROBE the probe runs; without it the survivor takes over at once. A departing controller does neither
(R114), nor does one that has lost REFCLK_ETH (R397). -/
def State.probeOrTakeOver (s : State) (departing : Bool) : State :=
  if departing || !s.pwr.refEth then s
  else if s.fld Reg.SYS_PAIR Fld.SYS_PAIR_PROBE = 1 then
    { s with pair := { s.pair with probing := true, lostAt := s.now } }
  else s.takeOver

end Sys2Proof.Machine
end

