-- ==== Sys2Proof/Machine/ModeBase.lean ====
section
/-!
DEFINITION. Machine/ModeBase.lean: the mode controller's transitions and what goes with each (01_architecture.md, R20 to R28, R561, R562;
04_durability.md, R110 to R116; 17_power.md, R499 to R514; 10_vault.md, R307; 19_logbook.md, R540).
-/
namespace Sys2Proof.Machine

/-! ## Transitions -/

/-- A transition (R20, R22): the mode, its REASON, COUNT, and the MODE_CHANGE record. -/
def State.setMode (s : State) (dest : Mode) (reason : Nat) : State :=
  let old := s.mode.mode
  { s with mode := { s.mode with mode := dest, reason := reason, count := (s.mode.count + 1) % 65536 } }.logRec
    LogT.modeChange Src.mode Cls.info [w32 old.code, w32 dest.code, w32 reason]

/-- Where the HOLD rows lead (R21, R22): SERVE when paired and the twin is reachable, SOLO otherwise. -/
def State.holdTarget (s : State) : Mode := if s.paired && s.twinReachable then .serve else .solo

/-- What HOLD ends whatever way it ends: an armed format is disarmed (R434), a pair formation not finished is given up (R119). -/
def State.endHold (s : State) : State :=
  let s := { s with cmd := { s.cmd with formatArmed := false } }
  match s.pair.forming with
  | some f => { s with pair := { s.pair with forming := none, twinIdent := none } }.finish f.tag .aborted
  | none => s

/-- Leave HOLD by the HOLD rows of R22; what was held goes on (R29). -/
def State.leaveHold (s : State) (reason : Nat) : State :=
  let s := s.endHold
  let s := match s.cmd.activate with
    | some a => { s with cmd := { s.cmd with activate := some { a with left := true } } }
    | none => s
  (s.setMode s.holdTarget reason).takeMarkers.pump

/-- The activity of the HOLD purpose is abandoned (R24, R448): an activation keeps the old firmware, a self-test asked for is given up. -/
def State.abandonHold (s : State) : State :=
  let s := s.endHold
  let s := match s.cmd.activate with
    | some a => { s with cmd := { s.cmd with activate := none } }.finish a.tag .reverted
    | none => s
  (s.cmd.jobs.filter (fun j => j.opcode == 0xC503 && j.done.isNone)).foldl (fun s j => s.finish j.tag .aborted) s

/-- Enter SOLO from SERVE by request (R22): ownership of every extent is this side's (R98). -/
def State.enterSolo (s : State) (reason : Nat) : State :=
  let ids := s.pair.assists.flatMap (·.2)
  (((((s.setMode .solo reason).goAlone).redoAssists ids).abandonResync).releaseCommands).pump

/-! ## Power-down -/

/-- Keep a power event (R503): the last 16. -/
def State.powerEvent (s : State) (kind step bits : Nat) : State :=
  let l := s.pwr.events ++ [⟨kind, step, bits, s.now⟩]
  { s with pwr := { s.pwr with events := l.drop (l.length - 16) } }

/-- The chain of a step. -/
def State.stepChain (s : State) (k : Nat) : Nat := (s.stepA k).field 29 28

/-- The chains raised in this power-up, in reverse order of their head steps (R507). -/
def State.raisedChains (s : State) : List Nat :=
  (((List.range s.pwr.started).filter (fun k => (s.stepA k).field 30 30 == 1)).map s.stepChain).reverse

/-- Host links go down and no host is served (R28, STANDBY). -/
def State.hostsDown (s : State) : State :=
  let down := fun (l : Link) => { l with state := .down, width := 0, ide := 0, degraded := false }
  let port := fun (p : Port) => { p with link0 := down p.link0, link1 := down p.link1 }
  { s with cxl := { s.cxl with portA := port s.cxl.portA, portB := port s.cxl.portB, memActive := false },
           mode := { s.mode with bringup := .none } }

/-- Power-down begins (R507 step 1). -/
def State.powerDown (s : State) : State :=
  { s.hostsDown with pwr := { s.pwr with seq := .downSeq, seqOut := false, downChains := s.raisedChains, downHold := true, stuck := [],
                                         crossing := none },
                     mode := { s.mode with bringup := .none, transit := true } }

/-- A bring-up ends (R22, R510, R562): from RESTORE by a transition to STANDBY; while STATE still reads STANDBY only REASON changes and the
always-on domain keeps the event. The on request stays pending or is cleared; the rails go down. -/
def State.endBringup (s : State) (reason : Nat) (keepOn : Bool) : State :=
  let s := if s.mode.mode == .restore then s.setMode .standby reason
    else { s with mode := { s.mode with reason := reason } }.powerEvent 0x10 s.pwr.step reason
  { s with pwr := { s.pwr with onPending := keepOn }, mode := { s.mode with retrying := s.mode.retrying && keepOn } }.powerDown

/-- A sequence fault (R503). -/
def State.seqFault (s : State) (kind step bits : Nat) : State :=
  let s := { s with pwr := { s.pwr with faultKind := kind, faultStep := step, faultPg := BitVec.ofNat 12 bits } }
  let s := (s.bump Ctr.PWR_CNT_SEQ_FAULT).powerEvent kind step bits
  { s with mode := { s.mode with reason := 0x0D, retrying := false }, pwr := { s.pwr with onPending := false } }

/-! ## PRESERVE -/

/-- Leave PRESERVE for STANDBY (R22, R562): no host is served any more; power-down begins when the logbook's second flush ends (R540), or at
once where a rail was lost (R505). -/
def State.preserveDown (s : State) (reason : Nat) (now : Bool) : State :=
  let s := (s.setMode .standby reason).hostsDown
  let s := { s with mode := { s.mode with offPending := false, transit := true }, vlt := { s.vlt with step := 0 } }
  if now then s.powerDown else { s with log := s.log.flushAgain }

/-- The departing message of R114, after the data of every BOUNDED write ordered before the seal, where the twin is in SERVE. -/
def State.depart (s : State) : State :=
  let s := s.sendOwed s.pair.owed.length
  if s.twinServes then
    { s.hand 0x0D 0 [.depart 1] with pair := { s.pair with departSent := true }, vlt := { s.vlt with step := 3 } }
  else { s with vlt := { s.vlt with step := 4 } }

/-- The seal (R27, R114, R122, R540): the first flush starts, the stale bit of extents with intents without data is set, the twin is told. -/
def State.seal (s : State) : State :=
  let s := { s with vlt := { s.vlt with step := 2 }, log := { s.log.startFlush with preserveFrom := s.log.next } }
  let s := s.pair.intents.foldl (fun s c => let x := extentOf c.1; s.setExtPair x { s.extPair x with st := true }) s
  let s := s.depart
  { s with ch := s.ch.mapVals (fun i c => { c with drain := s.drainNow i c }) }

/-- Enter PRESERVE from RESTORE, SERVE, SOLO or HOLD (R22, R24, R307 steps 1 to 3). -/
def State.enterPreserve (s : State) (reason : Nat) : State :=
  let old := s.mode.mode
  let s := if old == .hold then s.abandonHold else s
  let need := s.needMs
  let s := { s with mode := { s.mode with leftMode := old, railDropped := false, preserveDone := false },
                    log := { s.log with preserveBytes := 0, secondFlush := 0 } }
  let s := { s.setMode .preserve reason with
    vlt := { s.vlt with step := 1, startNs := s.now, needMs := need, sealLeft := [], sealCount := 0 },
    pair := { s.pair with departSent := false, departAcked := false, twinLeft := false } }
  s.seal

/-- A mode in which hosts are served and PRESERVE can be entered. -/
def State.running (s : State) : Bool :=
  match s.mode.mode with
  | .serve | .solo | .hold => true
  | .restore => s.mode.bringup == .served
  | .standby | .preserve => false

/-- A supply event of R510 in a power-up or bring-up (R562): while steps run it waits for the current one; afterwards the bring-up is abandoned
at once. -/
def State.crossBringup (s : State) (reason : Nat) (keepOn : Bool) : State :=
  if s.pwr.seq == .upSeq then
    { s with pwr := { s.pwr with crossing := match s.pwr.crossing with
        | some (r, k) => some (if k && !keepOn then reason else r, k && keepOn)
        | none => some (reason, keepOn) } }
  else if s.pwr.seq == .up && s.mode.bringup != .none then s.endBringup reason keepOn
  else s

/-- An off request (R509, R510, R26). -/
def State.offRequest (s : State) (reason : Nat) : State :=
  if s.running then { s with mode := { s.mode with offPending := true } }.enterPreserve reason
  else match s.mode.mode with
  | .preserve => { s with mode := { s.mode with offPending := true } }
  | .standby | .restore =>
    match s.pwr.seq with
    | .upSeq | .up => { s with pwr := { s.pwr with onPending := false } }.crossBringup reason false
    | _ => { s with pwr := { s.pwr with onPending := false } }
  | _ => s

/-- Fault handling issues an off request, REASON OFF_REQUEST (R245, R246, R397, R401, R412). -/
def State.faultOff (s : State) : State := s.offRequest 0x08

/-- The rank of a PRESERVE reason (R513). -/
def reasonRank (r : Nat) : Nat := if r = 7 then 0 else if r = 6 then 1 else if r = 5 then 2 else 3

/-- A PRESERVE trigger (R22, R513). In PRESERVE entered within the same AON tick the higher REASON stands and the other is logged. -/
def State.preserveTrigger (s : State) (reason : Nat) : State :=
  if s.running then s.enterPreserve reason
  else if s.mode.mode == .preserve && s.vlt.startNs / 1000 == s.now / 1000 && decide (reasonRank reason < reasonRank s.mode.reason) then
    { s with mode := { s.mode with reason := reason } }.logRec LogT.powerEvent Src.mode Cls.info [w32 s.mode.reason]
  else s

/-! ## The twin is lost (R110) or departs (R115) -/

/-- Forget a twin that is gone: ownership, commands, reads that asked it; R105 where its data is missing. -/
def State.dropTwin (s : State) (poison : Bool) : State :=
  let ids := s.pair.assists.flatMap (·.2)
  let s := s.goAlone
  let s := s.abandonResync
  let s := if poison then s.poisonIntents else s
  (s.redoAssists ids).releaseCommands

/-- The twin is lost (R110, R116): both paths are dead. -/
def State.loseTwin (s : State) : State :=
  if s.pair.lost then s else
  let departing := s.mode.mode == .preserve && s.pair.departSent && !s.pair.departAcked
  let was := s.mode.mode
  let known := s.pair.record.isSome && !s.pair.departed
  let s := { s with pair := { s.pair with lost := true, twinState := 7 } }
  if !known then s else
  let s := (s.bump Ctr.SYS_CNT_TWIN_LOST).report (unitId 0x0E 0) 0x13 Cls.critical
  let s := s.dropTwin true
  let s := if was == .serve then s.setMode .solo 0x03 else s
  let s := if was == .standby then s else s.probeOrTakeOver (departing || was == .preserve)
  let s := match s.pair.forming with
    | some f => { s with pair := { s.pair with forming := none } }.finish f.tag .aborted
    | none => s
  s.pump

/-- A departing message has come (R115, R116): the departing-ack goes back, every extent is ours, the twin counts as unreachable. -/
def State.twinDeparts (s : State) : State :=
  let s := s.hand 0x0D 0 [.depart 2]
  let was := s.mode.mode
  if was == .preserve then { s with pair := { s.pair with twinLeft := true } }
  else
    let s := { s with pair := { s.pair with departed := true } }
    let s := s.dropTwin false
    (if was == .serve then s.setMode .solo 0x03 else s).pump

/-! ## The core domain loses its power -/

/-- What a flash bank keeps when the core domain loses power (R492, R494): the erase journal; the operation cut short leaves its word or sector
undefined. -/
def Bank.off (b : Bank) : Bank := { journal := b.journal }

/-- The flash as it stands without power: an erase cut short leaves its sector undefined; a program cut short leaves any of the bits it was to
clear uncleared, `free` naming them. -/
def Flash.off (f : Flash) (free : Nat) : Flash :=
  let cut := (([f.bankA.cur, f.bankA.inner, f.bankB.cur, f.bankB.inner]).filterMap id)
  let torn := cut.foldl (fun (m : SMap (BitVec 256)) o => match o.word with
    | some w => m.put (BitVec.allOnes 256) (o.fa / 32) (w ||| BitVec.ofNat 256 free)
    | none => m) f.words
  { bankA := f.bankA.off, bankB := f.bankB.off, words := torn, force := f.force, protA := f.protA, protB := f.protB,
    protInfo := f.protInfo, password := f.password,
    undef := cut.foldl (fun (m : SMap Nat) o => if o.word.isNone then m.insert (o.fa / 65536) 0 else m) f.undef }

/-- The core domain is held in reset and loses its power (R12, R507): what is left is the always-on domain and what is non-volatile. -/
def State.coreOff (s : State) : State :=
  let aonPage := fun (a : Nat) => match blockOfPage (a / 65536) with | some b => b.aon | none => false
  let pins := fun (p : Port) => ({ link0 := { perst := p.link0.perst }, link1 := { perst := p.link1.perst } } : Port)
  { pending := s.pending, out := s.out, fresh := s.fresh + 1,
    regs := s.regs.filter (fun a _ => aonPage a), rsc := s.rsc, ctrs := s.ctrs.filter (fun a _ => aonPage a),
    mode := s.mode, tim := s.tim, pwr := { s.pwr with core := false }, sb1 := s.sb1, sb2 := s.sb2, sb3 := s.sb3,
    log := { roll := s.log.roll, fix := s.log.fix, rollAt := s.log.rollAt, fixAt := s.log.fixAt },
    sht := { frames := s.sht.frames, recorded := s.sht.recorded, highest := s.sht.highest },
    unlocks := s.unlocks,
    pair := { record := s.pair.record },
    vlt := { nand := s.vlt.nand },
    cxl := { portA := pins s.cxl.portA, portB := pins s.cxl.portB },
    cmd := { fusedSvn := s.cmd.fusedSvn, hash0 := s.cmd.hash0, hash1 := s.cmd.hash1, hash0Revoked := s.cmd.hash0Revoked,
             dirtyCount := s.cmd.dirtyCount },
    fls := s.fls.off s.freeVal }

end Sys2Proof.Machine
end

