-- ==== Sys2Proof/Machine/Tier.lean ====
section
/-!
DEFINITION. Machine/Tier.lean: the tier manager: tenants, victims, moves, ageing, schedules (06_tiers.md, R161 to R187, R563; 14_control.md,
R433, R437).
-/
namespace Sys2Proof.Machine

/-! ## Tenants and places (R172 to R177) -/

/-- A tenant. -/
def State.tenant (s : State) (t : Nat) : Tenant := s.tier.tenants.getD t {}

/-- A tenant's effective ceiling (R172). -/
def State.ceilTenant (s : State) (t : Nat) : Nat := if (s.tenant t).ceil = 0 then s.tier.hbmTotal else (s.tenant t).ceil

/-- The extents homed in HBM. -/
def State.hbmExtents (s : State) : List Nat := (List.range s.addr.served.len).filter (fun x => (s.placeOf x).1)

/-- The tenant of an extent's region. -/
def State.tenantOf (s : State) (x : Nat) : Option Nat := (s.regionOf x).map (fun c => c.2.tenant)

/-- A tenant's use: the HBM-homed extents of its regions. -/
def State.useOf (s : State) (t : Nat) : Nat := (s.hbmExtents.filter (fun x => s.tenantOf x == some t)).length

/-- The PIN_HBM extents of a tenant among regions. -/
def pinHbm (rs : List Region) (t : Nat) : Nat := sumL ((rs.filter (fun r => r.tier == 1 && r.tenant == t)).map (·.len))

/-- Sum of all tenants' floors. -/
def State.floors (s : State) : Nat := sumL (s.tier.tenants.values.map (·.floor))

/-- The move headroom in extents (R31). -/
def State.headroom (s : State) : Nat := s.addr.served.reserves.getD 7 0 / extentBytes

/-- R177 allows these regions: PIN_HBM within each tenant's ceiling and, with the floors, within the HBM places; PIN_DDR5 within the DDR5 places
less the headroom. -/
def State.pinsFit (s : State) (rs : List Region) : Bool :=
  rs.all (fun r => r.tier != 1 || decide (pinHbm rs r.tenant ≤ s.ceilTenant r.tenant)) &&
  decide (sumL ((rs.filter (fun r => r.tier == 1)).map (·.len)) + s.floors ≤ s.tier.hbmTotal) &&
  decide (sumL ((rs.filter (fun r => r.tier == 2)).map (·.len)) ≤ s.tier.ddrTotal - s.headroom)

/-- The extents of a region. -/
def Region.extents (r : Region) : List Nat := (List.range r.len).map (· + r.base)

/-- A region has come to its TIER, from `old` where it had one: moves are asked for, ages set (R176). -/
def State.enterTier (s : State) (r : Region) : State :=
  if r.tier = 1 then r.extents.foldl (fun s x => if (s.placeOf x).1 then s else s.askMove x true .pin) s
  else if r.tier = 2 then r.extents.foldl (fun s x => if (s.placeOf x).1 then s.askMove x false .unpin else s) s
  else if r.tier = 3 then r.extents.foldl (fun s x => if (s.placeOf x).1 && !s.isStaged x then s.setAge x 15 else s) s
  else s

/-- The victim's scan order: extents at or after the scan pointer first. -/
def State.fromScan (s : State) (l : List Nat) : List Nat :=
  l.filter (fun x => decide (s.tier.scan ≤ x)) ++ l.filter (fun x => decide (x < s.tier.scan))

/-- The victim of a promotion for tenant `t` (R174): STREAM before AUTO among equal ages (R176). -/
def State.victim (s : State) (t : Nat) : Option Nat :=
  let free := fun x => (s.moveOf x).isNone && !s.isStaged x
  let pinned := fun x => match s.regionOf x with | some (_, r) => r.tier == 1 | none => false
  let pool := s.hbmExtents.filter (fun x => free x && !pinned x &&
    (if s.ceilTenant t ≤ s.useOf t then s.tenantOf x == some t
     else match s.tenantOf x with
       | none => true
       | some u => decide ((s.tenant u).floor < s.useOf u)))
  let rank : Nat → Nat := fun x => match s.regionOf x with
    | none => 1000
    | some (_, r) => 2 * s.ageOf x + (if r.tier = 3 then 1 else 0)
  (s.fromScan pool).foldl (fun b x => match b with
    | none => some x
    | some y => if rank y < rank x then some x else some y) none

/-! ## Moves (R164 to R171) -/

/-- New moves may start (R169): TM_STATUS.SUSPENDED is the converse. -/
def State.movesAllowed (s : State) : Bool :=
  s.fld Reg.TM_CTL Fld.TM_CTL_MOVE_EN == 1 && s.mode.mode != .hold && !s.afterSeal &&
  !s.ch.values.any (fun c => c.state == .retired) && s.serving

/-- Moves at once (R168). -/
def State.conc (s : State) : Nat := s.fldIn Reg.TM_MOVE Fld.TM_MOVE_CONC 1 64

/-- Take a place from a list of runs. -/
def takePlace : List (Nat × Nat) → Option (Nat × List (Nat × Nat))
  | [] => none
  | (f, n) :: t => if n = 0 then takePlace t else some (f, if n = 1 then t else (f + 1, n - 1) :: t)

/-- Device time at which a step of a schedule is expected to be needed (R186). -/
def Sched.needAt (c : Sched) (j : Nat) : Nat :=
  let order := if c.fresh then List.range c.steps.length else c.ahead c.step c.steps.length
  let before := order.takeWhile (fun k => k != j)
  c.since + 1000 * sumL ((before ++ [j]).map (fun k => ((c.steps[k]?).map (·.deadline)).getD 0))

/-- When a staging move is expected to be needed; 0 for one of no schedule. -/
def State.askNeed (s : State) (a : MoveAsk) : Nat :=
  match a.why with
  | .sched id j => match s.tier.scheds.find? id with
    | some c => c.needAt j
    | none => 0
  | _ => 0

/-- An ask is next of its kind: automatic promotions in order of reaching the threshold (R175), staging moves in order of expected need (R186). -/
def State.inTurn (s : State) (a : MoveAsk) : Bool :=
  match a.why with
  | .auto => s.fld Reg.TM_CTL Fld.TM_CTL_AUTO_EN == 1 && (s.tier.asks.find? (fun b => b.why == .auto)) == some a
  | .sched .. => s.fld Reg.TM_CTL Fld.TM_CTL_SCHED_EN == 1 && s.tier.asks.all (fun b => match b.why with
      | .sched .. => decide (s.askNeed a ≤ s.askNeed b)
      | _ => true)
  | .pin | .unpin => true

/-- A promotion needs a victim first (R171, R172). -/
def State.needsVictim (s : State) (x : Nat) : Bool :=
  (takePlace s.tier.freeHbm).isNone || (match s.tenantOf x with
    | some t => decide (s.ceilTenant t ≤ s.useOf t)
    | none => false)

/-- The victim that a waiting promotion has to have. -/
def State.wantedVictims (s : State) : List Nat :=
  (s.tier.asks.filter (fun a => a.toHbm && s.inTurn a && s.needsVictim a.extent)).filterMap (fun a =>
    s.victim ((s.tenantOf a.extent).getD 4096))

/-- Begin a move (R164): a place is taken, the cursor stands at the first line. -/
def State.beginMove (s : State) (x : Nat) : State :=
  let h := s.placeOf x
  let toHbm := !h.1
  match takePlace (if toHbm then s.tier.freeHbm else s.tier.freeDdr) with
  | none => s
  | some (p, rest) =>
    let t := s.tier
    let m : Move := { extent := x, fromHbm := h.1, fromHome := h.2, toHbm := toHbm, toHome := p, cursor := 0, reading := false,
                      refetch := false }
    { s with tier := { t with moves := t.moves ++ [m], asks := t.asks.filter (fun a => a.extent != x || a.toHbm != toHbm),
                              freeHbm := if toHbm then rest else t.freeHbm, freeDdr := if toHbm then t.freeDdr else rest } }

/-- No victim for a promotion (R171, R186): counted; an automatic one is not made, a schedule's waits with BLOCKED. -/
def State.noVictim (s : State) (a : MoveAsk) : State :=
  let s := s.bump Ctr.TM_CNT_NO_VICTIM
  match a.why with
  | .auto => { s with tier := { s.tier with asks := s.tier.asks.filter (· != a) } }
  | .sched id _ => match s.tier.scheds.find? id with
    | some c => s.setSched id { c with blocked := true }
    | none => s
  | _ => s

/-- Raise the restore priority of an extent's leaves (R169, R311). -/
def State.raiseLeaves (s : State) (x : Nat) : State :=
  { s with vlt := { s.vlt with unrestored := s.vlt.unrestored.mapVals (fun leaf u =>
      if leaf / extentLeaves = x ∧ u.prio = 2 then { u with prio := 1 } else u) } }

/-- A move of the extent waits for its region's fence (R169). -/
def State.fencedExtent (s : State) (x : Nat) : Bool :=
  match s.regionOf x with
  | some (i, _) => s.addr.fences.any (fun f => f.region == i)
  | none => false

/-- MOVE_START (R164, R169, R171): the extent's move asked for begins where its turn has come and a place is free; or the extent is the victim that
a waiting promotion needs. -/
def execMoveStart (extent : Nat) (s : State) : Ans :=
  .next (
    let x := extent
    let ask := s.tier.asks.find? (fun a => a.extent == x && a.toHbm == !(s.placeOf x).1)
    if !s.movesAllowed || !decide (x < s.addr.served.len) || (s.moveOf x).isSome || s.fencedExtent x || decide (s.conc ≤ s.tier.moves.length) then s
    else if s.vlt.unrestored.cells.any (fun c => c.1 / extentLeaves == x) then (if ask.isSome then s.raiseLeaves x else s)
    else
      match ask with
      | some a =>
        if !s.inTurn a then s
        else if a.toHbm && s.needsVictim x then
          (if (s.victim ((s.tenantOf x).getD 4096)).isNone then s.noVictim a else s)
        else
          let s := match a.why with
            | .sched id _ => match s.tier.scheds.find? id with
              | some c => s.setSched id { c with blocked := false }
              | none => s
            | _ => s
          s.beginMove x
      | none =>
        if s.wantedVictims.contains x then (let s := s.beginMove x; { s with tier := { s.tier with scan := x + 1 } }) else s)

/-- Store a move. -/
def State.setMove (s : State) (m : Move) : State :=
  { s with tier := { s.tier with moves := s.tier.moves.map (fun k => if k.extent = m.extent then m else k) } }

/-- Take the queued write of a home line out of its channel: its data has gone with the move. -/
def State.unqueue (s : State) (h : Home) : State :=
  let i := s.instOf h
  let h := s.remapOf h
  let c := s.chan i
  s.setChan i { c with wq := c.wq.filter (fun r => r.home != h), held := c.held.filter (fun r => r.home != h || r.wr.isNone) }

/-- A read of the home line is outstanding at its channel. -/
def State.readPending (s : State) (h : Home) : Bool :=
  let c := s.chan (s.instOf h)
  let h := s.remapOf h
  (c.rq ++ c.held).any (fun r => r.home == h && r.rd.isSome)

/-- What a cell becomes under the other memory's code (R165): none where it cannot be decoded. -/
def State.recode (s : State) (fromHbm toHbm : Bool) (c : Cell) : Option Cell :=
  match c with
  | .raw b k =>
    match decodeWord fromHbm s.addr.served.pop.x8 none (rawWord fromHbm b k) with
    | .clean => some (.raw b (encodeCheck toHbm b))
    | .corrected e => let b := b ^^^ symbolsLine (codeOf fromHbm).r e; some (.raw b (encodeCheck toHbm b))
    | .poison => some .poison
    | .uncorrectable => none
  | c => some c

/-- Put a cell, or what power-up left, at a home line. -/
def State.landCell (s : State) (h : Home) (c : Option Cell) : State :=
  let s := s.unqueue h
  match c with
  | some c => s.setCell (s.remapOf h) c
  | none => { s with mem := s.mem.erase (s.remapOf h).key }

/-- Move one line (R165 to R167): none where the move waits at its cursor. -/
def State.moveLine (s : State) (m : Move) : Option State :=
  let line := m.extent * extentLines + m.cursor
  let old : Home := ⟨m.fromHbm, m.fromHome * extentLines + m.cursor⟩
  let new : Home := ⟨m.toHbm, m.toHome * extentLines + m.cursor⟩
  if !s.valid (leafOf line) && !s.filling (leafOf line) then some s
  else if m.refetch || s.stopped old || s.stopped new || s.readPending old then none
  else
    let s := s.bumpBy Ctr.TM_CNT_MOVE_BYTES 64
    let c := s.homeCell old
    match s.mergeOf line with
    | some e =>
      let (r, _) := s.readCell m.fromHbm none c line (s.keySlotOf line) []
      let s := if c.isNone then s.freed else s
      if r == .uncorrectable && e.mask != Mask.full then none
      else some (((s.unqueue old).setMerge line none).landCell new (some (s.cellOf line (e.overlay r) false)))
    | none =>
      match c with
      | none => some (s.landCell new none)
      | some c =>
        match s.recode m.fromHbm m.toHbm c with
        | some c => some ((s.unqueue old).landCell new (some c))
        | none =>
          match s.held line with
          | some (_, w) => some ((s.unqueue old).landCell new (some (s.cellOf line w.data w.p)))
          | none => none

/-- A line that cannot be read is refetched (R169): the capture, the freeze, the merged refetch. -/
def State.moveFails (s : State) (m : Move) : State :=
  let line := m.extent * extentLines + m.cursor
  let old : Home := ⟨m.fromHbm, m.fromHome * extentLines + m.cursor⟩
  let bad := match s.homeCell old with
    | some c => (s.recode m.fromHbm m.toHbm c).isNone
    | none => false
  if bad && !m.refetch && !s.stopped old then (s.setMove { m with refetch := true }).uncorrectable (s.remapOf old) line 2 else s

/-- Move lines from the cursor on, as far as the move goes; `n` bounds the loop. -/
def State.moveLines : Nat → State → Nat → State
  | 0, s, _ => s
  | n + 1, s, x =>
    match s.moveOf x with
    | none => s
    | some m =>
      if extentLines ≤ m.cursor then s
      else
        match s.moveLine m with
        | some s => moveLines n (s.setMove { m with cursor := m.cursor + 1 }) x
        | none => s.moveFails m

/-- A move has moved its last line (R164, R173): one update of tier and home, the old place is freed. -/
def State.endMove (s : State) (m : Move) : State :=
  let t := s.tier
  let s := { s with tier := { t with moves := t.moves.filter (fun k => k.extent != m.extent), moved := t.moved.insert m.extent (m.toHbm, m.toHome),
                                     freeHbm := if m.fromHbm then t.freeHbm ++ [(m.fromHome, 1)] else t.freeHbm,
                                     freeDdr := if m.fromHbm then t.freeDdr else t.freeDdr ++ [(m.fromHome, 1)] } }
  let s := s.setAge m.extent (if m.toHbm then 0 else 15)
  s.bump (if m.toHbm then Ctr.TM_CNT_PROMOTE else Ctr.TM_CNT_EVICT)

/-- The attribute changes of R39, R40 and R176 that have come to their end: no handover, intent or move of the region is left. -/
def State.attrOver (s : State) (region : Nat) : Bool :=
  match s.addr.regions.find? region with
  | none => true
  | some r =>
    let mine := fun x => decide (r.base ≤ x) && decide (x < r.base + r.len)
    !s.pair.owned.cells.any (fun c => mine c.1) && !s.pair.handover.cells.any (fun c => mine c.1) &&
    (r.bounded || (!s.pair.intents.any (fun c => mine (extentOf c.1)) && !s.pair.owed.any (fun o => o.region == region) && s.pair.dataSent.isEmpty)) &&
    !s.tier.asks.any (fun a => mine a.extent && (a.why == .pin || a.why == .unpin)) && !s.tier.moves.any (fun m => mine m.extent)

/-- Complete the REGION_SET_ATTR commands that no longer wait. -/
def State.attrTry (s : State) : State :=
  let finished := s.pair.attrWait.filter (fun a => s.attrOver a.2)
  if finished.isEmpty then s else
  let s := { s with pair := { s.pair with attrWait := s.pair.attrWait.filter (fun a => !finished.contains a) } }
  finished.foldl (fun s a => s.replTry a.1) s

/-- MOVE_COMPLETE (R164 to R169): the lines left are moved, and the move ends, or waits at its cursor. -/
def execMoveComplete (extent : Nat) (s : State) : Ans :=
  .next (
    if (s.moveOf extent).isNone || s.ch.values.any (fun c => c.state == .retired) then s else
    let s := s.moveLines extentLines extent
    match s.moveOf extent with
    | none => s
    | some m => ((if extentLines ≤ m.cursor then s.endMove m else s).pump).attrTry)

/-- AGEING_PERIOD_END (R173, R175). -/
def execAgeingPeriodEnd (s : State) : Ans :=
  .next (if !s.serving then s else
    let s := { s with tier := { s.tier with age := ⟨s.tier.age.cells.filterMap (fun (c : Nat × Nat) =>
        let n := if (s.placeOf c.1).1 && !s.tier.fresh.has c.1 then min 15 (c.2 + 1) else c.2
        if n = 15 then none else some (c.1, n))⟩ } }
    { s with tier := { s.tier with fresh := {}, cands := {} } })

/-! ## Tenants -/

/-- TENANT_SET (R172). -/
def State.tenantSet (s : State) (inp : List Word) : State × Reply :=
  let t := (wordAt inp 0).field 11 0
  let f := (wordAt inp 1).toNat
  let c := (wordAt inp 2).toNat
  let ceil := if c = 0 then s.tier.hbmTotal else c
  if (wordAt inp 0).field 31 12 ≠ 0 || (wordAt inp 3) ≠ 0 || ceil < f || s.tier.hbmTotal < s.floors - (s.tenant t).floor + f ||
    ceil < pinHbm s.addr.regions.values t then (s, .invalid)
  else
    let ts := s.tier.tenants.put {} t ⟨f, c⟩
    -- the TABLE record of R293
    ({ s with tier := { s.tier with tenants := ts }, vlt := { s.vlt with nand := { s.vlt.nand with tables := { s.vlt.nand.tables with tenants := ts } } } }, .ok [])

/-- TENANT_SET (R172). -/
def execTenantSet (m : Mbx) (inp : List Word) (s : State) : Ans :=
  .next (s.simple m ⟨0xC200, false, true, false, false⟩ (m.len == 16) (fun s => s.tenantSet inp))

/-- TENANT_STATUS (R437). -/
def execTenantStatus (m : Mbx) (inp : List Word) (s : State) : Ans :=
  .next (s.query m ⟨0xC201, true, false, false, true⟩ (m.len == 4) (fun s =>
    let t := (wordAt inp 0).field 11 0
    .ok [w32 t, w32 (s.tenant t).floor, w32 (s.ceilTenant t), w32 (s.useOf t)]))

/-! ## Schedules -/

/-- Steps and runs of a SCHED_LOAD input. -/
def schedSteps (inp : List Word) (n : Nat) : List SchedStep :=
  (List.range n).map (fun k => let w := wordAt inp (8 + 2 * k + 1); ⟨(wordAt inp (8 + 2 * k)).toNat, w.field 13 0, w.field 31 16⟩)

/-- Runs of a SCHED_LOAD input. -/
def schedRuns (inp : List Word) (steps n : Nat) : List (Nat × Nat) :=
  (List.range n).map (fun k => let i := 8 + 2 * steps + 2 * k; ((wordAt inp i).field 22 0, (wordAt inp (i + 1)).field 15 0))

/-- An extent lies in a window of an LD. -/
def State.inWindows (s : State) (ld x : Nat) (write : Bool) : Bool :=
  (s.windows ld).any (fun w => decide (w.dev ≤ x) && decide (x < w.dev + w.len) && (!write || w.write))

/-- SCHED_LOAD (R178, R179, R563). -/
def State.schedLoad (s : State) (ld : Option Nat) (inp : List Word) : State × Reply :=
  let h := wordAt inp 0
  let id := h.field 9 0
  let lead := h.field 20 16
  let nsteps := (wordAt inp 1).toNat
  let nruns := (wordAt inp 2).toNat
  let bell := wide inp 4
  let steps := schedSteps inp nsteps
  let runs := schedRuns inp nsteps nruns
  let exts := fun (r : Nat × Nat) => (List.range r.2).map (· + r.1)
  let bad := h.field 15 10 ≠ 0 || h.field 23 21 ≠ 0 || h.field 31 25 ≠ 0 || lead = 0 || 16 < lead || nsteps = 0 || 4096 < nsteps || nruns = 0 ||
    16384 < nruns || wordAt inp 3 ≠ 0 || bell % 64 ≠ 0 || 2 ^ 44 ≤ bell || (wordAt inp 6).field 31 24 ≠ 0 ||
    s.tier.scheds.has id || decide (1024 ≤ s.tier.scheds.size) ||
    decide (262144 < sumL (s.tier.scheds.values.map (fun c => c.runs.length)) + nruns) ||
    steps.any (fun st => st.count == 0 || decide (16384 < st.count) || decide (nruns < st.firstRun + st.count)) ||
    runs.any (fun r => r.2 == 0 || (exts r).any (fun x => match s.regionOf x with
      | some (_, g) => g.tier == 2
      | none => true)) ||
    (s.doorbellOf (bell / 64)).isSome ||
    (match ld with
     | some l => runs.any (fun r => (exts r).any (fun x => !s.inWindows l x false)) || !s.inWindows l (extentOf (bell / 64)) true
     | none => false)
  if bad then (s, .invalid)
  else
    let c : Sched := { lead := lead, loop := h.field 24 24 == 1, doorbell := bell / 64, subst := (wordAt inp 6).field 23 0, steps := steps,
                       runs := runs, step := nsteps - 1, late := false, blocked := false, fresh := true, triggers := 0, lates := 0, since := s.now }
    ((s.setSched id c).stageSteps id c (List.range (min lead nsteps)), .ok [])

/-- SCHED_LOAD (R178). -/
def execSchedLoad (m : Mbx) (inp : List Word) (s : State) : Ans :=
  .next (s.simple m ⟨0xC210, true, true, false, false⟩
    (m.len == 32 + 8 * (wordAt inp 1).toNat + 8 * (wordAt inp 2).toNat && decide (m.len ≤ 163872)) (fun s => s.schedLoad (s.limitedTo m) inp))

/-- SCHED_UNLOAD (R180): a schedule of an LD's own mailbox is one whose doorbell lies in its windows (R179, DEDUCED). -/
def State.schedUnload (s : State) (ld : Option Nat) (id : Nat) : State × Reply :=
  match s.tier.scheds.find? id with
  | none => (s, .invalid)
  | some c =>
    if (match ld with | some l => !s.inWindows l (extentOf c.doorbell) true | none => false) then (s, .invalid) else
    let xs := c.window.flatMap (s.stepExtents c)
    let s := { s with tier := { s.tier with scheds := s.tier.scheds.erase id, asks := s.tier.asks.filter (fun a => match a.why with
      | .sched k _ => k != id
      | _ => true) } }
    (xs.foldl State.ageSpent s, .ok [])

/-- SCHED_UNLOAD (R180). -/
def execSchedUnload (m : Mbx) (inp : List Word) (s : State) : Ans :=
  .next (s.simple m ⟨0xC211, true, true, false, false⟩ (m.len == 4) (fun s => s.schedUnload (s.limitedTo m) ((wordAt inp 0).field 9 0)))

/-- SCHED_STATUS (R433). -/
def execSchedStatus (m : Mbx) (inp : List Word) (s : State) : Ans :=
  .next (s.query m ⟨0xC212, true, false, false, true⟩ (m.len == 4) (fun s =>
    let id := (wordAt inp 0).field 9 0
    match s.tier.scheds.find? id with
    | none => .invalid
    | some c =>
      if (match s.limitedTo m with | some l => !s.inWindows l (extentOf c.doorbell) true | none => false) then .invalid else
      let staged := ((c.window.flatMap (s.stepExtents c)).eraseDups.filter (fun x => (s.placeOf x).1 && (s.moveOf x).isNone)).length
      .ok ([w32 (id + c.lead * 2 ^ 16 + bit c.loop * 2 ^ 24), w32 c.steps.length, w32 c.runs.length, 0] ++ lohi (64 * c.doorbell) ++
        lohi (c.subst + staged * 2 ^ 40) ++ lohi (s.schedStatus c).toNat ++ [w32 c.triggers, w32 c.lates])))

/-! ## HOME_QUERY -/

/-- A home-map entry (R162). -/
def State.homeEntry (s : State) (x : Nat) : Nat :=
  let h := s.placeOf x
  let e := s.extPair x
  let r := s.regionOf x
  bit (s.moveOf x).isSome * 2 ^ 63 + bit h.1 * 2 ^ 62 + bit r.isNone * 2 ^ 61 + h.2 * 2 ^ 38 + ((r.map (·.1)).getD 0) * 2 ^ 22 + e.epoch * 2 ^ 6 +
    bit e.rd * 2 ^ 5 + bit e.st * 2 ^ 4 + s.ageOf x

/-- HOME_QUERY (R437). -/
def execHomeQuery (m : Mbx) (inp : List Word) (s : State) : Ans :=
  .next (s.query m ⟨0xC220, false, false, false, false⟩ (m.len == 4) (fun s =>
    let x := (wordAt inp 0).field 22 0
    if s.addr.served.len ≤ x then .invalid
    else .ok (lohi (s.homeEntry x) ++ [match s.moveOf x with | some v => w32 v.cursor | none => w32 (2 ^ 32 - 1), 0])))

end Sys2Proof.Machine
end

