-- ==== Sys2Proof/Machine/Revoke.lean ====
section
/-!
DEFINITION. Machine/Revoke.lean: revocation of keys, domains and grants (11_network.md, R358 to R361).
-/
namespace Sys2Proof.Machine

/-- Mark what is revoked REVOKING (R359, step 1). -/
def State.markRevoking (s : State) (w : RevokeWhat) : State :=
  match w with
  | .key i => { s with net := { s.net with keys := s.net.keys.modify i (fun k => { k with state := 2 }) } }
  | .domain d => { s with net := { s.net with domains := s.net.domains.modify d (fun k => { k with state := 2 }) } }
  | .grants _ => s

/-- What is revoked becomes FREE (R359, step 4): its generation stays (R344); grants that were REVOKING leave the list. -/
def State.markFree (s : State) (w : RevokeWhat) : State :=
  match w with
  | .key i => { s with net := { s.net with keys := s.net.keys.modify i (fun k => { gen := k.gen }) } }
  | .domain d => { s with net := { s.net with domains := s.net.domains.modify d (fun k => { state := 0, gen := k.gen, grants := [] }) } }
  | .grants d => { s with net := { s.net with domains := s.net.domains.modify d (fun k => { k with grants := k.grants.filter (fun g => g.state != 2) }) } }

/-- Step 2 of R359 for all that wait at it (R360): the epoch advances where the next counter is empty. -/
def State.revokeAdvance (s : State) : State :=
  let e := s.net.epoch
  if s.net.revs.any (fun r => r.epoch.isNone) && s.net.counts.getD ((e + 1) % 4) 0 = 0 then
    { s with net := { s.net with epoch := (e + 1) % 4,
                                 revs := s.net.revs.map (fun r => if r.epoch.isNone then { r with epoch := some e } else r) } }
  else s

/-- Begin revocations for a command (R359, steps 1 and 2). -/
def State.revokeStart (s : State) (ws : List RevokeWhat) (tag : Nat) : State :=
  let s := ws.foldl State.markRevoking s
  ({ s with net := { s.net with revs := s.net.revs ++ ws.map (fun w => Revocation.mk w none tag) } }).revokeAdvance

/-- The epochs from `e` back to the oldest that may still hold operations: all but those after it up to the present one. -/
def upToEpoch (e now : Nat) : List Nat :=
  let after := (List.range ((now + 4 - e) % 4)).map (fun k => (e + 1 + k) % 4)
  (List.range 4).filter (fun k => !after.contains k)

/-- A revocation has drained (R359, step 3). -/
def State.drained (s : State) (r : Revocation) : Bool :=
  match r.epoch with
  | none => false
  | some e => (upToEpoch e s.net.epoch).all (fun k => s.net.counts.getD k 0 == 0)

end Sys2Proof.Machine
end

