-- ==== Sys2Proof/Machine/Network.lean ====
section
/-!
DEFINITION. Machine/Network.lean: the network engine: frames and priority flow control, the checks of a request, sequence and
acknowledgement, waits for data, connections, keys, domains, the shadow contexts (11_network.md).
-/
namespace Sys2Proof.Machine

/-! ## Ports (R322 to R327) -/

/-- The active ports of a MAC mode (R322). -/
def portsOfMode (m : Nat) : List Nat := if m = 3 then [0, 1, 2, 3] else if m = 2 then [0, 2] else if m = 1 then [0] else []

/-- The rate of each port of a MAC mode in Gb/s (R322). -/
def rateOfMode (m : Nat) : Nat := if m = 3 then 100 else if m = 2 then 200 else if m = 1 then 400 else 0

/-- The ports that a MAC drives in the mode in force. -/
def State.activePorts (s : State) (mac : Nat) : List Nat := portsOfMode (s.net.mode.getD mac 0)

/-- The lossless priorities (R326). -/
def State.lossless (s : State) : List Nat := (List.range 8).filter (fun q => s.fld Reg.NET_PFC Fld.NET_PFC_LOSSLESS / 2 ^ q % 2 == 1)

/-- The priority of a frame (R326). -/
def State.prioOf (s : State) (e : Eth) : Nat := if s.fld Reg.NET_PFC Fld.NET_PFC_TRUST = 1 then e.dscp / 8 % 8 else e.pcp % 8

/-- The share of an active port in its MAC's 512 KiB ingress buffer, and the part of each of its lossless priorities (R327). -/
def State.portShare (s : State) (mac : Nat) : Nat := 524288 / max 1 (s.activePorts mac).length
def State.prioPart (s : State) (mac : Nat) : Nat := s.portShare mac / max 1 s.lossless.length

/-- Buffered bytes at which a lossless priority sends XOFF, and XON (R327). -/
def State.xoffAt (s : State) (mac : Nat) : Nat :=
  s.prioPart mac - s.fldIn Reg.NET_PFC Fld.NET_PFC_HEADROOM_KIB 32 255 * 1024 * rateOfMode (s.net.mode.getD mac 0) / 400
def State.xonAt (s : State) (mac : Nat) : Nat := s.xoffAt mac - 32768

/-- Bytes that a port's ingress buffer holds, and those of one priority. -/
def State.bufferedPort (s : State) (mac port : Nat) : Nat :=
  sumL ((s.net.ingress.filter (fun p => p.eth.mac == mac && p.eth.port == port)).map (·.eth.bytes))
def State.buffered (s : State) (mac port q : Nat) : Nat :=
  sumL ((s.net.ingress.filter (fun p => p.eth.mac == mac && p.eth.port == port && s.prioOf p.eth == q)).map (·.eth.bytes))

/-- The port takes frames: core powered, a mode other than STANDBY (R28), hosts served, its link up. -/
def State.portUp (s : State) (e : Eth) : Bool :=
  s.serving && s.mode.mode != .standby && (s.activePorts e.mac).contains e.port && (s.ethPort e.mac e.port).link

/-- The address is the port's own, or the twin's while TAKEOVER is 1 (R324, R364). -/
def State.addressHere (s : State) (mac port : Nat) (ip : BitVec 128) : Bool :=
  (s.ethPort mac port).addrs.any (fun a => a.ip == ip && (!a.twin || s.pair.takeover))

/-- A frame reaches the responder (R324). -/
def State.forResponder (s : State) (e : Eth) : Bool :=
  e.fcsGood && e.dstMacOwn && s.addressHere e.mac e.port e.dstIp && e.udpDst == 4791 && e.icrcGood

/-- Discard a frame (R324). -/
def State.discard (s : State) (e : Eth) : State := s.bump (Ctr.E_CNT_DISCARD (macPage e.mac) e.port)

/-- Where the answers to a frame go (R325). -/
def State.routeOf (s : State) (e : Eth) : Route :=
  { mac := e.mac, port := e.port, dstMac := e.srcMac, vlan := e.vlan, prio := s.prioOf e, dscp := e.dscp, dstIp := e.srcIp }

/-- Send a PFC frame; pause does not hold it (R328). -/
def State.sendPfc (s : State) (mac port q : Nat) (xoff : Bool) : State :=
  (s.emit (.frame { mac := mac, port := port, prio := q, dstMac := 0x0180C2000001, vlan := 0, dscp := 0, dstIp := 0, udpSrc := 0,
                    what := .pfc q xoff })).bump (Ctr.E_CNT_TX_PKT (macPage mac) port)

/-! ## The checks of R341 -/

/-- The connection that a packet's QPN names in RTS and that is served here (R341, step 2; R342, R364, R365). -/
def State.liveConn (s : State) (qpn : Nat) : Option Conn :=
  match s.conn (qpn % 1048576) with
  | some c =>
    if c.qpn = qpn && c.rts && !c.closing && !c.error && (c.own || s.pair.takeover) && !s.net.handback.contains qpn then some c else none
  | none => none

/-- Step 1 fails (R356). -/
def State.barredPkt (s : State) (p : RdmaPkt) : Bool :=
  s.mode.mode == .hold || (s.afterSeal && (match p.body with | .read _ => false | _ => true))

/-- A packet of RC opcode 6, 7, 8 or 10 keeps message order and lengths (R331, R332); a READ or an ATOMIC stands between messages and finds
responder resources (R338). `dup` is a duplicate READ, which is no successor of its predecessor. -/
def Conn.step5 (c : Conn) (p : RdmaPkt) (dup : Bool) : Bool :=
  let room := decide ((c.res.filter (fun r => match r with | .read .. => true | _ => false)).length < c.respRes)
  match p.body with
  | .write reth pl =>
    match p.bth.opcode, reth, c.wr with
    | 6, some r, none => pl.length == c.mtu && decide (c.mtu < r.len) && decide (r.len ≤ 2 ^ 31)
    | 7, none, some w => pl.length == c.mtu && decide (c.mtu < w.left)
    | 8, none, some w => decide (0 < pl.length) && decide (pl.length ≤ c.mtu) && pl.length == w.left
    | 10, some r, none => pl.length == r.len && decide (pl.length ≤ c.mtu)
    | _, _, _ => false
  | .read r => p.bth.opcode == 0x0C && (dup || c.wr.isNone) && decide (r.len ≤ 2 ^ 31) && room
  | .cmpSwap .. => p.bth.opcode == 0x13 && c.wr.isNone && room
  | .fetchAdd .. => p.bth.opcode == 0x14 && c.wr.isNone && room
  | .other => false

/-- What a packet accesses: rkey, virtual address, length, the right it needs (R341). -/
def Conn.access (c : Conn) (p : RdmaPkt) : Nat × Nat × Nat × Nat :=
  match p.body with
  | .write (some r) _ => (r.rkey, r.va, r.len, 1)
  | .write none _ => match c.wr with | some w => (w.rkey, w.va, w.left, 1) | none => (0, 0, 0, 1)
  | .read r => (r.rkey, r.va, r.len, 0)
  | .cmpSwap va k _ _ => (k, va, 8, 2)
  | .fetchAdd va k _ => (k, va, 8, 2)
  | .other => (0, 0, 0, 0)

/-- A virtual address decodes as a pool address here (R50, R51). -/
def State.poolHere (s : State) (va : Nat) : Bool :=
  let id := va / 2 ^ 50 % 2 ^ 14
  let m := s.mode.mode
  va / 2 ^ 44 % 64 == 0 && (id == s.ctrlId ||
    (s.paired && id == s.ctrlId ^^^ 1 &&
      ((s.fld Reg.SYS_POOL Fld.SYS_POOL_ALIAS == 1 && (m == .serve || m == .restore || m == .hold)) || s.pair.takeover)))

/-- The entries that step 7 finds for an rkey (R343, R345): the key's entry, or the domain's VALID grants. -/
def State.keyEntries (s : State) (c : Conn) (rkey : Nat) : Option (List KeyEnt) :=
  if s.net.prot then
    let d := rkey / 65536 % 65536
    match s.net.domains.find? d with
    | some e => if d = c.domain && rkey / 256 % 256 = 0 && e.state = 1 && e.gen = rkey % 256 then some (e.grants.filter (fun g => g.state == 1)) else none
    | none => none
  else
    match s.net.keys.find? (rkey / 256 % 262144) with
    | some k => if rkey / 2 ^ 26 = 0 && k.state = 1 && k.gen = rkey % 256 then some [k] else none
    | none => none

/-- A range of bytes lies in one region and below L; the region's local index. -/
def State.oneRegion (s : State) (dev len : Nat) : Option (Nat × Region) :=
  let x := dev / extentBytes
  let y := (dev + len - 1) / extentBytes
  if len = 0 || s.addr.served.len ≤ y then none
  else match s.regionOf x with
  | some (i, r) => if y < r.base + r.len then some (i, r) else none
  | none => none

/-- Steps 6 to 9 of R341: the NAK syndrome they give, or none. -/
def State.access69 (s : State) (c : Conn) (p : RdmaPkt) : Option Nat :=
  let (rkey, va, len, right) := c.access p
  if len = 0 then none
  else if !s.poolHere va then some 0x62
  else
    let dev := va % 2 ^ 44
    match s.keyEntries c rkey with
    | none => some 0x62
    | some ks =>
      if !ks.any (fun k => k.rights / 2 ^ right % 2 == 1 && decide (k.base ≤ dev) && decide (dev + len ≤ k.base + k.len)) then some 0x62
      else if (s.oneRegion dev len).isNone then some 0x62
      else if right = 2 && dev % 8 ≠ 0 then some 0x61
      else none

/-- The bytes a packet touches itself: device address and length. -/
def Conn.bytes (c : Conn) (p : RdmaPkt) : Nat × Nat :=
  let (_, va, len, _) := c.access p
  (va % 2 ^ 44, match p.body with | .write _ pl => pl.length | _ => len)

/-- Leaves of a range of bytes that are not restored. -/
def State.unrestoredIn (s : State) (dev len : Nat) : List Nat :=
  s.vlt.unrestored.keys.filter (fun l => decide (dev / 4096 ≤ l) && decide (l ≤ (dev + len - 1) / 4096))

/-- A packet meets data that is not resident (R353, step 10). -/
def State.nonResident (s : State) (c : Conn) (p : RdmaPkt) : Bool :=
  let (dev, len) := c.bytes p
  if len = 0 then false else
  let reads := match p.body with | .write .. => false | _ => true
  let frozenMatters := s.mode.mode == .solo || (s.mode.mode == .restore && !s.twinServes)
  !(s.unrestoredIn dev len).isEmpty ||
  (reads && frozenMatters && s.ch.values.any (fun h => h.state == .frozen) &&
    (List.range (linesSpan dev len)).any (fun k =>
      let line := dev / 64 + k
      (s.chan (s.instOf (s.homeOf line))).state == .frozen)) ||
  s.fencedExtent (dev / extentBytes)

/-- Start what makes the data resident (R353, R74). -/
def State.raiseData (s : State) (c : Conn) (p : RdmaPkt) : State :=
  let (dev, len) := c.bytes p
  (s.unrestoredIn dev len).foldl State.onDemand s

/-! ## Acceptance (R349, R338, R358) -/

/-- Bytes of a line that a packet writes: the packet's payload laid from a byte address. -/
def lineBytes (addr : Nat) (pl : List Byte) (line : Nat) : Line × Mask :=
  let lo := max addr (64 * line)
  let hi := min (addr + pl.length) (64 * line + 64)
  let n := hi - lo
  let at_ := lo - 64 * line
  (BitVec.ofNat 512 (bytesVal ((pl.drop (lo - addr)).take n) * 2 ^ (8 * at_)), BitVec.ofNat 64 ((2 ^ n - 1) * 2 ^ at_))

/-- Count a packet against the present epoch (R358). -/
def State.epochEnter (s : State) : State :=
  { s with net := { s.net with counts := s.net.counts.set s.net.epoch (s.net.counts.getD s.net.epoch 0 + 1) } }

/-- A STALL wait ends: its epoch's count falls (R358). -/
def State.epochExit (s : State) (e : Option Nat) : State :=
  match e with
  | none => s
  | some e => { s with net := { s.net with counts := s.net.counts.set e (s.net.counts.getD e 0 - 1) } }

/-- The entries of a context with room for one more (R338): the oldest ATOMIC entry makes place. -/
def Conn.takeRes (c : Conn) (r : Res) : List Res :=
  let isAtomic := fun r => match r with | Res.atomic .. => true | _ => false
  let atomics := (c.res.filter isAtomic).length
  let l := if c.respRes ≤ c.res.length || (isAtomic r && 16 ≤ atomics) then
      match c.res.find? isAtomic with
      | some a => c.res.erase a
      | none => c.res
    else c.res
  l ++ [r]

/-- Execute a packet that has passed every step (R349, R351); `ep` is the epoch it is counted against. -/
def State.acceptPkt (s : State) (slot : Nat) (c : Conn) (p : RdmaPkt) (dup : Bool) (ep : Option Nat) : State :=
  let (rkey, va, len, _) := c.access p
  let dev := va % 2 ^ 44
  let serial := s.net.nextSerial
  let s := { s with net := { s.net with nextSerial := serial + 1 } }
  let owner := if s.net.prot || len = 0 then [] else
    match s.net.keys.find? (rkey / 256 % 262144) with
    | some k => if c.usedBy.contains k.owner then [] else [k.owner]
    | none => []
  let c := { c with route := s.routeOf p.eth, routed := true, ready := true, usedBy := c.usedBy ++ owner,
                    nakPending := if dup then c.nakPending else false }
  let step := match p.body with | .read r => readPkts c.mtu r.len | _ => 1
  let c := if dup then c else { c with epsn := (c.epsn + step) % psnMod }
  let op : NetOp := { kind := 0, psn := p.bth.psn, psnEnd := (p.bth.psn + step - 1) % psnMod, ends := true, ackReq := p.bth.ackReq, addr := dev,
                      len := len, left := 0, begun := false, got := {}, sentPkts := 0, epoch := ep, serial := serial, abandoned := false }
  match p.body with
  | .write _ pl =>
    let n := pl.length
    let ends := p.bth.opcode == 8 || p.bth.opcode == 10
    let asked := p.bth.ackReq || (match c.wr with | some w => w.ackReq | none => false)
    let lines := linesSpan dev n
    let c := { c with wr := if ends then none else some ⟨rkey, va + n, len - n, asked⟩,
                      ops := c.ops ++ [{ op with ends := ends, ackReq := asked, len := n, left := lines }] }
    let s := s.setConn slot c
    let s := (List.range lines).foldl (fun s k =>
      let line := dev / 64 + k
      let (d, m) := lineBytes dev pl line
      s.submit ⟨2, line, .write d m false, .rdma slot serial k, false⟩) s
    s.connRun slot
  | .read r =>
    let c := { c with res := c.takeRes (.read p.bth.psn r.len r.va),
                      ops := c.ops ++ [{ op with kind := 1, left := linesSpan dev r.len }] }
    ((s.setConn slot c).connRun slot).pump
  | .cmpSwap _ _ cmp swp =>
    let c := { c with res := c.takeRes (.atomic p.bth.psn 0), ops := c.ops ++ [{ op with kind := 2, left := 1 }] }
    (s.setConn slot c).submit ⟨2, dev / 64, .cmpSwap (dev / 8 % 8) cmp swp, .rdma slot serial 0, false⟩
  | .fetchAdd _ _ a =>
    let c := { c with res := c.takeRes (.atomic p.bth.psn 0), ops := c.ops ++ [{ op with kind := 2, left := 1 }] }
    (s.setConn slot c).submit ⟨2, dev / 64, .fetchAdd (dev / 8 % 8) a, .rdma slot serial 0, false⟩
  | .other => s

/-! ## Waits and discards (R353 to R356) -/

/-- Packets of a connection leave the miss buffer; how many. -/
def State.dropWaiting (s : State) (slot : Nat) : State × Nat :=
  let (mine, rest) := s.net.missbuf.partition (fun c => c.1 == slot)
  ({ s with net := { s.net with missbuf := rest } }, mine.length)

/-- A packet and every packet that waits behind it are discarded (R355). -/
def State.dropPkts (s : State) (slot : Nat) (c : Conn) : State :=
  let (s, n) := (s.setConn slot { c with nakPending := true }).dropWaiting slot
  s.bumpBy Ctr.NET_CNT_DROP (n + 1)

/-- Steps 5 to 10 of R341, and acceptance. -/
def State.checkPkt (s : State) (slot : Nat) (c : Conn) (p : RdmaPkt) (dup : Bool) : State :=
  if !c.step5 p dup then s.nakError slot c 0x61 p.bth.psn
  else
    let (_, va, len, _) := c.access p
    match s.access69 c p with
    | some syn => s.nakError slot c syn p.bth.psn
    | none =>
      if s.nonResident c p then
        let s := s.raiseData c p
        let drop := match s.oneRegion (va % 2 ^ 44) len with | some (_, r) => r.drop | none => false
        if drop then s.dropPkts slot c
        else ((s.epochEnter.setConn slot { c with stall := some (p, s.now, some s.net.epoch) }).bump Ctr.NET_CNT_STALL)
      else if len = 0 then s.acceptPkt slot c p dup none
      else s.epochEnter.acceptPkt slot c p dup (some s.net.epoch)

/-- A duplicate (R351). -/
def State.dupPkt (s : State) (slot : Nat) (c : Conn) (p : RdmaPkt) : State :=
  let s := s.bump Ctr.NET_CNT_DUP
  match p.body with
  | .write .. =>
    if (c.donePsn + psnMod - p.bth.psn) % psnMod < 8388608 then s.sendAck slot c else s
  | .read _ =>
    let later := fun q => decide ((q + psnMod - p.bth.psn) % psnMod < 8388608)
    let c := { c with ops := c.ops.map (fun o => if o.kind == 1 && later o.psn then o.abandon else o),
                      res := c.res.filter (fun r => match r with | .read q _ _ => !later q | _ => true) }
    ((s.setConn slot c).checkPkt slot c p true).connRun slot
  | .other => s.nakError slot c 0x61 p.bth.psn
  | _ =>
    if c.ops.any (fun o => o.kind == 2 && o.psn == p.bth.psn) then s
    else match c.res.findSome? (fun r => match r with | .atomic q v => if q = p.bth.psn then some v else none | _ => none) with
    | some v => s.sendFrameEth (c.frame (.atomicAck c.reqQpn p.bth.psn c.msn v))
    | none => s.nakError slot c 0x61 p.bth.psn

/-- A CNP goes to the requester (R334). -/
def State.cnp (s : State) (slot : Nat) (c : Conn) (p : RdmaPkt) : State × Conn :=
  let gap := 1000 * max 1 (s.fld Reg.NET_CNP Fld.NET_CNP_GAP_US)
  let due := match c.cnpAt with | none => true | some t => decide (t + gap ≤ s.now)
  if s.fld Reg.NET_CTL Fld.NET_CTL_CNP_EN = 1 && p.eth.ecn = 3 && due then
    let c := { c with cnpAt := some s.now }
    let f := { c.frame (.cnp c.reqQpn) with prio := s.fld Reg.NET_CNP Fld.NET_CNP_PRIO }
    (((s.setConn slot c).sendFrameEth f).bump Ctr.NET_CNT_CNP, c)
  else (s, c)

/-- Steps 3 to 10 of R341 for a packet whose context is cached. -/
def State.takePkt (s : State) (slot : Nat) (c : Conn) (p : RdmaPkt) : State :=
  let s := { s with net := { s.net with cached := s.net.cached.insert slot s.net.useTick, useTick := s.net.useTick + 1 } }
  let c := if c.routed then c else { c with route := s.routeOf p.eth }
  let s := s.setConn slot c
  if p.bth.tver ≠ 0 || p.bth.pkey ≠ c.pkey then s.bump Ctr.NET_CNT_PKEY
  else
    let (s, c) := s.cnp slot c p
    let d := (p.bth.psn + psnMod - c.epsn) % psnMod
    if d = 0 then s.checkPkt slot c p false
    else if d < 8388608 then
      if c.nakPending then s
      else ((s.sendFrameEth (c.frame (.nak c.reqQpn 0x60 ((c.epsn + psnMod - 1) % psnMod) c.msn))).setConn slot { c with nakPending := true }).bump
        Ctr.NET_CNT_NAK_SEQ
    else s.dupPkt slot c p

/-- Steps 1 and 2 of R341, then the rest for a packet whose context is cached. -/
def State.netCtx (s : State) (p : RdmaPkt) : State :=
  let slot := p.bth.qpn % 1048576
  if s.barredPkt p then
    let s := s.bump Ctr.NET_CNT_DROP
    match s.liveConn p.bth.qpn with
    | some c => s.setConn slot { c with nakPending := true }
    | none => s
  else match s.liveConn p.bth.qpn with
  | none => s.discard p.eth
  | some c => s.takePkt slot c p

/-- A packet waits in the miss buffer, or is discarded where it finds no place (R340). -/
def State.intoMissbuf (s : State) (slot : Nat) (p : RdmaPkt) : State :=
  if 256 ≤ s.net.missbuf.length || 32 ≤ (s.net.missbuf.filter (fun c => c.1 == slot)).length then s.bump Ctr.QPC_CNT_MISS_DROP
  else
    let s := { s with net := { s.net with missbuf := s.net.missbuf ++ [(slot, p)] } }
    if s.net.cached.has slot || s.net.fetching.contains slot then s
    else { s.bump Ctr.QPC_CNT_MISS with net := { s.net with fetching := s.net.fetching ++ [slot] } }

/-- A packet the engine has drained from its ingress buffer. -/
def State.netIn (s : State) (p : RdmaPkt) : State :=
  let slot := p.bth.qpn % 1048576
  if 32 ≤ p.bth.opcode then s.discard p.eth
  else if s.barredPkt p then s.netCtx p
  else match s.liveConn p.bth.qpn with
  | none => s.netCtx p
  | some c =>
    if !s.net.cached.has slot || c.stall.isSome || s.net.missbuf.any (fun q => q.1 == slot) then s.intoMissbuf slot p
    else s.netCtx p

/-- Packets of a connection leave the miss buffer in order while its context is there and none of them stalls; `n` bounds the loop. -/
def State.drainMiss : Nat → State → Nat → State
  | 0, s, _ => s
  | n + 1, s, slot =>
    let stalled := match s.conn slot with | some c => c.stall.isSome | none => false
    if !s.net.cached.has slot || stalled then s
    else match s.net.missbuf.find? (fun q => q.1 == slot) with
    | none => s
    | some q => ({ s with net := { s.net with missbuf := s.net.missbuf.erase q } }.netCtx q.2).drainMiss n slot

/-- A STALL wait ends in acceptance where its data is resident (R354). -/
def State.retryStall (s : State) (slot : Nat) : State :=
  match s.conn slot with
  | none => s
  | some c =>
    match c.stall with
    | none => s
    | some (p, _, ep) =>
      if s.barredPkt p || s.nonResident c p then s
      else
        let dup := p.bth.psn ≠ c.epsn
        (s.acceptPkt slot { c with stall := none } p dup ep).drainMiss 256 slot

/-- All STALL waits whose data is resident. -/
def State.retryStalls (s : State) : State :=
  (s.net.conns.cells.filter (fun c => c.2.stall.isSome)).foldl (fun s c => s.retryStall c.1) s

/-- The network tables go to the vault as TABLE records (R367). -/
def State.saveNet (s : State) : State :=
  let addrs : SMap (List PortAddr) := ⟨(s.net.ports.cells.filter (fun c => !c.2.addrs.isEmpty)).map (fun c => (c.1, c.2.addrs))⟩
  { s with vlt := { s.vlt with nand := { s.vlt.nand with tables := { s.vlt.nand.tables with
      memKeys := s.net.keys, domains := s.net.domains, listen := s.net.listen, addrs := addrs, prot := s.net.prot } } } }

/-- TRACKER_ENTRY_FREED (R63, R65): an entry whose completion has gone and that owes the twin nothing frees; a waiting source is granted it. -/
def State.entryFreed (s : State) (id : Nat) : State :=
  match s.entry id with
  | none => s
  | some e =>
    if !e.sent || e.owed then s
    else
      let s := s.dropEntry id
      let s := match e.dst with
        | .command tag => s.finish tag (.ok [])
        | _ => s
      let (s, ids) := s.grantWaiting
      ids.foldl State.tryEntry s

/-! ## The ingress buffers (R69, R327 to R330) -/

/-- Take packets from the ingress buffers while NET is not held back (R69); `n` bounds the loop. -/
def State.drainIn : Nat → State → State
  | 0, s => s
  | n + 1, s =>
    if s.heldBack 2 then s
    else match s.net.ingress with
    | [] => s
    | p :: rest => ({ s with net := { s.net with ingress := rest } }.netIn p).drainIn n

/-- XON where a priority's bytes have fallen to the XON point; a sent storm ends there (R327, R330). -/
def State.sendXons (s : State) : State :=
  s.net.ports.cells.foldl (fun s c =>
    let mac := c.1 / 4
    let port := c.1 % 4
    let low := fun q => decide (s.buffered mac port q ≤ s.xonAt mac)
    let p := s.ethPort mac port
    let s := s.setEthPort mac port { p with stopped := p.stopped.filter (fun q => !low q) }
    (p.pausedTx.keys.filter low).foldl (fun s q =>
      let p := s.ethPort mac port
      (s.setEthPort mac port { p with pausedTx := p.pausedTx.erase q }).sendPfc mac port q false) s) s

/-- The engine drains its buffers as far as it may, and STALL waits whose data has come end. -/
def State.netRun (s : State) : State := (s.retryStalls.drainIn s.net.ingress.length).sendXons

/-- XOFF where a lossless priority has reached its point (R327). -/
def State.sendXoff (s : State) (mac port q : Nat) : State :=
  let p := s.ethPort mac port
  if s.xoffAt mac ≤ s.buffered mac port q && !p.pausedTx.has q && !p.stopped.contains q then
    (s.setEthPort mac port { p with pausedTx := p.pausedTx.insert q s.now }).sendPfc mac port q true
  else s

/-- A frame for the responder arrives (R324 to R327, R330). -/
def State.netArrive (s : State) (p : RdmaPkt) : State :=
  let e := p.eth
  let q := s.prioOf e
  if !s.portUp e then s
  else if !s.forResponder e then s.discard e
  else if !s.lossless.contains q && s.portShare e.mac < s.bufferedPort e.mac e.port + e.bytes then
    s.bump (Ctr.E_CNT_DROP_LOSSY (macPage e.mac) e.port)
  else if (s.ethPort e.mac e.port).stopped.contains q && s.prioPart e.mac < s.buffered e.mac e.port q + e.bytes then
    s.bump (Ctr.E_CNT_DROP_STORM (macPage e.mac) e.port)
  else
    let s := s.bump (Ctr.E_CNT_RX_PKT (macPage e.mac) e.port)
    let s := { s with net := { s.net with ingress := s.net.ingress ++ [p] } }.netRun
    if s.lossless.contains q then s.sendXoff e.mac e.port q else s

/-- RDMA_WRITE_PACKET (R349). -/
def execRdmaWritePacket (p : RdmaPkt) (s : State) : Ans := .next (s.netArrive p)

/-- RDMA_READ_REQUEST (R349). -/
def execRdmaReadRequest (p : RdmaPkt) (s : State) : Ans := .next (s.netArrive p)

/-- CMP_SWAP (R73). -/
def execCmpSwap (p : RdmaPkt) (s : State) : Ans := .next (s.netArrive p)

/-- FETCH_ADD (R73). -/
def execFetchAdd (p : RdmaPkt) (s : State) : Ans := .next (s.netArrive p)

/-- RC_UNSUPPORTED_OPCODE (R331). -/
def execRcUnsupportedOpcode (p : RdmaPkt) (s : State) : Ans := .next (s.netArrive p)

/-- TRACKER_ENTRY_FREED (R64, R65): the freed entry goes to a request that waits; NET drains on (R69). -/
def execTrackerEntryFreed (id : Nat) (s : State) : Ans := .next ((s.entryFreed id).netRun)

/-- RX_FRAME_DISCARDED (R324): a frame for no one here. -/
def execRxFrameDiscarded (e : Eth) (_why : RxDrop) (s : State) : Ans := .next (if s.portUp e then s.discard e else s)

/-- A frame for control firmware. -/
def State.toFirmware (s : State) (e : Eth) (kind : Nat) : State := s.emit (.toFirmware e.mac e.port kind)

/-- ARP_ND_FRAME (R324, R364): firmware answers for the addresses that are the port's. -/
def execArpNdFrame (e : Eth) (target : BitVec 128) (s : State) : Ans :=
  .next (
    if !s.portUp e || !e.fcsGood then s
    else
      let s := s.toFirmware e 0
      if s.addressHere e.mac e.port target then
        let r := s.routeOf e
        s.sendFrameEth { mac := r.mac, port := r.port, prio := r.prio, dstMac := r.dstMac, vlan := r.vlan, dscp := r.dscp, dstIp := r.dstIp,
                         udpSrc := 0, what := .arpReply target }
      else s)

/-- PROBE_PACKET (R366): a probe of the pair is returned with the own CTRL_ID while the core runs. -/
def execProbePacket (e : Eth) (pairId _ctrlId : Nat) (seq : BitVec 64) (s : State) : Ans :=
  .next (
    let port := s.fld Reg.NET_PROBE Fld.NET_PROBE_PORT
    let own := (s.ethPort e.mac e.port).addrs.any (fun a => a.ip == e.dstIp && !a.twin)
    if !s.pwr.core || s.mode.mode == .standby || !(s.ethPort e.mac e.port).link then s
    else if !(e.fcsGood && e.dstMacOwn && own && e.udpDst == (if port = 4791 then 4793 else port)) then s.discard e
    else if pairId ≠ s.pairId then s
    else
      let r := s.routeOf e
      s.sendFrameEth { mac := r.mac, port := r.port, prio := r.prio, dstMac := r.dstMac, vlan := r.vlan, dscp := r.dscp, dstIp := r.dstIp,
                       udpSrc := e.udpDst, what := .probeReply pairId s.ctrlId seq })

/-! ## Pause (R328 to R330) -/

/-- A priority goes on: its frames leave egress (R329). -/
def State.unpause (s : State) (mac port q : Nat) : State :=
  let p := s.ethPort mac port
  let (go, stay) := p.egress.partition (fun f => f.prio == q)
  go.foldl State.sendFrameEth (s.setEthPort mac port { p with pausedRx := p.pausedRx.erase q, egress := stay })

/-- PFC_FRAME_RECEIVED (R329): each priority of the frame pauses, or goes on where its quanta are 0. -/
def execPfcFrameReceived (mac port : Nat) (prios : BitVec 8) (quanta : List Nat) (s : State) : Ans :=
  .next (
    if !(s.ethPort mac port).link then s
    else ((List.range 8).filter (fun q => prios.getLsbD q)).foldl (fun s q =>
      let p := s.ethPort mac port
      if quanta.getD q 0 = 0 then s.unpause mac port q
      else if p.ignore.contains q || p.pausedRx.has q then s
      else s.setEthPort mac port { p with pausedRx := p.pausedRx.insert q s.now }) s)

/-- PAUSE_QUANTA_EXPIRED (R329). -/
def execPauseQuantaExpired (mac port prio : Nat) (s : State) : Ans :=
  .next (if (s.ethPort mac port).pausedRx.has prio then s.unpause mac port prio else s)

/-- XOFF_REFRESH (R328). -/
def execXoffRefresh (mac port prio : Nat) (s : State) : Ans :=
  .next (if (s.ethPort mac port).pausedTx.has prio then s.sendPfc mac port prio true else s)

/-- A pause storm is reported: the port's unit, as a lost port (R330). -/
def State.stormReport (s : State) (mac port : Nat) : State := s.report (unitId 0x10 (portKey mac port)) 0x16 Cls.major

/-- RX_PAUSE_STORM (R330): received pause is ignored, and frames go on. -/
def execRxPauseStorm (mac port prio : Nat) (s : State) : Ans :=
  .next (
    let p := s.ethPort mac port
    if !p.pausedRx.has prio then s
    else
      let s := (s.setEthPort mac port { p with ignore := p.ignore ++ [prio] }).unpause mac port prio
      (s.setFld (Reg.E_PORT_STATUS (macPage mac) port) Fld.E_PORT_STATUS_STORM_RX 1).stormReport mac port)

/-- RX_STORM_IGNORE_END (R330). -/
def execRxStormIgnoreEnd (mac port prio : Nat) (s : State) : Ans :=
  .next (
    let p := s.ethPort mac port
    s.setEthPort mac port { p with ignore := p.ignore.filter (fun q => q != prio) })

/-- TX_PAUSE_STORM (R330): the port sends no more XOFF for the priority and discards what does not fit. -/
def execTxPauseStorm (mac port prio : Nat) (s : State) : Ans :=
  .next (
    let p := s.ethPort mac port
    if !p.pausedTx.has prio then s
    else
      let s := s.setEthPort mac port { p with pausedTx := p.pausedTx.erase prio, stopped := p.stopped ++ [prio] }
      (s.setFld (Reg.E_PORT_STATUS (macPage mac) port) Fld.E_PORT_STATUS_STORM_TX 1).stormReport mac port)

/-- MAC_MODE_RETRAIN_DONE (R323): the MAC's links come up in the committed mode. -/
def execMacModeRetrainDone (mac : Nat) (s : State) : Ans :=
  .next (
    if !s.net.retrain.contains mac then s
    else
      let m := s.fld (Reg.E_CFG (macPage mac)) Fld.E_CFG_MODE
      let s := { s with net := { s.net with mode := s.net.mode.set mac m, retrain := s.net.retrain.filter (fun k => k != mac) } }
      (portsOfMode m).foldl (fun s p => s.setEthPort mac p { s.ethPort mac p with link := true }) s)

/-- ETHERNET_LINK_CHANGE (R396): a port's link comes up, or is lost and reported. -/
def execEthernetLinkChange (mac port : Nat) (up : Bool) (s : State) : Ans :=
  .next (
    let p := s.ethPort mac port
    if !s.pwr.core || s.mode.mode == .standby || !(s.activePorts mac).contains port || s.net.retrain.contains mac || p.link = up then s
    else
      let s := s.setEthPort mac port { p with link := up }
      if up then s else s.report (unitId 0x10 (portKey mac port)) 0x16 Cls.major)

/-! ## The context cache, waits that end -/

/-- A context is pinned while an operation of its connection is in the tracker (R339). -/
def State.pinned (s : State) (slot : Nat) : Bool := match s.conn slot with | some c => !c.ops.isEmpty | none => false

/-- Cached contexts of a slot's set (R339). -/
def State.cachedSet (s : State) (slot : Nat) : List (Nat × Nat) :=
  s.net.cached.cells.filter (fun c => Config.qpnHash c.1 % 512 == Config.qpnHash slot % 512)

/-- CONTEXT_FETCH_DONE (R339, R340): the context takes a place of its set, the least recently used unpinned one where all are taken, and the
packets that wait go on; with all pinned the fetch waits. -/
def execContextFetchDone (slot : Nat) (s : State) : Ans :=
  .next (
    let place (s : State) : State :=
      ({ s with net := { s.net with cached := s.net.cached.insert slot s.net.useTick, useTick := s.net.useTick + 1,
                                    fetching := s.net.fetching.filter (fun k => k != slot) } }).drainMiss 256 slot
    if !s.net.fetching.contains slot then s
    else if s.net.cached.size < 16 || (s.cachedSet slot).length < 16 then place s
    else match (s.cachedSet slot).filter (fun c => !s.pinned c.1) with
    | [] => s
    | c :: l =>
      let v := l.foldl (fun a b => if b.2 < a.2 then b else a) c
      place { s with net := { s.net with cached := s.net.cached.erase v.1 } })

/-- STALL_EXPIRED (R354): the packet is handled as under DROP. -/
def execStallExpired (slot : Nat) (s : State) : Ans :=
  .next (
    match (s.retryStall slot).conn slot with
    | none => s.retryStall slot
    | some c =>
      let s := s.retryStall slot
      match c.stall with
      | none => s
      | some (_, _, ep) => ((s.epochExit ep).bump Ctr.NET_CNT_STALL_EXPIRED).dropPkts slot { c with stall := none })

/-- ACK_DELAY_EXPIRED (R352). -/
def execAckDelayExpired (slot : Nat) (s : State) : Ans :=
  .next (match s.conn slot with
    | some c => if c.ackCount = 0 || c.error || c.closing then s else s.sendAck slot c
    | none => s)

/-- REVOCATION_DRAIN_DONE (R359): the revocation at this place of the list has drained; its entry is FREE and its command goes on. -/
def execRevocationDrainDone (index : Nat) (s : State) : Ans :=
  .next (
    let s := s.revokeAdvance
    match s.net.revs[index]? with
    | none => s
    | some r =>
      if !s.drained r then s
      else (({ s with net := { s.net with revs := s.net.revs.eraseIdx index } }).markFree r.what).bump Ctr.NET_CNT_REVOKE |>.saveNet |>.replTry r.tag |>.netRun)

end Sys2Proof.Machine
end

