-- ==== Sys2Proof/Machine/NetCmd.lean ====
section
/-!
DEFINITION. Machine/NetCmd.lean: connection setup and teardown, the shadow contexts, the network commands and the network tables across
RESTORE (11_network.md, R335 to R337, R342 to R347, R359, R362 to R367; R437).
-/
namespace Sys2Proof.Machine

/-! ## Slots and setup (R335, R336) -/

/-- The lowest slot free in the own view, from `lo` on (R335). -/
def State.newSlot (s : State) (lo : Nat) : Option Nat :=
  ((List.range (s.net.conns.size + 1)).map (· + lo)).find? (fun k => !s.net.conns.has k && decide (k < s.net.maxConn))

/-- The responder QPN of a slot (R335). -/
def State.qpnOf (s : State) (slot : Nat) : Nat := 2 ^ 23 + s.ctrlId % 2 * 2 ^ 20 + slot

/-- Answer a REQ with REJ; its reason is open. -/
def State.sendRej (s : State) (r : Route) (udpSrc : Nat) : State :=
  let f : NetFrame := { mac := r.mac, port := r.port, prio := r.prio, dstMac := r.dstMac, vlan := r.vlan, dscp := r.dscp, dstIp := r.dstIp,
                        udpSrc := udpSrc, what := .cmRej (s.freeVal % 65536) }
  s.freed.sendFrameEth f

/-- Take a slot for a connection: at once while unpaired or alone, else by proposing it to the twin (R335, R336). -/
def State.propose (s : State) (slot : Nat) (c : Conn) : State :=
  let c := { c with qpn := s.qpnOf slot }
  if s.replicates then (s.setConn slot c).control (.connSetup slot { c with own := false, rts := true, route := {} })
  else s.sendRep slot c

/-- A CM frame that reaches control firmware (R324, R336); in HOLD every packet is discarded (R356). -/
def State.cmIn (s : State) (e : Eth) (k : State → State) : State :=
  if !s.portUp e then s
  else if !s.forResponder e then s.discard e
  else if s.mode.mode == .hold then s.bump Ctr.NET_CNT_DROP
  else k (s.toFirmware e 1)

/-- CM_REQ (R336): REP after the slot is agreed and, in SERVE, the twin holds the shadow; or REJ. -/
def execCmReq (e : Eth) (r : CmReq) (s : State) : Ans :=
  .next (s.cmIn e (fun s =>
    let rt := s.routeOf e
    match s.net.listen.find? (fun l => l.1 == r.serviceId), s.newSlot 0 with
    | some (_, d), some slot =>
      if !r.rc || !(r.mtu == 1024 || r.mtu == 2048 || r.mtu == 4096) then s.sendRej rt e.udpSrc
      else
        let c : Conn := {
          own := true, qpn := 0, reqQpn := r.reqQpn, pkey := r.pkey, mtu := r.mtu, udpSrc := e.udpSrc, domain := d,
          respRes := min r.initDepth (s.fldIn Reg.NET_CONN Fld.NET_CONN_RESP_MAX 1 16), epsn := r.startPsn, msn := 0, nakPending := false,
          rts := false, ready := false, error := false, closing := false, wr := none, route := rt, res := [], ops := [], ackCount := 0,
          ackSince := 0, donePsn := (r.startPsn + psnMod - 1) % psnMod, cnpAt := none, stall := none, routed := false, usedBy := [],
          twinWait := false, drepOwed := false }
        s.propose slot c
    | _, _ => s.sendRej rt e.udpSrc))

/-- CM_RTU (R336). -/
def execCmRtu (e : Eth) (qpn : Nat) (s : State) : Ans :=
  .next (s.cmIn e (fun s => match s.liveConn qpn with
    | some c => s.setConn (qpn % 1048576) { c with ready := true }
    | none => s))

/-- CM_MRA (R336): firmware's; nothing of the connection changes. -/
def execCmMra (e : Eth) (_qpn : Nat) (s : State) : Ans := .next (s.cmIn e (fun s => s))

/-! ## Teardown (R337) -/

/-- A connection ends here: its answers and waits are dropped; the slot is freed once its operations are gone. `drep`: a DREP is owed;
`wait`: the twin has to apply the end too (R362). -/
def State.closeConn (s : State) (slot : Nat) (c : Conn) (drep wait : Bool) : State :=
  let s := match c.stall with | some (_, _, ep) => s.epochExit ep | none => s
  let (s, _) := s.dropWaiting slot
  let c := { c with closing := true, wr := none, stall := none, res := [], ops := c.ops.map NetOp.abandon, twinWait := wait,
                    drepOwed := drep && wait }
  let s := s.setConn slot c
  let s := if wait then s.control (.connEnd c.qpn) else s
  let s := if drep && !wait then s.sendFrameEth (c.frame (.cmDrep c.reqQpn)) else s
  s.connRun slot

/-- The connection of a QPN, whatever its state. -/
def State.connOfQpn (s : State) (qpn : Nat) : Option Conn :=
  match s.conn (qpn % 1048576) with
  | some c => if c.qpn = qpn then some c else none
  | none => none

/-- End a connection by the requester's or firmware's wish (R337, R362). -/
def State.endConn (s : State) (qpn : Nat) (drep : Bool) : State :=
  match s.connOfQpn qpn with
  | some c =>
    if c.closing then (if drep && c.twinWait then s.setConn (qpn % 1048576) { c with drepOwed := true } else s)
    else if !c.rts then s
    else s.closeConn (qpn % 1048576) c drep (c.own && s.replicates)
  | none => s

/-- CM_REJ (R337): REJ after REP. -/
def execCmRej (e : Eth) (qpn : Nat) (s : State) : Ans := .next (s.cmIn e (fun s => s.endConn qpn false))

/-- CM_DREQ (R337): the connection ends, and DREP answers. -/
def execCmDreq (e : Eth) (qpn : Nat) (s : State) : Ans := .next (s.cmIn e (fun s => s.endConn qpn true))

/-- CM_DREP (R337): the disconnection is complete. -/
def execCmDrep (e : Eth) (qpn : Nat) (s : State) : Ans :=
  .next (s.cmIn e (fun s => match s.connOfQpn qpn with | some c => if c.closing then s.connGone (qpn % 1048576) else s | none => s))

/-- ERROR_DREQ (R342): firmware disconnects a connection in ERROR. -/
def execErrorDreq (qpn : Nat) (s : State) : Ans :=
  .next (match s.connOfQpn qpn with
    | some c => if c.error && !c.closing then (s.sendFrameEth (c.frame (.cmDreq c.reqQpn))).endConn qpn false else s
    | none => s)

/-! ## What the twin's CONTROL messages ask of connections (R335, R362, R363) -/

/-- The twin proposes a slot (R335): its shadow is stored, or the slot is refused; the bow yields one that it has proposed itself. -/
def State.connSetupRx (s : State) (slot : Nat) (c : Conn) : State :=
  match s.conn slot with
  | none => if slot < s.net.maxConn then (s.setConn slot c).control (.connOk slot) else s.control (.connNo slot)
  | some d =>
    if d.own && !d.rts && !d.closing && s.isBow then
      let s := (s.setConn slot c).control (.connOk slot)
      match s.newSlot 0 with
      | some k => s.propose k d
      | none => s.sendRej d.route d.udpSrc
    else s.control (.connNo slot)

/-- The twin holds the shadow: the REP goes (R336). -/
def State.connOkRx (s : State) (slot : Nat) : State :=
  match s.conn slot with
  | some c => if c.own && !c.rts then s.sendRep slot c else s
  | none => s

/-- The slot is taken at the twin: the next lowest free one is offered (R335). -/
def State.connNoRx (s : State) (slot : Nat) : State :=
  match s.conn slot with
  | some c =>
    if c.own && !c.rts then
      let s := { s with net := { s.net with conns := s.net.conns.erase slot } }
      match s.newSlot (slot + 1) with
      | some k => s.propose k c
      | none => s.sendRej c.route c.udpSrc
    else s
  | none => s

/-- The twin's connection ends (R337, R362). -/
def State.connEndRx (s : State) (qpn : Nat) : State :=
  (match s.connOfQpn qpn with
   | some c => if c.closing then s else s.closeConn (qpn % 1048576) c false false
   | none => s).control (.connEnded qpn)

/-- The twin has applied the end of a connection. -/
def State.connEndedRx (s : State) (qpn : Nat) : State :=
  match s.connOfQpn qpn with
  | some c => if c.twinWait then s.endsHere (qpn % 1048576) c else s
  | none => s

/-- A checkpoint record updates the shadow of its connection (R108, R109, R142, R363). -/
def State.applyCkpt (s : State) (k : Ckpt) : State :=
  match s.connOfQpn k.qpn with
  | some c =>
    if c.own then s
    else s.setConn (k.qpn % 1048576) { c with
      nakPending := false, wr := none, epsn := k.epsn, msn := k.msn, donePsn := (k.epsn + psnMod - 1) % psnMod,
      res := k.reads.map (fun r => Res.read r.1 r.2.1 r.2.2) ++ k.atomics.map (fun a => Res.atomic a.1 a.2) }
  | none => s

/-! ## Keys (R343, R344, R359) -/

/-- The words of a key-table entry (R343). -/
def KeyEnt.words (k : KeyEnt) : List Word :=
  [w32 (k.state + 4 * k.rights + 256 * k.gen), w32 k.local_] ++ lohi k.base ++ lohi k.len ++ [w32 k.owner, 0]

/-- An index is FREE. -/
def State.keyFree (s : State) (i : Nat) : Bool := match s.net.keys.find? i with | some k => k.state == 0 | none => true

/-- The device address of a key's range: as given, or through one window of the LD that may carry the rights (R344). -/
def State.keyBase (s : State) (ld : Option Nat) (base len rights : Nat) : Option Nat :=
  match ld with
  | none => some base
  | some l =>
    match s.windowAt l base with
    | some w => if base + len ≤ (w.dpa + w.len) * extentBytes && (rights / 2 == 0 || w.write) then some (w.device base) else none
    | none => none

/-- The GEN of a key being registered: as given by the twin, one above the last of the index, or a free value (R344). -/
def State.keyGen (s : State) (given : Option Word) (x : Nat) : State × Nat :=
  match given, s.net.keys.find? x with
  | some k, _ => (s, k.field 7 0)
  | none, some k => (s, (k.gen + 1) % 256)
  | none, none => (s.freed, s.freeVal % 256)

/-- The owner a key entry records: 0 for the privileged functions, else the LD plus 1. -/
def keyOwner (ld : Option Nat) : Nat :=
  match ld with
  | none => 0
  | some l => l + 1

/-- A key entry is written under its GEN, and the rkey is the answer (R344). -/
def State.keyPut (s : State) (given : Option Word) (x : Nat) (k : KeyEnt) : State × Reply :=
  let t := (s.keyGen given x).1
  let gen := (s.keyGen given x).2
  ({ t with net := { t.net with keys := t.net.keys.insert x { k with gen := gen } } }.saveNet, .ok [w32 (256 * x + gen)])

/-- The key index a registration takes: as given by the twin, the lowest free one, or the one asked for where it is free (R344). -/
def State.keyWant (s : State) (given : Option Word) (w0 : Word) : Option Nat :=
  match given with
  | some k => some (k.field 25 8)
  | none =>
    if w0.field 31 31 = 1 then ((List.range (s.net.keys.size + 1)).find? s.keyFree).bind (fun k => if k < 262144 then some k else none)
    else if s.keyFree (w0.field 17 0) then some (w0.field 17 0) else none

/-- Reserved bits of a KEY_REGISTER input are 0 and its length is within the address space. -/
def keyInputOk (inp : List Word) : Bool :=
  (wordAt inp 0).field 30 18 == 0 && (wordAt inp 1).field 31 3 == 0 && wide inp 6 == 0 && decide (wide inp 4 ≤ 2 ^ 44)

/-- The entry a registration makes and its index, where it is accepted (R344). -/
def State.keyTarget (s : State) (ld : Option Nat) (given : Option Word) (inp : List Word) : Option (Nat × KeyEnt) :=
  let rights := (wordAt inp 1).field 2 0
  if !keyInputOk inp then none
  else (s.keyBase ld (wide inp 2) (wide inp 4) rights).bind (fun dev =>
    (s.oneRegion dev (wide inp 4)).bind (fun r =>
      (s.keyWant given (wordAt inp 0)).map (fun x =>
        (x, { state := 1, rights := rights, gen := 0, local_ := r.1, base := dev, len := wide inp 4, owner := keyOwner ld }))))

/-- KEY_REGISTER (R344); `given` is the rkey that the stroke has chosen. -/
def State.keyRegister (s : State) (ld : Option Nat) (given : Option Word) (inp : List Word) : State × Reply :=
  match s.keyTarget ld given inp with
  | none => (s, .invalid)
  | some (x, k) => s.keyPut given x k

/-- KEY_REGISTER (R344). -/
def execKeyRegister (m : Mbx) (inp : List Word) (s : State) : Ans :=
  .next (s.pCommand m ⟨0xC410, true, true, true, false⟩ (m.len == 32) false inp (fun ld _ s => s.keyRegister ld none inp))

/-- KEY_REVOKE (R359): through an LD's mailbox only keys whose OWNER is that LD. -/
def State.keyRevoke (s : State) (ld : Option Nat) (inp : List Word) (tag : Nat) : State × Reply :=
  let w := wordAt inp 0
  let x := w.field 25 8
  match s.net.keys.find? x with
  | some k =>
    let mine := match ld with | none => true | some l => k.owner == l + 1
    if w.field 31 26 ≠ 0 || k.state ≠ 1 || k.gen ≠ w.field 7 0 || !mine then (s, .invalid)
    else ((s.revokeStart [.key x] tag).saveNet, .ok [])
  | none => (s, .invalid)

/-- KEY_REVOKE (R359). -/
def execKeyRevoke (m : Mbx) (inp : List Word) (s : State) : Ans :=
  .next (s.pCommand m ⟨0xC411, true, true, true, false⟩ (m.len == 4) false inp (fun ld tag s => s.keyRevoke ld inp tag))

/-- A list output over a range of `total` numbered entries (14_control.md, Other payloads). -/
def rangeOut (size first count total : Nat) (ent : Nat → List Word) : List Word :=
  let n := min (min count (total - first)) ((262144 - 8) / size)
  listHeader n (if first + n < total then some (first + n) else none) ++ ((List.range n).map (· + first)).flatMap ent

/-- KEY_LIST (R437): through an LD's mailbox, entries of other owners read as free. -/
def execKeyList (m : Mbx) (inp : List Word) (s : State) : Ans :=
  .next (s.query m (.read 0xC412) (m.len == 8) (fun s =>
    .ok (rangeOut 32 (wordAt inp 0).toNat (wordAt inp 1).toNat 262144 (fun i =>
      let k := (s.net.keys.find? i).getD {}
      (match s.limitedTo m with
       | none => k
       | some l => if k.owner = l + 1 then k else {}).words))))

/-! ## Domains (R345, R346, R359) -/

/-- The grant at a place of a DOMAIN_SET input (R346). -/
def State.grantAt (s : State) (inp : List Word) (i : Nat) : Option KeyEnt :=
  let at_ := 4 + 6 * i
  let base := wide inp at_
  let len := wide inp (at_ + 2)
  match s.oneRegion base len with
  | some (r, _) => some { state := 1, rights := (wordAt inp (at_ + 4)).field 2 0, gen := 0, local_ := r, base := base, len := len, owner := 0 }
  | none => none

/-- DOMAIN_SET (R346): the new list, and the removed grants revoked (R359). -/
def State.domainSet (s : State) (inp : List Word) (tag : Nat) : State × Reply :=
  let d := (wordAt inp 0).field 15 0
  let n := (wordAt inp 1).field 6 0
  let old := (s.net.domains.find? d).getD { state := 0, gen := 0, grants := [] }
  let first := (s.net.domains.find? d).isNone
  let grants := (List.range n).filterMap (s.grantAt inp)
  let others := sumL ((s.net.domains.cells.filter (fun c => c.1 != d)).map (fun c => c.2.grants.length))
  if 64 < n || (wordAt inp 0).field 31 16 ≠ 0 || (wordAt inp 1).field 31 7 ≠ 0 || grants.length ≠ n || 262144 < others + n || old.state = 2 then (s, .invalid)
  else
    let gone := (old.grants.filter (fun g => g.state == 1 && !grants.contains g)).map (fun g => { g with state := 2 })
    let gen := if old.state = 1 then old.gen else if first then Config.domainGen d % 256 else (old.gen + 1) % 256
    let v : Domain := { state := 1, gen := gen, grants := grants ++ old.grants.filter (fun g => g.state == 2) ++ gone }
    let s := { s with net := { s.net with domains := s.net.domains.insert d v } }
    ((if gone.isEmpty then s else s.revokeStart [.grants d] tag).saveNet, .ok [])

/-- DOMAIN_SET (R346). -/
def execDomainSet (m : Mbx) (inp : List Word) (s : State) : Ans :=
  .next (s.pCommand m ⟨0xC420, false, true, true, false⟩ (m.len == 16 + 24 * (wordAt inp 1).field 6 0) false inp
    (fun _ tag s => s.domainSet inp tag))

/-- DOMAIN_REVOKE (R359). -/
def State.domainRevoke (s : State) (inp : List Word) (tag : Nat) : State × Reply :=
  let d := (wordAt inp 0).field 15 0
  match s.net.domains.find? d with
  | some v => if v.state ≠ 1 || (wordAt inp 0).field 31 16 ≠ 0 then (s, .invalid) else ((s.revokeStart [.domain d] tag).saveNet, .ok [])
  | none => (s, .invalid)

/-- DOMAIN_REVOKE (R359). -/
def execDomainRevoke (m : Mbx) (inp : List Word) (s : State) : Ans :=
  .next (s.pCommand m ⟨0xC421, false, true, true, false⟩ (m.len == 4) false inp (fun _ tag s => s.domainRevoke inp tag))

/-! ## Network commands (R437) -/

/-- Connections in RTS or ERROR, own or shadow (NET_CONN_OWN, NET_CONN_SHADOW). -/
def State.connCount (s : State) (own : Bool) : Nat := (s.net.conns.values.filter (fun c => c.own == own && c.rts)).length

/-- Key-table entries not FREE: keys, or grants in DOMAIN mode (KEY_STATUS). -/
def State.keysUsed (s : State) : Nat :=
  if s.net.prot then sumL (s.net.domains.values.map (fun d => (d.grants.filter (fun g => g.state != 0)).length))
  else (s.net.keys.values.filter (fun k => k.state != 0)).length

/-- Domains not FREE (KEY_DOMAINS). -/
def State.domainsUsed (s : State) : Nat := (s.net.domains.values.filter (fun d => d.state != 0)).length

/-- NET_STATUS (R437). -/
def execNetStatus (m : Mbx) (_inp : List Word) (s : State) : Ans :=
  .next (s.query m ⟨0xC400, false, false, false, true⟩ (m.len == 0) (fun s =>
    let mac := fun n =>
      let links := sumL ((List.range 4).map (fun p => bit (s.ethPort n p).link * 2 ^ (4 + p)))
      [w32 (s.fld (Reg.E_CFG (macPage n)) Fld.E_CFG_MODE + links), (0 : Word)]
    .ok (lohi Config.macBase.toNat ++ (List.range 8).flatMap mac ++
      [w32 (s.connCount true), w32 (s.connCount false), w32 s.keysUsed, w32 s.domainsUsed, w32 (bit s.pair.takeover), 0])))

/-- An address is IPv4-mapped. -/
def isV4 (ip : BitVec 128) : Bool := ip.toNat % 2 ^ 96 == 0xFFFF * 2 ^ 80

/-- ADDR_SET (R437): the port's list; the twin's view of the same addresses has own and twin exchanged (`flip`). -/
def State.addrSet (s : State) (flip : Bool) (inp : List Word) : State × Reply :=
  let key := (wordAt inp 0).field 4 0
  let n := (wordAt inp 1).field 4 0
  let ents := (List.range n).map (fun i =>
    let at_ := 2 + 5 * i
    let w := wordAt inp (at_ + 4)
    PortAddr.mk (BitVec.ofNat 128 (wide inp at_ + wide inp (at_ + 2) * 2 ^ 64)) (w.field 7 0) ((w.field 8 8 == 1) != flip))
  let v4 := (ents.filter (fun a => isV4 a.ip)).length
  if 16 < n || 8 < v4 || 8 < n - v4 || (wordAt inp 0).field 31 5 ≠ 0 || (wordAt inp 1).field 31 5 ≠ 0 then (s, .invalid)
  else ((s.setEthPort (key / 4) (key % 4) { s.ethPort (key / 4) (key % 4) with addrs := ents }).saveNet, .ok [])

/-- ADDR_SET (R437). -/
def execAddrSet (m : Mbx) (inp : List Word) (s : State) : Ans :=
  .next (s.pCommand m ⟨0xC401, false, true, true, false⟩ (m.len == 8 + 20 * (wordAt inp 1).field 4 0) false inp (fun _ _ s => s.addrSet false inp))

/-- LISTEN_SET (R437). -/
def State.listenSet (s : State) (inp : List Word) : State × Reply :=
  let sid := wide inp 0
  let w := wordAt inp 2
  if w.field 31 17 ≠ 0 then (s, .invalid)
  else
    let rest := s.net.listen.filter (fun l => l.1 != sid)
    ({ s with net := { s.net with listen := if w.field 16 16 = 1 then rest ++ [(sid, w.field 15 0)] else rest } }.saveNet, .ok [])

/-- LISTEN_SET (R437). -/
def execListenSet (m : Mbx) (inp : List Word) (s : State) : Ans :=
  .next (s.pCommand m ⟨0xC402, false, true, true, false⟩ (m.len == 16) false inp (fun _ _ s => s.listenSet inp))

/-- The words of an IP address. -/
def ipWords (ip : BitVec 128) : List Word := lohi (ip.toNat % 2 ^ 64) ++ lohi (ip.toNat / 2 ^ 64)

/-- The entry of a slot in CONN_LIST (R437). -/
def Conn.words (c : Conn) : List Word :=
  let st := if !c.own then 3 else if c.error then 2 else if c.rts then 1 else 0
  [w32 c.qpn, w32 c.reqQpn] ++ ipWords c.route.dstIp ++ [w32 (c.domain + 65536 * st), w32 c.epsn]

/-- CONN_LIST (R437): through an LD's mailbox, connections that used no key of it read as free. -/
def execConnList (m : Mbx) (inp : List Word) (s : State) : Ans :=
  .next (s.query m (.read 0xC403) (m.len == 8) (fun s =>
    .ok (rangeOut 32 (wordAt inp 0).toNat (wordAt inp 1).toNat 1048576 (fun i =>
      let seen := match s.conn i, s.limitedTo m with
        | some c, none => some c
        | some c, some l => if c.usedBy.contains (l + 1) then some c else none
        | none, _ => none
      match seen with
      | some c => c.words
      | none => List.replicate 8 0))))

/-- CONN_CLOSE (R337): both twins end the connection. -/
def State.connClose (s : State) (inp : List Word) : State × Reply :=
  let qpn := (wordAt inp 0).field 23 0
  match s.connOfQpn qpn with
  | some c => if c.closing || !c.rts || (wordAt inp 0).field 31 24 ≠ 0 then (s, .invalid) else (s.closeConn (qpn % 1048576) c false false, .ok [])
  | none => (s, .invalid)

/-- CONN_CLOSE (R337). -/
def execConnClose (m : Mbx) (inp : List Word) (s : State) : Ans :=
  .next (s.pCommand m ⟨0xC404, false, true, true, false⟩ (m.len == 4) false inp (fun _ _ s => s.connClose inp))

/-! ## The tables across RESTORE (R347, R367) -/

/-- The network tables as RESTORE takes them: REVOKING entries are FREE; after a change of NET_CTL.PROT keys and domains start empty. -/
def State.reloadNet (s : State) (keys : SMap KeyEnt) (domains : SMap Domain) (listen : List (Nat × Nat)) (addrs : SMap (List PortAddr))
    (prot : Bool) : State :=
  let now := s.fld Reg.NET_CTL Fld.NET_CTL_PROT == 1
  let keep := prot == now
  let keys := if keep then keys.mapVals (fun _ k => if k.state = 2 then { gen := k.gen } else k) else {}
  let domains := if keep then domains.mapVals (fun _ d =>
    if d.state = 2 then { state := 0, gen := d.gen, grants := [] } else { d with grants := d.grants.filter (fun g => g.state == 1) }) else {}
  let s := { s with net := { s.net with keys := keys, domains := domains, listen := listen, prot := now } }
  addrs.cells.foldl (fun s c => s.setEthPort (c.1 / 4) (c.1 % 4) { s.ethPort (c.1 / 4) (c.1 % 4) with addrs := c.2 }) s

/-- The tables sent to a twin in RESTORE (R367): its own and twin addresses are this side's exchanged. -/
def State.sendNetTables (s : State) : State :=
  let addrs := (s.net.ports.cells.filter (fun c => !c.2.addrs.isEmpty)).map (fun c =>
    (c.1, c.2.addrs.map (fun a => { a with twin := !a.twin })))
  s.control (.netTables s.net.keys.cells s.net.domains.cells s.net.listen addrs)

end Sys2Proof.Machine
end

