-- ==== Sys2Proof/Machine/Channel.lean ====
section
/-!
DEFINITION. Machine/Channel.lean: commands of the channel controllers (08_channel_controllers.md, R227 to R244; 09_codes.md, R262 to R265).
-/
namespace Sys2Proof.Machine

/-- The key of a bank in the table of open rows. -/
def DramAddr.bank (a : DramAddr) : Nat := ((a.sc * 32 + a.rank) * 8 + a.bg) * 4 + a.ba

/-- The key of a rank in the table of owed refreshes. -/
def rankKey (sc rank : Nat) : Nat := 64 * sc + rank

/-- Order of the requests of a subchannel (R230): higher level first, then row hits, then the oldest. -/
def ChReq.before (a b : ChReq) (hitA hitB : Bool) : Bool :=
  if a.level ≠ b.level then b.level < a.level
  else if a.level = 3 then decide (a.since < b.since)
  else if hitA ≠ hitB then hitA else decide (a.since < b.since)

/-- The first request by R230. -/
def pickReq (hit : ChReq → Bool) (l : List ChReq) : Option ChReq :=
  l.foldl (fun b r => match b with
    | none => some r
    | some q => if r.before q (hit r) (hit q) then some r else some q) none

/-- Issue a refresh of a rank (R232). -/
def State.issueRefresh (s : State) (inst sc rank : Nat) : State :=
  let c := s.chan inst
  let k := rankKey sc rank
  let s := s.setChan inst { c with owed := c.owed.put 0 k (c.owed.getD k 0 - 1) }
  let s := if c.ref2x then s.bumpCh inst Ctr.DC_CNT_REF2X else s
  s.emit (.dram inst 4 sc rank 0 0 0 0)

/-- The rank of a subchannel that owes most refreshes, at least `n`. -/
def Channel.owing (c : Channel) (sc n : Nat) : Option Nat :=
  (c.owed.cells.find? (fun p => p.1 / 64 == sc && decide (n ≤ p.2))).map (fun p => p.1 % 64)

/-- Issue the next command of a request: precharge, activate, or its read or write (R230, R231). -/
def State.issueReq (s : State) (inst : Nat) (r : ChReq) : State :=
  let c := s.chan inst
  let a := s.dramOf r.home
  let b := a.bank
  let other := (c.rq ++ c.wq).any (fun q => !q.issued && (s.dramOf q.home).bank == b && (s.dramOf q.home).row != a.row)
  match c.rows.find? b with
  | none =>
    (s.setChan inst { c with rows := c.rows.insert b (a.row, 0), lastCmd := some (a, r.home) }).emit
      (.dram inst 3 a.sc a.rank a.bg a.ba a.row 0)
  | some (row, hits) =>
    if row ≠ a.row || (decide (32 ≤ hits) && other) then
      (s.setChan inst { c with rows := c.rows.erase b, lastCmd := some (a, r.home) }).emit (.dram inst 2 a.sc a.rank a.bg a.ba row 0)
    else
      let mark := fun (q : ChReq) => if q.id = r.id then { q with issued := true } else q
      let more := (c.rq ++ c.wq).any (fun q => q.id != r.id && !q.issued && (s.dramOf q.home).bank == b && (s.dramOf q.home).row == a.row)
      let n := if a.sc = 0 then c.brk.1 else c.brk.2
      let urgent := c.rq.any (fun q => !q.issued && q.level == 3 && (s.dramOf q.home).sc == a.sc)
      let n' := if r.wr.isSome then (if urgent then n + 1 else 0) else 0
      let c := { c with rq := c.rq.map mark, wq := c.wq.map mark, lastCmd := some (a, r.home),
                        rows := if more then c.rows.insert b (row, if other then hits + 1 else hits) else c.rows.erase b,
                        brk := if a.sc = 0 then (n', c.brk.2) else (c.brk.1, n') }
      let s := (s.setChan inst c).bumpCh inst (if r.wr.isSome then Ctr.DC_CNT_WR else Ctr.DC_CNT_RD)
      let s := if hits = 0 then s else s.bumpCh inst Ctr.DC_CNT_ROWHIT
      s.emit (.dram inst (if r.wr.isSome then 1 else 0) a.sc a.rank a.bg a.ba a.row a.col)

/-- The request of a subchannel that issues next, among those whose next command meets every timing constraint (R230): a write while the write
queue drains, but for four writes in a row past a read at level 3; a read else. -/
def State.nextReq (s : State) (inst sc : Nat) (ready : List Nat) : Option ChReq :=
  let c := s.chan inst
  let n := if sc = 0 then c.brk.1 else c.brk.2
  let urgent := c.rq.any (fun q => !q.issued && q.level == 3 && (s.dramOf q.home).sc == sc)
  let q := if c.drain && !(urgent && decide (4 ≤ n)) then c.wq else c.rq
  let hit := fun (r : ChReq) => match c.rows.find? (s.dramOf r.home).bank with
    | some (row, _) => row == (s.dramOf r.home).row
    | none => false
  pickReq hit (q.filter (fun r => !r.issued && ready.contains r.id && (s.dramOf r.home).sc == sc))

/-- DRAM_COMMAND_ISSUE (R230): a subchannel issues a refresh that is owed four times, else the next command of the request chosen, else a
refresh owed. A FROZEN channel issues only refresh (R241). -/
def execDramCommandIssue (inst sc : Nat) (ready : List Nat) (s : State) : Ans :=
  .next (
    let c := s.chan inst
    if c.state == .active then
      match c.owing sc 4 with
      | some rank => s.issueRefresh inst sc rank
      | none =>
        match s.nextReq inst sc ready with
        | some r => s.issueReq inst r
        | none =>
          match c.owing sc 1 with
          | some rank => s.issueRefresh inst sc rank
          | none => s
    else if c.state == .frozen then
      match c.owing sc 1 with
      | some rank => s.issueRefresh inst sc rank
      | none => s
    else s)

/-- URGENCY_LEVEL_UP (R227): the level of a queued request follows its age; requests that reach level 3 are counted by port. -/
def execUrgencyLevelUp (inst req : Nat) (s : State) : Ans :=
  .next (
    let c := s.chan inst
    match (c.rq ++ c.wq).find? (fun r => r.id == req && !r.issued) with
    | none => s
    | some r =>
      let l := levelAt (s.target inst r.port) (s.now - r.since)
      if l ≤ r.level then s else
      let up := fun (q : ChReq) => if q.id = req then { q with level := l } else q
      let s := s.setDrain inst { c with rq := c.rq.map up, wq := c.wq.map up }
      if l = 3 then s.bump (Ctr.DC_CNT_L3 (chPage inst) r.port) else s)

/-- REFRESH_DUE (R232, R235): a refresh of a rank or pseudo-channel falls due. -/
def execRefreshDue (inst sc rank : Nat) (s : State) : Ans :=
  .next (
    let c := s.chan inst
    if c.state == .off || c.state == .retired then s else
    let k := rankKey sc rank
    s.setChan inst { c with owed := c.owed.put 0 k (c.owed.getD k 0 + 1) })

/-- A reading of a channel's temperature (R233, R234); none counts as a reading at CRIT. -/
def State.tempReading (s : State) (inst : Nat) (temp : Option Nat) : State :=
  let c := s.chan inst
  if c.state == .off || c.state == .retired then s else
  let p := chPage inst
  let crit := s.fld (Reg.DC_THERM p) Fld.DC_THERM_CRIT
  let thresh := s.fldIn (Reg.DC_THERM p) Fld.DC_THERM_THRESH 70 95
  let t := temp.getD crit
  let x2 := if temp.isNone || decide (thresh ≤ t) then true else if t + 3 ≤ thresh then false else c.ref2x
  let due := decide (crit ≤ t) && (match c.tempReport with
    | none => true
    | some t0 => decide (t0 + 1000000000 ≤ s.now))
  let s := s.setChan inst { c with temp := t, ref2x := x2, tempFails := if temp.isNone then c.tempFails + 1 else 0,
                                   tempReport := if due then some s.now else c.tempReport }
  if due then s.report (chUnit inst) (if inst < 16 then 0x05 else 0x06) Cls.info else s

/-- A calibration of a rank (R239). -/
def State.calibrate (s : State) (inst sc rank : Nat) : State :=
  (s.bumpCh inst Ctr.DC_CNT_CAL).emit (.dram inst 5 sc rank 0 0 0 0)

/-- ZQ_CALIBRATION_DUE (R239): it runs while the channel is ACTIVE or FROZEN. -/
def execZqCalibrationDue (inst sc rank : Nat) (s : State) : Ans :=
  .next (if (s.chan inst).state == .active || (s.chan inst).state == .frozen then s.calibrate inst sc rank else s)

/-- DQS_CALIBRATION_DUE (R239): it runs while the channel is ACTIVE. -/
def execDqsCalibrationDue (inst sc rank : Nat) (s : State) : Ans :=
  .next (if (s.chan inst).state == .active then
      (s.setChan inst { s.chan inst with calTemp := (s.chan inst).temp }).calibrate inst sc rank
    else s)

/-- A command or data error of a channel freezes it; its demand reads are handled under R242. -/
def State.commandError (s : State) (inst cause : Nat) (at_ : Option (DramAddr × Home)) : State :=
  if (s.chan inst).state == .active || (s.chan inst).state == .frozen then
    ((s.freeze inst cause at_).redirectReads inst).pump
  else s

/-- CA_PARITY_ERROR (R240), DDR5. -/
def execCaParityError (inst : Nat) (s : State) : Ans :=
  .next (if inst < 16 then s.commandError inst 2 (s.chan inst).lastCmd else s)

/-- WRITE_CRC_ERROR (R240), DDR5: of an issued write. -/
def execWriteCrcError (inst req : Nat) (s : State) : Ans :=
  .next (if inst < 16 then
    match (s.chan inst).wq.find? (fun r => r.id == req && r.issued) with
    | some r => s.commandError inst 3 (some (s.dramOf r.home, r.home))
    | none => s
  else s)

/-- ALERT_N (R240), DDR5, with no cause read back. -/
def execAlertN (inst : Nat) (s : State) : Ans :=
  .next (if inst < 16 then s.commandError inst 4 (s.chan inst).lastCmd else s)

/-- DATA_PARITY (R240), HBM. -/
def execDataParity (inst : Nat) (s : State) : Ans :=
  .next (if 16 ≤ inst ∧ inst < 48 then s.commandError inst 5 (s.chan inst).lastCmd else s)

/-! ## Actions (R243) -/

/-- The clear of a capture when an action is taken. -/
def Channel.clearCap (c : Channel) : Channel := { c with capCause := 0, capAt := none, capTime := 0 }

/-- A FROZEN channel is released (R241, R243): ACTIVE, one ZQ and one DQS-oscillator calibration, its held operations issued anew in their
order. -/
def State.releaseChannel (s : State) (inst action : Nat) : State :=
  let c := (s.chan inst).clearCap
  let again := fun (r : ChReq) => { r with issued := false }
  let s := s.setChan inst { c with state := .active, rq := c.rq.map again, wq := c.wq.map again, rows := {}, lastCmd := none,
                                   calTemp := c.temp }
  let s := s.setFld (Reg.DC_ACTION (chPage inst)) Fld.DC_ACTION_ACTION action
  let s := (s.calibrate inst 0 0).bumpCh inst Ctr.DC_CNT_CAL
  ((s.unitDone (chUnit inst)).settle inst).pump

/-- RELEASE (R243), guarded (R10); ignored unless the channel is FROZEN. -/
def execRelease (who inst : Nat) (s : State) : Ans :=
  .next (
    let (ok, s) := s.guarded who
    if ok && (s.chan inst).state == .frozen then (s.releaseChannel inst 1).netRun else s)

/-- The device line whose home a home line is (R160). -/
def State.lineAt (s : State) (h : Home) : Option Nat :=
  let x := h.line / extentLines
  let o := h.line % extentLines
  match s.tier.moves.find? (fun m => (m.toHbm == h.hbm && m.toHome == x && decide (o < m.cursor)) ||
      (m.fromHbm == h.hbm && m.fromHome == x && decide (m.cursor ≤ o))) with
  | some m => some (m.extent * extentLines + o)
  | none =>
    match s.tier.moved.cells.find? (fun c => c.2.1 == h.hbm && c.2.2 == x) with
    | some c => some (c.1 * extentLines + o)
    | none =>
      (s.tier.runs.find? (fun r => r.hbm == h.hbm && decide (r.home ≤ x) && decide (x < r.home + r.count) &&
        !s.tier.moved.has (r.first + (x - r.home)))).map (fun r => (r.first + (x - r.home)) * extentLines + o)

/-- The capacity of an instance's remap table (R262). -/
def remapCap (inst : Nat) : Nat := if inst < 16 then 32 else 16

/-- Two home lines share rank, bank and row (R262). -/
def State.sharesRow (s : State) (a b : Home) : Bool :=
  let x := s.dramOf a
  let y := s.dramOf b
  x.inst == y.inst && x.sc == y.sc && x.rank == y.rank && x.bg == y.bg && x.ba == y.ba && x.row == y.row

/-- A spare line is free for a FROM line (R262, R265). -/
def State.spareFree (s : State) (src t : Home) : Bool :=
  s.isSpare t && !s.ec.remaps.any (fun r => r.dst == t) && !s.ec.unusable.contains t && !s.sharesRow src t

/-- The lowest free spare line for a FROM line, searched over `n` lines from `i` on. -/
def State.firstSpare (s : State) (src : Home) : Nat → Nat → Option Home
  | 0, _ => none
  | n + 1, i => if s.spareFree src ⟨src.hbm, i⟩ then some ⟨src.hbm, i⟩ else s.firstSpare src n (i + 1)

/-- The first line and the lines of the spare-line area of a memory. -/
def State.spareArea (s : State) (hbm : Bool) : Nat × Nat :=
  let v := s.addr.served
  if hbm then (spareBaseHbm v s.flt.stackList / 64, v.reserves.getD 6 0 / 64) else (spareBaseDdr v / 64, v.reserves.getD 4 0 / 64)

/-- EC_REMAPnn.REFUSED advances. -/
def State.remapRefused (s : State) (inst : Nat) : State :=
  { s with ec := { s.ec with refused := s.ec.refused.put 0 inst (min 65535 (s.ec.refused.getD inst 0 + 1)) } }

/-- What the retired line's spare line receives: the refetched line as it stands in the cache, else what a queued write of it holds, else the
poison marker (R243). -/
def State.retireCell (s : State) (line : Nat) (h : Home) : Cell :=
  match s.held line with
  | some (_, w) => s.cellOf line w.data w.p
  | none =>
    match s.queued h with
    | some c => c
    | none => .poison

/-- RETIRE_LINE on a FROZEN channel (R243, R262 to R265): the captured line is redirected to a spare line and the channel released; refused
where the cause is not UNCORRECTABLE, the table is full or no spare line is free. -/
def State.retireLine (s : State) (inst : Nat) : State :=
    let c := s.chan inst
    match c.capAt with
    | none => s.remapRefused inst
    | some (_, cap) =>
      let old := s.ec.remaps.find? (fun r => r.dst == cap)
      let src := match old with | some r => r.src | none => cap
      let table := s.ec.remaps.filter (fun r => r.inst == (s.dramOf src).inst)
      let (base, n) := s.spareArea cap.hbm
      if c.capCause ≠ 1 || (old.isNone && decide (remapCap (s.dramOf src).inst ≤ table.length)) then s.remapRefused inst else
      match s.firstSpare src n base with
      | none => s.remapRefused inst
      | some t =>
        let line := s.lineAt src
        let dev := line.getD (2 ^ 58 - 1)
        let cell := s.retireCell dev src
        let drop := fun (s : State) => s.setChan inst { s.chan inst with wq := (s.chan inst).wq.filter (fun r => r.home != cap) }
        let s := drop s
        let entry : Remap := ⟨(s.dramOf src).inst, src, t, dev, s.now⟩
        let s := { s with ec := { s.ec with remaps := s.ec.remaps.filter (fun (r : Remap) => r.src != src) ++ [entry],
                                            unusable := if old.isSome then s.ec.unusable ++ [cap] else s.ec.unusable } }
        let s := s.ecRecord 0x35 Cls.major 0xFF 0 7 0 src (64 * dev) 0
        let s := s.releaseChannel inst 2
        match line with
        | none => s
        | some l =>
          if s.tier.refetch.has l then s.setChan (s.instOf src) { s.chan (s.instOf src) with retireWait := some l }
          else (s.writeHome 5 0 l src cell).pump

/-- RETIRE_LINE (R243), guarded; ignored unless the channel is FROZEN. -/
def execRetireLine (who inst : Nat) (s : State) : Ans :=
  .next (
    let (ok, s) := s.guarded who
    if ok && (s.chan inst).state == .frozen then s.retireLine inst else s)

/-- FREEZE_READ_TIMEOUT (R242): with no twin to serve them, the reads that wait for a FROZEN channel return poison. -/
def execFreezeReadTimeout (inst : Nat) (s : State) : Ans :=
  .next (if (s.chan inst).state != .frozen || s.mirrored then s else
    let lines := (s.tier.refetch.cells.filter (fun c => c.2 == 2 && s.instOf (s.homeOf c.1) == inst)).map (·.1)
    let s := lines.foldl State.refetchPoison s
    let ids := s.byArrival.filter (fun id => match s.entry id with
      | some e => e.op == .read && e.state == .residentWait && !e.sent && e.line != noHome && s.instOf (s.homeOf e.line) == inst &&
          !s.unrestored (leafOf e.line) && !s.fencedFor e
      | none => false)
    (ids.foldl (fun s id => match s.entry id with
      | some e => s.complete id e (some (0, true))
      | none => s) s).pump)
where
  noHome : Nat := 2 ^ 38

end Sys2Proof.Machine
end

