-- ==== Sys2Proof/Machine/Regions.lean ====
section
/-!
DEFINITION. Machine/Regions.lean: regions, shares, fences, the pool identity (02_address_space.md, R31 to R54; 14_control.md, R428 to R430, R437).
-/
namespace Sys2Proof.Machine

/-! ## Windows and descriptors -/

/-- A new window of an LD may be placed (R45): not the 1,025th, within the span, overlapping none; `but` is a window set aside. -/
def State.windowFits (s : State) (ld base len : Nat) : Bool :=
  decide ((s.windows ld).length < 1024) && decide ((base + len) * extentBytes ≤ s.ldSpan ld) &&
  (s.windows ld).all (fun w => decide (w.dpa + w.len ≤ base) || decide (base + len ≤ w.dpa))

/-- A region as its descriptor gives it (R35); none where the descriptor uses a reserved encoding or is not aligned. -/
def Region.parse (inp : List Word) : Option Region :=
  let a := wordAt inp 0
  let b := wordAt inp 1
  let base := wide inp 2
  let len := (wordAt inp 4).toNat
  let t := wordAt inp 5
  let k := wordAt inp 6
  let d := wordAt inp 7
  let lag := t.field 7 2
  if a.field 31 24 ≠ 0 || b.field 31 28 ≠ 0 || base % extentBytes ≠ 0 || 2 ^ 44 ≤ base || len = 0 || 8388608 < len || 2 ≤ t.field 1 0 ||
    (1 ≤ lag && lag ≤ 3) || t.field 9 8 = 3 || t.field 15 15 ≠ 0 || t.field 31 18 ≠ 0 || k.field 15 12 ≠ 0 || k.field 31 23 ≠ 0 ||
    d.field 31 23 ≠ 0 then none
  else some { id := a.field 23 0, tenant := b.field 27 16, base := base / extentBytes, len := len, bounded := t.field 1 0 == 1, lag := lag,
              affinity := t.field 9 8, drop := t.field 10 10 == 1, shareable := t.field 11 11 == 1, vzone := t.field 14 12, tier := t.field 17 16,
              keySlot := k.field 11 0, ownerLd := k.field 20 16, ldWrite := k.field 21 21 == 1, noLd := k.field 22 22 == 1, dpaBase := d.field 22 0 }

/-- A region's descriptor (R35), with its local index and the DPA_BASE given. -/
def Region.words (r : Region) (idx dpa : Nat) : List Word :=
  [w32 r.id, w32 (idx + r.tenant * 2 ^ 16)] ++ lohi (r.base * extentBytes) ++ [w32 r.len,
   w32 (bit r.bounded + r.lag * 4 + r.affinity * 2 ^ 8 + bit r.drop * 2 ^ 10 + bit r.shareable * 2 ^ 11 + r.vzone * 2 ^ 12 + r.tier * 2 ^ 16),
   w32 (r.keySlot + r.ownerLd * 2 ^ 16 + bit r.ldWrite * 2 ^ 21 + bit r.noLd * 2 ^ 22), w32 dpa]

/-- REGION_CREATE (R35, R45, R177, R442). -/
def State.regionCreate (s : State) (inp : List Word) : State × Reply :=
  match Region.parse inp, s.addr.regions.freeKey? 65536 with
  | some r, some idx =>
    if s.addr.served.len < r.base + r.len || s.addr.regions.values.any (fun q => decide (q.base < r.base + r.len) && decide (r.base < q.base + q.len)) ||
      (s.regionById r.id).isSome || !(s.cmd.keys.has r.keySlot) || (!r.noLd && !s.windowFits r.ownerLd r.dpaBase r.len) ||
      !s.pinsFit (s.addr.regions.values ++ [r]) then (s, .invalid)
    else
      let s := { s with addr := { s.addr with regions := s.addr.regions.insert idx r } }
      (s.enterTier r, .ok (r.words idx r.dpaBase))
  | _, _ => (s, .invalid)

/-- REGION_CREATE (R35): a P command. -/
def execRegionCreate (m : Mbx) (inp : List Word) (s : State) : Ans :=
  .next (s.pCommand m ⟨0xC001, false, true, true, false⟩ (m.len == 32) false inp (fun _ _ s => s.regionCreate inp))

/-! ## Attributes -/

/-- The attributes of a REGION_SET_ATTR input put into a region (R38, R428); none where a changed field uses a reserved encoding. -/
def Region.withAttr (r : Region) (inp : List Word) : Option Region :=
  let c := fun i => (wordAt inp 1).getLsbD i
  let t := wordAt inp 2
  let k := wordAt inp 3
  let lag := t.field 7 2
  if (wordAt inp 0).field 31 24 ≠ 0 || (wordAt inp 1).field 31 9 ≠ 0 || (c 0 && 2 ≤ t.field 1 0) || (c 1 && 1 ≤ lag && lag ≤ 3) ||
    (c 2 && t.field 9 8 = 3) || t.field 15 15 ≠ 0 || t.field 31 18 ≠ 0 || k.field 15 12 ≠ 0 || k.field 31 17 ≠ 0 then none
  else some { r with bounded := if c 0 then t.field 1 0 == 1 else r.bounded, lag := if c 1 then lag else r.lag,
                     affinity := if c 2 then t.field 9 8 else r.affinity, drop := if c 3 then t.field 10 10 == 1 else r.drop,
                     shareable := if c 4 then t.field 11 11 == 1 else r.shareable, vzone := if c 5 then t.field 14 12 else r.vzone,
                     tier := if c 6 then t.field 17 16 else r.tier, tenant := if c 7 then k.field 11 0 else r.tenant,
                     ldWrite := if c 8 then k.field 16 16 == 1 else r.ldWrite }

/-- The extents whose owner of R97 changes with the attributes keep their owner until their handover (R40). -/
def State.keepOwners (old new_ : State) (r : Region) : State :=
  if !old.together then new_ else
  r.extents.foldl (fun s x =>
    let was := old.owns x
    if was == new_.tableOwner x then { s with pair := { s.pair with owned := s.pair.owned.erase x } }
    else { s with pair := { s.pair with owned := s.pair.owned.insert x was } }) new_

/-- REGION_SET_ATTR (R38 to R41, R176, R177, R428). -/
def State.regionSetAttr (s : State) (inp : List Word) (tag : Nat) : State × Reply :=
  match s.regionById ((wordAt inp 0).field 23 0) with
  | none => (s, .invalid)
  | some (idx, r) =>
    match r.withAttr inp with
    | none => (s, .invalid)
    | some r' =>
      if !s.pinsFit ((s.addr.regions.insert idx r').values) then (s, .invalid)
      else
        let t := { s with addr := { s.addr with regions := s.addr.regions.insert idx r' } }
        let t := if r'.affinity = r.affinity then t else State.keepOwners s t r'
        let t := if r'.tier = r.tier then t else t.enterTier r'
        let t := if t.attrOver idx then t else { t with pair := { t.pair with attrWait := t.pair.attrWait ++ [(tag, idx)] } }
        (t, .ok [])

/-- REGION_SET_ATTR (R38): a P command in the background. -/
def execRegionSetAttr (m : Mbx) (inp : List Word) (s : State) : Ans :=
  .next (s.pCommand m ⟨0xC003, false, true, true, false⟩ (m.len == 16) true inp (fun _ tag s => s.regionSetAttr inp tag))

/-! ## Zeroing and deleting -/

/-- Set up the fence of a region (R42). -/
def State.fence (s : State) (idx : Nat) (delete : Bool) (tag : Nat) : State :=
  { s with addr := { s.addr with fences := s.addr.fences ++ [⟨idx, delete, tag, s.trk.nextArr, false⟩] } }

/-- Keys and grants whose range lies in a region (R361): its keys, and the domains with such grants. -/
def State.revokedWith (s : State) (idx : Nat) : List RevokeWhat :=
  (s.net.keys.cells.filter (fun c => c.2.state == 1 && c.2.local_ == idx)).map (fun c => RevokeWhat.key c.1) ++
  (s.net.domains.cells.filter (fun c => c.2.grants.any (fun g => g.state == 1 && g.local_ == idx))).map (fun c => RevokeWhat.grants c.1)

/-- The grants of a region are REVOKING. -/
def State.markGrants (s : State) (idx : Nat) : State :=
  { s with net := { s.net with domains := s.net.domains.mapVals (fun _ d =>
      { d with grants := d.grants.map (fun g => if g.state = 1 ∧ g.local_ = idx then { g with state := 2 } else g) }) } }

/-- REGION_ZERO and REGION_DELETE (R42 to R44, R361, R429): the fence begins; REGION_FENCE_END ends the discard. -/
def State.regionFence (s : State) (delete : Bool) (ld : Option Nat) (inp : List Word) (tag : Nat) : State × Reply :=
  let w := wordAt inp 0
  match s.regionById (w.field 23 0) with
  | none => (s, .invalid)
  | some (idx, r) =>
    if w.field 30 24 ≠ 0 || wordAt inp 1 ≠ 0 || (!delete && w.field 31 31 = 1) || s.addr.fences.any (fun f => f.region == idx) ||
      (match ld with | some l => r.noLd || r.ownerLd != l || !r.ldWrite | none => false) ||
      (delete && w.field 31 31 = 0 && s.addr.shares.values.any (fun h => h.region == idx)) then (s, .invalid)
    else
      let s := s.fence idx delete tag
      let s := if delete then (let ws := s.revokedWith idx; if ws.isEmpty then s else (s.markGrants idx).revokeStart ws tag) else s
      (s, .ok [])

/-- REGION_ZERO (R43): a P command in the background; through an LD's mailbox for the region it owns and may write. -/
def execRegionZero (m : Mbx) (inp : List Word) (s : State) : Ans :=
  .next (s.pCommand m ⟨0xC004, true, true, true, false⟩ (m.len == 8) true inp (fun ld tag s => s.regionFence false ld inp tag))

/-- REGION_DELETE (R44): a P command in the background. -/
def execRegionDelete (m : Mbx) (inp : List Word) (s : State) : Ans :=
  .next (s.pCommand m ⟨0xC002, false, true, true, false⟩ (m.len == 8) true inp (fun ld tag s => s.regionFence true ld inp tag))

/-- A range of lines leaves the line cache and the merge buffers unwritten (R209, DISCARD); how many lines. -/
def State.discardLines (s : State) (first last : Nat) : State × Nat :=
  let hit := fun (key : Nat) (w : Way) => w.v && decide (first ≤ lineOfWay key w.tag) && decide (lineOfWay key w.tag ≤ last)
  let n := s.lc.sets.cells.foldl (fun n c => n + (c.2.ways.filter (hit c.1)).length) 0
  let sets : SMap LSet := ⟨(s.lc.sets.cells.map (fun c => (c.1, { c.2 with ways := c.2.ways.map (fun w =>
    if hit c.1 w then { w with v := false, d := false, p := false } else w) }))).filter (fun c => c.2 != LSet.empty)⟩
  ({ s with lc := { s.lc with sets := sets }, ec := { s.ec with merge := s.ec.merge.filter (fun l _ => decide (l < first) || decide (last < l)) } }, n)

/-- A region's contents are gone (R37, R43): its lines leave the cache, its valid bits clear, its leaf-map entries are free. -/
def State.discardRegion (s : State) (r : Region) : State :=
  let lo := r.base * extentLeaves
  let hi := (r.base + r.len) * extentLeaves
  let mine := fun leaf => decide (lo ≤ leaf) && decide (leaf < hi)
  let s := (s.discardLines (lo * leafLines) (hi * leafLines - 1)).1
  let freed := s.vlt.map.keys.filter mine
  { s with addr := { s.addr with valid := s.addr.valid.filter (fun k _ => !mine k), fills := s.addr.fills.filter (fun k _ => !mine k) },
           vlt := { s.vlt with map := s.vlt.map.filter (fun k _ => !mine k), pending := s.vlt.pending ++ freed.map (fun k => (k, none)),
                               window := s.vlt.window.filter (fun w => !mine w.leaf), inflight := s.vlt.inflight.filter (fun w => !mine w.leaf),
                               unrestored := s.vlt.unrestored.filter (fun k _ => !mine k), lostLeaves := s.vlt.lostLeaves.filter (fun k => !mine k) } }

/-- A fence may end (R42): no entry granted before it, no move, no BOUNDED write of the region is unfinished, no range operation runs (R214), and
its revocations are done (R361). -/
def State.fenceClear (s : State) (f : Fence) : Bool :=
  match s.addr.regions.find? f.region with
  | none => true
  | some r =>
    let mine := fun line => decide (r.base ≤ extentOf line) && decide (extentOf line < r.base + r.len)
    s.lc.op.isNone && !s.trk.entries.cells.any (fun c => mine c.2.line && decide (c.2.arr < f.arr) && !c.2.sent) &&
    !s.tier.moves.any (fun m => decide (r.base ≤ m.extent) && decide (m.extent < r.base + r.len)) &&
    !s.pair.owed.any (fun o => mine o.record.line) && !s.pair.intents.any (fun c => mine c.1) && !s.pair.early.any (fun q => mine q.line) &&
    !s.net.revs.any (fun v => v.tag == f.tag)

/-- A region is removed (R44): its shares, its window, its range. -/
def State.removeRegion (s : State) (idx : Nat) (r : Region) : State :=
  { s with addr := { s.addr with regions := s.addr.regions.erase idx, shares := s.addr.shares.filter (fun _ h => h.region != idx) },
           tier := { s.tier with asks := s.tier.asks.filter (fun a => decide (a.extent < r.base) || decide (r.base + r.len ≤ a.extent)) },
           pair := { s.pair with owned := s.pair.owned.filter (fun x _ => decide (x < r.base) || decide (r.base + r.len ≤ x)) } }

/-- REGION_FENCE_END (R42 to R44, R214): the discard walk of the region with this local index finishes here; the command completes once both twins
have finished, and the requests that waited proceed. -/
def execRegionFenceEnd (region : Nat) (s : State) : Ans :=
  .next (match s.addr.fences.find? (fun f => f.region == region && !f.localDone) with
    | none => s
    | some f =>
      if !s.fenceClear f then s
      else
        let s := match s.addr.regions.find? region with
          | some r => let s := s.discardRegion r; if f.delete then s.removeRegion region r else s
          | none => s
        let s := { s with addr := { s.addr with fences := s.addr.fences.map (fun (g : Fence) => if g.tag = f.tag then { g with localDone := true } else g) } }
        (s.replTry f.tag).netRun)

/-! ## Lists -/

/-- REGION_LIST (R437): through an LD's mailbox its regions and those with a share in it. -/
def execRegionList (m : Mbx) (inp : List Word) (s : State) : Ans :=
  .next (s.query m (.read 0xC005) (m.len == 4) (fun s =>
    let first := (wordAt inp 0).field 15 0
    let ents := s.addr.regions.cells.filterMap (fun c =>
      if c.1 < first then none else
      match s.limitedTo m with
      | none => some (c.1, c.2.words c.1 c.2.dpaBase)
      | some ld =>
        if !c.2.noLd && c.2.ownerLd == ld then some (c.1, c.2.words c.1 c.2.dpaBase)
        else (s.addr.shares.values.find? (fun h => h.region == c.1 && h.ld == ld)).map (fun h => (c.1, c.2.words c.1 h.dpaBase)))
    .ok (listOut 32 ents)))

/-- The lowest free device address: that of the first extent in no region. -/
def State.lowestFree (s : State) : Nat :=
  (((0 :: s.addr.regions.values.map (fun r => r.base + r.len)).filter (fun x => (s.regionOf x).isNone)).foldl min (2 ^ 23)) * extentBytes

/-- IDENTIFY_REGIONS (R437). -/
def execIdentifyRegions (m : Mbx) (_inp : List Word) (s : State) : Ans :=
  .next (s.query m (.read 0xC000) (m.len == 0) (fun s =>
    let l := lohi (s.addr.served.len * extentBytes)
    match s.limitedTo m with
    | some ld => .ok (List.replicate 20 0 ++ l ++ [w32 (s.windows ld).length, 0, 0, 0])
    | none =>
      let pop := s.addr.served.pop
      .ok (lohi pop.ddr ++ lohi pop.hbm ++ (List.range 8).flatMap (fun k => lohi (s.addr.served.reserves.getD k 0)) ++ l ++
        [w32 s.addr.regions.size, 0] ++ lohi s.lowestFree)))

/-! ## Shares -/

/-- SHARE_CREATE (R45, R48, R430). -/
def State.shareCreate (s : State) (inp : List Word) : State × Reply :=
  let rid := wordAt inp 0
  let first := wordAt inp 1
  let count := wordAt inp 2
  let ld := wordAt inp 3
  let dpa := wordAt inp 4
  match s.regionById (rid.field 23 0), s.addr.shares.freeKey? 4096 with
  | some (idx, r), some id =>
    if rid.field 31 24 ≠ 0 || first.field 31 23 ≠ 0 || count.field 31 23 ≠ 0 || ld.field 31 5 ≠ 0 || dpa.field 31 23 ≠ 0 || wordAt inp 5 ≠ 0 ||
      !r.shareable || count = 0 || r.len < first.toNat + count.toNat || (!r.noLd && ld.toNat == r.ownerLd) ||
      decide (31 ≤ (s.addr.shares.values.filter (fun h => h.region == idx)).length) || !s.windowFits ld.toNat dpa.toNat count.toNat then (s, .invalid)
    else
      ({ s with addr := { s.addr with shares := s.addr.shares.insert id ⟨idx, first.toNat, count.toNat, ld.toNat, dpa.toNat⟩ } }, .ok [w32 id])
  | _, _ => (s, .invalid)

/-- SHARE_CREATE (R48): a P command. -/
def execShareCreate (m : Mbx) (inp : List Word) (s : State) : Ans :=
  .next (s.pCommand m ⟨0xC010, false, true, true, false⟩ (m.len == 24) false inp (fun _ _ s => s.shareCreate inp))

/-- SHARE_DELETE (R430). -/
def State.shareDelete (s : State) (inp : List Word) : State × Reply :=
  let id := (wordAt inp 0).toNat
  if s.addr.shares.has id then ({ s with addr := { s.addr with shares := s.addr.shares.erase id } }, .ok []) else (s, .invalid)

/-- SHARE_DELETE (R430): a P command. -/
def execShareDelete (m : Mbx) (inp : List Word) (s : State) : Ans :=
  .next (s.pCommand m ⟨0xC011, false, true, true, false⟩ (m.len == 4) false inp (fun _ _ s => s.shareDelete inp))

/-! ## Pool identity -/

/-- The word of a register with its guarded fields taken from a write. -/
def guardedWord (a : Nat) (old w : Word) : Word :=
  match regAt a with
  | none => old
  | some r => let k := r.maskOf [.rwg]; (old &&& ~~~k) ||| (w &&& k)

/-- SYS_POOL_WRITE (R54, R459): in HOLD or RESTORE with the unlock open; any other is refused and counted, and the unlock closes. -/
def execSysPoolWrite (who : Nat) (value : Word) (s : State) : Ans :=
  .next (if !s.pwr.core || !decide (who < 5) then s else
    match s.guarded who with
    | (false, s) => s
    | (true, s) =>
      if s.mode.mode == .hold || s.mode.mode == .restore then s.setReg Reg.SYS_POOL (guardedWord Reg.SYS_POOL (s.reg Reg.SYS_POOL) value)
      else s.bump Ctr.SYS_CNT_GUARD_REFUSED)

end Sys2Proof.Machine
end

