-- ==== Sys2Proof/Machine/HostPort.lean ====
section
/-!
DEFINITION. Machine/HostPort.lean: links, decoders, GPF, resets, IDE, LD spans of the CXL host ports (12_cxl_ports.md, R368 to R393).
-/
namespace Sys2Proof.Machine

/-! ## Links -/

/-- The port and link numbers name a link in use. -/
def State.linkInUse (s : State) (p k : Nat) : Bool := s.pwr.core && decide (p < 2) && (s.port p).hasLink k

/-- The width a link is configured for. -/
def Port.fullWidth (p : Port) : Nat := if p.mode = 2 then 8 else 16

/-- The unit of a link (R395). -/
def linkUnit (p k : Nat) : Nat := unitId 0x0F (2 * p + k)

/-- An entry answers a link. -/
def Dst.ofLink (d : Dst) (p k : Nat) : Bool :=
  match d with
  | .cxl p' k' _ _ _ => p' == p && k' == k
  | _ => false

/-- The LD and tag of an entry's requester. -/
def Dst.ldTag (d : Dst) : Nat × Nat :=
  match d with
  | .cxl _ _ ld tag _ => (ld, tag)
  | _ => (0, 0)

/-- A link goes down (R390, R392): the operations it accepted complete internally and their completions are discarded; credits are reset. -/
def State.linkDown (s : State) (p k : Nat) (dest : LinkState) : State :=
  let l := s.link p k
  let mine := (s.trk.entries.cells.filter (fun c => c.2.dst.ofLink p k && !c.2.sent)).map (·.1)
  let left := s.trk.waiting.filter (fun (w : Waiting) => !(w.dst.ofLink p k && !w.op.writes))
  let s := { s with trk := { s.trk with waiting := left.map (fun (w : Waiting) =>
    if w.dst.ofLink p k then { w with dst := .internal 4 } else w) } }
  s.setLink p k { l with state := dest, width := 0, req := 0, rwd := 0, withheld := (0, 0), retry := [], gpf := none, discard := mine }

/-- The host holds all credits of a link in L0, unless CXA_CFG.IDE_REQ waits for a SECURE stream (R374, R386). -/
def State.grantCredits (s : State) (p k : Nat) : State :=
  let l := s.link p k
  if (s.port p).ideReq && l.ide != 1 then s
  else s.setLink p k { l with req := 256, rwd := 256 }

/-- CXL_LINK_L0 (R371, R389): the link comes to L0: from TRAINING with its credits granted, from RECOVERY with its retry buffer replayed. -/
def execCxlLinkL0 (port link : Nat) (s : State) : Ans :=
  .next (
    if !s.linkInUse port link || s.mode.mode == .standby then s else
    let l := s.link port link
    match l.state with
    | .training =>
      (s.setLink port link { l with state := .l0, width := if l.width = 0 then (s.port port).fullWidth else l.width }).grantCredits port link
    | .recovery =>
      if l.width = 0 then s
      else
        let s := s.setLink port link { l with state := .l0, retry := [] }
        l.retry.foldl (fun s r => s.respond port link r.1 r.2.1 r.2.2.1 r.2.2.2) s
    | _ => s)

/-- All the lanes from `a` on, `n` of them, are good. -/
def lanesGood (good : BitVec 16) (a n : Nat) : Bool := (List.range n).all (fun i => good.getLsbD (a + i))

/-- The widest width that good lanes allow (R388); 0 where none. -/
def bestWidth (full : Nat) (good : BitVec 16) : Nat :=
  if full = 16 then
    if lanesGood good 0 16 then 16 else if lanesGood good 0 8 || lanesGood good 8 8 then 8
    else if lanesGood good 0 4 || lanesGood good 12 4 then 4 else 0
  else if lanesGood good 0 8 then 8 else if lanesGood good 0 4 || lanesGood good 4 4 then 4 else 0

/-- CXL_LANE_FAILURE (R388): the link retrains through Recovery at the widest width its good lanes allow. -/
def execCxlLaneFailure (port link : Nat) (good : BitVec 16) (s : State) : Ans :=
  .next (
    if !s.linkInUse port link then s else
    let l := s.link port link
    if l.state != .l0 && l.state != .recovery then s
    else
      let w := bestWidth (s.port port).fullWidth good
      let low := w < (s.port port).fullWidth
      let s := s.setLink port link { l with state := .recovery, width := w, degraded := l.degraded || (low && w != 0) }
      if low then (if w = 0 then s else s.bumpLink port link Ctr.CX_CNT_DEGRADE).report (linkUnit port link) 0x14 Cls.major else s)

/-- CXL_LINK_RECOVERY_TIMEOUT (R390): the link has not come back to L0 within 1 ms: a port fault. -/
def execCxlLinkRecoveryTimeout (port link : Nat) (s : State) : Ans :=
  .next (
    if !s.linkInUse port link || (s.link port link).state != .recovery then s
    else
      let s := (s.linkDown port link .down).bumpLink port link Ctr.CX_CNT_PORT_FAULT
      ((s.logRec LogT.cxl (if port = 0 then Src.cxa else Src.cxb) Cls.major [w32 link]).report (linkUnit port link) 0x15 Cls.major).pump)

/-- RETRAIN_FULL (R391): a degraded link whose lanes pass the eye scan retrains at its configured width. -/
def execRetrainFull (port link : Nat) (pass : Bool) (s : State) : Ans :=
  .next (
    if !s.linkInUse port link then s else
    let l := s.link port link
    if l.state == .l0 && decide (l.width < (s.port port).fullWidth) && pass then
      s.setLink port link { l with state := .recovery, width := (s.port port).fullWidth }
    else s)

/-! ## Resets -/

/-- A command's function is reset (R424): one before its commit point is cancelled, one past it runs on and its completion is discarded; a record
either way. -/
def State.cancelJobs (s : State) (fn : Nat) : State :=
  let mine := s.cmd.jobs.filter (fun j => j.mbx.fn == fn)
  mine.foldl (fun s j =>
    match j.done with
    | some (rc, _, _) => { s with cmd := { s.cmd with jobs := s.cmd.jobs.filter (fun k => k.tag != j.tag) } }.lostCompletion j.opcode j.tag rc
    | none =>
      if j.committed then s.setJob j.tag (fun k => { k with discard := true })
      else
        let forming := match s.pair.forming with
          | some f => if f.tag = j.tag then none else some f
          | none => none
        { s with cmd := { s.cmd with jobs := s.cmd.jobs.filter (fun k => k.tag != j.tag) },
                 pair := { s.pair with forming := forming } }.lostCompletion j.opcode j.tag 17) s

/-- A firmware transfer that a function started is abandoned, its slot left empty (R446). -/
def State.dropTransfer (s : State) (fn : Nat) : State :=
  match s.cmd.transfer with
  | none => s
  | some t =>
    if t.fn ≠ fn then s
    else { s with cmd := { s.cmd with transfer := none },
                  fls := { s.fls with words := s.fls.words.filter (fun w _ => w / 2 ^ 19 != 4 * t.slot) } }

/-- The CXL.io state of a function is reset (R392, R393): event-interrupt policy, its session, and its decoders where `hdm`. -/
def State.resetIo (s : State) (fn : Nat) (hdm : Bool) : State :=
  let f := s.func fn
  (s.setFunc fn { f with policy := [none, none, none, none], secured := false, hdm := if hdm then [{}, {}, {}, {}] else f.hdm }).cancelJobs fn |>.dropTransfer fn

/-- PERST_N_ASSERT (R390, R392): PERST_N, a hot reset or a secondary bus reset takes the link down; the LD-ID Hot Reset Vector resets only the LDs it
names. -/
def execPerstNAssert (port link : Nat) (cause : ResetCause) (s : State) : Ans :=
  .next (
    if !decide (port < 2) || !decide (link < 2) then s else
    let l := s.link port link
    let held := s.setLink port link { l with perst := l.perst || cause == .perst }
    if !held.linkInUse port link then held
    else
      match cause with
      | .ldVector lds =>
        if (held.port port).mode = 1 then
          (List.range 16).foldl (fun s k => if lds.getLsbD k then s.resetIo (16 * port + k) true else s) held
        else held
      | _ =>
        let up := cause != .perst && held.mode.mode != .standby && !l.perst
        let s := held.linkDown port link (if up then .training else .down)
        let s := s.setLink port link { s.link port link with ide := 0 }
        ((s.linkFuncs port link).foldl (fun s fn => s.resetIo fn true) s).pump)

/-- PERST_N_RELEASE (R371, R392): the link trains once the controller has left STANDBY. -/
def execPerstNRelease (port link : Nat) (s : State) : Ans :=
  .next (
    if !decide (port < 2) || !decide (link < 2) then s else
    let l := s.link port link
    let go := l.perst && s.linkInUse port link && s.mode.mode != .standby && l.state == .down
    s.setLink port link { l with perst := false, state := if go then .training else l.state })

/-- FUNCTION_LEVEL_RESET (R393). -/
def execFunctionLevelReset (fn : Nat) (s : State) : Ans :=
  .next (
    let (p, k) := s.linkOf fn
    if s.linkInUse p k && (s.linkFuncs p k).contains fn then s.resetIo fn false else s)

/-! ## Decoders -/

/-- The DPA ranges of a function's committed decoders but one: first and end. -/
def dpaRanges (ds : List Hdm) (but : Nat) : List (Nat × Nat) :=
  (List.range ds.length).filterMap (fun i =>
    let d := ds.getD i {}
    if d.committed && i != but then some (hdmDpaBase ds i, hdmDpaBase ds i + d.size / d.iw) else none)

/-- A decoder's commit succeeds (R376): decoder `i` of `ds` holds the values programmed. -/
def State.hdmOk (s : State) (fn : Nat) (ds : List Hdm) (i : Nat) : Bool :=
  let d := ds.getD i {}
  let m := 268435456
  let lo := hdmDpaBase ds i
  let hi := lo + d.size / d.iw
  [1, 2, 4, 8].contains d.iw && [256, 512, 1024, 2048, 4096, 8192, 16384].contains d.ig && d.base % m == 0 && d.size % (d.iw * m) == 0 &&
  (List.range i).all (fun j => let e := ds.getD j {}; !e.committed || decide (e.base + e.size ≤ d.base)) &&
  decide (hi ≤ s.ldSpan fn) && (dpaRanges ds i).all (fun r => decide (r.2 ≤ lo) || decide (hi ≤ r.1))

/-- HDM_DECODER_COMMIT (R376, R378). -/
def execHdmDecoderCommit (fn idx : Nat) (d : HdmProg) (s : State) : Ans :=
  .next (
    if !s.pwr.core || !decide (fn < 32) || !decide (idx < 4) || !s.fnUp fn then s else
    let f := s.func fn
    let old := f.hdm.getD idx {}
    if old.committed && old.lock then s
    else
      let new_ : Hdm := { base := d.base, size := d.size, skip := d.skip, iw := d.iw, ig := d.ig, pos := d.pos, lock := d.lock }
      let ds := f.hdm.set idx new_
      let ok := s.hdmOk fn ds idx
      s.setFunc fn { f with hdm := ds.set idx { new_ with committed := ok, err := !ok } })

/-! ## GPF -/

/-- A write or atomic not over yet: its completion not sent, or its BOUNDED data not handed over. -/
def Entry.open_ (e : Entry) : Bool := e.op.writes && (!e.sent || e.owed)

/-- GPF_PHASE2_REQUEST (R381): the writes and atomics that the link accepted before it are noted. -/
def execGpfPhase2Request (port link : Nat) (s : State) : Ans :=
  .next (
    if !s.linkInUse port link || (s.link port link).state != .l0 then s else
    let mine := (s.trk.entries.cells.filter (fun c => c.2.dst.ofLink port link && c.2.open_)).map (fun c => c.2.arr)
    let sent := (s.pair.dataSent.flatMap (·.2))
    let held := (s.trk.waiting.filter (fun w => w.dst.ofLink port link && w.op.writes)).map (fun w => w.dst.ldTag)
    s.setLink port link { s.link port link with gpf := some ⟨mine ++ sent, held, s.trk.nextArr⟩ })

/-- A GPF Phase 2 request's writes are over (R381). -/
def State.gpfClear (s : State) (p k : Nat) (g : GpfWait) : Bool :=
  !s.trk.entries.cells.any (fun c => c.2.dst.ofLink p k && c.2.open_ &&
    (g.arrs.contains c.2.arr || (decide (g.upTo ≤ c.2.arr) && g.tags.contains c.2.dst.ldTag))) &&
  !s.trk.waiting.any (fun w => w.dst.ofLink p k && g.tags.contains w.dst.ldTag) &&
  !s.pair.dataSent.any (fun d => d.2.any (fun a => g.arrs.contains a || (!g.tags.isEmpty && decide (g.upTo ≤ a))))

/-- GPF_PHASE2_RESPONSE (R381, R382). -/
def execGpfPhase2Response (port link : Nat) (s : State) : Ans :=
  .next (
    if !s.linkInUse port link then s else
    let l := s.link port link
    match l.gpf with
    | none => s
    | some g =>
      if s.gpfClear port link g && l.state == .l0 then
        ((s.setLink port link { l with gpf := none }).emit (.gpf port link)).bumpLink port link Ctr.CX_CNT_GPF
      else s)

/-! ## IDE, DOE, RAS -/

/-- IDE_INTEGRITY_FAIL (R387): the stream enters INSECURE. -/
def execIdeIntegrityFail (port link : Nat) (s : State) : Ans :=
  .next (
    if !s.linkInUse port link || (s.link port link).ide != 1 then s
    else ((s.setLink port link { s.link port link with ide := 2 }).bumpLink port link Ctr.CX_CNT_IDE_FAIL).ras port link 5)

/-- IDE_KM (R386, R387): keys are programmed over the secured session of a function of the link; the stream is SECURE, and a link that waited for it
grants its credits. -/
def execIdeKm (port link : Nat) (s : State) : Ans :=
  .next (
    if !s.linkInUse port link || (s.link port link).ide != 0 || !(s.linkFuncs port link).any (fun fn => (s.func fn).secured) then s
    else
      let waited := (s.port port).ideReq && (s.link port link).state == .l0
      let s := s.setLink port link { s.link port link with ide := 1 }
      if waited then s.grantCredits port link else s)

/-- DOE_REQUEST (R370): a request on a function's DOE mailbox: 0 discovery, 1 CDAT, 2 CMA/SPDM, 3 secured CMA/SPDM, which opens the session that
IDE_KM uses; another protocol gets no answer. The words of the answers are those of the CXL and SPDM standards (PRESUMED). -/
def execDoeRequest (fn protocol : Nat) (words : List Word) (s : State) : Ans :=
  .next (
    if !s.pwr.core || !s.fnUp fn || !decide (protocol < 4) then s
    else
      let s := if protocol = 3 then s.setFunc fn { s.func fn with secured := true } else s
      s.emit (.doe fn protocol (Config.doeAnswer protocol words)))

/-- CRC_THRESHOLD (R385): the link layer's CRC or retry threshold. -/
def execCrcThreshold (port link : Nat) (retry : Bool) (s : State) : Ans :=
  .next (if s.linkInUse port link then s.ras port link (if retry then 3 else 2) else s)

/-! ## LD spans (R379) -/

/-- A span of an LD, in units of 256 MiB, may be set: the LD exists in the mode in force and no window of it ends beyond. -/
def State.spanOk (s : State) (ld span : Nat) : Bool :=
  let q := s.port (ld / 16)
  ldExists q.mode q.lds ld && decide (span ≤ 65536) &&
  (s.windows ld).all (fun w => decide ((w.dpa + w.len) * extentBytes ≤ span * 268435456))

/-- Set the span of an LD. -/
def State.setSpan (s : State) (ld span : Nat) : State :=
  s.setFld (Reg.CX_LD_SPAN (if ld < 16 then 0x10 else 0x11) (ld % 16)) Fld.CX_LD_SPAN_SPAN span

/-- CXA_LD_SPAN_WRITE (R379): a direct write of CXA_LDnn_SPAN or CXB_LDnn_SPAN. -/
def execCxaLdSpanWrite (port ld span : Nat) (s : State) : Ans :=
  .next (
    if !s.pwr.core || !decide (port < 2) || !decide (ld < 16) then s
    else if s.spanOk (16 * port + ld) span then s.setSpan (16 * port + ld) span
    else s.bump (Ctr.CX_CNT_SPAN_REFUSED (portPage port)))

/-- An FM API command: the FM-owned LD's primary mailbox takes it in MLD mode (R379, R427). -/
def State.fmCommand (s : State) (m : Mbx) (op : Nat) (body : State → State × Reply) : State :=
  s.simple m ⟨op, false, false, false, false⟩ true (fun s => if m.fn < 32 then (s, .unsupported) else body s)

/-- The allocations of LDs from `start` on, `limit` of them: each with its span in units of 256 MiB and a second, empty range. -/
def State.ldAllocs (s : State) (p start limit : Nat) : List Word :=
  let n := (s.port p).ldCount
  let l := (List.range (min limit (n - start))).map (· + start)
  [w32 (n + start * 2 ^ 16), w32 l.length] ++ l.flatMap (fun k => lohi (s.ldSpan (16 * p + k) / 268435456) ++ [0, 0])

/-- GET_LD_INFO (R379): the port's capacity in bytes and its LDs. -/
def execGetLdInfo (m : Mbx) (s : State) : Ans :=
  .next (s.fmCommand m 0x5400 (fun s =>
    let p := m.fn - 0x20
    (s, .ok (lohi (sumL ((List.range (s.port p).ldCount).map (fun k => s.ldSpan (16 * p + k)))) ++ [w32 (s.port p).ldCount]))))

/-- GET_LD_ALLOCATIONS (R379). -/
def execGetLdAllocations (m : Mbx) (start limit : Nat) (s : State) : Ans :=
  .next (s.fmCommand m 0x5401 (fun s => (s, .ok (s.ldAllocs (m.fn - 0x20) start limit))))

/-- SET_LD_ALLOCATIONS (R379): all the spans named, or none. -/
def execSetLdAllocations (m : Mbx) (spans : List (Nat × Nat)) (s : State) : Ans :=
  .next (s.fmCommand m 0x5402 (fun s =>
    let p := m.fn - 0x20
    if spans.all (fun c => decide (c.1 < 16) && s.spanOk (16 * p + c.1) c.2) then
      (spans.foldl (fun s c => s.setSpan (16 * p + c.1) c.2) s, .ok [])
    else (s, .invalid)))

end Sys2Proof.Machine
end

