-- ==== Sys2Proof/Machine/LogBase.lean ====
section
/-!
DEFINITION. Machine/LogBase.lean: the logbook in config flash: the bytes of records, where they are placed, copies to FIX, what flushes leave
(19_logbook.md, R534, R541 to R544; 16_config_flash.md, R492).
-/
namespace Sys2Proof.Machine

/-! ## Bytes -/

/-- A record as it is laid out (R534). -/
def LogRec.bytes (r : LogRec) : List Byte :=
  let body := bytesOf 2 r.len ++ bytesOf 1 r.typ ++ bytesOf 1 r.source ++ bytesOf 4 (r.cls % 4 + 4 * bit r.replayed) ++ bytesOf 8 r.seq ++
    bytesOf 8 r.time ++ r.payload.flatMap (fun w => bytesOf 4 w.toNat)
  body ++ bytesOf 4 (crc32c body)

/-- Bytes as 32-bit words. -/
def wordsOfBytes : List Byte → List Word
  | a :: b :: c :: d :: t => bytesWord a.toNat b.toNat c.toNat d.toNat :: wordsOfBytes t
  | _ => []

/-- A journal or force-log entry as it is laid out (R490, R492). -/
def JEntry.bytes (e : JEntry) : List Byte :=
  let body := bytesOf 1 e.kind ++ bytesOf 1 e.info ++ bytesOf 2 0 ++ bytesOf 4 e.fa ++ bytesOf 8 e.seq ++ bytesOf 12 0
  body ++ bytesOf 4 (crc32c body)

/-- 32 bytes as a flash word, the lowest first. -/
def wordOf (l : List Byte) : BitVec 256 := BitVec.ofNat 256 (l.foldr (fun b n => b.toNat + 256 * n) 0)

/-- The 32 bytes from an offset; 0xFF past the end. -/
def wordBytes (l : List Byte) (off : Nat) : List Byte := (List.range 32).map (fun k => l.getD (off + k) 0xFF)

/-- The flash word at an offset of a sector of records. -/
def logWord (l : List LogPlaced) (sector off : Nat) : BitVec 256 :=
  let here := l.filter (fun p => p.sector == sector && decide (p.off < off + 32) && decide (off < p.off + p.record.len))
  wordOf ((List.range 32).map (fun k =>
    match here.find? (fun p => decide (p.off ≤ off + k) && decide (off + k < p.off + p.record.len)) with
    | some p => p.record.bytes.getD (off + k - p.off) 0xFF
    | none => 0xFF))

/-! ## Places -/

/-- The sector, of 64 KiB, at which ROLL begins (bank B, 0x100_0000), and FIX (bank A, 0x140_0000). -/
abbrev rollSector : Nat := 0x500
abbrev fixSector : Nat := 0x140

/-- Sectors of ROLL and of FIX. -/
abbrev rollSectors : Nat := 256
abbrev fixSectors : Nat := 64

/-- A ROLL sector holds records. -/
def Logbook.rollUsed (l : Logbook) (k : Nat) : Bool := l.roll.any (fun p => p.sector == k)

/-- Where a record of `len` bytes goes in ROLL: it does not span a sector; sectors that failed are skipped, one not erased ends the ring (R541,
R542). -/
def State.rollPlace (s : State) (len : Nat) : Option (Nat × Nat) :=
  let (k, off) := s.log.rollAt
  let bad := fun j => s.fls.skip.contains (rollSector + j)
  if off + len ≤ 65536 ∧ !bad k then some (k, off)
  else match ((List.range (rollSectors - 1)).map (fun j => (k + 1 + j) % rollSectors)).find? (fun j => !bad j) with
    | some j => if s.log.rollUsed j then none else some (j, 0)
    | none => none

/-- Where a record goes in FIX; none once its sectors are full (R543). -/
def State.fixPlace (s : State) (len : Nat) : Option (Nat × Nat) :=
  let (k, off) := s.log.fixAt
  let bad := fun j => s.fls.skip.contains (fixSector + j)
  if off + len ≤ 65536 ∧ !bad k then some (k, off)
  else (((List.range fixSectors).filter (fun j => decide (k < j))).find? (fun j => !bad j)).map (fun j => (j, 0))

/-- A place with its offset at the next 32-byte word (R541). -/
def padWord (p : Nat × Nat) : Nat × Nat := (p.1, ceilDiv p.2 32 * 32)

/-- The first record that FIX holds copies from: the newest CLEARED (R543). -/
def Logbook.fixFrom (l : Logbook) : Nat :=
  ((l.roll ++ l.fix).filter (fun p => p.record.typ == LogT.cleared)).foldl (fun m p => max m p.record.seq) 0

/-- The newest SEQ in FIX; none while it is empty. -/
def Logbook.fixLast (l : Logbook) : Option Nat := l.fix.getLast?.map (·.record.seq)

/-- Copy one record to FIX. -/
def State.fixCopyOne (s : State) (r : LogRec) : State :=
  if s.log.fixState ≠ 0 then s
  else match s.fixPlace r.len with
  | some (k, off) => { s with log := { s.log with fix := s.log.fix ++ [⟨k, off, r⟩], fixAt := (k, off + r.len) } }
  | none => { s with log := { s.log with fixState := 2 } }

/-- Copy to FIX what ROLL holds and FIX does not yet (R543). -/
def State.fixCopy (s : State) : State :=
  if s.log.fixState ≠ 0 then s
  else
    let from_ := s.log.fixFrom
    let new := s.log.roll.filter (fun p => decide (from_ ≤ p.record.seq) && (match s.log.fixLast with
      | some n => decide (n < p.record.seq)
      | none => true))
    let s := new.foldl (fun (s : State) p => s.fixCopyOne p.record) s
    { s with log := { s.log with fixAt := padWord s.log.fixAt } }

/-- The records of a flash sector are gone with its erase. -/
def State.dropLogSector (s : State) (k : Nat) : State :=
  { s with log := { s.log with
    roll := s.log.roll.filter (fun p => rollSector + p.sector != k),
    fix := s.log.fix.filter (fun p => fixSector + p.sector != k) } }

end Sys2Proof.Machine
end

