-- ==== Sys2Proof/Machine/Flash.lean ====
section
/-!
DEFINITION. Machine/Flash.lean: the configuration flash: register operations, banks, journals, the force log, protection
(16_config_flash.md, R477 to R495).
-/
namespace Sys2Proof.Machine

/-! ## Addresses -/

/-- The bank of a flash address (R477): 0 A, 1 B. -/
def faBank (fa : Nat) : Nat := fa / 2 ^ 26 % 2
/-- The offset in the bank. -/
def faOff (fa : Nat) : Nat := fa % 2 ^ 26
/-- The sector of a flash address. -/
def faSector (fa : Nat) : Nat := fa / 65536

/-- A bank. -/
def Flash.bank (f : Flash) (n : Nat) : Bank := if n = 0 then f.bankA else f.bankB
/-- Set a bank. -/
def Flash.setBank (f : Flash) (n : Nat) (b : Bank) : Flash := if n = 0 then { f with bankA := b } else { f with bankB := b }

/-- Set a bank of the flash. -/
def State.setBank (s : State) (n : Nat) (b : Bank) : State := { s with fls := s.fls.setBank n b }

/-- The protection bit of the sector of a flash address (R485). -/
def Flash.protected_ (f : Flash) (fa : Nat) : Bool :=
  let off := faOff fa
  if off < 2 ^ 25 then (if faBank fa = 0 then f.protA else f.protB).getLsbD (off / 2 ^ 20)
  else f.protInfo.getLsbD (4 * faBank fa + (off - 2 ^ 25) / 65536 % 4)

/-- The firmware slot a flash address lies in, if it does. -/
def fwSlotOf (fa : Nat) : Option Nat := if faOff fa < 2 ^ 24 then some (faBank fa) else none

/-- A firmware slot is left empty: its words read all ones. -/
def Flash.emptySlot (f : Flash) (slot : Nat) : Flash :=
  { f with words := f.words.filter (fun w _ => fwSlotOf (32 * w) != some slot) }

/-- The word of a journal or the force log at a flash address (R490, R492). -/
def Flash.journalWord (f : Flash) (fa : Nat) : BitVec 256 :=
  let k := (faOff fa - 2 ^ 25) / 65536
  let j := if k < 2 then (f.bank (faBank fa)).journal else f.force
  let l := if k % 2 = 0 then j.a else j.b
  match l[fa % 65536 / 32]? with
  | some (some e) => wordOf e.bytes
  | _ => BitVec.allOnes 256

/-- A word of the identity sector (R477). -/
def identityWord (off : Nat) : BitVec 256 :=
  let cert := Config.certChain
  let head : List Byte := bytesOf 16 Config.serial.toNat ++ (bytesOf 6 Config.macBase.toNat).reverse ++ List.replicate 10 0xFF ++ bytesOf 4 cert.length
  if off < 0x40 then wordOf (wordBytes head off)
  else if off < 0x100 then BitVec.allOnes 256
  else wordOf (wordBytes cert (off - 0x100))

/-- A word of the array. The areas that the sequencer keeps read as what they hold; a frame, of which the spec gives no layout, and a sector whose
content is undefined, are free values. -/
def State.flashWord (s : State) (fa : Nat) : BitVec 256 :=
  let off := faOff fa
  let a := faBank fa == 0
  if s.fls.undef.has (faSector fa) then BitVec.ofNat 256 s.freeVal
  else if 2 ^ 25 ≤ off then
    if a || decide (off < 2 ^ 25 + 0x20000) then s.fls.journalWord fa
    else if off < 2 ^ 25 + 0x30000 then identityWord (off - 2 ^ 25 - 0x20000)
    else s.fls.words.getD (fa / 32) (BitVec.allOnes 256)
  else if !a && decide (0x1000000 ≤ off) then logWord s.log.roll ((off - 0x1000000) / 65536) (off % 65536)
  else if a && decide (0x1400000 ≤ off) && decide (off < 0x1800000) then logWord s.log.fix ((off - 0x1400000) / 65536) (off % 65536)
  else if a && decide (0x1000000 ≤ off) && decide (off < 0x1400000) then BitVec.ofNat 256 s.freeVal
  else s.fls.words.getD (fa / 32) (BitVec.allOnes 256)

/-! ## Journals and the force log -/

/-- Words of a sector. -/
abbrev sectorWords : Nat := 2048

/-- The active sector of a pair. -/
def JPair.active (j : JPair) : List (Option JEntry) := if j.second then j.b else j.a

/-- Append an entry to the active sector. -/
def JPair.append (j : JPair) (kind info fa : Nat) : JPair :=
  let e : JEntry := ⟨kind, info, fa, j.seq + 1⟩
  if j.second then { j with b := j.b ++ [some e], seq := j.seq + 1 } else { j with a := j.a ++ [some e], seq := j.seq + 1 }

/-- The journal before an erase of a sector (R493): it switches first where fewer than 4 words are free; then the PENDING entry. `base` is the flash
address of the pair's first sector. -/
def JPair.pendingErase (j : JPair) (base sector : Nat) : JPair :=
  let j :=
    if sectorWords - j.active.length < 4 then
      let other := base + (if j.second then 0 else 65536)
      let k := (j.append 1 0 other).append 2 0 other
      let k := if k.second then { k with a := [] } else { k with b := [] }
      ({ k with second := !k.second }).append 3 0 other
    else j
  j.append 1 0 (sector * 65536)

/-- The flash address of a bank's journal. -/
def journalBase (bank : Nat) : Nat := bank * 2 ^ 26 + 2 ^ 25

/-- Append an entry to the force log (R490): where fewer than 4 words are free it goes to the other sector, and the one left is erased. -/
def JPair.force (j : JPair) (kind info v : Nat) : JPair :=
  if sectorWords - j.active.length < 4 then
    let k := ({ j with second := !j.second }).append kind info v
    if k.second then { k with a := [] } else { k with b := [] }
  else j.append kind info v

/-- Append an entry to the force log. -/
def State.forceLog (s : State) (kind info v : Nat) : State := { s with fls := { s.fls with force := s.fls.force.force kind info v } }

/-- The newest entry of a kind in the force log. -/
def JPair.newest (j : JPair) (kind : Nat) : Option JEntry :=
  ((j.a ++ j.b).filterMap id).foldl (fun b e =>
    if e.kind ≠ kind then b else match b with
      | none => some e
      | some d => if d.seq < e.seq then some e else b) none

/-- CRY_BOOT.PREF (R490). -/
def State.prefSlot (s : State) : Nat := ((s.fls.force.newest 0x12).map (fun e => e.fa % 2)).getD 0

/-- PENDING entries of the active journal with no later DONE (R494): their sectors. -/
def JPair.torn (j : JPair) : List Nat :=
  let es := j.active.filterMap id
  ((es.filter (fun e => e.kind == 1 && !es.any (fun d => d.kind == 2 && d.fa == e.fa && decide (e.seq < d.seq)))).map (fun e => e.fa / 65536)).eraseDups

/-! ## Operations of a bank -/

/-- The words and the undefined mark of a sector go with its erase. -/
def Flash.eraseSector (f : Flash) (sector : Nat) : Flash :=
  { f with words := f.words.filter (fun w _ => faSector (32 * w) != sector), undef := f.undef.erase sector,
           skip := f.skip.filter (· != sector) }

/-- Start an operation in a bank that is idle, or nested in its suspended erase (R479, R483, R493). -/
def Bank.start (b : Bank) (n : Nat) (o : FlsOp) : Bank :=
  if b.state == .eraseSuspended then { b with inner := some o, state := .nested }
  else if o.word.isSome then { b with cur := some o, state := .programming }
  else { b with cur := some o, state := .erasing, journal := b.journal.pendingErase (journalBase n) (faSector o.fa) }

/-- An operation may run now behind no other: the bank is idle, or its erase is suspended and the operation may be nested. -/
def Bank.ready (b : Bank) (o : FlsOp) : Bool :=
  b.state == .idle || (b.state == .eraseSuspended && o.word.isSome && (match b.cur with
    | some c => faSector c.fa != faSector o.fa
    | none => true))

/-- A bank takes its next operation (R479, R483, R484): while an erase is suspended, a queued program is nested; the erase resumes where no program is
queued or a RESUME waits. -/
def Bank.next (b : Bank) (n : Nat) : Bank :=
  match b.state with
  | .idle =>
    match b.queue with
    | [] => b
    | o :: t => ({ b with queue := t }).start n o
  | .eraseSuspended =>
    if b.resume then { b with state := .erasing, resume := false, auto := false }
    else
      match b.queue.find? (fun o => b.ready o) with
      | some o => ({ b with queue := b.queue.erase o }).start n o
      | none => if b.auto then { b with state := .erasing, auto := false } else b
  | _ => b

/-- FLS_CMD.RESULT. -/
def State.flsResult (s : State) (r : Nat) : State := { s with fls := { s.fls with result := r } }

/-- FLS_CMD.BUSY: a register operation is queued or running. -/
def Flash.busyNow (f : Flash) : Bool :=
  [f.bankA, f.bankB].any (fun b => ((b.cur.toList ++ b.inner.toList) ++ b.queue).any (fun o => o.client == .register))

/-- BUSY follows the banks. -/
def State.flsBusy (s : State) : State := { s with fls := { s.fls with busy := s.fls.busyNow } }

/-- FLS_ADDR.FA. -/
def State.flsAddr (s : State) : Nat := s.fld Reg.FLS_ADDR Fld.FLS_ADDR_FA / 32 * 32

/-- FLS_DATA0 to 7 as one word. -/
def State.flsData (s : State) : BitVec 256 :=
  BitVec.ofNat 256 ((List.range 8).foldl (fun n k => n + (s.reg (Reg.FLS_DATA k)).toNat * 2 ^ (32 * k)) 0)

/-- Set FLS_DATA0 to 7. -/
def State.setFlsData (s : State) (d : BitVec 256) : State :=
  (List.range 8).foldl (fun s k => s.setReg (Reg.FLS_DATA k) (w32 (d.toNat / 2 ^ (32 * k)))) s

/-- R488: a register-issued program or erase is accepted: HOLD with PURPOSE 0b10, on the inactive firmware slot or a reserved sector. -/
def State.areaOk (s : State) (fa : Nat) : Bool :=
  let off := faOff fa
  s.mode.mode == .hold && s.mode.holdPurpose == 2 &&
  (match fwSlotOf fa with
   | some k => s.cmd.active != some k
   | none => (faBank fa = 0 && decide (0x1800000 ≤ off) && decide (off < 2 ^ 25)) || (faBank fa = 1 && decide (2 ^ 25 + 3 * 65536 ≤ off) && decide (off < 2 ^ 25 + 4 * 65536)))

/-- Issue a program or an erase by register (R478, R479, R483, R485, R488). -/
def State.flsIssue (s : State) (o : FlsOp) : State :=
  let n := faBank o.fa
  let b := s.fls.bank n
  let here := match b.cur with | some c => faSector c.fa == faSector o.fa | none => false
  let eraseHeld := b.state == .eraseSuspended || b.state == .nested
  if !s.areaOk o.fa then s.flsResult 7
  else if s.fls.protected_ o.fa then s.flsResult 5
  else if b.state == .programSuspended || (eraseHeld && (o.word.isNone || here)) then s.flsResult 10
  else if o.word.isSome && s.flashWord o.fa != BitVec.allOnes 256 then s.flsResult 6
  else if b.ready o && b.queue.isEmpty then (s.setBank n (b.start n o)).flsBusy
  else if 8 ≤ b.queue.length then s.flsResult 9
  else (s.setBank n { b with queue := b.queue ++ [o] }).flsBusy

/-- A register operation of FLS_CMD by a requester (R459, R488): with its unlock. -/
def State.flsCmd (s : State) (who op : Nat) (body : State → State) : State :=
  if !s.pwr.core || !decide (who < 5) then s else
  match s.guarded who with
  | (true, s) => body (s.setFld Reg.FLS_CMD Fld.FLS_CMD_OP op)
  | (false, s) => s

/-- The status word of R480; `here` where the word read lies in the suspended sector. The pulses applied so far are a free value. -/
def State.flsStatusWord (s : State) (n : Nat) (here : Bool) : BitVec 256 :=
  let b := s.fls.bank n
  let fa := match b.inner, b.cur with
    | some o, _ => o.fa
    | none, some o => o.fa
    | none, none => 0
  let st := bit (b.state == .programming) + 2 * bit (b.state == .erasing) + 4 * bit (b.state == .eraseSuspended || b.state == .nested) +
    8 * bit (b.state == .programSuspended) + 16 * bit here + 32 * bit (b.state == .nested) + 64 * bit b.failed
  BitVec.ofNat 256 (0xF5A7 * 65536 + st + fa * 2 ^ 32 + s.freeVal % 65 * 2 ^ 64)

/-- FLASH_READ (R480, R483). -/
def execFlashRead (who : Nat) (s : State) : Ans :=
  .next (s.flsCmd who 1 (fun s =>
    let fa := s.flsAddr
    let b := s.fls.bank (faBank fa)
    let sector := match b.cur with | some c => faSector c.fa == faSector fa | none => false
    let word := match b.cur with | some c => c.fa / 32 == fa / 32 | none => false
    let here := (b.state == .eraseSuspended || b.state == .nested) && sector
    let status := b.state == .programming || b.state == .erasing || b.state == .nested || here || (b.state == .programSuspended && word)
    if status then ((s.setFlsData (s.flsStatusWord (faBank fa) here)).flsResult 3).freed.bump Ctr.FLS_CNT_READ_BUSY
    else ((s.setFlsData (s.flashWord fa)).flsResult 1).freed))

/-- FLASH_PROGRAM (R478). -/
def execFlashProgram (who : Nat) (s : State) : Ans :=
  .next (s.flsCmd who 2 (fun s => s.flsIssue ⟨.register, s.flsAddr, some s.flsData⟩))

/-- FLASH_ERASE (R493). -/
def execFlashErase (who : Nat) (s : State) : Ans :=
  .next (s.flsCmd who 3 (fun s => s.flsIssue ⟨.register, s.flsAddr / 65536 * 65536, none⟩))

/-- FLASH_SUSPEND (R483). -/
def execFlashSuspend (who : Nat) (s : State) : Ans :=
  .next (s.flsCmd who 4 (fun s =>
    let n := faBank s.flsAddr
    let b := s.fls.bank n
    match b.state with
    | .erasing => (s.setBank n { b with state := .eraseSuspended, auto := false }).flsResult 1
    | .programming => (s.setBank n { b with state := .programSuspended }).flsResult 1
    | .nested => s.flsResult 10
    | _ => s.flsResult 1))

/-- FLASH_RESUME (R483). -/
def execFlashResume (who : Nat) (s : State) : Ans :=
  .next (s.flsCmd who 5 (fun s =>
    let n := faBank s.flsAddr
    let b := s.fls.bank n
    match b.state with
    | .eraseSuspended => (s.setBank n { b with state := .erasing }).flsResult 1
    | .programSuspended => (s.setBank n { b with state := .programming }).flsResult 1
    | .nested => (s.setBank n { b with resume := true }).flsResult 1
    | _ => s.flsResult 1))

/-- An operation has failed (R495): the bank's FAIL, the fault report, the sector is skipped, a firmware slot is left empty. -/
def State.flsFailed (s : State) (n : Nat) (o : FlsOp) : State :=
  let k := faSector o.fa
  let f := match fwSlotOf o.fa with
    | some slot => s.fls.emptySlot slot
    | none => s.fls
  ({ s with fls := { f with skip := if f.skip.contains k then f.skip else f.skip ++ [k] } }).report (unitId 0x15 n) 0x1A Cls.major |>.bump
    (if o.word.isSome then Ctr.FLS_CNT_PROG_FAIL else Ctr.FLS_CNT_ERASE_FAIL)

/-- FLASH_PROGRAM_DONE (R478, R482, R495): the program of a bank, nested or not, ends. -/
def execFlashProgramDone (bank : Nat) (pass : Bool) (s : State) : Ans :=
  .next (
    if !s.pwr.core || !decide (bank < 2) then s else
    let b := s.fls.bank bank
    let run := match b.state with
      | .nested => b.inner
      | .programming => b.cur
      | _ => none
    match run with
    | none => s
    | some o =>
      let b' : Bank := if b.state == .nested then { b with inner := none, state := .eraseSuspended, failed := !pass }
        else { b with cur := none, state := .idle, failed := !pass }
      let v := if pass then s.fls.words.getD (o.fa / 32) (BitVec.allOnes 256) &&& o.word.getD 0 else BitVec.ofNat 256 s.freeVal
      let s := { s with fls := { s.fls with words := s.fls.words.put (BitVec.allOnes 256) (o.fa / 32) v } }
      let s := (s.setBank bank (b'.next bank)).flsBusy
      let s := if pass then s else (s.freed).flsFailed bank o
      if o.client == .register then s.flsResult (if pass then 1 else 4) else s)

/-- The next FIX sector of a LOG_CLEAR is erased, behind what bank A does (R544); once all are, FIX fills again. -/
def State.fixEraseNext (s : State) : State :=
  match s.log.fixErase with
  | [] =>
    if s.log.fixState = 1 then
      State.fixCopy { s with log := { s.log with fixState := 0, fixAt := (0, 0) } }
    else s
  | k :: _ =>
    let o : FlsOp := ⟨.logbook, (fixSector + k) * 65536, none⟩
    let b := s.fls.bankA
    s.setBank 0 (if b.ready o && b.queue.isEmpty then b.start 0 o else { b with queue := b.queue ++ [o] })

/-- The erase of a FIX sector has ended. -/
def State.fixErased (s : State) (k : Nat) : State :=
  let s := s.dropLogSector k
  State.fixEraseNext { s with log := { s.log with fixErase := s.log.fixErase.filter (fun j => fixSector + j != k) } }

/-- FLASH_ERASE_DONE (R482, R493, R495): the erase of a bank ends. -/
def execFlashEraseDone (bank : Nat) (pass : Bool) (s : State) : Ans :=
  .next (
    if !s.pwr.core || !decide (bank < 2) then s else
    let b := s.fls.bank bank
    match (if b.state == .erasing then b.cur else none) with
    | none => s
    | some o =>
      let k := faSector o.fa
      let s := if pass then { s with fls := s.fls.eraseSector k } else { s with fls := { s.fls with undef := s.fls.undef.insert k 0 } }
      let b' : Bank := { b with cur := none, state := .idle, failed := !pass, auto := false, resume := false,
                                journal := if pass then b.journal.append 2 0 (k * 65536) else b.journal }
      let s := (s.setBank bank (b'.next bank)).flsBusy
      let s := if pass then s else s.flsFailed bank o
      match o.client with
      | .register => s.flsResult (if pass then 1 else 4)
      | .logbook => s.fixErased k
      | .frames | .firmware => s)

/-- FETCH_SUSPEND (R481): a bank suspends its operation for a fetch and resumes it. -/
def execFetchSuspend (bank : Nat) (s : State) : Ans :=
  .next (
    if !s.pwr.core || !decide (bank < 2) then s else
    let st := (s.fls.bank bank).state
    if st == .erasing || st == .programming then s.bump Ctr.FLS_CNT_FETCH_SUSPEND else s)

/-- PROG_WAIT_EXPIRED (R484): an erase is suspended for the programs queued behind it; erases of the frames and ROLL areas are exempt. -/
def execProgWaitExpired (bank : Nat) (s : State) : Ans :=
  .next (
    if !s.pwr.core || !decide (bank < 2) then s else
    let b := s.fls.bank bank
    let exempt := match b.cur with
      | some o => (faBank o.fa = 0 && decide (0x1000000 ≤ faOff o.fa) && decide (faOff o.fa < 0x1400000)) ||
          (faBank o.fa = 1 && decide (0x1000000 ≤ faOff o.fa) && decide (faOff o.fa < 0x2000000))
      | none => true
    if b.state == .erasing && !exempt && b.queue.any (fun o => o.word.isSome && (match b.cur with
        | some c => faSector c.fa != faSector o.fa
        | none => false)) then
      s.setBank bank (({ b with state := .eraseSuspended, auto := true } : Bank).next bank)
    else s)

/-- At the application of VDD_FLASH, before the boot ROM selects a slot, sectors whose erase was cut short are erased again (R494). -/
def State.journalScan (s : State) : State :=
  (List.range 2).foldl (fun s n =>
      ((s.fls.bank n).journal.torn).foldl (fun s k =>
        let b := s.fls.bank n
        let s := s.setBank n { b with journal := (b.journal.pendingErase (journalBase n) k).append 2 0 (k * 65536) }
        let s := s.dropLogSector k
        let f := s.fls.eraseSector k
        let f := match fwSlotOf (k * 65536) with
          | some slot => f.emptySlot slot
          | none => f
        let s := { s with fls := { f with reerased := min 255 (f.reerased + 1) } }
        (s.bump Ctr.FLS_CNT_JOURNAL_REERASE).logRec LogT.config Src.fls Cls.minor [w32 (k * 65536)]) s) s

/-- JOURNAL_SCAN (R494): the scan of the bring-up's journals. -/
def execJournalScan (s : State) : Ans := .next (if !s.pwr.core || s.mode.bringup != .boot then s else s.journalScan)

/-! ## Protection (R485 to R487) -/

/-- The password presented. -/
def State.flsPwd (s : State) : BitVec 64 :=
  BitVec.ofNat 64 ((s.reg Reg.FLS_PWD_LO).toNat + (s.reg Reg.FLS_PWD_HI).toNat * 2 ^ 32)

/-- PROT_WRITE (R486, R487). -/
def execProtWrite (who : Nat) (s : State) : Ans :=
  .next (s.flsCmd who 6 (fun s =>
    let f := s.fls
    let ok := match f.password with
      | none => true
      | some p => p == s.flsPwd
    if f.locked then (s.flsResult 8).bump Ctr.FLS_CNT_PWD_REFUSED
    else if !ok then
      (({ s with fls := { f with wrong := min 4 (f.wrong + 1), locked := decide (4 ≤ f.wrong + 1) } }).flsResult 8).bump Ctr.FLS_CNT_PWD_REFUSED
    else
      let s := { s with fls := { f with wrong := 0 } }
      if f.stageA &&& 0x00FF0000 ≠ 0 || f.stageB &&& 0xFFFF0000 ≠ 0 || f.stageInfo &&& 0x3F ≠ 0 then s.flsResult 7
      else ({ s with fls := { s.fls with protA := f.stageA, protB := f.stageB, protInfo := f.stageInfo ||| 0x40 } }).flsResult 1))

/-- PWD_SET (R487). -/
def execPwdSet (who : Nat) (s : State) : Ans :=
  .next (s.flsCmd who 7 (fun s =>
    if s.fls.password.isSome then (s.flsResult 8).bump Ctr.FLS_CNT_PWD_REFUSED
    else ({ s with fls := { s.fls with password := some s.flsPwd } }).flsResult 1))

/-! ## Firmware images (R444) -/

/-- The words of a firmware slot's header and body. -/
def State.slotWords (s : State) (slot : Nat) : List (BitVec 256) :=
  let base := slot * 2 ^ 21
  let word := fun k => s.fls.words.getD (base + k) (BitVec.allOnes 256)
  let len := (word 0).toNat / 2 ^ 128 % 2 ^ 32
  (List.range (16 + min 524272 (ceilDiv len 32))).map word

/-- A field of the header of a slot: byte offset below 32 and size. -/
def State.slotField (s : State) (slot off size : Nat) : Nat :=
  (s.fls.words.getD (slot * 2 ^ 21) (BitVec.allOnes 256)).toNat / 2 ^ (8 * off) % 2 ^ (8 * size)

/-- SIGN_KEY of a slot's header: bytes 0x44 to 0xA4. -/
def signKey (ws : List (BitVec 256)) : BitVec 776 :=
  BitVec.ofNat 776 (((ws.take 6).zipIdx.foldl (fun n w => n + w.1.toNat * 2 ^ (256 * w.2)) 0) / 2 ^ (8 * 0x44))

/-- A slot holds nothing. -/
def State.slotIsEmpty (s : State) (slot : Nat) : Bool := !s.fls.words.cells.any (fun c => fwSlotOf (32 * c.1) == some slot)

/-- An image passes the checks of R444. -/
def State.imageGood (s : State) (slot : Nat) : Bool :=
  let ws := s.slotWords slot
  let h := Config.keyHash (signKey ws)
  !s.slotIsEmpty slot && (h == s.cmd.hash1 || (h == s.cmd.hash0 && !s.cmd.hash0Revoked)) && Config.signatureGood ws && Config.digestGood ws &&
  decide (s.cmd.fusedSvn ≤ s.slotField slot 8 2)

end Sys2Proof.Machine
end

