-- ==== Sys2Proof/Machine/Mode.lean ====
section
/-!
DEFINITION. Machine/Mode.lean: commands of the mode controller, the timebase and the handshake detectors (01_architecture.md).
-/
namespace Sys2Proof.Machine

/-! ## Mode requests (R21) -/

/-- Set SYS_MODE_REQ.RESULT. -/
def State.reqResult (s : State) (r : Nat) : State := { s with mode := { s.mode with reqResult := r } }

/-- Enter HOLD with a PURPOSE (R22). -/
def State.enterHold (s : State) (purpose reason : Nat) : State :=
  { s with mode := { s.mode with holdPurpose := purpose % 4 } }.setMode .hold reason

/-- A mode request (R21). -/
def State.modeReq (s : State) (target purpose : Nat) : State :=
  if s.mode.transit then s.reqResult 3
  else
    match Mode.ofCode (target % 8), s.mode.mode with
    | some .standby, .standby => s.reqResult 2
    | some .standby, _ => (s.reqResult 1).offRequest 0x08
    | some .solo, .serve => (s.reqResult 1).enterSolo 0x0B
    | some .hold, .serve => if purpose % 4 = 3 then s.reqResult 2 else (s.reqResult 1).enterHold purpose 0x0B
    | some .hold, .solo => (s.reqResult 1).enterHold purpose 0x0B
    | some .serve, .hold | some .solo, .hold => (s.reqResult 1).leaveHold 0x0B
    | _, _ => s.reqResult 2

/-- The value of an RSC register's fields after a write: VDD_CORE's target is clamped (R15). -/
def landed (a : Nat) (old w : Word) : Word :=
  match regAt a with
  | none => old
  | some r =>
    let m := r.maskOf [.rsc]
    let v := (old &&& ~~~m) ||| (w &&& m)
    if a = Reg.PWR_VCORE then v.setField 9 0 (clamp 650 850 (v.field 9 0)) else v

/-- A write of an RSC register lands in the always-on domain (R10, R463): a mode request acts (R21). -/
def State.land (s : State) (a : Nat) (w : Word) : State :=
  let s := { s.setReg a (landed a (s.reg a) w) with rsc := s.rsc.erase a }
  if a = Reg.SYS_MODE_REQ then s.modeReq (w.field 2 0) (w.field 5 4) else s

/-- A write of an RSC register: it lands now, or is pending (R10, R463). -/
def State.writeRsc (s : State) (a : Nat) (w : Word) (delayed : Bool) : State :=
  if delayed then { s with rsc := s.rsc.insert a w } else s.land a w

/-- SYS_MODE_REQ_WRITE (R13, R21, R463): by a requester of the privileged view; `delayed` where the write has still to cross. -/
def execSysModeReqWrite (who target purpose : Nat) (delayed : Bool) (s : State) : Ans :=
  .next (if s.pwr.core && decide (who < 5) then
      s.writeRsc Reg.SYS_MODE_REQ (w32 (target % 8 + purpose % 4 * 16)) delayed
    else s)

/-- RSC_WRITE_LANDS (R10, R463). -/
def execRscWriteLands (addr : Nat) (s : State) : Ans :=
  .next (match s.rsc.find? addr with
    | some w => s.land addr w
    | none => s)

/-- MODE_REQUEST (R431). -/
def execModeRequest (m : Mbx) (inp : List Word) (s : State) : Ans :=
  .next (s.command m ⟨0xC801, false, true, false, true⟩ (m.len == 4) false (fun tag s =>
    let w := wordAt inp 0
    -- the answer leaves before the transition's own effect on commands
    let res := (State.modeReq { s with cmd := { s.cmd with jobs := s.cmd.jobs.filter (fun j => j.tag != tag) } } (w.field 2 0) (w.field 5 4))
    if res.mode.reqResult = 1 then (res.answer m 0xC801 (.ok []), .later) else (s.reqResult res.mode.reqResult, .now .mode)))

/-- MODE_STATUS (R431): SYS_MODE, then SYS_HOLD, as the core's copies show them (R20). -/
def execModeStatus (m : Mbx) (_inp : List Word) (s : State) : Ans :=
  .next (s.query m ⟨0xC800, true, false, false, true⟩ (m.len == 0) (fun s => .ok [s.copyOf Reg.SYS_MODE, s.copyOf Reg.SYS_HOLD]))

/-! ## Ticks and timers -/

/-- Sample the package inputs (R496, R552). -/
def State.sample (s : State) (p : Pins) : State :=
  { s with pwr := { s.pwr with pfailN := p.pfailN, holdupOk := p.holdupOk, seqIn := p.seqIn, resetN := p.resetN, pg := p.pg } }

/-- AON_TICK (R9, R18, R20, R462): device time goes on, by the reference clock while locked to it, by 1,000 ns a tick otherwise; inputs are sampled;
the core's copies are refreshed. -/
def execAonTick (ns : Nat) (pins : Pins) (s : State) : Ans :=
  .next (if !s.pwr.aon then s else
    let t := if s.tim.locked then max s.tim.ns ns else s.tim.ns + 1000
    let s := { s.sample pins with tim := { s.tim with ns := t % 2 ^ 64, ticks := (s.tim.ticks + 1) % 2 ^ 64 } }
    if s.pwr.core then s.refreshCopies else s)

/-- HOLD_DWELL_EXPIRED (R22, R29): the dwell in HOLD exceeds SYS_HOLD.LIMIT. -/
def execHoldDwellExpired (s : State) : Ans := .next (if s.mode.mode == .hold then s.leaveHold 0x0C else s)

/-- HOLD_PURPOSE_FINISHED (R22). -/
def execHoldPurposeFinished (s : State) : Ans := .next (if s.mode.mode == .hold then s.leaveHold 0x0B else s)

/-- TIM_CAPTURE_GO (R19): a write of TIM_CAP_CTL; GO = 1 takes both counts at one instant and clears VALID. -/
def execTimCaptureGo (go : Bool) (s : State) : Ans :=
  .next (if s.pwr.core && go then
      { s with tim := { s.tim with capValid := false, capPending := some (s.tim.ns, s.tim.ticks) } }
    else s)

/-- TIM_CAPTURE_LANDS (R19). -/
def execTimCaptureLands (s : State) : Ans :=
  .next (match s.tim.capPending with
    | none => s
    | some (d, a) => { s with tim := { s.tim with capPending := none, capDev := d, capAon := a, capValid := true } })

/-- PWR_VCORE_TARGET_WRITE (R15, R463). -/
def execPwrVcoreTargetWrite (who target : Nat) (delayed : Bool) (s : State) : Ans :=
  .next (if s.pwr.core && decide (who < 5) then
      s.writeRsc Reg.PWR_VCORE (w32 (target % 1024)) delayed
    else s)

/-- HANDSHAKE_STALL (R16, R400): a request on a channel unacknowledged for 10 µs: the channel is fenced and its acknowledging block, the unit
given, is reported. -/
def execHandshakeStall (channel unit : Nat) (s : State) : Ans :=
  .next (if !s.pwr.core then s else
    { s with flt := { s.flt with channels := s.flt.channels.filter (fun (c : Nat × Nat) => c.1 != channel) ++ [(channel, unit)] } }.report
      unit 0x0D Cls.major |>.bump Ctr.FLT_CNT_STALL)

end Sys2Proof.Machine
end

