-- ==== Sys2Proof/Machine/TwinLink.lean ====
section
/-!
DEFINITION. Machine/TwinLink.lean: the Darimin link: frames, sequence and replay, staging, heartbeat, dead paths, lane retirement
(05_twin_link.md, R133 to R159).
-/
namespace Sys2Proof.Machine

/-! ## Sending (R135 to R138) -/

/-- Send an IDLE frame. -/
def State.sendIdle (s : State) (n : Nat) (nak : Bool) : State :=
  let (s, crd) := s.takeCrd
  s.emit (.twIdle n (s.path n).ackseq nak crd)

/-- Send a PATH_UP (R152). -/
def State.sendUp (s : State) (n : Nat) (ack : Bool) : State := s.emit (.twPathUp n ack s.ownTag)

/-- Send every frame of a path's replay buffer again (R137). -/
def State.resend (s : State) (n : Nat) : State :=
  let s := (s.path n).replay.foldl (fun s f =>
    let (s, crd) := s.takeCrd
    (s.emit (.twData n f.pseq (s.path n).ackseq crd f.msn f.off f.last)).bump (Ctr.TWL_CNT_TX n)) s
  s.bump (Ctr.TWL_CNT_REPLAY n)

/-- The frames of a path go to the other one: it is dead, waits for a PATH_UP exchange, or retires (R138, R155). -/
def TwPath.leaves (p : TwPath) : Bool := p.state == .dead || p.blocked || (p.state == .retiring && p.retireAcked)

/-- Resend a path's frames on the other path while that takes them (R138). -/
def State.crossN : Nat → State → Nat → State
  | 0, s, _ => s
  | k + 1, s, n =>
    let p := s.path n
    if !p.leaves || !(s.path (1 - n)).takes then s
    else match p.replay with
    | [] => s
    | f :: rest => ((s.setPath n { p with replay := rest }).sendFrame (1 - n) f.msn f.off f.last).bump (Ctr.TWL_CNT_XRESEND n) |>.crossN k n

/-- Resend what either path has to leave, then send what waits. -/
def State.crossAll (s : State) : State := ((s.crossN 1024 0).crossN 1024 1).drainLink

/-- Messages with no frame left unacknowledged are forgotten. -/
def State.cleanSent (s : State) : State :=
  let open_ := fun m => s.twl.pathA.replay.any (fun f => f.msn == m) || s.twl.pathB.replay.any (fun f => f.msn == m)
  { s with twl := { s.twl with sent := s.twl.sent.filter (fun m _ => open_ m) } }

/-! ## Dead paths (R138, R150, R152) -/

/-- Nothing stays in transit once both paths are dead or DOWN; the twin is lost (R110, R152). -/
def State.cutLink (s : State) : State :=
  if s.linkUp || s.twl.cut then s else
  let clear := fun (p : TwPath) => { p with replay := [], blocked := false, upSent := false, upAcked := false, upRecv := false }
  let s := { s with twl := { s.twl with pathA := clear s.twl.pathA, pathB := clear s.twl.pathB, staging := {}, sendq := [], sent := {},
                                        owedCredit := 0, cut := true } }
  s.loseTwin

/-- A path is declared dead (R138, R150). -/
def State.declareDead (s : State) (n : Nat) : State :=
  let p := s.path n
  if p.state == .dead || p.state == .down then s else
  let s := s.setPath n { p with state := .dead, upSent := false, upAcked := false, upRecv := false, target := none, retireWait := none,
                                retireAcked := false, expired := false, resending := none, rtt := 0 }
  ((s.bump (Ctr.TWL_CNT_DEAD n)).report (unitId 0x0D n) 0x12 Cls.major).crossAll.cutLink

/-- Begin a PATH_UP exchange (R138, R152, R155). -/
def State.requestUp (s : State) (n : Nat) : State :=
  (s.setPath n { s.path n with upSent := true, upAcked := false, upRecv := false }).sendUp n false

/-- A path trains and asks for a PATH_UP exchange (R152). -/
def State.trainPath (s : State) (n : Nat) : State := (s.setPath n { s.path n with state := .training }).requestUp n

/-- FORCE_DEAD holds a path DEAD. -/
def State.heldDead (s : State) (n : Nat) : Bool := s.fld (Reg.TWL_PATH_CTL n) Fld.TWL_PATH_CTL_FORCE_DEAD == 1

/-- The link is enabled and the core runs. -/
def State.twlOn (s : State) : Bool := s.pwr.core && s.fld Reg.TWL_CTL Fld.TWL_CTL_ENABLE == 1

/-- A committed TWL_CTL.ENABLE (R158, R159), and the link's training at RESTORE entry. -/
def State.twlEnable (s : State) (on : Bool) : State :=
  if on then (List.range 2).foldl (fun s n => if (s.path n).state == .down then s.trainPath n else s) s
  else
    let down := fun (p : TwPath) => ({ lanesOut := p.lanesOut } : TwPath)
    { s with twl := { s.twl with pathA := down s.twl.pathA, pathB := down s.twl.pathB } }.cutLink

/-! ## Retirement (R154 to R157) -/

/-- Retirement, or the return of lanes, starts: a request on both paths (R155, R157). -/
def State.startRetire (s : State) (n : Nat) (lanes : BitVec 8) : State :=
  let s := s.setPath n { s.path n with state := .retiring, target := some lanes, retireAcked := false, retireWait := none }
  (s.emit (.twRetire n false lanes)).emit (.twRetire n false lanes)

/-- A waiting retirement of the other path starts once this one has ended (R156). -/
def State.afterRetire (s : State) (n : Nat) : State :=
  match (s.path (1 - n)).retireWait with
  | some l => if (s.path (1 - n)).state == .up then s.startRetire (1 - n) l else s
  | none => s

/-! ## PATH_UP (R152) -/

/-- The first exchange after both paths were dead or DOWN resets both directions (R152, R103). -/
def State.resetLink (s : State) : State :=
  let s := { s with twl := { s.twl with cut := false, txMsn := 0, rxMsn := 0, staging := {}, sent := {}, sendq := [], credit := 8192, owedCredit := 0 },
                    pair := { s.pair with intentCredit := 131072, lost := false, departed := false, twinLeft := false },
                    cmd := { s.cmd with twinProto := none } }
  s.control (.proto s.pairProto)

/-- The exchange of a path is complete: it is UP with PSEQ 0 both ways. -/
def State.pathIsUp (s : State) (n : Nat) : State :=
  let p := s.path n
  let old := p.replay
  let s := if p.state == .retiring then s.bump (Ctr.TWL_CNT_RETIRE n) else s
  let s := s.setPath n { state := .up, lanesOut := match p.target with | some t => ~~~t | none => p.lanesOut }
  let s := if s.twl.cut then s.resetLink
    else old.foldl (fun s f => (s.sendFrame n f.msn f.off f.last).bump (Ctr.TWL_CNT_XRESEND n)) s
  (s.afterRetire n).crossAll

/-- The identities of a BEAT or PATH_UP match (R151); a mismatch is logged once. -/
def State.identity (s : State) (n pairId ctrlId : Nat) : Bool × State :=
  let p := s.path n
  if pairId = s.pairId && ctrlId = s.ctrlId ^^^ 1 then (true, s.setPath n { p with mismatch := false })
  else if p.mismatch then (false, s)
  else (false, (s.setPath n { p with mismatch := true }).logRec LogT.mismatch Src.twl Cls.minor [w32 n, w32 pairId, w32 ctrlId])

/-! ## What every good frame delivers (R134 to R137, R143) -/

/-- ACKSEQ, NAK and CRD of a frame on a path. -/
def State.rxHeader (s : State) (n : Nat) (h : TwHeader) : State :=
  let p := s.path n
  let k := match p.replay with
    | [] => 0
    | f :: _ =>
      let d := (h.ackseq + 4097 - f.pseq) % 4096
      if d ≤ p.replay.length then d else 0
  let s := if k = 0 then s else
    { (s.setPath n { p with replay := p.replay.drop k, expired := false, resending := none, rtt := s.freeVal % 65536 }).cleanSent with fresh := s.fresh + 1 }
  let s := { s with twl := { s.twl with credit := min 8192 (s.twl.credit + 8 * h.crd) } }
  let p := s.path n
  let s := if h.nak && !p.replay.isEmpty && p.resending != some ((h.ackseq + 1) % 4096) then
      (s.setPath n { p with resending := some ((h.ackseq + 1) % 4096) }).resend n
    else s
  s.crossAll

/-! ## Messages as received (R139 to R142, R148) -/

/-- Bytes `i …` of a list, `n` of them, as a number. -/
def rdBytes (b : List Byte) (i n : Nat) : Nat := bytesVal ((b.drop i).take n)

/-- The masked bytes of a PARTIAL record laid into a line. -/
def spread (m : Mask) (b : List Byte) : Line :=
  let (v, _) := (List.range 64).foldl (fun (a : Nat × List Byte) i =>
    if m.getLsbD i then (match a.2 with | x :: t => (a.1 + x.toNat * 2 ^ (8 * i), t) | [] => a) else a) (0, b)
  BitVec.ofNat 512 v

/-- A line record at the front of the bytes (R141); `orig` tells whether a NODATA record carries 8 bytes. -/
def parseLine (orig : Nat → Bool) (b : List Byte) : Option (LineRec × List Byte) :=
  if b.length < 16 then none else
  let w := rdBytes b 0 8
  let line := w % 2 ^ 38
  let epoch := w / 2 ^ 48
  let ord : BitVec 32 := BitVec.ofNat 32 (rdBytes b 8 4)
  let word := rdBytes b 12 1 % 8
  let t := b.drop 16
  let mk := fun (body : LineBody) (n : Nat) => if t.length < n then none else some (LineRec.mk line ord epoch body, t.drop n)
  match w / 2 ^ 38 % 16 with
  | 0 => mk (.full (BitVec.ofNat 512 (rdBytes t 0 64))) 64
  | 1 =>
    let m : Mask := BitVec.ofNat 64 (rdBytes t 0 8)
    mk (.part m (spread m (t.drop 8))) (8 + pad8 (popCount m))
  | 2 => if orig line then mk (.orig (BitVec.ofNat 64 (rdBytes t 0 8))) 8 else mk .nodata 0
  | 3 => mk .poison 0
  | 4 => mk (.cmpSwap word (BitVec.ofNat 64 (rdBytes t 0 8)) (BitVec.ofNat 64 (rdBytes t 8 8))) 16
  | 5 => mk (.fetchAdd word (BitVec.ofNat 64 (rdBytes t 0 8))) 8
  | 6 => mk .zero 0
  | _ => none

/-- A checkpoint record at the front of the bytes (R142). -/
def parseCkpt (b : List Byte) : Option (Ckpt × List Byte) :=
  if b.length < 32 then none else
  let nr := rdBytes b 12 1
  let na := rdBytes b 13 1
  if b.length < 32 + 16 * (nr + na) then none
  else
    let at_ := fun k => b.drop (32 + 16 * k)
    some ({ qpn := rdBytes b 0 3, epsn := rdBytes b 4 3, msn := rdBytes b 8 3,
            reads := (List.range nr).map (fun k => (rdBytes (at_ k) 0 3, rdBytes (at_ k) 4 4, rdBytes (at_ k) 8 8)),
            atomics := (List.range na).map (fun k => (rdBytes (at_ (nr + k)) 0 3, BitVec.ofNat 64 (rdBytes (at_ (nr + k)) 8 8))) },
          b.drop (32 + 16 * (nr + na)))

/-- `n` records of one kind at the front of the bytes. -/
def parseMany (one : List Byte → Option (TwRec × List Byte)) : Nat → List Byte → Option (List TwRec × List Byte)
  | 0, b => some ([], b)
  | n + 1, b =>
    match one b with
    | none => none
    | some (r, t) => (parseMany one n t).map (fun c => (r :: c.1, c.2))

/-- Records that fill the bytes exactly. -/
def exactly (r : Option (List TwRec × List Byte)) : Option (List TwRec) :=
  match r with
  | some (l, []) => some l
  | _ => none

/-- The records of a message of a type (R140): COUNT of them, filling the bytes after the header. -/
def parseRecs (typ count : Nat) (orig : Nat → Bool) (b : List Byte) : Option (List TwRec) :=
  let line := fun (b : List Byte) => (parseLine orig b).map (fun c => (TwRec.line c.1, c.2))
  let ckpt := fun (b : List Byte) => (parseCkpt b).map (fun c => (TwRec.ckpt c.1, c.2))
  let lines := exactly (parseMany line count b)
  match typ with
  | 0x01 | 0x03 | 0x05 =>
    match lines with
    | some l => some l
    | none =>
      if count = 0 then none else
      match parseMany line (count - 1) b with
      | some (l, t) => (exactly (parseMany ckpt 1 t)).map (fun c => l ++ c)
      | none => none
  | 0x02 | 0x06 | 0x07 | 0x08 | 0x0A => lines
  | 0x04 => exactly (parseMany (fun b => if b.length < 4 then none else some (.tag (rdBytes b 0 4), b.drop 4)) count b)
  | 0x09 => exactly (parseMany ckpt count b)
  | 0x0C => exactly (parseMany (fun b => if b.length < 8 then none else some (.handover (rdBytes b 0 1) (rdBytes b 4 4), b.drop 8)) count b)
  | 0x0D => exactly (parseMany (fun b => if b.length < 8 then none else some (.depart (rdBytes b 0 1), b.drop 8)) count b)
  | 0x0B | 0x0E => some [.raw b]
  | _ => none

/-- A message from its frames' bytes (R139, R148); none where it is malformed. -/
def State.parseMsg (s : State) (frames : Nat) (b : List Byte) : Option TwMsg :=
  let typ := rdBytes b 0 1
  let len := rdBytes b 2 2
  let tag := rdBytes b 4 4
  let orig := fun line => s.trk.entries.cells.any (fun c => c.2.tag == some tag && c.2.line == line &&
    (match c.2.op with | .cmpSwap .. | .fetchAdd .. => true | _ => false)) && typ == 2
  if len < 16 || 15616 < len || ceilDiv len 244 ≠ frames then none
  else (parseRecs typ (rdBytes b 8 2) orig ((b.take len).drop 16)).map (fun recs => ⟨typ, tag, recs⟩)

/-- The twin's logic cannot be trusted (R148): both paths are forced dead, and the twin is lost. -/
def State.formatError (s : State) (msn : Nat) : State :=
  let s := (s.bump Ctr.TWL_CNT_FORMAT_ERR).logRec LogT.mismatch Src.twl Cls.critical [w32 msn]
  (s.declareDead 0).declareDead 1

/-- An accepted DATA frame takes its place in staging (R146); the message is complete once all its frames are there. -/
def State.placeFrame (s : State) (h : TwHeader) (payload : List Byte) : State :=
  let old := decide (2 ^ 19 ≤ (h.msn + 2 ^ 20 - s.twl.rxMsn) % 2 ^ 20)
  let m := s.twl.staging.getD h.msn {}
  if old || m.frames.has h.off || m.msg.isSome then (s.bump Ctr.TWL_CNT_DUP).freeSlots 1
  else
    let m := { m with frames := m.frames.insert h.off payload, count := if h.last then some (h.off + 1) else m.count }
    let put := fun (s : State) (m : RxMsg) => { s with twl := { s.twl with staging := s.twl.staging.insert h.msn m } }
    match m.count with
    | none => put s m
    | some n =>
      if n ≤ m.frames.size then
        let bytes := (List.range n).flatMap (fun i =>
          let f := m.frames.getD i []
          (f ++ List.replicate (244 - f.length) 0).take 244)
        match s.parseMsg n bytes with
        | some msg => put s { m with msg := some msg }
        | none => (put s m).formatError h.msn
      else put s m

/-! ## Frames -/

/-- DATA_FRAME (R136, R146): accepted in sequence and placed, else discarded with one NAK. -/
def execDataFrame (path : Nat) (h : TwHeader) (payload : List (BitVec 8)) (s : State) : Ans :=
  .next (
    if !(s.path path).up then s
    else
      let s := s.rxHeader path h
      let p := s.path path
      if h.pseq = p.rxPseq then
        ((s.setPath path { p with rxPseq := (p.rxPseq + 1) % 4096, nakSent := false }).bump (Ctr.TWL_CNT_RX path)).placeFrame h payload
      else if p.nakSent then s
      else ((s.setPath path { p with nakSent := true }).sendIdle path true).bump (Ctr.TWL_CNT_NAK path))

/-- IDLE_FRAME (R136). -/
def execIdleFrame (path : Nat) (h : TwHeader) (s : State) : Ans := .next (if (s.path path).up then s.rxHeader path h else s)

/-- FRAME_BAD_CRC (R136). -/
def execFrameBadCrc (path : Nat) (s : State) : Ans :=
  .next (if (s.path path).state == .down then s else s.bump (Ctr.TWL_CNT_CRC path))

/-- BEAT (R150, R151, R153). -/
def execBeat (path : Nat) (h : TwHeader) (b : TwBeat) (s : State) : Ans :=
  .next (
    if !(s.path path).up then s
    else
      let s := s.rxHeader path h
      let (ok, s) := s.identity path b.pairId b.ctrlId
      if !ok then s
      else
        let s := s.setPath path { s.path path with missed := 0 }
        let st := if s.pair.lost then 7 else b.state % 8
        if s.pair.twinState = st then s else { s with pair := { s.pair with twinState := st } }.pump.netRun)

/-- PATH_UP (R152): a request is acknowledged and answered with an own one; once both have been acknowledged the path is UP. -/
def execPathUp (path : Nat) (h : TwHeader) (b : TwPathUp) (s : State) : Ans :=
  .next (
    let st := (s.path path).state
    if !s.twlOn || st == .down || s.heldDead path then s
    else
      let s := if (s.path path).up then s.rxHeader path h else s
      let (ok, s) := s.identity path b.pairId b.ctrlId
      if !ok then s
      else
        let s := { s with pair := { s.pair with twinTag := some b.tag } }
        let p := s.path path
        let s :=
          if b.ack then (if p.upSent then s.setPath path { p with upSent := false, upAcked := true } else s)
          else
            let s := if p.state == .dead then s.setPath path { p with state := .training }
              else if p.state == .up && !p.blocked then (s.setPath path { p with blocked := true }).crossAll else s
            let p := s.path path
            let s := if p.upSent || p.upAcked then s else s.requestUp path
            (s.setPath path { s.path path with upRecv := true }).sendUp path true
        let p := s.path path
        if p.upRecv && p.upAcked then s.pathIsUp path else s)

/-- LANE_RETIRE (R155): a request or an acknowledge for the path `which`. -/
def execLaneRetire (path : Nat) (h : TwHeader) (which : Nat) (lanes : BitVec 8) (ack : Bool) (s : State) : Ans :=
  .next (
    if !(s.path path).up then s
    else
      let s := s.rxHeader path h
      let p := s.path which
      if ack then (if p.state == .retiring then (s.setPath which { p with retireAcked := true }).crossAll else s)
      else if !p.up then s
      else
        let s := s.setPath which { p with state := .retiring, target := some lanes, retireAcked := true, retireWait := none }
        (s.emit (.twRetire which true lanes)).crossAll)

/-- BEAT_SEND (R149). -/
def execBeatSend (s : State) : Ans :=
  .next ((List.range 2).foldl (fun s n =>
    if (s.path n).up then
      let (s, crd) := s.takeCrd
      s.emit (.twBeat n (s.path n).ackseq crd)
    else s) s)

/-- MISSED_BEAT_INTERVAL (R150): at 25 the path is dead; a RETIRING path does not count. -/
def execMissedBeatInterval (path : Nat) (s : State) : Ans :=
  .next (
    let p := s.path path
    if p.state != .up then s
    else
      let s := (s.setPath path { p with missed := p.missed + 1 }).bump (Ctr.TWL_CNT_MISS path)
      if 25 ≤ p.missed + 1 then s.declareDead path else s)

/-- REPLAY_TIMER_EXPIRED (R137, R138): once, the frames are resent; twice in a row, they move to the other path and a PATH_UP exchange starts. -/
def execReplayTimerExpired (path : Nat) (s : State) : Ans :=
  .next (
    let p := s.path path
    if p.state != .up || p.blocked || p.replay.isEmpty then s
    else if !p.expired then (s.setPath path { p with expired := true, resending := (p.replay.head?).map (·.pseq) }).resend path
    else ((s.setPath path { p with blocked := true, expired := false }).requestUp path).crossAll)

/-- PATH_UP_TIMEOUT (R138, R152): an exchange has not completed; a path that only trains goes back to DEAD. -/
def execPathUpTimeout (path : Nat) (s : State) : Ans :=
  .next (
    let p := s.path path
    if p.state == .training then s.setPath path { p with state := .dead, upSent := false, upAcked := false, upRecv := false }
    else if p.blocked || (p.state == .retiring && (p.upSent || p.upAcked || p.upRecv)) then s.declareDead path
    else s)

/-- DEAD_PATH_RETRAIN (R152). -/
def execDeadPathRetrain (path : Nat) (s : State) : Ans :=
  .next (if (s.path path).state == .dead && !s.heldDead path && s.twlOn then s.trainPath path else s)

/-- LANE_FAULT (R154, R156): retirement to the half without the lane, or the path's death. -/
def execLaneFault (path lane : Nat) (lostLock : Bool) (s : State) : Ans :=
  .next (
    let p := s.path path
    let half : BitVec 8 := if lane < 4 then 0xF0 else 0x0F
    if !p.up || p.lanesOut.getLsbD lane then s
    else
      let s := s.report (unitId 0x0C (8 * path + lane)) 0x11 Cls.minor
      if s.fld Reg.TWL_CTL Fld.TWL_CTL_RETIRE_EN = 0 then s.declareDead path
      else match p.target.orElse (fun _ => p.retireWait) with
      | some t => if t.getLsbD lane then s.declareDead path else s
      | none =>
        if p.lanesOut ≠ 0 then s.declareDead path
        else if (s.path (1 - path)).state == .retiring && !lostLock then s.setPath path { p with retireWait := some half }
        else s.startRetire path half)

/-- LANE_RETIRE_WAIT_EXPIRED (R156). -/
def execLaneRetireWaitExpired (path : Nat) (s : State) : Ans :=
  .next (match (s.path path).retireWait with
    | some l => if (s.path path).state == .up then s.startRetire path l else s
    | none => s)

/-- LANE_RETIRE_ACK_TIMEOUT (R155): the side goes on alone. -/
def execLaneRetireAckTimeout (path : Nat) (s : State) : Ans :=
  .next (
    let p := s.path path
    if p.state == .retiring && !p.retireAcked then (s.setPath path { p with retireAcked := true }).crossAll else s)

/-- LANE_RETRAIN_DONE (R155): the lanes to remain lock, and a PATH_UP exchange follows; or they do not. -/
def execLaneRetrainDone (path : Nat) (locked : Bool) (s : State) : Ans :=
  .next (
    let p := s.path path
    if p.state != .retiring || !p.retireAcked then s
    else if locked then (if p.upSent || p.upAcked then s else s.requestUp path)
    else s.declareDead path)

/-- FORCE_DEAD (R152, R459): a guarded write of TWL_PATHnn_CTL.FORCE_DEAD. -/
def execForceDead (who path : Nat) (dead : Bool) (s : State) : Ans :=
  .next (
    let (ok, s) := s.guarded who
    if !ok then s
    else
      let s := s.setFld (Reg.TWL_PATH_CTL path) Fld.TWL_PATH_CTL_FORCE_DEAD (bit dead)
      if dead then
        let s := if (s.path path).state == .training then s.setPath path { s.path path with state := .dead, upSent := false, upAcked := false, upRecv := false } else s
        s.declareDead path
      else s)

/-- RESTORE_LANES (R157): the path retires the other way where the lanes pass. -/
def execRestoreLanes (path : Nat) (pass : Bool) (s : State) : Ans :=
  .next (
    let p := s.path path
    if pass && p.state == .up && p.lanesOut ≠ 0 then s.startRetire path 0xFF else s)

end Sys2Proof.Machine
end

