-- ==== Sys2Proof/Machine/Mailbox.lean ====
section
/-!
DEFINITION. Machine/Mailbox.lean: the standard memory-device commands, firmware transfer and activation (14_control.md, R420 to R427, R446 to R448).
Payloads whose wire layout is the CXL standard's are given as their fields, one or two words each (DESIGN CHOICE).
-/
namespace Sys2Proof.Machine

/-! ## Which commands a mailbox accepts (R426, R427) -/

/-- The standard opcodes and whether an unprivileged mailbox accepts them. -/
def stdOps : List (Nat × Bool) :=
  [(0x0100, true), (0x0101, true), (0x0102, true), (0x0103, true), (0x0200, false), (0x0201, false), (0x0202, false), (0x0300, true),
   (0x0301, false), (0x0400, true), (0x0401, true), (0x4000, true), (0x4100, true), (0x4200, true), (0x4201, true), (0x4202, false),
   (0x4203, true), (0x4204, false), (0x4300, true), (0x4301, false), (0x4302, true), (0x4303, true), (0x4304, true), (0x4305, true)]

/-- The Tilma opcodes and whether an unprivileged mailbox accepts them. -/
def tilmaOps : List (Nat × Bool) :=
  [(0xC000, true), (0xC001, false), (0xC002, false), (0xC003, false), (0xC004, true), (0xC005, true), (0xC010, false), (0xC011, false),
   (0xC020, true), (0xC100, true), (0xC101, false), (0xC103, true), (0xC200, false), (0xC201, true), (0xC210, true), (0xC211, true),
   (0xC212, true), (0xC220, false), (0xC300, true), (0xC301, false), (0xC302, false), (0xC303, false), (0xC304, false), (0xC305, false)] ++
  [(0xC400, false), (0xC401, false), (0xC402, false), (0xC403, true), (0xC404, false), (0xC410, true), (0xC411, true), (0xC412, true),
   (0xC420, false), (0xC421, false), (0xC500, true), (0xC502, false), (0xC503, false), (0xC510, false), (0xC530, false), (0xC531, false),
   (0xC532, false), (0xC533, false), (0xC534, false), (0xC600, false), (0xC601, false), (0xC602, false), (0xC603, false)] ++
  [(0xC700, true), (0xC701, false), (0xC702, false), (0xC800, true), (0xC801, false), (0xC802, true), (0xC900, true), (0xC901, true),
   (0xC910, false), (0xC911, false), (0xC912, false), (0xC913, false), (0xC921, false)]

/-- The FM API opcodes of R379. -/
def fmOps : List Nat := [0x5400, 0x5401, 0x5402]

/-- The opcodes a mailbox accepts, in rising order: its Command Effects Log. -/
def State.cel (s : State) (m : Mbx) : List Nat :=
  let p := s.privileged m
  let ok := fun (l : List (Nat × Bool)) => (l.filter (fun c => p || c.2)).map (·.1)
  ok stdOps ++ (if p && decide (0x20 ≤ m.fn) then fmOps else []) ++ ok tilmaOps

/-- A standard command for all mailboxes. -/
def CmdSpec.all (op : Nat) : CmdSpec := ⟨op, true, false, false, false⟩
/-- A standard command for privileged mailboxes. -/
def CmdSpec.priv (op : Nat) : CmdSpec := ⟨op, false, false, false, false⟩

/-! ## Events -/

/-- An event record's words. -/
def EvRec.words (e : EvRec) : List Word := [w32 e.kind] ++ lohi e.a ++ [w32 e.b] ++ lohi e.time

/-- GET_EVENT_RECORDS (R426): the overflow count, the number of records, the records. -/
def execGetEventRecords (m : Mbx) (log : Nat) (s : State) : Ans :=
  .next (s.query m (.all 0x0100) true (fun s =>
    if 4 ≤ log then .invalid
    else let l := (s.func m.fn).log log; .ok ([w32 l.overflow, w32 l.recs.length] ++ l.recs.flatMap EvRec.words)))

/-- CLEAR_EVENT_RECORDS (R426): the `count` oldest records of a log go; with 0 all go, and the overflow count with them. -/
def execClearEventRecords (m : Mbx) (log count : Nat) (s : State) : Ans :=
  .next (s.simple m (.all 0x0101) true (fun s =>
    let f := s.func m.fn
    let l := f.log log
    if 4 ≤ log || l.recs.length < count then (s, .invalid)
    else (s.setFunc m.fn (f.setLog log (if count = 0 then {} else { l with recs := l.recs.drop count })), .ok [])))

/-- GET_EVENT_INTERRUPT_POLICY (R426): the vector of each log; 0 where none is assigned. -/
def execGetEventInterruptPolicy (m : Mbx) (s : State) : Ans :=
  .next (s.query m (.all 0x0102) true (fun s => .ok ((s.func m.fn).policy.map (fun v => w32 (v.getD 0)))))

/-- SET_EVENT_INTERRUPT_POLICY (R426): vectors 2 to 63. -/
def execSetEventInterruptPolicy (m : Mbx) (vectors : List (Option Nat)) (s : State) : Ans :=
  .next (s.simple m (.all 0x0103) true (fun s =>
    if vectors.length = 4 && vectors.all (fun v => match v with
        | some n => decide (2 ≤ n) && decide (n ≤ 63)
        | none => true) then (s.setFunc m.fn { s.func m.fn with policy := vectors }, .ok [])
    else (s, .invalid)))

/-! ## Time, logs, identity, health -/

/-- GET_TIMESTAMP (R426). -/
def execGetTimestamp (m : Mbx) (s : State) : Ans := .next (s.query m (.all 0x0300) true (fun s => .ok (lohi s.stamp)))

/-- SET_TIMESTAMP (R426): the offset of TIM_STAMP changes, device time does not. -/
def execSetTimestamp (m : Mbx) (ns : Nat) (s : State) : Ans :=
  .next (s.simple m (.priv 0x0301) true (fun s =>
    let off := (ns % 2 ^ 64 + 2 ^ 64 - s.now % 2 ^ 64) % 2 ^ 64
    ((s.setReg Reg.TIM_STAMP_LO (w32 off)).setReg Reg.TIM_STAMP_HI (w32 (off / 2 ^ 32)), .ok [])))

/-- GET_SUPPORTED_LOGS (R426): the CEL, and its size in bytes. -/
def execGetSupportedLogs (m : Mbx) (s : State) : Ans := .next (s.query m (.all 0x0400) true (fun s => .ok [1, w32 (4 * (s.cel m).length)]))

/-- GET_LOG (R426): entries of the CEL, each an opcode; offset and length in bytes. -/
def execGetLog (m : Mbx) (offset length : Nat) (s : State) : Ans :=
  .next (s.query m (.all 0x0401) true (fun s =>
    if offset % 4 ≠ 0 || length % 4 ≠ 0 || 4 * (s.cel m).length < offset + length then .invalid
    else .ok ((((s.cel m).drop (offset / 4)).take (length / 4)).map w32)))

/-- The capacity of a function: its DPA span (R371); 0 for an FM-owned LD. -/
def State.capacity (s : State) (m : Mbx) : Nat := if m.fn < 32 then s.ldSpan m.fn else 0

/-- IDENTIFY_MEMORY_DEVICE (R371, R426): total, volatile, persistent, LSA size, Poison List Maximum. -/
def execIdentifyMemoryDevice (m : Mbx) (s : State) : Ans :=
  .next (s.query m (.all 0x4000) true (fun s =>
    .ok (lohi (s.capacity m / 268435456) ++ [0, 0] ++ lohi (s.capacity m / 268435456) ++ [0, 4096])))

/-- GET_PARTITION_INFO (R426): active volatile, active persistent. -/
def execGetPartitionInfo (m : Mbx) (s : State) : Ans :=
  .next (s.query m (.all 0x4100) true (fun s => .ok ([0, 0] ++ lohi (s.capacity m / 268435456))))

/-- GET_HEALTH_INFO (R426): Maintenance Needed, Life Used (against an endurance the spec does not give: a free value), device temperature, Dirty
Shutdown Count, corrected errors of memory and vault. -/
def execGetHealthInfo (m : Mbx) (s : State) : Ans :=
  .next (s.simple m (.all 0x4200) true (fun s =>
    (s.freed, .ok [w32 (bit (s.flt.slots.values.any (·.lasting))), w32 (s.freeVal % 101), w32 s.pwr.junction, w32 s.cmd.dirtyCount,
      w32 (s.ctr Ctr.EC_CNT_CE).toNat, w32 (s.ctr Ctr.VLT_CNT_CORR_BITS).toNat])))

/-- GET_ALERT_CONFIGURATION (R426). -/
def execGetAlertConfiguration (m : Mbx) (s : State) : Ans :=
  .next (s.query m (.all 0x4201) true (fun s => .ok [w32 s.cmd.alert.1, w32 s.cmd.alert.2]))

/-- SET_ALERT_CONFIGURATION (R426). -/
def execSetAlertConfiguration (m : Mbx) (life temp : Nat) (s : State) : Ans :=
  .next (s.simple m (.priv 0x4202) true (fun s => ({ s with cmd := { s.cmd with alert := (life, temp) } }, .ok [])))

/-- GET_SHUTDOWN_STATE (R426). -/
def execGetShutdownState (m : Mbx) (s : State) : Ans :=
  .next (s.query m (.all 0x4203) true (fun s => .ok [w32 (bit (s.vlt.lastImage != 0))]))

/-- SET_SHUTDOWN_STATE (R426): accepted, without effect. -/
def execSetShutdownState (m : Mbx) (_dirty : Bool) (s : State) : Ans := .next (s.query m (.priv 0x4204) true (fun _ => .ok []))

/-! ## Poison and scans -/

/-- GET_POISON_LIST (R426): the DPAs of a range, in bytes from `dpa`, of `length` lines; More and Overflow. -/
def execGetPoisonList (m : Mbx) (dpa length : Nat) (s : State) : Ans :=
  .next (s.query m (.all 0x4300) true (fun s =>
    let f := s.func m.fn
    let l := f.poison.filter (fun d => decide (dpa ≤ d) && decide (d < dpa + 64 * length))
    .ok ([w32 (2 * bit f.poisonMore), w32 l.length] ++ l.flatMap lohi)))

/-- The device line of a DPA of a mailbox's function, where a window holds it; `write` asks for one the LD may write. -/
def State.mbxLine (s : State) (m : Mbx) (dpa : Nat) (write : Bool) : Option Nat :=
  match m.ld with
  | none => none
  | some ld =>
    match s.windowAt ld dpa with
    | some w => if write && !w.write then none else some (w.device dpa / 64)
    | none => none

/-- INJECT_POISON (R383, R426): in HOLD with PURPOSE 0b10; it completes with its write. -/
def execInjectPoison (m : Mbx) (dpa : Nat) (s : State) : Ans :=
  .next (s.command m (.priv 0x4301) true false (fun tag s =>
    if s.mode.mode != .hold || s.mode.holdPurpose ≠ 2 then (s, .now .mode)
    else match (if dpa % 64 = 0 then s.mbxLine m dpa false else none) with
      | none => (s, .now .invalid)
      | some line => (s.submit ⟨7, line, .write 0 Mask.full true, .command tag, false⟩, .later)))

/-- CLEAR_POISON (R81, R426): a full-line write, which it completes with. -/
def execClearPoison (m : Mbx) (dpa : Nat) (data : Line) (s : State) : Ans :=
  .next (s.command m (.all 0x4302) true false (fun tag s =>
    match (if dpa % 64 = 0 then s.mbxLine m dpa true else none) with
    | none => (s, .now .invalid)
    | some line => (s.submit ⟨7, line, .write data Mask.full false, .command tag, false⟩, .later)))

/-- SCAN_MEDIA_CAPABILITIES (R426): none beyond Scan Media itself. -/
def execScanMediaCapabilities (m : Mbx) (s : State) : Ans := .next (s.query m (.all 0x4303) true (fun _ => .ok [0]))

/-- Read one line for a scan (R253, R255): whether it is poisoned; an uncorrectable read takes its own course (R240). -/
def State.scanLine (s : State) (line : Nat) : State × Bool :=
  if !s.valid (leafOf line) then (s, false)
  else
    let h := s.homeOf line
    if s.stopped h then (s, false) else
    match s.homeCell h with
    | none => (s, false)
    | some c =>
      match (s.readCell h.hbm (s.markOf (s.remapOf h)) (some c) line (s.keySlotOf line) []).1 with
      | .poison => ((s.bump Ctr.EC_CNT_POISON_RD).notePoison line, true)
      | .uncorrectable => (s.uncorrectable (s.remapOf h) line 5, false)
      | .data _ => (s, false)

/-- SCAN_MEDIA (R426): every written line of a DPA range within the function's windows, `length` lines from `dpa`; in the background. -/
def execScanMedia (m : Mbx) (dpa length : Nat) (s : State) : Ans :=
  .next (s.command m (.all 0x4304) true true (fun _ s =>
    let lines := (List.range length).map (fun k => (dpa + 64 * k, s.mbxLine m (dpa + 64 * k) false))
    if dpa % 64 ≠ 0 || length = 0 || lines.any (fun c => c.2.isNone) then (s, .now .invalid)
    else
      let (s, found) := lines.foldl (fun (a : State × List Nat) c =>
        match c.2 with
        | some line => let (s, p) := a.1.scanLine line; (s, if p then a.2 ++ [c.1] else a.2)
        | none => a) (s, [])
      (s.setFunc m.fn { s.func m.fn with scan := some found }, .now (.ok []))))

/-- GET_SCAN_MEDIA_RESULTS (R426). -/
def execGetScanMediaResults (m : Mbx) (s : State) : Ans :=
  .next (s.query m (.all 0x4305) true (fun s => match (s.func m.fn).scan with
    | some l => .ok (w32 l.length :: l.flatMap lohi)
    | none => .ok [0]))

/-- BACKGROUND_COMMAND_DONE (R421): the background command of a mailbox that has finished completes. -/
def execBackgroundCommandDone (fn : Nat) (secondary : Bool) (s : State) : Ans :=
  .next (match s.cmd.jobs.find? (fun j => j.mbx.fn == fn && j.mbx.secondary == secondary && j.background && j.done.isSome) with
    | none => s
    | some j =>
      let s := { s with cmd := { s.cmd with jobs := s.cmd.jobs.filter (fun k => k.tag != j.tag) } }
      match j.done with
      | some (rc, ext, out) => s.answer j.mbx j.opcode ⟨rc, ext, out⟩
      | none => s)

/-- UNSUPPORTED_OPCODE (R426, R427): an opcode listed nowhere. -/
def execUnsupportedOpcode (m : Mbx) (opcode : Nat) (s : State) : Ans :=
  .next (if (stdOps ++ tilmaOps).any (fun c => c.1 == opcode) || fmOps.contains opcode then s
    else s.query m (.all opcode) true (fun _ => .unsupported))

/-! ## Firmware -/

/-- GET_FW_INFO (R426): two slots, the active and the staged one as CXL slots, the VERSION of each. -/
def execGetFwInfo (m : Mbx) (s : State) : Ans :=
  .next (s.query m (.priv 0x0200) true (fun s =>
    let act := (s.cmd.active.map (· + 1)).getD 0
    let staged := if s.cmd.active == some s.prefSlot then 0 else s.prefSlot + 1
    .ok [2, w32 act, w32 staged, w32 (s.slotField 0 4 4), w32 (s.slotField 1 4 4)]))

/-- Program transferred words into a slot, `at_` in words of 32 bytes. -/
def State.putFw (s : State) (slot at_ : Nat) (data : List (BitVec 256)) : State :=
  { s with fls := { s.fls with words := data.zipIdx.foldl (fun (w : SMap (BitVec 256)) d =>
    w.put (BitVec.allOnes 256) (slot * 2 ^ 21 + at_ + d.2) d.1) s.fls.words } }

/-- The end of a transfer (R446): the image is checked; a bad one leaves the slot empty. -/
def State.endTransfer (s : State) (slot : Nat) : State × Reply :=
  let s := { s with cmd := { s.cmd with transfer := none } }
  if s.imageGood slot then (s, .ok []) else ({ s with fls := s.fls.emptySlot slot }, ⟨10, 0, []⟩)

/-- TRANSFER_FW (R446, R485): actions Full 0, Initiate 1, Continue 2, End 3, Abort 4; `slot` a CXL slot; `offset` in units of 128 bytes. -/
def State.transferFw (s : State) (m : Mbx) (action slot offset : Nat) (data : List (BitVec 256)) : State × Reply :=
  let k := slot - 1
  let start := fun (s : State) => ({ s with fls := s.fls.emptySlot k } : State)
  if action = 0 ∨ action = 1 then
    if (match s.cmd.transfer with | some t => t.fn != m.fn || t.secondary != m.secondary | none => false) then (s, ⟨8, 0, []⟩)
    else if slot = 0 || 2 < slot || s.cmd.active == some k || (if k = 0 then s.fls.protA else s.fls.protB) &&& 0xFFFF ≠ 0 then (s, ⟨11, 0, []⟩)
    else if offset ≠ 0 then (s, ⟨9, 0, []⟩)
    else if action = 0 then ((start s).putFw k 0 data).endTransfer k
    else
      ({ (start s).putFw k 0 data with cmd := { s.cmd with transfer := some ⟨m.fn, m.secondary, k, ceilDiv data.length 4⟩ } }, .ok [])
  else
    match s.cmd.transfer with
    | none => (s, .invalid)
    | some t =>
      if t.fn ≠ m.fn ∨ t.secondary ≠ m.secondary then (s, ⟨8, 0, []⟩)
      else if action = 4 then ({ s with fls := s.fls.emptySlot t.slot, cmd := { s.cmd with transfer := none } }, .ok [])
      else if action ≠ 2 ∧ action ≠ 3 then (s, .invalid)
      else if offset ≠ t.next then (s, ⟨9, 0, []⟩)
      else
        let s := s.putFw t.slot (4 * offset) data
        if action = 3 then s.endTransfer t.slot
        else ({ s with cmd := { s.cmd with transfer := some { t with next := t.next + ceilDiv data.length 4 } } }, .ok [])

/-- TRANSFER_FW (R446). -/
def execTransferFw (m : Mbx) (action slot offset : Nat) (data : List (BitVec 256)) (s : State) : Ans :=
  .next (s.simple m (.priv 0x0201) true (fun s => s.transferFw m action slot offset data))

/-- ACTIVATE_FW (R447): action 1 names the slot for the next RESTORE; action 0 activates it online, by way of HOLD with PURPOSE 0b00. -/
def State.activateFw (s : State) (m : Mbx) (action slot tag : Nat) : State × CmdRes :=
  let k := slot - 1
  let act := s.cmd.active.getD 2
  if slot = 0 || 2 < slot then (s, .now ⟨11, 0, []⟩)
  else if action = 1 then (s.forceLog 0x12 0 k, .now (.ok []))
  else if action ≠ 0 then (s, .now .invalid)
  else if s.mode.mode != .serve && s.mode.mode != .solo then (s, .now .mode)
  else if k = act || s.cmd.activate.isSome then (s, .now ⟨11, 0, []⟩)
  else if s.slotField k 12 2 ≠ s.slotField act 12 2 then (s, .now ⟨12, 0, []⟩)
  else if s.mode.mode == .serve && (match s.cmd.twinProto with
      | some v => v / 256 != s.slotField k 11 1
      | none => false) then (s, .now (.cause 5))
  else if s.mode.transit then (s, .now .mode)
  else
    let s := { s with cmd := { s.cmd with activate := some ⟨m, tag, k, 2, s.now, false⟩ } }
    ((s.reqResult 1).enterHold 0 0x0B, .later)

/-- ACTIVATE_FW (R447): online activation runs in the background. -/
def execActivateFw (m : Mbx) (action slot : Nat) (s : State) : Ans :=
  .next (s.command m (.priv 0x0202) true (action == 0) (fun tag s => s.activateFw m action slot tag))

/-- The activation ends and the controller leaves HOLD, unless it has (R447 step 7, R448). -/
def State.activationOver (s : State) (a : FwActivate) (r : Reply) : State :=
  let s := { s with cmd := { s.cmd with activate := none } }.finish a.tag r
  if a.left || s.mode.mode != .hold then s else s.leaveHold 0x0B

/-- The old image is restored (R448). -/
def State.revertFw (s : State) (a : FwActivate) : State := (s.activationOver a .reverted).bump Ctr.CRY_CNT_ACT_REVERT

/-- FW_READY (R447 steps 4 to 7): the image is checked again; the new firmware posts ready. -/
def execFwReady (s : State) : Ans :=
  .next (match s.cmd.activate with
    | none => s
    | some a =>
      if !s.imageGood a.slot then (s.bump Ctr.CRY_CNT_BOOT_REJECT).revertFw a
      else
        let s := { s with cmd := { s.cmd with active := some a.slot } }.forceLog 0x12 0 a.slot
        (s.logRec LogT.firmware Src.cox Cls.info [w32 a.slot]).activationOver a (.ok []))

/-- ACTIVATION_TIMEOUT (R448). -/
def execActivationTimeout (s : State) : Ans :=
  .next (match s.cmd.activate with
    | none => s
    | some a => s.revertFw a)

/-! ## Entries -/

end Sys2Proof.Machine
end

