-- ==== Sys2Proof/Machine/EngineCode.lean ====
section
/-!
DEFINITION. Machine/EngineCode.lean: retirement of a channel (08_channel_controllers.md, R243 to R246, R566); scrub, marks, row repair and the
checker test mode (09_codes.md, R258 to R282).
-/
namespace Sys2Proof.Machine

/-! ## A channel is retired -/

/-- ST is set on every extent of the served range (R245). -/
def State.staleAll (s : State) : State :=
  let base := { s.pair.base with st := true }
  let ext : SMap ExtPair := s.pair.ext.cells.foldl (fun (m : SMap ExtPair) c => m.put base c.1 { c.2 with st := true }) {}
  { s with pair := { s.pair with base := base, ext := ext } }

/-- A channel takes the state RETIRED (R243, R565, R566). -/
def State.markRetired (s : State) (inst : Nat) : State :=
  let c := (s.chan inst).clearCap
  let s := s.setChan inst { c with state := .retired }
  let s := s.setFld (Reg.DC_ACTION (chPage inst)) Fld.DC_ACTION_ACTION 3
  if inst < 16 then { s with ec := { s.ec with retired := s.ec.retired ++ [(inst, s.ec.serials.getD inst [])] } } else s

/-- Channels become RETIRED, and the controller departs (R245, R246). -/
def State.retireChannels (s : State) (l : List Nat) : State :=
  let s := l.foldl State.markRetired s
  let s := l.foldl State.redirectReads s
  let s := l.foldl (fun s i => s.unitDone (chUnit i)) s
  let s := if s.twinServes then s.staleAll else s
  s.faultOff.pump

/-- A channel becomes RETIRED (R243, R245, R246, R565, R566). -/
def State.retireChannel (s : State) (inst : Nat) : State := s.retireChannels [inst]

/-- RETIRE_CHANNEL (R243), guarded; ignored unless the channel is FROZEN. -/
def execRetireChannel (who inst : Nat) (s : State) : Ans :=
  .next (
    let (ok, s) := s.guarded who
    if ok && (s.chan inst).state == .frozen then s.retireChannel inst else s)

/-- FREEZE_LIMIT_EXPIRED (R244): the controller retires the channel itself, with a record. -/
def execFreezeLimitExpired (inst : Nat) (s : State) : Ans :=
  .next (if (s.chan inst).state == .frozen then
      (s.logRec LogT.faultEvent Src.ec Cls.critical [w32 (chUnit inst), w32 (s.chan inst).capCause]).retireChannel inst
    else s)

/-! ## Scrub (R274 to R278) -/

/-- The device line that stands for a line of the reserves, which has none (R282). -/
abbrev reserveLine : Nat := 2 ^ 58 - 1

/-- First line and lines of the tables of the DDR5 reserves, then of the HBM reserves (R31). -/
def State.reserveRuns (s : State) : (Nat × Nat) × (Nat × Nat) :=
  let v := s.addr.served
  let d := sumL (v.reserves.take 4)
  let h := v.reserves.getD 5 0
  (((v.pop.ddr - d) / 64, d / 64), ((hbmInUse v.pop s.flt.stackList - h) / 64, h / 64))

/-- Reserve line number `i` of a pass, and after them the spare lines that remap entries name (R274). -/
def State.reserveAt (s : State) (i : Nat) : Option Home :=
  let ((b, n), (c, m)) := s.reserveRuns
  if i < n then some ⟨false, b + i⟩
  else if i < n + m then some ⟨true, c + (i - n)⟩
  else (s.ec.remaps[i - n - m]?).map (·.dst)

/-- Lines of the reserves and spare lines that a pass covers. -/
def State.reserveCount (s : State) : Nat :=
  let ((_, n), (_, m)) := s.reserveRuns
  n + m + s.ec.remaps.length

/-- The restored leaves whose valid bit is set, rising. -/
def State.scrubLeaves (s : State) : List Nat := s.addr.valid.keys.filter (fun l => !s.unrestored l)

/-- A new pass begins (R258, R275): counts are halved, the rate is set. -/
def State.scrubPass (s : State) : State :=
  let all := 64 * s.scrubLeaves.length + s.reserveCount
  let secs := 60 * s.fldIn Reg.EC_SCRUB Fld.EC_SCRUB_PASS_MIN 30 10080
  let cap := 100 * max 1 (s.fld Reg.EC_SCRUB Fld.EC_SCRUB_MAX_RATE)
  { s with ec := { s.ec with counts := (s.ec.counts.map (fun c => (c.1, c.2 / 2))).filter (fun c => c.2 != 0), logged := [],
                             scrubAt := 0, scrubDone := 0, scrubAll := all, scrubRate := min cap (64 * all / (secs * 1000000)) } }

/-- Scrub runs (R278). -/
def State.scrubRuns (s : State) : Bool :=
  s.pwr.core && s.fld Reg.EC_CTL Fld.EC_CTL_SCRUB_EN == 1 &&
  (match s.mode.mode with
   | .serve | .solo | .hold | .restore => true
   | .standby | .preserve => false)

/-- SCRUB_PASS_START (R258, R275, R278). -/
def execScrubPassStart (s : State) : Ans := .next (if s.scrubRuns then s.scrubPass else s)

/-- The next line of the pass: the cursor's place for it, its device line, its home. -/
def State.scrubNext (s : State) : Option (Nat × Nat × Home) :=
  let a := s.ec.scrubAt
  let dev := if 2 ^ 38 ≤ a then none else s.scrubLeaves.find? (fun l => decide (leafOf a ≤ l))
  match dev with
  | some l => let line := max a (64 * l); some (line, line, s.homeOf line)
  | none =>
    let i := a - 2 ^ 38
    (s.reserveAt i).map (fun h => (2 ^ 38 + i, reserveLine, h))

/-- The cursor goes past a line. -/
def State.scrubPast (s : State) (place : Nat) : State :=
  { s with ec := { s.ec with scrubAt := place + 1, scrubDone := min s.ec.scrubAll (s.ec.scrubDone + 1) } }

/-- SCRUB_READ (R274, R278): the next line of the pass is read through P-MT, with a tracker entry of source EC; a line of a stopped channel is
skipped (R242); one at a move's cursor waits (R164); past the last line the pass ends. -/
def execScrubRead (s : State) : Ans :=
  .next (
    if !s.scrubRuns || s.ec.scrubbing.isSome || s.ec.scrubAll = 0 || s.ec.scrubDone = s.ec.scrubAll then s else
    match s.scrubNext with
    | none => { s with ec := { s.ec with scrubDone := s.ec.scrubAll, passes := (s.ec.passes + 1) % 65536 } }
    | some (place, line, h) =>
      if line != reserveLine && s.atCursor line then s
      else if s.stopped h then s.scrubPast place
      else if !s.mayGrant 6 || s.heldBack 6 then s
      else
        match s.request ⟨6, line, .read, .internal 0, false⟩ with
        | (t, some id) =>
          match t.entry id with
          | some e =>
            let t := (t.setEntry id { e with state := .home }).readHome 5 0 line h (.entry id)
            ({ t with ec := { t.ec with scrubbing := some (t.remapOf h, id, false) } }.scrubPast place).bump Ctr.EC_CNT_SCRUB_LINES
          | none => t
        | (t, none) => t)

/-! ## Marks and counts (R258 to R261, R437) -/

/-- Devices or symbol positions of an instance. -/
def State.deviceCount (s : State) (inst : Nat) : Nat := if 16 ≤ inst then 36 else if s.addr.served.pop.x8 then 5 else 10

/-- Ranks of an instance: those of the DDR5 population, or the stack IDs of a 24 GiB stack. -/
def State.rankCount (s : State) (inst : Nat) : Nat :=
  if 16 ≤ inst then 3 else if inst < s.addr.served.pop.channels then 2 ^ s.addr.served.pop.rankBits else 0

/-- The record of a mark set or removed (R282). -/
def State.markRecord (s : State) (m : Mark) (on : Bool) : State :=
  let at_ : DramAddr := ⟨m.inst, m.sc, m.rank, 0, 0, 0, 0⟩
  s.logRec 0x33 Src.ec Cls.major (ecPayload at_ m.dev (deviceSymbols (16 ≤ m.inst) s.addr.served.pop.x8 m.dev).length 7 (bit on)
    ⟨16 ≤ m.inst, 0⟩ (64 * reserveLine) 0)

/-- MARK_SET (R259, R261, R437). -/
def State.markSet (s : State) (w : Word) : State × Reply :=
  let m : Mark := ⟨w.field 5 0, w.field 6 6, w.field 15 8, w.field 23 16⟩
  if w.field 31 24 ≠ 0 || 48 ≤ m.inst then (s, .invalid)
  else if w.field 7 7 = 1 then
    match s.ec.marks.find? m.same with
    | none => (s, .ok [])
    | some k => ({ s with ec := { s.ec with marks := s.ec.marks.filter (fun q => q != k) } }.markRecord k false, .ok [])
  else if s.ec.marks.any m.same || s.deviceCount m.inst ≤ m.dev then (s, .invalid)
  else
    let s := { s with ec := { s.ec with marks := s.ec.marks ++ [m] } }.bump Ctr.EC_CNT_MARK
    ((s.markRecord m true).report m.unit 0x02 Cls.major, .ok [])

/-- MARK_SET (R437), a C command. -/
def execMarkSet (m : Mbx) (inp : List Word) (s : State) : Ans :=
  .next (s.simple m ⟨0xC533, false, true, false, false⟩ (m.len == 4) (fun s => s.markSet (wordAt inp 0)))

/-- The count of a unit (R258). -/
def State.countOf (s : State) (m : Mark) : Nat := ((s.ec.counts.find? (fun c => c.1 == m)).map (·.2)).getD 0

/-- An entry of MARK_LIST and ERR_COUNTS. -/
def State.markEntry (s : State) (m : Mark) : List Word :=
  [bytesWord (m.sc + 2 * bit (s.ec.marks.contains m)) m.rank m.dev 0, w32 (s.countOf m)]

/-- The unit's place in the order of its instance: by subchannel, rank, device. -/
def Mark.place (m : Mark) : Nat := (m.sc * 256 + m.rank) * 256 + m.dev

/-- Every unit of an instance in order: its place and itself. -/
def State.units (s : State) (inst : Nat) : List (Nat × Mark) :=
  (List.range 2).flatMap (fun sc => (List.range (s.rankCount inst)).flatMap (fun r => (List.range (s.deviceCount inst)).map (fun d =>
    let m : Mark := ⟨inst, sc, r, d⟩; (m.place, m))))

/-- An instance in bits 5 to 0 of a 4-byte input. -/
def instOfInput (inp : List Word) : Option Nat :=
  let w := wordAt inp 0
  if w.field 31 6 ≠ 0 || 48 ≤ w.field 5 0 then none else some (w.field 5 0)

/-- MARK_LIST (R437): every mark and every count of at least THRESH / 2. -/
def execMarkList (m : Mbx) (inp : List Word) (s : State) : Ans :=
  .next (s.query m ⟨0xC532, false, false, false, false⟩ (m.len == 4) (fun s =>
    match instOfInput inp with
    | none => .invalid
    | some i =>
      let half := max 1 (s.fld Reg.EC_MARK Fld.EC_MARK_THRESH) / 2
      .ok (listOut 8 (((s.units i).filter (fun u => s.ec.marks.contains u.2 || (decide (half ≤ s.countOf u.2) && s.countOf u.2 != 0))).map
        (fun u => (u.1, s.markEntry u.2))))))

/-- ERR_COUNTS (R437): every device or symbol position of an instance. -/
def execErrCounts (m : Mbx) (inp : List Word) (s : State) : Ans :=
  .next (s.query m ⟨0xC534, false, false, false, false⟩ (m.len == 4) (fun s =>
    match instOfInput inp with
    | none => .invalid
    | some i => .ok (listOut 8 ((s.units i).map (fun u => (u.1, s.markEntry u.2))))))

/-- A home address as records and lists give it: bit 63 set for HBM. -/
def Home.addr (h : Home) : Nat := 64 * h.line + (if h.hbm then 2 ^ 63 else 0)

/-- REMAP_LIST (R437). -/
def execRemapList (m : Mbx) (inp : List Word) (s : State) : Ans :=
  .next (s.query m ⟨0xC530, false, false, false, false⟩ (m.len == 4) (fun s =>
    match instOfInput inp with
    | none => .invalid
    | some i => .ok (listOut 32 (((s.ec.remaps.filter (fun r => r.inst == i)).zipIdx).map (fun r => (r.2,
        lohi r.1.src.addr ++ lohi r.1.dst.addr ++ lohi (if r.1.dev = reserveLine then 2 ^ 64 - 1 else 64 * r.1.dev) ++ lohi r.1.time))))))

/-! ## Row repair (R266, R267) -/

/-- A home line lies in the row. -/
def State.inRow (s : State) (r : RepairedRow) (h : Home) : Bool :=
  let a := s.dramOf h
  a.inst == r.inst && a.sc == r.sc && a.rank == r.rank && a.bg == r.bg && a.ba == r.ba && a.row == r.row

/-- A home line by its key. -/
def Home.ofKey (k : Nat) : Home := ⟨k % 2 == 1, k / 2⟩

/-- The lines of the row that hold something. -/
def State.rowCells (s : State) (r : RepairedRow) : List (Home × Cell) :=
  (s.mem.cells.map (fun c => (Home.ofKey c.1, c.2))).filter (fun c => s.inRow r c.1)

/-- The erasure a row repair decodes with: the named DDR5 device; for HBM the mark in force (R267). -/
def State.repairMark (s : State) (r : RepairedRow) (h : Home) : Option Nat := if r.inst < 16 then some r.dev else s.markOf h

/-- What the holding buffer holds of a line (R267 step 2); none where it failed to decode. -/
def State.heldCell (s : State) (r : RepairedRow) (h : Home) (c : Cell) : Option Cell :=
  match c with
  | .raw b k =>
    match decodeWord h.hbm s.addr.served.pop.x8 (s.repairMark r h) (rawWord h.hbm b k) with
    | .clean => some c
    | .corrected e => let b := b ^^^ symbolsLine (codeOf h.hbm).r e; some (.raw b (encodeCheck h.hbm b))
    | .poison => some .poison
    | .uncorrectable => none
  | c => some c

/-- PPR_RUN's row (R266); none where a reserved bit or encoding is used. -/
def parseRow (inp : List Word) : Option (RepairedRow × Bool) :=
  let w := wordAt inp 0
  let q := wordAt inp 1
  if w.field 23 21 ≠ 0 || w.field 31 28 ≠ 0 || q.field 31 17 ≠ 0 || wide inp 2 ≠ 0 || 48 ≤ w.field 5 0 then none
  else some (⟨w.field 5 0, w.field 6 6, w.field 15 8, w.field 18 16, w.field 20 19, w.field 27 24, q.field 16 0⟩, w.field 7 7 == 1)

/-- A row repair starts (R267 steps 1 to 3). -/
def State.startRepair (s : State) (p : RowRepair) : State :=
  let bad := (s.rowCells p.row).filterMap (fun c => if (s.heldCell p.row c.1 c.2).isNone then s.lineAt c.1 else none)
  bad.foldl State.refetchStart { s with ec := { s.ec with repair := some p } }

/-- PPR_RUN (R266, R267 steps 1 to 3): the lines of the row that fail to decode ask for their merged refetch. -/
def State.pprRun (s : State) (m : Mbx) (inp : List Word) (tag : Nat) : State × CmdRes :=
  match parseRow inp with
  | none => (s, .now .invalid)
  | some (r, hard) =>
    if (s.chan r.inst).state != .frozen || (hard && !(s.mode.mode == .hold && s.mode.holdPurpose == 2)) || s.ec.repair.isSome ||
      (r.inst < 16 && s.deviceCount r.inst ≤ r.dev) then (s, .now .invalid)
    else
      (s.startRepair { row := r, hard := hard, reply := m, tag := tag }, .later)

/-- PPR_RUN (R266): in the background with HARD = 1. -/
def execPprRun (m : Mbx) (inp : List Word) (s : State) : Ans :=
  .next (s.command m ⟨0xC531, false, true, false, false⟩ (m.len == 16) ((wordAt inp 0).field 7 7 == 1) (fun tag s => s.pprRun m inp tag))

/-- A line of the row is written back (R267 steps 3 and 5): as the holding buffer has it, else what its refetch found, else the poison
marker. -/
def State.rowBack (s : State) (r : RepairedRow) (h : Home) (c : Cell) : State :=
  match s.heldCell r h c with
  | some c => s.setCell h c
  | none =>
    match s.lineAt h with
    | none => s.setCell h .poison
    | some line =>
      match s.held line with
      | some (_, w) => s.setCell h (s.cellOf line w.data w.p)
      | none =>
        match s.queued h with
        | some q => s.setCell h q
        | none => (s.setCell h .poison).poisonWritten 6 4 line

/-- A remap entry whose FROM lies in the row is copied back and freed (R267 step 5). -/
def State.unremap (s : State) (r : Remap) : State :=
  let c := s.homeCell r.src
  let s := s.unqueue r.src
  let s := { s with ec := { s.ec with remaps := s.ec.remaps.filter (fun q => q != r) } }
  let s := match c with
    | some c => s.setCell r.src c
    | none => { s with mem := s.mem.erase r.src.key }
  s.ecRecord 0x35 Cls.info 0xFF 0 6 0 r.src (64 * r.dev) 0

/-- A repair that fault handling asked for has ended (R406): the channel is released; where it failed, RETIRE_LINE is tried for a row, and the
channel is retired where that is refused. -/
def State.repairEnd (s : State) (p : RowRepair) (good : Bool) : State :=
  let i := p.row.inst
  match p.auto with
  | none => s
  | some row =>
    if (s.chan i).state != .frozen then s
    else if good then s.releaseChannel i 1
    else
      let s := if row then s.retireLine i else s
      if (s.chan i).state == .frozen then s.retireChannel i else s

/-- PPR_DONE (R266, R267): the repair ends with the device's answer: 0 the lines written back verify; 1 no repair resource is left in the bank; 2 a
line fails verification. It does not end before the refetches of its lines. -/
def execPprDone (outcome : Nat) (s : State) : Ans :=
  .next (match s.ec.repair with
    | none => s
    | some p =>
      let r := p.row
      let cells := s.rowCells r
      let free := fun (s : State) => ({ s with ec := { s.ec with repair := none } } : State)
      if cells.any (fun c => match s.lineAt c.1 with | some l => s.tier.refetch.has l | none => false) then s
      else if outcome = 1 then ((free s).finish p.tag .exhausted).repairEnd p false
      else
        let s := cells.foldl (fun s c => s.rowBack r c.1 c.2) s
        if outcome ≠ 0 then ((free s).finish p.tag .media).repairEnd p false
        else
          let s := (s.ec.remaps.filter (fun q => s.inRow r q.src)).foldl State.unremap s
          let rows := s.ec.rows.filter (fun q => q != r)
          let s := { s with ec := { s.ec with rows := if p.hard then rows else rows ++ [r] } }
          let a : DramAddr := ⟨r.inst, r.sc, r.rank, r.bg, r.ba, r.row, 0⟩
          let s := (s.logRec 0x36 Src.ec Cls.major (ecPayload a (if r.inst < 16 then r.dev else 0xFF) 0 6 0 ⟨16 ≤ r.inst, 0⟩
            (64 * reserveLine) 0)).bump Ctr.EC_CNT_PPR
          (((free s).finish p.tag (.ok [])).repairEnd p true).pump)

/-! ## Checker test (R279 to R281) -/

/-- The home line EC_TEST_ADDR names. -/
def State.testHome (s : State) : Home :=
  ⟨s.fld Reg.EC_TEST_ADDR_HI Fld.EC_TEST_ADDR_HI_MEM == 1,
   (s.fld Reg.EC_TEST_ADDR_HI Fld.EC_TEST_ADDR_HI_ADDR_HI * 2 ^ 32 + (s.reg Reg.EC_TEST_ADDR_LO).toNat) / 64⟩

/-- EC_TEST_DATA0 to 15 as the beats of a line. -/
def State.testBeats (s : State) : Line :=
  BitVec.ofNat 512 ((List.range 16).foldl (fun n k => n + (s.reg (Reg.EC_TEST_DATA k)).toNat * 2 ^ (32 * k)) 0)

/-- EC_TEST_CHK0 to 3 as check symbols: eight for DDR5, four for HBM. -/
def State.testChecks (s : State) (hbm : Bool) : BitVec 128 :=
  BitVec.ofNat 128 ((List.range (if hbm then 2 else 4)).foldl (fun n k => n + (s.reg (Reg.EC_TEST_CHK k)).toNat * 2 ^ (32 * k)) 0)

/-- Put beats and check symbols in the registers. -/
def State.putTest (s : State) (hbm : Bool) (b : Line) (k : BitVec 128) : State :=
  let s := (List.range 16).foldl (fun s i => s.setReg (Reg.EC_TEST_DATA i) (w32 (b.toNat / 2 ^ (32 * i)))) s
  (List.range (if hbm then 2 else 4)).foldl (fun s i => s.setReg (Reg.EC_TEST_CHK i) (w32 (k.toNat / 2 ^ (32 * i)))) s

/-- What the device holds of a home line (R248, R256): beats and check symbols; of a line never written, free values. -/
def State.rawOf (s : State) (h : Home) : Line × BitVec 128 :=
  match s.cell h with
  | some (.raw b k) => (b, k)
  | some .poison => (symbolsLine (codeOf h.hbm).r (poisonWord h.hbm), symbolsCheck (codeOf h.hbm).r (poisonWord h.hbm))
  | some (.plain dev key d) => let b := Config.encrypt (s.keyPair key) dev d; (b, encodeCheck h.hbm b)
  | none => let b : Line := BitVec.ofNat 512 s.freeVal; (b, encodeCheck h.hbm b)

/-- Set EC_TEST_CTL.RESULT. -/
def State.testRes (s : State) (r : Nat) : State := { s with ec := { s.ec with testResult := r } }

/-- A home line is in a channel's write queue or its device line in a merge buffer (R280). -/
def State.testConflict (s : State) (h : Home) : Bool :=
  let c := s.chan (s.dramOf h).inst
  c.wq.any (fun w => w.home == h) || (match s.lineAt h with | some l => (s.mergeOf l).isSome | none => false)

/-- A test write of this line is refused (R280). -/
def State.testBarred (s : State) (h : Home) : Bool :=
  let st := (s.chan (s.dramOf h).inst).state
  (!(s.isSpare h && !s.ec.remaps.any (fun r => r.dst == h)) && !(s.mode.mode == .hold && s.mode.holdPurpose == 2)) ||
  st == .frozen || st == .retired

/-- A guarded write of EC_TEST_CTL that starts an operation (R279, R459): TMARK fields and OP take the written values. -/
def State.testOp (s : State) (who op : Nat) (ctl : Word) (run : State → Home → State) : State :=
  if !s.pwr.core || 5 ≤ who then s else
  match s.guarded who with
  | (false, s) => s
  | (true, s) =>
    let w := ctl.setField 2 0 op
    let s := s.setReg Reg.EC_TEST_CTL (guardedWord Reg.EC_TEST_CTL (s.reg Reg.EC_TEST_CTL) w)
    let h := s.testHome
    if op ≤ 2 && s.testBarred h then s.testRes 3
    else if s.testConflict h then s.testRes 4
    else (run s h).testRes 1

/-- RAW_WRITE (R279). -/
def execRawWrite (who : Nat) (ctl : Word) (s : State) : Ans :=
  .next (s.testOp who 1 ctl (fun s h => s.setCell h (.raw s.testBeats (s.testChecks h.hbm))))

/-- ENC_WRITE (R279): check symbols computed and exclusive-ored with EC_TEST_CHK. -/
def execEncWrite (who : Nat) (ctl : Word) (s : State) : Ans :=
  .next (s.testOp who 2 ctl (fun s h => s.setCell h (.raw s.testBeats (encodeCheck h.hbm s.testBeats ^^^ s.testChecks h.hbm))))

/-- A test read (R279, R281): the received word, and with `dec` the corrected one, in the registers; the verdict, the number of symbols corrected
or erased and their mask. -/
def State.testRead (s : State) (h : Home) (mark : Option Nat) (dec : Bool) (errs : List (Nat × Nat)) : State :=
  let r := (codeOf h.hbm).r
  let x8 := s.addr.served.pop.x8
  let e0 := sumErrs errs
  let (b0, k0) := s.rawOf h
  let b := b0 ^^^ symbolsLine r e0
  let k := k0 ^^^ symbolsCheck r e0
  let v := decodeWord h.hbm x8 mark (rawWord h.hbm b k)
  let eras := match mark with | some d => deviceSymbols h.hbm x8 d | none => []
  let (code, fix, syms) : Nat × List (Nat × Nat) × List Nat := match v with
    | .clean => (0, [], [])
    | .corrected e => (1, e, (e.map (·.1) ++ eras).eraseDups)
    | .uncorrectable => (2, [], [])
    | .poison => (3, [], [])
  let s := if (s.cell h).isNone then s.freed else s
  let s := { s with ec := { s.ec with verdict := code, nsym := syms.length, symMask := syms.foldl (fun n j => n + 2 ^ j) 0 } }
  if dec then s.putTest h.hbm (b ^^^ symbolsLine r fix) (k ^^^ symbolsCheck r fix) else s.putTest h.hbm b k

/-- RAW_READ (R279): the word as received, with these symbol errors of the read. -/
def execRawRead (who : Nat) (ctl : Word) (errs : List (Nat × BitVec 16)) (s : State) : Ans :=
  .next (s.testOp who 3 ctl (fun s h => s.testRead h (s.markOf h) false (errWord errs)))

/-- The mark a DEC_READ uses: the test mark with TMARK_EN, else the mark in force. -/
def State.testMark (s : State) (h : Home) : Option Nat :=
  if s.fld Reg.EC_TEST_CTL Fld.EC_TEST_CTL_TMARK_EN = 1 then
    let d := s.fld Reg.EC_TEST_CTL Fld.EC_TEST_CTL_TMARK_DEV
    let d := if h.hbm then d + 16 * s.fld Reg.EC_TEST_CTL Fld.EC_TEST_CTL_TMARK_HI else d
    if d < s.deviceCount (s.dramOf h).inst then some d else none
  else s.markOf h

/-- DEC_READ (R279): the word as corrected. -/
def execDecRead (who : Nat) (ctl : Word) (errs : List (Nat × BitVec 16)) (s : State) : Ans :=
  .next (s.testOp who 4 ctl (fun s h => s.testRead h (s.testMark h) true (errWord errs)))

end Sys2Proof.Machine
end

