-- ==== Sys2Proof/Machine/CacheOps.lean ====
section
/-!
DEFINITION. Machine/CacheOps.lean: range operations and the sweep of the line cache (07_line_cache.md, R209 to R219).
-/
namespace Sys2Proof.Machine

/-! ## One line -/

/-- The operation covers a line. -/
def RangeOp.covers (o : RangeOp) (line : Nat) : Bool := o.spans.any (fun p => decide (p.1 ≤ line) && decide (line ≤ p.2))

/-- Lines of the range. -/
def RangeOp.lines (o : RangeOp) : Nat := sumL (o.spans.map (fun p => p.2 + 1 - p.1))

/-- The lines the cache holds. -/
def State.heldLines (s : State) : List Nat :=
  s.lc.sets.cells.flatMap (fun c => (c.2.ways.filter (·.v)).map (fun w => lineOfWay c.1 w.tag))

/-- The operation on a held line (R209 to R211); a dirty line of a RETIRED channel cannot be written back and is passed over (R565). -/
def State.opLine (s : State) (o : RangeOp) (line : Nat) : State × RangeOp :=
  match (s.lset line).wayOf (tagOf line) with
  | none => (s, o)
  | some i =>
    let w := (s.lset line).way i
    let done := { o with acted := o.acted + 1 }
    if o.op = 5 then (s.dropHeld line, done)
    else if !w.d then (if o.op = 1 then (s, o) else (s.dropHeld line, done))
    else if (s.chan (s.instOf (s.homeOf line))).state == .retired then (s, o)
    else
      let s := s.writeBack 5 line w
      let s := if o.op = 1 then s.setHeld line i { w with d := false } else s.dropHeld line
      (s, { done with pending := if o.op = 2 then o.pending else o.pending ++ [line] })

/-- The lines of valid leaves in the range, for ZERO (R212). -/
def State.zeroLinesOf (s : State) (o : RangeOp) : List Nat :=
  (s.addr.valid.keys.flatMap (fun l => (List.range leafLines).map (· + leafLines * l))).filter o.covers

/-- The operation on the lines of its range that satisfy `p`. -/
def State.opAct (s : State) (o : RangeOp) (p : Nat → Bool) : State × RangeOp :=
  if o.op = 4 then
    let ls := (s.zeroLinesOf o).filter p
    (ls.foldl (fun s line => s.submit ⟨7, line, .write 0 Mask.full false, .internal (16 + o.cls), false⟩) s, { o with acted := o.acted + ls.length })
  else
    let ls := s.heldLines.filter (fun l => o.covers l && p l)
    let (s, o) := ls.foldl (fun (a : State × RangeOp) l => a.1.opLine a.2 l) (s, o)
    if o.op = 5 then
      ({ s with ec := { s.ec with merge := s.ec.merge.filter (fun l _ => !(o.covers l && p l)) } }, o)
    else (s, o)

/-! ## Start and end -/

/-- A range operation runs, one of a fence included (R214): LC_OP_STATUS.BUSY. -/
def State.opBusy (s : State) : Bool := s.lc.op.isSome || s.addr.fences.any (fun f => !f.localDone)

/-- Begin a range operation (R215): up to 16,384 lines are probed at once, a larger range is walked. -/
def State.opBegin (s : State) (o : RangeOp) : State :=
  if o.lines ≤ 16384 then
    let (s, o) := s.opAct o (fun _ => true)
    { s with lc := { s.lc with op := some { o with walked := true } } }
  else { s with lc := { s.lc with op := some o } }

/-- The first CACHE_OP that waits begins, where none runs (R214). -/
def State.opNext (s : State) : State :=
  match s.lc.opq with
  | o :: rest => if s.opBusy then s else { s with lc := { s.lc with opq := rest } }.opBegin o
  | [] => s

/-- RANGE_WALK_SET (R215): the walk handles the next set of every slice. -/
def execRangeWalkSet (s : State) : Ans :=
  .next (match s.lc.op with
    | none => s.opNext
    | some o =>
      if o.walked then s
      else
        let (s, o) := s.opAct o (fun l => setIndex l == o.set)
        { s with lc := { s.lc with op := some { o with set := o.set + 1, walked := decide (2048 ≤ o.set + 1) } } })

/-- A line of ZERO has not completed (R212). -/
def State.zeroLeft (s : State) : Bool :=
  let mine : Dst → Bool := fun d => match d with | .internal k => decide (16 ≤ k) | _ => false
  s.trk.waiting.any (fun w => mine w.dst) || s.trk.entries.cells.any (fun c => mine c.2.dst && !c.2.sent)

/-- The operation may end (R210, R212): CLEAN and CLEAN_INVALIDATE once their write-backs are in DRAM, ZERO once its writes have completed. -/
def State.opOver (s : State) (o : RangeOp) : Bool :=
  o.walked && (if o.op = 4 then !s.zeroLeft else o.pending.all (fun l => (s.queued (s.homeOf l)).isNone))

/-- RANGE_OP_DONE (R210 to R216): the operation ends, with the count of lines acted on; the next one begins. -/
def execRangeOpDone (s : State) : Ans :=
  .next (match s.lc.op with
    | none => s.opNext
    | some o =>
      if !s.opOver o then s
      else
        let s := { s with lc := { s.lc with op := none } }.bumpBy Ctr.LC_CNT_OP_LINES o.acted
        let s := match o.reply with
          | some (_, tag) => s.finish tag (.ok (lohi o.acted))
          | none => { s with lc := { s.lc with opResult := 1 } }
        s.opNext)

/-! ## CACHE_OP (R213 to R216) -/

/-- A DPA range as runs of device lines through an LD's windows: none where it does not lie wholly in them; `write` asks for windows the LD may
write. -/
def State.spansOf (s : State) (ld first last : Nat) (write : Bool) : Option (List (Nat × Nat)) :=
  let parts := (s.windows ld).filterMap (fun w =>
    let a := max first (w.dpa * extentBytes)
    let b := min (last + 1) ((w.dpa + w.len) * extentBytes)
    if a < b && (!write || w.write) then some (w.device a / 64, (w.device (b - 1)) / 64) else none)
  if sumL (parts.map (fun p => 64 * (p.2 + 1 - p.1))) = last + 1 - first then some parts else none

/-- DISCARD is allowed by mode and pairing (R213). -/
def State.discardAllowed (s : State) : Bool := s.mode.mode == .hold && s.mode.holdPurpose == 2 && !s.paired

/-- CACHE_OP's input: OP, CLASS, FIRST, LAST; none where it is malformed. -/
def parseCacheOp (inp : List Word) : Option (Nat × Nat × Nat × Nat) :=
  let w := wordAt inp 0
  let op := w.field 2 0
  let first := wide inp 2
  let last := wide inp 4
  if op = 0 || 5 < op || w.field 7 3 ≠ 0 || w.field 31 12 ≠ 0 || wordAt inp 1 ≠ 0 || first % 64 ≠ 0 || last % 64 ≠ 63 || last < first then none
  else some (op, w.field 11 8, first, last)

/-- CACHE_OP (R209, R213, R214, R216). -/
def State.cacheOp (s : State) (m : Mbx) (inp : List Word) (tag : Nat) : State × CmdRes :=
  let w := wordAt inp 0
  let (p, k) := s.linkOf m.fn
  let (open_, s) := if w.field 2 0 = 5 && s.privileged m then s.guarded (requesterOf p k) else (true, s)
  match parseCacheOp inp with
  | none => (s, .now .invalid)
  | some (op, cls, first, last) =>
    let spans := match s.limitedTo m with
      | some ld => if op = 5 then none else s.spansOf ld first last (op == 4)
      | none => if last < 2 ^ 44 then some [(first / 64, last / 64)] else none
    match spans with
    | none => (s, .now .invalid)
    | some l =>
      if op = 5 && !(open_ && s.discardAllowed) then (s, .now .invalid)
      else
        let o : RangeOp := ⟨op, l, cls, some (m, tag), 0, [], false, 0⟩
        (if s.opBusy then { s with lc := { s.lc with opq := s.lc.opq ++ [o] } } else s.opBegin o, .later)

/-- CACHE_OP (R209), in the background above 16,384 lines. -/
def execCacheOp (m : Mbx) (inp : List Word) (s : State) : Ans :=
  .next (s.command m ⟨0xC020, true, false, false, false⟩ (m.len == 24)
    (decide (64 * 16384 < wide inp 4 + 1 - wide inp 2)) (fun tag s => s.cacheOp m inp tag))

/-! ## LC_OP_CMD -/

/-- Set LC_OP_STATUS.RESULT. -/
def State.opRes (s : State) (r : Nat) : State := { s with lc := { s.lc with opResult := r } }

/-- A write of LC_OP_CMD (R213, R214): `ok` is what its OP asks for beside. -/
def State.lcOp (s : State) (op cls : Nat) (ok : Bool) : State :=
  if !s.pwr.core then s else
  let first := (s.reg Reg.LC_OP_FIRST_LO).toNat + s.fld Reg.LC_OP_FIRST_HI Fld.LC_OP_FIRST_HI_ADDR_HI * 2 ^ 32
  let last := (s.reg Reg.LC_OP_LAST_LO).toNat + s.fld Reg.LC_OP_LAST_HI Fld.LC_OP_LAST_HI_ADDR_HI * 2 ^ 32
  if op = 0 then s
  else if s.opBusy then s.opRes 2
  else if 5 < op || !ok || last / 64 < first / 64 then s.opRes 3
  else s.opBegin ⟨op, [(first / 64, last / 64)], cls, none, 0, [], false, 0⟩

/-- CLEAN (R209). -/
def execClean (s : State) : Ans := .next (s.lcOp 1 0 true)
/-- INVALIDATE (R209). -/
def execInvalidate (s : State) : Ans := .next (s.lcOp 2 0 true)
/-- CLEAN_INVALIDATE (R209). -/
def execCleanInvalidate (s : State) : Ans := .next (s.lcOp 3 0 true)
/-- ZERO (R212), with its CLASS. -/
def execZero (cls : Nat) (s : State) : Ans := .next (s.lcOp 4 (cls % 16) true)

/-- DISCARD (R213): the writer's unlock has to be open, and closes. -/
def execDiscard (who : Nat) (s : State) : Ans :=
  .next (if !s.pwr.core then s else
    let (ok, s) := s.guarded who
    s.lcOp 5 0 (ok && s.discardAllowed))

/-! ## Enabling and the sweep (R217 to R219) -/

/-- A commit of LC_CTL.ENABLE (R217, R219). -/
def State.cacheEnable (s : State) (on : Bool) : State :=
  match s.lc.state, on with
  | .enabled, false => { s with lc := { s.lc with state := .sweeping, slice := 0, reenable := false } }
  | .sweeping, b => { s with lc := { s.lc with reenable := b } }
  | .disabled, true => { s with lc := { s.lc with state := .enabled } }
  | _, _ => s

/-- Sweep one line: written back through P-MT where dirty, and invalidated; a dirty line of a stopped channel is passed over (R218). -/
def State.sweepLine (s : State) (line : Nat) : State :=
  match (s.lset line).wayOf (tagOf line) with
  | none => s
  | some i =>
    let w := (s.lset line).way i
    if !w.d then s.dropHeld line
    else if s.stopped (s.homeOf line) then s
    else ((s.writeBack 5 line w).dropHeld line).bump Ctr.LC_CNT_SWEEP_LINES

/-- CACHE_SWEEP_DONE (R217 to R219): every slice has been swept; the sweep ends unless a dirty line of a stopped channel remains. -/
def execCacheSweepDone (s : State) : Ans :=
  .next (if s.lc.state != .sweeping then s else
    let s := s.heldLines.foldl State.sweepLine s
    match s.heldLines with
    | [] => ({ s with lc := { s.lc with state := if s.lc.reenable then .enabled else .disabled, slice := 0, reenable := false } }).pump
    | l :: rest => { s with lc := { s.lc with slice := rest.foldl (fun n x => min n (sliceOf x)) (sliceOf l) } })

end Sys2Proof.Machine
end

