-- ==== Sys2Proof/Machine/DataPath.lean ====
section
/-!
DEFINITION. Machine/DataPath.lean: CXL.mem requests (12_cxl_ports.md, R372 to R384; 02_address_space.md, R45 to R47).
-/
namespace Sys2Proof.Machine

/-- A link consumes CXL.mem messages: in L0, memory active, its IDE stream secure where CXA_CFG.IDE_REQ asks for one, not INSECURE (R371,
R386, R387). -/
def State.linkOpen (s : State) (p k : Nat) : Bool :=
  s.pwr.core && decide (p < 2) && (s.port p).hasLink k && (s.link p k).state == .l0 && s.cxl.memActive &&
  (s.link p k).ide != 2 && (!(s.port p).ideReq || (s.link p k).ide == 1)

/-- A message uses a credit of its link (R374): false where the host holds none, which is a Receiver Overflow (R385). -/
def State.useCredit (s : State) (p k : Nat) (rwd : Bool) : State × Bool :=
  let l := s.link p k
  if rwd then
    if l.rwd = 0 then (s.ras p k 1, false) else (s.setLink p k { l with rwd := l.rwd - 1 }, true)
  else
    if l.req = 0 then (s.ras p k 1, false) else (s.setLink p k { l with req := l.req - 1 }, true)

/-- A line number outside the 44-bit device space: the line of a request that names none (R46). -/
abbrev noLine : Nat := 2 ^ 38

/-- Where a request's HPA leads (R45, R46, R376, R377): the line, or none, with the DPA and whether its window may be written. -/
def State.route (s : State) (ld hpa : Nat) : Option Nat × Nat × Bool :=
  match hdmDecode (s.func ld).hdm hpa with
  | none => (none, hpa, false)
  | some dpa =>
    match s.windowAt ld dpa with
    | none => (none, dpa, false)
    | some w => (some (w.device dpa / 64), dpa, w.write)

/-- A request under R46 is counted and recorded (R384). -/
def State.noWindow (s : State) (p k ld dpa : Nat) (write : Bool) : State :=
  (s.bumpLink p k (if write then Ctr.CX_CNT_NOWIN_WR else Ctr.CX_CNT_NOWIN_RD)).gmEvent ld dpa (if write then 2 else 1)

/-- A read of a line (R372), or the speculative one of MemSpecRd, or a MemInv. -/
def State.m2sReq (s : State) (p : CxlMsg) (op : TOp) (spec : Bool) : State :=
  if !s.linkOpen p.port p.link then s else
  match s.useCredit p.port p.link false with
  | (s, false) => s
  | (s, true) =>
    match s.ldOf p.port p.link p.ldid with
    | none => (s.bumpLink p.port p.link Ctr.CX_CNT_BAD_LD).returnCredit (.cxl p.port p.link 0 p.tag true) false
    | some ld =>
      let (line, dpa, _) := s.route ld p.hpa
      match line with
      | some l => s.submit ⟨p.port, l, op, .cxl p.port p.link ld p.tag spec, false⟩
      | none =>
        let s := if op == .read && !spec then s.noWindow p.port p.link ld dpa false else s
        s.submit ⟨p.port, noLine, op, .cxl p.port p.link ld p.tag spec, true⟩

/-- A write of a line or part of it (R372, R383). -/
def State.m2sRwd (s : State) (p : CxlMsg) (d : Line) (m : Mask) (poison : Bool) : State :=
  if !s.linkOpen p.port p.link then s else
  match s.useCredit p.port p.link true with
  | (s, false) => s
  | (s, true) =>
    match s.ldOf p.port p.link p.ldid with
    | none => (s.bumpLink p.port p.link Ctr.CX_CNT_BAD_LD).returnCredit (.cxl p.port p.link 0 p.tag true) true
    | some ld =>
      let (line, dpa, ok) := s.route ld p.hpa
      let s := if poison then (s.bumpLink p.port p.link Ctr.CX_CNT_POISON_WR).ras p.port p.link 0 else s
      match line, ok with
      | some l, true => s.submit ⟨p.port, l, .write d m poison, .cxl p.port p.link ld p.tag false, false⟩
      | _, _ =>
        (s.noWindow p.port p.link ld dpa true).submit
          ⟨p.port, noLine, .write d m false, .cxl p.port p.link ld p.tag false, true⟩

/-- MEM_RD (R372): MemRd and MemRdData. -/
def execMemRd (p : CxlMsg) (s : State) : Ans := .next (s.m2sReq p .read false)

/-- MEM_WR (R372). -/
def execMemWr (p : CxlMsg) (data : Line) (poison : Bool) (s : State) : Ans := .next (s.m2sRwd p data Mask.full poison)

/-- MEM_WR_PTL (R75, R372). -/
def execMemWrPtl (p : CxlMsg) (data : Line) (mask : Mask) (poison : Bool) (s : State) : Ans := .next (s.m2sRwd p data mask poison)

/-- MEM_SPEC_RD (R372): the lookup takes an entry; no data is read and none is sent. -/
def execMemSpecRd (p : CxlMsg) (s : State) : Ans := .next (s.m2sReq p .read true)

/-- MEM_INV (R372). -/
def execMemInv (p : CxlMsg) (s : State) : Ans := .next (s.m2sReq p .inv false)

/-- M2S_BAD_OPCODE (R372): discarded and counted. -/
def execM2sBadOpcode (port link _opcode : Nat) (s : State) : Ans :=
  .next (if s.linkOpen port link then s.bumpLink port link Ctr.CX_CNT_BAD_OP else s)

/-- The leaf's remaining lines are written with zeros through P-MT (R56). -/
def State.zeroLines (s : State) (leaf : Nat) (mask : BitVec 64) : State :=
  (List.range leafLines).foldl (fun s k =>
    let line := leaf * leafLines + k
    if mask.getLsbD k then s else s.writeHome 5 0 line (s.homeOf line) (s.cellOf line 0 false)) s

/-- LEAF_FILL_DONE (R56, R57): the valid bit sets, the leaf joins the dirty window, the reads that waited go on. -/
def execLeafFillDone (leaf : Nat) (s : State) : Ans :=
  .next (match s.addr.fills.find? leaf with
    | none => s
    | some mask =>
      let s := s.zeroLines leaf mask
      let s := { s with addr := { s.addr with fills := s.addr.fills.erase leaf, valid := s.addr.valid.insert leaf () } }
      (s.joinWindow leaf).pump)

end Sys2Proof.Machine
end

