-- ==== Sys2Proof/Machine/Security.lean ====
section
/-!
DEFINITION. Machine/Security.lean: key slots, the security version, the identity (14_control.md, R437, R439 to R445).
-/
namespace Sys2Proof.Machine

/-- CRY_BOOT as it reads. -/
def State.cryBoot (s : State) : Word :=
  fields [(Fld.CRY_BOOT_FUSED_SVN, s.cmd.fusedSvn),
    (Fld.CRY_BOOT_IMAGE_SVN, match s.cmd.active with | some k => s.slotField k 8 2 | none => 0),
    (Fld.CRY_BOOT_HASH0_REVOKED, bit s.cmd.hash0Revoked), (Fld.CRY_BOOT_FALLBACK, bit s.cmd.fallback),
    (Fld.CRY_BOOT_ACTIVE, s.cmd.active.getD 0), (Fld.CRY_BOOT_PREF, s.prefSlot)]

/-- CRY_STATUS as it reads: slot 0 always counts. -/
def State.cryStatus (s : State) : Word :=
  fields [(Fld.CRY_STATUS_PAIRS_SINGLE, s.flt.aesSingle.toNat),
    (Fld.CRY_STATUS_SLOTS_USED, (s.cmd.keys.filter (fun k _ => k != 0)).size + 1)]

/-- SEC_STATUS (R437). -/
def execSecStatus (m : Mbx) (_inp : List Word) (s : State) : Ans :=
  .next (s.query m ⟨0xC900, true, false, false, true⟩ (m.len == 0) (fun s => .ok [s.cryBoot, s.cryStatus, 0, 0]))

/-- The words of a run of bytes, the last filled up with zeros. -/
def byteWords (b : List Byte) : List Word := (List.range (ceilDiv b.length 4)).map (fun i => w32 (bytesVal ((b.drop (4 * i)).take 4)))

/-- IDENTITY_GET (R437): serial number, length of the certificate chain, the chain. -/
def execIdentityGet (m : Mbx) (_inp : List Word) (s : State) : Ans :=
  .next (s.query m (.read 0xC901) (m.len == 0) (fun _ =>
    .ok (ipWords Config.serial ++ [w32 Config.certChain.length] ++ byteWords Config.certChain)))

/-- The key slots go to the vault as TABLE records (R440, R293). -/
def State.saveKeys (s : State) : State :=
  { s with vlt := { s.vlt with nand := { s.vlt.nand with tables := { s.vlt.nand.tables with keys := s.cmd.keys } } } }

/-- Put a key pair into a slot and answer its tag (R439). -/
def State.putKey (s : State) (slot : Nat) (k : BitVec 512) : State × Reply :=
  let tag := Config.keyTag k
  ({ s with cmd := { s.cmd with keys := s.cmd.keys.insert slot ⟨k, tag⟩ } }.saveKeys, .ok [tag])

/-- A slot of a KEYSLOT command that is 1 to 4095 and empty (R441). -/
def State.slotEmpty (s : State) (w : Word) : Bool := w.field 31 12 == 0 && w.field 11 0 != 0 && !s.cmd.keys.has (w.field 11 0)

/-- KEYSLOT_LOAD (R441); `given` is the key pair that the stroke's message carried. -/
def State.keyslotLoad (s : State) (given : Option (BitVec 512)) (inp : List Word) : State × Reply :=
  let w := wordAt inp 0
  if !s.slotEmpty w || wordAt inp 1 ≠ 0 || !Config.pointOnCurve inp then (s, .invalid)
  else match given with
  | some k => s.putKey (w.field 11 0) k
  | none =>
    match Config.unwrapKey s.ctrlId (w.field 11 0) inp with
    | some k => s.putKey (w.field 11 0) k
    | none => (s.bump Ctr.CRY_CNT_UNWRAP_FAIL, .cause 4)

/-- KEYSLOT_LOAD (R441). -/
def execKeyslotLoad (m : Mbx) (inp : List Word) (s : State) : Ans :=
  .next (s.pCommand m ⟨0xC910, false, true, true, false⟩ (m.len == 184) false inp (fun _ _ s => s.keyslotLoad none inp))

/-- KEYSLOT_GENERATE (R441): the slot is filled from the random source. -/
def State.keyslotGenerate (s : State) (given : Option (BitVec 512)) (inp : List Word) : State × Reply :=
  let w := wordAt inp 0
  if !s.slotEmpty w then (s, .invalid)
  else match given with
  | some k => s.putKey (w.field 11 0) k
  | none => s.freed.putKey (w.field 11 0) (Config.randomKey s.fresh)

/-- KEYSLOT_GENERATE (R441). -/
def execKeyslotGenerate (m : Mbx) (inp : List Word) (s : State) : Ans :=
  .next (s.pCommand m ⟨0xC911, false, true, true, false⟩ (m.len == 4) false inp (fun _ _ s => s.keyslotGenerate none inp))

/-- KEYSLOT_CLEAR (R441, R442): not slot 0, not a slot that a region names. -/
def State.keyslotClear (s : State) (inp : List Word) : State × Reply :=
  let w := wordAt inp 0
  let k := w.field 11 0
  if w.field 31 12 ≠ 0 || k = 0 || s.addr.regions.values.any (fun r => r.keySlot == k) then (s, .invalid)
  else ({ s with cmd := { s.cmd with keys := s.cmd.keys.erase k } }.saveKeys, .ok [])

/-- KEYSLOT_CLEAR (R441, R442). -/
def execKeyslotClear (m : Mbx) (inp : List Word) (s : State) : Ans :=
  .next (s.pCommand m ⟨0xC912, false, true, true, false⟩ (m.len == 4) false inp (fun _ _ s => s.keyslotClear inp))

/-- KEYSLOT_LIST (R441, R437). -/
def execKeyslotList (m : Mbx) (inp : List Word) (s : State) : Ans :=
  .next (s.query m ⟨0xC913, false, false, false, false⟩ (m.len == 4) (fun s =>
    .ok (listOut 8 ((s.cmd.keys.cells.filter (fun c => decide ((wordAt inp 0).toNat ≤ c.1))).map (fun c =>
      (c.1, [w32 (c.1 + 65536 * (s.addr.regions.values.filter (fun r => r.keySlot == c.1)).length), c.2.tag]))))))

/-- FW_SVN_ADVANCE (R445): in HOLD with PURPOSE 0b10 and with the unlock of the mailbox's function open (R460, R461). -/
def execFwSvnAdvance (m : Mbx) (_inp : List Word) (s : State) : Ans :=
  .next (s.simple m ⟨0xC921, false, true, false, false⟩ (m.len == 0) (fun s =>
    let (p, k) := s.linkOf m.fn
    let who := requesterOf p k
    if s.mode.mode != .hold || s.mode.holdPurpose ≠ 2 then (s.relock who, .mode)
    else if !s.unlocked who then (s, .invalid)
    else
      let s := s.relock who
      match s.cmd.active with
      | none => (s, .invalid)
      | some a =>
        if !s.slotIsEmpty (1 - a) && decide (s.slotField (1 - a) 8 2 < s.slotField a 8 2) then (s, .invalid)
        else
          let v := max s.cmd.fusedSvn (min 64 (s.slotField a 8 2))
          ({ s with cmd := { s.cmd with fusedSvn := v } }, .ok [w32 v])))

end Sys2Proof.Machine
end

