-- ==== Sys2Proof/Machine/TwinMsg.lean ====
section
/-!
DEFINITION. Machine/TwinMsg.lean: what the messages of the twin do: writes and their acknowledgements, BOUNDED data, read-assists,
checkpoints, handovers, departures, resync (03_request_path.md, R71 to R73, R81; 04_durability.md, R97 to R128; 05_twin_link.md, R140, R147).
-/
namespace Sys2Proof.Machine

/-! ## Message order (R147) -/

/-- The next message to apply, where it is of this type. -/
def State.nextMsg (s : State) (typ : Nat) : Option TwMsg :=
  match s.twl.staging.find? s.twl.rxMsn with
  | some m => match m.msg with
    | some t => if t.typ = typ then some t else none
    | none => none
  | none => none

/-- The next message has been applied: its slots are free (R143). -/
def State.msgDone (s : State) : State :=
  let n := match s.twl.staging.find? s.twl.rxMsn with | some m => m.frames.size | none => 0
  ({ s with twl := { s.twl with staging := s.twl.staging.erase s.twl.rxMsn, rxMsn := (s.twl.rxMsn + 1) % 2 ^ 20 } }.freeSlots n).bump
    Ctr.TWL_CNT_MSG_APPLIED

/-- Line records and checkpoints of a message. -/
def TwMsg.lines (m : TwMsg) : List LineRec := m.recs.filterMap (fun r => match r with | .line l => some l | _ => none)
def TwMsg.ckpts (m : TwMsg) : List Ckpt := m.recs.filterMap (fun r => match r with | .ckpt c => some c | _ => none)

/-- Apply the checkpoints of a message (R108, R363). -/
def State.applyCkpts (s : State) (m : TwMsg) : State := m.ckpts.foldl State.applyCkpt s

/-- Apply line records in order; none where one has to wait (R74, R78, R95). -/
def State.applyRecs (s : State) : List LineRec → Option State
  | [] => some s
  | r :: t => (s.applyRec r).bind (fun s => s.applyRecs t)

/-- A message that has to wait raises the leaves of its lines (R74). -/
def State.raiseRecs (s : State) (m : TwMsg) : State := m.lines.foldl (fun s r => s.onDemand (leafOf r.line)) s

/-! ## Writes (R71 to R73, R81, R100) -/

/-- WRITE_FWD (R71, R117): the owner takes the writes and atomics into the tracker, where they are ordered; without an entry the message waits
(R69). -/
def execWriteFwd (s : State) : Ans :=
  .next (match s.nextMsg 0x01 with
    | none => s
    | some m =>
      if !s.mayGrant 3 || s.heldBack 3 then s
      else
        let s := s.msgDone
        let (s, _) := m.lines.foldl (fun (a : State × Nat) r =>
          let op : TOp := match r.body with
            | .full d => .write d Mask.full false
            | .part k d => .write d k false
            | .poison => .write 0 Mask.full true
            | .cmpSwap w c x => .cmpSwap w c x
            | .fetchAdd w v => .fetchAdd w v
            | .zero | .nodata | .orig _ => .write 0 Mask.full false
          (a.1.submit ⟨3, r.line, op, .fwd m.tag a.2, false⟩, a.2 + 1)) (s, 0)
        s.applyCkpts m)

/-- The record that an own write or atomic of a BOUNDED region becomes once its order number is known (R81, R101). -/
def Entry.ownRec (e : Entry) (r : LineRec) : LineRec :=
  let word := fun (w : Nat) (v : BitVec 64) =>
    let (d, _) := e.op.atomic (Line.setWord 0 w v)
    LineBody.part (BitVec.ofNat 64 (255 * 2 ^ (8 * (w % 8)))) d
  { r with epoch := 0, body := match e.op, r.body with
    | .write d m p, _ => bodyOf d m p
    | .cmpSwap w _ _, .orig v => word w v
    | .fetchAdd w _, .orig v => word w v
    | _, _ => .nodata }

/-- An order number comes back for an entry (R81): none where the write cannot be applied yet. -/
def State.ordered (s : State) (id : Nat) (e : Entry) (r : LineRec) : Option State :=
  let res := match r.body with
    | .orig v => some (BitVec.ofNat 512 v.toNat, false)
    | .poison => some (0, true)
    | _ => e.result
  let e := { e with ord := some r.ord, result := res }
  if e.forwarded then
    let e := { e with applied := true, owed := false }
    let s := s.setEntry id e
    match e.dst with
    | .fwd tag _ => some ((s.orderAck tag).complete id e e.result)
    | _ => some s
  else if r.body = .poison || !ordLater r.ord (s.ordOf e.line) then
    let e := { e with applied := true, owed := false }
    some ((s.setEntry id e).tryComplete id e)
  else if e.bounded then (s.setEntry id e).applyRec (e.ownRec r)
  else some (s.setEntry id e)

/-- ORDER_ACK (R81). -/
def execOrderAck (s : State) : Ans :=
  .next (match s.nextMsg 0x02 with
    | none => s
    | some m =>
      let done := m.lines.foldl (fun (a : Option State) r => a.bind (fun s =>
        match s.trk.entries.cells.find? (fun c => c.2.tag == some m.tag && c.2.line == r.line && c.2.owed && !c.2.sent) with
        | some c => s.ordered c.1 c.2 r
        | none => some s)) (some s)
      match done with
      | some s => s.msgDone.pump
      | none => s.raiseRecs m)

/-- MIRROR (R100, R72). -/
def execMirror (s : State) : Ans :=
  .next (match s.nextMsg 0x03 with
    | none => s
    | some m =>
      match s.applyRecs m.lines with
      | some s => ((s.applyCkpts m).msgDone.hand 0x04 0 [.tag m.tag]).pump
      | none => s.raiseRecs m)

/-! ## Handover as old owner (R98) -/

/-- The old owner has finished what it has ordered for an extent: its mirrors, intents and data are with the link (R98, step 2). -/
def State.orderedAllSent (s : State) (x : Nat) : Bool :=
  !s.pair.owed.any (fun o => extentOf o.record.line == x) &&
  !s.trk.entries.cells.any (fun c => extentOf c.2.line == x && c.2.applied && c.2.bounded && c.2.tag.isNone && !c.2.sent)

/-- Send the marker of a handover whose extent is clear (R98, step 3). -/
def State.sendMarkers (s : State) : State :=
  (s.pair.handover.cells.filter (fun c => c.2 == 1 && s.orderedAllSent c.1)).foldl (fun s c =>
    ({ s with pair := { s.pair with handover := s.pair.handover.insert c.1 3 } }).hand 0x0C 0 [.handover 1 c.1]) s

/-- After data or credits have moved: intents that waited go, handovers and attribute changes go on. -/
def State.afterData (s : State) : State := s.pump.sendMarkers.attrTry

/-- MIRROR_ACK (R81, R103): mirrors are acknowledged; the data of intents has been applied, and their credits come back. -/
def execMirrorAck (s : State) : Ans :=
  .next (match s.nextMsg 0x04 with
    | none => s
    | some m =>
      let s := m.recs.foldl (fun s r => match r with
        | .tag t =>
          match s.pair.dataSent.find? (fun d => d.1 == t) with
          | some d => { s with pair := { s.pair with intentCredit := min 131072 (s.pair.intentCredit + d.2.length),
                                                     dataSent := s.pair.dataSent.erase d } }
          | none =>
            (s.trk.entries.cells.filter (fun c => c.2.tag == some t && c.2.owed && !c.2.bounded && c.2.applied)).foldl (fun s c =>
              let e := { c.2 with owed := false }
              if e.sent then s.setEntry c.1 e else (s.setEntry c.1 e).tryComplete c.1 e) s
        | _ => s) s.msgDone
      s.afterData)

/-! ## BOUNDED data (R101 to R104) -/

/-- INTENT (R103): intents without data are held. -/
def execIntent (s : State) : Ans :=
  .next (match s.nextMsg 0x05 with
    | none => s
    | some m => ({ s with pair := { s.pair with intents := s.pair.intents ++ m.lines.map (fun (r : LineRec) => (r.line, r.ord)) } }.applyCkpts m).msgDone)

/-- INTENT_DATA (R102, R103). -/
def execIntentData (s : State) : Ans :=
  .next (match s.nextMsg 0x06 with
    | none => s
    | some m =>
      match s.applyRecs m.lines with
      | some s =>
        let given := fun (i : Nat × BitVec 32) => m.lines.any (fun (r : LineRec) => r.line == i.1 && r.ord == i.2)
        let s := { s with pair := { s.pair with intents := s.pair.intents.filter (fun i => !given i) } }
        (s.msgDone.hand 0x04 0 [.tag m.tag]).afterData
      | none => s.raiseRecs m)

/-- INTENT_DATA_SEND (R101): the owner hands its oldest data to the link, one message of at most 195 records. -/
def execIntentDataSend (s : State) : Ans := .next (if s.pair.owed.isEmpty then s else (s.sendOwed 195).afterData)

/-! ## Read-assists and checkpoints -/

/-- RA_REQ (R189, R242). -/
def execRaReq (s : State) : Ans :=
  .next (match s.nextMsg 0x07 with
    | none => s
    | some m =>
      if !s.mayGrant 3 || s.heldBack 3 then s
      else
        (m.lines.foldl (fun (a : State × Nat) r => (a.1.submit ⟨3, r.line, .read, .assist m.tag a.2, false⟩, a.2 + 1)) (s.msgDone, 0)).1)

/-- A line that the twin could not give (R190, R242): from the own vault where the winning copy may stand there, else poison. -/
def State.assistPoison (s : State) (line : Nat) : State :=
  match (if s.losing line then none else s.vaultLine line) with
  | some (.data d) => s.deliver line d false false
  | _ => s.deliver line 0 true false

/-- A line of a leaf that the twin has sent is written to its home. -/
def State.restoredLine (s : State) (r : LineRec) : State :=
  match r.body with
  | .full d => s.setCell (s.remapOf (s.homeOf r.line)) (s.cellOf r.line d false)
  | _ => s.setCell (s.remapOf (s.homeOf r.line)) .poison

/-- The lines of a leaf that the twin restores are written to their homes (R124, R313). -/
def State.restoredLines (s : State) (leaf : Nat) (l : List LineRec) : State :=
  let s := { s with pair := { s.pair with restores := s.pair.restores.filter (fun a => a.2 != leaf) } }
  let s := l.foldl State.restoredLine s
  match s.vlt.unrestored.find? leaf with
  | some u => { s with vlt := { s.vlt with unrestored := s.vlt.unrestored.insert leaf { u with got := true } } }
  | none => s

/-- RA_RESP (R190). -/
def execRaResp (s : State) : Ans :=
  .next (match s.nextMsg 0x08 with
    | none => s
    | some m =>
      let s := s.msgDone
      let asked := s.pair.assists.any (fun a => a.1 == m.tag)
      let fetched := s.pair.refetches.any (fun a => a.1 == m.tag)
      match s.pair.restores.find? (fun a => a.1 == m.tag) with
      | some (_, leaf) => s.restoredLines leaf m.lines
      | none =>
      let s := { s with pair := { s.pair with assists := s.pair.assists.filter (fun a => a.1 != m.tag),
                                              refetches := s.pair.refetches.filter (fun a => a.1 != m.tag) } }
      (m.lines.foldl (fun s r =>
        let d := match r.body with | .full d => some d | _ => none
        let s := if fetched then s.refetchTwin r.line d else s
        if asked then (match d with | some d => s.deliver r.line d false false | none => s.assistPoison r.line) else s) s).pump)

/-- CHECKPOINT (R363). -/
def execCheckpoint (s : State) : Ans :=
  .next (match s.nextMsg 0x09 with
    | none => s
    | some m => (s.applyCkpts m).msgDone)

/-! ## Handover messages (R98) -/

/-- HANDOVER_START (R98): an extent that the other side is to own is marked HANDOVER; what has been ordered is handed over, then the marker. -/
def execHandoverStart (extent : Nat) (s : State) : Ans :=
  .next (
    if !s.together || s.mode.mode == .hold || s.pair.owned.find? extent != some true then s
    else
      let s := if s.pair.handover.has extent then s else { s with pair := { s.pair with handover := s.pair.handover.insert extent 1 } }
      (s.sendOwed s.pair.owed.length).afterData)

/-- The extent of a HANDOVER message of a kind. -/
def TwMsg.handoverOf (m : TwMsg) (kind : Nat) : Option Nat :=
  match m.recs with
  | [.handover k x] => if k = kind then some x else none
  | _ => none

/-- HANDOVER_MARKER (R98, R117): the new owner takes the extent, in HOLD only once that ends. -/
def execHandoverMarker (s : State) : Ans :=
  .next (match s.nextMsg 0x0C with
    | none => s
    | some m =>
      match m.handoverOf 1 with
      | none => s
      | some x =>
        let s := s.msgDone
        if s.mode.mode == .hold then { s with pair := { s.pair with markers := s.pair.markers ++ [x] } }
        else (s.acceptMarker x).pump.attrTry)

/-- RESYNC falls when the last extent has returned (R127). -/
def State.resyncFalls (s : State) : State :=
  if s.pair.resync.size = 0 && s.pair.owned.size = 0 && s.pair.handover.size = 0 then { s with pair := { s.pair with resyncing := false } } else s

/-- HANDOVER_ACK (R98, step 5): the old owner forwards what waited. -/
def execHandoverAck (s : State) : Ans :=
  .next (match s.nextMsg 0x0C with
    | none => s
    | some m =>
      match m.handoverOf 2 with
      | none => s
      | some x =>
        let s := s.msgDone
        let s := { s with pair := { s.pair with handover := s.pair.handover.erase x, owned := s.pair.owned.erase x } }
        (s.bump Ctr.SYS_CNT_HANDOVER).resyncFalls.pump.attrTry)

/-! ## Leaving RESTORE (R22, R312) -/

/-- RESTORE ends when no leaf is left (R22): SERVE with the twin reachable, else SOLO. -/
def State.leaveRestore (s : State) : State :=
  if s.mode.mode == .restore && s.mode.bringup == .served && s.vlt.unrestored.size = 0 then
    ((s.setMode (if s.paired && s.twinReachable then .serve else .solo) 0x02).pump).netRun
  else s

/-- Step 6 of R312: hosts are served. -/
def State.serveHosts (s : State) : State :=
  (({ s with mode := { s.mode with bringup := .served, retrying := false }, cxl := { s.cxl with memActive := true } }.pump).netRun).leaveRestore

/-! ## Departures (R114, R115) -/

/-- The next message is a DEPART of this kind. -/
def State.nextDepart (s : State) (kind : Nat) : Bool :=
  match s.nextMsg 0x0D with
  | some m => m.recs == [.depart kind]
  | none => false

/-- DEPARTING (R115, R116). -/
def execDeparting (s : State) : Ans := .next (if s.nextDepart 1 then s.msgDone.twinDeparts.netRun else s)

/-- DEPARTING_ACK (R114): the twin owns every extent now, and the SEAL record may be written. -/
def execDepartingAck (s : State) : Ans :=
  .next (if s.nextDepart 2 then
      let s := s.msgDone
      if s.pair.departSent then { s with pair := { s.pair with departAcked := true } }.pump else s
    else s)

/-- DEPARTING_ACK_TIMEOUT (R114): both paths are forced dead, and the twin counts as lost. -/
def execDepartingAckTimeout (s : State) : Ans :=
  .next (if s.mode.mode == .preserve && s.pair.departSent && !s.pair.departAcked then ((s.declareDead 0).declareDead 1).loseTwin else s)

/-! ## The probe (R111 to R113) -/

/-- PROBE_SEND (R111): from the lowest port whose link is up, while the probe runs. -/
def execProbeSend (s : State) : Ans :=
  .next (if !s.pair.probing then s else
    match (s.net.ports.cells.find? (fun c => c.2.link)) with
    | none => s
    | some c =>
      let seq := s.net.probeSeq
      ({ s with net := { s.net with probeSeq := seq + 1 } }).sendFrameEth
        { mac := c.1 / 4, port := c.1 % 4, prio := 0, dstMac := 0, vlan := 0, dscp := 0, dstIp := s.pair.probeAddr,
          udpSrc := s.fld Reg.NET_PROBE Fld.NET_PROBE_PORT, what := .probe s.pairId s.ctrlId (BitVec.ofNat 64 seq) })

/-- PROBE_REPLY (R111): a partition; the bow issues an off request and never completes what it kept. -/
def execProbeReply (seq : Nat) (s : State) : Ans :=
  .next (if !s.pair.probing || s.net.probeSeq ≤ seq then s
    else
      let s := { s with pair := { s.pair with partition := true } }
      if s.isBow then s.offRequest 0x08 else s)

/-- PROBE_SILENT (R111, R112): the kept completions are released, and the survivor takes the twin's addresses over. -/
def execProbeSilent (s : State) : Ans :=
  .next (if !s.pair.probing || (s.pair.partition && s.isBow) then s
    else ({ s with pair := { s.pair with probing := false } }.pump).takeOver.netRun)

/-! ## Resync (R121 to R128) -/

/-- Whose copy of an extent is kept (R123): this side's or the twin's, none where no copy moves; and whether a record names the extent. -/
def State.winner (s : State) (own tw : ExtPair) : Option Bool × Bool :=
  let d := (own.epoch + 65536 - tw.epoch) % 65536
  if d = 0 then
    if own.rd && tw.rd then (some (!s.isBow), true)
    else if own.st && tw.st then (some (!s.isBow), true)
    else if own.st then (some false, false)
    else if tw.st then (some true, false)
    else (none, false)
  else if d = 32768 then (some (!s.isBow), true)
  else (some (decide (d < 32768)), false)

/-- The line as it stands here, where it can be told without a wait: cache, merge buffer, write queue or home. -/
def State.lineNow (s : State) (line : Nat) : Option ReadRes :=
  match s.held line with
  | some (_, w) => some (if w.p then .poison else .data w.data)
  | none =>
    if s.unrestored (leafOf line) then s.vaultLine line
    else
      let h := s.homeOf line
      let home := fun (_ : Unit) => (s.readCell h.hbm (s.markOf h) (s.homeCell h) line (s.keySlotOf line) []).1
      match s.mergeOf line with
      | some m => some (.data (m.overlay (if m.mask = Mask.full then .data 0 else home ())))
      | none =>
        if s.readsZero line then some (.data 0)
        else if s.stopped h && (s.queued h).isNone then s.vaultLine line
        else some (home ())

/-- The losing side of an extent forgets its copy: cache, merge buffers, order numbers; its valid bits become the winner's (R123, R124). -/
def State.loseExtents (s : State) (xs : List Nat) (twValid : List Nat) : State :=
  let mine := fun line => xs.contains (extentOf line)
  let s := s.heldLines.foldl (fun s l => if mine l then s.dropHeld l else s) s
  let s := (s.ec.merge.keys.filter mine).foldl (fun s l => s.setMerge l none) s
  let inX := fun leaf => xs.contains (leaf / extentLeaves)
  let kept := s.addr.valid.filter (fun l _ => !inX l)
  let valid := (twValid.filter inX).foldl (fun (v : SMap Unit) l => v.insert l ()) kept
  let un := s.vlt.unrestored.filter (fun l _ => !inX l)
  let un := if s.mode.mode == .restore then
      (twValid.filter inX).foldl (fun (v : SMap Unrestored) l => v.insert l ⟨true, 2, false, false, s.pair.resyncEpoch.getD (l / extentLeaves) 0⟩) un
    else un
  { s with trk := { s.trk with ords := s.trk.ords.filter (fun l _ => !mine l) }, addr := { s.addr with valid := valid },
           vlt := { s.vlt with unrestored := un } }

/-- Reunion (R22, R107, R123, R124, R126): the twin's epoch table decides whose copies are kept. -/
def State.reunite (s : State) (ext : List (Nat × ExtPair)) (base : ExtPair) (valid : List Nat) (poisoned : List (Nat × BitVec 32)) : State :=
  let tw : SMap ExtPair := ext.foldl (fun (m : SMap ExtPair) c => m.insert c.1 c.2) {}
  let all := (s.winner s.pair.base base).1.isSome
  let xs := if all then List.range s.addr.served.len
    else (s.pair.ext.keys ++ ext.map (·.1)).eraseDups.filter (fun x => decide (x < s.addr.served.len))
  let judged := xs.map (fun x => (x, s.winner (s.extPair x) (tw.getD x base)))
  let s := judged.foldl (fun s j => if j.2.2 then s.logRec LogT.resync Src.twl Cls.minor [w32 j.1] else s) s
  let won := judged.filterMap (fun j => j.2.1.map (fun w => (j.1, w)))
  -- the lines the twin poisoned, before this side forgets them (R107)
  let copies := poisoned.filterMap (fun p =>
    if s.ordOf p.1 = p.2 then (match s.lineNow p.1 with | some (.data d) => some (LineRec.mk p.1 p.2 0 (.full d)) | _ => none) else none)
  let losing := (won.filter (fun w => !w.2)).map (·.1)
  let epochOf := fun x (w : Bool) => if w then (s.extPair x).epoch else (tw.getD x base).epoch
  let s := { s with pair := { s.pair with
    resync := won.foldl (fun (m : SMap Bool) (w : Nat × Bool) => m.insert w.1 w.2) {},
    resyncEpoch := won.foldl (fun (m : SMap Nat) (w : Nat × Bool) => m.insert w.1 (epochOf w.1 w.2)) {},
    resyncAt := {}, resyncing := !won.isEmpty, resyncDone := 0, resyncLines := 0, resyncStart := s.now } }
  let s := s.loseExtents losing valid
  let s := if copies.isEmpty then s else s.hand 0x0B 0 [.resync (.copies copies)]
  let s := if s.mode.mode == .solo then s.setMode .serve 0x04 else s
  s.pump

/-- The extent-done list (R127): the epoch of a winning copy, RD and ST clear; an extent the table gives to the other side hands over. -/
def State.extentEnds (s : State) (x : Nat) : State :=
  match s.pair.resync.find? x with
  | none => s
  | some w =>
    let e := s.pair.resyncEpoch.getD x (s.extPair x).epoch
    let s := s.setExtPair x { epoch := e, rd := false, st := false }
    let s := { s with pair := { s.pair with
      resync := s.pair.resync.erase x, resyncAt := s.pair.resyncAt.erase x,
      resyncEpoch := s.pair.resyncEpoch.erase x, raised := s.pair.raised.erase x, resyncDone := s.pair.resyncDone + 1 } }
    let s := if s.tableOwner x = w then s else { s with pair := { s.pair with owned := s.pair.owned.insert x w } }
    s.bump Ctr.SYS_CNT_RESYNC_EXT

/-- At the end of resync each taken-over connection is handed back (R365): its packets are discarded, its context goes to the twin. -/
def State.handBack (s : State) : State :=
  if s.pair.takeover && s.pair.resync.size = 0 && s.mode.mode == .serve then
    let mine := s.net.conns.cells.filter (fun c => !c.2.own && c.2.rts && !c.2.closing)
    let back := mine.map (fun c => (c.1, { c.2 with own := true, ops := [], stall := none, routed := false, route := c.2.route }))
    ({ s with net := { s.net with handback := mine.map (fun (c : Nat × Conn) => c.2.qpn) } }).control (.handback back)
  else s

/-- RESYNC_CTL (R107, R123, R124, R127); a bring-up takes an epoch table only once its own has been read from the vault. -/
def execResyncCtl (c : ResyncMsg) (s : State) : Ans :=
  .next (if (s.nextMsg 0x0B).isNone || (s.mode.bringup == .rebuild && !s.vlt.loaded) then s else
    let s := s.msgDone
    match c with
    | .epochs ext base valid poisoned =>
      if s.twinReachable && (s.mode.mode == .solo || s.mode.mode == .restore || s.mode.mode == .hold) then
        let t := s.reunite ext base valid poisoned
        if s.mode.bringup == .rebuild then t.serveHosts else t.netRun
      else s
    | .copies recs =>
      recs.foldl (fun s r =>
        if s.pair.poisoned.find? r.line = some r.ord then
          match r.body with
          | .full d =>
            let s := (s.putLine r.line d Mask.full false 7).getD s
            ({ s with pair := { s.pair with poisoned := s.pair.poisoned.erase r.line } }).logRec LogT.resync Src.twl Cls.info (lohi (64 * r.line))
          | _ => s
        else s) s
    | .ended xs => ((xs.foldl State.extentEnds s).resyncFalls.handBack.pump).attrTry
    | .ask xs => xs.foldl (fun s x => if s.pair.resync.find? x = some true then
        { s with pair := { s.pair with resyncAt := s.pair.resyncAt.erase x } } else s) s)

/-- The next line of an extent that the winning side has to copy: a line of a valid leaf at or after the cursor (R126). -/
def State.nextCopy (s : State) (x : Nat) : Option Nat :=
  let i := s.pair.resyncAt.getD x 0
  (s.addr.valid.keys.filter (fun l => l / extentLeaves == x)).findSome? (fun l =>
    let lo := l % extentLeaves * leafLines
    if lo + leafLines ≤ i then none else some (max i lo))

/-- RESYNC_COPY_SEND (R126): the winning side reads the next line of the extent and sends it. -/
def execResyncCopySend (extent : Nat) (s : State) : Ans :=
  .next (
    if s.pair.resync.find? extent != some true || !s.linkUp then s
    else match s.nextCopy extent with
    | none => s
    | some i =>
      let line := extent * extentLines + i
      if s.unrestored (leafOf line) then s.onDemand (leafOf line)
      else
        let send := fun (body : LineBody) =>
          let s := s.handNew 0x0A [.line ⟨line, s.ordOf line, s.pair.resyncEpoch.getD extent 0, body⟩]
          { s with pair := { s.pair with resyncAt := s.pair.resyncAt.insert extent (i + 1), resyncLines := s.pair.resyncLines + 1 } }
        match s.lineNow line with
        | some (.data d) => send (.full d)
        | some .poison => send .poison
        | _ => s)

/-- RESYNC_COPY (R126): applied unless a newer write of the line has been. -/
def execResyncCopy (s : State) : Ans :=
  .next (match s.nextMsg 0x0A with
    | none => s
    | some m =>
      let done := m.lines.foldl (fun (a : Option State) r => a.bind (fun s =>
        let note := fun (s : State) => { s with pair := { s.pair with
          resyncAt := s.pair.resyncAt.insert (extentOf r.line) (r.line % extentLines + 1), resyncLines := s.pair.resyncLines + 1 } }
        if ordLater (s.ordOf r.line) r.ord then some (note s)
        else match r.body.write? with
        | none => some (note s)
        | some (d, k, p) => if s.writable r.line then (s.putLine r.line d k p 7).map (fun s => note (s.setOrd r.line r.ord)) else none)) (some s)
      match done with
      | some s => s.msgDone.pump
      | none => s.raiseRecs m)

/-- RESYNC_EXTENT_DONE (R127): the winning side has copied the extent. -/
def execResyncExtentDone (extent : Nat) (s : State) : Ans :=
  .next (
    if s.pair.resync.find? extent != some true || (s.nextCopy extent).isSome || !s.linkUp then s
    else ((((s.hand 0x0B 0 [.resync (.ended [extent])]).extentEnds extent).resyncFalls.handBack).pump).attrTry)

/-- RESYNC_STATUS (R437). -/
def execResyncStatus (m : Mbx) (_inp : List Word) (s : State) : Ans :=
  .next (s.query m ⟨0xC103, true, false, false, true⟩ (m.len == 0) (fun s =>
    .ok ([w32 s.pair.resync.size, w32 s.pair.resyncDone] ++ lohi (64 * s.pair.resyncLines) ++
      lohi (if s.pair.resyncing then s.pair.resyncStart else 0))))

end Sys2Proof.Machine
end

