-- ==== Sys2Proof/Machine/Pair.lean ====
section
/-!
DEFINITION. Machine/Pair.lean: CONTROL messages, commands carried between the twins, forming a pair (14_control.md, R422, R423, R432, R449;
04_durability.md, R118 to R120, R123; 11_network.md, R362, R365, R367).
-/
namespace Sys2Proof.Machine

/-! ## The body of a P command that the twin carried (R423) -/

/-- Run a carried command by its opcode: `given` is the stroke's first output word, `key` the key pair its message carried, `flip` that it was
accepted on the twin. -/
def State.pBody (s : State) (op tag : Nat) (ld : Option Nat) (inp : List Word) (given : Option Word) (key : Option (BitVec 512))
    (flip : Bool) : State × Reply :=
  if op = 0xC001 then s.regionCreate inp
  else if op = 0xC002 then s.regionFence true ld inp tag
  else if op = 0xC004 then s.regionFence false ld inp tag
  else if op = 0xC003 then s.regionSetAttr inp tag
  else if op = 0xC010 then s.shareCreate inp
  else if op = 0xC011 then s.shareDelete inp
  else if op = 0xC401 then s.addrSet flip inp
  else if op = 0xC402 then s.listenSet inp
  else if op = 0xC404 then s.connClose inp
  else if op = 0xC410 then s.keyRegister ld given inp
  else if op = 0xC411 then s.keyRevoke ld inp tag
  else if op = 0xC420 then s.domainSet inp tag
  else if op = 0xC421 then s.domainRevoke inp tag
  else if op = 0xC910 then s.keyslotLoad key inp
  else if op = 0xC911 then s.keyslotGenerate key inp
  else if op = 0xC912 then s.keyslotClear inp
  else (s, .invalid)

/-- The bow's command reaches the stroke (R423): Busy while a C command runs here; a repeated tag does nothing. -/
def State.carriedIn (s : State) (tag op : Nat) (ld : Option Nat) (inp : List Word) : State :=
  if s.cmd.applied.contains tag then s
  else if s.cfgRuns then s.control (.answer tag 6 0 [])
  else { s with cmd := { s.cmd with remote := some (op, tag), applied := s.cmd.applied ++ [tag] } }.replRun tag op ld inp .bows
    (fun tag s => s.pBody op tag ld inp none none true)

/-- A command that the stroke, or a survivor, has run is applied here once (R36, R362). -/
def State.runIn (s : State) (tag op : Nat) (ld : Option Nat) (inp out : List Word) (key : Option (BitVec 512)) : State :=
  if s.cmd.applied.contains tag then s
  else
    let mine := s.cmd.repl.any (fun r => r.tag == tag && r.role == .carried)
    { s with cmd := { s.cmd with applied := s.cmd.applied ++ [tag] } }.replRun tag op ld inp .applied
      (fun tag s => s.pBody op tag ld inp out.head? key (!mine))

/-- The twin has applied the command. -/
def State.ranIn (s : State) (tag : Nat) : State :=
  { s with cmd := { s.cmd with repl := s.cmd.repl.map (fun (r : Repl) =>
      if r.tag = tag ∧ (r.role = ReplRole.own ∨ r.role = ReplRole.bows) then { r with twinDone := true } else r) } }.replTry tag

/-- The stroke's answer to a command carried to it. -/
def State.answerIn (s : State) (tag rc ext : Nat) (out : List Word) : State :=
  if s.cmd.repl.any (fun r => r.tag == tag && r.role == .carried) then
    { s with cmd := { s.cmd with repl := s.cmd.repl.filter (fun (r : Repl) => r.tag != tag || r.role != ReplRole.carried) } }.finish tag ⟨rc, ext, out⟩
  else s

/-! ## Meeting a twin (R123, R362, R449) -/

/-- A P command that ran alone is carried to the twin again (R36, R362), tagged apart from the commands of the pair. -/
def State.replayCmd (ctrlId : Nat) (s : State)
    (c : (Nat × Option Nat × List Word × List Word × Option (BitVec 512)) × Nat) : State :=
  s.control (.run (2 ^ 33 + 2 * c.2 + ctrlId % 2) c.1.1 c.1.2.1 c.1.2.2.1 c.1.2.2.2.1 c.1.2.2.2.2)

/-- A connection of our own is proposed to the twin as a shadow (R335, R362). -/
def State.proposeAgain (s : State) (c : Nat × Conn) : State :=
  if c.2.own && c.2.rts && !c.2.closing then
    s.control (.connSetup c.1 { c.2 with own := false, route := {}, ops := [], stall := none, routed := false })
  else s

/-- What goes to a twin that is reachable again: the commands it missed, the connections it is to shadow, the epoch table. -/
def State.meetTwin (s : State) : State :=
  let s := (s.cmd.replay.zipIdx s.cmd.nextTag).foldl (State.replayCmd s.ctrlId) s
  let s := { s with cmd := { s.cmd with nextTag := s.cmd.nextTag + s.cmd.replay.length, replay := [] } }
  let s := s.net.conns.cells.foldl State.proposeAgain s
  s.hand 0x0B 0 [.resync (.epochs s.pair.ext.cells s.pair.base s.addr.valid.keys s.pair.poisoned.cells)]

/-- The twin's first CONTROL message after PATH_UP (R449): its PAIR_PROTO. -/
def State.protoIn (s : State) (v : Nat) : State :=
  let s := { s with cmd := { s.cmd with twinProto := some v } }
  let s := if s.pair.takeover then s else { s with net := { s.net with conns := s.net.conns.filter (fun _ (c : Conn) => c.own) } }
  if v / 256 != s.pairProto / 256 then s.logRec LogT.mismatch Src.cox Cls.major [w32 s.pairProto, w32 v]
  else if !s.twinReachable then s
  else match s.mode.mode with
  | .solo | .hold => s.meetTwin
  | .restore => if s.mode.bringup == .served then s.meetTwin else s.control .askTables
  | .standby | .serve | .preserve => s

/-! ## Forming a pair (R52, R118 to R120) -/

/-- The donor's keys that cross (R118, R440): those of the slots its regions name. -/
def State.regionKeys (s : State) : List (Nat × BitVec 512 × BitVec 32) :=
  (s.cmd.keys.cells.filter (fun c => s.addr.regions.values.any (fun r => r.keySlot == c.1))).map (fun c => (c.1, c.2.key, c.2.tag))

/-- Both identities are known: step 3 of R118, and the donor's tables (steps 4 and 5). -/
def State.formStep (s : State) : State :=
  match s.pair.forming, s.pair.twinIdent with
  | some f, some (donor, pid, cid, serial, len, high) =>
    if f.at_ ≠ 2 then s
    else if donor == f.donor || pid ≠ s.pairId || cid ≠ f.twinId || (if f.donor then len < s.highestRegion else s.addr.served.len < high) then
      s.leaveHold 0x0B
    else
      let f := { f with serial := serial, twinLen := len, at_ := if f.donor then 5 else 3 }
      let s := { s with pair := { s.pair with forming := some f } }
      if f.donor then
        s.control (.tables s.addr.regions.cells s.addr.shares.cells s.regionKeys s.pair.ext.cells s.pair.base s.addr.valid.keys)
      else s
  | _, _ => s

/-- The donor's tables reach the recipient (R118, steps 4 and 5): kept aside until step 6 (R119). -/
def State.tablesIn (s : State) (regions : List (Nat × Region)) (shares : List (Nat × Share)) (keys : List (Nat × BitVec 512 × BitVec 32))
    (epochs : List (Nat × ExtPair)) (base : ExtPair) (valid : List Nat) : State :=
  match s.pair.forming with
  | some f =>
    if !f.donor && f.at_ = 3 then
      { s with pair := { s.pair with forming := some { f with
          regions := regions, shares := shares, keys := keys, epochs := epochs, base := base, valid := valid, at_ := 5 } } }.control .formed
    else s
  | none => s

/-- The twin is ready to leave HOLD (R118, step 6). -/
def State.formedIn (s : State) : State :=
  match s.pair.forming with
  | some f =>
    if f.at_ = 5 then
      let s := { s with pair := { s.pair with forming := some { f with at_ := 6 } } }
      if f.donor then s.control .formed else s
    else s
  | none => s

/-- A table from its cells. -/
def SMap.ofCells {α : Type} (l : List (Nat × α)) : SMap α := l.foldl (fun (m : SMap α) c => m.insert c.1 c.2) {}

/-- CONTROL (R36, R118, R335, R362, R365, R367, R423, R449). -/
def execControl (c : CtlMsg) (s : State) : Ans :=
  .next (if (s.nextMsg 0x0E).isNone then s else
    let s := s.msgDone
    match c with
    | .proto v => s.protoIn v
    | .request tag op ld inp => s.carriedIn tag op ld inp
    | .run tag op ld inp out key => s.runIn tag op ld inp out key
    | .ran tag => s.ranIn tag
    | .answer tag rc ext out => s.answerIn tag rc ext out
    | .identity donor pid cid serial len high =>
      { s with pair := { s.pair with twinIdent := some (donor, pid, cid, serial, len, high) } }.formStep
    | .tables regions shares keys epochs base valid => s.tablesIn regions shares keys epochs base valid
    | .formed => s.formedIn
    | .handback conns =>
      (conns.foldl (fun (s : State) (c : Nat × Conn) => s.setConn c.1 { c.2 with own := true }) s).announce false |>.control .handedBack
    | .handedBack => { s with pair := { s.pair with takeover := false }, net := { s.net with handback := [] } }
    | .connSetup slot c => s.connSetupRx slot c
    | .connOk slot => s.connOkRx slot
    | .connNo slot => s.connNoRx slot
    | .connEnd qpn => s.connEndRx qpn
    | .connEnded qpn => s.connEndedRx qpn
    | .askTables => s.sendNetTables
    | .netTables keys domains listen addrs =>
      if s.mode.mode == .restore then
        (s.reloadNet (SMap.ofCells keys) (SMap.ofCells domains) listen (SMap.ofCells addrs) (s.fld Reg.NET_CTL Fld.NET_CTL_PROT == 1)).saveNet
      else s)

/-- What R118 and R52 ask of the input and the state; a failed R52 leaves a record. -/
def State.formRefused (s : State) (inp : List Word) : State × Bool :=
  let d := wordAt inp 0
  let twin := (wordAt inp 2).field 13 0
  if !s.paired || s.mode.mode != .solo || (wordAt inp 1).toNat ≠ s.pairId || d.field 31 2 ≠ 0 || (wordAt inp 2).field 31 14 ≠ 0 || wordAt inp 3 ≠ 0 then
    (s, true)
  else if twin / 2 ≠ s.ctrlId / 2 || twin % 2 = s.ctrlId % 2 then
    (s.logRec LogT.mismatch Src.mode Cls.major [w32 s.ctrlId, w32 twin], true)
  else (s, d.field 0 0 = 0 && s.addr.regions.size != 0 && d.field 1 1 = 0)

/-- PAIR_FORM (R118): step 1 and what it leads to here. -/
def State.pairFormStart (s : State) (m : Mbx) (tag : Nat) (inp : List Word) : State :=
  let donor := (wordAt inp 0).field 0 0 == 1
  let probe := BitVec.ofNat 128 (wide inp 4 + wide inp 6 * 2 ^ 64)
  let f : Forming := {
    donor := donor, twinId := (wordAt inp 2).field 13 0, probeAddr := probe, reply := m, tag := tag, at_ := 2,
    regions := [], shares := [], keys := [], epochs := [], base := {}, valid := [], serial := 0, twinLen := 0 }
  let s := { s with pair := { s.pair with forming := some f } }.enterHold 3 0x0B
  if !s.linkUp then s.leaveHold 0x0B
  else (s.control (.identity donor s.pairId s.ctrlId Config.serial s.addr.served.len s.highestRegion)).formStep

/-- PAIR_FORM (R118, R119): in the background. -/
def execPairForm (m : Mbx) (inp : List Word) (s : State) : Ans :=
  .next (s.command m ⟨0xC101, false, true, false, false⟩ (m.len == 32) true (fun tag s =>
    match s.formRefused inp with
    | (s, true) => (s, .now .invalid)
    | (s, false) => (s.pairFormStart m tag inp, .later)))

/-- The pair record that step 6 gives this side (R120). -/
def State.newRecord (s : State) (f : Forming) : PairRec :=
  if s.isBow then ⟨s.pairId, f.twinId, s.ctrlId, f.serial, Config.serial⟩ else ⟨s.pairId, s.ctrlId, f.twinId, Config.serial, f.serial⟩

/-- The configuration tables go to the vault as TABLE records (R293). -/
def State.saveTables (s : State) : State :=
  { s with vlt := { s.vlt with nand := { s.vlt.nand with tables := { s.vlt.nand.tables with
      regions := s.addr.regions, shares := s.addr.shares, keys := s.cmd.keys, ext := s.pair.ext, extBase := s.pair.base,
      pair := s.pair.record, tenants := s.tier.tenants } } } }

/-- The recipient's regions, valid map and keys become the donor's, as one change (R119). -/
def State.takeDonor (s : State) (f : Forming) : State :=
  let regions := SMap.ofCells f.regions
  let zero := s.cmd.keys.filter (fun k _ => k == 0)
  let keys := f.keys.foldl (fun (m : SMap KeySlot) (k : Nat × BitVec 512 × BitVec 32) => m.insert k.1 ⟨k.2.1, k.2.2⟩) zero
  let gone := (s.addr.regions.values ++ regions.values).flatMap Region.extents
  let s := s.loseExtents gone f.valid
  let s := { s with addr := { s.addr with regions := regions, shares := SMap.ofCells f.shares }, cmd := { s.cmd with keys := keys },
                    pair := { s.pair with ext := SMap.ofCells f.epochs, base := f.base } }
  regions.values.foldl (fun s r => s.enterTier r) s

/-- PAIR_FORM_COMPLETE (R118 step 6, R119, R120): both sides leave HOLD for SERVE, with resync of every allocated extent. -/
def execPairFormComplete (s : State) : Ans :=
  .next (match s.pair.forming with
    | none => s
    | some f =>
      if f.at_ ≠ 6 || s.mode.mode != .hold || !s.linkUp then s
      else
        let s := if f.donor then s else s.takeDonor f
        let r := s.newRecord f
        let xs := (s.addr.regions.values.flatMap Region.extents).eraseDups
        let s := { s with
          pair := { s.pair with
            record := some r, twinTag := some r.tag, probeAddr := f.probeAddr, forming := none, twinIdent := none, lost := false, departed := false,
            resync := xs.foldl (fun (m : SMap Bool) x => m.insert x f.donor) {},
            resyncEpoch := xs.foldl (fun (m : SMap Nat) x => m.insert x (s.extPair x).epoch) {},
            resyncAt := {}, resyncing := true, resyncDone := 0, resyncLines := 0, resyncStart := s.now },
          cmd := { s.cmd with replay := [] } }
        ((s.saveTables.finish f.tag (.ok [])).leaveHold 0x0B).resyncFalls)

/-- PAIR_STATUS (R432). -/
def execPairStatus (m : Mbx) (_inp : List Word) (s : State) : Ans :=
  .next (s.query m ⟨0xC100, true, false, false, true⟩ (m.len == 0) (fun s =>
    let twin := if s.pair.twinState = 7 then 0x3FFF else (match s.pair.record with
      | some r => if s.isBow then r.strokeId else r.bowId
      | none => match s.pair.twinIdent with
        | some i => i.2.2.1
        | none => 0x3FFF)
    .ok [s.sysPairStatus, s.sysPair, w32 s.pairId, w32 twin, w32 (s.twl.pathA.rtt % 65536 + s.twl.pathB.rtt % 65536 * 65536),
      w32 s.lagOldest, w32 s.pair.resync.size, w32 s.pairProto]))

end Sys2Proof.Machine
end

