-- ==== Sys2Proof/Machine/Frames.lean ====
section
/-!
DEFINITION. Machine/Frames.lean: staged values, SHUTTER commits, frames, rewinds, the test strip, plain register writes and unlocks
(15_registers.md, R450 to R476; 16_config_flash.md, R489; 14_control.md, R435, R436).
-/
namespace Sys2Proof.Machine

/-! ## Staged and committed values (R456, R457, R467) -/

/-- The RWS bits of the register at an address. -/
def rwsMask (a : Nat) : Word := match regAt a with | some r => r.maskOf [.rws] | none => 0

/-- Their reset word. -/
def rwsReset (a : Nat) : Word := resetAt a &&& rwsMask a

/-- The staged value of a register's RWS fields. -/
def State.stagedAt (s : State) (a : Nat) : Word := s.sht.staged.getD a (rwsReset a)

/-- The committed value of them. -/
def State.committedAt (s : State) (a : Nat) : Word := s.sht.committed.getD a (rwsReset a)

/-- The SHUTTER group of a register (R450). -/
def groupOf (a : Nat) : Nat := match blockOfPage (a / 65536) with | some b => b.group | none => 31

/-- The bits of a register that take effect at the next entry to RESTORE (R467). -/
def deferredMask (a : Nat) : Word :=
  if a / 65536 = 0x23 then (if Reg.TM_XMAP_GEOM ≤ a then Word.ofField 31 0 (2 ^ 32 - 1) else 0)
  else if 0x40 ≤ a / 65536 ∧ a / 65536 < 0x50 ∧ a % 65536 = 0 then Word.ofField 31 0 (2 ^ 32 - 1)
  else if a = 0x100000 ∨ a = 0x110000 then Word.ofField 31 0 (2 ^ 32 - 1)
  else if a = Reg.NET_CTL then 1
  else if a = Reg.NET_SPILL then Word.ofField 31 0 (2 ^ 32 - 1)
  else if 0x80 ≤ a / 65536 ∧ a / 65536 < 0xA0 ∧ a % 65536 = 0 then Word.ofField 31 0 (2 ^ 32 - 1)
  else 0

/-- Write staged bits (R456). -/
def State.stage (s : State) (a : Nat) (w : Word) : State :=
  { s with sht := { s.sht with staged := s.sht.staged.put (rwsReset a) a (w &&& rwsMask a) } }

/-- SHT_PENDING. -/
def State.shtPending (s : State) : Word :=
  (s.sht.staged.keys ++ s.sht.committed.keys).foldl (fun (w : Word) a =>
    if s.stagedAt a = s.committedAt a then w else w ||| BitVec.ofNat 32 (2 ^ groupOf a)) 0

/-- The committed values of these registers come into force; those of R467 only at RESTORE. -/
def State.enforce (s : State) (addrs : List Nat) (restore : Bool) : State :=
  addrs.foldl (fun s a =>
    let m := if restore then rwsMask a else rwsMask a &&& ~~~(deferredMask a)
    s.setReg a ((s.reg a &&& ~~~m) ||| (s.committedAt a &&& m))) s

/-- A port of a MAC whose mode changes goes down. -/
def State.ethPortDown (mac : Nat) (s : State) (p : Nat) : State := s.setEthPort mac p { s.ethPort mac p with link := false }

/-- A MAC whose E_CFG.MODE has changed takes its ports down and trains again. -/
def State.reactMac (old s : State) (mac : Nat) : State :=
  let a := Reg.E_CFG (macPage mac)
  if old.fld a Fld.E_CFG_MODE = s.fld a Fld.E_CFG_MODE then s
  else
    let s := (List.range 4).foldl (State.ethPortDown mac) s
    { s with net := { s.net with retrain := if s.net.retrain.contains mac then s.net.retrain else s.net.retrain ++ [mac] } }

/-- What follows from values that have changed (R158, R159, R217, R323). -/
def State.react (old s : State) : State :=
  let on := fun (t : State) a (f : Fld) => t.fld a f == 1
  let s := if on old Reg.LC_CTL Fld.LC_CTL_ENABLE == on s Reg.LC_CTL Fld.LC_CTL_ENABLE then s
    else s.cacheEnable (on s Reg.LC_CTL Fld.LC_CTL_ENABLE)
  let s := if on old Reg.TWL_CTL Fld.TWL_CTL_ENABLE == on s Reg.TWL_CTL Fld.TWL_CTL_ENABLE then s
    else s.twlEnable (on s Reg.TWL_CTL Fld.TWL_CTL_ENABLE)
  (List.range 8).foldl (State.reactMac old) s

/-! ## The checks of a commit (R464) -/

/-- A field of a register as staged. -/
def State.stagedFld (s : State) (a : Nat) (f : Fld) : Nat := (s.stagedAt a).field f.hi f.lo

/-- R66: the fabric group. -/
def State.quotaBad (s : State) : Bool :=
  let floor := fun n => s.stagedFld (Reg.FAB_TRK_QUOTA n) Fld.FAB_TRK_QUOTA_FLOOR
  let ceil := fun n => max 1 (s.stagedFld (Reg.FAB_TRK_QUOTA n) Fld.FAB_TRK_QUOTA_CEIL)
  decide (4096 < sumL ((List.range 8).map floor)) || (List.range 8).any (fun n => decide (ceil n < floor n)) || decide (floor 3 < 64)

/-- R198: the line-cache group. -/
def State.classesBad (s : State) : Bool :=
  let c := fun n => s.stagedAt (Reg.LC_CLASS n)
  let ten := fun n => (c n).field Fld.LC_CLASS_TENANT.hi Fld.LC_CLASS_TENANT.lo
  let en := fun n => (c n).field Fld.LC_CLASS_TEN_EN.hi Fld.LC_CLASS_TEN_EN.lo == 1
  (List.range 16).any (fun i => (List.range i).any (fun j => en i && en j && ten i == ten j))

/-- Output nn of R60 and its base bit, for DDR5 with this CH_BITS. -/
def ddrOutputs (cb : Nat) : List (Nat × Nat) :=
  (0, 6) :: ((List.range cb).map (fun k => (1 + k, 9 + k)) ++ (List.range 3).map (fun k => (5 + k, 9 + cb + k)) ++
    (List.range 2).map (fun k => (8 + k, 12 + cb + k)))

/-- Outputs of HBM and their base bits (R60). -/
def hbmOutputs : List (Nat × Nat) := (List.range 10).map (fun k => (16 + k, 6 + k))

/-- The masks of one memory break R61: `width` populated home-address bits. -/
def State.masksBad (s : State) (outs : List (Nat × Nat)) (width : Nat) : Bool :=
  outs.any (fun o =>
    let m := s.stagedFld (Reg.TM_XMAP_LO o.1) Fld.TM_XMAP_LO_MASK_LO * 64 + s.stagedFld (Reg.TM_XMAP_HI o.1) Fld.TM_XMAP_HI_MASK_HI * 2 ^ 32
    let has := fun b => m / 2 ^ b % 2 == 1
    !has o.2 || outs.any (fun p => p.1 != o.1 && has p.2) || decide (2 ^ width ≤ m))

/-- R61: the tier-manager group. -/
def State.mapBad (s : State) : Bool :=
  let g := fun (f : Fld) => s.stagedFld Reg.TM_XMAP_GEOM f
  let rows := g Fld.TM_XMAP_GEOM_ROW_BITS
  let cb := g Fld.TM_XMAP_GEOM_CH_BITS
  let rb := g Fld.TM_XMAP_GEOM_RANK_BITS
  let width := 14 + cb + (if g Fld.TM_XMAP_GEOM_X8 = 1 then 4 else 5) + rb + rows
  (rows != 16 && rows != 17) || decide (4 < cb) || decide (5 < rb) || s.masksBad (ddrOutputs cb) width || s.masksBad hbmOutputs 34

/-- R223: data rates of the populated DDR5 channels. -/
def State.ratesBad (s : State) : Bool :=
  let pop := s.addr.served.pop
  let rates := (List.range pop.channels).map (fun n => s.stagedFld (Reg.DC_CFG (chPage n)) Fld.DC_CFG_RATE)
  rates.any (fun r => r != rates.headD 0 || r == 0 || decide (4 < r) || (r == 4 && pop.dpc == 2))

/-- R229: write-queue watermarks. -/
def State.marksBad (s : State) : Bool :=
  (List.range 48).any (fun n =>
    let low := s.stagedFld (Reg.DC_WQ (chPage n)) Fld.DC_WQ_LOW
    let high := s.stagedFld (Reg.DC_WQ (chPage n)) Fld.DC_WQ_HIGH
    decide (high ≤ low) || decide (64 < high))

/-- R158: the twin link is not disabled while the pair needs it. -/
def State.twlBad (s : State) : Bool :=
  s.stagedFld Reg.TWL_CTL Fld.TWL_CTL_ENABLE == 0 && s.paired && (s.mode.mode == .serve || s.mode.mode == .restore)

/-- MAX_CONN as it acts. -/
def maxConnOf (v : Nat) : Nat := clamp 8192 1048576 v

/-- R33: the served range that MAX_CONN leaves. -/
def State.spillBad (s : State) : Bool :=
  let n := s.stagedFld Reg.NET_SPILL Fld.NET_SPILL_MAX_CONN
  n != (s.committedAt Reg.NET_SPILL).field Fld.NET_SPILL_MAX_CONN.hi Fld.NET_SPILL_MAX_CONN.lo &&
    decide (servedLen s.addr.served.pop s.flt.stackList (maxConnOf n) / extentBytes < s.highestRegion)

/-- R368: a port mode that leaves an LD in use without a function, or is reserved. -/
def State.portBad (s : State) (p : Nat) : Bool :=
  let a := (0x10 + p) * 65536
  let mode := s.stagedFld a Fld.CX_CFG_MODE
  let lds := s.stagedFld a Fld.CX_CFG_LDS
  let lost := fun ld => ld / 16 == p && !ldExists mode lds ld
  mode == 3 || s.addr.regions.values.any (fun r => !r.noLd && lost r.ownerLd) || s.addr.shares.values.any (fun h => lost h.ld)

/-- The cause by which the groups of a mask are refused, in ascending group number (R464, step 5). -/
def State.groupCause (s : State) (mask : Word) : Option Nat :=
  let on := fun g => mask.getLsbD g
  if on 1 && s.quotaBad then some 3
  else if on 2 && s.classesBad then some 4
  else if on 3 && s.mapBad then some 2
  else if on 4 && s.ratesBad then some 2
  else if on 4 && s.marksBad then some 3
  else if on 7 && s.twlBad then some 5
  else if on 8 && s.spillBad then some 1
  else if (on 9 && s.portBad 0) || (on 10 && s.portBad 1) then some 5
  else none

/-- SHT_STATUS.BUSY (R468, R476). -/
def State.shtBusy (s : State) : Bool := s.sht.writing.isSome || s.sht.autoPending.isSome

/-- SHT_STATUS.STRIP (R475, R476). -/
def State.shtStrip (s : State) : Bool := s.sht.strip.isSome || s.sht.autoPending.isSome

/-- The cause by which a commit of a mask is refused (R464); none: it is accepted. -/
def State.commitCause (s : State) (mask : Word) : Option Nat :=
  if mask = 0 || decide (2 ^ 13 ≤ mask.toNat) then some 8
  else if s.mode.mode == .preserve then some 5
  else if s.shtBusy then some 6
  else if s.sht.strip.isSome then some 7
  else s.groupCause mask

/-- A commit or rewind is refused (R466). -/
def State.shtReject (s : State) (cause : Nat) : State :=
  let s := s.bump Ctr.SHT_CNT_REJECT
  if cause = 6 then s else { s with sht := { s.sht with result := 2, cause := cause } }

/-- One is applied (R466). -/
def State.shtApplied (s : State) : State :=
  { s.bump Ctr.SHT_CNT_COMMIT with sht := { s.sht with result := 1, cause := 0 } }

/-! ## Frames (R468 to R473) -/

/-- A frame the controller works with. -/
def State.frame (s : State) (n : Nat) : Option Frame := s.sht.live.find? (fun f => f.num == n)

/-- Its committed values; frame 0 holds the reset values (R469). -/
def State.frameValues (s : State) (n : Nat) : SMap Word := ((s.frame n).map (·.values)).getD {}

/-- A frame is in flash; frame 0 needs none. -/
def State.frameInFlash (s : State) (n : Nat) : Bool := n == 0 || s.sht.frames.any (fun f => f.num == n)

/-- Give a frame its state, in flash by a force-log entry where it is kept or rejected (R489, R490). -/
def State.markFrame (s : State) (n : Nat) (st : FrameState) : State :=
  let set := fun (l : List Frame) => l.map (fun f => if f.num = n then { f with state := st } else f)
  let logged := s.sht.frames.any (fun f => f.num == n)
  let s := { s with sht := { s.sht with live := set s.sht.live, frames := set s.sht.frames } }
  if logged then (match st with | .kept => s.forceLog 0x11 2 n | .rejected => s.forceLog 0x11 3 n | .testing | .accepted => s) else s

/-- The length of a test strip in ns. -/
def State.stripNs (s : State) : Nat := s.fldIn Reg.SHT_STRIP Fld.SHT_STRIP_SECONDS 1 60 * 1000000000

/-- The frames kept: the newest four, and one that an automatic rewind may still go to (R469, R474). -/
def keepFrames (l : List Frame) (old : Nat) : List Frame := l.take 4 ++ (l.drop 4).filter (fun f => f.num == old)

/-- A commit (R464 to R469); the number of the new frame, or the cause of its refusal. -/
def State.commit (s : State) (mask : Word) : State × Except Nat Nat :=
  match s.commitCause mask with
  | some c => (s.shtReject c, .error c)
  | none =>
    let inMask := fun a => mask.getLsbD (groupOf a)
    let addrs := ((s.sht.staged.keys ++ s.sht.committed.keys).eraseDups).filter inMask
    let committed := addrs.foldl (fun (m : SMap Word) a => m.put (rwsReset a) a (s.stagedAt a)) s.sht.committed
    let old := s.sht.inForce
    let n := (s.sht.highest + 1) % 2 ^ 30
    let f : Frame := ⟨n, s.now, mask, .testing, committed⟩
    let t := { s with sht := { s.sht with
      committed := committed, live := keepFrames (f :: s.sht.live) old, inForce := n, highest := n, writing := some n,
      strip := some (s.now + s.stripNs, old) } }
    (((State.react s (t.enforce addrs false)).shtApplied).pump, .ok n)

/-- Go to a frame (R473): its values are staged and committed in every group, and it is recorded in force. -/
def State.toFrame (s : State) (n : Nat) : State :=
  let v := s.frameValues n
  let addrs := (s.sht.committed.keys ++ v.keys).eraseDups
  let t := { s with sht := { s.sht with staged := v, committed := v, inForce := n, strip := none } }
  let t := State.react s (t.enforce addrs false)
  let t := if t.frameInFlash n then { t.forceLog 0x10 0 n with sht := { t.sht with recorded := n, unsaved := false } } else t
  t.shtApplied.pump

/-- A rewind asked for (R472, R473): the number of the frame now in force, or the cause of its refusal. -/
def State.rewind (s : State) (back : Nat) : State × Except Nat Nat :=
  let shown := s.sht.live.take 4
  let target := ((shown.dropWhile (fun f => f.num != s.sht.inForce)).drop back).head?
  if s.mode.mode == .preserve then (s.shtReject 5, .error 5)
  else if s.shtBusy then (s.shtReject 6, .error 6)
  else match target with
  | none => (s.shtReject 9, .error 9)
  | some f =>
    if f.state == .rejected then (s.shtReject 9, .error 9)
    else
      let s := match s.sht.strip with
        | some (_, old) => (s.markFrame s.sht.inForce .rejected).markFrame old .kept
        | none => s.markFrame s.sht.inForce .kept
      (s.toFrame f.num, .ok f.num)

/-! ## The test strip (R474 to R476) -/

/-- A fault event of class MAJOR or CRITICAL meets the strip (R474). -/
def State.stripFault (s : State) (cls : Nat) : State :=
  match s.sht.strip with
  | none => s
  | some (_, old) =>
    if cls < Cls.major || s.sht.autoPending.isSome then s
    else
      let s := (s.markFrame s.sht.inForce .rejected).setFld Reg.SHT_STATUS Fld.SHT_STATUS_AUTO 1
      { s.bump Ctr.SHT_CNT_AUTO_REWIND with sht := { s.sht with autoPending := some old } }

/-- A pending automatic rewind is made where it can be (R474, R476). -/
def State.autoTry (s : State) : State :=
  match s.sht.autoPending with
  | none => s
  | some old =>
    if s.sht.writing.isSome then s
    else
      let go := fun (s : State) => { s with sht := { s.sht with autoPending := none } }.toFrame old
      match s.mode.mode with
      | .preserve => s
      | .serve | .solo => if s.mode.transit then s else (go (s.enterHold 1 0x0B)).leaveHold 0x0B
      | .restore | .hold | .standby => go s

/-- SHT_COMMIT_WRITE (R464). -/
def execShtCommitWrite (groups : Word) (s : State) : Ans := .next (if s.pwr.core then (s.commit groups).1 else s)

/-- SHT_REWIND_WRITE (R472). -/
def execShtRewindWrite (back : Nat) (s : State) : Ans :=
  .next (if s.pwr.core && back % 4 != 0 then (s.rewind (back % 4)).1 else s)

/-- FRAME_WRITE_DONE (R468, R470): the frame is in flash and recorded in force, or stays unsaved. -/
def State.frameWritten (s : State) (pass : Bool) : State :=
  match s.sht.writing with
  | none => s
  | some n =>
    let s := { s with sht := { s.sht with writing := none } }
    let s := match pass, s.frame n with
      | true, some f =>
        { s.forceLog 0x10 0 n with sht := { s.sht with
          frames := keepFrames (f :: s.sht.frames) (match s.sht.strip with | some (_, old) => old | none => s.sht.inForce),
          recorded := n, unsaved := false } }
      | _, _ => { s with sht := { s.sht with unsaved := true } }
    s.autoTry

/-- FRAME_WRITE_DONE (R468). -/
def execFrameWriteDone (pass : Bool) (s : State) : Ans := .next (s.frameWritten pass)

/-- FRAME_WRITE_ABANDONED (R489): it counts as a failed frame write. -/
def execFrameWriteAbandoned (s : State) : Ans := .next (s.frameWritten false)

/-- TEST_STRIP_END (R475): the frame is accepted, the one it replaced kept. -/
def execTestStripEnd (s : State) : Ans :=
  .next (match s.sht.strip with
    | none => s
    | some (_, old) =>
      if s.sht.autoPending.isSome then s
      else
        let s := (s.markFrame s.sht.inForce .accepted).markFrame old .kept
        { s with sht := { s.sht with strip := none } })

/-- AUTO_REWIND_RETRY (R476). -/
def execAutoRewindRetry (s : State) : Ans := .next s.autoTry

/-! ## Loading at RESTORE (R471) -/

/-- Load the frame recorded in force into both views, before training; a strip not ended ends with its frame accepted. -/
def State.loadFrame (s : State) : State :=
  let n := s.sht.recorded
  let s := { s with sht := { s.sht with live := s.sht.frames, strip := none, autoPending := none, writing := none, unsaved := false, inForce := n } }
  let s := match s.frame n with
    | some f =>
      if f.state == FrameState.testing then
        let s := s.markFrame n .accepted
        match (s.sht.live.dropWhile (fun (g : Frame) => g.num != n)).tail.find? (fun (g : Frame) => g.state == FrameState.accepted) with
        | some g => s.markFrame g.num .kept
        | none => s
      else s
    | none => s
  let v := s.frameValues n
  let s := { s with sht := { s.sht with staged := v, committed := v } }
  let s := s.enforce v.keys true
  let port := fun (p : Port) (a : Nat) => { p with
    mode := s.fld a Fld.CX_CFG_MODE, lds := s.fld a Fld.CX_CFG_LDS, ideReq := s.fld a Fld.CX_CFG_IDE_REQ == 1 }
  { s with
    cxl := { s.cxl with portA := port s.cxl.portA 0x100000, portB := port s.cxl.portB 0x110000 },
    net := { s.net with prot := s.fld Reg.NET_CTL Fld.NET_CTL_PROT == 1, maxConn := maxConnOf (s.fld Reg.NET_SPILL Fld.NET_SPILL_MAX_CONN),
                        mode := (List.range 8).map (fun m => s.fld (Reg.E_CFG (macPage m)) Fld.E_CFG_MODE) },
    lc := { s.lc with state := if s.fld Reg.LC_CTL Fld.LC_CTL_ENABLE = 1 then .enabled else .disabled } }

/-! ## The mailbox form (R435, R436) -/

/-- FRAME_COMMIT (R435). -/
def execFrameCommit (m : Mbx) (inp : List Word) (s : State) : Ans :=
  .next (s.simple m ⟨0xC600, false, true, false, false⟩ (m.len == 4) (fun s =>
    match s.commit (wordAt inp 0) with
    | (s, .ok n) => (s, .ok [w32 n])
    | (s, .error c) => (s, .cause (0x100 + c))))

/-- FRAME_REWIND (R435, R472). -/
def execFrameRewind (m : Mbx) (inp : List Word) (s : State) : Ans :=
  .next (s.simple m ⟨0xC601, false, true, false, false⟩ (m.len == 4) (fun s =>
    let w := wordAt inp 0
    if w.field 31 2 ≠ 0 || w.field 1 0 = 0 then (s, .invalid)
    else match s.rewind (w.field 1 0) with
      | (s, .ok n) => (s, .ok [w32 n])
      | (s, .error c) => (s, .cause (0x100 + c))))

/-- The entry of a frame (R436). -/
def State.frameEntry (s : State) (f : Frame) : List Word :=
  let code := if f.num = s.sht.inForce then (if s.sht.strip.isSome then 1 else 0)
    else if f.state == .rejected then 3 else 2
  w32 (f.num + code * 2 ^ 30) :: (lohi f.time ++ [f.groups])

/-- FRAME_LIST (R436): four entries, newest first; entries past the frames kept are 0. -/
def execFrameList (m : Mbx) (_inp : List Word) (s : State) : Ans :=
  .next (s.query m ⟨0xC602, false, false, false, false⟩ (m.len == 0) (fun s =>
    let l := (s.sht.live.take 4).flatMap s.frameEntry
    .ok (l ++ List.replicate (16 - l.length) 0)))

/-- Time left on the strip in ms. -/
def State.stripLeft (s : State) : Nat := match s.sht.strip with | some (t, _) => ceilDiv (t - s.now) 1000000 | none => 0

/-- FRAME_STATUS (R436). -/
def execFrameStatus (m : Mbx) (_inp : List Word) (s : State) : Ans :=
  .next (s.query m ⟨0xC603, false, false, false, true⟩ (m.len == 0) (fun s =>
    let e := match s.frame s.sht.inForce with
      | some f => s.frameEntry f
      | none => [w32 s.sht.inForce, 0, 0, 0]
    .ok (e ++ [w32 s.stripLeft])))

/-! ## Unlocks (R458 to R460) -/

/-- A write of SYS_UNLOCK.KEY (R458). -/
def State.unlockWrite (s : State) (who key : Nat) : State :=
  if key % 65536 = 0xD47E then { s with unlocks := { isOpen := s.unlocks.isOpen ||| BitVec.ofNat 5 (2 ^ who) } }
  else (s.relock who).bump Ctr.SYS_CNT_GUARD_REFUSED

/-- SYS_UNLOCK_WRITE (R458). -/
def execSysUnlockWrite (who key : Nat) (s : State) : Ans := .next (if s.pwr.core && decide (who < 5) then s.unlockWrite who key else s)

/-- UNLOCK_EXPIRED (R460): 100 ms after it opened. -/
def execUnlockExpired (who : Nat) (s : State) : Ans := .next (if who < 5 then s.relock who else s)

/-! ## Plain register writes (R10, R450 to R459) -/

/-- Registers whose write is a command of its own: REGISTER_WRITE leaves them alone. -/
def ownRow (a : Nat) : Bool :=
  a == Reg.SYS_UNLOCK || a == Reg.SYS_MODE_REQ || a == Reg.SYS_POOL || a == Reg.PWR_VCORE || a == Reg.SHT_COMMIT || a == Reg.SHT_REWIND ||
  a == Reg.TIM_CAP_CTL || a == Reg.VLT_ERASE || (decide (5 ≤ a / 65536) && decide (a / 65536 ≤ 8) && a % 65536 == 8) ||
  (decide (0x10 ≤ a / 65536) && decide (a / 65536 ≤ 0x11) && a % 65536 == 4) || a == Reg.TWL_PATH_CTL 0 || a == Reg.TWL_PATH_CTL 1

/-- The guarded part of a register write (R459, R96): whether its RWG fields take it, the unlock closed, a refusal counted. -/
def State.guardTakes (s : State) (who a : Nat) : Bool × State :=
  let (ok, s) := s.guarded who
  if ok && (a == Reg.SYS_PAIR || a == Reg.SYS_PAIR_ID) && !(s.mode.mode == .hold || s.mode.mode == .restore) then
    (false, s.bump Ctr.SYS_CNT_GUARD_REFUSED)
  else (ok, s)

/-- What a write clears or stores beside the register word: bits that stand in the block's own state. -/
def State.writeSide (s : State) (a : Nat) (w : Word) : State :=
  if a = Reg.FLS_PROT_A then { s with fls := { s.fls with stageA := w } }
  else if a = Reg.FLS_PROT_B then { s with fls := { s.fls with stageB := w } }
  else if a = Reg.FLS_PROT_INFO then { s with fls := { s.fls with stageInfo := w.setWidth 8 } }
  else if (a / 65536 = 0x10 ∨ a / 65536 = 0x11) ∧ (a % 65536 = 0x10 ∨ a % 65536 = 0x14) ∧ w.getLsbD 12 then
    let p := a / 65536 - 0x10
    let k := a % 65536 / 4 - 4
    s.setLink p k { s.link p k with degraded := false }
  else if 5 ≤ a / 65536 ∧ a / 65536 ≤ 8 ∧ a % 65536 = 0x14 ∧ w.getLsbD 31 then
    let n := a / 65536 - 5
    s.setSb n { s.sb n with notify := none }
  else s

/-- A 32-bit write through the live view (R10, R451, R452, R456, R459). -/
def State.writeLive (s : State) (who a : Nat) (w : Word) : State :=
  match regAt a with
  | none => s
  | some r =>
    let has := fun (l : List Acc) => r.maskOf l != 0
    if ownRow a then s
    else
      let (ok, s) := if has [.rwg] then s.guardTakes who a else (false, s)
      if a = Reg.EC_TEST_CTL ∧ 1 ≤ w.field 2 0 ∧ w.field 2 0 ≤ 4 then s
      else if a = Reg.LC_OP_CMD then s.lcOp (w.field 2 0) (w.field 11 8) (decide (5 < w.field 2 0))
      else if a = Reg.CRY_BOOT then (if ok then s.forceLog 0x12 0 (w.field 0 0) else s)
      else if a % 65536 = 0x60 ∧ 0x40 ≤ a / 65536 ∧ a / 65536 < 0x80 then s
      else
        let s := if has [.rws] then s.bump Ctr.SHT_CNT_LIVE_WR else s
        let s := if has [.rsc] then s.writeRsc a w true else s
        let take := (r.maskOf [.rw, .wo]) ||| (if ok then r.maskOf [.rwg] else 0)
        let clear := r.maskOf [.w1c] &&& w
        (s.setReg a (((s.reg a &&& ~~~take) ||| (w &&& take)) &&& ~~~clear)).writeSide a w

/-- A 32-bit write to BAR2 (R451, R456): the page's view and image. -/
def State.writeReg (s : State) (who addr : Nat) (w : Word) : State :=
  match blockOfPage (addr / 65536) with
  | none => s
  | some b =>
    let a := addr / 65536 * 65536 + addr % 2 ^ b.w
    if addr % 65536 < 32768 then s.writeLive who a w
    else if rwsMask a = 0 then s
    else s.stage a w

/-- REGISTER_WRITE (R10, R450 to R459): `width` bytes; the unprivileged view drops every write. -/
def execRegisterWrite (who width addr : Nat) (data : BitVec 64) (s : State) : Ans :=
  .next (
    if !s.pwr.core || !decide (who < 5) then s
    else if width < 4 then s.bump Ctr.SYS_CNT_NARROW_WR
    else if width = 4 ∧ addr % 4 = 0 then s.writeReg who addr (data.setWidth 32)
    else if width = 8 ∧ addr % 8 = 0 then (s.writeReg who addr (data.setWidth 32)).writeReg who (addr + 4) ((data >>> 32).setWidth 32)
    else s)

end Sys2Proof.Machine
end

