-- ==== Sys2Proof/Machine/Fault.lean ====
section
/-!
DEFINITION. Machine/Fault.lean: the fault manager, targeted self-tests, engines and the cox pair (13_faults.md).
-/
namespace Sys2Proof.Machine

/-! ## Units (R395) -/

/-- The kind of a unit ID. -/
def unitKind (u : Nat) : Nat := u / 2 ^ 24 % 256

/-- The instance of a unit ID. -/
def unitInst (u : Nat) : Nat := u % 2 ^ 24

/-- The channel of a channel unit or of a device of it: instance 0 to 47. -/
def unitChannel (u : Nat) : Option Nat :=
  match unitKind u with
  | 0x01 => if unitInst u < 16 then some (unitInst u) else none
  | 0x02 => if unitInst u < 32 then some (16 + unitInst u) else none
  | 0x04 => let i := unitInst u / 2 ^ 18; if i < 48 then some i else none
  | _ => none

/-- A unit is contained in another (R408). -/
def unitWithin (a b : Nat) : Bool :=
  match unitKind a, unitKind b with
  | 0x04, 0x01 | 0x04, 0x02 => (unitChannel a).map chUnit == some b
  | 0x02, 0x03 => unitInst a / 16 == unitInst b
  | 0x05, 0x06 => unitInst a / 16 == unitInst b
  | 0x0C, 0x0D => unitInst a / 8 == unitInst b
  | 0x11, 0x12 => unitInst a / 32 == unitInst b
  | _, _ => false

/-- Fault classes whose unit runs a targeted test of R403 (and a stall, whose acknowledging block is tested, R400). -/
def tested (code : Nat) : Bool :=
  [0x01, 0x02, 0x03, 0x04, 0x05, 0x06, 0x07, 0x08, 0x09, 0x0A, 0x0B, 0x0C, 0x0D, 0x0E, 0x0F, 0x10, 0x11, 0x14, 0x16, 0x17, 0x1A].contains code

/-! ## Recording (R394, R418) -/

/-- The counter of an event class. -/
def clsCounter (cls : Nat) : Nat :=
  if cls = 0 then Ctr.FLT_CNT_INFO else if cls = 1 then Ctr.FLT_CNT_MINOR else if cls = 2 then Ctr.FLT_CNT_MAJOR else Ctr.FLT_CNT_CRITICAL

/-- The privileged functions. -/
def State.privFns (s : State) : List Nat :=
  ([(0, 0), (0, 1), (1, 0), (1, 1)].flatMap (fun l => if (s.port l.1).hasLink l.2 then s.linkFuncs l.1 l.2 else [])).filter s.fnPrivileged

/-- Record an event (R394, R418): the logbook record, FLT_LAST, the counter of its class, the event logs of the privileged functions. `note` is 1
where a unit that passed its test returns. -/
def State.recordEvent (s : State) (e : FaultEv) (note : Nat) : State :=
  let s := s.logRec LogT.faultEvent Src.flt e.cls [w32 e.unit, w32 e.code, w32 note]
  let s := { s.bump (clsCounter e.cls) with flt := { s.flt with last := e } }
  s.privFns.foldl (fun s fn => s.event fn e.cls 1 e.unit e.code) s

/-! ## Slots (R407 to R410) -/

/-- The worse of two causes (R408): that of the higher class. -/
def worse (a : Nat × Nat) (b : Nat × Nat) : Nat × Nat := if a.2 < b.2 || (a.2 = b.2 && a.1 < b.1) then b else a

/-- Set a slot. -/
def State.setFlt (s : State) (k : Nat) (f : FltSlot) : State := { s with flt := { s.flt with slots := s.flt.slots.insert k f } }

/-- Free a slot. -/
def State.freeFlt (s : State) (k : Nat) : State := { s with flt := { s.flt with slots := s.flt.slots.erase k } }

/-- Ways of a slice out of allocation. -/
def State.waysOff (s : State) (slice : Nat) : BitVec 16 := s.lc.wayOff.getD slice 0

/-- Set a way's bit in LC_WAYOFFnn (R197). -/
def State.setWayOff (s : State) (slice way : Nat) (off : Bool) : State :=
  let b : BitVec 16 := BitVec.ofNat 16 (2 ^ way)
  let w := if off then s.waysOff slice ||| b else s.waysOff slice &&& ~~~b
  { s with lc := { s.lc with wayOff := s.lc.wayOff.put 0 slice w } }

/-- The containment of a unit (R407): a way is taken out of allocation, a slice is bypassed; a channel is FROZEN and an engine parked by what
reported them. -/
def State.contain (s : State) (unit : Nat) : State :=
  let i := unitInst unit
  match unitKind unit with
  | 0x05 => if i < 1024 then s.setWayOff (i / 16) (i % 16) true else s
  | 0x06 => if i < 64 && !s.flt.bypass.contains i then { s with flt := { s.flt with bypass := s.flt.bypass ++ [i] } } else s
  | _ => s

/-- A line lost in the cache (R195): a clean one is dropped; a dirty one comes from the twin, from the vault image outside the window, else it is
poisoned. -/
def State.lostHeld (s : State) (line : Nat) : State :=
  match s.held line with
  | none => s
  | some (_, w) =>
    let s := s.dropHeld line
    if !w.d then s
    else if s.mirrored then s.refetchStart line
    else if s.windowHas (leafOf line) then s.refetchPoison line
    else s.setRefetch line (some 1)

/-- The instance of a row that a repair asked for by fault handling works on: the row of the capture (R406). -/
def State.capRow (s : State) (inst dev : Nat) : Option RepairedRow :=
  (s.chan inst).capAt.map (fun c => ⟨inst, c.1.sc, c.1.rank, c.1.bg, c.1.ba, dev, c.1.row⟩)

/-- The tag of a repair that fault handling asked for: none of a command. -/
abbrev noTag : Nat := 2 ^ 64

/-- A row repair asked for by fault handling (R406); where none can run the channel is retired. -/
def State.autoRepair (s : State) (inst dev : Nat) (row : Bool) : State :=
  match s.capRow inst dev with
  | some r => if s.ec.repair.isSome then s.retireChannel inst
    else s.startRepair { row := r, hard := false, reply := ⟨0, false, 0⟩, tag := noTag, auto := some row }
  | none => s.retireChannel inst

/-- The action on a lasting memory fault of a FROZEN channel (R406). -/
def State.actChannel (s : State) (inst code : Nat) (row : Bool) (dev : Nat) : State :=
  if (s.chan inst).state != .frozen then s.unitDone (chUnit inst)
  else if code = 0x05 || code = 0x06 || (s.chan inst).capCause ≠ 1 then s.retireChannel inst
  else if row then s.autoRepair inst dev true
  else
    let s := s.retireLine inst
    if (s.chan inst).state == .frozen then s.autoRepair inst dev false else s

/-- The mark that a device unit stands for (R395, R259). -/
def unitMark (u : Nat) : Mark :=
  let i := unitInst u
  ⟨i / 2 ^ 18 % 64, i / 2 ^ 17 % 2, i / 2 ^ 9 % 256, i / 8 % 64⟩

/-- A lasting device is marked, and its channel released (R406). -/
def State.actDevice (s : State) (unit : Nat) : State :=
  let m := unitMark unit
  let s := if s.ec.marks.any m.same then s
    else ({ s with ec := { s.ec with marks := s.ec.marks ++ [m] } }.bump Ctr.EC_CNT_MARK).markRecord m true
  if (s.chan m.inst).state == .frozen then s.releaseChannel m.inst 1 else s

/-- The eight of an engine unit. -/
def State.eight (s : State) (k : Nat) : Eight := s.flt.eights.getD k {}

/-- Set an eight. -/
def State.setEight (s : State) (k : Nat) (e : Eight) : State := { s with flt := { s.flt with eights := s.flt.eights.put {} k e } }

/-- A lasting slice is bypassed (R201, R396): its lines are lost to the cache. -/
def State.loseSlice (s : State) (slice : Nat) : State :=
  (s.heldLines.filter (fun l => sliceOf l == slice)).foldl State.lostHeld (s.contain (unitId 0x06 slice))

/-- Handshake channels whose acknowledging block is this unit are reset and resume (R400). -/
def State.resumeStall (s : State) (unit : Nat) : State :=
  { s with flt := { s.flt with channels := s.flt.channels.filter (fun c => c.2 != unit) } }

/-- Dies declared lost (R291). -/
def State.loseDies (s : State) (l : List Nat) : State :=
  { s with vlt := { s.vlt with nand := { s.vlt.nand with lost := s.vlt.nand.lost ++ l.filter (fun d => !s.vlt.nand.lost.contains d) } } }

/-- The action of R406 on a lasting unit. A block with neither spare nor bypass makes the controller depart (R401). -/
def State.actUnit (s : State) (unit code : Nat) (row : Bool) (dev : Nat) : State :=
  let i := unitInst unit
  match unitKind unit with
  | 0x01 | 0x02 => match unitChannel unit with
    | some inst => s.actChannel inst code row dev
    | none => s
  | 0x04 => (s.actDevice unit).netRun
  | 0x05 =>
    let s := s.contain unit
    if i < 1024 && decide (4 ≤ ((List.range 16).filter (fun w => (s.waysOff (i / 16)).getLsbD w)).length) && !s.flt.bypass.contains (i / 16) then
      s.report (unitId 0x06 (i / 16)) 0x0B Cls.major
    else s
  | 0x06 => (s.loseSlice i).resumeStall unit
  | 0x07 =>
    let e := s.eight (i / 8)
    (if e.parked.contains (i % 8) then
      s.setEight (i / 8) { e with parked := e.parked.filter (· != i % 8), retired := e.retired ++ [i % 8] }
    else s).resumeStall unit
  | 0x0B => { s with flt := { s.flt with aesSingle := s.flt.aesSingle ||| BitVec.ofNat 8 (2 ^ i) } }.resumeStall unit
  | 0x11 => s.loseDies [i]
  | 0x12 => s.loseDies ((List.range 32).map (fun k => 32 * i + k))
  | 0x08 => { s with flt := { s.flt with cox := .stopped } }.faultOff
  | _ => if code = 0x0D then s.faultOff else s

/-- Which handlings keep their slot after the action is begun: those of a channel until it is released or retired. -/
def State.stillHeld (s : State) (unit : Nat) : Bool :=
  match unitKind unit, unitChannel unit with
  | 0x01, some i | 0x02, some i => (s.chan i).state == .frozen
  | _, _ => false

/-- The handling in a slot acts (R405, R406). -/
def State.actSlot (s : State) (k : Nat) (row : Bool) (dev : Nat) : State :=
  match s.flt.slots.find? k with
  | none => s
  | some f =>
    let s := (s.bump Ctr.FLT_CNT_LASTING).setFlt k { f with stage := 4, lasting := true }
    let s := s.actUnit f.unit f.code row dev
    if s.stillHeld f.unit then s else s.freeFlt k

/-- A handling escalates (R408, R410). -/
def State.escalate (s : State) (k : Nat) (f : FltSlot) : State := (s.bump Ctr.FLT_CNT_ESCALATED).setFlt k { f with escalated := true }

/-- The unit has had RECUR_N transient events of the class within RECUR_H hours (R405). -/
def State.recurs (s : State) (unit code : Nat) : Bool :=
  let h := max 1 (s.fld Reg.FLT_CTL Fld.FLT_CTL_RECUR_H)
  let n := max 1 (s.fld Reg.FLT_CTL Fld.FLT_CTL_RECUR_N)
  decide (n ≤ (s.flt.transient.filter (fun t => t.1 == unit && t.2.1 == code && decide (s.now ≤ t.2.2 + h * 3600000000000))).length)

/-- Put an event in the queue: by class, CRITICAL first, and then by arrival (R407). -/
def queueIn (e : FaultEv) (q : List FaultEv) : List FaultEv :=
  q.takeWhile (fun x => decide (e.cls ≤ x.cls)) ++ e :: q.dropWhile (fun x => decide (e.cls ≤ x.cls))

/-- A free slot. -/
def State.freeSlot (s : State) : Option Nat := (List.range 8).find? (fun k => !s.flt.slots.has k)

/-- A handling opens in a slot (R407): its test begins, or its action where the fault recurs (R405). -/
def State.openSlot (s : State) (k : Nat) (e : FaultEv) : State :=
  let s := s.setFlt k ⟨e.unit, e.code, e.cls, 2, false, false⟩
  if s.recurs e.unit e.code then s.actSlot k false 0 else s

/-- An event finds no slot free (R407, R409). -/
def State.queueEvent (s : State) (e : FaultEv) : State :=
  if s.flt.queue.length < 64 then { s with flt := { s.flt with queue := queueIn e s.flt.queue } }
  else ({ s.bump Ctr.FLT_CNT_OVERFLOW with flt := { s.flt with fenced := s.flt.fenced ++ [e] } }).logRec LogT.overflowFault Src.flt Cls.critical
    [w32 e.unit, w32 e.code]

/-- A tested fault is handled (R407 to R409). -/
def State.handle (s : State) (e : FaultEv) : State :=
  match s.flt.slots.cells.find? (fun c => c.2.unit == e.unit || unitWithin e.unit c.2.unit) with
  | some (k, f) =>
    let w := worse (f.code, f.cls) (e.code, e.cls)
    let s := s.escalate k { f with code := w.1, cls := w.2 }
    if s.flt.cox == .running then s.actSlot k false 0 else s
  | none =>
    let s := s.contain e.unit
    match s.freeSlot with
    | some k => if s.flt.queue.isEmpty then s.openSlot k e else s.queueEvent e
    | none => s.queueEvent e

/-- Handlings that depend on a unit that failed escalate (R410): those that read from the twin, at the twin's loss; a lane's, at its path's. -/
def State.dependants (s : State) (code : Nat) : State :=
  let hit := fun (f : FltSlot) => !f.escalated &&
    ((code == 0x13 && [0x03, 0x04, 0x05, 0x06, 0x09, 0x0B].contains f.code) || ((code == 0x12 || code == 0x13) && f.code == 0x11))
  (s.flt.slots.cells.filter (fun c => hit c.2)).foldl (fun s c => s.escalate c.1 c.2) s

/-! ## HBM stacks (R414) -/

/-- A stack fault: the stack's 16 instances are retired, and the repair table holds the stack. -/
def State.retireStack (s : State) (st : Nat) : State :=
  if s.flt.stackList.contains st then s
  else
    let s := { s with flt := { s.flt with stackList := s.flt.stackList ++ [st] } }
    let s := { s with vlt := { s.vlt with nand := { s.vlt.nand with tables := { s.vlt.nand.tables with stackList := s.flt.stackList } } } }
    (s.report (unitId 0x03 st) 0x06 Cls.critical).retireChannels ((List.range 16).map (fun k => 16 + 16 * st + k))

/-- A freeze of an HC instance counts toward a stack fault: four instances of a stack within 1 ms. -/
def State.stackFreeze (s : State) (inst : Nat) : State :=
  let st := (inst - 16) / 16
  let l := (s.flt.hbmFreezes.filter (fun f => decide (s.now ≤ f.2.2 + 1000000) && f.2.1 != inst)) ++ [(st, inst, s.now)]
  let s := { s with flt := { s.flt with hbmFreezes := l } }
  if 4 ≤ (l.filter (fun f => f.1 == st)).length then s.retireStack st else s

/-- TEMPERATURE_POLL (R233, R414): of a DDR5 channel, or of an HBM stack, whose reading serves its 16 channels; two failed readings of a stack in a
row are a stack fault. -/
def execTemperaturePoll (inst : Nat) (temp : Option Nat) (s : State) : Ans :=
  .next (if inst < 16 then s.tempReading inst temp
    else if 48 ≤ inst then s
    else
      let st := (inst - 16) / 16
      let s := (List.range 16).foldl (fun s k => s.tempReading (16 + 16 * st + k) temp) s
      if (List.range 16).any (fun k => decide (2 ≤ (s.chan (16 + 16 * st + k)).tempFails)) then s.retireStack st else s)

/-! ## FAULT_EVENT (R394) -/

/-- What a fault class does at once beside its handling (R195, R414, R443). -/
def State.faultEffects (s : State) (e : FaultEv) (line : Nat) : State :=
  match e.code with
  | 0x06 | 0x04 => if unitKind e.unit = 0x02 && unitInst e.unit < 32 && Cls.major ≤ e.cls then s.stackFreeze (16 + unitInst e.unit) else s
  | 0x08 => s.bump Ctr.LC_CNT_SRAM_CORR
  | 0x09 => (s.bump Ctr.LC_CNT_SRAM_UNC).lostHeld line
  | 0x10 => s.bump Ctr.CRY_CNT_AES_MISMATCH
  | _ => s

/-- FAULT_EVENT (R394, R405, R407 to R410, R414, R418, R474): an event is recorded and handled; `at_` is the device line of a line-cache error. -/
def execFaultEvent (unit code cls at_ : Nat) (s : State) : Ans :=
  .next (if !s.pwr.core then s else
    let e : FaultEv := ⟨unit % 2 ^ 32, code % 2 ^ 16, cls % 4⟩
    let s := { s with flt := { s.flt with reports := s.flt.reports.erase e } }
    let s := s.recordEvent e 0
    let s := (s.stripFault e.cls).autoTry
    let s := s.faultEffects e at_
    let s := s.dependants e.code
    let s := if Cls.minor ≤ e.cls && tested e.code then s.handle e else s
    s.pump)

/-- FAULT_SLOT_DISPATCH (R407, R409): a free slot takes the head of the queue, and fenced units rejoin it while it holds fewer than 32. -/
def execFaultSlotDispatch (slot : Nat) (s : State) : Ans :=
  .next (if 8 ≤ slot || s.flt.slots.has slot || s.flt.cox != .running then s else
    let s := match s.flt.queue with
      | [] => s
      | e :: rest => ({ s with flt := { s.flt with queue := rest } }).openSlot slot e
    let room := 32 - s.flt.queue.length
    let back := s.flt.fenced.take room
    { s with flt := { s.flt with queue := back.foldl (fun q e => queueIn e q) s.flt.queue, fenced := s.flt.fenced.drop room } })

/-- A unit that passed its test returns to service (R405, R413, R416). -/
def State.returnUnit (s : State) (unit : Nat) : State :=
  let i := unitInst unit
  match unitKind unit with
  | 0x01 | 0x02 | 0x04 => match unitChannel unit with
    | some inst => if (s.chan inst).state == .frozen then (s.releaseChannel inst 1).netRun else s
    | none => s
  | 0x05 => if i < 1024 then s.setWayOff (i / 16) (i % 16) false else s
  | 0x06 => { s with flt := { s.flt with bypass := s.flt.bypass.filter (· != i) } }
  | 0x07 =>
    let e := s.eight (i / 8)
    if e.parked.contains (i % 8) then
      let e := { e with parked := e.parked.filter (· != i % 8) }
      s.setEight (i / 8) (if e.spare.isNone then { e with spare := some (i % 8) } else { e with active := e.active ++ [i % 8] })
    else s
  | _ => s

/-- A handling's test ends (R405): transient, or lasting. -/
def State.slotTested (s : State) (k : Nat) (f : FltSlot) (pass row : Bool) (dev : Nat) : State :=
  if !pass then s.actSlot k row dev
  else
    let s := s.bump Ctr.FLT_CNT_TRANSIENT
    let s := { s with flt := { s.flt with transient := s.flt.transient ++ [(f.unit, f.code, s.now)] } }
    let s := s.recordEvent ⟨f.unit, f.code, Cls.info⟩ 1
    ((s.freeFlt k).returnUnit f.unit).resumeStall f.unit

/-- SELFTEST_DONE (R400, R401, R403, R405, R406, R413): the test of a slot, or with slot 8 the one that SELFTEST_RUN asked for, ends: pass or fail;
whether a failing memory test failed on the row, and on which device; its time. Nothing of a handling ends while firmware restarts (R410, R447). -/
def execSelftestDone (slot : Nat) (pass row : Bool) (dev us : Nat) (s : State) : Ans :=
  .next (if s.flt.cox != .running || s.cmd.activate.isSome then s
    else if slot = 8 then
      match s.cmd.jobs.find? (fun j => j.opcode == 0xC503 && j.done.isNone) with
      | some j => s.finish j.tag (.ok [w32 (if pass then 0 else 1), w32 us])
      | none => s
    else match s.flt.slots.find? slot with
      | some f => if f.stage = 2 then (s.slotTested slot f pass row dev).pump else s
      | none => s)

/-- STUCK_OPERATION (R402): an entry older than AGE_MS outside HELD raises its event, once. -/
def execStuckOperation (id : Nat) (s : State) : Ans :=
  .next (match s.entry id with
    | none => s
    | some e =>
      if e.state == .held || s.flt.stuck.contains id then s
      else ({ s with flt := { s.flt with stuck := s.flt.stuck ++ [id] } }.bump Ctr.FLT_CNT_STUCK_OP).report
        (unitId 0 (e.src + 256 * e.state.code)) 0 Cls.major)

/-! ## Engines (R413) -/

/-- The eight whose spare takes the work of an engine: its own, else the first other that has one. -/
def State.spareEight (s : State) (k : Nat) : Option Nat :=
  (k :: (List.range 8).filter (· != k)).find? (fun j => (s.eight j).spare.isSome)

/-- ENGINE_FAULT (R413): the engine is parked for its test, its work goes to a spare, or to an active engine where none is left; `items` is the
number of its work items. -/
def execEngineFault (eight engine items : Nat) (s : State) : Ans :=
  .next (if 8 ≤ eight || !(s.eight eight).active.contains engine then s else
    let e := s.eight eight
    let first := e.spare.isSome
    let s := s.setEight eight { e with active := e.active.filter (· != engine), parked := e.parked ++ [engine] }
    let s := match s.spareEight eight with
      | none => s
      | some j =>
        let t := s.eight j
        s.setEight j { t with spare := none, active := t.active ++ t.spare.toList }
    let s := s.bumpBy Ctr.FLT_CNT_ENG_REISSUE items
    let hit := fun (f : FltSlot) => unitKind f.unit == 0x07 && unitInst f.unit / 8 == eight && !f.escalated
    let s := if first then s else (s.flt.slots.cells.filter (fun c => hit c.2)).foldl (fun s c => s.escalate c.1 c.2) s
    s.report (unitId 0x07 (8 * eight + engine)) 0x0E Cls.major)

/-! ## The cox pair (R411, R412) -/

/-- LOCKSTEP_MISMATCH (R411, R412, R448): during an activation the old image is restored; a second mismatch during a restart or within 1 s after one
is lasting; else firmware restarts from its checkpoint. -/
def execLockstepMismatch (s : State) : Ans :=
  .next (if !s.pwr.core || s.flt.cox == .stopped then s else
    let s := (s.bump Ctr.FLT_CNT_LOCKSTEP).report (unitId 0x08 0) 0x0F Cls.major
    let soon := match s.flt.coxAt with
      | some t => decide (s.now ≤ t + 1000000000)
      | none => false
    match s.cmd.activate with
    | some a => s.revertFw a
    | none =>
      if s.flt.cox == .restarting || soon then ({ s with flt := { s.flt with cox := .stopped } }).faultOff
      else { s with flt := { s.flt with cox := .restarting } })

/-- COX_RESTART_DONE (R411): commands that committed before the checkpoint complete with Success; any other runs again from its start, with what it
has waited for. -/
def execCoxRestartDone (s : State) : Ans :=
  .next (if s.flt.cox != .restarting then s else
    let s := { s with flt := { s.flt with cox := .running, coxAt := some s.now } }
    let due := s.cmd.jobs.filter (fun j => j.committed && s.flt.ckptTags.contains j.tag && j.done.isNone &&
      !s.cmd.repl.any (fun r => r.tag == j.tag) && s.replLocal j.tag)
    due.foldl (fun s j => s.finish j.tag (.ok [])) s)

/-- FIRMWARE_CHECKPOINT (R411). -/
def execFirmwareCheckpoint (s : State) : Ans :=
  .next (if s.pwr.core && s.flt.cox == .running then
      { s with flt := { s.flt with ckptTags := (s.cmd.jobs.filter (·.committed)).map (·.tag) } }
    else s)

/-! ## Tilma commands (R437) -/

/-- FLT_STATUS. -/
def State.fltStatus (s : State) : Word :=
  fields [(Fld.FLT_STATUS_FENCED, s.flt.fenced.length), (Fld.FLT_STATUS_QUEUED, s.flt.queue.length), (Fld.FLT_STATUS_ACTIVE, s.flt.slots.size)]

/-- FLT_SLOTk_STATE. -/
def FltSlot.word (f : FltSlot) : Word :=
  fields [(Fld.FLT_SLOT_STATE_CODE, f.code), (Fld.FLT_SLOT_STATE_LASTING, bit f.lasting), (Fld.FLT_SLOT_STATE_ESCALATED, bit f.escalated),
    (Fld.FLT_SLOT_STATE_CLASS, f.cls), (Fld.FLT_SLOT_STATE_STAGE, f.stage)]

/-- FLT_SLOTk_UNIT and FLT_SLOTk_STATE. -/
def State.fltSlotWords (s : State) (k : Nat) : List Word :=
  match s.flt.slots.find? k with
  | some f => [w32 f.unit, f.word]
  | none => [0, 0]

/-- FAULT_STATUS (R437). -/
def execFaultStatus (m : Mbx) (_inp : List Word) (s : State) : Ans :=
  .next (s.query m ⟨0xC500, true, false, false, true⟩ (m.len == 0) (fun s =>
    .ok ([s.fltStatus, 0] ++ (List.range 8).flatMap s.fltSlotWords ++
      s.flt.queue.flatMap (fun e => [w32 e.unit, w32 (e.code % 65536 + e.cls * 65536)]))))

/-- FAULT_CHANNELS (R437): the handshake channels from FIRST on. -/
def execFaultChannels (m : Mbx) (inp : List Word) (s : State) : Ans :=
  .next (s.query m ⟨0xC502, false, false, false, false⟩ (m.len == 4) (fun _ =>
    .ok (listOut 8 ((Config.handshakeChannels.filter (fun c => decide ((wordAt inp 0).toNat ≤ c.1))).map (fun c =>
      (c.1, [w32 (c.1 % 65536 + c.2.1 % 256 * 65536 + c.2.2 % 256 * 2 ^ 24), 0]))))))

/-- A test of R403 fits a kind of unit. -/
def testFits (test kind : Nat) : Bool :=
  match test with
  | 0 => [0x01, 0x02, 0x04].contains kind
  | 1 => [0x01, 0x02].contains kind
  | 2 => [0x07, 0x08].contains kind
  | 3 => [0x05, 0x06, 0x18].contains kind
  | 4 => kind == 0x0B
  | 5 => [0x0C, 0x0D, 0x0F, 0x10].contains kind
  | 6 => [0x11, 0x12].contains kind
  | _ => kind == 0x15

/-- SELFTEST_RUN (R403, R437), in HOLD with PURPOSE 0b10: it ends with SELFTEST_DONE of slot 8. -/
def State.selftestRun (s : State) (inp : List Word) : State × CmdRes :=
  let unit := (wordAt inp 0).toNat
  let w := wordAt inp 1
  if !(s.mode.mode == .hold && s.mode.holdPurpose == 2) then (s, .now .mode)
  else if w.field 31 3 ≠ 0 || !testFits (w.field 2 0) (unitKind unit) then (s, .now .invalid)
  else if s.flt.slots.values.any (fun f => f.unit == unit) then (s, .now (.ok [2, 0]))
  else (s, .later)

/-- SELFTEST_RUN (R437), a C command in the background. -/
def execSelftestRun (m : Mbx) (inp : List Word) (s : State) : Ans :=
  .next (s.command m ⟨0xC503, false, true, false, false⟩ (m.len == 16) true (fun _ s => s.selftestRun inp))

/-- The entries of a source in a state. -/
def State.trkCount (s : State) (st src : Nat) : Nat :=
  if st = 0 then s.floorFree src
  else (s.trk.entries.cells.filter (fun c => c.2.src == src && c.2.state.code == st)).length

/-- The age in µs of the oldest entry in a state; 0 where there is none. -/
def State.trkAge (s : State) (st : Nat) : Nat :=
  if st = 0 then 0
  else (s.trk.entries.cells.filter (fun c => c.2.state.code == st)).foldl (fun a c => max a ((s.now - c.2.since) / 1000)) 0

/-- TRACKER_SNAPSHOT (R437; 03_request_path.md). -/
def execTrackerSnapshot (m : Mbx) (_inp : List Word) (s : State) : Ans :=
  .next (s.query m ⟨0xC510, false, false, false, false⟩ (m.len == 0) (fun s =>
    .ok ((List.range 11).flatMap (fun st => (List.range 8).map (fun n => w32 (s.trkCount st n))) ++ (List.range 11).map (fun st => w32 (s.trkAge st)))))

end Sys2Proof.Machine
end

