-- ==== Sys2Proof/Machine/PageCode.lean ====
section
/-!
DEFINITION. Machine/PageCode.lean: how a record stands in a NAND page: the page code, the quarter header and the LOC layout (10_vault.md, R285 to
R288, R292, R296).
-/
namespace Sys2Proof.Machine

/-! ## The page code (R287) -/

/-- Multiply by α in GF(2^15) with x^15 + x + 1. -/
def bchTimesX (a : Nat) : Nat := if 16384 ≤ a then (2 * a) ^^^ 0x8003 else 2 * a

/-- Multiply in GF(2^15): `n` bits of `b`, from the lowest. -/
def bchMulN : Nat → Nat → Nat → Nat
  | 0, _, _ => 0
  | n + 1, a, b => (if b % 2 = 1 then a else 0) ^^^ bchMulN n (bchTimesX a) (b / 2)

/-- Multiply in GF(2^15). -/
def bchMul (a b : Nat) : Nat := bchMulN 15 a b

/-- α to the power `n`. -/
def bchPow : Nat → Nat
  | 0 => 1
  | n + 1 => bchTimesX (bchPow n)

/-- The conjugates of an element: it and its 14 repeated squares, each once. -/
def conjugates (a : Nat) : List Nat := ((List.range 15).map (fun k => Nat.repeat (fun x => bchMul x x) k a)).eraseDups

/-- Multiply a polynomial over GF(2^15), lowest coefficient first, by x + c. -/
def timesRoot (p : List Nat) (c : Nat) : List Nat :=
  ((0 :: p).zipWith (· ^^^ ·) (p.map (bchMul c) ++ [0]))

/-- The minimal polynomial of α^i, as bits: bit k is the coefficient of x^k. -/
def minimalPoly (i : Nat) : Nat :=
  ((conjugates (bchPow i)).foldl timesRoot [1]).zipIdx.foldl (fun n c => n + c.1 % 2 * 2 ^ c.2) 0

/-- Multiply polynomials over GF(2): `n` bits of `b`, from the lowest. -/
def polyMulN : Nat → Nat → Nat → Nat
  | 0, _, _ => 0
  | n + 1, a, b => (if b % 2 = 1 then a else 0) ^^^ polyMulN n (2 * a) (b / 2)

/-- The generator for strength t: the product of the distinct minimal polynomials of α^1 to α^2t; an even power has that of its half. -/
def bchGen (t : Nat) : Nat :=
  (((List.range t).map (fun k => minimalPoly (2 * k + 1))).eraseDups).foldl (fun g m => polyMulN 16 g m) 1

/-- One step of the division by the generator. -/
def bchStep (t g r : Nat) (u : Bool) : Nat :=
  let top := decide (2 ^ (15 * t - 1) ≤ r)
  let v := 2 * r % 2 ^ (15 * t)
  if top != u then v ^^^ (g % 2 ^ (15 * t)) else v

/-- The bits of a byte, most significant first. -/
def byteBits (b : Byte) : List Bool := (List.range 8).map (fun i => b.getLsbD (7 - i))

/-- u(x) x^15t mod g(x). -/
def bchRem (t : Nat) (msg : List Byte) : Nat := (msg.flatMap byteBits).foldl (bchStep t (bchGen t)) 0

/-- The parity bytes of a message: from the coefficient of x^(15t-1) downward, most significant bit of each byte first, unused low bits 0. -/
def bchParity (t : Nat) (msg : List Byte) : List Byte :=
  let n := ceilDiv (15 * t) 8
  (bytesOf n (bchRem t msg * 2 ^ (8 * n - 15 * t))).reverse

/-- The 276 spare bytes of a codeword (R286): metadata, parity, zeros. -/
def pageSpare (t : Nat) (main md : List Byte) : List Byte :=
  let p := bchParity t (main ++ md)
  md ++ p ++ List.replicate (244 - p.length) 0

/-- The strength a T code selects (VLT_ZONEnn.T). -/
def strength (code : Nat) : Nat := 40 + 20 * min code 4

/-- A codeword area with so many zero bits reads as erased (R288). -/
def readsErased (zeros : Nat) : Bool := decide (zeros ≤ 8)

/-- A codeword with so many bit errors decodes (R287): the code corrects up to t. -/
def decodes (code errors : Nat) : Bool := decide (errors ≤ strength code)

/-! ## Locations (R285, R296) -/

/-- GROUP of a LOC. -/
def locGroup (loc : Nat) : Nat := loc / 2 ^ 34 % 64
/-- POS of a LOC. -/
def locPos (loc : Nat) : Nat := loc / 2 ^ 30 % 16
/-- BLOCK of a LOC. -/
def locBlock (loc : Nat) : Nat := loc / 2 ^ 14 % 65536
/-- PAGE of a LOC. -/
def locPage (loc : Nat) : Nat := loc / 4 % 4096
/-- The segment of a LOC: group and block index. -/
def locSeg (loc : Nat) : Nat := locGroup loc * 65536 + locBlock loc
/-- The page of a LOC: the LOC without its QUARTER. -/
def locPageId (loc : Nat) : Nat := loc / 4
/-- A page is the parity page of its row (R289). -/
def isParity (pageId : Nat) : Bool := locPos (4 * pageId) == locPage (4 * pageId) % 16
/-- The first quarter of a segment, which holds its SEGMENT record (R293): row 0's first data page. -/
def isSegmentQuarter (loc : Nat) : Bool := locPage loc == 0 && locPos loc == 1 && loc % 4 == 0
/-- The die at a position of a group: channel × 32 + CE × 4 + LUN (R285, R395), for so many LUNs per chip enable. -/
def dieOf (luns group pos : Nat) : Nat :=
  let el := group / 2
  (16 * (group % 2) + pos) * 32 + el / max 1 luns * 4 + el % max 1 luns

/-! ## Records (R292, R293) -/

/-- The ciphertext of a leaf's 64 lines; a poisoned line is zero. -/
def State.leafBody (s : State) (r : LeafRec) (slot : Nat) : List Line :=
  (List.range leafLines).map (fun k => match r.line k with
    | .data d => Config.encrypt (s.keyPair slot) (leafLines * r.leaf + k) d
    | _ => 0)

/-- The 64 header bytes of a LEAF record. -/
def leafHeader (r : LeafRec) (crc : Nat) : List Byte :=
  bytesOf 1 1 ++ bytesOf 1 1 ++ bytesOf 1 (r.zone % 8 + (if r.reloc then 8 else 0) + (if r.twinSrc then 16 else 0)) ++ bytesOf 1 0 ++
  bytesOf 4 r.leaf ++ bytesOf 8 r.seq ++ bytesOf 2 r.epoch ++ bytesOf 3 r.regionId ++ bytesOf 3 0 ++ bytesOf 4 r.keytag.toNat ++ bytesOf 4 0 ++
  bytesOf 8 r.poison.toNat ++ bytesOf 8 (match r.prev with | some p => p % 2 ^ 40 + 2 ^ 63 | none => 0) ++ bytesOf 8 r.seq ++ bytesOf 4 crc ++ bytesOf 4 0

/-- What a quarter holds of a LEAF record (R286): its 4,096 main bytes, and the spare bytes of its two codewords. -/
def State.quarter (s : State) (r : LeafRec) (slot t : Nat) : List Byte × List Byte :=
  let body := (s.leafBody r slot).flatMap (fun l => bytesOf 64 l.toNat)
  let head := leafHeader r (crc32c body)
  (body, pageSpare t (body.take 2048) (head.take 32) ++ pageSpare t (body.drop 2048) (head.drop 32))

end Sys2Proof.Machine
end

