-- ==== Sys2Proof/Machine/Vault.lean ====
section
/-!
DEFINITION. Machine/Vault.lean: the vault: write-behind, checkpoints, cleaning, preserve, restore of leaves, format, its Tilma commands
(10_vault.md; 08_channel_controllers.md, R246, R247).
-/
namespace Sys2Proof.Machine

/-! ## Geometry and capacity (R285, R300) -/

/-- LUNs per chip enable. -/
def State.luns (s : State) : Nat := 2 ^ s.addr.served.pop.nandLuns

/-- Stripe groups of the population. -/
def State.groups (s : State) : Nat := 2 * s.addr.served.pop.nandCes * s.luns

/-- Dies of a group that are lost. -/
def State.lostIn (s : State) (group : Nat) : Nat :=
  ((List.range 16).filter (fun p => s.vlt.nand.lost.contains (dieOf s.luns group p))).length

/-- The position of the parity page of a row (R289): row mod 16, or the next position whose die is not lost. -/
def State.parityPos (s : State) (group row : Nat) : Nat :=
  (((List.range 16).map (fun k => (row + k) % 16)).find? (fun p => !s.vlt.nand.lost.contains (dieOf s.luns group p))).getD (row % 16)

/-- Bytes of a segment that records may use: 15 of 16 pages. -/
def State.segData (s : State) : Nat := 15 * s.vlt.nand.pages * 16384

/-- Bytes of a segment. -/
def State.segRaw (s : State) : Nat := 16 * s.vlt.nand.pages * 16384

/-- USABLE (R300). -/
def State.usable (s : State) : Nat := s.vlt.nand.raw * 15 * 98 / 1600 - 2 * spanOf s.addr.served.pop s.flt.stackList / 512 - 536870912

/-- USABLE falls short of 1.125 × L (R300). -/
def State.vaultShort (s : State) : Bool := decide (8 * s.usable < 9 * s.addr.served.len * extentBytes)

/-- Free bytes of erased segments. -/
def State.freeBytes (s : State) : Nat := s.vlt.nand.free.length * s.segData

/-- VLT_STATUS.FREE_PCT. -/
def State.freePct (s : State) : Nat := if s.usable = 0 then 0 else min 255 (100 * s.freeBytes / s.usable)

/-- Segments of the preserve reserve (R305). -/
def State.reserveSegs (s : State) : Nat :=
  let bytes := s.fldIn Reg.VLT_WINDOW Fld.VLT_WINDOW_CEIL_GIB 1 64 * 2 ^ 30 * 16 / 15 + 536870912
  let used := (s.vlt.nand.segs.cells.map (fun c => (c.1 / 65536, c.2.zone))).eraseDups.length
  ceilDiv bytes (max 1 s.segRaw) + used

/-- The vault has been formatted (R295). -/
def State.formatted (s : State) : Bool := s.vlt.nand.supA.isSome || s.vlt.nand.supB.isSome

/-- VLT_STATUS. -/
def State.vltStatus (s : State) : Word :=
  fields [(Fld.VLT_STATUS_LAST_IMAGE, s.vlt.lastImage), (Fld.VLT_STATUS_SHORT, bit s.vlt.short),
    (Fld.VLT_STATUS_SUSPECT, min 8191 s.vlt.suspects.length), (Fld.VLT_STATUS_DIES_LOST, min 255 s.vlt.nand.lost.length),
    (Fld.VLT_STATUS_FREE_PCT, s.freePct)]

/-! ## Writing records -/

/-- Change what the NAND holds. -/
def State.setNand (s : State) (n : Nand) : State := { s with vlt := { s.vlt with nand := n } }

/-- Take the SEQ of the next `n` records (R294). -/
def State.takeSeq (s : State) (n : Nat) : State := { s with vlt := { s.vlt with seq := s.vlt.seq + n } }

/-- A quarter may be written (R285, R289, R293, R320): it lies in the geometry, holds neither parity nor a SEGMENT record, is not used, its die
is not lost and its group not read-only. -/
def State.locFree (s : State) (loc : Nat) : Bool :=
  let g := locGroup loc
  decide (loc < 2 ^ 40) && decide (g < s.groups) && locBlock loc != 0 && decide (locBlock loc < s.vlt.nand.blocks) &&
  decide (locPage loc < s.vlt.nand.pages) && locPos loc != s.parityPos g (locPage loc) && !isSegmentQuarter loc &&
  !s.vlt.nand.leaves.has loc && !s.vlt.nand.lost.contains (dieOf s.luns g (locPos loc)) && decide (s.lostIn g < 2)

/-- The segment of a quarter is open for a zone, or is the next erased segment and opens (R299, R305, R320): its SEGMENT record is written, and the
segment open for this zone in the group before it closes. -/
def State.openSeg (s : State) (loc zone : Nat) : Option State :=
  let k := locSeg loc
  let inPreserve := s.mode.mode == .preserve
  match s.vlt.nand.segs.find? k with
  | some g => if g.isOpen && g.zone = zone then some s else none
  | none =>
    match s.vlt.nand.free with
    | (f, n) :: rest =>
      if f ≠ k || (!inPreserve && decide (s.vlt.nand.free.length ≤ s.reserveSegs)) then none
      else
        let close := fun (i : Nat) (g : Segment) => if i / 65536 = k / 65536 && g.zone = zone then { g with isOpen := false } else g
        let segs := (s.vlt.nand.segs.mapVals close).insert k ⟨zone, s.fld (Reg.VLT_ZONE zone) Fld.VLT_ZONE_T, s.vlt.seq, n, true⟩
        some ((s.setNand { s.vlt.nand with segs := segs, free := rest }).takeSeq 1)
    | [] => none

/-- The page-code strength of a quarter's segment. -/
def State.tOf (s : State) (loc : Nat) : Nat :=
  match s.vlt.nand.segs.find? (locSeg loc) with
  | some g => g.t
  | none => 2

/-- Write a LEAF record to a quarter: it is on its way (R290). -/
def State.writeLeaf (s : State) (loc : Nat) (r : LeafRec) : State :=
  let slot := match s.regionOf (r.leaf / extentLeaves) with | some (_, g) => g.keySlot | none => 0
  let q := s.quarter r slot (strength (s.tOf loc))
  let s := (s.emit (.nand loc q.1 q.2)).setNand { s.vlt.nand with leaves := s.vlt.nand.leaves.insert loc r }
  { s.takeSeq 1 with vlt := { (s.takeSeq 1).vlt with inflight := s.vlt.inflight ++ [⟨r.leaf, loc, false, false, r.reloc⟩] } }

/-! ## Write-behind (R301 to R305) -/

/-- Write-behind runs (R302): WB_EN, or PRESERVE and ride-through. -/
def State.wbRuns (s : State) : Bool :=
  s.pwr.core && s.formatted && !s.vlt.formatting &&
  (s.mode.mode == .preserve || s.pwr.riding || s.fld Reg.VLT_CTL Fld.VLT_CTL_WB_EN == 1)

/-- A record of the leaf is on its way. -/
def State.onItsWay (s : State) (leaf : Nat) : Bool := s.vlt.inflight.any (fun w => w.leaf == leaf && !w.reloc)

/-- The next leaf to write behind (R301, R304, R307, R308): in step 6 those of the SEAL, else the window's in join order, twin-backed ones after all
others and not in PRESERVE. -/
def State.wbNext (s : State) : Option (Nat × Bool) :=
  let inPreserve := s.mode.mode == .preserve
  if inPreserve && 6 ≤ s.vlt.step then (s.vlt.sealLeft.find? (fun l => !s.onItsWay l)).map (fun l => (l, false))
  else
    let first := s.vlt.window.find? (fun w => !w.twinBacked && !s.onItsWay w.leaf)
    let w := match first with
      | some w => some w
      | none => if inPreserve then none else s.vlt.window.find? (fun w => w.twinBacked && !s.onItsWay w.leaf)
    w.map (fun w => (w.leaf, w.twinBacked))

/-- What write-behind finds of a line. -/
inductive SaveRes where
  | data (d : Line)
  | poison
  /-- The line stands on a FROZEN channel, outside PRESERVE: it waits. -/
  | wait
  /-- Its home read returns an uncorrectable error. -/
  | bad
  /-- It is lost with a RETIRED channel. -/
  | lost
  deriving DecidableEq, Repr

/-- A line as write-behind saves it (R225, R246, R247, R273, R301): the cache, a merge entry over the home, the write queue, the home; `err` where the
home read returns an uncorrectable error. -/
def State.saveLine (s : State) (line : Nat) (err : Bool) : SaveRes :=
  match s.held line with
  | some (_, w) => if w.p then .poison else .data w.data
  | none =>
    let h := s.homeOf line
    let read := fun (c : Option Cell) => match (s.readCell h.hbm (s.markOf h) c line (s.keySlotOf line) []).1 with
      | .data d => SaveRes.data d
      | .poison => .poison
      | .uncorrectable => .bad
    let base : SaveRes :=
      if s.readsZero line then .data 0
      else match s.queued h with
      | some c => read (some c)
      | none =>
        match (s.chan (s.instOf h)).state with
        | .retired => .lost
        | .frozen => if s.mode.mode == .preserve then (if err then .bad else read (s.homeCell h)) else .wait
        | _ => if err then .bad else read (s.homeCell h)
    match s.mergeOf line with
    | none => base
    | some m =>
      if m.mask = Mask.full then .data (m.overlay (.data 0))
      else match base with
      | .data d => .data (m.overlay (.data d))
      | .poison => .data (m.overlay .poison)
      | r => r

/-- ST is set on an extent. -/
def State.setStale (s : State) (x : Nat) : State := s.setExtPair x { s.extPair x with st := true }

/-- The LEAF record of a leaf as its lines are now (R292). -/
def State.makeRecord (s : State) (leaf : Nat) (twinSrc : Bool) (l : List SaveRes) : LeafRec :=
  let (id, zone, slot) := match s.regionOf (leaf / extentLeaves) with | some (_, g) => (g.id, g.vzone, g.keySlot) | none => (0, 0, 0)
  let bad := l.zipIdx.filter (fun c => match c.1 with | .data _ => false | _ => true)
  let lines := l.zipIdx.foldl (fun (m : SMap Line) c => match c.1 with | .data d => m.put 0 c.2 d | _ => m) {}
  { leaf := leaf, zone := zone, seq := s.vlt.seq, reloc := false, twinSrc := twinSrc, epoch := (s.extPair (leaf / extentLeaves)).epoch,
    regionId := id, keytag := s.keyTagOf slot, poison := BitVec.ofNat 64 (bad.foldl (fun n c => n + 2 ^ c.2) 0),
    prev := (s.vlt.map.find? leaf).map (·.loc), time := s.now, lines := lines, programmed := false }

/-- Save a leaf: its lines have been read. -/
def State.saveLeaf (s : State) (leaf loc : Nat) (twinSrc : Bool) (l : List SaveRes) : State :=
  let zone := match s.regionOf (leaf / extentLeaves) with | some (_, g) => g.vzone | none => 0
  if !s.locFree loc then s else
  match s.openSeg loc zone with
  | none => s
  | some s =>
    let gone := (l.zipIdx.filter (fun c => c.1 == .lost || c.1 == .bad)).map (fun c => leafLines * leaf + c.2)
    let s := if gone.isEmpty then s
      else (gone.foldl (fun s x => s.poisonWritten 3 3 x) s).logRec LogT.vault Src.vlt Cls.major
        (gone.flatMap (fun x => w32 (match s.regionOf (extentOf x) with | some (_, g) => g.id | none => 0) :: lohi (64 * x)))
    (s.writeLeaf loc (s.makeRecord leaf twinSrc l)).freed

/-- WRITE_BEHIND_LEAF (R301): the next leaf is read and its record goes to the quarter `loc`; `bad` lists the lines of the leaf whose home read returns
an uncorrectable error. Outside PRESERVE such a line freezes its channel and is refetched first; in PRESERVE it is saved under R246, R247. -/
def execWriteBehindLeaf (loc : Nat) (bad : List Nat) (s : State) : Ans :=
  .next (if !s.wbRuns then s else
    match s.wbNext with
    | none => s
    | some (leaf, twinBacked) =>
      let line := fun k => leafLines * leaf + k
      let l := (List.range leafLines).map (fun k => s.saveLine (line k) (bad.contains k))
      if l.contains .wait then s
      else match (List.range leafLines).find? (fun k => l.getD k .wait == .bad) with
      | none => s.saveLeaf leaf loc twinBacked l
      | some k =>
        if s.mode.mode != .preserve then
          let h := s.homeOf (line k)
          ((s.freeze (s.instOf h) 1 (some (s.dramOf (s.remapOf h), s.remapOf h))).refetchStart (line k)).pump
        else if s.pair.departSent then
          let s := s.setStale (leaf / extentLeaves)
          { s with vlt := { s.vlt with sealLeft := s.vlt.sealLeft.filter (· != leaf) } }
        else s.saveLeaf leaf loc twinBacked l)

/-- A record has reached NAND with its row's parity (R290, R301): the leaf map names it; the leaf leaves the window unless a line was applied since; a
relocation counts only if the map still names what it replaces. -/
def State.leafWritten (s : State) (w : WbLeaf) : State :=
  let v := s.vlt
  let inflight := v.inflight.filter (fun q => q != w)
  match v.nand.leaves.find? w.loc with
  | none => { s with vlt := { v with inflight := inflight } }
  | some r =>
    let e : LeafLoc := ⟨r.zone, w.loc⟩
    if w.reloc && (v.map.find? w.leaf).map (·.loc) != r.prev then { s with vlt := { v with inflight := inflight } }
    else
      let window := if w.reloc then v.window
        else v.window.filter (fun x => x.leaf != w.leaf) ++ (if w.dirtied then [⟨w.leaf, false⟩] else [])
      let left := if !w.reloc && v.sealSeq < r.seq then v.sealLeft.filter (· != w.leaf) else v.sealLeft
      { s.bump (if w.reloc then Ctr.VLT_CNT_RELOC else Ctr.VLT_CNT_WB_LEAVES) with
        vlt := { v with inflight := inflight, map := v.map.insert w.leaf e, pending := v.pending ++ [(w.leaf, some e)], window := window,
                        sealLeft := left } }

/-- Every record whose page and row parity have reported PASS has been written. -/
def State.wbSettle (s : State) : State :=
  (s.vlt.inflight.filter (fun w => w.pagePass && s.vlt.nand.parity.contains (locSeg w.loc, locPage w.loc))).foldl State.leafWritten s

/-- A program or an erase fails (R291): its block is retired; failures on blocks of 3 segments within 1 s lose the die. -/
def State.blockFails (s : State) (seg pos : Nat) : State :=
  let die := dieOf s.luns (seg / 65536) pos
  let fails := (s.vlt.fails.filter (fun f => decide (s.now ≤ f.2.2 + 1000000000))) ++ [(die, seg, s.now)]
  let s := { s with vlt := { s.vlt with fails := fails } }
  let s := s.setNand { s.vlt.nand with retired := s.vlt.nand.retired ++ [(seg, pos)] }
  let segs := ((fails.filter (fun f => f.1 == die)).map (·.2.1)).eraseDups
  if 3 ≤ segs.length && !s.vlt.nand.lost.contains die then (s.loseDies [die]).report (unitId 0x11 die) 0x17 Cls.major else s

/-- NAND_PROGRAM_DONE (R290, R291, R310): a page, its LOC over 4, reports its status. -/
def execNandProgramDone (page : Nat) (pass : Bool) (s : State) : Ans :=
  .next (if !s.pwr.core then s else
    let loc := 4 * page
    let parity := locPos loc == s.parityPos (locGroup loc) (locPage loc)
    let mine := s.vlt.inflight.filter (fun w => locPageId w.loc == page)
    if !parity && mine.isEmpty then s
    else if pass then
      let s := if parity then s.setNand { s.vlt.nand with parity := s.vlt.nand.parity.filter (· != (locSeg loc, locPage loc)) ++ [(locSeg loc, locPage loc)] }
        else
          let lv := mine.foldl (fun (m : SMap LeafRec) w => m.modify w.loc (fun r => { r with programmed := true })) s.vlt.nand.leaves
          let s := s.setNand { s.vlt.nand with leaves := lv }
          { s with vlt := { s.vlt with inflight := s.vlt.inflight.map (fun w => if locPageId w.loc == page then { w with pagePass := true } else w) } }
      s.wbSettle.pump
    else
      let s := s.bump Ctr.VLT_CNT_PROG_FAIL
      let lv := mine.foldl (fun (m : SMap LeafRec) w => m.erase w.loc) s.vlt.nand.leaves
      let s := s.setNand { s.vlt.nand with leaves := lv }
      let s := { s with vlt := { s.vlt with inflight := s.vlt.inflight.filter (fun w => locPageId w.loc != page) } }
      s.blockFails (locSeg loc) (locPos loc))

/-! ## Deltas and checkpoint cycles (R295, R297) -/

/-- Changes of the leaf map are written as MAP_DELTA records of up to 340 entries. -/
def State.writeDeltas (s : State) : State :=
  let p := s.vlt.pending
  let n := ceilDiv p.length 340
  let ents := p.zipIdx.map (fun c => (s.vlt.seq + c.2 / 340, c.1.1, c.1.2))
  let s := s.setNand { s.vlt.nand with deltas := s.vlt.nand.deltas ++ ents }
  { s.takeSeq n with vlt := { (s.takeSeq n).vlt with pending := [], deltaBytes := s.vlt.deltaBytes + 4096 * n } }

/-- MAP_DELTA_WRITE (R297): outside step 6 of a preserve. -/
def execMapDeltaWrite (s : State) : Ans :=
  .next (if s.pwr.core && s.formatted && !s.vlt.formatting && !(s.mode.mode == .preserve && decide (6 ≤ s.vlt.step)) then s.writeDeltas else s)

/-- The serial number that a repair-table entry carries (R268): that of its DIMM, or the package's. -/
def State.serialFor (s : State) (inst rank : Nat) : Nat :=
  if inst < 16 then (s.ec.serials.getD inst []).getD (if s.addr.served.pop.dpc = 2 then rank % 2 else 0) 0 else Config.serial.toNat

/-- The repair table as it is saved (R268). -/
def State.repairTable (s : State) : RepairTable :=
  let rank := fun (h : Home) => (s.dramOf h).rank
  { remaps := s.ec.remaps.map (fun r => (r, s.serialFor r.inst (rank r.src))),
    rows := s.ec.rows.map (fun r => (r, s.serialFor r.inst r.rank)),
    marks := s.ec.marks.map (fun m => (m, s.serialFor m.inst m.rank)),
    retired := s.ec.retired }

/-- The TABLE records (R293). -/
def State.writeTables (s : State) : State :=
  let s := s.saveTables.saveNet
  s.setNand { s.vlt.nand with tables := { s.vlt.nand.tables with repair := s.repairTable, stackList := s.flt.stackList } }

/-- The superblock page with the highest GEN (R295). -/
def Nand.super (n : Nand) : Option Superblock :=
  match n.supA, n.supB with
  | some a, some b => some (if a.gen < b.gen then b else a)
  | some a, none => some a
  | none, b => b

/-- A superblock update: one page more, on the copy that holds the older generation (R295). -/
def State.writeSuper (s : State) (ckptSeq : Nat) : State :=
  let n := s.vlt.nand
  let gen := match n.super with | some p => p.gen + 1 | none => 1
  let zones := (List.range 8).map (fun z => s.fld (Reg.VLT_ZONE z) Fld.VLT_ZONE_T)
  let pop := s.addr.served.pop
  let old := n.super
  let page : Superblock := {
    gen := gen, seq := s.vlt.seq, ctrlId := match old with | some p => p.ctrlId | none => s.ctrlId,
    pairId := match old with | some p => p.pairId | none => s.pairId,
    geometry := match old with | some p => p.geometry | none => (pop.nandCes, pop.nandLuns, n.pages, n.blocks),
    zones := zones, ckptSeq := ckptSeq, s := match old with | some p => p.s | none => spanOf pop s.flt.stackList }
  let toA := match n.supA, n.supB with
    | some a, some b => decide (a.gen < b.gen)
    | some _, none => false
    | none, _ => true
  s.setNand (if toA then { n with supA := some page } else { n with supB := some page })

/-- Start a checkpoint cycle (R297): the changes so far are written, and the map as it stands is what the cycle writes. -/
def State.startCycle (s : State) : State :=
  let s := s.writeDeltas
  { s with vlt := { s.vlt with cycle := some (s.vlt.seq, s.vlt.map), deltaBytes := 0 } }

/-- CHECKPOINT_CYCLE_START (R297): where none runs. -/
def execCheckpointCycleStart (s : State) : Ans :=
  .next (if s.pwr.core && s.formatted && !s.vlt.formatting && s.vlt.cycle.isNone && s.mode.mode != .preserve then s.startCycle else s)

/-- Segments of which a record is still live: in the map, among the changes not written, or in the map of the latest cycle (R298). -/
def State.segLive (s : State) (seg : Nat) : Bool :=
  let here := fun (c : Nat × LeafLoc) => locSeg c.2.loc == seg
  s.vlt.map.cells.any here || s.vlt.nand.ckptMap.cells.any here ||
  s.vlt.pending.any (fun p => s.vlt.nand.leaves.cells.any (fun c => locSeg c.1 == seg && c.2.leaf == p.1))

/-- The segment that was cleaned is erased once R298 allows it. -/
def State.eraseTry (s : State) : State :=
  match s.vlt.cleaning with
  | none => s
  | some k =>
    if s.segLive k then s
    else
      let ps := (List.range 16).filter (fun p => !s.vlt.nand.lost.contains (dieOf s.luns (k / 65536) p))
      let s := s.setNand { s.vlt.nand with leaves := s.vlt.nand.leaves.filter (fun l _ => locSeg l != k),
                                           parity := s.vlt.nand.parity.filter (fun q => q.1 != k) }
      { s with vlt := { s.vlt with cleaning := none, erasing := s.vlt.erasing.insert k ps } }

/-- Chunks of 512 leaf-map entries in which two maps differ. -/
def changedChunks (a b : SMap LeafLoc) : Nat :=
  (((a.cells.filter (fun c => b.find? c.1 != some c.2)) ++ (b.cells.filter (fun c => a.find? c.1 != some c.2))).map (fun c => c.1 / 512)).eraseDups.length

/-- CHECKPOINT_CYCLE_DONE (R268, R295, R297): chunks, chunk table, TABLE records and the superblock have been written; VAULT_CHECKPOINT commands
complete. -/
def execCheckpointCycleDone (s : State) : Ans :=
  .next (match s.vlt.cycle with
    | none => s
    | some (seq, map) =>
      if s.mode.mode == .preserve then s else
      let n := changedChunks map s.vlt.nand.ckptMap + ceilDiv (spanOf s.addr.served.pop s.flt.stackList / (4096 * 512)) 512 + 1
      let s := (s.takeSeq n).writeTables
      let s := s.setNand { s.vlt.nand with ckptMap := map, deltas := s.vlt.nand.deltas.filter (fun d => decide (seq ≤ d.1)) }
      let s := s.writeSuper seq
      let who := s.vlt.waiters
      let s := { s with vlt := { s.vlt with cycle := none, waiters := [] } }
      (who.foldl (fun s w => s.finish w.2 (.ok (lohi seq))) s).eraseTry)

/-! ## Cleaning (R298, R305) -/

/-- Live leaves of a segment: those that the map places in it. -/
def State.liveIn (s : State) (seg : Nat) : List (Nat × LeafLoc) := s.vlt.map.cells.filter (fun c => locSeg c.2.loc == seg)

/-- The segment that cleaning takes: of its zone the one with the fewest live leaves, the oldest among equals. -/
def State.cleanPick (s : State) (zone : Nat) : Option Nat :=
  let better := fun (a b : Nat × Segment) =>
    let x := (s.liveIn a.1).length
    let y := (s.liveIn b.1).length
    decide (y < x) || (x == y && decide (b.2.seq < a.2.seq))
  ((s.vlt.nand.segs.cells.filter (fun c => c.2.zone == zone && !c.2.isOpen && !s.vlt.erasing.has c.1)).foldl
    (fun (b : Option (Nat × Segment)) c => match b with
      | none => some c
      | some q => if better q c then some c else b) none).map (·.1)

/-- Relocate live leaves to quarters, in order; none where one cannot be written. -/
def State.relocate : List (Nat × LeafLoc) → List Nat → State → Option State
  | [], _, s => some s
  | _ :: _, [], _ => none
  | c :: cs, loc :: ls, s =>
    match s.vlt.nand.leaves.find? c.2.loc with
    | none => relocate cs (loc :: ls) s
    | some r =>
      if !s.locFree loc then none
      else match s.openSeg loc r.zone with
      | none => none
      | some t => relocate cs ls (t.writeLeaf loc { r with seq := t.vlt.seq, reloc := true, prev := some c.2.loc, programmed := false })

/-- CLEANING_START (R305): free segments have fallen below START_PCT; the live leaves of a segment go to the quarters `dst`. -/
def execCleaningStart (zone : Nat) (dst : List Nat) (s : State) : Ans :=
  .next (if !s.pwr.core || s.fld Reg.VLT_CTL Fld.VLT_CTL_CLEAN_EN ≠ 1 || s.mode.mode == .preserve || s.vlt.cleaning.isSome || s.vlt.formatting ||
      s.fldIn Reg.VLT_CLEAN Fld.VLT_CLEAN_START_PCT 1 50 ≤ s.freePct then s
    else match s.cleanPick zone with
    | none => s
    | some k =>
      match s.relocate (s.liveIn k) dst with
      | none => s
      | some s => { s with vlt := { s.vlt with cleaning := some k } }.eraseTry)

/-- A block of a segment being erased is done with: with its last block the segment is free (R320). -/
def State.blockErased (s : State) (seg pos : Nat) : State :=
  let left := (s.vlt.erasing.getD seg []).filter (· != pos)
  let s := { s with vlt := { s.vlt with checks := s.vlt.checks.erase (16 * seg + pos) } }
  if left.isEmpty then
    let n := match s.vlt.nand.segs.find? seg with | some g => g.erases + 1 | none => 1
    let s := s.setNand { s.vlt.nand with segs := s.vlt.nand.segs.erase seg, free := s.vlt.nand.free ++ [(seg, n)] }
    { s with vlt := { s.vlt with erasing := s.vlt.erasing.erase seg } }
  else { s with vlt := { s.vlt with erasing := s.vlt.erasing.insert seg left } }

/-- NAND_ERASE_DONE (R291, R319): an erase ends with its status; `zeros` are the zero bits of the codeword areas of the block's first and last pages.
A block that fails the check is erased again, at most twice, and then retired. -/
def execNandEraseDone (seg pos : Nat) (pass : Bool) (zeros : List Nat) (s : State) : Ans :=
  .next (if !(s.vlt.erasing.getD seg []).contains pos then s
    else
      let s := s.bump Ctr.VLT_CNT_ERASE
      if !pass then (s.blockFails seg pos).blockErased seg pos
      else if zeros.all (fun z => decide (z ≤ 16)) then s.blockErased seg pos
      else
        let s := s.bump Ctr.VLT_CNT_ERASE_CHK
        let n := s.vlt.checks.getD (16 * seg + pos) 0
        if 2 ≤ n then (s.setNand { s.vlt.nand with retired := s.vlt.nand.retired ++ [(seg, pos)] }).blockErased seg pos
        else { s with vlt := { s.vlt with checks := s.vlt.checks.insert (16 * seg + pos) (n + 1) } })

/-! ## PRESERVE (R307 to R310) -/

/-- Operations ordered before the seal have finished and merge entries stand at their homes (R93, R307 step 4); an entry of a stopped channel stays and is
saved from the buffer (R246, R247). -/
def State.quiesced (s : State) : Bool :=
  !s.trk.entries.cells.any (fun c => c.2.op.writes && c.2.ord.isSome && !c.2.applied) &&
  !s.ec.merge.keys.any (fun l => !s.stopped (s.homeOf l))

/-- Twin-backed extents of the window. -/
def State.twinBacked (s : State) : List Nat := ((s.vlt.window.filter (·.twinBacked)).map (fun w => w.leaf / extentLeaves)).eraseDups

/-- SEAL_RECORD_WRITTEN (R114, R121, R307 step 5): once the departing-ack has come or the twin counts as lost, and step 4 has ended. -/
def execSealRecordWritten (s : State) : Ans :=
  .next (if s.mode.mode != .preserve || !(s.vlt.step == 4 || (s.vlt.step == 3 && (s.pair.departAcked || s.pair.lost))) || !s.quiesced || !s.formatted then s
    else
      let leaves := (s.vlt.window.filter (fun w => !w.twinBacked)).map (·.leaf)
      let tb := s.twinBacked
      let s := tb.foldl State.setStale s
      let seq := s.vlt.seq
      let s := s.setNand { s.vlt.nand with sealed := some ⟨seq, leaves, tb⟩ }
      let s := s.takeSeq (max 1 (ceilDiv (4 * leaves.length) 4096))
      { s with vlt := { s.vlt with step := 6, sealSeq := seq, sealLeft := leaves, sealCount := leaves.length } })

/-- The mode that PRESERVE returns to (R22, R24, R116): that of the HOLD rows when it came from HOLD; SOLO in place of SERVE when the twin was lost or left
SERVE meanwhile. -/
def State.returnMode (s : State) : Mode :=
  let gone := s.pair.lost || s.pair.departed || s.pair.departAcked || s.pair.twinLeft || s.pair.twinState != 2
  match s.mode.leftMode with
  | .hold => if s.paired && s.twinReachable && !gone then .serve else .solo
  | .serve => if gone then .solo else .serve
  | m => m

/-- The controller leaves PRESERVE for the mode it left (R22, R24, R278, R474, R514): what was held goes on; a twin that took every extent, or left, counts
as departed. -/
def State.leavePreserve (s : State) : State :=
  let dest := s.returnMode
  let away := s.pair.departAcked || s.pair.twinLeft
  let s := { s.setMode dest 0x09 with pwr := { s.pwr with riding := false } }
  let s := { s with vlt := { s.vlt with step := 0, sealLeft := [] } }
  let s := if away && !s.pair.lost then
      let s := { s with pair := { s.pair with departed := true } }
      s.dropTwin false
    else s
  let s := { s with pair := { s.pair with departSent := false, departAcked := false, twinLeft := false } }
  (s.takeMarkers.autoTry.pump.netRun).leaveRestore

/-- PRESERVE_COMPLETE (R22, R26, R307 steps 7 to 9, R309): every leaf of the SEAL has been written; deltas, tables and superblock, then the PRESERVE_DONE
record, with the bank energy read. -/
def execPreserveComplete (joules : Nat) (s : State) : Ans :=
  .next (if s.mode.mode != .preserve || s.vlt.step ≠ 6 || !s.vlt.sealLeft.isEmpty then s
    else
      let s := (s.writeDeltas).takeSeq 1
      let s := s.writeTables
      let ckpt := match s.vlt.nand.super with | some p => p.ckptSeq | none => 0
      let s := s.writeSuper ckpt
      let ms := (s.now - s.vlt.startNs) / 1000000
      let rec_ : DoneRec := ⟨s.vlt.seq, s.vlt.sealSeq, ms, joules, s.vlt.sealCount⟩
      let s := (s.setNand { s.vlt.nand with done := some rec_ }).takeSeq 1
      let s := { s with vlt := { s.vlt with step := 8, lastMs := min 65535 ms, lastJ := min 65535 joules },
                        mode := { s.mode with preserveDone := true } }
      let s := s.bump Ctr.VLT_CNT_PRESERVE
      let s := if s.vlt.needMs < ms then s.bump Ctr.VLT_CNT_PRESERVE_SLOW else s
      let s := s.logRec LogT.preserve Src.vlt Cls.info [w32 ms, w32 joules]
      if s.pwr.pfailN && s.pwr.holdupOk && !s.mode.railDropped && !s.mode.offPending then { s with log := s.log.flushAgain }.leavePreserve
      else s.preserveDown 0x0A false)

/-! ## RESTORE of leaves (R311 to R318) -/

/-- The twin can give a leaf: reachable in SERVE, or in RESTORE beside us. -/
def State.twinGives (s : State) : Bool := s.twinReachable && (s.pair.twinState == 2 || s.pair.twinState == 1)

/-- Restore order (R311): on demand, raised, then by address. -/
def Unrestored.before (a b : Nat × Unrestored) : Bool := decide (a.2.prio < b.2.prio) || (a.2.prio == b.2.prio && decide (a.1 < b.1))

/-- LEAF_RESTORE_START (R311, R124, R318): the next leaf of its source in restore order; from the twin by a read-assist of its lines. -/
def execLeafRestoreStart (leaf : Nat) (s : State) : Ans :=
  .next (match s.vlt.unrestored.find? leaf with
    | none => s
    | some u =>
      let twin := fun (q : Unrestored) => q.fromTwin && s.twinGives
      if !s.serving || u.running ||
        s.vlt.unrestored.cells.any (fun c => !c.2.running && (twin c.2 == twin u) && Unrestored.before c (leaf, u)) then s
      else
        let s := { s with vlt := { s.vlt with unrestored := s.vlt.unrestored.insert leaf { u with running := true } } }
        if twin u then
          let tag := s.newTag
          let recs := (List.range leafLines).map (fun k => TwRec.line (LineRec.mk (leafLines * leaf + k) 0 0 LineBody.nodata))
          { s.handNew 0x07 recs with pair := { s.pair with restores := s.pair.restores ++ [(tag, leaf)] } }
        else
          let x := leaf / extentLeaves
          let listed := match s.vlt.nand.sealed with | some r => r.twinBacked.contains x | none => false
          if listed && !s.vlt.suspects.contains x then
            { s with vlt := { s.vlt with suspects := s.vlt.suspects ++ [x] } }.logRec LogT.vault Src.vlt Cls.minor [w32 x]
          else s)

/-- The page of a quarter can be rebuilt by XOR (R289, R291): its row's parity was programmed, and no second die of its group is lost. -/
def State.canRebuild (s : State) (loc : Nat) : Bool :=
  s.vlt.nand.parity.contains (locSeg loc, locPage loc) && decide (s.lostIn (locGroup loc) < 2)

/-- Read one record (R314 steps 1 to 3): whether it passes. -/
def State.readRecord (s : State) (loc : Nat) (r : LeafRec) (q : PageRead) : State × Bool :=
  let t := s.tOf loc
  let direct := r.programmed && !s.vlt.nand.lost.contains (dieOf s.luns (locGroup loc) (locPos loc)) && decodes t q.e0 && decodes t q.e1
  if direct then (s.bumpBy Ctr.VLT_CNT_CORR_BITS (q.e0 + q.e1), true)
  else if s.canRebuild loc then
    let s := s.bump Ctr.VLT_CNT_REBUILD
    if r.programmed && decodes t q.r0 && decodes t q.r1 then (s.bumpBy Ctr.VLT_CNT_CORR_BITS (q.r0 + q.r1), true)
    else (s.bump Ctr.VLT_CNT_TORN, false)
  else (s.bump Ctr.VLT_CNT_TORN, false)

/-- The record used for a leaf (R314): the newest that passes and, where one is asked for, carries the epoch; at most `n` are tried. -/
def State.chooseRecord : Nat → Nat → Option Nat → List PageRead → Option Nat → State → State × Option LeafRec
  | 0, _, _, _, _, s => (s, none)
  | n + 1, leaf, loc, reads, epoch, s =>
    match loc with
    | none => (s, none)
    | some l =>
      match s.vlt.nand.leaves.find? l with
      | none => (s, none)
      | some r =>
        if r.leaf ≠ leaf then (s, none)
        else
          let (s, ok) := s.readRecord l r (reads.headD ⟨0, 0, 0, 0⟩)
          if ok && (match epoch with | some e => r.epoch == e | none => true) then (s, some r)
          else chooseRecord n leaf r.prev reads.tail epoch s

/-- A line of a leaf record is written to its home. -/
def State.putRecLine (r : LeafRec) (s : State) (k : Nat) : State :=
  let line := leafLines * r.leaf + k
  let h := s.remapOf (s.homeOf line)
  match r.line k with
  | .data d => s.setCell h (s.cellOf line d false)
  | _ => s.setCell h .poison

/-- The lines of a leaf are written to their homes from a record (R313). -/
def State.putRecord (s : State) (r : LeafRec) : State :=
  (List.range leafLines).foldl (State.putRecLine r) s

/-- Every line of a leaf receives the poison marker, with its records (R124, R314, R316). -/
def State.poisonLeaf (s : State) (leaf cause : Nat) : State :=
  let s := (List.range leafLines).foldl (fun s k =>
    let line := leafLines * leaf + k
    (s.setCell (s.remapOf (s.homeOf line)) .poison).poisonWritten 3 cause line) s
  s.logRec LogT.vault Src.vlt Cls.critical [w32 leaf]

/-- The leaf is restored: the requests that wait on it proceed, and RESTORE ends with the last (R22, R47). -/
def State.leafRestored (s : State) (leaf : Nat) : State :=
  let s := { s with vlt := { s.vlt with unrestored := s.vlt.unrestored.erase leaf, lostLeaves := s.vlt.lostLeaves } }
  (s.pump.netRun).leaveRestore

/-- A leaf restored from the twin joins the window as twin-backed (R304). -/
def State.joinTwinBacked (s : State) (leaf : Nat) : State :=
  if s.windowHas leaf then s else { s with vlt := { s.vlt with window := s.vlt.window ++ [⟨leaf, true⟩] } }

/-- The number of records tried for a leaf at most. -/
abbrev recordTries : Nat := 1024

/-- LEAF_RESTORE_DONE (R124, R313 to R316): `reads` says what reading the records finds, newest first. -/
def execLeafRestoreDone (leaf : Nat) (reads : List PageRead) (s : State) : Ans :=
  .next (match s.vlt.unrestored.find? leaf with
    | none => s
    | some u =>
      if !u.running then s
      else if u.got then (s.joinTwinBacked leaf).leafRestored leaf
      else if u.fromTwin then
        if s.pair.restores.any (fun a => a.2 == leaf) then s
        else
          let (s, r) := s.chooseRecord recordTries leaf ((s.vlt.map.find? leaf).map (·.loc)) reads (some u.epoch)
          match r with
          | some r => if s.recordFits r then (s.putRecord r).leafRestored leaf else (s.poisonLeaf leaf 5).leafRestored leaf
          | none => (s.poisonLeaf leaf 5).leafRestored leaf
      else if s.vlt.lostLeaves.contains leaf then (s.poisonLeaf leaf 6).leafRestored leaf
      else
        let (s, r) := s.chooseRecord recordTries leaf ((s.vlt.map.find? leaf).map (·.loc)) reads none
        match r with
        | some r =>
          if s.recordFits r then (s.putRecord r).leafRestored leaf
          else
            let s := s.logRec LogT.vault Src.vlt Cls.minor [w32 leaf, w32 r.regionId]
            let s := { s with vlt := { s.vlt with map := s.vlt.map.erase leaf, pending := s.vlt.pending ++ [(leaf, none)] },
                              addr := { s.addr with valid := s.addr.valid.erase leaf } }
            s.leafRestored leaf
        | none =>
          if s.twinReachable && s.pair.twinState = 2 then
            let v := { u with fromTwin := true, running := false, epoch := (s.extPair (leaf / extentLeaves)).epoch }
            { s with vlt := { s.vlt with unrestored := s.vlt.unrestored.insert leaf v } }
          else (s.poisonLeaf leaf 6).leafRestored leaf)

/-! ## Format (R321, R434) -/

/-- VAULT_FORMAT (R434): arms a format, in HOLD with PURPOSE 0b10. -/
def execVaultFormat (m : Mbx) (_inp : List Word) (s : State) : Ans :=
  .next (s.simple m ⟨0xC301, false, true, false, false⟩ (m.len == 0) (fun s =>
    if s.mode.mode == .hold && s.mode.holdPurpose == 2 then ({ s with cmd := { s.cmd with formatArmed := true } }, .ok [])
    else (s, .mode)))

/-- VAULT_ERASE_GO (R321): a guarded write of 1 executes the armed format: blocks and superblocks are erased. -/
def execVaultEraseGo (who : Nat) (s : State) : Ans :=
  .next (if !s.pwr.core then s else
    let (ok, s) := s.guarded who
    if !ok || !s.cmd.formatArmed || s.vlt.formatting then s
    else
      let n := s.vlt.nand
      let s := s.setNand { raw := n.raw, pages := n.pages, blocks := n.blocks, lost := n.lost, retired := n.retired, free := n.free, segs := n.segs }
      { s with cmd := { s.cmd with formatArmed := false },
               vlt := { s.vlt with formatting := true, inflight := [], cleaning := none, erasing := {}, cycle := none } })

/-- VAULT_FORMAT_DONE (R291, R321): every block is erased, those in `failed` are retired; a superblock of GEN 1 stands, every leaf-map entry is free; the
device default key is drawn (R441). -/
def execVaultFormatDone (failed : List (Nat × Nat)) (s : State) : Ans :=
  .next (if !s.vlt.formatting then s else
    let n := s.vlt.nand
    let count := fun k => match n.segs.find? k with
      | some g => g.erases + 1
      | none => match n.free.find? (fun f => f.1 == k) with | some f => f.2 + 1 | none => 1
    let all := (List.range s.groups).flatMap (fun g => (List.range n.blocks).tail.map (fun b => (g * 65536 + b, count (g * 65536 + b))))
    let s := s.setNand { n with segs := {}, free := all, retired := n.retired ++ failed }
    let s := { s with vlt := { s.vlt with formatting := false, map := {}, pending := [], seq := 1, deltaBytes := 0, lostLeaves := [], suspects := [],
                                          lastImage := 3 } }
    let s := s.bumpBy Ctr.VLT_CNT_ERASE (16 * all.length)
    let k := Config.randomKey s.fresh
    let s := { s.freed with cmd := { s.cmd with keys := s.cmd.keys.insert 0 ⟨k, Config.keyTag k⟩ } }
    let who := s.vlt.waiters
    let s := (s.writeTables.writeSuper 0).logRec LogT.format Src.vlt Cls.info [w32 failed.length]
    let s := { s with vlt := { s.vlt with waiters := [] } }
    who.foldl (fun s w => s.finish w.2 .aborted) s)

/-! ## Tilma commands (R434, R437) -/

/-- ZONE_SET (R434): stages VLT_ZONEnn.T. -/
def execZoneSet (m : Mbx) (inp : List Word) (s : State) : Ans :=
  .next (s.simple m ⟨0xC302, false, true, false, false⟩ (m.len == 4) (fun s =>
    let w := wordAt inp 0
    if w.field 7 3 ≠ 0 || w.field 31 11 ≠ 0 || 4 < w.field 10 8 then (s, .invalid)
    else (s.stage (Reg.VLT_ZONE (w.field 2 0)) (w32 (w.field 10 8)), .ok [])))

/-- Unused bytes of a zone's open segments. -/
def State.zoneFree (s : State) (z : Nat) : Nat :=
  (s.vlt.nand.segs.cells.filter (fun c => c.2.isOpen && c.2.zone == z)).foldl (fun n c =>
    n + (s.segData - 4096 * (1 + (s.vlt.nand.leaves.cells.filter (fun l => locSeg l.1 == c.1)).length))) 0

/-- Live bytes of a zone. -/
def State.zoneLive (s : State) (z : Nat) : Nat := 4096 * (s.vlt.map.cells.filter (fun c => c.2.zone == z)).length

/-- Erase counts of the segments: minimum, mean, maximum. -/
def State.eraseCounts (s : State) : Nat × Nat × Nat :=
  let l := s.vlt.nand.segs.values.map (·.erases) ++ s.vlt.nand.free.map (·.2)
  match l with
  | [] => (0, 0, 0)
  | a :: r => (r.foldl min a, sumL l / l.length, r.foldl max a)

/-- VAULT_STATUS (R437). -/
def execVaultStatus (m : Mbx) (_inp : List Word) (s : State) : Ans :=
  .next (s.query m ⟨0xC300, true, false, false, true⟩ (m.len == 0) (fun s =>
    let e := s.eraseCounts
    .ok (lohi s.usable ++ (List.range 8).flatMap (fun z => lohi (s.zoneFree z)) ++ (List.range 8).flatMap (fun z => lohi (s.zoneLive z)) ++
      [w32 e.1, w32 e.2.1, w32 e.2.2, w32 s.vlt.nand.lost.length, s.vltStatus, 0] ++ lohi s.freeBytes)))

/-- Leaf indices in order as ranges: first and count. -/
def leafRuns : List Nat → List (Nat × Nat)
  | [] => []
  | l :: rest => match leafRuns rest with
    | (f, n) :: more => if f = l + 1 then (l, n + 1) :: more else (l, 1) :: (f, n) :: more
    | [] => [(l, 1)]

/-- VAULT_LOST_LIST (R316, R437). -/
def execVaultLostList (m : Mbx) (inp : List Word) (s : State) : Ans :=
  .next (s.query m ⟨0xC303, false, false, false, false⟩ (m.len == 8) (fun s =>
    if wordAt inp 1 ≠ 0 then .invalid
    else
      let sorted := (s.vlt.lostLeaves.foldl (fun (v : SMap Unit) l => v.insert l ()) {}).keys
      .ok (listOut 8 ((leafRuns (sorted.filter (fun l => decide ((wordAt inp 0).toNat ≤ l)))).map (fun r => (r.1, [w32 r.1, w32 r.2]))))))

/-- PRESERVE_REPORT (R437): the last PRESERVE_DONE record; zeros where there is none. -/
def execPreserveReport (m : Mbx) (_inp : List Word) (s : State) : Ans :=
  .next (s.query m ⟨0xC304, false, false, false, false⟩ (m.len == 0) (fun s =>
    let d := s.vlt.nand.done.getD ⟨0, 0, 0, 0, 0⟩
    .ok (lohi d.sealSeq ++ lohi d.seq ++ [w32 d.ms, w32 d.joules] ++ lohi d.leaves)))

/-- VAULT_CHECKPOINT (R437): starts a cycle at once, or waits for the one that runs; completes when the superblock is updated. -/
def execVaultCheckpoint (m : Mbx) (_inp : List Word) (s : State) : Ans :=
  .next (s.command m ⟨0xC305, false, false, false, false⟩ (m.len == 0) false (fun tag s =>
    if !s.formatted || s.vlt.formatting then (s, .now .media)
    else
      let s := { s with vlt := { s.vlt with waiters := s.vlt.waiters ++ [(m, tag)] } }
      (if s.vlt.cycle.isNone then s.startCycle else s, .later)))

end Sys2Proof.Machine
end

