-- ==== Sys2Proof/Machine/PowerBase.lean ====
section
/-!
DEFINITION. Machine/PowerBase.lean: transfers on the sideband buses (18_sideband.md, R524 to R531), the bank reading, the core supply readback
and the on request (17_power.md, R509, R510, R515 to R521; 13_faults.md, R398).
-/
namespace Sys2Proof.Machine

/-! ## Sideband transfers -/

/-- The domain a bus lies in is powered: SB0 in the core, the others always on. -/
def State.sbLive (s : State) (n : Nat) : Bool :=
  decide (n < 4) && s.pwr.aon && (if n = 0 then s.pwr.core else true)

/-- A fault event, where the fault manager is powered. -/
def State.tell (s : State) (unit code cls : Nat) : State := if s.pwr.core then s.report unit code cls else s

/-- Set a bus's RESULT and RETRY. -/
def State.sbResult (s : State) (n result retry : Nat) : State :=
  s.setSb n { s.sb n with result := result, retry := retry }

/-- Start a transfer (R525). -/
def State.sbStart (s : State) (n : Nat) (r : SbReq) : State :=
  (s.setSb n { s.sb n with state := .active, cur := some r }).emit (.sideband n r)

/-- The next transfer that waits starts (R524). -/
def State.sbNext (s : State) (n : Nat) : State :=
  match (s.sb n).queue with
  | [] => s.setSb n { s.sb n with state := .idle, cur := none }
  | r :: rest => (s.setSb n { s.sb n with queue := rest }).sbStart n r

/-- A transfer waits its turn: those of the supervisor first (R524). -/
def SbBus.wait (b : SbBus) (r : SbReq) : SbBus :=
  if r.supervisor then { b with queue := b.queue.filter (·.supervisor) ++ r :: b.queue.filter (fun q => !q.supervisor) }
  else { b with queue := b.queue ++ [r] }

/-- A request for a transfer (R524); on a FAILED bus it ends HUNG (R528). -/
def State.sbSubmit (s : State) (n : Nat) (r : SbReq) : State :=
  if !s.sbLive n then s
  else match (s.sb n).state with
  | .failed => s.sbResult n 8 0
  | .idle => s.sbStart n r
  | _ => s.setSb n ((s.sb n).wait r)

/-- The transfer that runs ends with a result; the next starts. -/
def State.sbEnd (s : State) (n result : Nat) : State :=
  match (s.sb n).cur with
  | none => s
  | some r =>
    let s := s.sbResult n result r.retry
    let s := if result = 1 then s.bump (Ctr.SB_CNT_XFER (sbPage n))
      else if result = 2 ∨ result = 3 then s.bump (Ctr.SB_CNT_NAK (sbPage n)) else s
    s.sbNext n

/-- The retries a bus allows (R529). -/
def State.sbRetries (s : State) (n : Nat) : Nat := s.fld (Reg.SB_CTL (sbPage n)) Fld.SB_CTL_RETRIES

/-- The transfer that runs starts again from its START where retries are left; else it ends (R529, R531). -/
def State.sbRetry (s : State) (n result : Nat) : State :=
  match (s.sb n).cur with
  | none => s
  | some r => if r.retry < s.sbRetries n then s.sbStart n { r with retry := r.retry + 1 } else s.sbEnd n result

/-- The hang cure (R527, R528): `freed` is after how many pulses SDA reads high; none where the cure fails. -/
def State.sbCure (s : State) (n : Nat) (freed : Option Nat) : State :=
  let s := (s.bump (Ctr.SB_CNT_HANG (sbPage n))).emit (.cure n ((freed.map (clamp 1 9)).getD 9))
  match freed with
  | some _ => s.tell (unitId 0x16 n) 0x1C Cls.minor
  | none =>
    let b := s.sb n
    let s := if b.cur.isSome || !b.queue.isEmpty then s.sbResult n 8 ((b.cur.map (·.retry)).getD 0) else s
    (s.setSb n { s.sb n with state := .failed, cur := none, queue := [] }).tell (unitId 0x16 n) 0x1C Cls.major

/-- The lines found hung before a transfer (R527): none while the bus is well. -/
def State.sbFound (s : State) (n : Nat) (hung : Option (Option Nat)) : State :=
  match hung with
  | none => s
  | some f => s.sbCure n f

/-! ## The bank (R515 to R520) -/

/-- Read Word of the bank's energy (R515). -/
def State.bankReq (s : State) : SbReq :=
  ⟨true, s.fld Reg.PWR_BANK_BUS Fld.PWR_BANK_BUS_ADDR, [BitVec.ofNat 8 (s.fld Reg.PWR_BANK_BUS Fld.PWR_BANK_BUS_CODE)], 2, 0⟩

/-- The bank counts below the need, or says so on HOLDUP_OK: a bring-up is abandoned; running, PRESERVE (R510, R514, R519). -/
def State.energyLow (s : State) : State :=
  if s.mode.mode == .preserve then s.preserveTrigger 0x06
  else
    let s := if s.running then s.tell (unitId 0x14 0) 0x19 Cls.critical else s
    if s.running then s.preserveTrigger 0x06 else s.crossBringup 0x06 true

/-- Leaves of a window of CEIL_GIB. -/
def State.ceilLeaves (s : State) : Nat := s.fldIn Reg.VLT_WINDOW Fld.VLT_WINDOW_CEIL_GIB 1 64 * 262144

/-- A bank reading lands (R515, R516, R519, R520). -/
def State.bankReading (s : State) (joules : Nat) : State :=
  let e := joules % 65536
  let need := s.energy s.needMs
  let ceil := s.energy (s.preserveMs s.ceilLeaves)
  let cap := if e < ceil then some (min 255 (s.capOf e)) else none
  let s := { s with pwr := { s.pwr with bank := some (e, s.tim.ticks), bankStale := false, needJ := need, ceilNeedJ := ceil, cap := cap } }
  (if e < need then s.energyLow else s).pump

/-! ## The core supply (R521) -/

/-- The target in mV (R15). -/
def State.vcoreTarget (s : State) : Nat := s.fldIn Reg.PWR_VCORE Fld.PWR_VCORE_TARGET 650 850

/-- A voltage in PMBus linear format with exponent −9. -/
def linear9 (mv : Nat) : Nat := mv * 512 / 1000

/-- A linear-format word in mV. -/
def ofLinear9 (w : Nat) : Nat := w * 1000 / 512

/-- Command a voltage: VOUT_COMMAND to the regulator. -/
def State.vcoreCommand (s : State) (mv : Nat) : State :=
  let w := linear9 mv
  { s with pwr := { s.pwr with vcoreCmd := some mv } }.sbSubmit 1
    ⟨true, s.fld Reg.PWR_VCORE Fld.PWR_VCORE_ADDR, [0x21, BitVec.ofNat 8 w, BitVec.ofNat 8 (w / 256)], 0, 0⟩

/-- The unit of the core rail: the lowest PG_IN bit of the first step. -/
def State.coreRail (s : State) : Nat := unitId 0x13 (((List.range 12).find? (fun b => (s.stepPg 0).testBit b)).getD 0)

/-- A READ_VOUT lands: more than 25 mV off the target for 10 ms is reported once. -/
def State.vcoreRead (s : State) (mv : Nat) : State :=
  let v := mv % 4096
  let s := { s with pwr := { s.pwr with vcoreMv := v } }
  if decide (v ≤ s.vcoreTarget + 25) && decide (s.vcoreTarget ≤ v + 25) then
    { s with pwr := { s.pwr with vcoreOffSince := none } }
  else match s.pwr.vcoreOffSince with
  | none => { s with pwr := { s.pwr with vcoreOffSince := some (s.now, false) } }
  | some (t, told) =>
    if !told && decide (t + 10000000 ≤ s.now) then
      { s with pwr := { s.pwr with vcoreOffSince := some (t, true) } }.tell s.coreRail 0x18 Cls.major
    else s

/-! ## The on request (R509, R510, R517, R553) -/

/-- An on request: it becomes pending, and the bank is read at once. -/
def State.onRequest (s : State) : State :=
  if !s.pwr.aon || !s.pwr.mfgTestN || s.mode.mode != .standby || s.pwr.seq == .upSeq || s.pwr.seq == .up then s
  else if s.pwr.onPending then s
  else { s with pwr := { s.pwr with onPending := true } }.sbSubmit 2 s.bankReq

/-- What a supervisor's transfer on a bus read: the bank's energy or the core voltage. -/
def State.supervisorRead (s : State) (n : Nat) (data : List (BitVec 8)) : State :=
  let w := (data.getD 0 0).toNat + 256 * (data.getD 1 0).toNat
  if n = 2 then s.bankReading w else if n = 1 then s.vcoreRead (ofLinear9 w) else s

end Sys2Proof.Machine
end

