-- ==== Sys2Proof/Machine/Sideband.lean ====
section
/-!
DEFINITION. Machine/Sideband.lean: commands of the two-wire sideband buses (18_sideband.md, R523 to R533).
-/
namespace Sys2Proof.Machine

/-- The bytes of SBn_DATA0 and SBn_DATA1, from byte 0. -/
def State.sbData (s : State) (n : Nat) : List (BitVec 8) :=
  (List.range 8).map (fun k =>
    let w := s.reg (if k < 4 then Reg.SB_DATA0 (sbPage n) else Reg.SB_DATA1 (sbPage n))
    BitVec.ofNat 8 (w.field (8 * (k % 4) + 7) (8 * (k % 4))))

/-- Store the bytes read in SBn_DATA0 and SBn_DATA1, from byte 0; the other bytes stay (R525). -/
def State.sbStore (s : State) (n : Nat) (data : List (BitVec 8)) : State :=
  (List.range (min 8 data.length)).foldl (fun (s : State) (k : Nat) =>
    let a := if k < 4 then Reg.SB_DATA0 (sbPage n) else Reg.SB_DATA1 (sbPage n)
    s.setReg a ((s.reg a).setField (8 * (k % 4) + 7) (8 * (k % 4)) (data.getD k 0).toNat)) s

/-- SB_CMD (R524, R525, R527): a write of SBn_CMD; `hung` what the lines show where the transfer would start at once. -/
def execSbCmd (who bus : Nat) (cmd : Word) (hung : Option (Option Nat)) (s : State) : Ans :=
  .next (if !(s.pwr.core && decide (who < 5) && s.sbLive bus) then s else
    let wlen := min 8 (cmd.field 11 8)
    let rlen := min 8 (cmd.field 15 12)
    if wlen = 0 ∧ rlen = 0 then s
    else
      let r : SbReq := ⟨false, cmd.field 6 0, (s.sbData bus).take wlen, rlen, 0⟩
      if (s.sb bus).state == .idle then (s.sbFound bus hung).sbSubmit bus r else s.sbSubmit bus r)

/-- SB_TRANSFER_DONE (R525): the transfer that runs ends with DONE, NAK_ADDR, NAK_DATA or, with PEC in use, PEC_ERR; the bytes read land. -/
def execSbTransferDone (bus result : Nat) (data : List (BitVec 8)) (s : State) : Ans :=
  .next (if !s.sbLive bus then s else
    match (s.sb bus).cur with
    | none => s
    | some r =>
      let pec := s.fld (Reg.SB_CTL (sbPage bus)) Fld.SB_CTL_PEC == 1
      if result = 1 ∨ (result = 7 ∧ pec) then
        let got := (data ++ List.replicate (r.rlen - data.length) 0).take r.rlen
        let s := if r.supervisor then s else s.sbStore bus got
        let s := s.sbEnd bus result
        if r.supervisor && decide (r.rlen ≠ 0) && decide (result = 1) then s.supervisorRead bus got else s
      else if result = 2 ∨ (result = 3 ∧ r.wr ≠ []) then s.sbEnd bus result
      else s)

/-- SCL_LOW_TIMEOUT (R526, R527, R528): the transfer is aborted with TIMEOUT, and the hang cure runs; what waits goes on where it succeeds. -/
def execSclLowTimeout (bus : Nat) (freed : Option Nat) (s : State) : Ans :=
  .next (if !s.sbLive bus then s else
    match (s.sb bus).cur with
    | none => s
    | some r =>
      let s := (s.bump (Ctr.SB_CNT_TIMEOUT (sbPage bus))).sbResult bus 6 r.retry
      let s := (s.setSb bus { s.sb bus with cur := none }).sbCure bus freed
      if freed.isSome then s.sbNext bus else s)

/-- HANG_CURE_RETRY (R528): on a FAILED bus the cure is repeated every 100 ms until it succeeds. -/
def execHangCureRetry (bus : Nat) (freed : Option Nat) (s : State) : Ans :=
  .next (if s.sbLive bus && (s.sb bus).state == .failed then
      match freed with
      | some _ => let s := s.sbCure bus freed; s.setSb bus { s.sb bus with state := .idle }
      | none => (s.bump (Ctr.SB_CNT_HANG (sbPage bus))).emit (.cure bus 9)
    else s)

/-- ARBITRATION_LOST (R529, R530): once the bus frees the transfer starts again, while retries are left; else ARB_FAIL. -/
def execArbitrationLost (bus : Nat) (s : State) : Ans :=
  .next (if s.sbLive bus && (s.sb bus).cur.isSome then (s.bump (Ctr.SB_CNT_ARB_LOST (sbPage bus))).sbRetry bus 4 else s)

/-- BUS_ERROR (R531): a START in the clock of an acknowledge, with the block as controller or as listener; `hung` where the bus is not free within
25 ms (R527). -/
def execBusError (bus : Nat) (hung : Option (Option Nat)) (s : State) : Ans :=
  .next (if !s.sbLive bus then s else
    let s := s.bump (Ctr.SB_CNT_BUS_ERR (sbPage bus))
    let s := s.setFld (Reg.SB_STATUS (sbPage bus)) Fld.SB_STATUS_BUS_ERROR 1
    (s.sbFound bus hung).sbRetry bus 5)

/-- HOST_NOTIFY (R509, R532, R533): a whole message; on SB3 from the management controller 0x0001 and 0x0002 are the on and off requests. -/
def execHostNotify (bus sender data : Nat) (s : State) : Ans :=
  .next (if !s.sbLive bus || s.fld (Reg.SB_CTL (sbPage bus)) Fld.SB_CTL_HN_EN == 0 then s else
    let s := s.bump (Ctr.SB_CNT_NOTIFY (sbPage bus))
    let who := sender % 128
    let d := data % 65536
    if bus = 3 ∧ who = s.fld Reg.PWR_CTL Fld.PWR_CTL_MGMT_ADDR ∧ d = 1 then s.onRequest
    else if bus = 3 ∧ who = s.fld Reg.PWR_CTL Fld.PWR_CTL_MGMT_ADDR ∧ d = 2 then s.offRequest 0x08
    else
      let b := s.sb bus
      if b.notify.isSome then s.bump (Ctr.SB_CNT_NOTIFY_DROP (sbPage bus))
      else s.setSb bus { b with notify := some (who, d), notifyOff := if s.pwr.core then none else some s.now })

end Sys2Proof.Machine
end

