-- ==== Sys2Proof/Machine/Logbook.lean ====
section
/-!
DEFINITION. Machine/Logbook.lean: commands of the logbook: flushes, ROLL and FIX, snapshots (19_logbook.md, R536 to R545; 14_control.md, R437).
-/
namespace Sys2Proof.Machine

/-! ## Flushes -/

/-- Write the oldest staged records to ROLL, in SEQ order, while erased sectors hold them (R541): how many were to be written. -/
def State.flushRecs : Nat → State → State
  | 0, s => s
  | n + 1, s =>
    match s.log.staged with
    | [] => s
    | r :: rest =>
      match s.rollPlace r.len with
      | none => s
      | some (k, off) =>
        State.flushRecs n { s with log := { s.log with staged := rest, roll := s.log.roll ++ [⟨k, off, r⟩], rollAt := (k, off + r.len),
                                                       flashed := r.seq, tail := if s.log.roll.isEmpty then r.seq else s.log.tail } }

/-- LOG_FLUSH commands complete whose records are in flash (R538); a flush follows for those that wait on. -/
def State.flushWaiters (s : State) : State :=
  let oldest := (s.log.staged.head?).map (·.seq)
  let ready := fun (w : Nat × Nat) => match oldest with
    | some q => decide (w.2 < q)
    | none => true
  let (go, wait) := s.log.waiters.partition ready
  let s := { s with log := { s.log with waiters := wait } }
  let s := go.foldl (fun (s : State) w => s.finish w.1 (.ok (lohi s.log.flashed))) s
  if wait.isEmpty then s else { s with log := s.log.startFlush }

/-- LOG_FLUSH_DONE (R538, R540, R541, R543): what the flush wrote is in ROLL and is copied to FIX; in PRESERVE the flushes go on as R540 has them, and
power-down begins once the second has ended. -/
def execLogFlushDone (s : State) : Ans :=
  .next (match s.log.flushing with
    | none => s
    | some n =>
      let s := State.flushRecs n { s with log := { s.log with flushing := none } }
      let s := { s.bump Ctr.LOG_CNT_FLUSH with log := { s.log with rollAt := padWord s.log.rollAt } }
      let s := s.fixCopy.flushWaiters
      match s.log.secondFlush with
      | 1 => { s with log := { s.log.startFlush with secondFlush := 2 } }
      | 2 =>
        let s := { s with log := { s.log with secondFlush := 0 } }
        if s.mode.mode == .standby && s.pwr.seq == .up then s.powerDown else s
      | _ =>
        if s.mode.mode == .preserve && s.log.staged.any (fun r => decide (r.seq < s.log.preserveFrom)) then
          { s with log := s.log.startFlush }
        else s)

/-- LOG_FLUSH_AGE (R538): the oldest record not flushed has reached LOG_CTL.FLUSH_MS. -/
def execLogFlushAge (s : State) : Ans :=
  .next (if s.pwr.core && s.mode.mode != .preserve then { s with log := s.log.startFlush } else s)

/-- LOG_FLUSH (R437, R538). -/
def execLogFlush (m : Mbx) (_inp : List Word) (s : State) : Ans :=
  .next (s.command m ⟨0xC702, false, false, false, false⟩ (m.len == 0) false (fun tag s =>
    if s.log.staged.isEmpty then (s, .now (.ok (lohi s.log.flashed)))
    else ({ s with log := { s.log.startFlush with waiters := s.log.waiters ++ [(tag, s.log.head)] } }, .later)))

/-- OVERFLOW_RECORD (R539): room has come back; one record tells of those dropped. -/
def execOverflowRecord (s : State) : Ans :=
  .next (match s.log.dropped with
    | none => s
    | some (n, t0, t1) =>
      let p := w32 n :: (lohi t0 ++ lohi t1)
      let len := logLen p.length
      if !s.pwr.core || decide (logBuf < s.log.used + len) || (s.mode.mode == .preserve && decide (32768 < s.log.preserveBytes + len)) then s
      else { s with log := { s.log with dropped := none } }.logRec LogT.overflow Src.log Cls.minor p)

/-! ## ROLL and FIX -/

/-- ROLL_ERASE (R491, R542): where fewer than 4 sectors ahead of the write point are erased, the next used one is erased, TAIL having moved to the first
SEQ of the sector after it. -/
def execRollErase (s : State) : Ans :=
  .next (if !s.pwr.core then s else
    match ((List.range 4).map (fun j => (s.log.rollAt.1 + 1 + j) % rollSectors)).find? (fun j => s.log.rollUsed j) with
    | none => s
    | some k =>
      let left := s.log.roll.filter (fun p => p.sector != k)
      { s with log := { s.log with roll := left, tail := ((left.head?).map (·.record.seq)).getD s.log.next },
               fls := s.fls.eraseSector (rollSector + k) })

/-- LOG_CLEAR (R461, R544): the CLEARED record is staged, and the FIX area is erased in the background. -/
def execLogClear (m : Mbx) (_inp : List Word) (s : State) : Ans :=
  .next (s.simple m ⟨0xC701, false, true, false, false⟩ (m.len == 0) (fun s =>
    let (p, k) := s.linkOf m.fn
    let who := requesterOf p k
    if !s.unlocked who then (s, .invalid)
    else
      let s := (s.relock who).logRec LogT.cleared Src.log Cls.info []
      let runs := s.log.fixState == 1
      let s := { s with log := { s.log with fixState := 1, fixErase := List.range fixSectors } }
      (if runs then s else s.fixEraseNext, .ok [])))

/-! ## Snapshots (R545) -/

/-- Whole records in order while they fit. -/
def takeBytes : Nat → List LogRec → List LogRec
  | _, [] => []
  | n, r :: t => if r.len ≤ n then r :: takeBytes (n - r.len) t else []

/-- LOG_SNAPSHOT (R545): FIRST and LAST of an answer with no record are free values. -/
def execLogSnapshot (m : Mbx) (inp : List Word) (s : State) : Ans :=
  .next (s.simple m ⟨0xC700, true, false, false, false⟩ (m.len == 12) (fun s =>
    let max_ := (wordAt inp 2).toNat
    if max_ < 64 ∨ 262112 < max_ then (s, .invalid)
    else
      let from_ := max (wide inp 0) s.log.tail
      let all := s.log.roll.map (·.record) ++ s.log.staged
      let shown := all.filter (fun r => decide (from_ ≤ r.seq) && (s.privileged m || r.typ == LogT.bringup || r.typ == LogT.modeChange))
      let recs := takeBytes max_ shown
      let first := ((recs.head?).map (·.seq)).getD s.freeVal
      let last := ((recs.getLast?).map (·.seq)).getD s.freeVal
      (if recs.isEmpty then s.freed else s,
        .ok (lohi first ++ lohi last ++ lohi s.log.head ++ lohi s.log.tail ++ recs.flatMap (fun r => wordsOfBytes r.bytes)))))

/-! ## Bring-up (R537) -/

/-- The highest SEQ found in the FIX and ROLL areas. -/
def Logbook.highest (l : Logbook) : Nat := (l.roll ++ l.fix).foldl (fun (m : Nat) (p : LogPlaced) => max m p.record.seq) 0

/-- The logbook takes up its work: what the areas hold, and BRINGUP as the first record. -/
def State.logBoot (s : State) : State :=
  let l := s.log
  let hi := l.highest
  let full := (s.fixPlace 44).isNone
  let s := { s with log := { l with next := hi + 8192, flashed := hi, tail := ((l.roll.head?).map (fun (p : LogPlaced) => p.record.seq)).getD 0,
                                    fixState := if full then 2 else 0 } }
  let s := { s with pwr := { s.pwr with aonSeq := some (s.pwr.aonSeq.getD (hi + 8192)) } }
  s.logRec LogT.bringup Src.log Cls.info (lohi hi ++ lohi (hi + 8192))

end Sys2Proof.Machine
end

