-- ==== Sys2Proof/Machine/Power.lean ====
section
/-!
DEFINITION. Machine/Power.lean: commands of the power supervisor and of the package's supply, reset and thermal inputs (17_power.md, R496 to R522;
20_package.md, R550 to R559; 01_architecture.md, R12, R22, R562; 13_faults.md, R398).
-/
namespace Sys2Proof.Machine

/-! ## VDD_AON (R12, R498, R550, R553) -/

/-- The block without VDD_AON: what is left is what is non-volatile, and what stands at its pins. -/
def State.unpowered (s : State) : State :=
  let c := s.coreOff
  { pending := c.pending, out := c.out, fresh := c.fresh, log := c.log, sht := c.sht, pair := c.pair, vlt := c.vlt, cxl := c.cxl,
    cmd := c.cmd, fls := c.fls,
    pwr := { refCxl := s.pwr.refCxl, refEth := s.pwr.refEth, xtal := s.pwr.xtal, junction := s.pwr.junction } }

/-- The register that a word of the sequence EEPROM goes to (R498): steps 0 to 11, then PWR_SEQ, PWR_RIDE, PWR_BANK, PWR_BANK_BUS. -/
def eepromAddr (k : Nat) (second : Bool) : Nat :=
  if k < 12 then (if second then Reg.PWR_STEP_B k else Reg.PWR_STEP_A k)
  else if k = 12 then (if second then Reg.PWR_RIDE else Reg.PWR_SEQ)
  else (if second then Reg.PWR_BANK_BUS else Reg.PWR_BANK)

/-- A register takes a word of the EEPROM in the bits that hold a setting. -/
def State.setFromEeprom (s : State) (a : Nat) (w : Word) : State :=
  let m := match regAt a with
    | some r => r.maskOf [.rwg, .rsc]
    | none => 0
  s.setReg a ((resetAt a &&& ~~~m) ||| (w &&& m))

/-- The EEPROM's 28 words are taken; where the read or its CRC failed the registers keep their reset values (R498). -/
def State.loadTable (s : State) (eeprom : Option (List (Word × Word))) : State :=
  match eeprom with
  | none => s
  | some l =>
    if l.length ≠ 14 then s
    else
      let s := l.zipIdx.foldl (fun (s : State) (c : (Word × Word) × Nat) =>
        (s.setFromEeprom (eepromAddr c.2 false) c.1.1).setFromEeprom (eepromAddr c.2 true) c.1.2) s
      { s with pwr := { s.pwr with seq := .off } }

/-- VDD_AON_APPLIED (R12, R18, R498, R509, R550, R553): the first application of VDD_AON, with the inputs and straps as they stand and what the sequence
EEPROM gives. -/
def execVddAonApplied (pins : Pins) (mfgTestN xtalBypass : Bool) (eeprom : Option (List (Word × Word))) (s : State) : Ans :=
  .next (if s.pwr.aon then s else
    let s := s.unpowered
    let s := { s with pwr := { s.pwr with aon := true, mfgTestN := mfgTestN, xtalBypass := xtalBypass },
                      tim := { s.tim with locked := s.pwr.refCxl, relocks := bit s.pwr.refCxl } }
    let s := (s.sample pins).loadTable eeprom
    if s.fld Reg.PWR_CTL Fld.PWR_CTL_AUTO_ON = 1 then s.onRequest else s)

/-- VDD_AON_REMOVED (R12, R18, R405): what was not written to flash or NAND is lost. -/
def execVddAonRemoved (s : State) : Ans := .next (if s.pwr.aon then s.unpowered else s)

/-! ## The step table (R497, R499) -/

/-- The step table as its registers hold it. -/
def State.stepRegs (s : State) : List (Word × Word) :=
  (List.range 12).map (fun k => (s.reg (Reg.PWR_STEP_A k), s.reg (Reg.PWR_STEP_B k)))

/-- VALID, HEAD, CHAIN, PG of an entry. -/
def entryValid (e : Word × Word) : Bool := e.1.field 31 31 == 1
/-- HEAD. -/
def entryHead (e : Word × Word) : Bool := e.1.field 30 30 == 1
/-- CHAIN. -/
def entryChain (e : Word × Word) : Nat := e.1.field 29 28
/-- PG. -/
def entryPg (e : Word × Word) : Nat := e.1.field 11 0

/-- The valid entries from the first. -/
def validSteps (t : List (Word × Word)) : List (Word × Word) := t.takeWhile entryValid

/-- R499 rejects the table. -/
def tableBad (t : List (Word × Word)) : Bool :=
  let v := validSteps t
  (t.drop v.length).any entryValid || v.any (fun e => entryPg e == 0) ||
  v.zipIdx.any (fun c => (v.drop (c.2 + 1)).any (fun d => entryPg c.1 &&& entryPg d != 0)) ||
  (List.range 4).any (fun chain => match v.filter (fun e => entryChain e == chain) with
    | [] => false
    | first :: rest => !entryHead first || rest.any entryHead)

/-- The PG_IN bits a table names. -/
def tablePg (t : List (Word × Word)) : Nat := (validSteps t).foldl (fun n e => n ||| entryPg e) 0

/-- The steps of the copy in use. -/
def State.stepCount (s : State) : Nat := (validSteps s.pwr.table).length

/-! ## Power-up (R500 to R503) -/

/-- The conditions of R500 but for the table and PG_IN; RESET_N high and a junction below its limit (R552, R559). -/
def State.powerGate (s : State) : Bool :=
  s.pwr.seq == .off && s.pwr.onPending && s.pwr.pfailN && s.pwr.holdupOk && s.pwr.resetN && !s.pwr.hot &&
  (match s.pwr.bank with
   | some (e, t) => decide (s.tim.ticks ≤ t + 1000000) && decide (s.energy 60 ≤ e)
   | none => false) &&
  (s.pwr.seqIn || s.fld Reg.PWR_SEQ Fld.PWR_SEQ_IN_GATE == 0)

/-- A step starts (R501): its chain's head goes high where HEAD is 1. -/
def State.startStep (s : State) (k : Nat) : State :=
  let e := s.pwr.table.getD k (0, 0)
  { s with pwr := { s.pwr with step := k, started := k + 1,
                               seqEn := if entryHead e then s.pwr.seqEn ||| BitVec.ofNat 4 (2 ^ entryChain e) else s.pwr.seqEn } }

/-- POWER_UP_START (R499, R500). -/
def execPowerUpStart (s : State) : Ans :=
  .next (if !s.powerGate then s else
    let t := s.stepRegs
    let high := tablePg t &&& s.pwr.pg.toNat
    if tableBad t then
      { s with pwr := { s.pwr with table := t, faultKind := 5, faultStep := 0, faultPg := 0 } }.powerEvent 5 0 0
    else if (validSteps t).isEmpty then s
    else if high ≠ 0 then
      s.seqFault 1 (((validSteps t).zipIdx.find? (fun c => entryPg c.1 &&& high != 0)).map (·.2) |>.getD 0) high
    else
      let s := { s with
        pwr := { s.pwr with table := t, seq := .upSeq, onPending := false, qualified := 0, started := 0, seqEn := 0, crossing := none },
        mode := { s.mode with bringup := .sequencing, transit := true } }
      s.startStep 0)

/-- A bring-up fails (R22, R471): with the frame recorded in force, once more with the newest kept frame older than it; else it is over. -/
def State.bringupFail (s : State) : State :=
  let older := (s.sht.frames.filter (fun f => f.state == .kept && decide (f.num < s.sht.recorded))).foldl (fun (b : Option Frame) f =>
    match b with
    | none => some f
    | some g => some (if g.num < f.num then f else g)) none
  match (if s.mode.retrying then none else older) with
  | some f =>
    let s := { s.forceLog 0x10 0 f.num with sht := { s.sht with recorded := f.num } }
    State.endBringup { s with mode := { s.mode with retrying := true } } 0x0D true
  | none => s.endBringup 0x0D false

/-- A power event kept by the always-on domain is written as a replayed record. -/
def State.replayEvent (s : State) (e : PowerEvent) : State :=
  if e.kind = 0x10 then s.logAt LogT.modeChange Src.mode Cls.info true e.time [0, 0, w32 e.bits]
  else s.logAt LogT.powerEvent Src.power (if e.kind = 0x11 then Cls.critical else Cls.major) true e.time [w32 e.kind, w32 e.step, w32 e.bits]

/-- A notification that came while the core was off is written as a replayed record. -/
def State.replayNotify (s : State) (n : Nat) : State :=
  let b := s.sb n
  match b.notifyOff, b.notify with
  | some t, some (a, d) =>
    (s.logAt LogT.sideband (Src.sb0 + n) Cls.info true t [w32 a, w32 d]).setSb n { b with notifyOff := none }
  | _, _ => s.setSb n { b with notifyOff := none }

/-- What the always-on domain kept goes to the logbook (R503, R533, R559, R562). -/
def State.replayEvents (s : State) : State :=
  let s := s.pwr.events.foldl State.replayEvent s
  let s := { s with pwr := { s.pwr with events := [] } }
  [1, 2, 3].foldl State.replayNotify s

/-- The boot ROM selects the firmware (R444): the preferred slot, else the other with FALLBACK; none: neither passes. -/
def State.bootFirmware (s : State) : State × Bool :=
  let p := s.prefSlot
  if s.imageGood p then ({ s with cmd := { s.cmd with active := some p, fallback := false } }, true)
  else
    let s := s.bump Ctr.CRY_CNT_BOOT_REJECT
    if s.imageGood (1 - p) then ({ s with cmd := { s.cmd with active := some (1 - p), fallback := true } }, true)
    else (s.bump Ctr.CRY_CNT_BOOT_REJECT, false)

/-- The population disagrees with the frame in force (R222): TM_XMAP_GEOM or the data rates. -/
def State.popDisagrees (s : State) (p : Population) : Bool :=
  let g := fun (f : Fld) => s.fld Reg.TM_XMAP_GEOM f
  let rates := (List.range p.channels).map (fun n => s.fld (Reg.DC_CFG (chPage n)) Fld.DC_CFG_RATE)
  g Fld.TM_XMAP_GEOM_CH_BITS != p.chBits || g Fld.TM_XMAP_GEOM_RANK_BITS != p.rankBits || g Fld.TM_XMAP_GEOM_ROW_BITS != p.rowBits ||
  (g Fld.TM_XMAP_GEOM_X8 == 1) != p.x8 || rates.any (fun r => r != rates.headD 0 || r == 0 || decide (4 < r) || (r == 4 && p.dpc == 2))

/-- A retired DDR5 channel of the repair table of which every DIMM reports the serial number recorded (R566). -/
def State.stillRetired (s : State) (b : BootPop) : Option (Nat × List Nat) :=
  let now := fun (i : Nat) => ((b.serials.find? (fun c => c.1 == i)).map (·.2)).getD []
  s.vlt.nand.tables.repair.retired.find? (fun r => !r.2.isEmpty && decide (now r.1 = r.2))

/-- The instances that train: the populated DDR5 channels and those of the HBM stacks in use (R220, R415). -/
def State.instances (s : State) (p : Population) : List Nat :=
  List.range p.channels ++
    ((List.range 32).map (· + 16)).filter (fun i => !s.flt.stackList.contains ((i - 16) / 16))

/-- Bring-up after the last step (R12, R22, R31, R222, R284, R444, R471, R502, R537, R566): what is in flash is taken up, secure boot, frame load, the
population; training then runs. -/
def State.bootCore (s : State) (pop : Option BootPop) : State :=
  let s := { s with pwr := { s.pwr with seq := .up, seqOut := true, core := true }, mode := { s.mode with bringup := .boot } }
  let s := ((s.refreshCopies.logBoot).replayEvents).journalScan
  let s := s.vcoreCommand s.vcoreTarget
  match s.bootFirmware with
  | (s, false) => (s.logRec LogT.firmware Src.cry Cls.critical [w32 s.prefSlot]).bringupFail
  | (s, true) =>
    let s := s.loadFrame
    match pop with
    | none => (s.logRec LogT.config Src.cox Cls.critical [1]).bringupFail
    | some b =>
      let stackList := s.vlt.nand.tables.stackList
      let served := computeServed b.pop stackList s.net.maxConn
      let serials : SMap (List Nat) := b.serials.foldl (fun (m : SMap (List Nat)) c => m.insert c.1 c.2) {}
      let s := { s with
        flt := { s.flt with stackList := stackList }, addr := { s.addr with served := served }, ec := { s.ec with serials := serials },
        vlt := { s.vlt with nand := { s.vlt.nand with raw := b.raw, pages := b.pages, blocks := b.blocks } } }
      if !b.good then (s.logRec LogT.config Src.cox Cls.critical [2]).bringupFail
      else if s.popDisagrees b.pop then (s.logRec LogT.config Src.cox Cls.critical [3]).bringupFail
      else match s.stillRetired b with
      | some r => (s.logRec LogT.config Src.cox Cls.critical (w32 4 :: w32 r.1 :: r.2.map w32)).bringupFail
      | none => (s.instances b.pop).foldl (fun (s : State) i => s.setChan i { s.chan i with state := .training }) s

/-- STEP_QUALIFIED (R501, R502, R510): the next step, what crossed the sequence, or the bring-up after the last step, `pop` what it reads of the population. -/
def execStepQualified (pop : Option BootPop) (s : State) : Ans :=
  .next (if s.pwr.seq != .upSeq then s else
    let k := s.pwr.step
    let s := { s with pwr := { s.pwr with qualified := k + 1, pg := s.pwr.pg ||| BitVec.ofNat 12 (s.stepPg k) } }
    match s.pwr.crossing with
    | some (reason, keep) => s.endBringup reason keep
    | none => if k + 1 < s.stepCount then s.startStep (k + 1) else s.bootCore pop)

/-- STEP_TIMEOUT (R501, R503, R510). -/
def execStepTimeout (s : State) : Ans :=
  .next (if s.pwr.seq != .upSeq then s else
    match s.pwr.crossing with
    | some (reason, keep) => s.endBringup reason keep
    | none =>
      let k := s.pwr.step
      (s.seqFault 2 k ((BitVec.ofNat 12 (s.stepPg k) &&& ~~~s.pwr.pg).toNat)).endBringup 0x0D false)

/-! ## RESTORE is entered (R22, R34, R170, R268, R300, R405) -/

/-- How far placement has come: the next home extents, HBM places left, each tenant's use, the runs. -/
structure Placing where
  hbm : Nat
  hbmEnd : Nat
  ddr : Nat
  use : SMap Nat
  runs : List PlaceRun
  deriving DecidableEq, Repr

/-- Place a span: in HBM as far as `room` and the free places go, the rest in DDR5. -/
def Placing.span (p : Placing) (first count room : Nat) : Placing :=
  let h := min count (min room (p.hbmEnd - p.hbm))
  let a : List PlaceRun := if h = 0 then [] else [⟨first, h, true, p.hbm⟩]
  let b : List PlaceRun := if count - h = 0 then [] else [⟨first + h, count - h, false, p.ddr⟩]
  { p with hbm := p.hbm + h, ddr := p.ddr + (count - h), runs := p.runs ++ a ++ b }

/-- Place a region within its tenant's ceiling. -/
def Placing.region (p : Placing) (s : State) (r : Region) : Placing :=
  if r.tier = 2 then p.span r.base r.len 0
  else
    let used := p.use.getD r.tenant 0
    let q := p.span r.base r.len (s.ceilTenant r.tenant - used)
    { q with use := q.use.insert r.tenant (used + (q.hbm - p.hbm)) }

/-- The spans of the served range in no region, from `at_`, regions by rising base. -/
def regionGaps (len : Nat) : Nat → List Region → List (Nat × Nat)
  | at_, [] => if at_ < len then [(at_, len - at_)] else []
  | at_, r :: t => (if at_ < r.base then [(at_, r.base - at_)] else []) ++ regionGaps len (max at_ (r.base + r.len)) t

/-- The tier manager places every extent (R170). -/
def State.placeAll (s : State) : State :=
  let v := s.addr.served
  let hbmTotal := (hbmInUse v.pop s.flt.stackList - sumL ((v.reserves.drop 5).take 2)) / extentBytes
  let ddrTotal := (v.pop.ddr - sumL (v.reserves.take 5)) / extentBytes
  let s := { s with tier := { s.tier with hbmTotal := hbmTotal, ddrTotal := ddrTotal } }
  let regions := (s.addr.regions.values.foldl (fun (m : SMap Region) r => m.insert r.base r) {}).values
  let of_ := fun (t : Nat) => regions.filter (fun r => r.tier == t)
  let p : Placing := { hbm := 0, hbmEnd := hbmTotal, ddr := 0, use := {}, runs := [] }
  let p := (of_ 1 ++ of_ 0 ++ of_ 3 ++ of_ 2).foldl (fun (p : Placing) r => p.region s r) p
  let p := (regionGaps v.len 0 regions).foldl (fun (p : Placing) g => p.span g.1 g.2 g.2) p
  { s with tier := { s.tier with runs := p.runs, freeHbm := [(p.hbm, hbmTotal - p.hbm)], freeDdr := [(p.ddr, ddrTotal - p.ddr)],
                                 age := {}, moved := {} } }

/-- The TABLE records are loaded (R293, R312 step 3). -/
def State.loadTables (s : State) : State :=
  let t := s.vlt.nand.tables
  { s with addr := { s.addr with regions := t.regions, shares := t.shares }, cmd := { s.cmd with keys := t.keys },
           tier := { s.tier with tenants := t.tenants }, pair := { s.pair with ext := t.ext, base := t.extBase, record := t.pair } }

/-- An entry of the repair table whose device is no longer the one it names is dropped and logged. -/
def State.repairDropped (s : State) (inst : Nat) : State := s.logRec LogT.config Src.ec Cls.info [w32 inst]

/-- A remap entry, with the serial it was recorded under, is kept where the device is the same. -/
def State.loadRemap (s : State) (r : Remap × Nat) : State :=
  if s.serialFor r.1.inst (s.dramOf r.1.src).rank = r.2 then { s with ec := { s.ec with remaps := s.ec.remaps ++ [r.1] } }
  else s.repairDropped r.1.inst

/-- A mark likewise. -/
def State.loadMark (s : State) (m : Mark × Nat) : State :=
  if s.serialFor m.1.inst m.1.rank = m.2 then { s with ec := { s.ec with marks := s.ec.marks ++ [m.1] } }
  else s.repairDropped m.1.inst

/-- A repaired row likewise. -/
def State.loadRow (s : State) (r : RepairedRow × Nat) : State :=
  if s.serialFor r.1.inst r.1.rank = r.2 then { s with ec := { s.ec with rows := s.ec.rows ++ [r.1] } }
  else s.repairDropped r.1.inst

/-- The repair table is applied (R268, R566): entries of another serial number are dropped with a record, the others are in force again. -/
def State.loadRepair (s : State) : State :=
  let t := s.vlt.nand.tables.repair
  let s := t.retired.foldl (fun (s : State) r => s.repairDropped r.1) s
  let s := t.remaps.foldl State.loadRemap s
  let s := t.marks.foldl State.loadMark s
  t.rows.foldl State.loadRow s

/-- The counts of R405 from the logbook: transient events within RECUR_H hours, of records since VDD_AON was applied. -/
def State.rebuildTransient (s : State) : State :=
  let since := s.pwr.aonSeq.getD 0
  let span := max 1 (s.fld Reg.FLT_CTL Fld.FLT_CTL_RECUR_H) * 3600 * 10 ^ 9
  let evs := (s.log.roll.map (·.record)).filterMap (fun r =>
    if r.typ = LogT.faultEvent ∧ since ≤ r.seq ∧ s.now ≤ r.time + span ∧ wordAt r.payload 2 = 1 then
      some ((wordAt r.payload 0).toNat, (wordAt r.payload 1).toNat, r.time)
    else none)
  { s with flt := { s.flt with transient := evs } }

/-- Links whose PERST_N is released train (R371). -/
def State.trainLinks (s : State) : State :=
  [(0, 0), (0, 1), (1, 0), (1, 1)].foldl (fun (s : State) (c : Nat × Nat) =>
    let l := s.link c.1 c.2
    if s.linkInUse c.1 c.2 && !l.perst then s.setLink c.1 c.2 { l with state := .training } else s) s

/-- The channels that trained are active (R220). -/
def State.channelsTrained (s : State) : State :=
  { s with ch := s.ch.mapVals (fun _ (c : Channel) => if c.state == ChState.training then { c with state := ChState.active } else c) }

/-- STATE becomes RESTORE (R22, R561), and the TABLE records are loaded. -/
def State.enterRestore (s : State) : State :=
  ({ s with mode := { s.mode with bringup := .rebuild, transit := false } }.setMode .restore 0x01).loadTables

/-- The served range does not hold the highest region (R34): logged, and the bring-up fails. -/
def State.rangeShort (s : State) : State :=
  let top := (s.addr.regions.values.find? (fun r => decide (s.addr.served.len < r.base + r.len))).map (·.id) |>.getD 0
  (s.logRec LogT.config Src.cox Cls.critical (lohi (s.addr.served.len * extentBytes) ++ [w32 top])).bringupFail

/-- RESTORE begins (R170, R268, R274, R371, R405): repairs, placement, counts, scrub, links. -/
def State.beginRestore (s : State) : State :=
  let s := ((((s.loadRepair).placeAll).rebuildTransient).scrubPass).trainLinks
  s.twlEnable (s.fld Reg.TWL_CTL Fld.TWL_CTL_ENABLE == 1)

/-- What RESTORE starts with is checked (R34, R300). -/
def State.checkRestore (s : State) : State :=
  if s.addr.served.len < s.highestRegion then s.rangeShort
  else if s.vaultShort then { s with vlt := { s.vlt with short := true } }.bringupFail
  else s.beginRestore

/-- TRAINING_COMPLETE (R22, R34, R170, R268, R300, R405, R561): STATE becomes RESTORE. -/
def execTrainingComplete (s : State) : Ans :=
  .next (if s.mode.bringup != .boot || !s.pwr.core || s.cmd.active.isNone then s
    else ((s.channelsTrained).enterRestore).checkRestore)

/-! ## The leaf map is rebuilt (R312, R316, R317) -/

/-- Replace or remove a leaf-map entry. -/
def mapEntry (m : SMap LeafLoc) (leaf : Nat) (e : Option LeafLoc) : SMap LeafLoc :=
  match e with
  | some l => m.insert leaf l
  | none => m.erase leaf

/-- VLT_STATUS.LAST_IMAGE (R316, R317): 3 unformatted; 1 the latest SEAL is without its PRESERVE_DONE; 2 LEAF records are newer than the latest
PRESERVE_DONE, which belongs to the latest SEAL; 0 complete. -/
def Nand.image (n : Nand) : Nat :=
  let doneSeq := (n.done.map (·.seq)).getD 0
  let sealSeq := (n.sealed.map (·.seq)).getD 0
  let newest : Nat := n.leaves.values.foldl (fun (m : Nat) (r : LeafRec) => if r.programmed then max m r.seq else m) 0
  if n.super.isNone then 3
  else if n.sealed.isSome && (n.done.map (·.sealSeq)) != some sealSeq then 1
  else if doneSeq < newest then 2
  else 0

/-- The leaf map of steps 2, 4 and 5 of R312. -/
def Nand.rebuilt (n : Nand) : SMap LeafLoc :=
  let ckpt := (n.super.map (·.ckptSeq)).getD 0
  let deltas := n.deltas.filter (fun d => decide (ckpt ≤ d.1))
  let m := deltas.foldl (fun m d => mapEntry m d.2.1 d.2.2) n.ckptMap
  if n.image = 0 ∨ n.image = 3 then m
  else
    let last := deltas.foldl (fun k d => max k d.1) ckpt
    let found := n.leaves.cells.filter (fun c => c.2.programmed && (match n.segs.find? (locSeg c.1) with
      | some g => decide (last < g.seq)
      | none => false))
    let bySeq := (found.foldl (fun (q : SMap (Nat × LeafRec)) c => q.insert c.2.seq c) {}).values
    bySeq.foldl (fun m c => m.insert c.2.leaf ⟨c.2.zone, c.1⟩) m

/-- The highest SEQ in the vault (R294). -/
def Nand.highSeq (n : Nand) : Nat :=
  let a := n.leaves.values.foldl (fun m r => max m r.seq) 0
  let b := n.deltas.foldl (fun m d => max m d.1) a
  let c := n.segs.values.foldl (fun m g => max m g.seq) b
  let d := ([n.supA, n.supB].filterMap id).foldl (fun m p => max m p.seq) c
  max d (max ((n.sealed.map (·.seq)).getD 0) ((n.done.map (·.seq)).getD 0))

/-- The leaves lost under R316. -/
def Nand.lostBy (n : Nand) (m : SMap LeafLoc) : List Nat :=
  match n.sealed with
  | none => []
  | some r => r.leaves.filter (fun l => match (m.find? l).bind (fun e => n.leaves.find? e.loc) with
    | some q => decide (q.seq < r.seq)
    | none => true)

/-- The leaf map and the valid map stand, the image is judged (R312 steps 2 to 6, R316, R317). -/
def State.rebuildMap (s : State) : State :=
  let n := s.vlt.nand
  let inRange := fun (l : Nat) => decide (l / extentLeaves < s.addr.served.len)
  let m := n.rebuilt
  let image := n.image
  let lost := if image = 1 then n.lostBy m else []
  let all := (m.keys.filter inRange).foldl (fun (v : SMap Unit) l => v.insert l ()) {}
  let all := (lost.filter inRange).foldl (fun (v : SMap Unit) l => v.insert l ()) all
  let s := { s with
    vlt := { s.vlt with map := m, seq := n.highSeq + 1, lastImage := image, lostLeaves := lost, loaded := true,
                        unrestored := all.cells.foldl (fun (u : SMap Unrestored) c => u.insert c.1 ⟨false, 2, false, false, 0⟩) {} },
    addr := { s.addr with valid := all },
    cmd := { s.cmd with dirtyCount := if image = 1 ∨ image = 2 then s.cmd.dirtyCount + 1 else s.cmd.dirtyCount } }
  let s := if image = 1 then
      let s := lost.foldl (fun (s : State) l => let x := l / extentLeaves; s.setExtPair x { s.extPair x with st := true }) s
      s.logRec LogT.vaultLoss Src.vlt Cls.critical (w32 lost.length :: lohi ((n.sealed.map (·.seq)).getD 0))
    else if image = 2 then
      let newest := n.leaves.values.foldl (fun (b : Nat × Nat) r => if r.programmed && decide (b.1 < r.seq) then (r.seq, r.time) else b) (0, 0)
      s.staleAll.logRec LogT.vault Src.vlt Cls.critical (lohi newest.2)
    else s
  let t := n.tables
  s.reloadNet t.memKeys t.domains t.listen t.addrs t.prot

/-- LEAF_MAP_REBUILT (R124, R312): the steps up to 6 of R312. With the twin reachable, hosts are served once its epoch table has come; the command comes
again where the twin is lost meanwhile. -/
def execLeafMapRebuilt (s : State) : Ans :=
  .next (if s.mode.bringup != .rebuild || s.mode.mode != .restore then s
    else if s.vlt.loaded then (if s.twinReachable then s else s.serveHosts)
    else
      let s := s.rebuildMap
      if s.twinReachable then s.meetTwin else s.serveHosts)

/-- BRINGUP_FAILURE (R22): boot, training or the rebuild fails for a cause of its own. -/
def execBringupFailure (cause : Nat) (s : State) : Ans :=
  .next (if s.mode.bringup == .boot || s.mode.bringup == .rebuild then
      (s.logRec LogT.config Src.cox Cls.critical [0, w32 cause]).bringupFail
    else s)

/-! ## Running rails (R504 to R506) -/

/-- The step of a PG_IN bit. -/
def State.stepOfBit (s : State) (bit_ : Nat) : Option Nat := (List.range s.pwr.qualified).find? (fun k => (s.stepPg k).testBit bit_)

/-- A rail has dropped while hosts are served or saved (R22, R504, R505); `pres` that PRESERVE needs it. -/
def State.railLost (s : State) (pres : Bool) : State :=
  if s.mode.mode == .standby then (if pres && s.pwr.core then s.powerDown else s)
  else
    let s := s.preserveTrigger 0x07
    if pres then (if s.mode.preserveDone then s else s.preserveDown 0x07 true)
    else { s with mode := { s.mode with railDropped := true } }

/-- PG_FALL (R502 to R505): a power-good of a qualified step reads low for so many ns. -/
def execPgFall (bit ns : Nat) (s : State) : Ans :=
  .next (if s.pwr.seq != .up && s.pwr.seq != .upSeq then s else
    match s.stepOfBit bit with
    | none => s
    | some k =>
      if ns ≤ 2000 then s.bump Ctr.PWR_CNT_PG_GLITCH
      else
        let m := BitVec.ofNat 12 (2 ^ bit)
        let s := { s with pwr := { s.pwr with pg := s.pwr.pg &&& ~~~m, faultKind := 3, faultStep := k, faultPg := m } }
        let s := (s.bump Ctr.PWR_CNT_RAIL_FAULT).tell (unitId 0x13 bit) 0x18 Cls.critical
        if s.pwr.seq == .upSeq || (s.mode.bringup != .none && s.mode.bringup != .served) then
          (s.seqFault 3 k (2 ^ bit)).endBringup 0x0D false
        else (s.powerEvent 3 k (2 ^ bit)).railLost ((s.stepA k).field 27 27 == 1))

/-- SEQ_IN_LOW (R506, R510): SEQ_IN has been low for longer than 2 µs while it gates. -/
def execSeqInLow (s : State) : Ans :=
  .next (
    let s := { s with pwr := { s.pwr with seqIn := false } }
    if s.fld Reg.PWR_SEQ Fld.PWR_SEQ_IN_GATE == 0 || (s.pwr.seq != .up && s.pwr.seq != .upSeq) then s
    else if s.mode.bringup != .none && s.mode.bringup != .served then s.crossBringup 0x08 true
    else s.offRequest 0x08)

/-! ## Power-down (R507, R508) -/

/-- The head of the next chain goes low; after the last SEQ_STATE becomes OFF_WAIT. -/
def State.lowerNext (s : State) : State :=
  match s.pwr.downChains with
  | [] => { s with pwr := { s.pwr with seq := .offWait, started := 0, qualified := 0, stuck := [], seqEn := 0 },
                   mode := { s.mode with transit := false } }
  | c :: _ => { s with pwr := { s.pwr with seqEn := s.pwr.seqEn &&& ~~~(BitVec.ofNat 4 (2 ^ c)), stuck := [] } }

/-- The chain at the front is down. -/
def State.chainDown (s : State) : State :=
  State.lowerNext { s with pwr := { s.pwr with downChains := s.pwr.downChains.drop 1 } }

/-- OUT_HOLD_EXPIRED (R507 steps 2 and 3): the core domain is held in reset, the first chain is switched off. -/
def execOutHoldExpired (s : State) : Ans :=
  .next (if s.pwr.seq == .downSeq && s.pwr.downHold then
      let s := s.coreOff
      State.lowerNext { s with pwr := { s.pwr with downHold := false } }
    else s)

/-- The steps of a chain started in this power-up. -/
def State.chainSteps (s : State) (chain : Nat) : List Nat := (List.range s.pwr.started).filter (fun k => s.stepChain k == chain)

/-- A chain is being switched off. -/
def State.lowering (s : State) (chain : Nat) : Bool :=
  s.pwr.seq == .downSeq && !s.pwr.downHold && s.pwr.downChains.head? == some chain

/-- CHAIN_DISCHARGED (R507): every bit of the chain's started steps reads low, but for those logged RAIL_STUCK. -/
def execChainDischarged (chain : Nat) (s : State) : Ans :=
  .next (if s.lowering chain then
      let low := ((s.chainSteps chain).filter (fun k => !s.pwr.stuck.contains k)).foldl (fun n k => n ||| s.stepPg k) 0
      State.chainDown { s with pwr := { s.pwr with pg := s.pwr.pg &&& ~~~(BitVec.ofNat 12 low) } }
    else s)

/-- DISCHARGE_TIMEOUT (R507): bits of a step are still high when its DISCH_MS ends. -/
def execDischargeTimeout (step : Nat) (s : State) : Ans :=
  .next (if decide (step < s.pwr.started) && s.lowering (s.stepChain step) && !s.pwr.stuck.contains step then
      let chain := s.stepChain step
      let high := s.stepPg step &&& s.pwr.pg.toNat
      let bits := if high = 0 then s.stepPg step else high
      let s := { s with pwr := { s.pwr with faultKind := 4, faultStep := step, faultPg := BitVec.ofNat 12 bits, stuck := s.pwr.stuck ++ [step] } }
      let s := (s.bump Ctr.PWR_CNT_RAIL_STUCK).powerEvent 4 step bits
      let left := (s.chainSteps chain).any (fun k => !s.pwr.stuck.contains k && (s.stepPg k &&& s.pwr.pg.toNat) != 0)
      if left then s else s.chainDown
    else s)

/-- OFF_WAIT_END (R508): MIN_OFF_MS has passed. -/
def execOffWaitEnd (s : State) : Ans :=
  .next (if s.pwr.seq == .offWait then { s with pwr := { s.pwr with seq := .off } } else s)

/-! ## Mains (R510 to R514) -/

/-- PFAIL_N_FALL (R510 to R512, R514). -/
def execPfailNFall (s : State) : Ans :=
  .next (if !s.pwr.aon then s else
    let s := { s with pwr := { s.pwr with pfailN := false } }
    if s.mode.mode == .preserve then s
    else
      let s := { s with pwr := { s.pwr with riding := true } }
      if s.running then (if s.fld Reg.PWR_RIDE Fld.PWR_RIDE_T_RIDE_MS = 0 then s.preserveTrigger 0x05 else s)
      else s.crossBringup 0x05 true)

/-- PFAIL_N_RISE (R511): the timer holds. -/
def execPfailNRise (s : State) : Ans := .next (if s.pwr.aon then { s with pwr := { s.pwr with pfailN := true } } else s)

/-- RIDE_REARM_EXPIRED (R511): PFAIL_N has been high for REARM_MS. -/
def execRideRearmExpired (s : State) : Ans :=
  .next (if s.pwr.pfailN && s.pwr.riding && s.mode.mode != .preserve then
      { s with pwr := { s.pwr with riding := false } }.bump Ctr.PWR_CNT_RIDE
    else s)

/-- RIDE_TIMER_EXPIRED (R512): the timer has reached T_RIDE_MS. -/
def execRideTimerExpired (s : State) : Ans :=
  .next (if s.pwr.riding && !s.pwr.pfailN && s.running then s.preserveTrigger 0x05 else s)

/-! ## The bank (R515 to R520, R398) -/

/-- BANK_READING (R515): the supervisor's reading of the bank ends, with the energy read or failed. -/
def execBankReading (joules : Option Nat) (s : State) : Ans :=
  .next (if !s.pwr.aon || s.sb2.state == .failed then s else
    let mine := match s.sb2.cur with | some r => r.supervisor | none => false
    match joules with
    | none => if mine then s.sbEnd 2 2 else (s.bump (Ctr.SB_CNT_NAK (sbPage 2))).sbResult 2 2 0
    | some e =>
      let s := if mine then s.sbEnd 2 1 else (s.bump (Ctr.SB_CNT_XFER (sbPage 2))).sbResult 2 1 0
      s.bankReading e)

/-- BANK_READING_STALE (R398): the last reading is older than 1 s. -/
def execBankReadingStale (s : State) : Ans :=
  .next (if s.pwr.aon && !s.pwr.bankStale then (State.energyLow { s with pwr := { s.pwr with bankStale := true } }).pump else s)

/-- HOLDUP_OK_LOW (R510, R519): HOLDUP_OK has been low for longer than 100 µs. -/
def execHoldupOkLow (s : State) : Ans :=
  .next (if !s.pwr.aon then s else
    let s := { s with pwr := { s.pwr with holdupOk := false } }
    if s.mode.mode == .preserve then s else s.energyLow)

/-! ## The core supply (R521) -/

/-- VCORE_STEP: the voltage moves towards TARGET by at most 10 mV. -/
def execVcoreStep (s : State) : Ans :=
  .next (match s.pwr.vcoreCmd with
    | none => s
    | some v =>
      let t := s.vcoreTarget
      if !s.pwr.core || v = t then s
      else s.vcoreCommand (if v < t then min t (v + 10) else max t (v - 10)))

/-- VCORE_READBACK: READ_VOUT lands. -/
def execVcoreReadback (mv : Nat) (s : State) : Ans :=
  .next (if s.pwr.aon && s.pwr.vcoreCmd.isSome && s.sb1.state != .failed then
      ((s.bump (Ctr.SB_CNT_XFER (sbPage 1))).sbResult 1 1 0).vcoreRead mv
    else s)

/-! ## Reset and heat (R552, R558, R559) -/

/-- RESET_N_LOW (R552): for longer than 1 µs. -/
def execResetNLow (s : State) : Ans :=
  .next (if !s.pwr.aon then s else
    let s := { s with pwr := { s.pwr with resetN := false } }
    match s.pwr.seq with
    | .off | .offWait | .noTable => s
    | _ => s.offRequest 0x08)

/-- JUNCTION_OVERTEMP (R559): the junction has read 115 °C or more for 1 ms. -/
def execJunctionOvertemp (temp : Nat) (s : State) : Ans :=
  .next (if !s.pwr.aon || decide (temp < 115) then s else
    let s := { s with pwr := { s.pwr with junction := temp, hot := true, thermN := false } }
    if s.mode.mode == .preserve || s.pwr.seq == .downSeq then s
    else
      let s := if s.pwr.core then s.logRec LogT.powerEvent Src.power Cls.critical [0x11, 0, w32 temp] else s.powerEvent 0x11 0 temp
      s.offRequest 0x08)

/-- THERM_N (R558, R559): a junction reading: the pin goes low at 105 °C and is released at 102 °C; at 95 °C an on request waits no longer. -/
def execThermN (temp : Nat) (s : State) : Ans :=
  .next (if !s.pwr.aon then s else
    { s with pwr := { s.pwr with
      junction := temp, hot := s.pwr.hot && decide (95 < temp),
      thermN := if 105 ≤ temp then false else if temp ≤ 102 then true else s.pwr.thermN } })

/-- POWER_STATUS (R522): the registers as one AON tick left them. -/
def execPowerStatus (m : Mbx) (_inp : List Word) (s : State) : Ans :=
  .next (s.query m ⟨0xC802, true, false, false, true⟩ (m.len == 0) (fun s =>
    let last := fields [(Fld.VLT_PRESERVE_LAST_TIME_MS, s.vlt.lastMs), (Fld.VLT_PRESERVE_LAST_MARGIN_J, s.vlt.lastJ)]
    .ok ([Reg.PWR_STATUS, Reg.PWR_PG, Reg.PWR_BANK_E, Reg.PWR_NEED, Reg.PWR_FAULT, Reg.PWR_VCORE, Reg.PWR_RIDE, Reg.PWR_CTL].map s.copyOf ++
      [last, s.copyOf Reg.SYS_MODE])))

end Sys2Proof.Machine
end

