-- ==== Sys2Proof/Machine/Package.lean ====
section
/-!
DEFINITION. Machine/Package.lean: commands of the JTAG port and of the reference-clock monitors (20_package.md, R553 to R556; 13_faults.md, R396, R397;
01_architecture.md, R18).
-/
namespace Sys2Proof.Machine

/-- JTAG_INSTRUCTION (R553, R554): BYPASS, IDCODE and SAMPLE/PRELOAD; with MFG_TEST_N high any other acts as BYPASS. The manufacturer code of IDCODE is
a free value. -/
def execJtagInstruction (instr : JtagInstr) (s : State) : Ans :=
  let bypass : State := s.emit (.jtag 0 0)
  if !s.pwr.aon then .next s
  else match instr with
  | .bypass | .other => .next bypass
  | .idcode => .next (s.freed.emit (.jtag 1 (BitVec.ofNat 64 (0xB9160001 + s.freeVal % 2048 * 2))))
  | .sample bits => .next (s.emit (.jtag 2 bits))
  | .extest | .scan => if s.pwr.mfgTestN then .next bypass else .fault .manufacturingScan

/-- Every link of both ports goes down for want of its clock (R396). -/
def State.cxlClockLost (s : State) : State :=
  ([(0, 0), (0, 1), (1, 0), (1, 1)].foldl (fun (s : State) (c : Nat × Nat) =>
    if s.linkInUse c.1 c.2 && (s.link c.1 c.2).state != .down then s.linkDown c.1 c.2 .down else s) s).pump

/-- The Ethernet ports are down (R397). -/
def State.ethDown (s : State) : State :=
  (List.range 8).foldl (fun (s : State) mac => (s.activePorts mac).foldl (fun (s : State) p =>
    s.setEthPort mac p { s.ethPort mac p with link := false }) s) s

/-- REFERENCE_CLOCK_LOST (R18, R396, R397, R556): 0 REFCLK_CXL, 1 REFCLK_ETH, 2 XTAL. -/
def execReferenceClockLost (clock : Nat) (s : State) : Ans :=
  .next (
    if clock = 0 then
      let s := { s with pwr := { s.pwr with refCxl := false }, tim := { s.tim with locked := false } }
      if s.pwr.core then (s.tell (unitId 0x17 0) 0x1B Cls.major).cxlClockLost else s
    else if clock = 1 then
      let s := { s with pwr := { s.pwr with refEth := false } }
      if !s.pwr.core then s
      else
        let s := (s.tell (unitId 0x17 1) 0x1B Cls.critical).ethDown
        if s.mode.mode == .serve then s.faultOff
        else if s.mode.mode == .preserve then s
        else (s.declareDead 0).declareDead 1
    else if clock = 2 then State.tell { s with pwr := { s.pwr with xtal := false } } (unitId 0x17 2) 0x1B Cls.major
    else s)

/-- REFERENCE_CLOCK_RESTORED (R18, R388, R556): logged; with REFCLK_CXL the timebase locks again and the links train. -/
def execReferenceClockRestored (clock : Nat) (s : State) : Ans :=
  .next (
    let note := fun (s : State) => s.logRec LogT.power Src.power Cls.info [w32 clock]
    if clock = 0 then
      let relocks := if s.pwr.aon && !s.tim.locked then min 65535 (s.tim.relocks + 1) else s.tim.relocks
      let s := { s with pwr := { s.pwr with refCxl := true }, tim := { s.tim with locked := s.pwr.aon, relocks := relocks } }
      if !s.pwr.core then s
      else
        let s := note s
        if s.mode.mode == .standby then s
        else [(0, 0), (0, 1), (1, 0), (1, 1)].foldl (fun (s : State) (c : Nat × Nat) =>
          let l := s.link c.1 c.2
          if s.linkInUse c.1 c.2 && !l.perst && l.state == .down then s.setLink c.1 c.2 { l with state := .training } else s) s
    else if clock = 1 then note { s with pwr := { s.pwr with refEth := true } }
    else if clock = 2 then note { s with pwr := { s.pwr with xtal := true } }
    else s)

end Sys2Proof.Machine
end

