-- ==== Sys2Proof/Machine/Dispatch.lean ====
section
/-!
DEFINITION. Machine/Dispatch.lean: exec, one arm per constructor of Instr.
-/
namespace Sys2Proof.Machine

/-- The effect of a command on everything but the queue. -/
def exec (i : Instr) (s : State) : Host.Outcome State Fault Refusal :=
  match i with
  | .sysModeReqWrite who target purpose delayed => Sys2Proof.Machine.execSysModeReqWrite who target purpose delayed s
  | .rscWriteLands addr => Sys2Proof.Machine.execRscWriteLands addr s
  | .modeRequest m inp => Sys2Proof.Machine.execModeRequest m inp s
  | .modeStatus m inp => Sys2Proof.Machine.execModeStatus m inp s
  | .aonTick ns pins => Sys2Proof.Machine.execAonTick ns pins s
  | .holdDwellExpired => Sys2Proof.Machine.execHoldDwellExpired s
  | .holdPurposeFinished => Sys2Proof.Machine.execHoldPurposeFinished s
  | .preserveComplete joules => Sys2Proof.Machine.execPreserveComplete joules s
  | .timCaptureGo go => Sys2Proof.Machine.execTimCaptureGo go s
  | .timCaptureLands => Sys2Proof.Machine.execTimCaptureLands s
  | .handshakeStall channel unit => Sys2Proof.Machine.execHandshakeStall channel unit s
  | .pwrVcoreTargetWrite who target delayed => Sys2Proof.Machine.execPwrVcoreTargetWrite who target delayed s
  | .regionCreate m inp => Sys2Proof.Machine.execRegionCreate m inp s
  | .regionDelete m inp => Sys2Proof.Machine.execRegionDelete m inp s
  | .regionSetAttr m inp => Sys2Proof.Machine.execRegionSetAttr m inp s
  | .regionZero m inp => Sys2Proof.Machine.execRegionZero m inp s
  | .regionFenceEnd region => Sys2Proof.Machine.execRegionFenceEnd region s
  | .regionList m inp => Sys2Proof.Machine.execRegionList m inp s
  | .identifyRegions m inp => Sys2Proof.Machine.execIdentifyRegions m inp s
  | .shareCreate m inp => Sys2Proof.Machine.execShareCreate m inp s
  | .shareDelete m inp => Sys2Proof.Machine.execShareDelete m inp s
  | .sysPoolWrite who value => Sys2Proof.Machine.execSysPoolWrite who value s
  | .leafFillDone leaf => Sys2Proof.Machine.execLeafFillDone leaf s
  | .memRd p => Sys2Proof.Machine.execMemRd p s
  | .memWr p data poison => Sys2Proof.Machine.execMemWr p data poison s
  | .memWrPtl p data mask poison => Sys2Proof.Machine.execMemWrPtl p data mask poison s
  | .memSpecRd p => Sys2Proof.Machine.execMemSpecRd p s
  | .memInv p => Sys2Proof.Machine.execMemInv p s
  | .m2sBadOpcode port link opcode => Sys2Proof.Machine.execM2sBadOpcode port link opcode s
  | .hdmDecoderCommit fn idx d => Sys2Proof.Machine.execHdmDecoderCommit fn idx d s
  | .gpfPhase2Request port link => Sys2Proof.Machine.execGpfPhase2Request port link s
  | .gpfPhase2Response port link => Sys2Proof.Machine.execGpfPhase2Response port link s
  | .perstNAssert port link cause => Sys2Proof.Machine.execPerstNAssert port link cause s
  | .functionLevelReset fn => Sys2Proof.Machine.execFunctionLevelReset fn s
  | .cxlLaneFailure port link good => Sys2Proof.Machine.execCxlLaneFailure port link good s
  | .cxlLinkL0 port link => Sys2Proof.Machine.execCxlLinkL0 port link s
  | .cxlLinkRecoveryTimeout port link => Sys2Proof.Machine.execCxlLinkRecoveryTimeout port link s
  | .retrainFull port link pass => Sys2Proof.Machine.execRetrainFull port link pass s
  | .ideIntegrityFail port link => Sys2Proof.Machine.execIdeIntegrityFail port link s
  | .ideKm port link => Sys2Proof.Machine.execIdeKm port link s
  | .setLdAllocations m spans => Sys2Proof.Machine.execSetLdAllocations m spans s
  | .getLdInfo m => Sys2Proof.Machine.execGetLdInfo m s
  | .getLdAllocations m start limit => Sys2Proof.Machine.execGetLdAllocations m start limit s
  | .cxaLdSpanWrite port ld span => Sys2Proof.Machine.execCxaLdSpanWrite port ld span s
  | .getEventRecords m log => Sys2Proof.Machine.execGetEventRecords m log s
  | .clearEventRecords m log count => Sys2Proof.Machine.execClearEventRecords m log count s
  | .getEventInterruptPolicy m => Sys2Proof.Machine.execGetEventInterruptPolicy m s
  | .setEventInterruptPolicy m vectors => Sys2Proof.Machine.execSetEventInterruptPolicy m vectors s
  | .getFwInfo m => Sys2Proof.Machine.execGetFwInfo m s
  | .transferFw m action slot offset data => Sys2Proof.Machine.execTransferFw m action slot offset data s
  | .activateFw m action slot => Sys2Proof.Machine.execActivateFw m action slot s
  | .fwReady => Sys2Proof.Machine.execFwReady s
  | .activationTimeout => Sys2Proof.Machine.execActivationTimeout s
  | .getTimestamp m => Sys2Proof.Machine.execGetTimestamp m s
  | .setTimestamp m ns => Sys2Proof.Machine.execSetTimestamp m ns s
  | .getSupportedLogs m => Sys2Proof.Machine.execGetSupportedLogs m s
  | .getLog m offset length => Sys2Proof.Machine.execGetLog m offset length s
  | .identifyMemoryDevice m => Sys2Proof.Machine.execIdentifyMemoryDevice m s
  | .getPartitionInfo m => Sys2Proof.Machine.execGetPartitionInfo m s
  | .getHealthInfo m => Sys2Proof.Machine.execGetHealthInfo m s
  | .getAlertConfiguration m => Sys2Proof.Machine.execGetAlertConfiguration m s
  | .setAlertConfiguration m life temp => Sys2Proof.Machine.execSetAlertConfiguration m life temp s
  | .getShutdownState m => Sys2Proof.Machine.execGetShutdownState m s
  | .setShutdownState m dirty => Sys2Proof.Machine.execSetShutdownState m dirty s
  | .getPoisonList m dpa length => Sys2Proof.Machine.execGetPoisonList m dpa length s
  | .injectPoison m dpa => Sys2Proof.Machine.execInjectPoison m dpa s
  | .clearPoison m dpa data => Sys2Proof.Machine.execClearPoison m dpa data s
  | .scanMediaCapabilities m => Sys2Proof.Machine.execScanMediaCapabilities m s
  | .scanMedia m dpa length => Sys2Proof.Machine.execScanMedia m dpa length s
  | .getScanMediaResults m => Sys2Proof.Machine.execGetScanMediaResults m s
  | .backgroundCommandDone fn secondary => Sys2Proof.Machine.execBackgroundCommandDone fn secondary s
  | .unsupportedOpcode m opcode => Sys2Proof.Machine.execUnsupportedOpcode m opcode s
  | .trackerEntryFreed id => Sys2Proof.Machine.execTrackerEntryFreed id s
  | .homeReadReturn inst req errs => Sys2Proof.Machine.execHomeReadReturn inst req errs s
  | .mergedRefetchDone line bad => Sys2Proof.Machine.execMergedRefetchDone line bad s
  | .mergeEntryTimeout line errs => Sys2Proof.Machine.execMergeEntryTimeout line errs s
  | .writeQueueRetire inst req => Sys2Proof.Machine.execWriteQueueRetire inst req s
  | .dramCommandIssue inst sc ready => Sys2Proof.Machine.execDramCommandIssue inst sc ready s
  | .urgencyLevelUp inst req => Sys2Proof.Machine.execUrgencyLevelUp inst req s
  | .refreshDue inst sc rank => Sys2Proof.Machine.execRefreshDue inst sc rank s
  | .temperaturePoll inst temp => Sys2Proof.Machine.execTemperaturePoll inst temp s
  | .zqCalibrationDue inst sc rank => Sys2Proof.Machine.execZqCalibrationDue inst sc rank s
  | .dqsCalibrationDue inst sc rank => Sys2Proof.Machine.execDqsCalibrationDue inst sc rank s
  | .caParityError inst => Sys2Proof.Machine.execCaParityError inst s
  | .writeCrcError inst req => Sys2Proof.Machine.execWriteCrcError inst req s
  | .alertN inst => Sys2Proof.Machine.execAlertN inst s
  | .dataParity inst => Sys2Proof.Machine.execDataParity inst s
  | .release who inst => Sys2Proof.Machine.execRelease who inst s
  | .retireLine who inst => Sys2Proof.Machine.execRetireLine who inst s
  | .retireChannel who inst => Sys2Proof.Machine.execRetireChannel who inst s
  | .freezeLimitExpired inst => Sys2Proof.Machine.execFreezeLimitExpired inst s
  | .freezeReadTimeout inst => Sys2Proof.Machine.execFreezeReadTimeout inst s
  | .scrubPassStart => Sys2Proof.Machine.execScrubPassStart s
  | .scrubRead => Sys2Proof.Machine.execScrubRead s
  | .markSet m inp => Sys2Proof.Machine.execMarkSet m inp s
  | .markList m inp => Sys2Proof.Machine.execMarkList m inp s
  | .remapList m inp => Sys2Proof.Machine.execRemapList m inp s
  | .errCounts m inp => Sys2Proof.Machine.execErrCounts m inp s
  | .pprRun m inp => Sys2Proof.Machine.execPprRun m inp s
  | .pprDone outcome => Sys2Proof.Machine.execPprDone outcome s
  | .rawWrite who ctl => Sys2Proof.Machine.execRawWrite who ctl s
  | .encWrite who ctl => Sys2Proof.Machine.execEncWrite who ctl s
  | .rawRead who ctl errs => Sys2Proof.Machine.execRawRead who ctl errs s
  | .decRead who ctl errs => Sys2Proof.Machine.execDecRead who ctl errs s
  | .moveStart extent => Sys2Proof.Machine.execMoveStart extent s
  | .moveComplete extent => Sys2Proof.Machine.execMoveComplete extent s
  | .ageingPeriodEnd => Sys2Proof.Machine.execAgeingPeriodEnd s
  | .tenantSet m inp => Sys2Proof.Machine.execTenantSet m inp s
  | .tenantStatus m inp => Sys2Proof.Machine.execTenantStatus m inp s
  | .schedLoad m inp => Sys2Proof.Machine.execSchedLoad m inp s
  | .schedUnload m inp => Sys2Proof.Machine.execSchedUnload m inp s
  | .schedStatus m inp => Sys2Proof.Machine.execSchedStatus m inp s
  | .homeQuery m inp => Sys2Proof.Machine.execHomeQuery m inp s
  | .cacheOp m inp => Sys2Proof.Machine.execCacheOp m inp s
  | .clean => Sys2Proof.Machine.execClean s
  | .invalidate => Sys2Proof.Machine.execInvalidate s
  | .cleanInvalidate => Sys2Proof.Machine.execCleanInvalidate s
  | .zero cls => Sys2Proof.Machine.execZero cls s
  | .discard who => Sys2Proof.Machine.execDiscard who s
  | .rangeWalkSet => Sys2Proof.Machine.execRangeWalkSet s
  | .rangeOpDone => Sys2Proof.Machine.execRangeOpDone s
  | .cacheSweepDone => Sys2Proof.Machine.execCacheSweepDone s
  | .writeBehindLeaf loc bad => Sys2Proof.Machine.execWriteBehindLeaf loc bad s
  | .nandProgramDone page pass => Sys2Proof.Machine.execNandProgramDone page pass s
  | .nandEraseDone seg pos pass zeros => Sys2Proof.Machine.execNandEraseDone seg pos pass zeros s
  | .mapDeltaWrite => Sys2Proof.Machine.execMapDeltaWrite s
  | .checkpointCycleStart => Sys2Proof.Machine.execCheckpointCycleStart s
  | .checkpointCycleDone => Sys2Proof.Machine.execCheckpointCycleDone s
  | .cleaningStart zone dst => Sys2Proof.Machine.execCleaningStart zone dst s
  | .sealRecordWritten => Sys2Proof.Machine.execSealRecordWritten s
  | .leafRestoreStart leaf => Sys2Proof.Machine.execLeafRestoreStart leaf s
  | .leafRestoreDone leaf reads => Sys2Proof.Machine.execLeafRestoreDone leaf reads s
  | .vaultStatus m inp => Sys2Proof.Machine.execVaultStatus m inp s
  | .vaultFormat m inp => Sys2Proof.Machine.execVaultFormat m inp s
  | .vaultEraseGo who => Sys2Proof.Machine.execVaultEraseGo who s
  | .vaultFormatDone failed => Sys2Proof.Machine.execVaultFormatDone failed s
  | .zoneSet m inp => Sys2Proof.Machine.execZoneSet m inp s
  | .vaultLostList m inp => Sys2Proof.Machine.execVaultLostList m inp s
  | .preserveReport m inp => Sys2Proof.Machine.execPreserveReport m inp s
  | .vaultCheckpoint m inp => Sys2Proof.Machine.execVaultCheckpoint m inp s
  | .rdmaWritePacket p => Sys2Proof.Machine.execRdmaWritePacket p s
  | .rdmaReadRequest p => Sys2Proof.Machine.execRdmaReadRequest p s
  | .cmpSwap p => Sys2Proof.Machine.execCmpSwap p s
  | .fetchAdd p => Sys2Proof.Machine.execFetchAdd p s
  | .rcUnsupportedOpcode p => Sys2Proof.Machine.execRcUnsupportedOpcode p s
  | .rxFrameDiscarded e why => Sys2Proof.Machine.execRxFrameDiscarded e why s
  | .arpNdFrame e target => Sys2Proof.Machine.execArpNdFrame e target s
  | .probePacket e pairId ctrlId seq => Sys2Proof.Machine.execProbePacket e pairId ctrlId seq s
  | .cmReq e r => Sys2Proof.Machine.execCmReq e r s
  | .cmRtu e qpn => Sys2Proof.Machine.execCmRtu e qpn s
  | .cmRej e qpn => Sys2Proof.Machine.execCmRej e qpn s
  | .cmMra e qpn => Sys2Proof.Machine.execCmMra e qpn s
  | .cmDreq e qpn => Sys2Proof.Machine.execCmDreq e qpn s
  | .cmDrep e qpn => Sys2Proof.Machine.execCmDrep e qpn s
  | .errorDreq qpn => Sys2Proof.Machine.execErrorDreq qpn s
  | .pfcFrameReceived mac port prios quanta => Sys2Proof.Machine.execPfcFrameReceived mac port prios quanta s
  | .pauseQuantaExpired mac port prio => Sys2Proof.Machine.execPauseQuantaExpired mac port prio s
  | .xoffRefresh mac port prio => Sys2Proof.Machine.execXoffRefresh mac port prio s
  | .rxPauseStorm mac port prio => Sys2Proof.Machine.execRxPauseStorm mac port prio s
  | .rxStormIgnoreEnd mac port prio => Sys2Proof.Machine.execRxStormIgnoreEnd mac port prio s
  | .txPauseStorm mac port prio => Sys2Proof.Machine.execTxPauseStorm mac port prio s
  | .contextFetchDone slot => Sys2Proof.Machine.execContextFetchDone slot s
  | .stallExpired slot => Sys2Proof.Machine.execStallExpired slot s
  | .ackDelayExpired slot => Sys2Proof.Machine.execAckDelayExpired slot s
  | .revocationDrainDone index => Sys2Proof.Machine.execRevocationDrainDone index s
  | .keyRegister m inp => Sys2Proof.Machine.execKeyRegister m inp s
  | .keyRevoke m inp => Sys2Proof.Machine.execKeyRevoke m inp s
  | .keyList m inp => Sys2Proof.Machine.execKeyList m inp s
  | .domainSet m inp => Sys2Proof.Machine.execDomainSet m inp s
  | .domainRevoke m inp => Sys2Proof.Machine.execDomainRevoke m inp s
  | .netStatus m inp => Sys2Proof.Machine.execNetStatus m inp s
  | .addrSet m inp => Sys2Proof.Machine.execAddrSet m inp s
  | .listenSet m inp => Sys2Proof.Machine.execListenSet m inp s
  | .connList m inp => Sys2Proof.Machine.execConnList m inp s
  | .connClose m inp => Sys2Proof.Machine.execConnClose m inp s
  | .macModeRetrainDone mac => Sys2Proof.Machine.execMacModeRetrainDone mac s
  | .ethernetLinkChange mac port up => Sys2Proof.Machine.execEthernetLinkChange mac port up s
  | .dataFrame path h payload => Sys2Proof.Machine.execDataFrame path h payload s
  | .idleFrame path h => Sys2Proof.Machine.execIdleFrame path h s
  | .beat path h b => Sys2Proof.Machine.execBeat path h b s
  | .pathUp path h b => Sys2Proof.Machine.execPathUp path h b s
  | .laneRetire path h which lanes ack => Sys2Proof.Machine.execLaneRetire path h which lanes ack s
  | .writeFwd => Sys2Proof.Machine.execWriteFwd s
  | .orderAck => Sys2Proof.Machine.execOrderAck s
  | .mirror => Sys2Proof.Machine.execMirror s
  | .mirrorAck => Sys2Proof.Machine.execMirrorAck s
  | .intent => Sys2Proof.Machine.execIntent s
  | .intentData => Sys2Proof.Machine.execIntentData s
  | .raReq => Sys2Proof.Machine.execRaReq s
  | .raResp => Sys2Proof.Machine.execRaResp s
  | .checkpoint => Sys2Proof.Machine.execCheckpoint s
  | .resyncCopy => Sys2Proof.Machine.execResyncCopy s
  | .resyncCtl c => Sys2Proof.Machine.execResyncCtl c s
  | .handoverMarker => Sys2Proof.Machine.execHandoverMarker s
  | .handoverAck => Sys2Proof.Machine.execHandoverAck s
  | .departing => Sys2Proof.Machine.execDeparting s
  | .departingAck => Sys2Proof.Machine.execDepartingAck s
  | .control c => Sys2Proof.Machine.execControl c s
  | .beatSend => Sys2Proof.Machine.execBeatSend s
  | .missedBeatInterval path => Sys2Proof.Machine.execMissedBeatInterval path s
  | .replayTimerExpired path => Sys2Proof.Machine.execReplayTimerExpired path s
  | .pathUpTimeout path => Sys2Proof.Machine.execPathUpTimeout path s
  | .deadPathRetrain path => Sys2Proof.Machine.execDeadPathRetrain path s
  | .laneFault path lane lostLock => Sys2Proof.Machine.execLaneFault path lane lostLock s
  | .laneRetireAckTimeout path => Sys2Proof.Machine.execLaneRetireAckTimeout path s
  | .laneRetrainDone path locked => Sys2Proof.Machine.execLaneRetrainDone path locked s
  | .forceDead who path dead => Sys2Proof.Machine.execForceDead who path dead s
  | .restoreLanes path pass => Sys2Proof.Machine.execRestoreLanes path pass s
  | .departingAckTimeout => Sys2Proof.Machine.execDepartingAckTimeout s
  | .probeSend => Sys2Proof.Machine.execProbeSend s
  | .probeReply seq => Sys2Proof.Machine.execProbeReply seq s
  | .probeSilent => Sys2Proof.Machine.execProbeSilent s
  | .handoverStart extent => Sys2Proof.Machine.execHandoverStart extent s
  | .resyncExtentDone extent => Sys2Proof.Machine.execResyncExtentDone extent s
  | .pairForm m inp => Sys2Proof.Machine.execPairForm m inp s
  | .pairFormComplete => Sys2Proof.Machine.execPairFormComplete s
  | .pairStatus m inp => Sys2Proof.Machine.execPairStatus m inp s
  | .resyncStatus m inp => Sys2Proof.Machine.execResyncStatus m inp s
  | .faultEvent unit code cls at_ => Sys2Proof.Machine.execFaultEvent unit code cls at_ s
  | .faultSlotDispatch slot => Sys2Proof.Machine.execFaultSlotDispatch slot s
  | .selftestDone slot pass row dev us => Sys2Proof.Machine.execSelftestDone slot pass row dev us s
  | .stuckOperation id => Sys2Proof.Machine.execStuckOperation id s
  | .lockstepMismatch => Sys2Proof.Machine.execLockstepMismatch s
  | .coxRestartDone => Sys2Proof.Machine.execCoxRestartDone s
  | .firmwareCheckpoint => Sys2Proof.Machine.execFirmwareCheckpoint s
  | .engineFault eight engine items => Sys2Proof.Machine.execEngineFault eight engine items s
  | .referenceClockLost clock => Sys2Proof.Machine.execReferenceClockLost clock s
  | .referenceClockRestored clock => Sys2Proof.Machine.execReferenceClockRestored clock s
  | .faultStatus m inp => Sys2Proof.Machine.execFaultStatus m inp s
  | .faultChannels m inp => Sys2Proof.Machine.execFaultChannels m inp s
  | .selftestRun m inp => Sys2Proof.Machine.execSelftestRun m inp s
  | .trackerSnapshot m inp => Sys2Proof.Machine.execTrackerSnapshot m inp s
  | .frameCommit m inp => Sys2Proof.Machine.execFrameCommit m inp s
  | .frameRewind m inp => Sys2Proof.Machine.execFrameRewind m inp s
  | .frameList m inp => Sys2Proof.Machine.execFrameList m inp s
  | .frameStatus m inp => Sys2Proof.Machine.execFrameStatus m inp s
  | .logSnapshot m inp => Sys2Proof.Machine.execLogSnapshot m inp s
  | .logClear m inp => Sys2Proof.Machine.execLogClear m inp s
  | .logFlush m inp => Sys2Proof.Machine.execLogFlush m inp s
  | .powerStatus m inp => Sys2Proof.Machine.execPowerStatus m inp s
  | .secStatus m inp => Sys2Proof.Machine.execSecStatus m inp s
  | .identityGet m inp => Sys2Proof.Machine.execIdentityGet m inp s
  | .keyslotLoad m inp => Sys2Proof.Machine.execKeyslotLoad m inp s
  | .keyslotGenerate m inp => Sys2Proof.Machine.execKeyslotGenerate m inp s
  | .keyslotClear m inp => Sys2Proof.Machine.execKeyslotClear m inp s
  | .keyslotList m inp => Sys2Proof.Machine.execKeyslotList m inp s
  | .fwSvnAdvance m inp => Sys2Proof.Machine.execFwSvnAdvance m inp s
  | .sysUnlockWrite who key => Sys2Proof.Machine.execSysUnlockWrite who key s
  | .unlockExpired who => Sys2Proof.Machine.execUnlockExpired who s
  | .shtCommitWrite groups => Sys2Proof.Machine.execShtCommitWrite groups s
  | .shtRewindWrite back => Sys2Proof.Machine.execShtRewindWrite back s
  | .frameWriteDone pass => Sys2Proof.Machine.execFrameWriteDone pass s
  | .frameWriteAbandoned => Sys2Proof.Machine.execFrameWriteAbandoned s
  | .testStripEnd => Sys2Proof.Machine.execTestStripEnd s
  | .autoRewindRetry => Sys2Proof.Machine.execAutoRewindRetry s
  | .registerWrite who width addr data => Sys2Proof.Machine.execRegisterWrite who width addr data s
  | .flashRead who => Sys2Proof.Machine.execFlashRead who s
  | .flashProgram who => Sys2Proof.Machine.execFlashProgram who s
  | .flashErase who => Sys2Proof.Machine.execFlashErase who s
  | .flashSuspend who => Sys2Proof.Machine.execFlashSuspend who s
  | .flashResume who => Sys2Proof.Machine.execFlashResume who s
  | .protWrite who => Sys2Proof.Machine.execProtWrite who s
  | .pwdSet who => Sys2Proof.Machine.execPwdSet who s
  | .flashProgramDone bank pass => Sys2Proof.Machine.execFlashProgramDone bank pass s
  | .flashEraseDone bank pass => Sys2Proof.Machine.execFlashEraseDone bank pass s
  | .fetchSuspend bank => Sys2Proof.Machine.execFetchSuspend bank s
  | .progWaitExpired bank => Sys2Proof.Machine.execProgWaitExpired bank s
  | .journalScan => Sys2Proof.Machine.execJournalScan s
  | .rollErase => Sys2Proof.Machine.execRollErase s
  | .vddAonApplied pins mfgTestN xtalBypass eeprom => Sys2Proof.Machine.execVddAonApplied pins mfgTestN xtalBypass eeprom s
  | .powerUpStart => Sys2Proof.Machine.execPowerUpStart s
  | .stepQualified pop => Sys2Proof.Machine.execStepQualified pop s
  | .stepTimeout => Sys2Proof.Machine.execStepTimeout s
  | .trainingComplete => Sys2Proof.Machine.execTrainingComplete s
  | .leafMapRebuilt => Sys2Proof.Machine.execLeafMapRebuilt s
  | .bringupFailure cause => Sys2Proof.Machine.execBringupFailure cause s
  | .pgFall bit ns => Sys2Proof.Machine.execPgFall bit ns s
  | .seqInLow => Sys2Proof.Machine.execSeqInLow s
  | .outHoldExpired => Sys2Proof.Machine.execOutHoldExpired s
  | .chainDischarged chain => Sys2Proof.Machine.execChainDischarged chain s
  | .dischargeTimeout step => Sys2Proof.Machine.execDischargeTimeout step s
  | .offWaitEnd => Sys2Proof.Machine.execOffWaitEnd s
  | .hostNotify bus sender data => Sys2Proof.Machine.execHostNotify bus sender data s
  | .pfailNFall => Sys2Proof.Machine.execPfailNFall s
  | .pfailNRise => Sys2Proof.Machine.execPfailNRise s
  | .rideRearmExpired => Sys2Proof.Machine.execRideRearmExpired s
  | .rideTimerExpired => Sys2Proof.Machine.execRideTimerExpired s
  | .bankReading joules => Sys2Proof.Machine.execBankReading joules s
  | .bankReadingStale => Sys2Proof.Machine.execBankReadingStale s
  | .holdupOkLow => Sys2Proof.Machine.execHoldupOkLow s
  | .vcoreStep => Sys2Proof.Machine.execVcoreStep s
  | .vcoreReadback mv => Sys2Proof.Machine.execVcoreReadback mv s
  | .resetNLow => Sys2Proof.Machine.execResetNLow s
  | .junctionOvertemp temp => Sys2Proof.Machine.execJunctionOvertemp temp s
  | .sbCmd who bus cmd hung => Sys2Proof.Machine.execSbCmd who bus cmd hung s
  | .sbTransferDone bus result data => Sys2Proof.Machine.execSbTransferDone bus result data s
  | .sclLowTimeout bus freed => Sys2Proof.Machine.execSclLowTimeout bus freed s
  | .hangCureRetry bus freed => Sys2Proof.Machine.execHangCureRetry bus freed s
  | .arbitrationLost bus => Sys2Proof.Machine.execArbitrationLost bus s
  | .busError bus hung => Sys2Proof.Machine.execBusError bus hung s
  | .logFlushAge => Sys2Proof.Machine.execLogFlushAge s
  | .logFlushDone => Sys2Proof.Machine.execLogFlushDone s
  | .overflowRecord => Sys2Proof.Machine.execOverflowRecord s
  | .perstNRelease port link => Sys2Proof.Machine.execPerstNRelease port link s
  | .thermN temp => Sys2Proof.Machine.execThermN temp s
  | .vddAonRemoved => Sys2Proof.Machine.execVddAonRemoved s
  | .intentDataSend => Sys2Proof.Machine.execIntentDataSend s
  | .resyncCopySend extent => Sys2Proof.Machine.execResyncCopySend extent s
  | .frameBadCrc path => Sys2Proof.Machine.execFrameBadCrc path s
  | .laneRetireWaitExpired path => Sys2Proof.Machine.execLaneRetireWaitExpired path s
  | .doeRequest fn protocol words => Sys2Proof.Machine.execDoeRequest fn protocol words s
  | .jtagInstruction instr => Sys2Proof.Machine.execJtagInstruction instr s
  | .crcThreshold port link retry => Sys2Proof.Machine.execCrcThreshold port link retry s

end Sys2Proof.Machine
end

