-- ==== Sys2Proof/Machine/RegView.lean ====
section
/-!
DEFINITION. Machine/RegView.lean: what the registers of the live view read (15_registers.md, R450 to R462), block by block: the stored bits, and the
read-only fields as the state has them.
-/
namespace Sys2Proof.Machine

/-! ## Control blocks -/

/-- A 64-bit register pair from an offset: the half that lies at `a`. -/
def half (a base v : Nat) : Word := if a = base then w32 v else w32 (v / 2 ^ 32)

/-- A committed value waits for RESTORE (R467): SHT_STATUS.DEFERRED. -/
def State.deferred (s : State) : Bool :=
  s.sht.committed.keys.any (fun a => (s.committedAt a ^^^ s.reg a) &&& deferredMask a != 0)

/-- SHT_STATUS. -/
def State.shtStatus (s : State) : Word :=
  s.withFields Reg.SHT_STATUS [(Fld.SHT_STATUS_BUSY, bit s.shtBusy), (Fld.SHT_STATUS_STRIP, bit s.shtStrip),
    (Fld.SHT_STATUS_DEFERRED, bit s.deferred), (Fld.SHT_STATUS_UNSAVED, bit s.sht.unsaved), (Fld.SHT_STATUS_RESULT, s.sht.result),
    (Fld.SHT_STATUS_REJECT_CAUSE, s.sht.cause)]

/-- SHT_STRIP: LEFT_MS is 0 once the strip has ended. -/
def State.shtStripReg (s : State) : Word :=
  let left := match s.sht.strip with
    | some (t, _) => min 65535 ((t - s.now) / 1000000)
    | none => 0
  s.withFields Reg.SHT_STRIP [(Fld.SHT_STRIP_LEFT_MS, left)]

/-- LOG_STATUS. -/
def State.logStatus (s : State) : Word :=
  fields [(Fld.LOG_STATUS_FLUSHING, bit s.log.flushing.isSome), (Fld.LOG_STATUS_FIX_STATE, s.log.fixState),
    (Fld.LOG_STATUS_STAGED_KIB, ceilDiv s.log.used 1024)]

/-- The sequence-number registers of the logbook. -/
def State.logSeq (s : State) (a : Nat) : Word :=
  let fixFirst := ((s.log.fix.head?).map (·.record.seq)).getD 0
  let l := [s.log.head, s.log.tail, s.log.flashed, fixFirst, s.log.fixLast.getD 0]
  half (a % 8) 0 (l.getD ((a - Reg.LOG_HEAD_LO) / 8) 0)

/-- FLS_STATUS. -/
def State.flsStatus (s : State) : Word :=
  let a := s.fls.bankA
  let b := s.fls.bankB
  fields [(Fld.FLS_STATUS_REERASED, s.fls.reerased), (Fld.FLS_STATUS_QUEUE_B, min 8 b.queue.length), (Fld.FLS_STATUS_QUEUE_A, min 8 a.queue.length),
    (Fld.FLS_STATUS_STATE_B, b.state.code), (Fld.FLS_STATUS_STATE_A, a.state.code)]

/-- FLS_PWD_STATUS. -/
def State.flsPwdStatus (s : State) : Word :=
  fields [(Fld.FLS_PWD_STATUS_SET, bit s.fls.password.isSome), (Fld.FLS_PWD_STATUS_LOCKED, bit s.fls.locked), (Fld.FLS_PWD_STATUS_WRONG, s.fls.wrong)]

/-- MBX_STATUS. -/
def State.mbxStatus (s : State) : Word :=
  match s.cmd.jobs.find? (fun j => j.cfg && j.done.isNone), s.cmd.remote with
  | some j, _ => fields [(Fld.MBX_STATUS_OPCODE, j.opcode), (Fld.MBX_STATUS_BUSY, 1), (Fld.MBX_STATUS_SOURCE, j.mbx.fn)]
  | none, some r => fields [(Fld.MBX_STATUS_OPCODE, r.2), (Fld.MBX_STATUS_BUSY, 1), (Fld.MBX_STATUS_REMOTE, 1), (Fld.MBX_STATUS_SOURCE, 0x3F)]
  | none, none => 0

/-- ENG_STATUS. -/
def State.engStatus (s : State) : Word :=
  let l := (List.range 8).map (fun e => s.flt.eights.getD e {})
  fields [(Fld.ENG_STATUS_SPARES, l.zipIdx.foldl (fun n c => if c.1.spare.isSome then n + 2 ^ c.2 else n) 0),
    (Fld.ENG_STATUS_LOST, sumL (l.map (·.retired.length))), (Fld.ENG_STATUS_ACTIVE, sumL (l.map (·.active.length)))]

/-- FLT_LAST. -/
def State.fltLast (s : State) : Word := fields [(Fld.FLT_LAST_CODE, s.flt.last.code), (Fld.FLT_LAST_CLASS, s.flt.last.cls)]

/-! ## Host, network and twin blocks -/

/-- CXA_LINKk_STATUS, CXB_LINKk_STATUS. -/
def State.linkStatus (s : State) (p k : Nat) : Word :=
  let l := s.link p k
  fields [(Fld.CX_LINK_STATUS_IDE, l.ide), (Fld.CX_LINK_STATUS_DEGRADED, bit l.degraded), (Fld.CX_LINK_STATUS_WIDTH, l.width),
    (Fld.CX_LINK_STATUS_STATE, l.state.code)]

/-- NET_REVOKE. -/
def State.netRevoke (s : State) : Word :=
  fields [(Fld.NET_REVOKE_PENDING, min 65535 s.net.revs.length),
    (Fld.NET_REVOKE_DRAIN, s.net.counts.zipIdx.foldl (fun n c => if c.1 = 0 then n else n + 2 ^ c.2) 0),
    (Fld.NET_REVOKE_WAITING, bit (s.net.revs.any (fun r => r.epoch.isNone))), (Fld.NET_REVOKE_EPOCH, s.net.epoch)]

/-- QPC_STATUS. -/
def State.qpcStatus (s : State) : Word :=
  fields [(Fld.QPC_STATUS_PINNED, (s.net.cached.filter (fun k _ => s.pinned k)).size), (Fld.QPC_STATUS_CACHED, s.net.cached.size)]

/-- QPC_MISS. -/
def State.qpcMiss (s : State) : Word :=
  fields [(Fld.QPC_MISS_MISSBUF, s.net.missbuf.length), (Fld.QPC_MISS_FETCHING, s.net.fetching.length)]

/-- En_PORTp_STATUS. -/
def State.ethStatus (s : State) (mac port : Nat) : Word :=
  let p := s.ethPort mac port
  let bits := fun (m : SMap Nat) => m.keys.foldl (fun n q => n + 2 ^ q) 0
  s.withFields (Reg.E_PORT_STATUS (macPage mac) port) [(Fld.E_PORT_STATUS_PAUSED_TX, bits p.pausedTx),
    (Fld.E_PORT_STATUS_PAUSED_RX, bits p.pausedRx), (Fld.E_PORT_STATUS_LINK, bit (p.link && (s.activePorts mac).contains port))]

/-- TWL_STATUS. -/
def State.twlStatus (s : State) : Word :=
  fields [(Fld.TWL_STATUS_STAGE_FREE, 8192 - sumL (s.twl.staging.values.map (fun m => m.frames.size))), (Fld.TWL_STATUS_CREDIT, s.twl.credit)]

/-- TWL_PATHnn_STATUS. -/
def State.pathStatus (s : State) (n : Nat) : Word :=
  let p := s.path n
  let out := ((List.range 8).filter (fun k => p.lanesOut.getLsbD k)).length
  fields [(Fld.TWL_PATH_STATUS_LANES_OUT, p.lanesOut.toNat), (Fld.TWL_PATH_STATUS_MISSED, min 25 p.missed),
    (Fld.TWL_PATH_STATUS_WIDTH, if p.up then 8 - out else 0), (Fld.TWL_PATH_STATUS_STATE, p.state.code)]

/-! ## Data path blocks -/

/-- FAB_TRK_STATUS. -/
def State.trkStatus (s : State) : Word :=
  fields [(Fld.FAB_TRK_STATUS_BP, (List.range 8).foldl (fun n k => if s.heldBack k then n + 2 ^ k else n) 0), (Fld.FAB_TRK_STATUS_FREE, s.trkFree)]

/-- LC_STATUS. -/
def State.lcStatus (s : State) : Word :=
  fields [(Fld.LC_STATUS_SLICE, s.lc.slice), (Fld.LC_STATUS_REENABLE, bit s.lc.reenable), (Fld.LC_STATUS_STATE, s.lc.state.code)]

/-- LC_DIRTY: lines with D = 1. -/
def State.lcDirty (s : State) : Word :=
  fields [(Fld.LC_DIRTY_COUNT, sumL (s.lc.sets.values.map (fun t => (t.ways.filter (fun w => w.v && w.d)).length)))]

/-- TM_STATUS. -/
def State.tmStatus (s : State) : Word :=
  fields [(Fld.TM_STATUS_SUSPENDED, bit (!s.movesAllowed)), (Fld.TM_STATUS_MOVING, s.tier.moves.length),
    (Fld.TM_STATUS_SCHEDULES, min 1023 s.tier.scheds.size)]

/-- TM_HBM_PLACES. -/
def State.tmPlaces (s : State) : Word :=
  fields [(Fld.TM_HBM_PLACES_FREE, sumL (s.tier.freeHbm.map (·.2))), (Fld.TM_HBM_PLACES_TOTAL, s.tier.hbmTotal)]

/-- TM_HBM_STAGED. -/
def State.tmStaged (s : State) : Word :=
  let pinned := s.hbmExtents.filter (fun x => match s.regionOf x with | some (_, r) => r.tier == 1 | none => false)
  fields [(Fld.TM_HBM_STAGED_FULL, bit (decide (1024 ≤ s.tier.scheds.size))),
    (Fld.TM_HBM_STAGED_STAGED, min 32767 (s.hbmExtents.filter s.isStaged).length), (Fld.TM_HBM_STAGED_PINNED, pinned.length)]

/-- EC_SCRUB_STATUS. -/
def State.scrubStatus (s : State) : Word :=
  fields [(Fld.EC_SCRUB_STATUS_PASSES, s.ec.passes), (Fld.EC_SCRUB_STATUS_SUSPENDED, bit (!s.scrubRuns)),
    (Fld.EC_SCRUB_STATUS_PCT, if s.ec.scrubAll = 0 then 0 else 100 * s.ec.scrubDone / s.ec.scrubAll)]

/-- EC_TEST_CTL: an operation runs within its command, so BUSY reads 0 between commands. -/
def State.testCtl (s : State) : Word := s.withFields Reg.EC_TEST_CTL [(Fld.EC_TEST_CTL_RESULT, s.ec.testResult)]

/-- EC_TEST_RES. -/
def State.testVerdict (s : State) : Word :=
  fields [(Fld.EC_TEST_RES_VERDICT, s.ec.verdict), (Fld.EC_TEST_RES_NSYM, s.ec.nsym), (Fld.EC_TEST_RES_SYM_HI, s.ec.symMask / 2 ^ 32)]

/-- EC_REMAPnn. -/
def State.remapStatus (s : State) (n : Nat) : Word :=
  fields [(Fld.EC_REMAP_REFUSED, s.ec.refused.getD n 0), (Fld.EC_REMAP_CAP, if n < 16 then 0x20 else 0x10),
    (Fld.EC_REMAP_USED, (s.ec.remaps.filter (fun r => r.inst == n)).length)]

/-- VLT_WINDOW_STATUS. -/
def State.windowStatus (s : State) : Word :=
  fields [(Fld.VLT_WINDOW_STATUS_THROTTLE, bit (decide (s.ceilGib * gibLeaves ≤ s.windowLeaves))), (Fld.VLT_WINDOW_STATUS_LEAVES, s.windowLeaves)]

/-- DCnn_STATUS, HCnn_STATUS. -/
def State.chanStatus (s : State) (n : Nat) : Word :=
  let c := s.chan n
  fields [(Fld.DC_STATUS_TEMP, c.temp), (Fld.DC_STATUS_REF2X, bit c.ref2x), (Fld.DC_STATUS_DRAIN, bit c.drain), (Fld.DC_STATUS_STATE, c.state.code),
    (Fld.DC_STATUS_WQ, c.wq.length), (Fld.DC_STATUS_RQ, c.rq.length)]

/-- DCnn_CAP0 to CAP3, HCnn_CAP0 to CAP3. -/
def State.chanCap (s : State) (n k : Nat) : Word :=
  let c := s.chan n
  let (a, h) := c.capAt.getD (⟨0, 0, 0, 0, 0, 0, 0⟩, ⟨false, 0⟩)
  match k with
  | 0 => fields [(Fld.DC_CAP0_CAUSE, c.capCause), (Fld.DC_CAP0_SC, a.sc), (Fld.DC_CAP0_RANK, a.rank), (Fld.DC_CAP0_BG, a.bg), (Fld.DC_CAP0_BA, a.ba),
      (Fld.DC_CAP0_ROW, a.row)]
  | 1 => w32 (64 * h.line)
  | 2 => fields [(Fld.DC_CAP2_COL, a.col), (Fld.DC_CAP2_HOME_HI, 64 * h.line / 2 ^ 32)]
  | _ => w32 c.capTime

/-- NFnn_CFG: the chip enables and LUNs found. -/
def State.nandCfg (s : State) (n : Nat) : Word :=
  let p := s.addr.served.pop
  s.withFields (Reg.NF_CFG (0x80 + n)) [(Fld.NF_CFG_LUNS, p.nandLuns), (Fld.NF_CFG_CES, p.nandCes)]

/-- NFnn_STATUS: the dies lost. -/
def State.nandLost (s : State) (n : Nat) : Word :=
  w32 ((s.vlt.nand.lost.filter (fun d => d / 32 == n)).eraseDups.foldl (fun v d => v + 2 ^ (d % 32)) 0)

/-- NFnn_STATE: OFF without power, TRAINING until training has ended, FAILED once every die of the channel is lost, else ACTIVE. -/
def State.nandState (s : State) (n : Nat) : Word :=
  let p := s.addr.served.pop
  let dies := p.nandCes * 2 ^ p.nandLuns
  let lost := ((s.vlt.nand.lost.filter (fun d => d / 32 == n)).eraseDups).length
  if !s.pwr.core then 0
  else if s.mode.bringup == .boot then 1
  else if dies ≠ 0 ∧ dies ≤ lost then 3
  else if s.mode.bringup == .none && s.mode.mode == .standby then 0
  else 2

/-! ## The live view -/

/-- A register of the control blocks. -/
def State.viewControl (s : State) (a : Nat) : Word :=
  if a = Reg.SHT_STATUS then s.shtStatus
  else if a = Reg.SHT_FRAME then w32 s.sht.inForce
  else if a = Reg.SHT_STRIP then s.shtStripReg
  else if a = Reg.SHT_PENDING then s.shtPending
  else if a = Reg.LOG_STATUS then s.logStatus
  else if Reg.LOG_HEAD_LO ≤ a ∧ a < Reg.LOG_HEAD_LO + 40 then s.logSeq a
  else if a = Reg.SB_STATUS 5 then s.sbStatus 0
  else if a = Reg.SB_NOTIFY 5 then s.sbNotify 0
  else if a = Reg.FLS_STATUS then s.flsStatus
  else if a = Reg.FLS_CMD then s.withFields a [(Fld.FLS_CMD_BUSY, bit s.fls.busy), (Fld.FLS_CMD_RESULT, s.fls.result)]
  else if a = Reg.FLS_PWD_STATUS then s.flsPwdStatus
  else if a = Reg.MBX_STATUS then s.mbxStatus
  else if a = Reg.ENG_STATUS then s.engStatus
  else if a = Reg.FLT_STATUS then s.fltStatus
  else if Reg.FLT_SLOT_UNIT 0 ≤ a ∧ a < Reg.FLT_SLOT_UNIT 8 then (s.fltSlotWords ((a - Reg.FLT_SLOT_UNIT 0) / 8)).getD (a % 8 / 4) 0
  else if a = Reg.FLT_LAST_UNIT then w32 s.flt.last.unit
  else if a = Reg.FLT_LAST then s.fltLast
  else if a = Reg.CRY_BOOT then s.cryBoot
  else if a = Reg.CRY_STATUS then s.cryStatus
  else s.reg a

/-- A register of the host, network and twin blocks. -/
def State.viewNet (s : State) (a : Nat) : Word :=
  let page := a / 65536
  let off := a % 65536
  if (page = 0x10 ∨ page = 0x11) ∧ (off = 0x10 ∨ off = 0x14) then s.linkStatus (page - 0x10) ((off - 0x10) / 4)
  else if a = Reg.NET_REVOKE then s.netRevoke
  else if a = Reg.NET_CONN_OWN then w32 (s.connCount true)
  else if a = Reg.NET_CONN_SHADOW then w32 (s.connCount false)
  else if a = Reg.QPC_STATUS then s.qpcStatus
  else if a = Reg.QPC_MISS then s.qpcMiss
  else if a = Reg.KEY_STATUS then w32 s.keysUsed
  else if a = Reg.KEY_DOMAINS then w32 (s.net.domains.filter (fun _ d => d.state != 0)).size
  else if 0x18 ≤ page ∧ page < 0x20 ∧ 0x10 ≤ off ∧ off < 0x20 then s.ethStatus (page - 0x18) ((off - 0x10) / 4)
  else if a = Reg.TWL_STATUS then s.twlStatus
  else if a = Reg.TWL_PATH_STATUS 0 then s.pathStatus 0
  else if a = Reg.TWL_PATH_STATUS 1 then s.pathStatus 1
  else if a = Reg.TWL_PATH_RTT 0 then w32 (s.path 0).rtt
  else if a = Reg.TWL_PATH_RTT 1 then w32 (s.path 1).rtt
  else s.reg a

/-- A register of the blocks of the data path. -/
def State.viewData (s : State) (a : Nat) : Word :=
  let page := a / 65536
  let off := a % 65536
  if Reg.FAB_TRK_USE 0 ≤ a ∧ a < Reg.FAB_TRK_USE 8 then w32 (s.trkUse ((a - Reg.FAB_TRK_USE 0) / 4))
  else if a = Reg.FAB_TRK_STATUS then s.trkStatus
  else if a = Reg.LC_STATUS then s.lcStatus
  else if a = Reg.LC_DIRTY then s.lcDirty
  else if a = Reg.LC_OP_STATUS then fields [(Fld.LC_OP_STATUS_BUSY, bit s.lc.op.isSome), (Fld.LC_OP_STATUS_RESULT, s.lc.opResult)]
  else if Reg.LC_WAYOFF 0 ≤ a ∧ a < Reg.LC_WAYOFF 64 then w32 (s.lc.wayOff.getD ((a - Reg.LC_WAYOFF 0) / 4) 0).toNat
  else if a = Reg.TM_STATUS then s.tmStatus
  else if a = Reg.TM_HBM_PLACES then s.tmPlaces
  else if a = Reg.TM_HBM_STAGED then s.tmStaged
  else if a = Reg.EC_SCRUB_STATUS then s.scrubStatus
  else if a = Reg.EC_SCRUB_RATE then w32 s.ec.scrubRate
  else if a = Reg.EC_TEST_CTL then s.testCtl
  else if a = Reg.EC_TEST_RES then s.testVerdict
  else if a = Reg.EC_TEST_SYM then w32 s.ec.symMask
  else if Reg.EC_REMAP 0 ≤ a ∧ a < Reg.EC_REMAP 48 then s.remapStatus ((a - Reg.EC_REMAP 0) / 4)
  else if a = Reg.VLT_WINDOW_STATUS then s.windowStatus
  else if a = Reg.VLT_NEED then w32 s.needMs
  else if a = Reg.VLT_STATUS then s.vltStatus
  else if a = Reg.VLT_PRESERVE_LAST then fields [(Fld.VLT_PRESERVE_LAST_TIME_MS, s.vlt.lastMs), (Fld.VLT_PRESERVE_LAST_MARGIN_J, s.vlt.lastJ)]
  else
    let inst := if 0x40 ≤ page ∧ page < 0x50 then some (page - 0x40) else if 0x60 ≤ page ∧ page < 0x80 then some (page - 0x50) else none
    match inst with
    | some n =>
      if off = 0x40 then s.chanStatus n
      else if 0x50 ≤ off ∧ off < 0x60 then s.chanCap n ((off - 0x50) / 4)
      else if off = 0 then s.withFields a [(Fld.DC_CFG_DPC, if 16 ≤ n then 1 else if n < s.addr.served.pop.channels then s.addr.served.pop.dpc else 0)]
      else s.reg a
    | none =>
      if 0x80 ≤ page ∧ page < 0xA0 then
        (if off = 0 then s.nandCfg (page - 0x80) else if off = 4 then s.nandLost (page - 0x80) else if off = 8 then s.nandState (page - 0x80) else s.reg a)
      else s.reg a

/-- What the live view of BAR2 reads at a register's offset (R450): a copy for an always-on register (R462); reserved offsets read 0. -/
def State.view (s : State) (a : Nat) : Word :=
  if (regAt a).isNone then 0
  else if aonAddrs.contains a then s.copyOf a
  else if Reg.TIM_NOW_LO ≤ a ∧ a ≤ Reg.TIM_CAP_AON_HI then s.aonView a
  else if a < 0x100000 then s.viewControl a
  else if a < 0x210000 then s.viewNet a
  else s.viewData a

end Sys2Proof.Machine
end

