-- ==== Sys2Proof/Safety.lean ====
section
/-!
DEFINITION. Safety.lean: the terms the statements use: what a command answers, and the states that a run can be in.
-/
namespace Sys2Proof.Machine

/-- A command runs to its end in a state: it answers a next state, not a fault and not a refusal, of which `P` holds. -/
abbrev Gives (i : Instr) (s : State) (P : State → Prop) : Prop := ∃ t, exec i s = .next t ∧ P t

/-- A mailbox takes a command and runs its body (R28, R369, R420 to R422, R427): the core is powered and out of STANDBY, the function's link
is up, its doorbell is clear, the mailbox may send the command, the mode allows it, no configuration change runs where it is one; and no job
bears the tag it will have. -/
def State.takes (s : State) (m : Mbx) (c : CmdSpec) : Bool :=
  s.pwr.core && s.mode.mode != .standby && s.fnUp m.fn && !s.doorbellSet m && (s.privileged m || c.ld) &&
  s.modeAllows (s.privileged m) c.status && !(c.cfg && s.cfgRuns) && !s.cmd.jobs.any (fun j => j.tag == s.tagNow)

/-- No twin to replicate to, none recorded, and the tag of the next command stands on no list: a P command (R423) runs here alone and completes
at once where it starts no fence, revocation or attribute change. -/
def State.solitary (s : State) : Bool :=
  !s.replicates && s.pair.record.isNone && !s.cmd.repl.any (fun r => r.tag == s.tagNow) && !s.addr.fences.any (fun f => f.tag == s.tagNow) &&
  !s.net.revs.any (fun r => r.tag == s.tagNow) && !s.pair.attrWait.any (fun a => a.1 == s.tagNow)

/-- The state after a command that did nothing but answer: its tag is used up, the completion and its interrupt are the newest outputs, the
counters of R425 have advanced. -/
def State.answered (s : State) (m : Mbx) (op : Nat) (r : Reply) : State :=
  { s with cmd := { s.cmd with nextTag := s.cmd.nextTag + 1 } }.answer m op r

/-- The canonical form of the home lines: keys strictly rising. An unlisted line holds what power-up left there, which no cell is, so no entry
equals what an unlisted one reads as. -/
abbrev Memory.wf (m : SMap Cell) : Bool := SMap.sortedL m.cells

/-- The canonical form of the tables of registers, counters and home lines: keys strictly rising, and no cell that holds what
an unlisted key reads as, so that equal tables are equal data. -/
def State.canonical (s : State) : Bool :=
  s.regs.wf resetAt && s.ctrs.wf (fun _ => 0) && Memory.wf s.mem && SMap.sortedL s.rsc.cells

/-! ## What a command can change -/

/-- Kinds of state that few commands change. -/
inductive Part where
  /-- The queue of the commands that wait: no command changes it. -/
  | waiting
  /-- Home lines in HBM and DDR5. -/
  | homeLines
  /-- Device time, ticks, captures (R18, R19). -/
  | timebase
  /-- The flash. -/
  | flash
  /-- RSC values that have not landed, copies of always-on registers, latched high words. -/
  | landing | copies | latched
  /-- SB0 to SB3. -/
  | sideband
  /-- The configuration frames. -/
  | frames
  | unlocks
  | power
  | modes
  deriving DecidableEq, Repr

/-- Two states agree on a kind of state. -/
def Part.same (p : Part) (s t : State) : Prop :=
  match p with
  | .waiting => t.pending = s.pending
  | .homeLines => t.mem = s.mem
  | .timebase => t.tim = s.tim
  | .flash => t.fls = s.fls
  | .landing => t.rsc = s.rsc
  | .copies => t.copies = s.copies
  | .latched => t.latched = s.latched
  | .sideband => t.sb0 = s.sb0 ∧ t.sb1 = s.sb1 ∧ t.sb2 = s.sb2 ∧ t.sb3 = s.sb3
  | .frames => t.sht = s.sht
  | .unlocks => t.unlocks = s.unlocks
  | .power => t.pwr = s.pwr
  | .modes => t.mode = s.mode

/-- The kinds of state among these that a command may change; the commands not named change none of them. -/
def mayTouch (i : Instr) : List Part :=
  match i with
  | .perstNAssert _ _ _ | .functionLevelReset _ | .transferFw _ _ _ _ _ | .flashProgramDone _ _ | .flashEraseDone _ _
  | .progWaitExpired _ | .journalScan | .rollErase => [.flash]
  | .zoneSet _ _ => [.frames]
  | .writeQueueRetire _ _ | .moveComplete _ | .raResp => [.homeLines]
  | .holdDwellExpired | .holdPurposeFinished | .activationTimeout | .dataFrame _ _ _ | .resyncCtl _ | .departing | .control _
  | .missedBeatInterval _ | .pathUpTimeout _ | .laneFault _ _ _ | .laneRetrainDone _ _ | .departingAckTimeout | .pairForm _ _
  | .pairFormComplete | .leafMapRebuilt | .rideTimerExpired => [.modes]
  | .offWaitEnd | .pfailNRise | .rideRearmExpired | .thermN _ => [.power]
  | .sbCmd _ _ _ _ | .sclLowTimeout _ _ | .hangCureRetry _ _ | .arbitrationLost _ | .busError _ _ => [.sideband]
  | .timCaptureGo _ | .timCaptureLands => [.timebase]
  | .sysPoolWrite _ _ | .release _ _ | .retireLine _ _ | .rawRead _ _ _ | .decRead _ _ _ | .cacheOp _ _ | .discard _
  | .vaultEraseGo _ | .fwSvnAdvance _ _ | .sysUnlockWrite _ _ | .unlockExpired _ => [.unlocks]
  | .testStripEnd => [.flash, .frames]
  | .activateFw _ _ _ | .fwReady => [.flash, .modes]
  | .logClear _ _ | .flashRead _ | .flashProgram _ | .flashErase _ | .flashSuspend _ | .flashResume _ | .protWrite _ | .pwdSet _ => [.flash, .unlocks]
  | .frameCommit _ _ | .shtCommitWrite _ => [.frames, .modes]
  | .leafRestoreDone _ _ => [.homeLines, .modes]
  | .rawWrite _ _ | .encWrite _ _ => [.homeLines, .unlocks]
  | .modeRequest _ _ | .temperaturePoll _ _ | .freezeLimitExpired _ | .probeReply _ | .faultSlotDispatch _
  | .selftestDone _ _ _ _ _ | .lockstepMismatch | .powerUpStart | .stepTimeout | .pgFall _ _ | .seqInLow | .chainDischarged _
  | .dischargeTimeout _ | .pfailNFall | .bankReadingStale | .holdupOkLow | .resetNLow | .junctionOvertemp _ | .logFlushDone => [.power, .modes]
  | .vcoreStep | .vcoreReadback _ => [.sideband, .power]
  | .referenceClockRestored _ => [.timebase, .power]
  | .forceDead _ _ _ => [.unlocks, .modes]
  | .frameRewind _ _ | .shtRewindWrite _ | .frameWriteDone _ | .frameWriteAbandoned | .autoRewindRetry => [.flash, .frames, .modes]
  | .pprDone _ => [.homeLines, .power, .modes]
  | .sysModeReqWrite _ _ _ _ | .rscWriteLands _ | .pwrVcoreTargetWrite _ _ _ => [.landing, .power, .modes]
  | .hostNotify _ _ _ | .bankReading _ | .sbTransferDone _ _ _ => [.sideband, .power, .modes]
  | .aonTick _ _ => [.timebase, .copies, .power]
  | .referenceClockLost _ => [.timebase, .power, .modes]
  | .retireChannel _ _ => [.unlocks, .power, .modes]
  | .preserveComplete _ | .faultEvent _ _ _ _ | .trainingComplete | .bringupFailure _ => [.flash, .frames, .power, .modes]
  | .stepQualified _ => [.flash, .copies, .sideband, .frames, .power, .modes]
  | .registerWrite _ _ _ _ => [.flash, .landing, .sideband, .frames, .unlocks, .power, .modes]
  | .outHoldExpired => [.homeLines, .flash, .copies, .latched, .sideband, .frames, .power, .modes]
  | .vddAonApplied _ _ _ _ | .vddAonRemoved => [.homeLines, .timebase, .flash, .landing, .copies, .latched, .sideband, .frames, .unlocks, .power, .modes]
  | _ => []

/-! ## An invariant -/

/-- What holds of every state: the tables of home lines, of RSC values not landed and of copies keep their keys in rising order, so that equal
contents are equal data; device time and ticks are 64-bit numbers, RELOCKS and SYS_MODE_COUNT 16-bit, PURPOSE 2-bit. -/
def State.lawful (s : State) : Bool :=
  Memory.wf s.mem && SMap.sortedL s.rsc.cells && SMap.sortedL s.copies.cells && decide (s.tim.ns < 2 ^ 64) &&
  decide (s.tim.ticks < 2 ^ 64) && decide (s.tim.relocks ≤ 65535) && decide (s.mode.count < 65536) && decide (s.mode.holdPurpose < 4)

end Sys2Proof.Machine
end

