-- ==== Sys2Proof/Certificates/Slice0/Obligations.lean ====
section
/-!
DEFINITION. Certificates/Slice0/Obligations.lean: the statements for the provers. Each is a conjunction of clauses over named commands or over
the operations that several commands share.
-/
section
open Sys2Proof Sys2Proof.Machine

/-- With a command at the front of the queue, a step is exec of that command on the state with the queue's rest. With nothing in the queue the block
idles: the state stays (the model's choice, log entry 2). Rests on R13. -/
def Obligations.StepRunsFront : Prop :=
  (∀ (s : State) (c : Instr) (rest : List Instr),
    s.pending = c :: rest →
    step s = exec c { s with pending := rest }) ∧
  (∀ (s : State),
    s.pending = [] →
    step s = .next s)

/-- Every register reads its Reset column, every counter 0; the mode is STANDBY with REASON 0x01, device time and the tick count are 0, every unlock is
closed, no supply is applied, no RSC value waits to land, no command waits, and the tables are in their canonical form. Reset values that the spec
does not state are the model's choice (log entry 1). Rests on R10, R12, R20. -/
def Obligations.ResetState : Prop :=
  ((∀ a, State.reset.reg a = resetAt a) ∧ (∀ a, State.reset.ctr a = 0)) ∧
  (State.reset.mode.mode = .standby ∧ State.reset.mode.reason = 1 ∧ State.reset.mode.count = 0 ∧ State.reset.tim.ns = 0 ∧ State.reset.tim.ticks = 0 ∧ State.reset.pwr.aon = false ∧ State.reset.pwr.core = false ∧ State.reset.rsc.cells = [] ∧ State.reset.pending = [] ∧ (∀ w ∈ [0, 1, 2, 3, 4], State.reset.unlocked w = false)) ∧
  (State.reset.canonical = true ∧ State.reset.lawful = true)

/-- Every command, with every operand and in every state, answers a next state whose queue is the one it was given. The one exception is JTAG_INSTRUCTION
with EXTEST or the manufacturing scan while VDD_AON is applied and MFG_TEST_N is low, of which the spec gives no effect: it stops with the fault
manufacturingScan. Rests on R554. -/
def Obligations.EveryCommandCompletes : Prop :=
  (∀ (i : Instr) (s : State),
    (s.pwr.aon = true → s.pwr.mfgTestN = false → i ≠ .jtagInstruction .extest ∧ i ≠ .jtagInstruction .scan) →
    Gives i s (fun t => t.pending = s.pending)) ∧
  (∀ (s : State),
    s.pwr.aon = true →
    s.pwr.mfgTestN = false →
    exec (.jtagInstruction .extest) s = .fault .manufacturingScan ∧ exec (.jtagInstruction .scan) s = .fault .manufacturingScan)

/-- A command leaves the queue, the home lines, the timebase, the flash, the RSC values not landed, the copies of always-on registers, the latched high
words, the sideband buses, the configuration frames, the unlocks, the power supervisor and the mode controller as they were, each but where mayTouch
names it for the command. Rests on R10, R13, R18, R160, R452, R458. -/
def Obligations.CommandFrames : Prop :=
  (∀ (i : Instr) (s t : State) (p : Part),
    exec i s = .next t →
    p ∉ mayTouch i →
    p.same s t)

/-- WRITE_QUEUE_RETIRE changes no home line but that of the write it retires; MOVE_COMPLETE none but those of the place the extent moves to;
LEAF_RESTORE_DONE none but the homes of the leaf's lines; RA_RESP none but the homes of the lines it carries; RAW_WRITE and ENC_WRITE none but the one
EC_TEST_ADDR names; PPR_DONE none outside the row repaired. Rests on R160, R165, R226, R267, R279, R313. -/
def Obligations.HomeLineFrames : Prop :=
  (∀ (inst req : Nat) (r : ChReq) (s t : State) (h : Home),
    ((s.chan inst).wq.find? (fun r => r.id == req && r.issued) = some r) →
    exec (.writeQueueRetire inst req) s = .next t →
    h.key ≠ r.home.key →
    t.cell h = s.cell h) ∧
  (∀ (x : Nat) (m : Move) (s t : State) (h : Home),
    s.moveOf x = some m →
    exec (.moveComplete x) s = .next t →
    (∀ o ∈ List.range extentLines, h.key ≠ (s.remapOf ⟨m.toHbm, m.toHome * extentLines + o⟩).key) →
    t.cell h = s.cell h) ∧
  (∀ (leaf : Nat) (reads : List PageRead) (s t : State) (h : Home),
    exec (.leafRestoreDone leaf reads) s = .next t →
    (∀ k ∈ List.range leafLines, h.key ≠ (s.remapOf (s.homeOf (leafLines * leaf + k))).key) →
    t.cell h = s.cell h) ∧
  (∀ (m : TwMsg) (s t : State) (h : Home),
    s.nextMsg 0x08 = some m →
    exec .raResp s = .next t →
    (∀ r ∈ m.lines, h.key ≠ (s.remapOf (s.homeOf r.line)).key) →
    t.cell h = s.cell h) ∧
  (∀ (who : Nat) (ctl : Word) (i : Instr) (s t : State) (h : Home),
    (i = .rawWrite who ctl ∨ i = .encWrite who ctl) →
    exec i s = .next t →
    h.key ≠ s.testHome.key →
    t.cell h = s.cell h) ∧
  (∀ (outcome : Nat) (p : RowRepair) (s t : State) (h : Home),
    s.ec.repair = some p →
    exec (.pprDone outcome) s = .next t →
    s.inRow p.row h = false →
    t.cell h = s.cell h)

/-- From every state in which the tables of home lines, of RSC values not landed and of register copies have their keys strictly rising, device time and
ticks are below 2^64, RELOCKS is at most 65535, SYS_MODE_COUNT below 65536 and PURPOSE below 4, a step that answers a next state answers one of which
the same holds. Rests on R9, R18, R19, R22, R160, R463. -/
def Obligations.StepKeepsLawful : Prop :=
  (∀ (s t : State),
    s.lawful = true →
    step s = .next t →
    t.lawful = true)

/-- A write of SYS_MODE_REQ that has still to cross is held as the pending value of its register, in place of an earlier one, and changes no mode. A
request that lands during a transition sets RESULT to 0b11 and changes nothing else of the mode controller; one for HOLD from SERVE or SOLO is
accepted: RESULT 0b01, STATE HOLD with its PURPOSE, COUNT one up; one for STANDBY in SERVE, SOLO or HOLD is accepted as an off request: the controller
enters PRESERVE, and an off request stays pending. Rests on R21, R463, R22. -/
def Obligations.ModeRequestResult : Prop :=
  (∀ (who target purpose : Nat) (s : State),
    s.pwr.core = true →
    who < 5 →
    Gives (.sysModeReqWrite who target purpose true) s (fun t => t.rsc.find? Reg.SYS_MODE_REQ = some (w32 (target % 8 + purpose % 4 * 16)) ∧ t.mode = s.mode)) ∧
  (∀ (who target purpose : Nat) (s : State),
    s.pwr.core = true →
    who < 5 →
    s.mode.transit = true →
    Gives (.sysModeReqWrite who target purpose false) s (fun t => t.mode = { s.mode with reqResult := 3 } ∧ t.cmd = s.cmd ∧ t.trk = s.trk ∧ t.out = s.out)) ∧
  (∀ (who purpose : Nat) (s : State),
    s.pwr.core = true →
    who < 5 →
    s.mode.transit = false →
    ((s.mode.mode = .serve ∧ purpose % 4 ≠ 3) ∨ s.mode.mode = .solo) →
    Gives (.sysModeReqWrite who 5 purpose false) s (fun t => t.mode = { s.mode with mode := .hold, holdPurpose := purpose % 4, reason := 0x0B, count := (s.mode.count + 1) % 65536, reqResult := 1 })) ∧
  (∀ (who purpose : Nat) (s : State),
    s.pwr.core = true →
    who < 5 →
    s.mode.transit = false →
    (s.mode.mode = .serve ∨ s.mode.mode = .solo ∨ s.mode.mode = .hold) →
    Gives (.sysModeReqWrite who 0 purpose false) s (fun t => t.mode.mode = .preserve ∧ t.mode.reason = 0x08 ∧ t.mode.offPending = true ∧ t.mode.leftMode = s.mode.mode ∧ t.mode.count = (s.mode.count + 1) % 65536 ∧ t.mode.reqResult = 1))

/-- A pending RSC value that lands becomes the register's value in its RSC fields, is pending no longer and changes no other register; PWR_VCORE.TARGET
lands clamped to 650 to 850 mV whether it crosses at once or later. Rests on R10, R15, R463. -/
def Obligations.RscLanding : Prop :=
  (∀ (a : Nat) (w : Word) (s : State),
    s.rsc.find? a = some w →
    a ≠ Reg.SYS_MODE_REQ →
    Gives (.rscWriteLands a) s (fun t => t.reg a = landed a (s.reg a) w ∧ t.rsc.find? a = none ∧ (∀ b, b ≠ a → t.reg b = s.reg b) ∧ (∀ b, b ≠ a → t.rsc.find? b = s.rsc.find? b) ∧ t.mode = s.mode)) ∧
  (∀ (w : Word) (s : State),
    s.rsc.find? Reg.PWR_VCORE = some w →
    Gives (.rscWriteLands Reg.PWR_VCORE) s (fun t => 650 ≤ t.fld Reg.PWR_VCORE Fld.PWR_VCORE_TARGET ∧ t.fld Reg.PWR_VCORE Fld.PWR_VCORE_TARGET ≤ 850 ∧ (650 ≤ w.field 9 0 → w.field 9 0 ≤ 850 → t.fld Reg.PWR_VCORE Fld.PWR_VCORE_TARGET = w.field 9 0))) ∧
  (∀ (who target : Nat) (s : State),
    s.pwr.core = true →
    who < 5 →
    Gives (.pwrVcoreTargetWrite who target false) s (fun t => t.fld Reg.PWR_VCORE Fld.PWR_VCORE_TARGET = clamp 650 850 (target % 1024) ∧ t.mode = s.mode))

/-- An AON tick with the timebase not locked advances device time by 1,000 ns and the tick count by 1; locked, device time becomes the count of the
reference clock and never runs backward; the inputs are sampled and, with the core powered, the copies of SYS_MODE and of the other always-on
registers become the live values. GO captures device time and tick count at one instant and clears VALID; the capture lands in TIM_CAP_DEV and
TIM_CAP_AON and sets VALID. Rests on R9, R18, R19, R20. -/
def Obligations.TimebaseCommands : Prop :=
  (∀ (ns : Nat) (p : Pins) (s : State),
    s.pwr.aon = true →
    s.tim.locked = false →
    s.tim.ns + 1000 < 2 ^ 64 →
    s.tim.ticks + 1 < 2 ^ 64 →
    Gives (.aonTick ns p) s (fun t => t.tim = { s.tim with ns := s.tim.ns + 1000, ticks := s.tim.ticks + 1 } ∧ t.pwr = { s.pwr with pfailN := p.pfailN, holdupOk := p.holdupOk, seqIn := p.seqIn, resetN := p.resetN, pg := p.pg })) ∧
  (∀ (ns : Nat) (p : Pins) (s : State),
    s.pwr.aon = true →
    s.tim.locked = true →
    ns < 2 ^ 64 →
    s.tim.ns < 2 ^ 64 →
    s.tim.ticks + 1 < 2 ^ 64 →
    Gives (.aonTick ns p) s (fun t => t.tim = { s.tim with ns := max s.tim.ns ns, ticks := s.tim.ticks + 1 })) ∧
  (∀ (ns a : Nat) (p : Pins) (s : State),
    s.pwr.aon = true →
    s.pwr.core = true →
    a ∈ aonAddrs →
    Gives (.aonTick ns p) s (fun t => t.copyOf a = t.aonView a)) ∧
  (∀ (s : State),
    s.pwr.core = true →
    Gives (.timCaptureGo true) s (fun t => t.tim = { s.tim with capValid := false, capPending := some (s.tim.ns, s.tim.ticks) } ∧ t.regs = s.regs ∧ t.mode = s.mode)) ∧
  (∀ (d a : Nat) (s : State),
    s.tim.capPending = some (d, a) →
    Gives .timCaptureLands s (fun t => t.tim = { s.tim with capPending := none, capDev := d, capAon := a, capValid := true }))

/-- When the dwell in HOLD exceeds SYS_HOLD.LIMIT, or the activity of its PURPOSE has finished, the controller leaves HOLD for SERVE where it is paired
and the twin is reachable, else for SOLO, with REASON 0x0C or 0x0B, and COUNT advances. A handshake stall fences its channel, reports the block on the
acknowledging side with code 0x0D and counts. Rests on R22, R29, R400. -/
def Obligations.LeavingHold : Prop :=
  (∀ (s : State),
    s.mode.mode = .hold →
    Gives .holdDwellExpired s (fun t => t.mode = { s.mode with mode := if s.paired && s.twinReachable then .serve else .solo, reason := 0x0C, count := (s.mode.count + 1) % 65536 })) ∧
  (∀ (s : State),
    s.mode.mode = .hold →
    Gives .holdPurposeFinished s (fun t => t.mode = { s.mode with mode := if s.paired && s.twinReachable then .serve else .solo, reason := 0x0B, count := (s.mode.count + 1) % 65536 })) ∧
  (∀ (ch unit : Nat) (s : State),
    s.pwr.core = true →
    Gives (.handshakeStall ch unit) s (fun t => (ch, unit) ∈ t.flt.channels ∧ t.flt.reports = s.flt.reports ++ [⟨unit, 0x0D, Cls.major⟩] ∧ t.ctr Ctr.FLT_CNT_STALL = s.ctr Ctr.FLT_CNT_STALL + 1))

/-- The first application of VDD_AON starts device time and the tick count at 0, with the timebase locked where REFCLK_CXL is present; it samples the
straps; with no good EEPROM read SEQ_STATE is NO_TABLE and every mode register stands at its reset value. Its removal leaves the NAND, the config
flash contents, the fuses and the pair record as they were, and all registers at their reset words. Rests on R12, R18, R498, R553. -/
def Obligations.SupplyAppliedRemoved : Prop :=
  (∀ (p : Pins) (mt xb : Bool) (s : State),
    s.pwr.aon = false →
    Gives (.vddAonApplied p mt xb none) s (fun t => t.pwr.aon = true ∧ t.tim = { locked := s.pwr.refCxl, relocks := bit s.pwr.refCxl } ∧ t.pwr.seq = .noTable ∧ t.pwr.mfgTestN = mt ∧ t.pwr.xtalBypass = xb ∧ t.mode = {} ∧ t.pwr.core = false ∧ t.vlt.nand = s.vlt.nand)) ∧
  (∀ (p : Pins) (l : List (Word × Word)) (s : State),
    s.pwr.aon = false →
    l.length = 14 →
    Gives (.vddAonApplied p true false (some l)) s (fun t => t.pwr.aon = true ∧ t.pwr.seq = .off ∧ t.pwr.onPending = (t.fld Reg.PWR_CTL Fld.PWR_CTL_AUTO_ON == 1))) ∧
  (∀ (s : State),
    s.pwr.aon = true →
    Gives .vddAonRemoved s (fun t => t.pwr.aon = false ∧ (∀ a, t.reg a = resetAt a) ∧ t.mode = {} ∧ t.tim = {} ∧ t.vlt.nand = s.vlt.nand ∧ t.pair.record = s.pair.record ∧ t.fls.password = s.fls.password ∧ t.cmd.fusedSvn = s.cmd.fusedSvn ∧ t.log.roll = s.log.roll ∧ t.sht.frames = s.sht.frames))

/-- A pending on request for which the conditions of R500 hold starts a power-up: the supervisor copies the table, SEQ_STATE becomes UP_SEQ, and step 0
starts. A table that R499 rejects sets PWR_FAULT.KIND to 5. When a step qualifies and another follows, that step starts; its head goes high where HEAD
is 1. A step that times out is a sequence fault: KIND 2 with the step, REASON 0x0D, the on request cleared, and the rails go down. Rests on R499,
R500, R501, R503. -/
def Obligations.PowerUpSteps : Prop :=
  (∀ (s : State),
    s.powerGate = true →
    tableBad s.stepRegs = false →
    (validSteps s.stepRegs).isEmpty = false →
    tablePg s.stepRegs &&& s.pwr.pg.toNat = 0 →
    Gives .powerUpStart s (fun t => t.pwr.seq = .upSeq ∧ t.pwr.onPending = false ∧ t.pwr.table = s.stepRegs ∧ t.pwr.step = 0 ∧ t.pwr.started = 1 ∧ t.mode.transit = true ∧ t.mode.mode = s.mode.mode)) ∧
  (∀ (s : State),
    s.powerGate = true →
    tableBad s.stepRegs = true →
    Gives .powerUpStart s (fun t => t.pwr.faultKind = 5 ∧ t.pwr.seq = s.pwr.seq ∧ t.mode = s.mode)) ∧
  (∀ (pop : Option BootPop) (s : State),
    s.pwr.seq = .upSeq →
    s.pwr.crossing = none →
    s.pwr.step + 1 < s.stepCount →
    Gives (.stepQualified pop) s (fun t => t.pwr.step = s.pwr.step + 1 ∧ t.pwr.started = s.pwr.step + 2 ∧ t.pwr.qualified = s.pwr.step + 1 ∧ t.pwr.seq = .upSeq ∧ t.pwr.seqEn = (if entryHead (s.pwr.table.getD (s.pwr.step + 1) (0, 0)) then s.pwr.seqEn ||| BitVec.ofNat 4 (2 ^ entryChain (s.pwr.table.getD (s.pwr.step + 1) (0, 0))) else s.pwr.seqEn) ∧ t.mode = s.mode)) ∧
  (∀ (s : State),
    s.pwr.seq = .upSeq →
    s.pwr.crossing = none →
    s.mode.mode = .standby →
    Gives .stepTimeout s (fun t => t.pwr.faultKind = 2 ∧ t.pwr.faultStep = s.pwr.step ∧ t.pwr.seq = .downSeq ∧ t.pwr.onPending = false ∧ t.mode.reason = 0x0D ∧ t.mode.mode = .standby ∧ t.ctr Ctr.PWR_CNT_SEQ_FAULT = s.ctr Ctr.PWR_CNT_SEQ_FAULT + 1))

/-- When training completes after a good boot, with the served range and the vault large enough and the twin link enabled, STATE becomes RESTORE with
REASON 0x01 and COUNT one up. When the leaf map is rebuilt with no twin reachable, hosts are served from then on. A boot or training failure with no
older frame to retry with ends the bring-up: the on request is cleared and the rails go down. Rests on R22, R312, R561. -/
def Obligations.BringupEnds : Prop :=
  (∀ (s : State),
    s.mode.bringup = .boot →
    s.pwr.core = true →
    s.cmd.active.isNone = false →
    (s.channelsTrained.enterRestore).highestRegion ≤ s.addr.served.len →
    s.vaultShort = false →
    s.fld Reg.TWL_CTL Fld.TWL_CTL_ENABLE = 1 →
    Gives .trainingComplete s (fun t => t.mode = { s.mode with mode := .restore, reason := 0x01, count := (s.mode.count + 1) % 65536, bringup := .rebuild, transit := false } ∧ t.pwr = s.pwr)) ∧
  (∀ (s : State),
    s.mode.bringup = .rebuild →
    s.mode.mode = .restore →
    s.vlt.loaded = false →
    s.linkUp = false →
    Gives .leafMapRebuilt s (fun t => t.mode.bringup = .served ∧ t.mode.retrying = false)) ∧
  (∀ (cause : Nat) (s : State),
    s.mode.bringup = .boot →
    s.mode.mode = .standby →
    s.sht.frames = [] →
    Gives (.bringupFailure cause) s (fun t => t.mode.reason = 0x0D ∧ t.mode.mode = .standby ∧ t.mode.bringup = .none ∧ t.pwr.seq = .downSeq ∧ t.pwr.onPending = false))

/-- A power-good of a qualified step that reads low for no more than 2 µs only counts as a glitch. Longer, in SERVE, of a step that PRESERVE does not
need, it is recorded with KIND 3, the step and the bit, counted and reported, and the controller enters PRESERVE with REASON 0x07. SEQ_IN low while it
gates is an off request in SERVE. Rests on R504, R505, R506. -/
def Obligations.RunningRails : Prop :=
  (∀ (bit ns k : Nat) (s : State),
    s.pwr.seq = .up →
    s.stepOfBit bit = some k →
    ns ≤ 2000 →
    Gives (.pgFall bit ns) s (fun t => t.ctr Ctr.PWR_CNT_PG_GLITCH = s.ctr Ctr.PWR_CNT_PG_GLITCH + 1 ∧ t.pwr = s.pwr ∧ t.mode = s.mode ∧ t.flt = s.flt)) ∧
  (∀ (bit ns k : Nat) (s : State),
    s.pwr.seq = .up →
    s.pwr.core = true →
    s.mode.mode = .serve →
    s.mode.bringup = .served →
    s.stepOfBit bit = some k →
    2000 < ns →
    (s.stepA k).field 27 27 = 0 →
    Gives (.pgFall bit ns) s (fun t => t.pwr.faultKind = 3 ∧ t.pwr.faultStep = k ∧ t.pwr.faultPg = BitVec.ofNat 12 (2 ^ bit) ∧ t.pwr.pg = s.pwr.pg &&& ~~~(BitVec.ofNat 12 (2 ^ bit)) ∧ t.mode.mode = .preserve ∧ t.mode.reason = 0x07 ∧ t.mode.railDropped = true ∧ t.flt.reports = s.flt.reports ++ [⟨unitId 0x13 bit, 0x18, Cls.critical⟩])) ∧
  (∀ (s : State),
    s.pwr.seq = .up →
    s.mode.mode = .serve →
    s.mode.bringup = .served →
    s.fld Reg.PWR_SEQ Fld.PWR_SEQ_IN_GATE ≠ 0 →
    Gives .seqInLow s (fun t => t.pwr.seqIn = false ∧ t.mode.mode = .preserve ∧ t.mode.reason = 0x08 ∧ t.mode.offPending = true))

/-- When OUT_HOLD ends the core domain is held in reset: what is left is the always-on domain and what is non-volatile, and the head of the first chain
goes low. A chain that has discharged gives way to the next; after the last SEQ_STATE becomes OFF_WAIT and no transition is in progress. A discharge
that times out is recorded with KIND 4. After MIN_OFF_MS SEQ_STATE becomes OFF. Rests on R507, R508. -/
def Obligations.PowerDownSteps : Prop :=
  (∀ (c : Nat) (l : List Nat) (s : State),
    s.pwr.seq = .downSeq →
    s.pwr.downHold = true →
    s.pwr.downChains = c :: l →
    Gives .outHoldExpired s (fun t => t.pwr.core = false ∧ t.pwr.downHold = false ∧ t.pwr.seqEn = s.pwr.seqEn &&& ~~~(BitVec.ofNat 4 (2 ^ c)) ∧ t.tim = s.tim ∧ t.trk = {} ∧ t.lc = {} ∧ t.vlt.nand = s.vlt.nand ∧ t.mode = s.mode)) ∧
  (∀ (c : Nat) (s : State),
    s.pwr.seq = .downSeq →
    s.pwr.downHold = false →
    s.pwr.downChains = [c] →
    Gives (.chainDischarged c) s (fun t => t.pwr.seq = .offWait ∧ t.pwr.seqEn = 0 ∧ t.pwr.downChains = [] ∧ t.mode = { s.mode with transit := false })) ∧
  (∀ (k c : Nat) (l : List Nat) (s : State),
    s.pwr.seq = .downSeq →
    s.pwr.downHold = false →
    s.pwr.downChains = c :: l →
    k < s.pwr.started →
    s.stepChain k = c →
    k ∉ s.pwr.stuck →
    Gives (.dischargeTimeout k) s (fun t => t.pwr.faultKind = 4 ∧ t.pwr.faultStep = k ∧ t.ctr Ctr.PWR_CNT_RAIL_STUCK = s.ctr Ctr.PWR_CNT_RAIL_STUCK + 1)) ∧
  (∀ (s : State),
    s.pwr.seq = .offWait →
    Gives .offWaitEnd s (fun t => t = { s with pwr := { s.pwr with seq := .off } }))

/-- PFAIL_N going low outside PRESERVE makes the ride timer count; with T_RIDE_MS 0 the controller enters PRESERVE at once with REASON 0x05, else it goes
on. PFAIL_N going high holds the timer; REARM_MS later it clears and PWR_CNT_RIDE advances. At T_RIDE_MS with PFAIL_N low PRESERVE is entered. A bank
reading at or above the need is stored with its tick and changes no mode; one that failed leaves the last value. A reading that has gone stale, or
HOLDUP_OK low, enters PRESERVE with REASON 0x06 in SERVE. Rests on R398, R511, R512, R515, R519. -/
def Obligations.RideAndBank : Prop :=
  (∀ (s : State),
    s.pwr.aon = true →
    s.mode.mode = .serve →
    s.fld Reg.PWR_RIDE Fld.PWR_RIDE_T_RIDE_MS ≠ 0 →
    Gives .pfailNFall s (fun t => t = { s with pwr := { s.pwr with pfailN := false, riding := true } })) ∧
  (∀ (s : State),
    s.pwr.aon = true →
    s.mode.mode = .serve →
    s.fld Reg.PWR_RIDE Fld.PWR_RIDE_T_RIDE_MS = 0 →
    Gives .pfailNFall s (fun t => t.pwr = { s.pwr with pfailN := false, riding := true } ∧ t.mode.mode = .preserve ∧ t.mode.reason = 0x05 ∧ t.mode.leftMode = .serve)) ∧
  (∀ (s : State),
    s.pwr.aon = true →
    Gives .pfailNRise s (fun t => t = { s with pwr := { s.pwr with pfailN := true } })) ∧
  (∀ (s : State),
    s.pwr.pfailN = true →
    s.pwr.riding = true →
    s.mode.mode ≠ .preserve →
    Gives .rideRearmExpired s (fun t => t.pwr = { s.pwr with riding := false } ∧ t.ctr Ctr.PWR_CNT_RIDE = s.ctr Ctr.PWR_CNT_RIDE + 1 ∧ t.mode = s.mode)) ∧
  (∀ (s : State),
    s.pwr.pfailN = false →
    s.pwr.riding = true →
    s.mode.mode = .solo →
    Gives .rideTimerExpired s (fun t => t.mode.mode = .preserve ∧ t.mode.reason = 0x05 ∧ t.mode.leftMode = .solo ∧ t.pwr = s.pwr)) ∧
  (∀ (e : Nat) (s : State),
    s.pwr.aon = true →
    s.sb2.state ≠ .failed →
    s.energy s.needMs ≤ e % 65536 →
    Gives (.bankReading (some e)) s (fun t => t.pwr.bank = some (e % 65536, s.tim.ticks) ∧ t.pwr.bankStale = false ∧ t.pwr.needJ = s.energy s.needMs ∧ t.pwr.ceilNeedJ = s.energy (s.preserveMs s.ceilLeaves) ∧ (t.pwr.cap.isSome = decide (e % 65536 < s.energy (s.preserveMs s.ceilLeaves))) ∧ t.mode = s.mode)) ∧
  (∀ (s : State),
    s.pwr.aon = true →
    s.sb2.state ≠ .failed →
    Gives (.bankReading none) s (fun t => t.pwr = s.pwr ∧ t.mode = s.mode)) ∧
  (∀ (s : State),
    s.pwr.aon = true →
    s.pwr.core = true →
    s.pwr.bankStale = false →
    s.mode.mode = .serve →
    Gives .bankReadingStale s (fun t => t.pwr.bankStale = true ∧ t.bankJ = 0 ∧ t.mode.mode = .preserve ∧ t.mode.reason = 0x06)) ∧
  (∀ (s : State),
    s.pwr.aon = true →
    s.pwr.core = true →
    s.mode.mode = .solo →
    Gives .holdupOkLow s (fun t => t.pwr.holdupOk = false ∧ t.mode.mode = .preserve ∧ t.mode.reason = 0x06 ∧ t.flt.reports = s.flt.reports ++ [⟨unitId 0x14 0, 0x19, Cls.critical⟩]))

/-- VDD_CORE moves towards its target by at most 10 mV a step. A readback becomes ACTUAL_MV. RESET_N low in SERVE is an off request; with the rails off it
only shows at the pin. A junction at 115 °C or more is an off request with REASON 0x08 and makes on requests wait. THERM_N goes low at 105 °C, is
released at 102 °C or less and holds between. Rests on R521, R552, R558, R559. -/
def Obligations.CoreSupplyHeatReset : Prop :=
  (∀ (v : Nat) (s : State),
    s.pwr.vcoreCmd = some v →
    s.pwr.core = true →
    v ≠ s.vcoreTarget →
    Gives .vcoreStep s (fun t => t.pwr.vcoreCmd = some (if v < s.vcoreTarget then min s.vcoreTarget (v + 10) else max s.vcoreTarget (v - 10)) ∧ t.regs = s.regs ∧ t.mode = s.mode)) ∧
  (∀ (mv : Nat) (s : State),
    s.pwr.aon = true →
    s.pwr.vcoreCmd.isSome = true →
    s.sb1.state ≠ .failed →
    Gives (.vcoreReadback mv) s (fun t => t.pwr.vcoreMv = mv % 4096 ∧ t.mode = s.mode)) ∧
  (∀ (s : State),
    s.pwr.aon = true →
    s.pwr.seq = .up →
    s.mode.mode = .serve →
    Gives .resetNLow s (fun t => t.pwr.resetN = false ∧ t.mode.mode = .preserve ∧ t.mode.reason = 0x08 ∧ t.mode.offPending = true)) ∧
  (∀ (s : State),
    s.pwr.aon = true →
    s.pwr.seq = .off →
    Gives .resetNLow s (fun t => t = { s with pwr := { s.pwr with resetN := false } })) ∧
  (∀ (c : Nat) (s : State),
    s.pwr.aon = true →
    s.pwr.core = true →
    115 ≤ c →
    s.mode.mode = .serve →
    s.pwr.seq = .up →
    Gives (.junctionOvertemp c) s (fun t => t.pwr.junction = c ∧ t.pwr.hot = true ∧ t.pwr.thermN = false ∧ t.mode.mode = .preserve ∧ t.mode.reason = 0x08 ∧ t.mode.offPending = true)) ∧
  (∀ (c : Nat) (s : State),
    s.pwr.aon = true →
    Gives (.thermN c) s (fun t => t.pwr = { s.pwr with junction := c, hot := s.pwr.hot && decide (95 < c), thermN := if 105 ≤ c then false else if c ≤ 102 then true else s.pwr.thermN } ∧ t.mode = s.mode))

/-- IDCODE shifts out version 0xB and part 0x9160 in a word whose lowest bit is 1, BYPASS and any instruction not accepted shift out the bypass bit,
SAMPLE the pins' bits; none changes anything else but the count of free values. EXTEST with MFG_TEST_N high acts as BYPASS; with it low the spec gives
no effect and the model stops. REFCLK_CXL lost before the core is up only unlocks the timebase; restored it locks again and RELOCKS advances,
saturating. REFCLK_ETH lost in SERVE is an off request. XTAL lost is reported with code 0x1B. Rests on R18, R396, R397, R553, R554, R556. -/
def Obligations.PackagePort : Prop :=
  (∀ (s : State),
    s.pwr.aon = true →
    Gives (.jtagInstruction .bypass) s (fun t => t = s.emit (.jtag 0 0))) ∧
  (∀ (s : State),
    s.pwr.aon = true →
    Gives (.jtagInstruction .idcode) s (fun t => ∃ b : BitVec 64, t.out = .jtag 1 b :: s.out ∧ b.toNat / 2 ^ 12 = 0xB9160 ∧ b.toNat % 2 = 1 ∧ t.regs = s.regs ∧ t.mode = s.mode)) ∧
  (∀ (b : BitVec 64) (s : State),
    s.pwr.aon = true →
    Gives (.jtagInstruction (.sample b)) s (fun t => t = s.emit (.jtag 2 b))) ∧
  (∀ (s : State),
    s.pwr.aon = true →
    s.pwr.mfgTestN = true →
    Gives (.jtagInstruction .extest) s (fun t => t = s.emit (.jtag 0 0))) ∧
  (∀ (s : State),
    s.pwr.aon = true →
    s.pwr.mfgTestN = false →
    exec (.jtagInstruction .extest) s = .fault .manufacturingScan) ∧
  (∀ (s : State),
    s.pwr.core = false →
    Gives (.referenceClockLost 0) s (fun t => t = { s with pwr := { s.pwr with refCxl := false }, tim := { s.tim with locked := false } })) ∧
  (∀ (s : State),
    s.pwr.core = true →
    s.mode.mode = .serve →
    Gives (.referenceClockLost 1) s (fun t => t.pwr.refEth = false ∧ t.mode.mode = .preserve ∧ t.mode.reason = 0x08 ∧ t.mode.offPending = true)) ∧
  (∀ (s : State),
    s.pwr.core = true →
    Gives (.referenceClockLost 2) s (fun t => t.pwr = { s.pwr with xtal := false } ∧ t.flt.reports = s.flt.reports ++ [⟨unitId 0x17 2, 0x1B, Cls.major⟩] ∧ t.mode = s.mode)) ∧
  (∀ (s : State),
    s.pwr.core = false →
    s.pwr.aon = true →
    s.tim.locked = false →
    Gives (.referenceClockRestored 0) s (fun t => t = { s with pwr := { s.pwr with refCxl := true }, tim := { s.tim with locked := true, relocks := min 65535 (s.tim.relocks + 1) } })) ∧
  (∀ (s : State),
    s.pwr.core = true →
    Gives (.referenceClockRestored 1) s (fun t => t.pwr = { s.pwr with refEth := true } ∧ t.mode = s.mode ∧ t.tim = s.tim))

/-- A write of SBn_CMD that moves at least one byte starts a transfer at once on an idle bus, with the address, the first WLEN bytes of SBn_DATA and RLEN.
A transfer that ends DONE with none waiting leaves the bus IDLE with RESULT 1 and advances SBn_CNT_XFER. SCL held low ends it with TIMEOUT and, where
the cure fails, HUNG: the bus is FAILED, nothing waits, and the fault manager is told with class MAJOR. A cure that succeeds leaves the bus IDLE.
Arbitration lost, or a bus error, with retries left starts the same transfer again and is counted. Rests on R524, R525, R526, R527, R528, R529, R531. -/
def Obligations.SidebandTransfers : Prop :=
  (∀ (who n : Nat) (cmd : Word) (s : State),
    s.pwr.core = true →
    who < 5 →
    s.sbLive n = true →
    (cmd.field 11 8 ≠ 0 ∨ cmd.field 15 12 ≠ 0) →
    (s.sb n).state = .idle →
    Gives (.sbCmd who n cmd none) s (fun t => (t.sb n).state = .active ∧ (t.sb n).cur = some ⟨false, cmd.field 6 0, (s.sbData n).take (min 8 (cmd.field 11 8)), min 8 (cmd.field 15 12), 0⟩ ∧ (t.sb n).queue = (s.sb n).queue ∧ t.regs = s.regs)) ∧
  (∀ (n : Nat) (r : SbReq) (s : State),
    s.sbLive n = true →
    (s.sb n).cur = some r →
    r.supervisor = false →
    (s.sb n).queue = [] →
    r.rlen = 0 →
    Gives (.sbTransferDone n 1 []) s (fun t => (t.sb n).state = .idle ∧ (t.sb n).cur = none ∧ (t.sb n).result = 1 ∧ (t.sb n).retry = r.retry ∧ t.ctr (Ctr.SB_CNT_XFER (sbPage n)) = s.ctr (Ctr.SB_CNT_XFER (sbPage n)) + 1)) ∧
  (∀ (n : Nat) (r : SbReq) (s : State),
    s.sbLive n = true →
    s.pwr.core = true →
    (s.sb n).cur = some r →
    Gives (.sclLowTimeout n none) s (fun t => (t.sb n).state = .failed ∧ (t.sb n).cur = none ∧ (t.sb n).queue = [] ∧ t.flt.reports = s.flt.reports ++ [⟨unitId 0x16 n, 0x1C, Cls.major⟩])) ∧
  (∀ (n k : Nat) (r : SbReq) (s : State),
    s.sbLive n = true →
    (s.sb n).cur = some r →
    (s.sb n).queue = [] →
    Gives (.sclLowTimeout n (some k)) s (fun t => (t.sb n).state = .idle ∧ (t.sb n).cur = none ∧ (t.sb n).result = 6)) ∧
  (∀ (n k : Nat) (s : State),
    s.sbLive n = true →
    (s.sb n).state = .failed →
    Gives (.hangCureRetry n (some k)) s (fun t => (t.sb n).state = .idle)) ∧
  (∀ (n : Nat) (s : State),
    s.sbLive n = true →
    (s.sb n).state = .failed →
    Gives (.hangCureRetry n none) s (fun t => (t.sb n).state = .failed ∧ t.ctr (Ctr.SB_CNT_HANG (sbPage n)) = s.ctr (Ctr.SB_CNT_HANG (sbPage n)) + 1 ∧ t.out = .cure n 9 :: s.out)) ∧
  (∀ (n : Nat) (r : SbReq) (s : State),
    s.sbLive n = true →
    (s.sb n).cur = some r →
    r.retry < s.sbRetries n →
    Gives (.arbitrationLost n) s (fun t => (t.sb n).state = .active ∧ (t.sb n).cur = some { r with retry := r.retry + 1 } ∧ t.ctr (Ctr.SB_CNT_ARB_LOST (sbPage n)) = s.ctr (Ctr.SB_CNT_ARB_LOST (sbPage n)) + 1)) ∧
  (∀ (n : Nat) (r : SbReq) (s : State),
    s.sbLive n = true →
    (s.sb n).cur = some r →
    r.retry < s.sbRetries n →
    Gives (.busError n none) s (fun t => (t.sb n).state = .active ∧ (t.sb n).cur = some { r with retry := r.retry + 1 } ∧ t.fld (Reg.SB_STATUS (sbPage n)) Fld.SB_STATUS_BUS_ERROR = 1 ∧ t.ctr (Ctr.SB_CNT_BUS_ERR (sbPage n)) = s.ctr (Ctr.SB_CNT_BUS_ERR (sbPage n)) + 1))

/-- With HN_EN set, a whole message on a bus other than SB3 is latched where none is, and discarded and counted where one is. On SB3 from the management
controller 0x0002 is the off request, which is not latched; any other message there is latched as on the other buses. Rests on R509, R532, R533. -/
def Obligations.HostNotify : Prop :=
  (∀ (n who d : Nat) (s : State),
    s.sbLive n = true →
    s.fld (Reg.SB_CTL (sbPage n)) Fld.SB_CTL_HN_EN = 1 →
    n ≠ 3 →
    (s.sb n).notify = none →
    Gives (.hostNotify n who d) s (fun t => (t.sb n).notify = some (who % 128, d % 65536) ∧ t.ctr (Ctr.SB_CNT_NOTIFY (sbPage n)) = s.ctr (Ctr.SB_CNT_NOTIFY (sbPage n)) + 1 ∧ t.mode = s.mode)) ∧
  (∀ (n who d : Nat) (s : State),
    s.sbLive n = true →
    s.fld (Reg.SB_CTL (sbPage n)) Fld.SB_CTL_HN_EN = 1 →
    n ≠ 3 →
    (s.sb n).notify.isSome = true →
    Gives (.hostNotify n who d) s (fun t => t.sb n = s.sb n ∧ t.ctr (Ctr.SB_CNT_NOTIFY_DROP (sbPage n)) = s.ctr (Ctr.SB_CNT_NOTIFY_DROP (sbPage n)) + 1 ∧ t.mode = s.mode)) ∧
  (∀ (s : State),
    s.pwr.aon = true →
    s.fld (Reg.SB_CTL (sbPage 3)) Fld.SB_CTL_HN_EN = 1 →
    s.mode.mode = .serve →
    s.fld Reg.PWR_CTL Fld.PWR_CTL_MGMT_ADDR < 128 →
    Gives (.hostNotify 3 (s.fld Reg.PWR_CTL Fld.PWR_CTL_MGMT_ADDR) 2) s (fun t => t.mode.mode = .preserve ∧ t.mode.reason = 0x08 ∧ t.mode.offPending = true ∧ t.sb3 = s.sb3))

/-- A status command that its mailbox takes, with the defined length, completes with Success at once and does nothing but answer: MODE_STATUS with the
copies of SYS_MODE and SYS_HOLD, SEC_STATUS with CRY_BOOT and CRY_STATUS, TENANT_STATUS with the floor, the ceiling and the use of the tenant named,
HOME_QUERY with the home of an extent the device has, RESYNC_STATUS, PRESERVE_REPORT and the others with their outputs. A listing command that its
mailbox takes, with the defined length, completes with Success at once and does nothing but answer. MARK_LIST, REMAP_LIST and ERR_COUNTS answer for a
channel that exists; VAULT_LOST_LIST with its reserved word 0. A standard query that its mailbox takes completes with Success at once and does nothing
but answer: GET_TIMESTAMP with TIM_STAMP, GET_ALERT_CONFIGURATION with the thresholds, GET_SHUTDOWN_STATE with whether the last image is not clean,
IDENTIFY_MEMORY_DEVICE with a volatile capacity of 0 and the persistent one equal to the total, GET_EVENT_RECORDS with the overflow count and the
records of one of the four logs, GET_POISON_LIST, GET_SCAN_MEDIA_RESULTS, GET_LD_INFO and the others with their outputs; SET_SHUTDOWN_STATE is
accepted without effect; an opcode listed nowhere ends with Unsupported. Rests on R425, R438, R440, R441, R473, R437, R443, R371, R379, R426. -/
def Obligations.QueriesAnswer : Prop :=
  (∀ (m : Mbx) (inp : List Word) (s : State),
    s.takes m ⟨0xC800, true, false, false, true⟩ = true →
    m.len = 0 →
    Gives (.modeStatus m inp) s (fun t => t = s.answered m 0xC800 (.ok [s.copyOf Reg.SYS_MODE, s.copyOf Reg.SYS_HOLD]))) ∧
  (∀ (m : Mbx) (inp : List Word) (s : State),
    s.takes m ⟨0xC802, true, false, false, true⟩ = true →
    m.len = 0 →
    Gives (.powerStatus m inp) s (fun t => ∃ out, t = s.answered m 0xC802 (.ok out))) ∧
  (∀ (m : Mbx) (inp : List Word) (s : State),
    s.takes m ⟨0xC900, true, false, false, true⟩ = true →
    m.len = 0 →
    Gives (.secStatus m inp) s (fun t => t = s.answered m 0xC900 (.ok [s.cryBoot, s.cryStatus, 0, 0]))) ∧
  (∀ (m : Mbx) (inp : List Word) (s : State),
    s.takes m (.read 0xC901) = true →
    m.len = 0 →
    Gives (.identityGet m inp) s (fun t => t = s.answered m 0xC901 (.ok (ipWords Config.serial ++ [w32 Config.certChain.length] ++ byteWords Config.certChain)))) ∧
  (∀ (m : Mbx) (inp : List Word) (s : State),
    s.takes m ⟨0xC201, true, false, false, true⟩ = true →
    m.len = 4 →
    Gives (.tenantStatus m inp) s (fun t => t = s.answered m 0xC201 (.ok [w32 ((wordAt inp 0).field 11 0), w32 (s.tenant ((wordAt inp 0).field 11 0)).floor, w32 (s.ceilTenant ((wordAt inp 0).field 11 0)), w32 (s.useOf ((wordAt inp 0).field 11 0))]))) ∧
  (∀ (m : Mbx) (inp : List Word) (s : State),
    s.takes m ⟨0xC212, true, false, false, true⟩ = true →
    m.len = 4 →
    s.limitedTo m = none →
    (s.tier.scheds.find? ((wordAt inp 0).field 9 0)).isSome = true →
    Gives (.schedStatus m inp) s (fun t => ∃ out, t = s.answered m 0xC212 (.ok out))) ∧
  (∀ (m : Mbx) (inp : List Word) (s : State),
    s.takes m ⟨0xC220, false, false, false, false⟩ = true →
    m.len = 4 →
    (wordAt inp 0).field 22 0 < s.addr.served.len →
    Gives (.homeQuery m inp) s (fun t => t = s.answered m 0xC220 (.ok (lohi (s.homeEntry ((wordAt inp 0).field 22 0)) ++ [match s.moveOf ((wordAt inp 0).field 22 0) with | some v => w32 v.cursor | none => w32 (2 ^ 32 - 1), 0])))) ∧
  (∀ (m : Mbx) (inp : List Word) (s : State),
    s.takes m ⟨0xC300, true, false, false, true⟩ = true →
    m.len = 0 →
    Gives (.vaultStatus m inp) s (fun t => ∃ out, t = s.answered m 0xC300 (.ok out))) ∧
  (∀ (m : Mbx) (inp : List Word) (s : State),
    s.takes m ⟨0xC304, false, false, false, false⟩ = true →
    m.len = 0 →
    Gives (.preserveReport m inp) s (fun t => t = s.answered m 0xC304 (.ok (let d := s.vlt.nand.done.getD ⟨0, 0, 0, 0, 0⟩; lohi d.sealSeq ++ lohi d.seq ++ [w32 d.ms, w32 d.joules] ++ lohi d.leaves)))) ∧
  (∀ (m : Mbx) (inp : List Word) (s : State),
    s.takes m ⟨0xC400, false, false, false, true⟩ = true →
    m.len = 0 →
    Gives (.netStatus m inp) s (fun t => ∃ out, t = s.answered m 0xC400 (.ok out))) ∧
  (∀ (m : Mbx) (inp : List Word) (s : State),
    s.takes m ⟨0xC100, true, false, false, true⟩ = true →
    m.len = 0 →
    Gives (.pairStatus m inp) s (fun t => ∃ out, t = s.answered m 0xC100 (.ok out))) ∧
  (∀ (m : Mbx) (inp : List Word) (s : State),
    s.takes m ⟨0xC103, true, false, false, true⟩ = true →
    m.len = 0 →
    Gives (.resyncStatus m inp) s (fun t => t = s.answered m 0xC103 (.ok ([w32 s.pair.resync.size, w32 s.pair.resyncDone] ++ lohi (64 * s.pair.resyncLines) ++ lohi (if s.pair.resyncing then s.pair.resyncStart else 0))))) ∧
  (∀ (m : Mbx) (inp : List Word) (s : State),
    s.takes m ⟨0xC500, true, false, false, true⟩ = true →
    m.len = 0 →
    Gives (.faultStatus m inp) s (fun t => t = s.answered m 0xC500 (.ok ([s.fltStatus, 0] ++ (List.range 8).flatMap s.fltSlotWords ++ s.flt.queue.flatMap (fun e => [w32 e.unit, w32 (e.code % 65536 + e.cls * 65536)]))))) ∧
  (∀ (m : Mbx) (inp : List Word) (s : State),
    s.takes m ⟨0xC510, false, false, false, false⟩ = true →
    m.len = 0 →
    Gives (.trackerSnapshot m inp) s (fun t => ∃ out, t = s.answered m 0xC510 (.ok out))) ∧
  (∀ (m : Mbx) (inp : List Word) (s : State),
    s.takes m ⟨0xC603, false, false, false, true⟩ = true →
    m.len = 0 →
    Gives (.frameStatus m inp) s (fun t => ∃ out, t = s.answered m 0xC603 (.ok out))) ∧
  (∀ (m : Mbx) (inp : List Word) (s : State),
    s.takes m (.read 0xC005) = true →
    m.len = 4 →
    Gives (.regionList m inp) s (fun t => ∃ out, t = s.answered m 0xC005 (.ok out))) ∧
  (∀ (m : Mbx) (inp : List Word) (s : State),
    s.takes m (.read 0xC000) = true →
    m.len = 0 →
    Gives (.identifyRegions m inp) s (fun t => ∃ out, t = s.answered m 0xC000 (.ok out))) ∧
  (∀ (m : Mbx) (inp : List Word) (s : State),
    s.takes m ⟨0xC913, false, false, false, false⟩ = true →
    m.len = 4 →
    Gives (.keyslotList m inp) s (fun t => ∃ out, t = s.answered m 0xC913 (.ok out))) ∧
  (∀ (m : Mbx) (inp : List Word) (i : Nat) (s : State),
    s.takes m ⟨0xC532, false, false, false, false⟩ = true →
    m.len = 4 →
    instOfInput inp = some i →
    Gives (.markList m inp) s (fun t => ∃ out, t = s.answered m 0xC532 (.ok out))) ∧
  (∀ (m : Mbx) (inp : List Word) (i : Nat) (s : State),
    s.takes m ⟨0xC530, false, false, false, false⟩ = true →
    m.len = 4 →
    instOfInput inp = some i →
    Gives (.remapList m inp) s (fun t => ∃ out, t = s.answered m 0xC530 (.ok out))) ∧
  (∀ (m : Mbx) (inp : List Word) (i : Nat) (s : State),
    s.takes m ⟨0xC534, false, false, false, false⟩ = true →
    m.len = 4 →
    instOfInput inp = some i →
    Gives (.errCounts m inp) s (fun t => ∃ out, t = s.answered m 0xC534 (.ok out))) ∧
  (∀ (m : Mbx) (inp : List Word) (s : State),
    s.takes m ⟨0xC303, false, false, false, false⟩ = true →
    m.len = 8 →
    wordAt inp 1 = 0 →
    Gives (.vaultLostList m inp) s (fun t => ∃ out, t = s.answered m 0xC303 (.ok out))) ∧
  (∀ (m : Mbx) (inp : List Word) (s : State),
    s.takes m (.read 0xC412) = true →
    m.len = 8 →
    Gives (.keyList m inp) s (fun t => ∃ out, t = s.answered m 0xC412 (.ok out))) ∧
  (∀ (m : Mbx) (inp : List Word) (s : State),
    s.takes m (.read 0xC403) = true →
    m.len = 8 →
    Gives (.connList m inp) s (fun t => ∃ out, t = s.answered m 0xC403 (.ok out))) ∧
  (∀ (m : Mbx) (inp : List Word) (s : State),
    s.takes m ⟨0xC502, false, false, false, false⟩ = true →
    m.len = 4 →
    Gives (.faultChannels m inp) s (fun t => ∃ out, t = s.answered m 0xC502 (.ok out))) ∧
  (∀ (m : Mbx) (inp : List Word) (s : State),
    s.takes m ⟨0xC602, false, false, false, false⟩ = true →
    m.len = 0 →
    Gives (.frameList m inp) s (fun t => ∃ out, t = s.answered m 0xC602 (.ok out))) ∧
  (∀ (m : Mbx) (log : Nat) (s : State),
    s.takes m (.all 0x0100) = true →
    log < 4 →
    Gives (.getEventRecords m log) s (fun t => t = s.answered m 0x0100 (.ok ([w32 ((s.func m.fn).log log).overflow, w32 ((s.func m.fn).log log).recs.length] ++ ((s.func m.fn).log log).recs.flatMap EvRec.words)))) ∧
  (∀ (m : Mbx) (s : State),
    s.takes m (.all 0x0102) = true →
    Gives (.getEventInterruptPolicy m) s (fun t => t = s.answered m 0x0102 (.ok ((s.func m.fn).policy.map (fun v => w32 (v.getD 0)))))) ∧
  (∀ (m : Mbx) (s : State),
    s.takes m (.priv 0x0200) = true →
    Gives (.getFwInfo m) s (fun t => ∃ out, t = s.answered m 0x0200 (.ok out))) ∧
  (∀ (m : Mbx) (s : State),
    s.takes m (.all 0x0300) = true →
    Gives (.getTimestamp m) s (fun t => t = s.answered m 0x0300 (.ok (lohi s.stamp)))) ∧
  (∀ (m : Mbx) (s : State),
    s.takes m (.all 0x0400) = true →
    Gives (.getSupportedLogs m) s (fun t => t = s.answered m 0x0400 (.ok [1, w32 (4 * (s.cel m).length)]))) ∧
  (∀ (m : Mbx) (offset length : Nat) (s : State),
    s.takes m (.all 0x0401) = true →
    offset % 4 = 0 →
    length % 4 = 0 →
    offset + length ≤ 4 * (s.cel m).length →
    Gives (.getLog m offset length) s (fun t => t = s.answered m 0x0401 (.ok ((((s.cel m).drop (offset / 4)).take (length / 4)).map w32)))) ∧
  (∀ (m : Mbx) (s : State),
    s.takes m (.all 0x4000) = true →
    Gives (.identifyMemoryDevice m) s (fun t => t = s.answered m 0x4000 (.ok (lohi (s.capacity m / 268435456) ++ [0, 0] ++ lohi (s.capacity m / 268435456) ++ [0, 4096])))) ∧
  (∀ (m : Mbx) (s : State),
    s.takes m (.all 0x4100) = true →
    Gives (.getPartitionInfo m) s (fun t => t = s.answered m 0x4100 (.ok ([0, 0] ++ lohi (s.capacity m / 268435456))))) ∧
  (∀ (m : Mbx) (s : State),
    s.takes m (.all 0x4201) = true →
    Gives (.getAlertConfiguration m) s (fun t => t = s.answered m 0x4201 (.ok [w32 s.cmd.alert.1, w32 s.cmd.alert.2]))) ∧
  (∀ (m : Mbx) (s : State),
    s.takes m (.all 0x4203) = true →
    Gives (.getShutdownState m) s (fun t => t = s.answered m 0x4203 (.ok [w32 (bit (s.vlt.lastImage != 0))]))) ∧
  (∀ (m : Mbx) (dirty : Bool) (s : State),
    s.takes m (.priv 0x4204) = true →
    Gives (.setShutdownState m dirty) s (fun t => t = s.answered m 0x4204 (.ok []))) ∧
  (∀ (m : Mbx) (dpa length : Nat) (s : State),
    s.takes m (.all 0x4300) = true →
    Gives (.getPoisonList m dpa length) s (fun t => t = s.answered m 0x4300 (.ok (let l := (s.func m.fn).poison.filter (fun d => decide (dpa ≤ d) && decide (d < dpa + 64 * length)); [w32 (2 * bit (s.func m.fn).poisonMore), w32 l.length] ++ l.flatMap lohi)))) ∧
  (∀ (m : Mbx) (s : State),
    s.takes m (.all 0x4303) = true →
    Gives (.scanMediaCapabilities m) s (fun t => t = s.answered m 0x4303 (.ok [0]))) ∧
  (∀ (m : Mbx) (l : List Nat) (s : State),
    s.takes m (.all 0x4305) = true →
    (s.func m.fn).scan = some l →
    Gives (.getScanMediaResults m) s (fun t => t = s.answered m 0x4305 (.ok (w32 l.length :: l.flatMap lohi)))) ∧
  (∀ (m : Mbx) (s : State),
    s.takes m ⟨0x5400, false, false, false, false⟩ = true →
    32 ≤ m.fn →
    Gives (.getLdInfo m) s (fun t => t = s.answered m 0x5400 (.ok (lohi (sumL ((List.range (s.port (m.fn - 32)).ldCount).map (fun k => s.ldSpan (16 * (m.fn - 32) + k)))) ++ [w32 (s.port (m.fn - 32)).ldCount])))) ∧
  (∀ (m : Mbx) (start limit : Nat) (s : State),
    s.takes m ⟨0x5401, false, false, false, false⟩ = true →
    32 ≤ m.fn →
    Gives (.getLdAllocations m start limit) s (fun t => t = s.answered m 0x5401 (.ok (s.ldAllocs (m.fn - 32) start limit)))) ∧
  (∀ (m : Mbx) (opcode : Nat) (s : State),
    s.takes m (.all opcode) = true →
    ((stdOps ++ tilmaOps).all (fun c => c.1 != opcode) = true) →
    opcode ∉ fmOps →
    Gives (.unsupportedOpcode m opcode) s (fun t => t = s.answered m opcode .unsupported))

/-- A standard command that its mailbox takes completes with Success at once, and the next state is its effect and its answer, nothing else:
CLEAR_EVENT_RECORDS takes the oldest records from a log, or empties it; SET_EVENT_INTERRUPT_POLICY sets the vectors of the four logs, each none or 2
to 63; SET_ALERT_CONFIGURATION sets the thresholds; SET_TIMESTAMP makes TIM_STAMP read the value given, and device time stays; GET_HEALTH_INFO
answers, its Life Used a free value; SET_LD_ALLOCATIONS writes the spans where every one is allowed. Rests on R371, R379, R426. -/
def Obligations.StandardSettings : Prop :=
  (∀ (m : Mbx) (log count : Nat) (s : State),
    s.takes m (.all 0x0101) = true →
    log < 4 →
    count ≤ ((s.func m.fn).log log).recs.length →
    Gives (.clearEventRecords m log count) s (fun t => t = State.answered (s.setFunc m.fn ((s.func m.fn).setLog log (if count = 0 then {} else { (s.func m.fn).log log with recs := ((s.func m.fn).log log).recs.drop count }))) m 0x0101 (.ok []))) ∧
  (∀ (m : Mbx) (vectors : List (Option Nat)) (s : State),
    s.takes m (.all 0x0103) = true →
    vectors.length = 4 →
    (∀ v ∈ vectors, v.all (fun n => decide (2 ≤ n) && decide (n ≤ 63)) = true) →
    Gives (.setEventInterruptPolicy m vectors) s (fun t => t = State.answered (s.setFunc m.fn { s.func m.fn with policy := vectors }) m 0x0103 (.ok []))) ∧
  (∀ (m : Mbx) (ns : Nat) (s : State),
    s.takes m (.priv 0x0301) = true →
    Gives (.setTimestamp m ns) s (fun t => t.stamp = ns % 2 ^ 64 ∧ t.tim = s.tim ∧ t.mode = s.mode ∧ t.ctr Ctr.MBX_CNT_CMD = s.ctr Ctr.MBX_CNT_CMD + 1)) ∧
  (∀ (m : Mbx) (life temp : Nat) (s : State),
    s.takes m (.priv 0x4202) = true →
    Gives (.setAlertConfiguration m life temp) s (fun t => t = State.answered { s with cmd := { s.cmd with alert := (life, temp) } } m 0x4202 (.ok []))) ∧
  (∀ (m : Mbx) (s : State),
    s.takes m (.all 0x4200) = true →
    Gives (.getHealthInfo m) s (fun t => t = State.answered s.freed m 0x4200 (.ok [w32 (bit (s.flt.slots.values.any (·.lasting))), w32 (s.freeVal % 101), w32 s.pwr.junction, w32 s.cmd.dirtyCount, w32 (s.ctr Ctr.EC_CNT_CE).toNat, w32 (s.ctr Ctr.VLT_CNT_CORR_BITS).toNat]))) ∧
  (∀ (m : Mbx) (spans : List (Nat × Nat)) (s : State),
    s.takes m ⟨0x5402, false, false, false, false⟩ = true →
    32 ≤ m.fn →
    (spans.all (fun c => decide (c.1 < 16) && s.spanOk (16 * (m.fn - 32) + c.1) c.2) = true) →
    Gives (.setLdAllocations m spans) s (fun t => t.regs = (spans.foldl (fun (u : State) c => u.setSpan (16 * (m.fn - 32) + c.1) c.2) s).regs ∧ t.cxl = s.cxl ∧ t.out.take 2 = [.msix m.fn (if m.secondary then 1 else 0), .mbx m 0x5402 0 0 []]))

/-- INJECT_POISON, in HOLD with PURPOSE 0b10, of a line in a window of the function hands a poisoned write of the whole line to the tracker and stays open
until it completes; CLEAR_POISON hands a write of the data, where the LD may write the line. SCAN_MEDIA of lines in the windows of the function runs
in the background: its acceptance is answered with Background Command Started, and the addresses found are the result GET_SCAN_MEDIA_RESULTS reads.
BACKGROUND_COMMAND_DONE completes a background command that has finished with its return code and its output, and the command is no more among the
jobs. Rests on R81, R255, R383, R421, R426. -/
def Obligations.PoisonAndScans : Prop :=
  (∀ (m : Mbx) (dpa line : Nat) (s : State),
    s.takes m (.priv 0x4301) = true →
    s.mode.mode = .hold →
    s.mode.holdPurpose = 2 →
    dpa % 64 = 0 →
    s.mbxLine m dpa false = some line →
    Gives (.injectPoison m dpa) s (fun t => t = (s.openJob m (.priv 0x4301) false).submit ⟨7, line, .write 0 Mask.full true, .command s.tagNow, false⟩)) ∧
  (∀ (m : Mbx) (dpa line : Nat) (data : Line) (s : State),
    s.takes m (.all 0x4302) = true →
    dpa % 64 = 0 →
    s.mbxLine m dpa true = some line →
    Gives (.clearPoison m dpa data) s (fun t => t = (s.openJob m (.all 0x4302) false).submit ⟨7, line, .write data Mask.full false, .command s.tagNow, false⟩)) ∧
  (∀ (m : Mbx) (dpa length : Nat) (s : State),
    s.takes m (.all 0x4304) = true →
    s.inBackground m = false →
    dpa % 64 = 0 →
    length ≠ 0 →
    ((List.range length).all (fun k => (s.mbxLine m (dpa + 64 * k) false).isSome) = true) →
    Gives (.scanMedia m dpa length) s (fun t => (∃ found, (t.func m.fn).scan = some found) ∧ t.cmd.jobs = s.cmd.jobs ++ [⟨m, 0x4304, s.tagNow, false, true, false, false, some (0, 0, [])⟩])) ∧
  (∀ (fn : Nat) (secondary : Bool) (j : Job) (rc ext : Nat) (out : List Word) (s : State),
    (s.cmd.jobs.find? (fun j => j.mbx.fn == fn && j.mbx.secondary == secondary && j.background && j.done.isSome) = some j) →
    j.done = some (rc, ext, out) →
    Gives (.backgroundCommandDone fn secondary) s (fun t => t.cmd.jobs = s.cmd.jobs.filter (fun k => k.tag != j.tag) ∧ t.out = .msix j.mbx.fn (if j.mbx.secondary then 1 else 0) :: .mbx j.mbx j.opcode rc ext out :: s.out ∧ t.mode = s.mode ∧ t.mem = s.mem))

/-- TRANSFER_FW: Initiate into a slot that is neither active nor protected empties it, programs the words at its start and opens the transfer; Continue at
the offset expected programs the words there and moves the offset on; End checks the image and completes with Success where it is good, else empties
the slot and answers return code 10; Abort empties the slot and closes the transfer; Full transfer is Initiate and End at once. ACTIVATE_FW with
action 1 appends the slot to FORCE_LOG and completes; with action 0, in SERVE or SOLO, with an image of the same formats, it opens the activation and
enters HOLD with PURPOSE 0b00. FW_READY ends the activation: a good image makes the slot the active one, a bad one leaves the old image active;
ACTIVATION_TIMEOUT ends it with the old image active. Rests on R446, R447, R448. -/
def Obligations.FirmwareTransferAndActivation : Prop :=
  (∀ (m : Mbx) (slot : Nat) (data : List (BitVec 256)) (s : State),
    s.takes m (.priv 0x0201) = true →
    s.cmd.transfer = none →
    (slot = 1 ∨ slot = 2) →
    s.cmd.active ≠ some (slot - 1) →
    (if slot = 1 then s.fls.protA else s.fls.protB) &&& 0xFFFF = 0 →
    Gives (.transferFw m 1 slot 0 data) s (fun t => t = State.answered { (State.putFw { s with fls := s.fls.emptySlot (slot - 1) } (slot - 1) 0 data) with cmd := { s.cmd with transfer := some ⟨m.fn, m.secondary, slot - 1, ceilDiv data.length 4⟩ } } m 0x0201 (.ok []))) ∧
  (∀ (m : Mbx) (slot : Nat) (data : List (BitVec 256)) (s : State),
    s.takes m (.priv 0x0201) = true →
    s.cmd.transfer = none →
    (slot = 1 ∨ slot = 2) →
    s.cmd.active ≠ some (slot - 1) →
    (if slot = 1 then s.fls.protA else s.fls.protB) &&& 0xFFFF = 0 →
    Gives (.transferFw m 0 slot 0 data) s (fun t => t = (let u := State.putFw { s with fls := s.fls.emptySlot (slot - 1) } (slot - 1) 0 data; if u.imageGood (slot - 1) then State.answered u m 0x0201 (.ok []) else State.answered { u with fls := u.fls.emptySlot (slot - 1) } m 0x0201 ⟨10, 0, []⟩))) ∧
  (∀ (m : Mbx) (slot k n : Nat) (data : List (BitVec 256)) (s : State),
    s.takes m (.priv 0x0201) = true →
    s.cmd.transfer = some ⟨m.fn, m.secondary, k, n⟩ →
    Gives (.transferFw m 2 slot n data) s (fun t => t = State.answered { (s.putFw k (4 * n) data) with cmd := { s.cmd with transfer := some ⟨m.fn, m.secondary, k, n + ceilDiv data.length 4⟩ } } m 0x0201 (.ok []))) ∧
  (∀ (m : Mbx) (slot k n : Nat) (data : List (BitVec 256)) (s : State),
    s.takes m (.priv 0x0201) = true →
    s.cmd.transfer = some ⟨m.fn, m.secondary, k, n⟩ →
    Gives (.transferFw m 3 slot n data) s (fun t => t = (let u := { s.putFw k (4 * n) data with cmd := { s.cmd with transfer := none } }; if u.imageGood k then State.answered u m 0x0201 (.ok []) else State.answered { u with fls := u.fls.emptySlot k } m 0x0201 ⟨10, 0, []⟩))) ∧
  (∀ (m : Mbx) (slot offset k n : Nat) (data : List (BitVec 256)) (s : State),
    s.takes m (.priv 0x0201) = true →
    s.cmd.transfer = some ⟨m.fn, m.secondary, k, n⟩ →
    Gives (.transferFw m 4 slot offset data) s (fun t => t = State.answered { s with fls := s.fls.emptySlot k, cmd := { s.cmd with transfer := none } } m 0x0201 (.ok []))) ∧
  (∀ (m : Mbx) (slot : Nat) (s : State),
    s.takes m (.priv 0x0202) = true →
    (slot = 1 ∨ slot = 2) →
    Gives (.activateFw m 1 slot) s (fun t => t = State.answered (s.forceLog 0x12 0 (slot - 1)) m 0x0202 (.ok []))) ∧
  (∀ (m : Mbx) (slot a : Nat) (s : State),
    s.takes m (.priv 0x0202) = true →
    (slot = 1 ∨ slot = 2) →
    s.mode.mode = .solo →
    s.cmd.active = some a →
    a ≠ slot - 1 →
    s.cmd.activate = none →
    s.slotField (slot - 1) 12 2 = s.slotField a 12 2 →
    s.mode.transit = false →
    s.inBackground m = false →
    Gives (.activateFw m 0 slot) s (fun t => t.mode.mode = .hold ∧ t.mode.holdPurpose = 0 ∧ t.mode.reason = 0x0B ∧ t.cmd.activate = some ⟨m, s.tagNow, slot - 1, 2, s.now, false⟩ ∧ t.cmd.active = some a ∧ t.out = .mbx m 0x0202 1 0 [] :: s.out)) ∧
  (∀ (a : FwActivate) (s : State),
    s.cmd.activate = some a →
    Gives .fwReady s (fun t => t.cmd.activate = none ∧ (a.left = false → s.mode.mode = .hold → t.mode.reason = 0x0B ∧ t.mode.count = (s.mode.count + 1) % 65536) ∧ (if s.imageGood a.slot then t.cmd.active = some a.slot ∧ t.fls.force = s.fls.force.force 0x12 0 a.slot else t.cmd.active = s.cmd.active ∧ t.fls = s.fls ∧ t.ctr Ctr.CRY_CNT_ACT_REVERT = s.ctr Ctr.CRY_CNT_ACT_REVERT + 1))) ∧
  (∀ (a : FwActivate) (s : State),
    s.cmd.activate = some a →
    Gives .activationTimeout s (fun t => t.cmd.active = s.cmd.active ∧ t.cmd.activate = none ∧ t.fls = s.fls ∧ t.ctr Ctr.CRY_CNT_ACT_REVERT = s.ctr Ctr.CRY_CNT_ACT_REVERT + 1))

/-- TENANT_SET of a floor and a ceiling that fit sets them for the tenant, and in its TABLE record. SCHED_UNLOAD through a privileged mailbox removes the
schedule and its requests for moves. CACHE_OP through a privileged mailbox for a range the device has starts the range operation at once where none
runs and no fence stands, or lists it as the newest that waits; above 16,384 lines it runs in the background; DISCARD does so in HOLD with PURPOSE
0b10 outside a pair with the unlock open, which closes. A SCHED_LOAD through a privileged mailbox with a schedule ID not in use, a LEAD of 1 to 16, 1
to 4,096 steps of 1 to 16,384 runs each, every extent of every run in a region that is not pinned to DDR5, and a doorbell line no schedule has, loads
the schedule: its steps and runs as given, and the command completes. With TM_CTL.SCHED_EN clear it asks for no move. Rests on R209, R213, R214, R178,
R180, R459, R179, R563. -/
def Obligations.TenantsSchedulesAndCache : Prop :=
  (∀ (m : Mbx) (inp : List Word) (c : Nat) (s : State),
    s.takes m ⟨0xC200, false, true, false, false⟩ = true →
    m.len = 16 →
    (wordAt inp 0).field 31 12 = 0 →
    wordAt inp 3 = 0 →
    (wordAt inp 1).toNat ≤ c →
    c = (if (wordAt inp 2).toNat = 0 then s.tier.hbmTotal else (wordAt inp 2).toNat) →
    s.floors - (s.tenant ((wordAt inp 0).field 11 0)).floor + (wordAt inp 1).toNat ≤ s.tier.hbmTotal →
    pinHbm s.addr.regions.values ((wordAt inp 0).field 11 0) ≤ c →
    Gives (.tenantSet m inp) s (fun t => t.tenant ((wordAt inp 0).field 11 0) = ⟨(wordAt inp 1).toNat, (wordAt inp 2).toNat⟩ ∧ t.vlt.nand.tables.tenants = t.tier.tenants ∧ t.addr = s.addr ∧ t.out = .msix m.fn (if m.secondary then 1 else 0) :: .mbx m 0xC200 0 0 [] :: s.out)) ∧
  (∀ (m : Mbx) (inp : List Word) (c : Sched) (s : State),
    s.takes m ⟨0xC211, true, true, false, false⟩ = true →
    m.len = 4 →
    s.limitedTo m = none →
    s.tier.scheds.find? ((wordAt inp 0).field 9 0) = some c →
    Gives (.schedUnload m inp) s (fun t => t.tier.scheds.find? ((wordAt inp 0).field 9 0) = none ∧ (t.tier.asks.all (fun a => match a.why with | .sched k _ => k != (wordAt inp 0).field 9 0 | _ => true)) = true ∧ t.out = .msix m.fn (if m.secondary then 1 else 0) :: .mbx m 0xC211 0 0 [] :: s.out)) ∧
  (∀ (m : Mbx) (inp : List Word) (op cls first last : Nat) (s : State),
    s.takes m ⟨0xC020, true, false, false, false⟩ = true →
    m.len = 24 →
    s.limitedTo m = none →
    parseCacheOp inp = some (op, cls, first, last) →
    op ≠ 5 →
    last < 2 ^ 44 →
    last + 1 - first ≤ 64 * 16384 →
    s.opBusy = false →
    Gives (.cacheOp m inp) s (fun t => t = (s.openJob m ⟨0xC020, true, false, false, false⟩ false).opBegin ⟨op, [(first / 64, last / 64)], cls, some (m, s.tagNow), 0, [], false, 0⟩)) ∧
  (∀ (m : Mbx) (inp : List Word) (op cls first last : Nat) (s : State),
    s.takes m ⟨0xC020, true, false, false, false⟩ = true →
    m.len = 24 →
    s.limitedTo m = none →
    parseCacheOp inp = some (op, cls, first, last) →
    op ≠ 5 →
    last < 2 ^ 44 →
    64 * 16384 < last + 1 - first →
    s.inBackground m = false →
    Gives (.cacheOp m inp) s (fun t => t.out = .mbx m 0xC020 1 0 [] :: s.out ∧ (if s.opBusy then t.lc.opq = s.lc.opq ++ [⟨op, [(first / 64, last / 64)], cls, some (m, s.tagNow), 0, [], false, 0⟩] ∧ t.lc.op = s.lc.op else t.lc.opq = s.lc.opq ∧ t.lc.op = some ⟨op, [(first / 64, last / 64)], cls, some (m, s.tagNow), 0, [], false, 0⟩))) ∧
  (∀ (m : Mbx) (inp : List Word) (cls first last : Nat) (s : State),
    s.takes m ⟨0xC020, true, false, false, false⟩ = true →
    m.len = 24 →
    s.privileged m = true →
    parseCacheOp inp = some (5, cls, first, last) →
    last < 2 ^ 44 →
    last + 1 - first ≤ 64 * 16384 →
    s.discardAllowed = true →
    s.unlocked (requesterOf (s.linkOf m.fn).1 (s.linkOf m.fn).2) = true →
    s.opBusy = true →
    Gives (.cacheOp m inp) s (fun t => t.lc.opq = s.lc.opq ++ [⟨5, [(first / 64, last / 64)], cls, some (m, s.tagNow), 0, [], false, 0⟩] ∧ t.unlocked (requesterOf (s.linkOf m.fn).1 (s.linkOf m.fn).2) = false)) ∧
  (∀ (m : Mbx) (inp : List Word) (s : State),
    s.takes m ⟨0xC210, true, true, false, false⟩ = true →
    m.len = 32 + 8 * (wordAt inp 1).toNat + 8 * (wordAt inp 2).toNat →
    m.len ≤ 163872 →
    s.limitedTo m = none →
    ((wordAt inp 0).field 15 10 = 0 ∧ (wordAt inp 0).field 23 21 = 0 ∧ (wordAt inp 0).field 31 25 = 0 ∧ wordAt inp 3 = 0 ∧ (wordAt inp 6).field 31 24 = 0) →
    (1 ≤ (wordAt inp 0).field 20 16 ∧ (wordAt inp 0).field 20 16 ≤ 16) →
    (1 ≤ (wordAt inp 1).toNat ∧ (wordAt inp 1).toNat ≤ 4096) →
    (1 ≤ (wordAt inp 2).toNat ∧ (wordAt inp 2).toNat ≤ 16384) →
    (wide inp 4 % 64 = 0 ∧ wide inp 4 < 2 ^ 44) →
    s.tier.scheds.has ((wordAt inp 0).field 9 0) = false →
    s.tier.scheds.size < 1024 →
    (sumL (s.tier.scheds.values.map (fun c => c.runs.length)) + (wordAt inp 2).toNat ≤ 262144) →
    (∀ st ∈ schedSteps inp (wordAt inp 1).toNat, 1 ≤ st.count ∧ st.count ≤ 16384 ∧ st.firstRun + st.count ≤ (wordAt inp 2).toNat) →
    (∀ r ∈ schedRuns inp (wordAt inp 1).toNat (wordAt inp 2).toNat, r.2 ≠ 0 ∧ ∀ k ∈ List.range r.2, ((s.regionOf (k + r.1)).map (fun q => q.2.tier != 2)) = some true) →
    s.doorbellOf (wide inp 4 / 64) = none →
    Gives (.schedLoad m inp) s (fun t => (∃ c, t.tier.scheds.find? ((wordAt inp 0).field 9 0) = some c ∧ c.steps = schedSteps inp (wordAt inp 1).toNat ∧ c.runs = schedRuns inp (wordAt inp 1).toNat (wordAt inp 2).toNat ∧ c.lead = (wordAt inp 0).field 20 16 ∧ c.doorbell = wide inp 4 / 64 ∧ c.triggers = 0 ∧ c.lates = 0) ∧ t.out = .msix m.fn (if m.secondary then 1 else 0) :: .mbx m 0xC210 0 0 [] :: s.out ∧ (s.fld Reg.TM_CTL Fld.TM_CTL_SCHED_EN = 0 → t.tier.asks = s.tier.asks)))

/-- VAULT_FORMAT in HOLD with PURPOSE 0b10 arms the format. ZONE_SET of a class of 0 to 4 stages VLT_ZONE of the zone. VAULT_CHECKPOINT on a formatted
vault that is not being formatted waits with the checkpoint cycle, which it starts where none runs; the command stays open. Rests on R292, R320, R431,
R434. -/
def Obligations.VaultCommands : Prop :=
  (∀ (m : Mbx) (inp : List Word) (s : State),
    s.takes m ⟨0xC301, false, true, false, false⟩ = true →
    m.len = 0 →
    s.mode.mode = .hold →
    s.mode.holdPurpose = 2 →
    Gives (.vaultFormat m inp) s (fun t => t = State.answered { s with cmd := { s.cmd with formatArmed := true } } m 0xC301 (.ok []))) ∧
  (∀ (m : Mbx) (inp : List Word) (s : State),
    s.takes m ⟨0xC302, false, true, false, false⟩ = true →
    m.len = 4 →
    (wordAt inp 0).field 7 3 = 0 →
    (wordAt inp 0).field 31 11 = 0 →
    (wordAt inp 0).field 10 8 ≤ 4 →
    Gives (.zoneSet m inp) s (fun t => t = State.answered (s.stage (Reg.VLT_ZONE ((wordAt inp 0).field 2 0)) (w32 ((wordAt inp 0).field 10 8))) m 0xC302 (.ok []))) ∧
  (∀ (m : Mbx) (inp : List Word) (s : State),
    s.takes m ⟨0xC305, false, false, false, false⟩ = true →
    m.len = 0 →
    s.formatted = true →
    s.vlt.formatting = false →
    Gives (.vaultCheckpoint m inp) s (fun t => t.vlt.waiters = s.vlt.waiters ++ [(m, s.tagNow)] ∧ t.vlt.cycle.isSome = true ∧ (s.vlt.cycle.isSome = true → t.vlt.cycle = s.vlt.cycle) ∧ t.cmd.jobs = s.cmd.jobs ++ [⟨m, 0xC305, s.tagNow, false, false, false, false, none⟩] ∧ t.out = s.out))

/-- MARK_SET sets a mark of a device the channel has, where the rank has none: it is the newest mark, EC_CNT_MARK advances, the fault manager is told, and
the command completes; with bit 7 it clears the mark of that rank. PPR_RUN for a row of a FROZEN channel, hard repair in HOLD with PURPOSE 0b10 alone,
and no repair in progress, opens the repair of that row and stays open. Rests on R259, R266, R267, R437. -/
def Obligations.EngineCommands : Prop :=
  (∀ (m : Mbx) (inp : List Word) (k : Mark) (s : State),
    s.takes m ⟨0xC533, false, true, false, false⟩ = true →
    m.len = 4 →
    k = ⟨(wordAt inp 0).field 5 0, (wordAt inp 0).field 6 6, (wordAt inp 0).field 15 8, (wordAt inp 0).field 23 16⟩ →
    (wordAt inp 0).field 31 24 = 0 →
    k.inst < 48 →
    (wordAt inp 0).field 7 7 = 0 →
    s.ec.marks.any k.same = false →
    k.dev < s.deviceCount k.inst →
    Gives (.markSet m inp) s (fun t => t.ec.marks = s.ec.marks ++ [k] ∧ t.flt.reports = s.flt.reports ++ [⟨k.unit, 0x02, Cls.major⟩] ∧ t.ctr Ctr.EC_CNT_MARK = s.ctr Ctr.EC_CNT_MARK + 1 ∧ t.out = .msix m.fn (if m.secondary then 1 else 0) :: .mbx m 0xC533 0 0 [] :: s.out)) ∧
  (∀ (m : Mbx) (inp : List Word) (k : Mark) (s : State),
    s.takes m ⟨0xC533, false, true, false, false⟩ = true →
    m.len = 4 →
    (wordAt inp 0).field 31 24 = 0 →
    (wordAt inp 0).field 5 0 < 48 →
    (wordAt inp 0).field 7 7 = 1 →
    s.ec.marks.find? (Mark.same ⟨(wordAt inp 0).field 5 0, (wordAt inp 0).field 6 6, (wordAt inp 0).field 15 8, (wordAt inp 0).field 23 16⟩) = some k →
    Gives (.markSet m inp) s (fun t => t.ec.marks = s.ec.marks.filter (fun q => q != k) ∧ t.flt.reports = s.flt.reports ∧ t.out = .msix m.fn (if m.secondary then 1 else 0) :: .mbx m 0xC533 0 0 [] :: s.out)) ∧
  (∀ (m : Mbx) (inp : List Word) (r : RepairedRow) (hard : Bool) (s : State),
    s.takes m ⟨0xC531, false, true, false, false⟩ = true →
    m.len = 16 →
    parseRow inp = some (r, hard) →
    ((wordAt inp 0).field 7 7 == 1) = hard →
    (hard = true → s.inBackground m = false ∧ s.mode.mode = .hold ∧ s.mode.holdPurpose = 2) →
    (s.chan r.inst).state = .frozen →
    s.ec.repair = none →
    (r.inst < 16 → r.dev < s.deviceCount r.inst) →
    Gives (.pprRun m inp) s (fun t => t.ec.repair = some { row := r, hard := hard, reply := m, tag := s.tagNow } ∧ t.cmd.jobs = s.cmd.jobs ++ [⟨m, 0xC531, s.tagNow, true, hard, false, false, none⟩]))

/-- SELFTEST_RUN in HOLD with PURPOSE 0b10, of a test that fits the unit and with no handling of the unit, starts in the background. FRAME_COMMIT of a
mask with no cause against it puts the next frame number in force and answers it; FRAME_REWIND to a frame that is not rejected puts that frame in
force and answers its number. LOG_SNAPSHOT answers and leaves the log. LOG_CLEAR with the unlock open closes it and starts the erase of the fixed
area. LOG_FLUSH with nothing staged answers at once; else it waits for the flush up to the newest record. FW_SVN_ADVANCE in HOLD with PURPOSE 0b10
with the unlock open, the other slot empty, raises the fused version to that of the running image, at most 64. Rests on R403, R444, R459, R469, R473,
R545, R547, R548. -/
def Obligations.TestsFramesAndLog : Prop :=
  (∀ (m : Mbx) (inp : List Word) (s : State),
    s.takes m ⟨0xC503, false, true, false, false⟩ = true →
    m.len = 16 →
    s.inBackground m = false →
    s.mode.mode = .hold →
    s.mode.holdPurpose = 2 →
    (wordAt inp 1).field 31 3 = 0 →
    testFits ((wordAt inp 1).field 2 0) (unitKind (wordAt inp 0).toNat) = true →
    (s.flt.slots.values.any (fun f => f.unit == (wordAt inp 0).toNat) = false) →
    Gives (.selftestRun m inp) s (fun t => t = (s.openJob m ⟨0xC503, false, true, false, false⟩ true).emit (.mbx m 0xC503 1 0 []))) ∧
  (∀ (m : Mbx) (inp : List Word) (s : State),
    s.takes m ⟨0xC600, false, true, false, false⟩ = true →
    m.len = 4 →
    s.commitCause (wordAt inp 0) = none →
    Gives (.frameCommit m inp) s (fun t => t.sht.inForce = (s.sht.highest + 1) % 2 ^ 30 ∧ t.sht.highest = (s.sht.highest + 1) % 2 ^ 30 ∧ t.sht.result = 1 ∧ t.out.take 2 = [.msix m.fn (if m.secondary then 1 else 0), .mbx m 0xC600 0 0 [w32 ((s.sht.highest + 1) % 2 ^ 30)]])) ∧
  (∀ (m : Mbx) (inp : List Word) (f : Frame) (s : State),
    s.takes m ⟨0xC601, false, true, false, false⟩ = true →
    m.len = 4 →
    (wordAt inp 0).field 31 2 = 0 →
    (wordAt inp 0).field 1 0 ≠ 0 →
    s.mode.mode ≠ .preserve →
    s.shtBusy = false →
    ((((s.sht.live.take 4).dropWhile (fun f => f.num != s.sht.inForce)).drop ((wordAt inp 0).field 1 0)).head? = some f) →
    f.state ≠ .rejected →
    Gives (.frameRewind m inp) s (fun t => t.sht.inForce = f.num ∧ t.sht.strip = none ∧ t.out.take 2 = [.msix m.fn (if m.secondary then 1 else 0), .mbx m 0xC601 0 0 [w32 f.num]])) ∧
  (∀ (m : Mbx) (inp : List Word) (s : State),
    s.takes m ⟨0xC700, true, false, false, false⟩ = true →
    m.len = 12 →
    64 ≤ (wordAt inp 2).toNat →
    (wordAt inp 2).toNat ≤ 262112 →
    Gives (.logSnapshot m inp) s (fun t => ∃ out, t = s.answered m 0xC700 (.ok out) ∨ t = s.freed.answered m 0xC700 (.ok out))) ∧
  (∀ (m : Mbx) (inp : List Word) (s : State),
    s.takes m ⟨0xC701, false, true, false, false⟩ = true →
    m.len = 0 →
    s.unlocked (requesterOf (s.linkOf m.fn).1 (s.linkOf m.fn).2) = true →
    Gives (.logClear m inp) s (fun t => t.unlocked (requesterOf (s.linkOf m.fn).1 (s.linkOf m.fn).2) = false ∧ t.log.fixState = 1 ∧ t.log.fixErase = List.range fixSectors ∧ t.out = .msix m.fn (if m.secondary then 1 else 0) :: .mbx m 0xC701 0 0 [] :: s.out)) ∧
  (∀ (m : Mbx) (inp : List Word) (s : State),
    s.takes m ⟨0xC702, false, false, false, false⟩ = true →
    m.len = 0 →
    s.log.staged = [] →
    Gives (.logFlush m inp) s (fun t => t = s.answered m 0xC702 (.ok (lohi s.log.flashed)))) ∧
  (∀ (m : Mbx) (inp : List Word) (s : State),
    s.takes m ⟨0xC702, false, false, false, false⟩ = true →
    m.len = 0 →
    s.log.staged ≠ [] →
    Gives (.logFlush m inp) s (fun t => t = { s.openJob m ⟨0xC702, false, false, false, false⟩ false with log := { s.log.startFlush with waiters := s.log.waiters ++ [(s.tagNow, s.log.head)] } })) ∧
  (∀ (m : Mbx) (inp : List Word) (a : Nat) (s : State),
    s.takes m ⟨0xC921, false, true, false, false⟩ = true →
    m.len = 0 →
    s.mode.mode = .hold →
    s.mode.holdPurpose = 2 →
    s.unlocked (requesterOf (s.linkOf m.fn).1 (s.linkOf m.fn).2) = true →
    s.cmd.active = some a →
    s.slotIsEmpty (1 - a) = true →
    Gives (.fwSvnAdvance m inp) s (fun t => t.cmd.fusedSvn = max s.cmd.fusedSvn (min 64 (s.slotField a 8 2)) ∧ t.unlocked (requesterOf (s.linkOf m.fn).1 (s.linkOf m.fn).2) = false ∧ t.out = .msix m.fn (if m.secondary then 1 else 0) :: .mbx m 0xC921 0 0 [w32 (max s.cmd.fusedSvn (min 64 (s.slotField a 8 2)))] :: s.out))

/-- MODE_REQUEST, with no transition in progress, for HOLD from SERVE with a PURPOSE that is not 0b11 enters HOLD with that PURPOSE; for STANDBY it enters
PRESERVE as an off request; from HOLD it leaves HOLD; each with MODE_RESULT 1 and Success. A request R22 gives no transition for ends with MODE_RESULT
2 and the MODE cause, and with a transition in progress with MODE_RESULT 3. PAIR_FORM on a paired controller in SOLO with the identity the input names
and the twin link up enters HOLD with PURPOSE 0b11 in the background, sends IDENTITY, and the pair is forming. Rests on R22, R26, R123, R124. -/
def Obligations.ModeRequestAndPairForm : Prop :=
  (∀ (m : Mbx) (inp : List Word) (s : State),
    s.takes m ⟨0xC801, false, true, false, true⟩ = true →
    m.len = 4 →
    s.mode.transit = false →
    (wordAt inp 0).field 2 0 = 5 →
    s.mode.mode = .serve →
    (wordAt inp 0).field 5 4 ≠ 3 →
    Gives (.modeRequest m inp) s (fun t => t.mode.mode = .hold ∧ t.mode.holdPurpose = (wordAt inp 0).field 5 4 ∧ t.mode.reason = 0x0B ∧ t.mode.reqResult = 1 ∧ t.out = .msix m.fn (if m.secondary then 1 else 0) :: .mbx m 0xC801 0 0 [] :: s.out)) ∧
  (∀ (m : Mbx) (inp : List Word) (s : State),
    s.takes m ⟨0xC801, false, true, false, true⟩ = true →
    m.len = 4 →
    s.mode.transit = false →
    (wordAt inp 0).field 2 0 = 0 →
    (s.mode.mode = .serve ∨ s.mode.mode = .solo ∨ s.mode.mode = .hold) →
    Gives (.modeRequest m inp) s (fun t => t.mode.mode = .preserve ∧ t.mode.reason = 0x08 ∧ t.mode.reqResult = 1 ∧ t.out.take 2 = [.msix m.fn (if m.secondary then 1 else 0), .mbx m 0xC801 0 0 []])) ∧
  (∀ (m : Mbx) (inp : List Word) (s : State),
    s.takes m ⟨0xC801, false, true, false, true⟩ = true →
    m.len = 4 →
    s.mode.transit = false →
    ((wordAt inp 0).field 2 0 = 3 ∨ (wordAt inp 0).field 2 0 = 4) →
    s.mode.mode = .hold →
    Gives (.modeRequest m inp) s (fun t => t.mode.reason = 0x0B ∧ t.mode.reqResult = 1 ∧ t.mode.mode = s.holdTarget)) ∧
  (∀ (m : Mbx) (inp : List Word) (s : State),
    s.takes m ⟨0xC801, false, true, false, true⟩ = true →
    m.len = 4 →
    s.mode.transit = true →
    Gives (.modeRequest m inp) s (fun t => t.mode = { s.mode with reqResult := 3 } ∧ t.out = .msix m.fn (if m.secondary then 1 else 0) :: .mbx m 0xC801 2 7 [] :: s.out)) ∧
  (∀ (m : Mbx) (inp : List Word) (s : State),
    s.takes m ⟨0xC101, false, true, false, false⟩ = true →
    m.len = 32 →
    s.inBackground m = false →
    s.paired = true →
    s.mode.mode = .solo →
    (wordAt inp 1).toNat = s.pairId →
    (wordAt inp 0).field 31 2 = 0 →
    (wordAt inp 2).field 31 14 = 0 →
    wordAt inp 3 = 0 →
    (wordAt inp 2).field 13 0 / 2 = s.ctrlId / 2 →
    (wordAt inp 2).field 13 0 % 2 ≠ s.ctrlId % 2 →
    ((wordAt inp 0).field 0 0 = 1 ∨ s.addr.regions.size = 0 ∨ (wordAt inp 0).field 1 1 = 1) →
    s.linkUp = true →
    s.pair.twinIdent = none →
    Gives (.pairForm m inp) s (fun t => t.mode.mode = .hold ∧ t.mode.holdPurpose = 3 ∧ t.mode.reason = 0x0B ∧ (t.pair.forming.map (fun f => (f.twinId, f.tag, f.at_))) = some ((wordAt inp 2).field 13 0, s.tagNow, 2) ∧ t.cmd.jobs = s.cmd.jobs ++ [⟨m, 0xC101, s.tagNow, true, true, false, false, none⟩]))

/-- In a controller without a twin: REGION_CREATE of a descriptor that is well formed, in range, apart from every region and with its key slot filled
makes the region under the lowest free local index and answers its descriptor; REGION_SET_ATTR in the background gives the region the attributes the
mask names; REGION_ZERO and REGION_DELETE in the background raise the fence of the region, which stands until REGION_FENCE_END; REGION_FENCE_END, with
nothing left in the way, clears the valid bits of the leaves of the region and frees their entries in the leaf map, removes the region and its shares
where the fence is a deletion, and marks the fence done here, from which what waited goes on. SHARE_CREATE of a part of a shareable region makes the
share under the lowest free ID and answers the ID; SHARE_DELETE removes it. Rests on R35, R42, R43, R44, R45, R48, R361, R428, R429, R430. -/
def Obligations.RegionCommands : Prop :=
  (∀ (m : Mbx) (inp : List Word) (r : Region) (idx : Nat) (s : State),
    s.takes m ⟨0xC001, false, true, true, false⟩ = true →
    s.solitary = true →
    m.len = 32 →
    Region.parse inp = some r →
    s.addr.regions.freeKey? 65536 = some idx →
    r.base + r.len ≤ s.addr.served.len →
    (s.addr.regions.values.any (fun q => decide (q.base < r.base + r.len) && decide (r.base < q.base + q.len)) = false) →
    s.regionById r.id = none →
    s.cmd.keys.has r.keySlot = true →
    (r.noLd = true ∨ s.windowFits r.ownerLd r.dpaBase r.len = true) →
    s.pinsFit (s.addr.regions.values ++ [r]) = true →
    Gives (.regionCreate m inp) s (fun t => t.addr.regions = s.addr.regions.insert idx r ∧ t.cmd.jobs = s.cmd.jobs ∧ t.out.take 2 = [.msix m.fn (if m.secondary then 1 else 0), .mbx m 0xC001 0 0 (r.words idx r.dpaBase)])) ∧
  (∀ (m : Mbx) (inp : List Word) (r q : Region) (idx : Nat) (s : State),
    s.takes m ⟨0xC003, false, true, true, false⟩ = true →
    s.solitary = true →
    m.len = 16 →
    s.inBackground m = false →
    s.regionById ((wordAt inp 0).field 23 0) = some (idx, r) →
    r.withAttr inp = some q →
    s.pinsFit ((s.addr.regions.insert idx q).values) = true →
    Gives (.regionSetAttr m inp) s (fun t => t.addr.regions = s.addr.regions.insert idx q ∧ .mbx m 0xC003 1 0 [] ∈ t.out)) ∧
  (∀ (m : Mbx) (inp : List Word) (r : Region) (idx : Nat) (s : State),
    s.takes m ⟨0xC004, true, true, true, false⟩ = true →
    s.solitary = true →
    m.len = 8 →
    s.inBackground m = false →
    s.regionById ((wordAt inp 0).field 23 0) = some (idx, r) →
    (wordAt inp 0).field 31 24 = 0 →
    wordAt inp 1 = 0 →
    (s.addr.fences.any (fun f => f.region == idx) = false) →
    (s.limitedTo m = none ∨ (r.noLd = false ∧ s.limitedTo m = some r.ownerLd ∧ r.ldWrite = true)) →
    Gives (.regionZero m inp) s (fun t => t.addr.fences = s.addr.fences ++ [⟨idx, false, s.tagNow, s.trk.nextArr, false⟩] ∧ t.addr.regions = s.addr.regions ∧ t.mem = s.mem ∧ t.cmd.jobs.any (fun j => j.tag == s.tagNow && j.opcode == 0xC004 && j.done.isNone) = true ∧ t.out = .mbx m 0xC004 1 0 [] :: s.out)) ∧
  (∀ (m : Mbx) (inp : List Word) (r : Region) (idx : Nat) (s : State),
    s.takes m ⟨0xC002, false, true, true, false⟩ = true →
    s.solitary = true →
    m.len = 8 →
    s.inBackground m = false →
    s.regionById ((wordAt inp 0).field 23 0) = some (idx, r) →
    (wordAt inp 0).field 30 24 = 0 →
    wordAt inp 1 = 0 →
    (s.addr.fences.any (fun f => f.region == idx) = false) →
    ((wordAt inp 0).field 31 31 = 1 ∨ s.addr.shares.values.any (fun h => h.region == idx) = false) →
    Gives (.regionDelete m inp) s (fun t => t.addr.fences = s.addr.fences ++ [⟨idx, true, s.tagNow, s.trk.nextArr, false⟩] ∧ t.addr.regions = s.addr.regions ∧ t.mem = s.mem ∧ t.cmd.jobs.any (fun j => j.tag == s.tagNow && j.opcode == 0xC002 && j.done.isNone) = true ∧ t.out = .mbx m 0xC002 1 0 [] :: s.out)) ∧
  (∀ (region : Nat) (f : Fence) (r : Region) (s : State),
    (s.addr.fences.find? (fun f => f.region == region && !f.localDone) = some f) →
    s.addr.regions.find? region = some r →
    s.fenceClear f = true →
    Gives (.regionFenceEnd region) s (fun t => ∃ u, t = (State.replTry u f.tag).netRun ∧ u.addr.valid = s.addr.valid.filter (fun k _ => !(decide (r.base * extentLeaves ≤ k) && decide (k < (r.base + r.len) * extentLeaves))) ∧ u.vlt.map = s.vlt.map.filter (fun k _ => !(decide (r.base * extentLeaves ≤ k) && decide (k < (r.base + r.len) * extentLeaves))) ∧ u.addr.fences = s.addr.fences.map (fun (g : Fence) => if g.tag = f.tag then { g with localDone := true } else g) ∧ (if f.delete then u.addr.regions = s.addr.regions.erase region ∧ u.addr.shares = s.addr.shares.filter (fun _ h => h.region != region) else u.addr.regions = s.addr.regions ∧ u.addr.shares = s.addr.shares) ∧ u.mem = s.mem ∧ u.trk = s.trk ∧ u.out = s.out)) ∧
  (∀ (m : Mbx) (inp : List Word) (r : Region) (idx id : Nat) (s : State),
    s.takes m ⟨0xC010, false, true, true, false⟩ = true →
    s.solitary = true →
    m.len = 24 →
    s.regionById ((wordAt inp 0).field 23 0) = some (idx, r) →
    s.addr.shares.freeKey? 4096 = some id →
    (wordAt inp 0).field 31 24 = 0 →
    (wordAt inp 1).field 31 23 = 0 →
    (wordAt inp 2).field 31 23 = 0 →
    (wordAt inp 3).field 31 5 = 0 →
    (wordAt inp 4).field 31 23 = 0 →
    wordAt inp 5 = 0 →
    r.shareable = true →
    wordAt inp 2 ≠ 0 →
    (wordAt inp 1).toNat + (wordAt inp 2).toNat ≤ r.len →
    (r.noLd = true ∨ (wordAt inp 3).toNat ≠ r.ownerLd) →
    ((s.addr.shares.values.filter (fun h => h.region == idx)).length < 31) →
    s.windowFits (wordAt inp 3).toNat (wordAt inp 4).toNat (wordAt inp 2).toNat = true →
    Gives (.shareCreate m inp) s (fun t => t = State.answered { s with addr := { s.addr with shares := s.addr.shares.insert id ⟨idx, (wordAt inp 1).toNat, (wordAt inp 2).toNat, (wordAt inp 3).toNat, (wordAt inp 4).toNat⟩ } } m 0xC010 (.ok [w32 id]))) ∧
  (∀ (m : Mbx) (inp : List Word) (s : State),
    s.takes m ⟨0xC011, false, true, true, false⟩ = true →
    s.solitary = true →
    m.len = 4 →
    s.addr.shares.has (wordAt inp 0).toNat = true →
    Gives (.shareDelete m inp) s (fun t => t = State.answered { s with addr := { s.addr with shares := s.addr.shares.erase (wordAt inp 0).toNat } } m 0xC011 (.ok [])))

/-- In a controller without a twin: KEY_REGISTER of a range in one region makes the key VALID under the index asked for, or the lowest free one, with a
GEN one more than that index last had, and answers index and GEN; KEY_REVOKE with the GEN it has makes the key REVOKING and the command waits for its
revocation. DOMAIN_SET of a domain that holds no grants makes it ACTIVE with the grants given, each in one region; DOMAIN_REVOKE of an ACTIVE domain
makes it REVOKING and waits. The TABLE record of the keys and domains is written with the change. Rests on R344, R345, R357, R358. -/
def Obligations.KeysAndDomains : Prop :=
  (∀ (m : Mbx) (inp : List Word) (x : Nat) (k : KeyEnt) (s : State),
    s.takes m ⟨0xC410, true, true, true, false⟩ = true →
    s.solitary = true →
    m.len = 32 →
    s.keyTarget (s.limitedTo m) none inp = some (x, k) →
    Gives (.keyRegister m inp) s (fun t => ∃ gen, t.net.keys.find? x = some { k with gen := gen } ∧ gen < 256 ∧ (∀ o, s.net.keys.find? x = some o → gen = (o.gen + 1) % 256) ∧ t.vlt.nand.tables.memKeys = t.net.keys ∧ t.out.take 2 = [.msix m.fn (if m.secondary then 1 else 0), .mbx m 0xC410 0 0 [w32 (256 * x + gen)]])) ∧
  (∀ (m : Mbx) (inp : List Word) (k : KeyEnt) (s : State),
    s.takes m ⟨0xC411, true, true, true, false⟩ = true →
    s.solitary = true →
    m.len = 4 →
    s.net.keys.find? ((wordAt inp 0).field 25 8) = some k →
    (wordAt inp 0).field 31 26 = 0 →
    k.state = 1 →
    k.gen = (wordAt inp 0).field 7 0 →
    (s.limitedTo m = none ∨ (s.limitedTo m).map (· + 1) = some k.owner) →
    Gives (.keyRevoke m inp) s (fun t => t.net.keys.find? ((wordAt inp 0).field 25 8) = some { k with state := 2 } ∧ t.net.revs.any (fun r => r.tag == s.tagNow && r.what == .key ((wordAt inp 0).field 25 8)) = true ∧ t.vlt.nand.tables.memKeys = t.net.keys ∧ t.cmd.jobs.any (fun j => j.tag == s.tagNow && j.opcode == 0xC411 && j.done.isNone) = true ∧ t.out = s.out)) ∧
  (∀ (m : Mbx) (inp : List Word) (s : State),
    s.takes m ⟨0xC420, false, true, true, false⟩ = true →
    s.solitary = true →
    m.len = 16 + 24 * (wordAt inp 1).field 6 0 →
    s.net.domains.find? ((wordAt inp 0).field 15 0) = none →
    (wordAt inp 1).field 6 0 ≤ 64 →
    (wordAt inp 0).field 31 16 = 0 →
    (wordAt inp 1).field 31 7 = 0 →
    (((List.range ((wordAt inp 1).field 6 0)).all (fun i => (s.grantAt inp i).isSome)) = true) →
    (sumL ((s.net.domains.cells.filter (fun c => c.1 != (wordAt inp 0).field 15 0)).map (fun c => c.2.grants.length)) + (wordAt inp 1).field 6 0 ≤ 262144) →
    Gives (.domainSet m inp) s (fun t => t.net.domains.find? ((wordAt inp 0).field 15 0) = some ⟨1, Config.domainGen ((wordAt inp 0).field 15 0) % 256, (List.range ((wordAt inp 1).field 6 0)).filterMap (s.grantAt inp)⟩ ∧ t.net.keys = s.net.keys ∧ t.vlt.nand.tables.domains = t.net.domains ∧ t.out.take 2 = [.msix m.fn (if m.secondary then 1 else 0), .mbx m 0xC420 0 0 []])) ∧
  (∀ (m : Mbx) (inp : List Word) (d : Domain) (s : State),
    s.takes m ⟨0xC421, false, true, true, false⟩ = true →
    s.solitary = true →
    m.len = 4 →
    s.net.domains.find? ((wordAt inp 0).field 15 0) = some d →
    d.state = 1 →
    (wordAt inp 0).field 31 16 = 0 →
    Gives (.domainRevoke m inp) s (fun t => t.net.domains.find? ((wordAt inp 0).field 15 0) = some { d with state := 2 } ∧ t.net.revs.any (fun r => r.tag == s.tagNow && r.what == .domain ((wordAt inp 0).field 15 0)) = true ∧ t.vlt.nand.tables.domains = t.net.domains ∧ t.cmd.jobs.any (fun j => j.tag == s.tagNow && j.opcode == 0xC421 && j.done.isNone) = true ∧ t.out = s.out))

/-- In a controller without a twin: ADDR_SET of at most 8 IPv4 and 8 IPv6 addresses gives the port exactly those; LISTEN_SET lists a service or takes it
from the list; CONN_CLOSE of a connection that carries data, with no operation in progress, frees its slot. Each completes at once with Success. Rests
on R331, R335, R350. -/
def Obligations.AddressesAndConnections : Prop :=
  (∀ (m : Mbx) (inp : List Word) (ents : List PortAddr) (s : State),
    s.takes m ⟨0xC401, false, true, true, false⟩ = true →
    s.solitary = true →
    m.len = 8 + 20 * (wordAt inp 1).field 4 0 →
    (wordAt inp 1).field 31 5 = 0 →
    (wordAt inp 0).field 31 5 = 0 →
    (wordAt inp 1).field 4 0 ≤ 16 →
    (ents = (List.range ((wordAt inp 1).field 4 0)).map (fun i => PortAddr.mk (BitVec.ofNat 128 (wide inp (2 + 5 * i) + wide inp (2 + 5 * i + 2) * 2 ^ 64)) ((wordAt inp (2 + 5 * i + 4)).field 7 0) ((wordAt inp (2 + 5 * i + 4)).field 8 8 == 1))) →
    ((ents.filter (fun a => isV4 a.ip)).length ≤ 8) →
    (ents.length - (ents.filter (fun a => isV4 a.ip)).length ≤ 8) →
    Gives (.addrSet m inp) s (fun t => (t.ethPort ((wordAt inp 0).field 4 0 / 4) ((wordAt inp 0).field 4 0 % 4)).addrs = ents ∧ t.out.take 2 = [.msix m.fn (if m.secondary then 1 else 0), .mbx m 0xC401 0 0 []])) ∧
  (∀ (m : Mbx) (inp : List Word) (s : State),
    s.takes m ⟨0xC402, false, true, true, false⟩ = true →
    s.solitary = true →
    m.len = 16 →
    (wordAt inp 2).field 31 17 = 0 →
    (wordAt inp 2).field 16 16 = 1 →
    Gives (.listenSet m inp) s (fun t => t = State.answered (State.saveNet { s with net := { s.net with listen := s.net.listen.filter (fun l => l.1 != wide inp 0) ++ [(wide inp 0, (wordAt inp 2).field 15 0)] } }) m 0xC402 (.ok []))) ∧
  (∀ (m : Mbx) (inp : List Word) (s : State),
    s.takes m ⟨0xC402, false, true, true, false⟩ = true →
    s.solitary = true →
    m.len = 16 →
    (wordAt inp 2).field 31 17 = 0 →
    (wordAt inp 2).field 16 16 ≠ 1 →
    Gives (.listenSet m inp) s (fun t => t = State.answered (State.saveNet { s with net := { s.net with listen := s.net.listen.filter (fun l => l.1 != wide inp 0) } }) m 0xC402 (.ok []))) ∧
  (∀ (m : Mbx) (inp : List Word) (c : Conn) (s : State),
    s.takes m ⟨0xC404, false, true, true, false⟩ = true →
    s.solitary = true →
    m.len = 4 →
    s.connOfQpn ((wordAt inp 0).field 23 0) = some c →
    c.closing = false →
    c.rts = true →
    (wordAt inp 0).field 31 24 = 0 →
    c.ops = [] →
    Gives (.connClose m inp) s (fun t => t.conn ((wordAt inp 0).field 23 0 % 1048576) = none ∧ t.mode = s.mode ∧ t.mem = s.mem ∧ t.out.take 2 = [.msix m.fn (if m.secondary then 1 else 0), .mbx m 0xC404 0 0 []]))

/-- In a controller without a twin: KEYSLOT_GENERATE of an empty slot puts a random key pair, a free value, in it and answers its key tag; KEYSLOT_LOAD of
an empty slot with a point on the curve puts in the key pair the envelope holds, and where it does not unwrap, the slot stays empty,
CRY_CNT_UNWRAP_FAIL advances and the answer is Invalid Input with cause 4; KEYSLOT_CLEAR of a slot that is not 0 and no region names empties it. The
TABLE record of the slots follows. Rests on R439, R440, R441. -/
def Obligations.KeySlots : Prop :=
  (∀ (m : Mbx) (inp : List Word) (s : State),
    s.takes m ⟨0xC911, false, true, true, false⟩ = true →
    s.solitary = true →
    m.len = 4 →
    s.slotEmpty (wordAt inp 0) = true →
    Gives (.keyslotGenerate m inp) s (fun t => t = State.answered { s.freed with cmd := { s.cmd with keys := s.cmd.keys.insert ((wordAt inp 0).field 11 0) ⟨Config.randomKey s.fresh, Config.keyTag (Config.randomKey s.fresh)⟩ }, vlt := { s.vlt with nand := { s.vlt.nand with tables := { s.vlt.nand.tables with keys := s.cmd.keys.insert ((wordAt inp 0).field 11 0) ⟨Config.randomKey s.fresh, Config.keyTag (Config.randomKey s.fresh)⟩ } } } } m 0xC911 (.ok [Config.keyTag (Config.randomKey s.fresh)]))) ∧
  (∀ (m : Mbx) (inp : List Word) (s : State),
    s.takes m ⟨0xC910, false, true, true, false⟩ = true →
    s.solitary = true →
    m.len = 184 →
    s.slotEmpty (wordAt inp 0) = true →
    wordAt inp 1 = 0 →
    Gives (.keyslotLoad m inp) s (fun t => (if Config.pointOnCurve inp then (match Config.unwrapKey s.ctrlId ((wordAt inp 0).field 11 0) inp with | some k => t.cmd.keys.find? ((wordAt inp 0).field 11 0) = some ⟨k, Config.keyTag k⟩ ∧ t.vlt.nand.tables.keys = t.cmd.keys ∧ t.out.take 2 = [.msix m.fn (if m.secondary then 1 else 0), .mbx m 0xC910 0 0 [Config.keyTag k]] | none => t.cmd.keys = s.cmd.keys ∧ t.ctr Ctr.CRY_CNT_UNWRAP_FAIL = s.ctr Ctr.CRY_CNT_UNWRAP_FAIL + 1 ∧ t.out.take 2 = [.msix m.fn (if m.secondary then 1 else 0), .mbx m 0xC910 2 4 []]) else t.cmd.keys = s.cmd.keys ∧ t.out.take 2 = [.msix m.fn (if m.secondary then 1 else 0), .mbx m 0xC910 2 0 []]))) ∧
  (∀ (m : Mbx) (inp : List Word) (s : State),
    s.takes m ⟨0xC912, false, true, true, false⟩ = true →
    s.solitary = true →
    m.len = 4 →
    (wordAt inp 0).field 31 12 = 0 →
    (wordAt inp 0).field 11 0 ≠ 0 →
    (s.addr.regions.values.any (fun r => r.keySlot == (wordAt inp 0).field 11 0) = false) →
    Gives (.keyslotClear m inp) s (fun t => t = State.answered { s with cmd := { s.cmd with keys := s.cmd.keys.erase ((wordAt inp 0).field 11 0) }, vlt := { s.vlt with nand := { s.vlt.nand with tables := { s.vlt.nand.tables with keys := s.cmd.keys.erase ((wordAt inp 0).field 11 0) } } } } m 0xC912 (.ok [])))

/-- CLEAN, INVALIDATE, CLEAN_INVALIDATE and ZERO of a range begin the range operation of LC_OP_FIRST and LC_OP_LAST where none runs; while one runs, or a
fence discards, a write of LC_OP_CMD changes RESULT alone, to 2. DISCARD with the unlock open, in HOLD with PURPOSE 0b10 outside a pair, closes the
unlock and begins its operation; with the unlock closed RESULT is 3. RANGE_WALK_SET moves the walk on by one set. RANGE_OP_DONE ends the operation,
with RESULT 1 and the lines it acted on added to LC_CNT_OP_LINES. CACHE_SWEEP_DONE with no line left in the cache ends the sweep. Rests on R209, R211,
R212, R213, R214, R215, R216, R217, R219. -/
def Obligations.RangeOperations : Prop :=
  (∀ (first last : Nat) (s : State),
    s.pwr.core = true →
    s.opBusy = false →
    (s.reg Reg.LC_OP_FIRST_LO).toNat + s.fld Reg.LC_OP_FIRST_HI Fld.LC_OP_FIRST_HI_ADDR_HI * 2 ^ 32 = first →
    (s.reg Reg.LC_OP_LAST_LO).toNat + s.fld Reg.LC_OP_LAST_HI Fld.LC_OP_LAST_HI_ADDR_HI * 2 ^ 32 = last →
    first / 64 ≤ last / 64 →
    Gives .clean s (fun t => t = s.opBegin ⟨1, [(first / 64, last / 64)], 0, none, 0, [], false, 0⟩)) ∧
  (∀ (first last : Nat) (s : State),
    s.pwr.core = true →
    s.opBusy = false →
    (s.reg Reg.LC_OP_FIRST_LO).toNat + s.fld Reg.LC_OP_FIRST_HI Fld.LC_OP_FIRST_HI_ADDR_HI * 2 ^ 32 = first →
    (s.reg Reg.LC_OP_LAST_LO).toNat + s.fld Reg.LC_OP_LAST_HI Fld.LC_OP_LAST_HI_ADDR_HI * 2 ^ 32 = last →
    first / 64 ≤ last / 64 →
    Gives .invalidate s (fun t => t = s.opBegin ⟨2, [(first / 64, last / 64)], 0, none, 0, [], false, 0⟩)) ∧
  (∀ (first last : Nat) (s : State),
    s.pwr.core = true →
    s.opBusy = false →
    (s.reg Reg.LC_OP_FIRST_LO).toNat + s.fld Reg.LC_OP_FIRST_HI Fld.LC_OP_FIRST_HI_ADDR_HI * 2 ^ 32 = first →
    (s.reg Reg.LC_OP_LAST_LO).toNat + s.fld Reg.LC_OP_LAST_HI Fld.LC_OP_LAST_HI_ADDR_HI * 2 ^ 32 = last →
    first / 64 ≤ last / 64 →
    Gives .cleanInvalidate s (fun t => t = s.opBegin ⟨3, [(first / 64, last / 64)], 0, none, 0, [], false, 0⟩)) ∧
  (∀ (cls : Nat) (first last : Nat) (s : State),
    s.pwr.core = true →
    s.opBusy = false →
    (s.reg Reg.LC_OP_FIRST_LO).toNat + s.fld Reg.LC_OP_FIRST_HI Fld.LC_OP_FIRST_HI_ADDR_HI * 2 ^ 32 = first →
    (s.reg Reg.LC_OP_LAST_LO).toNat + s.fld Reg.LC_OP_LAST_HI Fld.LC_OP_LAST_HI_ADDR_HI * 2 ^ 32 = last →
    first / 64 ≤ last / 64 →
    Gives (.zero cls) s (fun t => t = s.opBegin ⟨4, [(first / 64, last / 64)], (cls % 16), none, 0, [], false, 0⟩)) ∧
  (∀ (s : State),
    s.pwr.core = true →
    s.opBusy = true →
    Gives .clean s (fun t => t = { s with lc := { s.lc with opResult := 2 } })) ∧
  (∀ (who : Nat) (first last : Nat) (s : State),
    s.pwr.core = true →
    s.opBusy = false →
    (s.reg Reg.LC_OP_FIRST_LO).toNat + s.fld Reg.LC_OP_FIRST_HI Fld.LC_OP_FIRST_HI_ADDR_HI * 2 ^ 32 = first →
    (s.reg Reg.LC_OP_LAST_LO).toNat + s.fld Reg.LC_OP_LAST_HI Fld.LC_OP_LAST_HI_ADDR_HI * 2 ^ 32 = last →
    first / 64 ≤ last / 64 →
    s.unlocked who = true →
    s.discardAllowed = true →
    Gives (.discard who) s (fun t => t = State.opBegin (s.relock who) ⟨5, [(first / 64, last / 64)], 0, none, 0, [], false, 0⟩)) ∧
  (∀ (who : Nat) (s : State),
    s.pwr.core = true →
    s.opBusy = false →
    s.unlocked who = false →
    Gives (.discard who) s (fun t => t = { s.bump Ctr.SYS_CNT_GUARD_REFUSED with lc := { s.lc with opResult := 3 } })) ∧
  (∀ (o : RangeOp) (s : State),
    s.lc.op = some o →
    o.walked = false →
    Gives .rangeWalkSet s (fun t => ∃ n p, t.lc.op = some { o with acted := n, pending := p, set := o.set + 1, walked := decide (2048 ≤ o.set + 1) })) ∧
  (∀ (o : RangeOp) (s : State),
    s.lc.op = some o →
    s.opOver o = true →
    o.reply = none →
    s.lc.opq = [] →
    Gives .rangeOpDone s (fun t => t.lc = { s.lc with op := none, opResult := 1 } ∧ t.ctr Ctr.LC_CNT_OP_LINES = s.ctr Ctr.LC_CNT_OP_LINES + BitVec.ofNat 64 o.acted ∧ t.out = s.out)) ∧
  (∀ (s : State),
    s.lc.state = .sweeping →
    s.heldLines = [] →
    Gives .cacheSweepDone s (fun t => t = State.pump { s with lc := { s.lc with state := if s.lc.reenable then .enabled else .disabled, slice := 0, reenable := false } }))

/-- DRAM_COMMAND_ISSUE: an ACTIVE channel that owes a rank four refreshes issues one; else the request chosen issues its next command: activate where its
bank is closed, precharge where another row is open, and its read or write, once, where its row is open. A FROZEN channel issues only refresh.
REFRESH_DUE adds to what a rank owes. URGENCY_LEVEL_UP raises a request to the level of its age. ZQ and DQS calibrations go out and are counted, the
latter only while the channel is ACTIVE. Rests on R227, R230, R231, R232, R239, R241. -/
def Obligations.ChannelCommands : Prop :=
  (∀ (inst sc : Nat) (ready : List Nat) (rank : Nat) (s : State),
    (s.chan inst).state = .active →
    (s.chan inst).owing sc 4 = some rank →
    Gives (.dramCommandIssue inst sc ready) s (fun t => t.out = .dram inst 4 sc rank 0 0 0 0 :: s.out ∧ (t.chan inst).owed = (s.chan inst).owed.put 0 (rankKey sc rank) ((s.chan inst).owed.getD (rankKey sc rank) 0 - 1) ∧ (t.chan inst).rq = (s.chan inst).rq ∧ (t.chan inst).wq = (s.chan inst).wq)) ∧
  (∀ (inst sc : Nat) (ready : List Nat) (r : ChReq) (s : State),
    (s.chan inst).state = .active →
    (s.chan inst).owing sc 4 = none →
    s.nextReq inst sc ready = some r →
    (s.chan inst).rows.find? (s.dramOf r.home).bank = none →
    Gives (.dramCommandIssue inst sc ready) s (fun t => t.out = .dram inst 3 (s.dramOf r.home).sc (s.dramOf r.home).rank (s.dramOf r.home).bg (s.dramOf r.home).ba (s.dramOf r.home).row 0 :: s.out ∧ (t.chan inst).rows = (s.chan inst).rows.insert (s.dramOf r.home).bank ((s.dramOf r.home).row, 0) ∧ (t.chan inst).rq = (s.chan inst).rq ∧ t.mem = s.mem)) ∧
  (∀ (inst sc : Nat) (ready : List Nat) (r : ChReq) (row n : Nat) (s : State),
    (s.chan inst).state = .active →
    (s.chan inst).owing sc 4 = none →
    s.nextReq inst sc ready = some r →
    (s.chan inst).rows.find? (s.dramOf r.home).bank = some (row, n) →
    row ≠ (s.dramOf r.home).row →
    Gives (.dramCommandIssue inst sc ready) s (fun t => t.out = .dram inst 2 (s.dramOf r.home).sc (s.dramOf r.home).rank (s.dramOf r.home).bg (s.dramOf r.home).ba row 0 :: s.out ∧ (t.chan inst).rows = (s.chan inst).rows.erase (s.dramOf r.home).bank ∧ (t.chan inst).rq = (s.chan inst).rq ∧ t.mem = s.mem)) ∧
  (∀ (inst sc : Nat) (ready : List Nat) (r : ChReq) (n : Nat) (s : State),
    (s.chan inst).state = .active →
    (s.chan inst).owing sc 4 = none →
    s.nextReq inst sc ready = some r →
    (s.chan inst).rows.find? (s.dramOf r.home).bank = some ((s.dramOf r.home).row, n) →
    n < 32 →
    Gives (.dramCommandIssue inst sc ready) s (fun t => t.out = .dram inst (if r.wr.isSome then 1 else 0) (s.dramOf r.home).sc (s.dramOf r.home).rank (s.dramOf r.home).bg (s.dramOf r.home).ba (s.dramOf r.home).row (s.dramOf r.home).col :: s.out ∧ (t.chan inst).rq = (s.chan inst).rq.map (fun q => if q.id = r.id then { q with issued := true } else q) ∧ (t.chan inst).wq = (s.chan inst).wq.map (fun q => if q.id = r.id then { q with issued := true } else q) ∧ t.mem = s.mem)) ∧
  (∀ (inst sc : Nat) (ready : List Nat) (rank : Nat) (s : State),
    (s.chan inst).state = .frozen →
    (s.chan inst).owing sc 1 = some rank →
    Gives (.dramCommandIssue inst sc ready) s (fun t => t.out = .dram inst 4 sc rank 0 0 0 0 :: s.out ∧ (t.chan inst).state = .frozen ∧ (t.chan inst).rq = (s.chan inst).rq ∧ (t.chan inst).wq = (s.chan inst).wq)) ∧
  (∀ (inst req : Nat) (r : ChReq) (s : State),
    (((s.chan inst).rq ++ (s.chan inst).wq).find? (fun r => r.id == req && !r.issued) = some r) →
    r.level < levelAt (s.target inst r.port) (s.now - r.since) →
    Gives (.urgencyLevelUp inst req) s (fun t => (t.chan inst).rq = (s.chan inst).rq.map (fun q => if q.id = req then { q with level := levelAt (s.target inst r.port) (s.now - r.since) } else q) ∧ (t.chan inst).wq = (s.chan inst).wq.map (fun q => if q.id = req then { q with level := levelAt (s.target inst r.port) (s.now - r.since) } else q) ∧ t.mem = s.mem ∧ t.out = s.out)) ∧
  (∀ (inst sc rank : Nat) (s : State),
    (s.chan inst).state ≠ .off →
    (s.chan inst).state ≠ .retired →
    Gives (.refreshDue inst sc rank) s (fun t => (t.chan inst).owed.getD (rankKey sc rank) 0 = (s.chan inst).owed.getD (rankKey sc rank) 0 + 1 ∧ t.mem = s.mem ∧ t.out = s.out)) ∧
  (∀ (inst sc rank : Nat) (s : State),
    ((s.chan inst).state = .active ∨ (s.chan inst).state = .frozen) →
    Gives (.zqCalibrationDue inst sc rank) s (fun t => t.out = .dram inst 5 sc rank 0 0 0 0 :: s.out ∧ t.ch = s.ch ∧ t.ctr (Ctr.DC_CNT_CAL (chPage inst)) = s.ctr (Ctr.DC_CNT_CAL (chPage inst)) + 1)) ∧
  (∀ (inst sc rank : Nat) (s : State),
    (s.chan inst).state = .active →
    Gives (.dqsCalibrationDue inst sc rank) s (fun t => t.out = .dram inst 5 sc rank 0 0 0 0 :: s.out ∧ (t.chan inst).calTemp = (s.chan inst).temp ∧ t.ctr (Ctr.DC_CNT_CAL (chPage inst)) = s.ctr (Ctr.DC_CNT_CAL (chPage inst)) + 1))

/-- A CA parity error (cause 2), a write CRC error of an issued write (3) or ALERT_N (4) on a DDR5 channel, and a data parity error (5) on an HBM channel,
freeze an ACTIVE channel: it is FROZEN with the cause and where, its demand reads are redirected, and what can go on goes on; freezing counts and
tells the fault manager with class CRITICAL. RELEASE with the unlock open closes it and makes a FROZEN channel ACTIVE, nothing captured, its requests
to issue anew. RETIRE_LINE of an uncorrectable line with room in the remap table and a spare line free enters the remap of that line to the lowest
free spare and releases the channel. FREEZE_READ_TIMEOUT with no twin answers the waiting reads with poison. Rests on R240, R241, R242, R243, R262. -/
def Obligations.ChannelErrorsAndActions : Prop :=
  (∀ (inst cause : Nat) (at_ : Option (DramAddr × Home)) (s : State),
    (s.chan inst).state = .active →
    ((s.freeze inst cause at_).chan inst).state = .frozen ∧ ((s.freeze inst cause at_).chan inst).capCause = cause ∧ ((s.freeze inst cause at_).chan inst).capAt = at_ ∧ (s.freeze inst cause at_).ctr (Ctr.DC_CNT_FREEZE (chPage inst)) = s.ctr (Ctr.DC_CNT_FREEZE (chPage inst)) + 1 ∧ (2 ≤ cause → (s.freeze inst cause at_).flt.reports = s.flt.reports ++ [⟨chUnit inst, if inst < 16 then 0x05 else 0x06, Cls.critical⟩])) ∧
  (∀ (inst : Nat) (s : State),
    inst < 16 →
    (s.chan inst).state = .active →
    Gives (.caParityError inst) s (fun t => t = State.pump ((s.freeze inst 2 (s.chan inst).lastCmd).redirectReads inst))) ∧
  (∀ (inst : Nat) (s : State),
    inst < 16 →
    (s.chan inst).state = .active →
    Gives (.alertN inst) s (fun t => t = State.pump ((s.freeze inst 4 (s.chan inst).lastCmd).redirectReads inst))) ∧
  (∀ (inst : Nat) (s : State),
    16 ≤ inst →
    inst < 48 →
    (s.chan inst).state = .active →
    Gives (.dataParity inst) s (fun t => t = State.pump ((s.freeze inst 5 (s.chan inst).lastCmd).redirectReads inst))) ∧
  (∀ (inst req : Nat) (r : ChReq) (s : State),
    inst < 16 →
    ((s.chan inst).wq.find? (fun r => r.id == req && r.issued) = some r) →
    (s.chan inst).state = .active →
    Gives (.writeCrcError inst req) s (fun t => t = State.pump ((s.freeze inst 3 (some (s.dramOf r.home, r.home))).redirectReads inst))) ∧
  (∀ (who inst : Nat) (s : State),
    s.unlocked who = true →
    (s.chan inst).state = .frozen →
    Gives (.release who inst) s (fun t => ∃ u : State, t = State.netRun (State.pump u) ∧ (u.chan inst).state = .active ∧ (u.chan inst).capCause = 0 ∧ (u.chan inst).capAt = none ∧ ((s.chan inst).held = [] → (u.chan inst).rq = (s.chan inst).rq.map (fun r => { r with issued := false }) ∧ (u.chan inst).wq = (s.chan inst).wq.map (fun r => { r with issued := false })) ∧ u.unlocked who = false ∧ u.mem = s.mem)) ∧
  (∀ (who inst : Nat) (a : DramAddr) (cap d : Home) (s : State),
    s.unlocked who = true →
    (s.chan inst).state = .frozen →
    (s.chan inst).capCause = 1 →
    (s.chan inst).capAt = some (a, cap) →
    (s.ec.remaps.find? (fun r => r.dst == cap) = none) →
    ((s.ec.remaps.filter (fun r => r.inst == (s.dramOf cap).inst)).length < remapCap (s.dramOf cap).inst) →
    s.firstSpare cap (s.spareArea cap.hbm).2 (s.spareArea cap.hbm).1 = some d →
    Gives (.retireLine who inst) s (fun t => t.unlocked who = false ∧ ∃ (e : Remap) (u : State), e.inst = (s.dramOf cap).inst ∧ e.src = cap ∧ e.dst = d ∧ u.ec.remaps = s.ec.remaps.filter (fun r => r.src != cap) ++ [e] ∧ t = (match s.lineAt cap with | none => u.releaseChannel inst 2 | some l => let v := u.releaseChannel inst 2; if v.tier.refetch.has l then v.setChan (v.instOf cap) { v.chan (v.instOf cap) with retireWait := some l } else (v.writeHome 5 0 l cap (s.retireCell l cap)).pump))) ∧
  (∀ (inst : Nat) (s : State),
    (s.chan inst).state = .frozen →
    s.mirrored = false →
    s.tier.refetch.cells = [] →
    Gives (.freezeReadTimeout inst) s (fun t => t = State.pump ((s.byArrival.filter (fun id => match s.entry id with | some e => e.op == .read && e.state == .residentWait && !e.sent && e.line != 2 ^ 38 && s.instOf (s.homeOf e.line) == inst && !s.unrestored (leafOf e.line) && !s.fencedFor e | none => false)).foldl (fun (u : State) id => match u.entry id with | some e => u.complete id e (some (0, true)) | none => u) s)))

/-- On a link that consumes messages, with a credit and a known LD: MEM_RD, MEM_SPEC_RD and MEM_INV use a Req credit and hand the tracker a request of
their kind for the line the window leads to; MEM_WR and MEM_WR_PTL use a RwD credit and hand it the write with its mask and poison; where no window
holds the address, a read is counted and recorded and the request handed on names no line, as for a write the LD may not make. Without a credit
nothing happens but Receiver Overflow. A message with an opcode the port does not support is counted and discarded. LEAF_FILL_DONE makes the leaf
valid, zero where the fill wrote nothing. Rests on R45, R46, R56, R372, R374, R383, R384, R385. -/
def Obligations.CxlMemRequests : Prop :=
  (∀ (p : CxlMsg) (ld line dpa : Nat) (w : Bool) (s : State),
    s.linkOpen p.port p.link = true →
    (s.link p.port p.link).req ≠ 0 →
    s.ldOf p.port p.link p.ldid = some ld →
    (s.setLink p.port p.link { s.link p.port p.link with req := (s.link p.port p.link).req - 1 }).route ld p.hpa = (some line, dpa, w) →
    Gives (.memRd p) s (fun t => t = State.submit (s.setLink p.port p.link { s.link p.port p.link with req := (s.link p.port p.link).req - 1 }) ⟨p.port, line, .read, .cxl p.port p.link ld p.tag false, false⟩)) ∧
  (∀ (p : CxlMsg) (ld dpa : Nat) (w : Bool) (s : State),
    s.linkOpen p.port p.link = true →
    (s.link p.port p.link).req ≠ 0 →
    s.ldOf p.port p.link p.ldid = some ld →
    (s.setLink p.port p.link { s.link p.port p.link with req := (s.link p.port p.link).req - 1 }).route ld p.hpa = (none, dpa, w) →
    Gives (.memRd p) s (fun t => t = State.submit (State.noWindow (s.setLink p.port p.link { s.link p.port p.link with req := (s.link p.port p.link).req - 1 }) p.port p.link ld dpa false) ⟨p.port, noLine, .read, .cxl p.port p.link ld p.tag false, true⟩)) ∧
  (∀ (p : CxlMsg) (ld line dpa : Nat) (w : Bool) (s : State),
    s.linkOpen p.port p.link = true →
    (s.link p.port p.link).req ≠ 0 →
    s.ldOf p.port p.link p.ldid = some ld →
    (s.setLink p.port p.link { s.link p.port p.link with req := (s.link p.port p.link).req - 1 }).route ld p.hpa = (some line, dpa, w) →
    Gives (.memSpecRd p) s (fun t => t = State.submit (s.setLink p.port p.link { s.link p.port p.link with req := (s.link p.port p.link).req - 1 }) ⟨p.port, line, .read, .cxl p.port p.link ld p.tag true, false⟩)) ∧
  (∀ (p : CxlMsg) (ld dpa : Nat) (w : Bool) (s : State),
    s.linkOpen p.port p.link = true →
    (s.link p.port p.link).req ≠ 0 →
    s.ldOf p.port p.link p.ldid = some ld →
    (s.setLink p.port p.link { s.link p.port p.link with req := (s.link p.port p.link).req - 1 }).route ld p.hpa = (none, dpa, w) →
    Gives (.memSpecRd p) s (fun t => t = State.submit (s.setLink p.port p.link { s.link p.port p.link with req := (s.link p.port p.link).req - 1 }) ⟨p.port, noLine, .read, .cxl p.port p.link ld p.tag true, true⟩)) ∧
  (∀ (p : CxlMsg) (ld line dpa : Nat) (w : Bool) (s : State),
    s.linkOpen p.port p.link = true →
    (s.link p.port p.link).req ≠ 0 →
    s.ldOf p.port p.link p.ldid = some ld →
    (s.setLink p.port p.link { s.link p.port p.link with req := (s.link p.port p.link).req - 1 }).route ld p.hpa = (some line, dpa, w) →
    Gives (.memInv p) s (fun t => t = State.submit (s.setLink p.port p.link { s.link p.port p.link with req := (s.link p.port p.link).req - 1 }) ⟨p.port, line, .inv, .cxl p.port p.link ld p.tag false, false⟩)) ∧
  (∀ (p : CxlMsg) (ld dpa : Nat) (w : Bool) (s : State),
    s.linkOpen p.port p.link = true →
    (s.link p.port p.link).req ≠ 0 →
    s.ldOf p.port p.link p.ldid = some ld →
    (s.setLink p.port p.link { s.link p.port p.link with req := (s.link p.port p.link).req - 1 }).route ld p.hpa = (none, dpa, w) →
    Gives (.memInv p) s (fun t => t = State.submit (s.setLink p.port p.link { s.link p.port p.link with req := (s.link p.port p.link).req - 1 }) ⟨p.port, noLine, .inv, .cxl p.port p.link ld p.tag false, true⟩)) ∧
  (∀ (p : CxlMsg) (s : State),
    s.linkOpen p.port p.link = true →
    (s.link p.port p.link).req = 0 →
    Gives (.memRd p) s (fun t => t = s.ras p.port p.link 1)) ∧
  (∀ (p : CxlMsg) (data : Line) (poison : Bool) (ld line dpa : Nat) (s : State),
    s.linkOpen p.port p.link = true →
    (s.link p.port p.link).rwd ≠ 0 →
    s.ldOf p.port p.link p.ldid = some ld →
    (s.setLink p.port p.link { s.link p.port p.link with rwd := (s.link p.port p.link).rwd - 1 }).route ld p.hpa = (some line, dpa, true) →
    Gives (.memWr p data poison) s (fun t => t = State.submit (if poison then (State.bumpLink (s.setLink p.port p.link { s.link p.port p.link with rwd := (s.link p.port p.link).rwd - 1 }) p.port p.link Ctr.CX_CNT_POISON_WR).ras p.port p.link 0 else (s.setLink p.port p.link { s.link p.port p.link with rwd := (s.link p.port p.link).rwd - 1 })) ⟨p.port, line, .write data Mask.full poison, .cxl p.port p.link ld p.tag false, false⟩)) ∧
  (∀ (p : CxlMsg) (data : Line) (mask : Mask) (poison : Bool) (ld line dpa : Nat) (s : State),
    s.linkOpen p.port p.link = true →
    (s.link p.port p.link).rwd ≠ 0 →
    s.ldOf p.port p.link p.ldid = some ld →
    (s.setLink p.port p.link { s.link p.port p.link with rwd := (s.link p.port p.link).rwd - 1 }).route ld p.hpa = (some line, dpa, true) →
    Gives (.memWrPtl p data mask poison) s (fun t => t = State.submit (if poison then (State.bumpLink (s.setLink p.port p.link { s.link p.port p.link with rwd := (s.link p.port p.link).rwd - 1 }) p.port p.link Ctr.CX_CNT_POISON_WR).ras p.port p.link 0 else (s.setLink p.port p.link { s.link p.port p.link with rwd := (s.link p.port p.link).rwd - 1 })) ⟨p.port, line, .write data mask poison, .cxl p.port p.link ld p.tag false, false⟩)) ∧
  (∀ (p : CxlMsg) (data : Line) (poison : Bool) (ld dpa : Nat) (r : Option Nat) (w : Bool) (s : State),
    s.linkOpen p.port p.link = true →
    (s.link p.port p.link).rwd ≠ 0 →
    s.ldOf p.port p.link p.ldid = some ld →
    (s.setLink p.port p.link { s.link p.port p.link with rwd := (s.link p.port p.link).rwd - 1 }).route ld p.hpa = (r, dpa, w) →
    (r = none ∨ w = false) →
    Gives (.memWr p data poison) s (fun t => t = State.submit (State.noWindow (if poison then (State.bumpLink (s.setLink p.port p.link { s.link p.port p.link with rwd := (s.link p.port p.link).rwd - 1 }) p.port p.link Ctr.CX_CNT_POISON_WR).ras p.port p.link 0 else (s.setLink p.port p.link { s.link p.port p.link with rwd := (s.link p.port p.link).rwd - 1 })) p.port p.link ld dpa true) ⟨p.port, noLine, .write data Mask.full false, .cxl p.port p.link ld p.tag false, true⟩)) ∧
  (∀ (port link opcode : Nat) (s : State),
    s.linkOpen port link = true →
    Gives (.m2sBadOpcode port link opcode) s (fun t => t = s.bumpLink port link Ctr.CX_CNT_BAD_OP)) ∧
  (∀ (leaf : Nat) (mask : BitVec 64) (s : State),
    s.addr.fills.find? leaf = some mask →
    Gives (.leafFillDone leaf) s (fun t => ∃ u : State, t = u.pump ∧ u.addr.valid = s.addr.valid.insert leaf () ∧ u.addr.fills = s.addr.fills.erase leaf ∧ (mask = BitVec.allOnes 64 → u.mem = s.mem ∧ u.ch = s.ch)))

/-- RETIRE_CHANNEL with the unlock open, and FREEZE_LIMIT_EXPIRED with a record, retire a FROZEN channel: it is RETIRED with nothing captured and ACTION
3, and in SERVE or SOLO the controller departs. SCRUB_PASS_START while scrub runs halves the counts and sets the cursor to the start. SCRUB_READ reads
the next line of the pass with an entry of source EC and moves the cursor past it, skips a line of a stopped channel, and past the last line ends the
pass. PPR_DONE with outcome 1 ends the repair with Resources Exhausted; with outcome 0 the repair of a command ends with Success, the row listed where
it is soft and not where it is hard. RAW_WRITE and ENC_WRITE with the unlock open write the home line named with the beats and check symbols given,
ENC_WRITE with the code's check symbols exclusive-ored; a read leaves memory; RESULT is 1; a write that is barred ends with RESULT 3, and a closed
unlock is counted and nothing else happens. Rests on R243, R245, R246, R258, R266, R267, R274, R275, R278, R279, R280, R459. -/
def Obligations.ScrubRepairAndTest : Prop :=
  (∀ (inst : Nat) (s : State),
    ((s.markRetired inst).chan inst).state = .retired ∧ ((s.markRetired inst).chan inst).capCause = 0 ∧ (s.markRetired inst).fld (Reg.DC_ACTION (chPage inst)) Fld.DC_ACTION_ACTION = 3) ∧
  (∀ (who inst : Nat) (s : State),
    s.unlocked who = true →
    (s.chan inst).state = .frozen →
    (s.mode.mode = .serve ∨ s.mode.mode = .solo) →
    Gives (.retireChannel who inst) s (fun t => t = (s.relock who).retireChannels [inst] ∧ t.mode.mode = .preserve ∧ t.mode.reason = 0x08 ∧ t.unlocked who = false)) ∧
  (∀ (inst : Nat) (s : State),
    (s.chan inst).state = .frozen →
    Gives (.freezeLimitExpired inst) s (fun t => t = (s.logRec LogT.faultEvent Src.ec Cls.critical [w32 (chUnit inst), w32 (s.chan inst).capCause]).retireChannels [inst])) ∧
  (∀ (s : State),
    s.scrubRuns = true →
    Gives .scrubPassStart s (fun t => t.ec.counts = (s.ec.counts.map (fun c => (c.1, c.2 / 2))).filter (fun c => c.2 != 0) ∧ t.ec.scrubAt = 0 ∧ t.ec.scrubDone = 0 ∧ t.ec.scrubAll = 64 * s.scrubLeaves.length + s.reserveCount ∧ t.mem = s.mem)) ∧
  (∀ (place line : Nat) (h : Home) (s : State),
    s.scrubRuns = true →
    s.ec.scrubbing = none →
    s.ec.scrubAll ≠ 0 →
    s.ec.scrubDone ≠ s.ec.scrubAll →
    s.scrubNext = some (place, line, h) →
    (line = reserveLine ∨ s.atCursor line = false) →
    s.stopped h = false →
    s.mayGrant 6 = true →
    s.heldBack 6 = false →
    Gives .scrubRead s (fun t => t.ec.scrubAt = place + 1 ∧ t.ec.scrubbing.isSome = true ∧ t.mem = s.mem)) ∧
  (∀ (place line : Nat) (h : Home) (s : State),
    s.scrubRuns = true →
    s.ec.scrubbing = none →
    s.ec.scrubAll ≠ 0 →
    s.ec.scrubDone ≠ s.ec.scrubAll →
    s.scrubNext = some (place, line, h) →
    (line = reserveLine ∨ s.atCursor line = false) →
    s.stopped h = true →
    Gives .scrubRead s (fun t => t = s.scrubPast place)) ∧
  (∀ (s : State),
    s.scrubRuns = true →
    s.ec.scrubbing = none →
    s.ec.scrubAll ≠ 0 →
    s.ec.scrubDone ≠ s.ec.scrubAll →
    s.scrubNext = none →
    Gives .scrubRead s (fun t => t = { s with ec := { s.ec with scrubDone := s.ec.scrubAll, passes := (s.ec.passes + 1) % 65536 } })) ∧
  (∀ (p : RowRepair) (s : State),
    s.ec.repair = some p →
    ((s.rowCells p.row).any (fun c => match s.lineAt c.1 with | some l => s.tier.refetch.has l | none => false) = false) →
    p.auto = none →
    Gives (.pprDone 1) s (fun t => t = State.finish { s with ec := { s.ec with repair := none } } p.tag .exhausted)) ∧
  (∀ (p : RowRepair) (s : State),
    s.ec.repair = some p →
    ((s.rowCells p.row).any (fun c => match s.lineAt c.1 with | some l => s.tier.refetch.has l | none => false) = false) →
    p.auto = none →
    Gives (.pprDone 0) s (fun t => ∃ u : State, t = u.pump ∧ u.ec.repair = none ∧ (p.row ∈ u.ec.rows ↔ p.hard = false) ∧ u.mode = s.mode)) ∧
  (∀ (who : Nat) (ctl : Word) (u : State) (s : State),
    s.pwr.core = true →
    who < 5 →
    s.unlocked who = true →
    u = (s.relock who).setReg Reg.EC_TEST_CTL (guardedWord Reg.EC_TEST_CTL (s.reg Reg.EC_TEST_CTL) (ctl.setField 2 0 1)) →
    u.testBarred u.testHome = false →
    u.testConflict u.testHome = false →
    Gives (.rawWrite who ctl) s (fun t => t = (u.setCell u.testHome (.raw u.testBeats (u.testChecks u.testHome.hbm))).testRes 1)) ∧
  (∀ (who : Nat) (ctl : Word) (u : State) (s : State),
    s.pwr.core = true →
    who < 5 →
    s.unlocked who = true →
    u = (s.relock who).setReg Reg.EC_TEST_CTL (guardedWord Reg.EC_TEST_CTL (s.reg Reg.EC_TEST_CTL) (ctl.setField 2 0 2)) →
    u.testBarred u.testHome = false →
    u.testConflict u.testHome = false →
    Gives (.encWrite who ctl) s (fun t => t = (u.setCell u.testHome (.raw u.testBeats (encodeCheck u.testHome.hbm u.testBeats ^^^ u.testChecks u.testHome.hbm))).testRes 1)) ∧
  (∀ (who : Nat) (ctl : Word) (errs : List (Nat × BitVec 16)) (u : State) (s : State),
    s.pwr.core = true →
    who < 5 →
    s.unlocked who = true →
    u = (s.relock who).setReg Reg.EC_TEST_CTL (guardedWord Reg.EC_TEST_CTL (s.reg Reg.EC_TEST_CTL) (ctl.setField 2 0 3)) →
    u.testConflict u.testHome = false →
    Gives (.rawRead who ctl errs) s (fun t => t = (u.testRead u.testHome (u.markOf u.testHome) false (errWord errs)).testRes 1 ∧ t.ec.testResult = 1 ∧ t.mem = s.mem)) ∧
  (∀ (who : Nat) (ctl : Word) (errs : List (Nat × BitVec 16)) (u : State) (s : State),
    s.pwr.core = true →
    who < 5 →
    s.unlocked who = true →
    u = (s.relock who).setReg Reg.EC_TEST_CTL (guardedWord Reg.EC_TEST_CTL (s.reg Reg.EC_TEST_CTL) (ctl.setField 2 0 4)) →
    u.testConflict u.testHome = false →
    Gives (.decRead who ctl errs) s (fun t => t = (u.testRead u.testHome (u.testMark u.testHome) true (errWord errs)).testRes 1 ∧ t.ec.testResult = 1 ∧ t.mem = s.mem)) ∧
  (∀ (who : Nat) (ctl : Word) (u : State) (s : State),
    s.pwr.core = true →
    who < 5 →
    s.unlocked who = true →
    u = (s.relock who).setReg Reg.EC_TEST_CTL (guardedWord Reg.EC_TEST_CTL (s.reg Reg.EC_TEST_CTL) (ctl.setField 2 0 1)) →
    u.testBarred u.testHome = true →
    Gives (.rawWrite who ctl) s (fun t => t = u.testRes 3)) ∧
  (∀ (who : Nat) (ctl : Word) (s : State),
    s.pwr.core = true →
    who < 5 →
    s.unlocked who = false →
    Gives (.rawWrite who ctl) s (fun t => t = s.bump Ctr.SYS_CNT_GUARD_REFUSED))

/-- FAULT_EVENT records the event, leads a test strip that a MAJOR event meets to its rewind, has the effects of its class, and hands an event of MINOR or
above whose class is tested to a handling. Recording sets FLT_LAST and advances the counter of the class. A handling takes a free slot where no event
waits, else the event waits. FAULT_SLOT_DISPATCH gives a free slot the first event that waits. SELFTEST_DONE of a slot decides its handling; slot 8
ends the SELFTEST_RUN that waits. STUCK_OPERATION tells of an entry once. ENGINE_FAULT parks the engine and puts the spare of its eight in its place.
A lockstep mismatch restarts firmware, or with one in the restart stops it and departs; COX_RESTART_DONE makes it run; FIRMWARE_CHECKPOINT lists the
commands past their commit point. TEMPERATURE_POLL of a DDR5 channel is a reading of that channel, and sets its temperature. Rests on R233, R394,
R402, R405, R407, R409, R411, R412, R413. -/
def Obligations.FaultManager : Prop :=
  (∀ (e : FaultEv) (note : Nat) (s : State),
    (s.recordEvent e note).flt = { s.flt with last := e } ∧ (s.recordEvent e note).ctr (clsCounter e.cls) = s.ctr (clsCounter e.cls) + 1 ∧ (s.recordEvent e note).mode = s.mode) ∧
  (∀ (unit code cls at_ : Nat) (s : State),
    s.pwr.core = true →
    Gives (.faultEvent unit code cls at_) s (fun t => ∃ u v : State, u = State.recordEvent { s with flt := { s.flt with reports := s.flt.reports.erase ⟨unit % 2 ^ 32, code % 2 ^ 16, cls % 4⟩ } } ⟨unit % 2 ^ 32, code % 2 ^ 16, cls % 4⟩ 0 ∧ v = (((u.stripFault (cls % 4)).autoTry).faultEffects ⟨unit % 2 ^ 32, code % 2 ^ 16, cls % 4⟩ at_).dependants (code % 2 ^ 16) ∧ t = (if 1 ≤ cls % 4 ∧ tested (code % 2 ^ 16) = true then v.handle ⟨unit % 2 ^ 32, code % 2 ^ 16, cls % 4⟩ else v).pump)) ∧
  (∀ (e : FaultEv) (k : Nat) (s : State),
    (s.flt.slots.cells.find? (fun c => c.2.unit == e.unit || unitWithin e.unit c.2.unit) = none) →
    (s.contain e.unit).freeSlot = some k →
    s.flt.queue = [] →
    (State.setFlt (s.contain e.unit) k ⟨e.unit, e.code, e.cls, 2, false, false⟩).recurs e.unit e.code = false →
    (s.handle e).flt.slots.find? k = some ⟨e.unit, e.code, e.cls, 2, false, false⟩) ∧
  (∀ (slot : Nat) (e : FaultEv) (rest : List FaultEv) (s : State),
    slot < 8 →
    s.flt.slots.has slot = false →
    s.flt.cox = .running →
    s.flt.queue = e :: rest →
    s.recurs e.unit e.code = false →
    s.flt.fenced = [] →
    Gives (.faultSlotDispatch slot) s (fun t => t.flt.slots.find? slot = some ⟨e.unit, e.code, e.cls, 2, false, false⟩ ∧ t.flt.queue = rest)) ∧
  (∀ (slot : Nat) (pass row : Bool) (dev us : Nat) (f : FltSlot) (s : State),
    s.flt.cox = .running →
    s.cmd.activate = none →
    slot ≠ 8 →
    s.flt.slots.find? slot = some f →
    f.stage = 2 →
    Gives (.selftestDone slot pass row dev us) s (fun t => t = State.pump (if pass then (((State.recordEvent { s.bump Ctr.FLT_CNT_TRANSIENT with flt := { s.flt with transient := s.flt.transient ++ [(f.unit, f.code, s.now)] } } ⟨f.unit, f.code, Cls.info⟩ 1).freeFlt slot).returnUnit f.unit).resumeStall f.unit else s.actSlot slot row dev))) ∧
  (∀ (slot : Nat) (pass row : Bool) (dev us : Nat) (j : Job) (s : State),
    s.flt.cox = .running →
    s.cmd.activate = none →
    slot = 8 →
    (s.cmd.jobs.find? (fun j => j.opcode == 0xC503 && j.done.isNone) = some j) →
    Gives (.selftestDone slot pass row dev us) s (fun t => t = s.finish j.tag (.ok [w32 (if pass then 0 else 1), w32 us]))) ∧
  (∀ (id : Nat) (e : Entry) (s : State),
    s.entry id = some e →
    e.state ≠ .held →
    id ∉ s.flt.stuck →
    Gives (.stuckOperation id) s (fun t => t.flt.stuck = s.flt.stuck ++ [id] ∧ t.flt.reports = s.flt.reports ++ [⟨unitId 0 (e.src + 256 * e.state.code), 0, Cls.major⟩] ∧ t.trk = s.trk ∧ t.ctr Ctr.FLT_CNT_STUCK_OP = s.ctr Ctr.FLT_CNT_STUCK_OP + 1)) ∧
  (∀ (eight engine items : Nat) (sp : Nat) (s : State),
    eight < 8 →
    engine ∈ (s.eight eight).active →
    (s.eight eight).spare = some sp →
    Gives (.engineFault eight engine items) s (fun t => t.eight eight = { (s.eight eight) with spare := none, active := (s.eight eight).active.filter (· != engine) ++ [sp], parked := (s.eight eight).parked ++ [engine] } ∧ t.flt.reports = s.flt.reports ++ [⟨unitId 0x07 (8 * eight + engine), 0x0E, Cls.major⟩] ∧ t.ctr Ctr.FLT_CNT_ENG_REISSUE = s.ctr Ctr.FLT_CNT_ENG_REISSUE + BitVec.ofNat 64 items)) ∧
  (∀ (s : State),
    s.pwr.core = true →
    s.flt.cox = .running →
    s.cmd.activate = none →
    s.flt.coxAt = none →
    Gives .lockstepMismatch s (fun t => t.flt.cox = .restarting ∧ t.flt.reports = s.flt.reports ++ [⟨unitId 0x08 0, 0x0F, Cls.major⟩] ∧ t.mode = s.mode ∧ t.ctr Ctr.FLT_CNT_LOCKSTEP = s.ctr Ctr.FLT_CNT_LOCKSTEP + 1)) ∧
  (∀ (s : State),
    s.pwr.core = true →
    s.flt.cox = .restarting →
    s.cmd.activate = none →
    (s.mode.mode = .serve ∨ s.mode.mode = .solo) →
    Gives .lockstepMismatch s (fun t => t.flt.cox = .stopped ∧ t.mode.mode = .preserve ∧ t.mode.reason = 0x08)) ∧
  (∀ (s : State),
    s.flt.cox = .restarting →
    Gives .coxRestartDone s (fun t => t.flt = { s.flt with cox := .running, coxAt := some s.now } ∧ t.mode = s.mode ∧ t.mem = s.mem)) ∧
  (∀ (s : State),
    s.pwr.core = true →
    s.flt.cox = .running →
    Gives .firmwareCheckpoint s (fun t => t = { s with flt := { s.flt with ckptTags := (s.cmd.jobs.filter (·.committed)).map (·.tag) } })) ∧
  (∀ (inst : Nat) (temp : Option Nat) (s : State),
    inst < 16 →
    (s.chan inst).state ≠ .off →
    (s.chan inst).state ≠ .retired →
    Gives (.temperaturePoll inst temp) s (fun t => t = s.tempReading inst temp ∧ (∀ c, temp = some c → (t.chan inst).temp = c ∧ (t.chan inst).tempFails = 0) ∧ (temp = none → (t.chan inst).ref2x = true)))

/-- An operation of FLS_CMD with the unlock open closes it. PROGRAM and ERASE of an allowed, unprotected place on an idle bank with nothing queued start
there, the erase with its PENDING entry in the journal; outside the areas of R488 RESULT is AREA, on a protected sector PROTECTED, and nothing else
changes. READ of an idle bank gives the word; of a busy bank the status word, RESULT 3, counted. SUSPEND and RESUME stop an erase or a program and let
it go on. PROGRAM_DONE ends the program: a word keeps only the ones it had, RESULT 1, or with a failure RESULT 4 and the fault. ERASE_DONE ends the
erase: the sector reads all ones and its DONE entry is in the journal. FETCH_SUSPEND is counted; PROG_WAIT_EXPIRED suspends an erase for programs
queued for other sectors. PROT_WRITE with the right password takes the staged protection; a wrong one is refused, counted, and the fourth locks;
PWD_SET sets a password where none is. JOURNAL_SCAN in the boot of a bring-up erases again what the journals show torn. Rests on R478, R479, R480,
R482, R483, R484, R485, R486, R487, R488, R493, R495. -/
def Obligations.FlashOperations : Prop :=
  (∀ (who : Nat) (u : State) (b : Bank) (s : State),
    s.pwr.core = true →
    who < 5 →
    s.unlocked who = true →
    u = (s.relock who).setFld Reg.FLS_CMD Fld.FLS_CMD_OP 2 →
    u.areaOk u.flsAddr = true →
    u.fls.protected_ u.flsAddr = false →
    u.flashWord u.flsAddr = BitVec.allOnes 256 →
    b = u.fls.bank (faBank u.flsAddr) →
    b.state = .idle →
    b.queue = [] →
    Gives (.flashProgram who) s (fun t => t = (u.setBank (faBank u.flsAddr) { b with cur := some ⟨.register, u.flsAddr, some u.flsData⟩, state := .programming }).flsBusy)) ∧
  (∀ (who : Nat) (u : State) (b : Bank) (s : State),
    s.pwr.core = true →
    who < 5 →
    s.unlocked who = true →
    u = (s.relock who).setFld Reg.FLS_CMD Fld.FLS_CMD_OP 3 →
    u.areaOk (u.flsAddr / 65536 * 65536) = true →
    u.fls.protected_ (u.flsAddr / 65536 * 65536) = false →
    b = u.fls.bank (faBank (u.flsAddr / 65536 * 65536)) →
    b.state = .idle →
    b.queue = [] →
    Gives (.flashErase who) s (fun t => t = (u.setBank (faBank (u.flsAddr / 65536 * 65536)) { b with cur := some ⟨.register, u.flsAddr / 65536 * 65536, none⟩, state := .erasing, journal := b.journal.pendingErase (journalBase (faBank (u.flsAddr / 65536 * 65536))) (faSector (u.flsAddr / 65536 * 65536)) }).flsBusy)) ∧
  (∀ (who : Nat) (u : State) (s : State),
    s.pwr.core = true →
    who < 5 →
    s.unlocked who = true →
    u = (s.relock who).setFld Reg.FLS_CMD Fld.FLS_CMD_OP 2 →
    u.areaOk u.flsAddr = false →
    Gives (.flashProgram who) s (fun t => t = u.flsResult 7)) ∧
  (∀ (who : Nat) (u : State) (s : State),
    s.pwr.core = true →
    who < 5 →
    s.unlocked who = true →
    u = (s.relock who).setFld Reg.FLS_CMD Fld.FLS_CMD_OP 2 →
    u.areaOk u.flsAddr = true →
    u.fls.protected_ u.flsAddr = true →
    Gives (.flashProgram who) s (fun t => t = u.flsResult 5)) ∧
  (∀ (who : Nat) (u : State) (b : Bank) (s : State),
    s.pwr.core = true →
    who < 5 →
    s.unlocked who = true →
    u = (s.relock who).setFld Reg.FLS_CMD Fld.FLS_CMD_OP 1 →
    b = u.fls.bank (faBank u.flsAddr) →
    b.state = .idle →
    Gives (.flashRead who) s (fun t => t = (State.freed ((u.setFlsData (u.flashWord u.flsAddr)).flsResult 1)))) ∧
  (∀ (who : Nat) (u : State) (b : Bank) (s : State),
    s.pwr.core = true →
    who < 5 →
    s.unlocked who = true →
    u = (s.relock who).setFld Reg.FLS_CMD Fld.FLS_CMD_OP 1 →
    b = u.fls.bank (faBank u.flsAddr) →
    (b.state = .programming ∨ b.state = .erasing) →
    Gives (.flashRead who) s (fun t => t.fls.result = 3 ∧ t.ctr Ctr.FLS_CNT_READ_BUSY = s.ctr Ctr.FLS_CNT_READ_BUSY + 1 ∧ t.fls.words = s.fls.words)) ∧
  (∀ (who : Nat) (u : State) (b : Bank) (s : State),
    s.pwr.core = true →
    who < 5 →
    s.unlocked who = true →
    u = (s.relock who).setFld Reg.FLS_CMD Fld.FLS_CMD_OP 4 →
    b = u.fls.bank (faBank u.flsAddr) →
    Gives (.flashSuspend who) s (fun t => t = (match b.state with | .erasing => (u.setBank (faBank u.flsAddr) { b with state := .eraseSuspended, auto := false }).flsResult 1 | .programming => (u.setBank (faBank u.flsAddr) { b with state := .programSuspended }).flsResult 1 | .nested => u.flsResult 10 | _ => u.flsResult 1))) ∧
  (∀ (who : Nat) (u : State) (b : Bank) (s : State),
    s.pwr.core = true →
    who < 5 →
    s.unlocked who = true →
    u = (s.relock who).setFld Reg.FLS_CMD Fld.FLS_CMD_OP 5 →
    b = u.fls.bank (faBank u.flsAddr) →
    Gives (.flashResume who) s (fun t => t = (match b.state with | .eraseSuspended => (u.setBank (faBank u.flsAddr) { b with state := .erasing }).flsResult 1 | .programSuspended => (u.setBank (faBank u.flsAddr) { b with state := .programming }).flsResult 1 | .nested => (u.setBank (faBank u.flsAddr) { b with resume := true }).flsResult 1 | _ => u.flsResult 1))) ∧
  (∀ (bank : Nat) (o : FlsOp) (w : BitVec 256) (s : State),
    s.pwr.core = true →
    bank < 2 →
    (s.fls.bank bank).state = .programming →
    (s.fls.bank bank).cur = some o →
    o.word = some w →
    o.client = .register →
    Gives (.flashProgramDone bank true) s (fun t => t.fls.words.getD (o.fa / 32) (BitVec.allOnes 256) = s.fls.words.getD (o.fa / 32) (BitVec.allOnes 256) &&& w ∧ t.fls.result = 1 ∧ t.fls.bank bank = Bank.next { s.fls.bank bank with cur := none, state := .idle, failed := false } bank ∧ t.flt = s.flt)) ∧
  (∀ (bank : Nat) (o : FlsOp) (w : BitVec 256) (s : State),
    s.pwr.core = true →
    bank < 2 →
    (s.fls.bank bank).state = .programming →
    (s.fls.bank bank).cur = some o →
    o.word = some w →
    o.client = .register →
    Gives (.flashProgramDone bank false) s (fun t => t.fls.result = 4 ∧ faSector o.fa ∈ t.fls.skip ∧ t.fresh = s.fresh + 1 ∧ t.flt.reports = s.flt.reports ++ [⟨unitId 0x15 bank, 0x1A, Cls.major⟩] ∧ t.ctr Ctr.FLS_CNT_PROG_FAIL = s.ctr Ctr.FLS_CNT_PROG_FAIL + 1)) ∧
  (∀ (bank : Nat) (o : FlsOp) (s : State),
    s.pwr.core = true →
    bank < 2 →
    (s.fls.bank bank).state = .erasing →
    (s.fls.bank bank).cur = some o →
    o.client = .register →
    Gives (.flashEraseDone bank true) s (fun t => t.fls.words = s.fls.words.filter (fun w _ => faSector (32 * w) != faSector o.fa) ∧ t.fls.result = 1 ∧ t.fls.bank bank = Bank.next { s.fls.bank bank with cur := none, state := .idle, failed := false, auto := false, resume := false, journal := (s.fls.bank bank).journal.append 2 0 (faSector o.fa * 65536) } bank ∧ t.log = s.log)) ∧
  (∀ (bank : Nat) (s : State),
    s.pwr.core = true →
    bank < 2 →
    ((s.fls.bank bank).state = .erasing ∨ (s.fls.bank bank).state = .programming) →
    Gives (.fetchSuspend bank) s (fun t => t = s.bump Ctr.FLS_CNT_FETCH_SUSPEND)) ∧
  (∀ (bank : Nat) (c q : FlsOp) (s : State),
    s.pwr.core = true →
    bank < 2 →
    (s.fls.bank bank).state = .erasing →
    (s.fls.bank bank).cur = some c →
    faOff c.fa < 0x1000000 →
    q ∈ (s.fls.bank bank).queue →
    q.word.isSome = true →
    faSector q.fa ≠ faSector c.fa →
    Gives (.progWaitExpired bank) s (fun t => t = s.setBank bank (Bank.next { s.fls.bank bank with state := .eraseSuspended, auto := true } bank))) ∧
  (∀ (s : State),
    s.pwr.core = true →
    s.mode.bringup = .boot →
    Gives .journalScan s (fun t => t = s.journalScan ∧ (s.fls.bankA.journal.torn = [] → s.fls.bankB.journal.torn = [] → t = s))) ∧
  (∀ (who : Nat) (u : State) (s : State),
    s.pwr.core = true →
    who < 5 →
    s.unlocked who = true →
    u = (s.relock who).setFld Reg.FLS_CMD Fld.FLS_CMD_OP 6 →
    u.fls.locked = false →
    (u.fls.password = none ∨ u.fls.password = some u.flsPwd) →
    u.fls.stageA &&& 0x00FF0000 = 0 →
    u.fls.stageB &&& 0xFFFF0000 = 0 →
    u.fls.stageInfo &&& 0x3F = 0 →
    Gives (.protWrite who) s (fun t => t.fls = { s.fls with wrong := 0, protA := s.fls.stageA, protB := s.fls.stageB, protInfo := s.fls.stageInfo ||| 0x40, result := 1 })) ∧
  (∀ (who : Nat) (u : State) (p : BitVec 64) (s : State),
    s.pwr.core = true →
    who < 5 →
    s.unlocked who = true →
    u = (s.relock who).setFld Reg.FLS_CMD Fld.FLS_CMD_OP 6 →
    u.fls.locked = false →
    u.fls.password = some p →
    p ≠ u.flsPwd →
    Gives (.protWrite who) s (fun t => t.fls = { s.fls with wrong := min 4 (s.fls.wrong + 1), locked := decide (4 ≤ s.fls.wrong + 1), result := 8 } ∧ t.ctr Ctr.FLS_CNT_PWD_REFUSED = s.ctr Ctr.FLS_CNT_PWD_REFUSED + 1)) ∧
  (∀ (who : Nat) (u : State) (s : State),
    s.pwr.core = true →
    who < 5 →
    s.unlocked who = true →
    u = (s.relock who).setFld Reg.FLS_CMD Fld.FLS_CMD_OP 7 →
    u.fls.password = none →
    Gives (.pwdSet who) s (fun t => t.fls = { s.fls with password := some u.flsPwd, result := 1 }))

/-- A write of SHT_COMMIT that no cause stands against puts the next number in force, being written, with a test strip; one that is refused is counted and
leaves the frame in force, with the cause unless it is BUSY. A write of SHT_REWIND goes to the frame that far back where it is not rejected.
FRAME_WRITE_DONE records the frame in force; a failed or abandoned write leaves it unsaved. TEST_STRIP_END ends the strip. A pending automatic rewind
goes to its frame, in SERVE and SOLO by way of HOLD. Rests on R464, R466, R468, R472, R473, R475, R476. -/
def Obligations.FramesByRegister : Prop :=
  (∀ (groups : Word) (s : State),
    s.pwr.core = true →
    s.commitCause groups = none →
    Gives (.shtCommitWrite groups) s (fun t => t.sht.inForce = (s.sht.highest + 1) % 2 ^ 30 ∧ t.sht.highest = (s.sht.highest + 1) % 2 ^ 30 ∧ t.sht.writing = some ((s.sht.highest + 1) % 2 ^ 30) ∧ t.sht.strip = some (s.now + s.stripNs, s.sht.inForce) ∧ t.sht.result = 1 ∧ t.mem = s.mem)) ∧
  (∀ (groups : Word) (c : Nat) (s : State),
    s.pwr.core = true →
    s.commitCause groups = some c →
    Gives (.shtCommitWrite groups) s (fun t => t.sht = (if c = 6 then s.sht else { s.sht with result := 2, cause := c }) ∧ t.ctr Ctr.SHT_CNT_REJECT = s.ctr Ctr.SHT_CNT_REJECT + 1 ∧ t.regs = s.regs ∧ t.mode = s.mode)) ∧
  (∀ (back : Nat) (f : Frame) (s : State),
    s.pwr.core = true →
    back % 4 ≠ 0 →
    s.mode.mode ≠ .preserve →
    s.shtBusy = false →
    ((((s.sht.live.take 4).dropWhile (fun f => f.num != s.sht.inForce)).drop (back % 4)).head? = some f) →
    f.state ≠ .rejected →
    Gives (.shtRewindWrite back) s (fun t => t.sht.inForce = f.num ∧ t.sht.strip = none ∧ t.sht.result = 1 ∧ t.mode = s.mode)) ∧
  (∀ (n : Nat) (f : Frame) (s : State),
    s.sht.writing = some n →
    s.frame n = some f →
    s.sht.autoPending = none →
    Gives (.frameWriteDone true) s (fun t => t.sht.writing = none ∧ t.sht.recorded = n ∧ t.sht.unsaved = false ∧ t.fls.force = s.fls.force.force 0x10 0 n ∧ t.regs = s.regs)) ∧
  (∀ (n : Nat) (s : State),
    s.sht.writing = some n →
    s.sht.autoPending = none →
    Gives (.frameWriteDone false) s (fun t => t = { s with sht := { s.sht with writing := none, unsaved := true } })) ∧
  (∀ (n : Nat) (s : State),
    s.sht.writing = some n →
    s.sht.autoPending = none →
    Gives .frameWriteAbandoned s (fun t => t = { s with sht := { s.sht with writing := none, unsaved := true } })) ∧
  (∀ (at_ old : Nat) (s : State),
    s.sht.strip = some (at_, old) →
    s.sht.autoPending = none →
    Gives .testStripEnd s (fun t => t.sht.strip = none ∧ t.sht.inForce = s.sht.inForce ∧ t.sht.live = (s.sht.live.map (fun f => if f.num = s.sht.inForce then { f with state := .accepted } else f)).map (fun f => if f.num = old then { f with state := .kept } else f) ∧ t.regs = s.regs)) ∧
  (∀ (old : Nat) (s : State),
    s.sht.autoPending = some old →
    s.sht.writing = none →
    (s.mode.mode = .serve ∨ s.mode.mode = .solo) →
    s.mode.transit = false →
    Gives .autoRewindRetry s (fun t => t.sht.autoPending = none ∧ t.sht.inForce = old ∧ t.mode.reason = 0x0B ∧ t.mode.count = (s.mode.count + 2) % 65536)) ∧
  (∀ (old : Nat) (s : State),
    s.sht.autoPending = some old →
    s.sht.writing = none →
    (s.mode.mode = .hold ∨ s.mode.mode = .restore ∨ s.mode.mode = .standby) →
    Gives .autoRewindRetry s (fun t => t.sht.autoPending = none ∧ t.sht.inForce = old ∧ t.mode = s.mode))

/-- A write narrower than 32 bits is counted and has no effect. An aligned 32-bit write reaches its register in the live view, and in the image is staged
where the register has RWS bits. A register with neither guarded, RSC nor RWS bits and no row of its own takes the written value in its RW and WO
bits, and a 1 clears its W1C bits; every other bit stays. A write to no register has no effect. A write of the key to SYS_UNLOCK opens the unlock of
the requester; any other value closes it and is counted. 100 ms later it closes. Rests on R10, R451, R452, R456, R460. -/
def Obligations.RegisterWrites : Prop :=
  (∀ (who width addr : Nat) (data : BitVec 64) (s : State),
    s.pwr.core = true →
    who < 5 →
    width < 4 →
    Gives (.registerWrite who width addr data) s (fun t => t = s.bump Ctr.SYS_CNT_NARROW_WR)) ∧
  (∀ (who addr : Nat) (data : BitVec 64) (a : Nat) (b : Block) (r : RegDesc) (s : State),
    s.pwr.core = true →
    who < 5 →
    addr % 4 = 0 →
    blockOfPage (addr / 65536) = some b →
    addr % 65536 < 32768 →
    a = addr / 65536 * 65536 + addr % 2 ^ b.w →
    regAt a = some r →
    ownRow a = false →
    r.maskOf [.rwg] = 0 →
    r.maskOf [.rsc] = 0 →
    r.maskOf [.rws] = 0 →
    a ≠ Reg.EC_TEST_CTL →
    a ≠ Reg.LC_OP_CMD →
    a ≠ Reg.CRY_BOOT →
    a % 65536 ≠ 0x60 →
    Gives (.registerWrite who 4 addr data) s (fun t => t.reg a = ((s.reg a &&& ~~~(r.maskOf [.rw, .wo])) ||| (data.setWidth 32 &&& r.maskOf [.rw, .wo])) &&& ~~~(r.maskOf [.w1c] &&& data.setWidth 32) ∧ (∀ c, c ≠ a → t.reg c = s.reg c) ∧ t.ctrs = s.ctrs ∧ t.mode = s.mode ∧ t.mem = s.mem)) ∧
  (∀ (who addr : Nat) (data : BitVec 64) (a : Nat) (b : Block) (s : State),
    s.pwr.core = true →
    who < 5 →
    addr % 4 = 0 →
    blockOfPage (addr / 65536) = some b →
    32768 ≤ addr % 65536 →
    a = addr / 65536 * 65536 + addr % 2 ^ b.w →
    rwsMask a ≠ 0 →
    Gives (.registerWrite who 4 addr data) s (fun t => t = s.stage a (data.setWidth 32))) ∧
  (∀ (who addr : Nat) (data : BitVec 64) (s : State),
    s.pwr.core = true →
    who < 5 →
    addr % 4 = 0 →
    blockOfPage (addr / 65536) = none →
    Gives (.registerWrite who 4 addr data) s (fun t => t = s)) ∧
  (∀ (who addr : Nat) (data : BitVec 64) (s : State),
    s.pwr.core = true →
    who < 5 →
    addr % 8 = 0 →
    Gives (.registerWrite who 8 addr data) s (fun t => t = (s.writeReg who addr (data.setWidth 32)).writeReg who (addr + 4) ((data >>> 32).setWidth 32))) ∧
  (∀ (who : Nat) (s : State),
    who < 5 →
    Gives (.unlockExpired who) s (fun t => t = s.relock who ∧ t.unlocked who = false))

/-- Writing 0xD47E to SYS_UNLOCK.KEY opens the unlock of the requester. Writing any other value closes it and is counted in SYS_CNT_GUARD_REFUSED. The
unlocks of the other requesters stay. Rests on R458. -/
def Obligations.UnlockKey : Prop :=
  (∀ (who key : Nat) (s : State),
    s.pwr.core = true →
    who < 5 →
    key % 65536 = 0xD47E →
    Gives (.sysUnlockWrite who key) s (fun t => t.unlocked who = true ∧ (∀ w, w ≠ who → t.unlocked w = s.unlocked w) ∧ t.ctrs = s.ctrs ∧ t.regs = s.regs)) ∧
  (∀ (who key : Nat) (s : State),
    s.pwr.core = true →
    who < 5 →
    key % 65536 ≠ 0xD47E →
    Gives (.sysUnlockWrite who key) s (fun t => t.unlocked who = false ∧ (∀ w, w ≠ who → t.unlocked w = s.unlocked w) ∧ t.ctr Ctr.SYS_CNT_GUARD_REFUSED = s.ctr Ctr.SYS_CNT_GUARD_REFUSED + 1 ∧ t.regs = s.regs))

/-- CXL_LINK_L0 brings a link from TRAINING to L0, with all its credits unless it waits for a SECURE stream, and from RECOVERY to L0 with what waited
sent. A lane failure retrains the link at the widest width its good lanes allow and marks it degraded where that is less than configured. The recovery
limit takes the link down and reports a port fault. RETRAIN_FULL retrains a degraded link in L0 at its full width. PERST_N_ASSERT takes the link down;
a hot reset sends it to TRAINING. PERST_N_RELEASE lets it train. A GPF Phase 2 request notes what the link accepted before it; its response goes out
once those are over. IDE integrity failure makes the stream INSECURE; keys over a secured session make it SECURE. CRC and retry thresholds set their
RAS bits. Rests on R374, R381, R385, R386, R387, R388, R389, R390, R391, R392. -/
def Obligations.HostLinks : Prop :=
  (∀ (port link : Nat) (s : State),
    s.linkInUse port link = true →
    s.mode.mode ≠ .standby →
    (s.link port link).state = .training →
    (s.port port).ideReq = false →
    Gives (.cxlLinkL0 port link) s (fun t => (t.link port link).state = .l0 ∧ (t.link port link).req = 256 ∧ (t.link port link).rwd = 256 ∧ t.trk = s.trk ∧ t.out = s.out)) ∧
  (∀ (port link : Nat) (s : State),
    s.linkInUse port link = true →
    s.mode.mode ≠ .standby →
    (s.link port link).state = .training →
    (s.port port).ideReq = true →
    (s.link port link).ide ≠ 1 →
    Gives (.cxlLinkL0 port link) s (fun t => (t.link port link).state = .l0 ∧ (t.link port link).req = (s.link port link).req ∧ (t.link port link).rwd = (s.link port link).rwd ∧ t.out = s.out)) ∧
  (∀ (port link : Nat) (s : State),
    s.linkInUse port link = true →
    s.mode.mode ≠ .standby →
    (s.link port link).state = .recovery →
    (s.link port link).width ≠ 0 →
    (s.link port link).retry = [] →
    Gives (.cxlLinkL0 port link) s (fun t => t = s.setLink port link { (s.link port link) with state := .l0, retry := [] })) ∧
  (∀ (port link : Nat) (good : BitVec 16) (s : State),
    s.linkInUse port link = true →
    ((s.link port link).state = .l0 ∨ (s.link port link).state = .recovery) →
    Gives (.cxlLaneFailure port link good) s (fun t => (t.link port link).state = .recovery ∧ (t.link port link).width = bestWidth (s.port port).fullWidth good ∧ (bestWidth (s.port port).fullWidth good < (s.port port).fullWidth → t.flt.reports = s.flt.reports ++ [⟨linkUnit port link, 0x14, Cls.major⟩]) ∧ (bestWidth (s.port port).fullWidth good ≠ 0 → bestWidth (s.port port).fullWidth good < (s.port port).fullWidth → (t.link port link).degraded = true))) ∧
  (∀ (port link : Nat) (s : State),
    s.linkInUse port link = true →
    (s.link port link).state = .recovery →
    Gives (.cxlLinkRecoveryTimeout port link) s (fun t => ∃ u : State, t = u.pump ∧ (u.link port link).state = .down ∧ (u.link port link).req = 0 ∧ (u.link port link).rwd = 0 ∧ (u.link port link).retry = [] ∧ u.flt.reports = s.flt.reports ++ [⟨linkUnit port link, 0x15, Cls.major⟩] ∧ u.mem = s.mem ∧ u.trk.entries = s.trk.entries)) ∧
  (∀ (port link : Nat) (s : State),
    s.linkInUse port link = true →
    (s.link port link).state = .l0 →
    (s.link port link).width < (s.port port).fullWidth →
    Gives (.retrainFull port link true) s (fun t => t = s.setLink port link { (s.link port link) with state := .recovery, width := (s.port port).fullWidth })) ∧
  (∀ (port link : Nat) (s : State),
    s.linkInUse port link = true →
    link < 2 →
    s.mode.mode ≠ .standby →
    (s.link port link).perst = true →
    (s.link port link).state = .down →
    Gives (.perstNRelease port link) s (fun t => t = s.setLink port link { (s.link port link) with perst := false, state := .training })) ∧
  (∀ (port link : Nat) (s : State),
    s.linkInUse port link = true →
    (s.link port link).state = .l0 →
    Gives (.gpfPhase2Request port link) s (fun t => ((t.link port link).gpf.map (fun g => (g.upTo, g.tags))) = some (s.trk.nextArr, (s.trk.waiting.filter (fun w => w.dst.ofLink port link && w.op.writes)).map (fun w => w.dst.ldTag)) ∧ t.trk = s.trk ∧ t.out = s.out)) ∧
  (∀ (port link : Nat) (g : GpfWait) (s : State),
    s.linkInUse port link = true →
    (s.link port link).gpf = some g →
    s.gpfClear port link g = true →
    (s.link port link).state = .l0 →
    Gives (.gpfPhase2Response port link) s (fun t => t.out = .gpf port link :: s.out ∧ (t.link port link).gpf = none ∧ t.ctr (Ctr.CX_CNT_GPF (portPage port) link) = s.ctr (Ctr.CX_CNT_GPF (portPage port) link) + 1)) ∧
  (∀ (port link : Nat) (s : State),
    s.linkInUse port link = true →
    (s.link port link).ide = 1 →
    Gives (.ideIntegrityFail port link) s (fun t => (t.link port link).ide = 2 ∧ (t.link port link).ras.getLsbD 5 = true ∧ t.ctr (Ctr.CX_CNT_IDE_FAIL (portPage port) link) = s.ctr (Ctr.CX_CNT_IDE_FAIL (portPage port) link) + 1)) ∧
  (∀ (port link : Nat) (s : State),
    s.linkInUse port link = true →
    (s.link port link).ide = 0 →
    ((s.linkFuncs port link).any (fun fn => (s.func fn).secured) = true) →
    Gives (.ideKm port link) s (fun t => (t.link port link).ide = 1 ∧ ((s.port port).ideReq = true → (s.link port link).state = .l0 → (t.link port link).req = 256 ∧ (t.link port link).rwd = 256) ∧ t.out = s.out)) ∧
  (∀ (port link : Nat) (retry : Bool) (s : State),
    s.linkInUse port link = true →
    Gives (.crcThreshold port link retry) s (fun t => (t.link port link).ras.getLsbD (if retry then 3 else 2) = true ∧ t.trk = s.trk ∧ t.mode = s.mode))

/-- A reset of a function clears its event-interrupt policy and its session, and but for a function-level reset its decoders; a command past no commit
point is cancelled. FUNCTION_LEVEL_RESET resets the function; PERST_N_ASSERT of an LD-ID Hot Reset Vector resets the LDs it names and leaves the link.
HDM_DECODER_COMMIT gives the decoder the values programmed, committed where they are allowed and with its error bit set where not; a locked committed
decoder stays. A DOE request of a protocol the block has is answered; the secured one opens the session. A write of an LD's span takes effect where
the span is allowed, else it is counted. A write of SYS_POOL in HOLD or RESTORE with the unlock open takes its guarded fields; in another mode it is
counted. Rests on R370, R376, R378, R379, R392, R393, R424. -/
def Obligations.HostFunctions : Prop :=
  (∀ (fn : Nat) (hdm : Bool) (s : State),
    s.cmd.jobs = [] →
    s.cmd.transfer = none →
    s.resetIo fn hdm = s.setFunc fn { s.func fn with policy := [none, none, none, none], secured := false, hdm := if hdm then [{}, {}, {}, {}] else (s.func fn).hdm }) ∧
  (∀ (fn : Nat) (hdm : Bool) (j : Job) (s : State),
    s.cmd.jobs = [j] →
    j.mbx.fn = fn →
    j.done = none →
    j.committed = false →
    (s.resetIo fn hdm).cmd.jobs = []) ∧
  (∀ (fn : Nat) (s : State),
    s.linkInUse (s.linkOf fn).1 (s.linkOf fn).2 = true →
    (s.linkFuncs (s.linkOf fn).1 (s.linkOf fn).2).contains fn = true →
    Gives (.functionLevelReset fn) s (fun t => t = s.resetIo fn false)) ∧
  (∀ (port link : Nat) (s : State),
    s.linkInUse port link = true →
    link < 2 →
    Gives (.perstNAssert port link .perst) s (fun t => ∃ u : State, t = u.pump ∧ (u.link port link).state = .down ∧ (u.link port link).perst = true ∧ (u.link port link).req = 0 ∧ (u.link port link).rwd = 0 ∧ (u.link port link).ide = 0 ∧ u.mem = s.mem ∧ u.mode = s.mode)) ∧
  (∀ (port link : Nat) (c : ResetCause) (s : State),
    s.linkInUse port link = true →
    link < 2 →
    (c = .hot ∨ c = .secondaryBus) →
    s.mode.mode ≠ .standby →
    (s.link port link).perst = false →
    Gives (.perstNAssert port link c) s (fun t => ∃ u : State, t = u.pump ∧ (u.link port link).state = .training ∧ (u.link port link).req = 0 ∧ (u.link port link).rwd = 0 ∧ (u.link port link).ide = 0 ∧ u.mem = s.mem ∧ u.mode = s.mode)) ∧
  (∀ (port link : Nat) (lds : BitVec 16) (s : State),
    s.linkInUse port link = true →
    link < 2 →
    (s.port port).mode = 1 →
    Gives (.perstNAssert port link (.ldVector lds)) s (fun t => t = (List.range 16).foldl (fun (u : State) k => if lds.getLsbD k then u.resetIo (16 * port + k) true else u) (s.setLink port link { s.link port link with perst := (s.link port link).perst || false }))) ∧
  (∀ (fn idx : Nat) (d : HdmProg) (ds : List Hdm) (s : State),
    s.pwr.core = true →
    fn < 32 →
    idx < 4 →
    s.fnUp fn = true →
    (((s.func fn).hdm.getD idx {}).committed = false ∨ ((s.func fn).hdm.getD idx {}).lock = false) →
    ds = (s.func fn).hdm.set idx { base := d.base, size := d.size, skip := d.skip, iw := d.iw, ig := d.ig, pos := d.pos, lock := d.lock } →
    Gives (.hdmDecoderCommit fn idx d) s (fun t => t = s.setFunc fn { s.func fn with hdm := ds.set idx { base := d.base, size := d.size, skip := d.skip, iw := d.iw, ig := d.ig, pos := d.pos, lock := d.lock, committed := s.hdmOk fn ds idx, err := !s.hdmOk fn ds idx } })) ∧
  (∀ (fn idx : Nat) (d : HdmProg) (s : State),
    ((s.func fn).hdm.getD idx {}).committed = true →
    ((s.func fn).hdm.getD idx {}).lock = true →
    Gives (.hdmDecoderCommit fn idx d) s (fun t => t = s)) ∧
  (∀ (fn protocol : Nat) (words : List Word) (s : State),
    s.pwr.core = true →
    s.fnUp fn = true →
    protocol < 4 →
    Gives (.doeRequest fn protocol words) s (fun t => t.out = .doe fn protocol (Config.doeAnswer protocol words) :: s.out ∧ (protocol = 3 → (t.func fn).secured = true) ∧ (protocol ≠ 3 → t.cxl = s.cxl))) ∧
  (∀ (port ld span : Nat) (s : State),
    s.pwr.core = true →
    port < 2 →
    ld < 16 →
    s.spanOk (16 * port + ld) span = true →
    Gives (.cxaLdSpanWrite port ld span) s (fun t => t.ldSpan (16 * port + ld) = span * 268435456 ∧ t.addr = s.addr ∧ t.ctrs = s.ctrs ∧ t.cxl = s.cxl)) ∧
  (∀ (port ld span : Nat) (s : State),
    s.pwr.core = true →
    port < 2 →
    ld < 16 →
    s.spanOk (16 * port + ld) span = false →
    Gives (.cxaLdSpanWrite port ld span) s (fun t => t = s.bump (Ctr.CX_CNT_SPAN_REFUSED (portPage port))))

/-- A write to SYS_POOL through an open unlock in HOLD or RESTORE sets the register's guarded fields to the value and closes the unlock; no other register
changes and nothing is counted. In any other mode the register keeps its value, SYS_CNT_GUARD_REFUSED advances and the unlock closes. Through a closed
unlock the write is ignored and counted in SYS_CNT_GUARD_REFUSED. Rests on R54. -/
def Obligations.PoolIdentity : Prop :=
  (∀ (who : Nat) (value : Word) (s : State),
    s.pwr.core = true →
    who < 5 →
    s.unlocked who = true →
    (s.mode.mode = .hold ∨ s.mode.mode = .restore) →
    Gives (.sysPoolWrite who value) s (fun t => t.reg Reg.SYS_POOL = guardedWord Reg.SYS_POOL (s.reg Reg.SYS_POOL) value ∧ (∀ a, a ≠ Reg.SYS_POOL → t.reg a = s.reg a) ∧ t.unlocked who = false ∧ t.ctrs = s.ctrs)) ∧
  (∀ (who : Nat) (value : Word) (s : State),
    s.pwr.core = true →
    who < 5 →
    s.unlocked who = true →
    s.mode.mode ≠ .hold →
    s.mode.mode ≠ .restore →
    Gives (.sysPoolWrite who value) s (fun t => t = (s.relock who).bump Ctr.SYS_CNT_GUARD_REFUSED)) ∧
  (∀ (who : Nat) (value : Word) (s : State),
    s.pwr.core = true →
    who < 5 →
    s.unlocked who = false →
    Gives (.sysPoolWrite who value) s (fun t => t = s.bump Ctr.SYS_CNT_GUARD_REFUSED))

/-- LOG_FLUSH_DONE counts the flush and moves its records, oldest first, from the buffer to ROLL, where they stand at the write point; the newest of them
is what is flashed. LOG_FLUSH_AGE starts a flush of all that is staged where none runs. OVERFLOW_RECORD tells of the records dropped once there is
room. ROLL_ERASE erases the next used sector among the four ahead of the write point and moves TAIL. Rests on R538, R539, R541, R542. -/
def Obligations.LogbookFlushes : Prop :=
  (∀ (n k off : Nat) (r : LogRec) (rest : List LogRec) (s : State),
    s.log.staged = r :: rest →
    s.rollPlace r.len = some (k, off) →
    State.flushRecs (n + 1) s = State.flushRecs n { s with log := { s.log with staged := rest, roll := s.log.roll ++ [⟨k, off, r⟩], rollAt := (k, off + r.len), flashed := r.seq, tail := if s.log.roll.isEmpty then r.seq else s.log.tail } }) ∧
  (∀ (n : Nat) (u : State) (s : State),
    s.log.flushing = some n →
    s.log.secondFlush = 0 →
    s.log.waiters = [] →
    u = State.flushRecs n { s with log := { s.log with flushing := none } } →
    Gives .logFlushDone s (fun t => t.log.staged = u.log.staged ∧ t.log.roll = u.log.roll ∧ t.log.flashed = u.log.flashed ∧ t.log.tail = u.log.tail ∧ t.log.rollAt = padWord u.log.rollAt ∧ t.ctr Ctr.LOG_CNT_FLUSH = s.ctr Ctr.LOG_CNT_FLUSH + 1 ∧ t.mode = s.mode)) ∧
  (∀ (s : State),
    s.pwr.core = true →
    s.mode.mode ≠ .preserve →
    s.log.flushing = none →
    s.log.staged ≠ [] →
    Gives .logFlushAge s (fun t => t = { s with log := { s.log with flushing := some s.log.staged.length } })) ∧
  (∀ (n t0 t1 : Nat) (s : State),
    s.log.dropped = some (n, t0, t1) →
    s.pwr.core = true →
    s.log.used + logLen 5 ≤ logBuf →
    s.mode.mode ≠ .preserve →
    Gives .overflowRecord s (fun t => t = State.logRec { s with log := { s.log with dropped := none } } LogT.overflow Src.log Cls.minor (w32 n :: (lohi t0 ++ lohi t1)) ∧ t.log.dropped = none ∧ t.log.head = s.log.next)) ∧
  (∀ (k : Nat) (s : State),
    s.pwr.core = true →
    (((List.range 4).map (fun j => (s.log.rollAt.1 + 1 + j) % rollSectors)).find? (fun j => s.log.rollUsed j) = some k) →
    Gives .rollErase s (fun t => t.log.roll = s.log.roll.filter (fun p => p.sector != k) ∧ t.log.tail = (((s.log.roll.filter (fun p => p.sector != k)).head?).map (·.record.seq)).getD s.log.next ∧ t.fls = s.fls.eraseSector (rollSector + k) ∧ t.log.staged = s.log.staged))

/-- A read of a home line that returns delivers its data to the entries that wait; a poison marker is counted and delivered as poison; an uncorrectable
word freezes its channel and starts the refetch of its line. A refetch asks the twin where writes are mirrored, else the own vault image where the
leaf is outside the window. A good copy fills the cache as a dirty line; where no source gives one the waiters receive poison. A merge entry that has
waited is written out: a full one directly, a partial one over the line it merges into. A write that its channel has issued is in DRAM at its
retirement and nowhere else. Rests on R188, R190, R226, R240, R256, R257, R269, R270, R272. -/
def Obligations.HomeReadsAndWrites : Prop :=
  (∀ (inst req : Nat) (errs : List (Nat × BitVec 16)) (s : State),
    ((s.chan inst).rq.find? (fun r => r.id == req && r.issued) = none ∨ (s.chan inst).state ≠ .active) →
    Gives (.homeReadReturn inst req errs) s (fun t => t = s)) ∧
  (∀ (inst req : Nat) (errs : List (Nat × BitVec 16)) (r : ChReq) (e : Entry) (c : Cell) (p k ld tag id : Nat) (u : State) (s : State),
    ((s.chan inst).rq.find? (fun r => r.id == req && r.issued) = some r) →
    (s.chan inst).state = .active →
    r.rd = some (.entry id) →
    (u = ((s.setChan inst { s.chan inst with rq := (s.chan inst).rq.filter (fun q => q.id != req) }).settle inst)) →
    u.entry id = some e →
    e.dst = .cxl p k ld tag false →
    u.cell r.home = some c →
    Gives (.homeReadReturn inst req errs) s (fun t => t = (match u.readCell r.home.hbm (u.markOf r.home) (some c) e.line (u.keySlotOf e.line) (errWord errs) with | (.data d, corr) => (u.noteCorrected r.home e.line r.port corr).deliver e.line d false false | (.poison, corr) => ((u.noteCorrected r.home e.line r.port corr).bump Ctr.EC_CNT_POISON_RD).deliver e.line 0 true false | (.uncorrectable, corr) => (u.noteCorrected r.home e.line r.port corr).uncorrectable r.home e.line r.port).pump)) ∧
  (∀ (s : State) (h : Home) (line port : Nat),
    (s.chan (s.dramOf h).inst).state = .active →
    ((s.noteUncorrectable h line port).chan (s.dramOf h).inst).state = .frozen ∧ ((s.noteUncorrectable h line port).chan (s.dramOf h).inst).capCause = 1 ∧ ((s.noteUncorrectable h line port).chan (s.dramOf h).inst).capAt = some (s.dramOf h, h) ∧ (s.noteUncorrectable h line port).mem = s.mem ∧ (s.noteUncorrectable h line port).trk = s.trk) ∧
  (∀ (s : State) (line : Nat),
    s.tier.refetch.has line = false →
    s.mirrored = false →
    s.refetchStart line = s.setRefetch line (some (if s.windowHas (leafOf line) then 2 else 1))) ∧
  (∀ (s : State) (line : Nat),
    s.tier.refetch.has line = false →
    s.mirrored = true →
    (s.refetchStart line).tier.refetch.find? line = some 0 ∧ (s.refetchStart line).pair.refetches = s.pair.refetches ++ [(s.twl.nextTag, line)] ∧ (s.refetchStart line).mem = s.mem ∧ (s.refetchStart line).ch = s.ch) ∧
  (∀ (line bad : Nat) (d : Line) (s : State),
    s.tier.refetch.find? line = some 1 →
    bad = 0 →
    s.vaultLine line = some (.data d) →
    Gives (.mergedRefetchDone line bad) s (fun t => t = (s.refetchGood line d).pump)) ∧
  (∀ (line bad : Nat) (s : State),
    s.tier.refetch.find? line = some 1 →
    bad ≠ 0 →
    Gives (.mergedRefetchDone line bad) s (fun t => t = if s.mirrored then (s.refetchPoison line).pump else s.setRefetch line (some 2))) ∧
  (∀ (line bad : Nat) (s : State),
    s.tier.refetch.find? line = some 2 →
    Gives (.mergedRefetchDone line bad) s (fun t => t = (s.refetchPoison line).pump)) ∧
  (∀ (s : State) (line : Nat) (d : Line),
    s.trk.entries.cells = [] →
    s.refetchGood line d = ((((((s.setRefetch line none).bump Ctr.TM_CNT_MERGE_REFETCH).arrive 6 line d false true).1).refetchMoves line).spareOutcome line (((((s.setRefetch line none).bump Ctr.TM_CNT_MERGE_REFETCH).arrive 6 line d false true).1.refetchMoves line).cellOf line d false))) ∧
  (∀ (line : Nat) (errs : List (Nat × BitVec 16)) (m : MergeEntry) (s : State),
    s.mergeOf line = some m →
    s.atCursor line = false →
    s.stopped (s.homeOf line) = false →
    m.mask = Mask.full →
    Gives (.mergeEntryTimeout line errs) s (fun t => ∃ u : State, t = u.pump ∧ u.mergeOf line = none ∧ u = ((s.setMerge line none).writeHome 1 0 line (s.homeOf line) (s.cellOf line m.data false)).bump Ctr.EC_CNT_MERGE_FULL)) ∧
  (∀ (line : Nat) (errs : List (Nat × BitVec 16)) (m : MergeEntry) (s : State),
    s.mergeOf line = some m →
    s.atCursor line = false →
    s.stopped (s.homeOf line) = false →
    m.mask ≠ Mask.full →
    s.readsZero line = true →
    s.mergeCount m.inst ≤ 56 →
    Gives (.mergeEntryTimeout line errs) s (fun t => t = ((((s.bump Ctr.EC_CNT_MERGE_TIMEOUT).bump Ctr.EC_CNT_RMW).setMerge line none).writeHome 5 (if s.trk.entries.cells.any (fun c => c.2.state == .merge) then 3 else 0) line (s.homeOf line) (((s.bump Ctr.EC_CNT_MERGE_TIMEOUT).bump Ctr.EC_CNT_RMW).cellOf line (m.overlay (.data 0)) false)).pump)) ∧
  (∀ (line : Nat) (errs : List (Nat × BitVec 16)) (s : State),
    (s.mergeOf line = none ∨ s.atCursor line = true ∨ s.stopped (s.homeOf line) = true) →
    Gives (.mergeEntryTimeout line errs) s (fun t => t = s)) ∧
  (∀ (inst req : Nat) (r : ChReq) (w : Cell) (s : State),
    ((s.chan inst).wq.find? (fun r => r.id == req && r.issued) = some r) →
    (s.chan inst).state = .active →
    r.wr = some w →
    Gives (.writeQueueRetire inst req) s (fun t => ∃ u : State, t = u.pump ∧ u.cell r.home = some w ∧ (∀ h : Home, h.key ≠ r.home.key → u.cell h = s.cell h) ∧ u.trk = s.trk ∧ u.ec = s.ec))

/-- MOVE_START begins the move of an extent whose turn has come: a free place of the other memory is taken and the cursor stands at its first line; it
begins no move where moves are not allowed, where CONC run, or where the extent is fenced or moving, and it raises the restore priority of an extent
not restored. A line that moves is the same at its new home, and 64 bytes are counted. A move that has moved its last line ends with one update of
tier and home, the old place is free and the move is counted. At the end of an ageing period an extent in HBM without a use in it is older by one, at
most 15. Rests on R164, R165, R166, R168, R169, R171, R173, R175. -/
def Obligations.ExtentMoves : Prop :=
  (∀ (x : Nat) (a : MoveAsk) (p : Nat) (rest : List (Nat × Nat)) (s : State),
    s.movesAllowed = true →
    x < s.addr.served.len →
    s.moveOf x = none →
    s.fencedExtent x = false →
    s.tier.moves.length < s.conc →
    (s.vlt.unrestored.cells.any (fun c => c.1 / extentLeaves == x) = false) →
    (s.tier.asks.find? (fun a => a.extent == x && a.toHbm == !(s.placeOf x).1) = some a) →
    a.why = .pin →
    a.toHbm = true →
    s.needsVictim x = false →
    takePlace s.tier.freeHbm = some (p, rest) →
    Gives (.moveStart x) s (fun t => t.moveOf x = some ⟨x, (s.placeOf x).1, (s.placeOf x).2, true, p, 0, false, false⟩ ∧ t.tier.freeHbm = rest ∧ t.tier.freeDdr = s.tier.freeDdr ∧ (∀ y, y ≠ x → t.moveOf y = s.moveOf y) ∧ t.tier.moved = s.tier.moved ∧ t.mem = s.mem)) ∧
  (∀ (x : Nat) (s : State),
    s.movesAllowed = true →
    x < s.addr.served.len →
    s.moveOf x = none →
    s.fencedExtent x = false →
    s.tier.moves.length < s.conc →
    (s.vlt.unrestored.cells.any (fun c => c.1 / extentLeaves == x) = false) →
    (s.tier.asks.find? (fun a => a.extent == x && a.toHbm == !(s.placeOf x).1) = none) →
    x ∉ s.wantedVictims →
    Gives (.moveStart x) s (fun t => t = s)) ∧
  (∀ (x : Nat) (s : State),
    s.movesAllowed = true →
    x < s.addr.served.len →
    s.moveOf x = none →
    s.fencedExtent x = false →
    s.tier.moves.length < s.conc →
    (s.vlt.unrestored.cells.any (fun c => c.1 / extentLeaves == x) = false) →
    (s.tier.asks.find? (fun a => a.extent == x && a.toHbm == !(s.placeOf x).1) = none) →
    x ∈ s.wantedVictims →
    Gives (.moveStart x) s (fun t => t = { s.beginMove x with tier := { (s.beginMove x).tier with scan := x + 1 } })) ∧
  (∀ (x : Nat) (a : MoveAsk) (s : State),
    s.movesAllowed = true →
    x < s.addr.served.len →
    s.moveOf x = none →
    s.fencedExtent x = false →
    s.tier.moves.length < s.conc →
    (s.vlt.unrestored.cells.any (fun c => c.1 / extentLeaves == x) = true) →
    (s.tier.asks.find? (fun a => a.extent == x && a.toHbm == !(s.placeOf x).1) = some a) →
    Gives (.moveStart x) s (fun t => t = s.raiseLeaves x)) ∧
  (∀ (x : Nat) (s : State),
    (s.movesAllowed = false ∨ s.addr.served.len ≤ x ∨ (s.moveOf x).isSome = true ∨ s.fencedExtent x = true ∨ s.conc ≤ s.tier.moves.length) →
    Gives (.moveStart x) s (fun t => t = s)) ∧
  (∀ (s : State) (m : Move) (c : Cell),
    s.mergeOf (m.extent * extentLines + m.cursor) = none →
    s.valid (leafOf (m.extent * extentLines + m.cursor)) = true →
    m.refetch = false →
    s.stopped ⟨m.fromHbm, m.fromHome * extentLines + m.cursor⟩ = false →
    s.stopped ⟨m.toHbm, m.toHome * extentLines + m.cursor⟩ = false →
    s.readPending ⟨m.fromHbm, m.fromHome * extentLines + m.cursor⟩ = false →
    s.homeCell ⟨m.fromHbm, m.fromHome * extentLines + m.cursor⟩ = some c →
    s.recode m.fromHbm m.toHbm c = some c →
    ∃ u : State, s.moveLine m = some u ∧ u.cell (s.remapOf ⟨m.toHbm, m.toHome * extentLines + m.cursor⟩) = some c ∧ (∀ h : Home, h.key ≠ Home.key (s.remapOf ⟨m.toHbm, m.toHome * extentLines + m.cursor⟩) → u.cell h = s.cell h) ∧ u.ctr Ctr.TM_CNT_MOVE_BYTES = s.ctr Ctr.TM_CNT_MOVE_BYTES + 64) ∧
  (∀ (s : State) (m : Move),
    (s.endMove m).placeOf m.extent = (m.toHbm, m.toHome) ∧ (s.endMove m).moveOf m.extent = none ∧ (s.endMove m).ageOf m.extent = (if m.toHbm then 0 else 15) ∧ (∀ y, y ≠ m.extent → (s.endMove m).placeOf y = s.placeOf y ∧ (s.endMove m).moveOf y = s.moveOf y ∧ (s.endMove m).ageOf y = s.ageOf y) ∧ (s.endMove m).ctr (if m.toHbm then Ctr.TM_CNT_PROMOTE else Ctr.TM_CNT_EVICT) = s.ctr (if m.toHbm then Ctr.TM_CNT_PROMOTE else Ctr.TM_CNT_EVICT) + 1 ∧ (s.endMove m).mem = s.mem) ∧
  (∀ (x : Nat) (m : Move) (s : State),
    (s.moveOf x).isSome = true →
    (s.ch.values.any (fun c => c.state == .retired) = false) →
    (s.moveLines extentLines x).moveOf x = some m →
    extentLines ≤ m.cursor →
    Gives (.moveComplete x) s (fun t => t = (((s.moveLines extentLines x).endMove m).pump).attrTry)) ∧
  (∀ (x : Nat) (s : State),
    (s.moveOf x = none ∨ s.ch.values.any (fun c => c.state == .retired) = true) →
    Gives (.moveComplete x) s (fun t => t = s)) ∧
  (∀ (s : State),
    s.serving = true →
    SMap.sortedL s.tier.age.cells = true →
    Gives .ageingPeriodEnd s (fun t => (∀ x, t.ageOf x = if ((s.placeOf x).1 && !s.tier.fresh.has x) = true then min 15 (s.ageOf x + 1) else s.ageOf x) ∧ t.tier.fresh = {} ∧ t.tier.cands = {} ∧ t.tier.moves = s.tier.moves ∧ t.tier.moved = s.tier.moved ∧ t.mem = s.mem))

/-- WRITE_BEHIND_LEAF reads the next leaf and writes its record, which holds each line as found and a poison bit for each line that is poison or lost;
outside PRESERVE a line with an uncorrectable error freezes its channel and is refetched first. A leaf leaves the window only when its page and its
row parity have passed. A failed program retires the block and drops its records. MAP_DELTA_WRITE writes the changes of the leaf map as records of 340
entries. A cycle writes the map as it stood, and its superblock names its SEQ with a GEN one higher. Cleaning erases a segment with no live record. An
erased block is checked, and with its last block a segment is free. Rests on R290, R291, R292, R295, R297, R298, R301, R305, R319, R320. -/
def Obligations.WriteBehind : Prop :=
  (∀ (loc : Nat) (bad : List Nat) (leaf : Nat) (tb : Bool) (s : State),
    s.wbRuns = true →
    s.wbNext = some (leaf, tb) →
    (((List.range leafLines).map (fun k => s.saveLine (leafLines * leaf + k) (bad.contains k))).all (fun r => r != .wait && r != .bad) = true) →
    Gives (.writeBehindLeaf loc bad) s (fun t => t = s.saveLeaf leaf loc tb ((List.range leafLines).map (fun k => s.saveLine (leafLines * leaf + k) (bad.contains k))))) ∧
  (∀ (loc : Nat) (bad : List Nat) (leaf : Nat) (tb : Bool) (k : Nat) (s : State),
    s.wbRuns = true →
    s.wbNext = some (leaf, tb) →
    (((List.range leafLines).map (fun k => s.saveLine (leafLines * leaf + k) (bad.contains k))).contains .wait = false) →
    ((List.range leafLines).find? (fun k => ((List.range leafLines).map (fun k => s.saveLine (leafLines * leaf + k) (bad.contains k))).getD k .wait == .bad) = some k) →
    s.mode.mode ≠ .preserve →
    Gives (.writeBehindLeaf loc bad) s (fun t => t = ((s.freeze (s.instOf (s.homeOf (leafLines * leaf + k))) 1 (some (s.dramOf (s.remapOf (s.homeOf (leafLines * leaf + k))), s.remapOf (s.homeOf (leafLines * leaf + k))))).refetchStart (leafLines * leaf + k)).pump)) ∧
  (∀ (s u : State) (leaf loc : Nat) (tb : Bool) (l : List SaveRes) (g : Region) (i : Nat),
    s.regionOf (leaf / extentLeaves) = some (i, g) →
    s.locFree loc = true →
    s.openSeg loc g.vzone = some u →
    (l.all (fun r => r != .lost && r != .bad) = true) →
    (s.saveLeaf leaf loc tb l).vlt.nand.leaves.find? loc = some (u.makeRecord leaf tb l) ∧ (s.saveLeaf leaf loc tb l).vlt.seq = u.vlt.seq + 1 ∧ (s.saveLeaf leaf loc tb l).vlt.inflight = u.vlt.inflight ++ [⟨leaf, loc, false, false, false⟩] ∧ (s.saveLeaf leaf loc tb l).vlt.window = s.vlt.window ∧ (s.saveLeaf leaf loc tb l).vlt.map = s.vlt.map ∧ (s.saveLeaf leaf loc tb l).mem = s.mem) ∧
  (∀ (s : State) (leaf : Nat) (tb : Bool) (l : List SaveRes) (k : Nat) (d : Line),
    l.length = 64 →
    l[k]? = some (.data d) →
    (s.makeRecord leaf tb l).line k = .data d) ∧
  (∀ (s : State) (leaf : Nat) (tb : Bool) (l : List SaveRes) (k : Nat),
    l.length = 64 →
    (l[k]? = some .poison ∨ l[k]? = some .lost ∨ l[k]? = some .bad) →
    (s.makeRecord leaf tb l).line k = .poison) ∧
  (∀ (s : State) (w : WbLeaf) (r : LeafRec),
    s.vlt.nand.leaves.find? w.loc = some r →
    w.reloc = false →
    (s.leafWritten w).vlt.map.find? w.leaf = some ⟨r.zone, w.loc⟩ ∧ (s.leafWritten w).vlt.pending = s.vlt.pending ++ [(w.leaf, some ⟨r.zone, w.loc⟩)] ∧ (s.leafWritten w).windowHas w.leaf = w.dirtied ∧ (∀ x, x ≠ w.leaf → (s.leafWritten w).windowHas x = s.windowHas x) ∧ (s.leafWritten w).ctr Ctr.VLT_CNT_WB_LEAVES = s.ctr Ctr.VLT_CNT_WB_LEAVES + 1) ∧
  (∀ (page : Nat) (pass : Bool) (s : State),
    s.pwr.core = true →
    pass = true →
    locPos (4 * page) ≠ s.parityPos (locGroup (4 * page)) (locPage (4 * page)) →
    (s.vlt.inflight.any (fun w => locPageId w.loc == page) = true) →
    (∀ w ∈ s.vlt.inflight, s.vlt.nand.parity.contains (locSeg w.loc, locPage w.loc) = false) →
    Gives (.nandProgramDone page pass) s (fun t => ∃ u : State, t = u.pump ∧ u.vlt.window = s.vlt.window ∧ u.vlt.map = s.vlt.map ∧ u.vlt.inflight = s.vlt.inflight.map (fun w => if locPageId w.loc == page then { w with pagePass := true } else w))) ∧
  (∀ (page : Nat) (pass : Bool) (s : State),
    s.pwr.core = true →
    pass = false →
    (s.vlt.inflight.any (fun w => locPageId w.loc == page) = true) →
    Gives (.nandProgramDone page pass) s (fun t => t.ctr Ctr.VLT_CNT_PROG_FAIL = s.ctr Ctr.VLT_CNT_PROG_FAIL + 1 ∧ t.vlt.nand.retired = s.vlt.nand.retired ++ [(locSeg (4 * page), locPos (4 * page))] ∧ t.vlt.inflight = s.vlt.inflight.filter (fun w => locPageId w.loc != page) ∧ (∀ w ∈ s.vlt.inflight, locPageId w.loc = page → t.vlt.nand.leaves.find? w.loc = none) ∧ t.vlt.window = s.vlt.window ∧ t.vlt.map = s.vlt.map)) ∧
  (∀ (s : State),
    s.pwr.core = true →
    s.formatted = true →
    s.vlt.formatting = false →
    (s.mode.mode ≠ .preserve ∨ s.vlt.step < 6) →
    Gives .mapDeltaWrite s (fun t => t.vlt.pending = [] ∧ t.vlt.nand.deltas.map (·.2) = s.vlt.nand.deltas.map (·.2) ++ s.vlt.pending ∧ t.vlt.seq = s.vlt.seq + ceilDiv s.vlt.pending.length 340 ∧ t.vlt.deltaBytes = s.vlt.deltaBytes + 4096 * ceilDiv s.vlt.pending.length 340 ∧ t.vlt.map = s.vlt.map ∧ t.vlt.window = s.vlt.window)) ∧
  (∀ (s : State),
    s.pwr.core = true →
    s.formatted = true →
    s.vlt.formatting = false →
    s.vlt.cycle = none →
    s.mode.mode ≠ .preserve →
    Gives .checkpointCycleStart s (fun t => t.vlt.cycle = some (s.vlt.seq + ceilDiv s.vlt.pending.length 340, s.vlt.map) ∧ t.vlt.pending = [] ∧ t.vlt.deltaBytes = 0 ∧ t.vlt.map = s.vlt.map)) ∧
  (∀ (seq : Nat) (map : SMap LeafLoc) (s : State),
    s.vlt.cycle = some (seq, map) →
    s.mode.mode ≠ .preserve →
    s.vlt.waiters = [] →
    s.vlt.cleaning = none →
    Gives .checkpointCycleDone s (fun t => t.vlt.cycle = none ∧ t.vlt.nand.ckptMap = map ∧ t.vlt.nand.deltas = s.vlt.nand.deltas.filter (fun d => decide (seq ≤ d.1)) ∧ t.vlt.nand.super.map (·.ckptSeq) = some seq ∧ t.vlt.nand.super.map (·.gen) = some (match s.vlt.nand.super with | some p => p.gen + 1 | none => 1) ∧ t.vlt.map = s.vlt.map ∧ t.vlt.nand.tables.regions = s.addr.regions ∧ t.vlt.nand.tables.keys = s.cmd.keys)) ∧
  (∀ (zone : Nat) (dst : List Nat) (k : Nat) (s : State),
    s.pwr.core = true →
    s.fld Reg.VLT_CTL Fld.VLT_CTL_CLEAN_EN = 1 →
    s.mode.mode ≠ .preserve →
    s.vlt.cleaning = none →
    s.vlt.formatting = false →
    s.freePct < s.fldIn Reg.VLT_CLEAN Fld.VLT_CLEAN_START_PCT 1 50 →
    s.cleanPick zone = some k →
    s.liveIn k = [] →
    s.segLive k = false →
    Gives (.cleaningStart zone dst) s (fun t => t.vlt.cleaning = none ∧ t.vlt.erasing.find? k = some ((List.range 16).filter (fun p => !s.vlt.nand.lost.contains (dieOf s.luns (k / 65536) p))) ∧ t.vlt.nand.leaves = s.vlt.nand.leaves.filter (fun l _ => locSeg l != k) ∧ t.vlt.map = s.vlt.map ∧ t.vlt.window = s.vlt.window)) ∧
  (∀ (zone : Nat) (dst : List Nat) (k : Nat) (u : State) (s : State),
    s.pwr.core = true →
    s.fld Reg.VLT_CTL Fld.VLT_CTL_CLEAN_EN = 1 →
    s.mode.mode ≠ .preserve →
    s.vlt.cleaning = none →
    s.vlt.formatting = false →
    s.freePct < s.fldIn Reg.VLT_CLEAN Fld.VLT_CLEAN_START_PCT 1 50 →
    s.cleanPick zone = some k →
    s.relocate (s.liveIn k) dst = some u →
    Gives (.cleaningStart zone dst) s (fun t => t = { u with vlt := { u.vlt with cleaning := some k } }.eraseTry)) ∧
  (∀ (seg pos : Nat) (pass : Bool) (zeros : List Nat) (s : State),
    pass = true →
    (s.vlt.erasing.getD seg []).contains pos = true →
    (zeros.all (fun z => decide (z ≤ 16)) = true) →
    (s.vlt.erasing.getD seg []).filter (· != pos) = [] →
    Gives (.nandEraseDone seg pos pass zeros) s (fun t => t.vlt.nand.free = s.vlt.nand.free ++ [(seg, match s.vlt.nand.segs.find? seg with | some g => g.erases + 1 | none => 1)] ∧ t.vlt.nand.segs.find? seg = none ∧ t.vlt.erasing.find? seg = none ∧ t.vlt.nand.retired = s.vlt.nand.retired ∧ t.ctr Ctr.VLT_CNT_ERASE = s.ctr Ctr.VLT_CNT_ERASE + 1)) ∧
  (∀ (seg pos : Nat) (pass : Bool) (zeros : List Nat) (s : State),
    pass = true →
    (s.vlt.erasing.getD seg []).contains pos = true →
    (zeros.any (fun z => decide (16 < z)) = true) →
    s.vlt.checks.getD (16 * seg + pos) 0 < 2 →
    Gives (.nandEraseDone seg pos pass zeros) s (fun t => t.vlt.checks.getD (16 * seg + pos) 0 = s.vlt.checks.getD (16 * seg + pos) 0 + 1 ∧ t.vlt.erasing = s.vlt.erasing ∧ t.vlt.nand = s.vlt.nand ∧ t.ctr Ctr.VLT_CNT_ERASE_CHK = s.ctr Ctr.VLT_CNT_ERASE_CHK + 1)) ∧
  (∀ (seg pos : Nat) (pass : Bool) (zeros : List Nat) (s : State),
    (s.vlt.erasing.getD seg []).contains pos = true →
    (pass = false ∨ zeros.any (fun z => decide (16 < z)) = true ∧ 2 ≤ s.vlt.checks.getD (16 * seg + pos) 0) →
    Gives (.nandEraseDone seg pos pass zeros) s (fun t => t.vlt.nand.retired = s.vlt.nand.retired ++ [(seg, pos)] ∧ (t.vlt.erasing.getD seg []).contains pos = false))

/-- The SEAL record names the dirty leaves of the window and its twin-backed extents, which become stale. PRESERVE_COMPLETE, once every leaf of the SEAL
is written, writes a PRESERVE_DONE record that names the SEAL, the time, the bank energy and the count; the controller returns to the mode it left
where the supply is good, and else goes to STANDBY. A leaf restore starts in restore order; a leaf that has come back is no longer unrestored and its
waiters go on; its newest good record is put at its homes; a record that names another region or key frees the leaf; a leaf with no good record is
read from a serving twin, else poisoned. VAULT_ERASE_GO executes an armed format through the unlock; VAULT_FORMAT_DONE leaves an empty leaf map, a
superblock of GEN 1 and a new device default key. Rests on R22, R124, R293, R307, R311, R313, R314, R315, R316, R321, R441. -/
def Obligations.SealRestoreAndFormat : Prop :=
  (∀ (s : State),
    s.mode.mode = .preserve →
    (s.vlt.step = 4 ∨ s.vlt.step = 3 ∧ (s.pair.departAcked = true ∨ s.pair.lost = true)) →
    s.quiesced = true →
    s.formatted = true →
    Gives .sealRecordWritten s (fun t => t.vlt.step = 6 ∧ t.vlt.sealSeq = s.vlt.seq ∧ t.vlt.sealLeft = (s.vlt.window.filter (fun w => !w.twinBacked)).map (·.leaf) ∧ t.vlt.nand.sealed = some ⟨s.vlt.seq, (s.vlt.window.filter (fun w => !w.twinBacked)).map (·.leaf), s.twinBacked⟩ ∧ (∀ x ∈ s.twinBacked, (t.extPair x).st = true) ∧ (∀ x, x ∉ s.twinBacked → t.extPair x = s.extPair x) ∧ t.vlt.window = s.vlt.window ∧ t.mode = s.mode)) ∧
  (∀ (joules : Nat) (s : State),
    s.mode.mode = .preserve →
    s.vlt.step = 6 →
    s.vlt.sealLeft = [] →
    (s.pwr.pfailN = false ∨ s.pwr.holdupOk = false ∨ s.mode.railDropped = true ∨ s.mode.offPending = true) →
    Gives (.preserveComplete joules) s (fun t => t.mode.mode = .standby ∧ t.mode.reason = 0x0A ∧ t.mode.count = (s.mode.count + 1) % 65536 ∧ t.mode.preserveDone = true ∧ t.vlt.nand.done.map (fun d => (d.sealSeq, d.ms, d.joules, d.leaves)) = some (s.vlt.sealSeq, (s.now - s.vlt.startNs) / 1000000, joules, s.vlt.sealCount) ∧ t.vlt.pending = [] ∧ t.vlt.nand.tables.regions = s.addr.regions ∧ t.ctr Ctr.VLT_CNT_PRESERVE = s.ctr Ctr.VLT_CNT_PRESERVE + 1)) ∧
  (∀ (joules : Nat) (s : State),
    s.mode.mode = .preserve →
    s.vlt.step = 6 →
    s.vlt.sealLeft = [] →
    s.pwr.pfailN = true →
    s.pwr.holdupOk = true →
    s.mode.railDropped = false →
    s.mode.offPending = false →
    s.pair.departAcked = false →
    s.pair.twinLeft = false →
    Gives (.preserveComplete joules) s (fun t => ∃ u : State, t = (u.takeMarkers.autoTry.pump.netRun).leaveRestore ∧ u.mode.mode = s.returnMode ∧ u.mode.reason = 0x09 ∧ u.mode.count = (s.mode.count + 1) % 65536 ∧ u.vlt.step = 0 ∧ u.pwr.riding = false ∧ u.vlt.nand.done.map (fun d => (d.sealSeq, d.ms, d.joules, d.leaves)) = some (s.vlt.sealSeq, (s.now - s.vlt.startNs) / 1000000, joules, s.vlt.sealCount) ∧ u.mem = s.mem ∧ u.trk = s.trk)) ∧
  (∀ (joules : Nat) (s : State),
    (s.mode.mode ≠ .preserve ∨ s.vlt.step ≠ 6 ∨ s.vlt.sealLeft ≠ []) →
    Gives (.preserveComplete joules) s (fun t => t = s)) ∧
  (∀ (leaf : Nat) (u : Unrestored) (s : State),
    s.vlt.unrestored.find? leaf = some u →
    s.serving = true →
    u.running = false →
    (s.vlt.unrestored.cells.any (fun c => !c.2.running && ((c.2.fromTwin && s.twinGives) == (u.fromTwin && s.twinGives)) && Unrestored.before c (leaf, u)) = false) →
    Gives (.leafRestoreStart leaf) s (fun t => t.vlt.unrestored.find? leaf = some { u with running := true } ∧ ((u.fromTwin && s.twinGives) = true → t.pair.restores = s.pair.restores ++ [(s.twl.nextTag, leaf)]) ∧ ((u.fromTwin && s.twinGives) = false → t.pair.restores = s.pair.restores) ∧ t.mem = s.mem ∧ t.mode = s.mode)) ∧
  (∀ (leaf : Nat) (s : State),
    (s.vlt.unrestored.find? leaf = none ∨ s.serving = false) →
    Gives (.leafRestoreStart leaf) s (fun t => t = s)) ∧
  (∀ (leaf : Nat) (reads : List PageRead) (u : Unrestored) (s : State),
    s.vlt.unrestored.find? leaf = some u →
    u.running = true →
    u.got = true →
    Gives (.leafRestoreDone leaf reads) s (fun t => ∃ v : State, t = ((v.pump).netRun).leaveRestore ∧ v.unrestored leaf = false ∧ v.windowHas leaf = true ∧ (∀ x, x ≠ leaf → v.unrestored x = s.unrestored x ∧ v.windowHas x = s.windowHas x) ∧ v.mem = s.mem)) ∧
  (∀ (leaf : Nat) (reads : List PageRead) (u : Unrestored) (r : LeafRec) (s : State),
    s.vlt.unrestored.find? leaf = some u →
    u.running = true →
    u.got = false →
    u.fromTwin = false →
    leaf ∉ s.vlt.lostLeaves →
    (s.chooseRecord recordTries leaf ((s.vlt.map.find? leaf).map (·.loc)) reads none).2 = some r →
    Gives (.leafRestoreDone leaf reads) s (fun t => t = if (s.chooseRecord recordTries leaf ((s.vlt.map.find? leaf).map (·.loc)) reads none).1.recordFits r then ((s.chooseRecord recordTries leaf ((s.vlt.map.find? leaf).map (·.loc)) reads none).1.putRecord r).leafRestored leaf else State.leafRestored { (s.chooseRecord recordTries leaf ((s.vlt.map.find? leaf).map (·.loc)) reads none).1.logRec LogT.vault Src.vlt Cls.minor [w32 leaf, w32 r.regionId] with vlt := { ((s.chooseRecord recordTries leaf ((s.vlt.map.find? leaf).map (·.loc)) reads none).1.logRec LogT.vault Src.vlt Cls.minor [w32 leaf, w32 r.regionId]).vlt with map := (s.chooseRecord recordTries leaf ((s.vlt.map.find? leaf).map (·.loc)) reads none).1.vlt.map.erase leaf, pending := (s.chooseRecord recordTries leaf ((s.vlt.map.find? leaf).map (·.loc)) reads none).1.vlt.pending ++ [(leaf, none)] }, addr := { (s.chooseRecord recordTries leaf ((s.vlt.map.find? leaf).map (·.loc)) reads none).1.addr with valid := (s.chooseRecord recordTries leaf ((s.vlt.map.find? leaf).map (·.loc)) reads none).1.addr.valid.erase leaf } } leaf)) ∧
  (∀ (leaf : Nat) (reads : List PageRead) (u : Unrestored) (s : State),
    s.vlt.unrestored.find? leaf = some u →
    u.running = true →
    u.got = false →
    u.fromTwin = false →
    leaf ∉ s.vlt.lostLeaves →
    (s.chooseRecord recordTries leaf ((s.vlt.map.find? leaf).map (·.loc)) reads none).2 = none →
    (s.twinReachable && decide (s.pair.twinState = 2)) = false →
    Gives (.leafRestoreDone leaf reads) s (fun t => t = ((s.chooseRecord recordTries leaf ((s.vlt.map.find? leaf).map (·.loc)) reads none).1.poisonLeaf leaf 6).leafRestored leaf)) ∧
  (∀ (leaf : Nat) (reads : List PageRead) (u : Unrestored) (s : State),
    s.vlt.unrestored.find? leaf = some u →
    u.running = true →
    u.got = false →
    u.fromTwin = false →
    leaf ∈ s.vlt.lostLeaves →
    Gives (.leafRestoreDone leaf reads) s (fun t => t = (s.poisonLeaf leaf 6).leafRestored leaf)) ∧
  (∀ (s : State) (r : LeafRec) (k : Nat),
    (s.putRecLine r k).cell (s.remapOf (s.homeOf (leafLines * r.leaf + k))) = some (if r.poison.getLsbD k then .poison else s.cellOf (leafLines * r.leaf + k) (r.lines.getD k 0) false) ∧ (∀ h : Home, h.key ≠ (s.remapOf (s.homeOf (leafLines * r.leaf + k))).key → (s.putRecLine r k).cell h = s.cell h)) ∧
  (∀ (who : Nat) (s : State),
    s.pwr.core = true →
    s.unlocked who = true →
    s.cmd.formatArmed = true →
    s.vlt.formatting = false →
    Gives (.vaultEraseGo who) s (fun t => t.vlt.formatting = true ∧ t.cmd.formatArmed = false ∧ t.formatted = false ∧ t.vlt.nand.leaves = {} ∧ t.vlt.nand.ckptMap = {} ∧ t.vlt.nand.deltas = [] ∧ t.vlt.nand.sealed = none ∧ t.vlt.nand.lost = s.vlt.nand.lost ∧ t.vlt.nand.retired = s.vlt.nand.retired ∧ t.unlocked who = false ∧ t.mem = s.mem)) ∧
  (∀ (who : Nat) (s : State),
    s.pwr.core = true →
    s.unlocked who = false →
    Gives (.vaultEraseGo who) s (fun t => t = s.bump Ctr.SYS_CNT_GUARD_REFUSED)) ∧
  (∀ (who : Nat) (s : State),
    s.pwr.core = true →
    s.unlocked who = true →
    s.cmd.formatArmed = false →
    Gives (.vaultEraseGo who) s (fun t => t = s.relock who)) ∧
  (∀ (failed : List (Nat × Nat)) (s : State),
    s.vlt.formatting = true →
    s.formatted = false →
    s.vlt.waiters = [] →
    Gives (.vaultFormatDone failed) s (fun t => t.vlt.formatting = false ∧ t.formatted = true ∧ t.vlt.nand.super.map (·.gen) = some 1 ∧ t.vlt.map = {} ∧ t.vlt.pending = [] ∧ t.vlt.seq = 1 ∧ t.vlt.nand.segs = {} ∧ t.vlt.nand.retired = s.vlt.nand.retired ++ failed ∧ t.cmd.keys.find? 0 = some ⟨Config.randomKey s.fresh, Config.keyTag (Config.randomKey s.fresh)⟩ ∧ (∀ k, k ≠ 0 → t.cmd.keys.find? k = s.cmd.keys.find? k) ∧ t.mem = s.mem))

/-- A frame at a port that is down changes nothing; one that is not for the responder is counted as discarded; one that is, is counted, drained from its
ingress buffer and judged. A packet of an opcode outside RC, or of no live connection, is discarded; where the mode bars it, it is counted and the
connection awaits its sequence again. A packet with another partition key is counted and nothing else; one ahead of the expected PSN draws one NAK
0x60; one that breaks order or length draws NAK 0x61; one whose address, key, right or region fails draws NAK 0x62 (a misaligned atomic 0x61), with
the connection in ERROR; one whose data is not resident waits, or is discarded with all that waits behind it. The access check passes exactly where
R341 says. An accepted WRITE writes exactly its payload bytes, an accepted READ takes its PSNs and a responder resource, an accepted atomic acts on
its 8-byte word. TRACKER_ENTRY_FREED frees an entry whose completion has gone. A probe of the pair is returned. Rests on R64, R82, R324, R325, R341,
R342, R343, R345, R349, R351, R354, R356. -/
def Obligations.RdmaPackets : Prop :=
  (∀ (i : Instr) (p : RdmaPkt) (s : State),
    (i = .rdmaWritePacket p ∨ i = .rdmaReadRequest p ∨ i = .cmpSwap p ∨ i = .fetchAdd p ∨ i = .rcUnsupportedOpcode p) →
    s.portUp p.eth = false →
    Gives i s (fun t => t = s)) ∧
  (∀ (i : Instr) (p : RdmaPkt) (s : State),
    (i = .rdmaWritePacket p ∨ i = .rdmaReadRequest p ∨ i = .cmpSwap p ∨ i = .fetchAdd p ∨ i = .rcUnsupportedOpcode p) →
    s.portUp p.eth = true →
    s.forResponder p.eth = false →
    Gives i s (fun t => t = s.discard p.eth)) ∧
  (∀ (i : Instr) (p : RdmaPkt) (s : State),
    (i = .rdmaWritePacket p ∨ i = .rdmaReadRequest p ∨ i = .cmpSwap p ∨ i = .fetchAdd p ∨ i = .rcUnsupportedOpcode p) →
    s.portUp p.eth = true →
    s.forResponder p.eth = true →
    s.bufferedPort p.eth.mac p.eth.port + p.eth.bytes ≤ s.portShare p.eth.mac →
    (s.ethPort p.eth.mac p.eth.port).stopped.contains (s.prioOf p.eth) = false →
    s.net.ingress = [] →
    (s.net.conns.cells.all (fun c => c.2.stall.isNone) = true) →
    s.heldBack 2 = false →
    Gives i s (fun t => t = (if (((s.bump (Ctr.E_CNT_RX_PKT (macPage p.eth.mac) p.eth.port)).netIn p).sendXons).lossless.contains (s.prioOf p.eth) then (((s.bump (Ctr.E_CNT_RX_PKT (macPage p.eth.mac) p.eth.port)).netIn p).sendXons).sendXoff p.eth.mac p.eth.port (s.prioOf p.eth) else ((s.bump (Ctr.E_CNT_RX_PKT (macPage p.eth.mac) p.eth.port)).netIn p).sendXons))) ∧
  (∀ (s : State) (p : RdmaPkt),
    (32 ≤ p.bth.opcode ∨ s.barredPkt p = false ∧ s.liveConn p.bth.qpn = none) →
    s.netIn p = s.discard p.eth) ∧
  (∀ (s : State) (p : RdmaPkt) (c : Conn),
    p.bth.opcode < 32 →
    s.barredPkt p = true →
    s.liveConn p.bth.qpn = some c →
    s.netIn p = (s.bump Ctr.NET_CNT_DROP).setConn (p.bth.qpn % 1048576) { c with nakPending := true }) ∧
  (∀ (s : State) (p : RdmaPkt) (c : Conn),
    p.bth.opcode < 32 →
    s.barredPkt p = false →
    s.liveConn p.bth.qpn = some c →
    s.net.cached.has (p.bth.qpn % 1048576) = true →
    c.stall = none →
    (s.net.missbuf.any (fun q => q.1 == (p.bth.qpn % 1048576)) = false) →
    s.netIn p = s.takePkt (p.bth.qpn % 1048576) c p) ∧
  (∀ (s : State) (p : RdmaPkt) (slot : Nat) (c : Conn),
    c.routed = true →
    (p.bth.tver ≠ 0 ∨ p.bth.pkey ≠ c.pkey) →
    (s.takePkt slot c p).ctr Ctr.NET_CNT_PKEY = s.ctr Ctr.NET_CNT_PKEY + 1 ∧ (s.takePkt slot c p).conn slot = some c ∧ (s.takePkt slot c p).out = s.out ∧ (s.takePkt slot c p).trk = s.trk) ∧
  (∀ (s : State) (p : RdmaPkt) (slot : Nat) (c : Conn),
    c.routed = true →
    p.bth.tver = 0 →
    p.bth.pkey = c.pkey →
    p.eth.ecn ≠ 3 →
    c.nakPending = false →
    0 < (p.bth.psn + psnMod - c.epsn) % psnMod →
    (p.bth.psn + psnMod - c.epsn) % psnMod < 8388608 →
    (s.ethPort c.route.mac c.route.port).link = true →
    (s.ethPort c.route.mac c.route.port).pausedRx.has c.route.prio = false →
    (s.takePkt slot c p).out = .frame (c.frame (.nak c.reqQpn 0x60 ((c.epsn + psnMod - 1) % psnMod) c.msn)) :: s.out ∧ (s.takePkt slot c p).conn slot = some { c with nakPending := true } ∧ (s.takePkt slot c p).ctr Ctr.NET_CNT_NAK_SEQ = s.ctr Ctr.NET_CNT_NAK_SEQ + 1 ∧ (s.takePkt slot c p).trk = s.trk ∧ (s.takePkt slot c p).mem = s.mem) ∧
  (∀ (s : State) (p : RdmaPkt) (slot : Nat) (c : Conn) (dup : Bool),
    c.step5 p dup = false →
    s.checkPkt slot c p dup = s.nakError slot c 0x61 p.bth.psn) ∧
  (∀ (s : State) (p : RdmaPkt) (slot : Nat) (c : Conn) (dup : Bool) (syn : Nat),
    c.step5 p dup = true →
    s.access69 c p = some syn →
    s.checkPkt slot c p dup = s.nakError slot c syn p.bth.psn ∧ (s.nakError slot c syn p.bth.psn).conn slot = some { c with error := true, res := [], wr := none, ops := c.ops.map NetOp.abandon } ∧ (s.nakError slot c syn p.bth.psn).trk = s.trk ∧ (s.nakError slot c syn p.bth.psn).mem = s.mem) ∧
  (∀ (s : State) (p : RdmaPkt) (c : Conn) (rkey va len right : Nat),
    c.access p = (rkey, va, len, right) →
    s.access69 c p = none ↔ (len = 0 ∨ s.poolHere va = true ∧ (∃ ks k, s.keyEntries c rkey = some ks ∧ k ∈ ks ∧ k.rights / 2 ^ right % 2 = 1 ∧ k.base ≤ va % 2 ^ 44 ∧ va % 2 ^ 44 + len ≤ k.base + k.len) ∧ (s.oneRegion (va % 2 ^ 44) len).isSome = true ∧ (right = 2 → va % 2 ^ 44 % 8 = 0))) ∧
  (∀ (s : State) (p : RdmaPkt) (slot : Nat) (c : Conn) (dup : Bool),
    c.step5 p dup = true →
    s.access69 c p = none →
    s.nonResident c p = true →
    (match s.oneRegion ((c.access p).2.1 % 2 ^ 44) (c.access p).2.2.1 with | some (_, r) => r.drop | none => false) = false →
    (s.checkPkt slot c p dup).conn slot = some { c with stall := some (p, s.now, some s.net.epoch) } ∧ (s.checkPkt slot c p dup).ctr Ctr.NET_CNT_STALL = s.ctr Ctr.NET_CNT_STALL + 1 ∧ (s.checkPkt slot c p dup).net.counts = s.net.counts.set s.net.epoch (s.net.counts.getD s.net.epoch 0 + 1) ∧ (s.checkPkt slot c p dup).out = s.out) ∧
  (∀ (s : State) (slot : Nat) (c : Conn),
    (s.dropPkts slot c).conn slot = some { c with nakPending := true } ∧ (s.dropPkts slot c).net.missbuf = s.net.missbuf.filter (fun q => q.1 != slot) ∧ (s.dropPkts slot c).ctr Ctr.NET_CNT_DROP = s.ctr Ctr.NET_CNT_DROP + BitVec.ofNat 64 ((s.net.missbuf.filter (fun q => q.1 == slot)).length + 1)) ∧
  (∀ (addr line : Nat) (pl : List Byte) (j : Nat),
    j < 64 →
    ((lineBytes addr pl line).2.getLsbD j = true ↔ addr ≤ 64 * line + j ∧ 64 * line + j < addr + pl.length) ∧ ((lineBytes addr pl line).2.getLsbD j = true → some ((lineBytes addr pl line).1.extractLsb' (8 * j) 8) = pl[64 * line + j - addr]?)) ∧
  (∀ (s : State) (p : RdmaPkt) (slot : Nat) (c : Conn) (ep : Option Nat) (reth : Option Reth) (pl : List Byte) (rkey va len right : Nat),
    p.body = .write reth pl →
    c.access p = (rkey, va, len, right) →
    ∃ (c' : Conn) (v : State), s.acceptPkt slot c p false ep = ((List.range (linesSpan (va % 2 ^ 44) pl.length)).foldl (fun (u : State) k => u.submit ⟨2, va % 2 ^ 44 / 64 + k, .write (lineBytes (va % 2 ^ 44) pl (va % 2 ^ 44 / 64 + k)).1 (lineBytes (va % 2 ^ 44) pl (va % 2 ^ 44 / 64 + k)).2 false, .rdma slot s.net.nextSerial k, false⟩) (v.setConn slot c')).connRun slot ∧ c'.epsn = (c.epsn + 1) % psnMod ∧ c'.wr.isNone = (p.bth.opcode == 8 || p.bth.opcode == 10) ∧ c'.ops.length = c.ops.length + 1 ∧ c'.route = s.routeOf p.eth ∧ v.mem = s.mem ∧ v.trk = s.trk ∧ v.out = s.out) ∧
  (∀ (s : State) (p : RdmaPkt) (slot : Nat) (c : Conn) (ep : Option Nat) (r : Reth),
    p.body = .read r →
    ∃ (c' : Conn) (v : State), s.acceptPkt slot c p false ep = ((v.setConn slot c').connRun slot).pump ∧ c'.epsn = (c.epsn + readPkts c.mtu r.len) % psnMod ∧ c'.res = c.takeRes (.read p.bth.psn r.len r.va) ∧ c'.ops.length = c.ops.length + 1 ∧ c'.route = s.routeOf p.eth ∧ v.mem = s.mem ∧ v.trk = s.trk ∧ v.out = s.out) ∧
  (∀ (s : State) (p : RdmaPkt) (slot : Nat) (c : Conn) (ep : Option Nat) (va k : Nat) (x y : BitVec 64),
    p.body = .cmpSwap va k x y →
    ∃ (c' : Conn) (v : State), s.acceptPkt slot c p false ep = (v.setConn slot c').submit ⟨2, va % 2 ^ 44 / 64, .cmpSwap (va % 2 ^ 44 / 8 % 8) x y, .rdma slot s.net.nextSerial 0, false⟩ ∧ c'.epsn = (c.epsn + 1) % psnMod ∧ c'.res = c.takeRes (.atomic p.bth.psn 0) ∧ c'.ops.length = c.ops.length + 1 ∧ v.mem = s.mem ∧ v.trk = s.trk ∧ v.out = s.out) ∧
  (∀ (s : State) (p : RdmaPkt) (slot : Nat) (c : Conn) (ep : Option Nat) (va k : Nat) (x : BitVec 64),
    p.body = .fetchAdd va k x →
    ∃ (c' : Conn) (v : State), s.acceptPkt slot c p false ep = (v.setConn slot c').submit ⟨2, va % 2 ^ 44 / 64, .fetchAdd (va % 2 ^ 44 / 8 % 8) x, .rdma slot s.net.nextSerial 0, false⟩ ∧ c'.epsn = (c.epsn + 1) % psnMod ∧ c'.res = c.takeRes (.atomic p.bth.psn 0) ∧ c'.ops.length = c.ops.length + 1 ∧ v.mem = s.mem ∧ v.trk = s.trk ∧ v.out = s.out) ∧
  (∀ (id : Nat) (e : Entry) (s : State),
    s.entry id = some e →
    e.sent = true →
    e.owed = false →
    s.trk.waiting = [] →
    (match e.dst with | .command _ => false | _ => true) = true →
    Gives (.trackerEntryFreed id) s (fun t => t = (s.dropEntry id).netRun ∧ (s.dropEntry id).entry id = none ∧ (∀ k, k ≠ id → (s.dropEntry id).entry k = s.entry k))) ∧
  (∀ (id : Nat) (e : Entry) (s : State),
    s.entry id = some e →
    (e.sent = false ∨ e.owed = true) →
    Gives (.trackerEntryFreed id) s (fun t => t = s.netRun)) ∧
  (∀ (e : Eth) (why : RxDrop) (s : State),
    s.portUp e = true →
    Gives (.rxFrameDiscarded e why) s (fun t => t = s.discard e)) ∧
  (∀ (e : Eth) (why : RxDrop) (s : State),
    s.portUp e = false →
    Gives (.rxFrameDiscarded e why) s (fun t => t = s)) ∧
  (∀ (e : Eth) (target : BitVec 128) (s : State),
    s.portUp e = true →
    e.fcsGood = true →
    s.addressHere e.mac e.port target = false →
    Gives (.arpNdFrame e target) s (fun t => t = s.emit (.toFirmware e.mac e.port 0))) ∧
  (∀ (e : Eth) (target : BitVec 128) (s : State),
    s.portUp e = true →
    e.fcsGood = true →
    s.addressHere e.mac e.port target = true →
    (s.ethPort e.mac e.port).pausedRx.has (s.prioOf e) = false →
    Gives (.arpNdFrame e target) s (fun t => (∃ f : NetFrame, t.out = .frame f :: .toFirmware e.mac e.port 0 :: s.out ∧ f.what = .arpReply target ∧ f.mac = e.mac ∧ f.port = e.port ∧ f.dstMac = e.srcMac ∧ f.dstIp = e.srcIp) ∧ t.net = s.net ∧ t.mem = s.mem)) ∧
  (∀ (e : Eth) (pairId ctrlId : Nat) (seq : BitVec 64) (s : State),
    s.pwr.core = true →
    s.mode.mode ≠ .standby →
    (s.ethPort e.mac e.port).link = true →
    ((e.fcsGood && e.dstMacOwn && (s.ethPort e.mac e.port).addrs.any (fun a => a.ip == e.dstIp && !a.twin) && (e.udpDst == (if s.fld Reg.NET_PROBE Fld.NET_PROBE_PORT = 4791 then 4793 else s.fld Reg.NET_PROBE Fld.NET_PROBE_PORT))) = true) →
    pairId = s.pairId →
    (s.ethPort e.mac e.port).pausedRx.has (s.prioOf e) = false →
    Gives (.probePacket e pairId ctrlId seq) s (fun t => (∃ f : NetFrame, t.out = .frame f :: s.out ∧ f.what = .probeReply pairId s.ctrlId seq ∧ f.mac = e.mac ∧ f.port = e.port ∧ f.dstIp = e.srcIp) ∧ t.net = s.net ∧ t.pair = s.pair)) ∧
  (∀ (e : Eth) (pairId ctrlId : Nat) (seq : BitVec 64) (s : State),
    (s.pwr.core = false ∨ s.mode.mode = .standby ∨ (s.ethPort e.mac e.port).link = false) →
    Gives (.probePacket e pairId ctrlId seq) s (fun t => t = s))

/-- A PFC frame pauses each priority it names with quanta and releases each it names with 0; a pause that ends sends the frames that waited. XOFF is sent
again as long as it stands. A receive storm is ignored from then on and reported; a transmit storm stops XOFF for the priority and is reported. A MAC
that has retrained has the committed mode and its ports linked; a link lost is reported. A context fetched is in the cache. A STALL wait that expires
is counted and its packet dropped with those behind it. An acknowledgement that is due goes. A drained revocation frees its key and is counted. Rests
on R323, R328, R329, R330, R339, R340, R352, R354, R358, R359, R396. -/
def Obligations.PauseAndPorts : Prop :=
  (∀ (mac port : Nat) (prios : BitVec 8) (quanta : List Nat) (q : Nat) (s : State),
    (s.ethPort mac port).link = true →
    q < 8 →
    prios.getLsbD q = true →
    quanta.getD q 0 ≠ 0 →
    q ∉ (s.ethPort mac port).ignore →
    Gives (.pfcFrameReceived mac port prios quanta) s (fun t => (t.ethPort mac port).pausedRx.has q = true)) ∧
  (∀ (mac port : Nat) (prios : BitVec 8) (quanta : List Nat) (q : Nat) (s : State),
    (s.ethPort mac port).link = true →
    q < 8 →
    prios.getLsbD q = true →
    quanta.getD q 0 = 0 →
    Gives (.pfcFrameReceived mac port prios quanta) s (fun t => (t.ethPort mac port).pausedRx.has q = false)) ∧
  (∀ (mac port : Nat) (prios : BitVec 8) (quanta : List Nat) (q : Nat) (s : State),
    (8 ≤ q ∨ prios.getLsbD q = false ∨ (s.ethPort mac port).link = false) →
    Gives (.pfcFrameReceived mac port prios quanta) s (fun t => (t.ethPort mac port).pausedRx.has q = (s.ethPort mac port).pausedRx.has q)) ∧
  (∀ (mac port prio : Nat) (s : State),
    (s.ethPort mac port).pausedRx.has prio = true →
    Gives (.pauseQuantaExpired mac port prio) s (fun t => t = s.unpause mac port prio ∧ (t.ethPort mac port).pausedRx.has prio = false)) ∧
  (∀ (s : State) (mac port q : Nat) (f : NetFrame),
    (s.ethPort mac port).egress = [f] →
    f.prio = q →
    f.mac = mac →
    f.port = port →
    (s.ethPort mac port).link = true →
    (s.unpause mac port q).out = .frame f :: s.out ∧ ((s.unpause mac port q).ethPort mac port).egress = [] ∧ ((s.unpause mac port q).ethPort mac port).pausedRx.has q = false) ∧
  (∀ (mac port prio : Nat) (s : State),
    (s.ethPort mac port).pausedTx.has prio = true →
    Gives (.xoffRefresh mac port prio) s (fun t => (∃ f : NetFrame, t.out = .frame f :: s.out ∧ f.mac = mac ∧ f.port = port ∧ f.prio = prio ∧ f.what = .pfc prio true) ∧ t.net = s.net)) ∧
  (∀ (mac port prio : Nat) (s : State),
    (s.ethPort mac port).pausedTx.has prio = false →
    Gives (.xoffRefresh mac port prio) s (fun t => t = s)) ∧
  (∀ (mac port prio : Nat) (s : State),
    (s.ethPort mac port).pausedRx.has prio = true →
    Gives (.rxPauseStorm mac port prio) s (fun t => prio ∈ (t.ethPort mac port).ignore ∧ (t.ethPort mac port).pausedRx.has prio = false ∧ t.fld (Reg.E_PORT_STATUS (macPage mac) port) Fld.E_PORT_STATUS_STORM_RX = 1 ∧ t.flt.reports = s.flt.reports ++ [⟨unitId 0x10 (portKey mac port), 0x16, Cls.major⟩])) ∧
  (∀ (mac port prio : Nat) (s : State),
    Gives (.rxStormIgnoreEnd mac port prio) s (fun t => (t.ethPort mac port) = { (s.ethPort mac port) with ignore := (s.ethPort mac port).ignore.filter (fun q => q != prio) } ∧ t.out = s.out)) ∧
  (∀ (mac port prio : Nat) (s : State),
    (s.ethPort mac port).pausedTx.has prio = true →
    Gives (.txPauseStorm mac port prio) s (fun t => (t.ethPort mac port) = { (s.ethPort mac port) with pausedTx := (s.ethPort mac port).pausedTx.erase prio, stopped := (s.ethPort mac port).stopped ++ [prio] } ∧ t.fld (Reg.E_PORT_STATUS (macPage mac) port) Fld.E_PORT_STATUS_STORM_TX = 1 ∧ t.flt.reports = s.flt.reports ++ [⟨unitId 0x10 (portKey mac port), 0x16, Cls.major⟩] ∧ t.out = s.out)) ∧
  (∀ (mac : Nat) (s : State),
    s.net.retrain.contains mac = true →
    mac < s.net.mode.length →
    Gives (.macModeRetrainDone mac) s (fun t => t.activePorts mac = portsOfMode (s.fld (Reg.E_CFG (macPage mac)) Fld.E_CFG_MODE) ∧ (∀ p ∈ portsOfMode (s.fld (Reg.E_CFG (macPage mac)) Fld.E_CFG_MODE), (t.ethPort mac p).link = true) ∧ mac ∉ t.net.retrain ∧ (∀ k, k ≠ mac → t.activePorts k = s.activePorts k) ∧ t.out = s.out)) ∧
  (∀ (mac port : Nat) (up : Bool) (s : State),
    s.pwr.core = true →
    s.mode.mode ≠ .standby →
    port ∈ s.activePorts mac →
    mac ∉ s.net.retrain →
    (s.ethPort mac port).link ≠ up →
    Gives (.ethernetLinkChange mac port up) s (fun t => (t.ethPort mac port) = { (s.ethPort mac port) with link := up } ∧ t.flt.reports = s.flt.reports ++ (if up then [] else [⟨unitId 0x10 (portKey mac port), 0x16, Cls.major⟩]) ∧ t.out = s.out ∧ t.mode = s.mode)) ∧
  (∀ (slot : Nat) (s : State),
    s.net.fetching.contains slot = true →
    s.net.cached.size < 16 →
    s.net.missbuf = [] →
    Gives (.contextFetchDone slot) s (fun t => t.net.cached = s.net.cached.insert slot s.net.useTick ∧ t.net.fetching = s.net.fetching.filter (fun k => k != slot) ∧ t.net.conns = s.net.conns ∧ t.out = s.out ∧ t.trk = s.trk)) ∧
  (∀ (slot : Nat) (s : State),
    s.net.fetching.contains slot = false →
    Gives (.contextFetchDone slot) s (fun t => t = s)) ∧
  (∀ (slot : Nat) (c : Conn) (p : RdmaPkt) (since : Nat) (ep : Option Nat) (s : State),
    s.conn slot = some c →
    c.stall = some (p, since, ep) →
    (s.barredPkt p = true ∨ s.nonResident c p = true) →
    Gives (.stallExpired slot) s (fun t => t = ((s.epochExit ep).bump Ctr.NET_CNT_STALL_EXPIRED).dropPkts slot { c with stall := none } ∧ t.conn slot = some { c with stall := none, nakPending := true })) ∧
  (∀ (slot : Nat) (s : State),
    (match s.conn slot with | some c => c.stall.isNone | none => true) = true →
    Gives (.stallExpired slot) s (fun t => t = s)) ∧
  (∀ (slot : Nat) (c : Conn) (s : State),
    s.conn slot = some c →
    c.ackCount ≠ 0 →
    c.error = false →
    c.closing = false →
    (s.ethPort c.route.mac c.route.port).link = true →
    (s.ethPort c.route.mac c.route.port).pausedRx.has c.route.prio = false →
    Gives (.ackDelayExpired slot) s (fun t => t.out = .frame (c.frame (.ack c.reqQpn c.donePsn c.msn)) :: s.out ∧ t.conn slot = some { c with ackCount := 0 } ∧ t.trk = s.trk)) ∧
  (∀ (index : Nat) (r : Revocation) (i : Nat) (k : KeyEnt) (s : State),
    (s.net.revs.all (fun r => r.epoch.isSome) = true) →
    s.net.revs[index]? = some r →
    s.drained r = true →
    r.what = .key i →
    s.net.keys.find? i = some k →
    s.cmd.repl = [] →
    Gives (.revocationDrainDone index) s (fun t => ∃ u : State, t = u.netRun ∧ u.net.keys.find? i = some { gen := k.gen } ∧ (∀ j, j ≠ i → u.net.keys.find? j = s.net.keys.find? j) ∧ u.net.revs = s.net.revs.eraseIdx index ∧ u.ctr Ctr.NET_CNT_REVOKE = s.ctr Ctr.NET_CNT_REVOKE + 1 ∧ u.vlt.nand.tables.memKeys = u.net.keys ∧ u.mem = s.mem)) ∧
  (∀ (index : Nat) (r : Revocation) (s : State),
    s.revokeAdvance.net.revs[index]? = some r →
    s.revokeAdvance.drained r = false →
    Gives (.revocationDrainDone index) s (fun t => t = s.revokeAdvance)) ∧
  (∀ (s : State),
    (s.net.revs.any (fun r => r.epoch.isNone) = true) →
    s.net.counts.getD ((s.net.epoch + 1) % 4) 0 = 0 →
    s.revokeAdvance.net.epoch = (s.net.epoch + 1) % 4 ∧ s.revokeAdvance.net.revs.all (fun r => r.epoch.isSome) = true ∧ s.revokeAdvance.net.counts = s.net.counts)

/-- A connection-management frame at a port that is down changes nothing, one not for the responder is discarded, one in HOLD is counted and discarded.
CM_REQ of a service that is listened for, on the reliable transport with an MTU of 1,024, 2,048 or 4,096, takes the lowest free slot: alone the
connection is at once ready to receive and REP answers, with a twin the slot is proposed to it first; any other REQ is answered REJ. CM_RTU marks the
connection ready. CM_MRA changes no connection. CM_REJ, CM_DREQ and ERROR_DREQ end a connection: without operations its slot is free; DREP answers a
DREQ, DREQ goes to the requester of a connection in ERROR. CM_DREP completes a disconnection. Rests on R324, R335, R336, R337, R342, R356. -/
def Obligations.ConnectionManagement : Prop :=
  (∀ (i : Instr) (e : Eth) (r : CmReq) (q : Nat) (s : State),
    (i = .cmReq e r ∨ i = .cmRtu e q ∨ i = .cmMra e q ∨ i = .cmRej e q ∨ i = .cmDreq e q ∨ i = .cmDrep e q) →
    s.portUp e = false →
    Gives i s (fun t => t = s)) ∧
  (∀ (i : Instr) (e : Eth) (r : CmReq) (q : Nat) (s : State),
    (i = .cmReq e r ∨ i = .cmRtu e q ∨ i = .cmMra e q ∨ i = .cmRej e q ∨ i = .cmDreq e q ∨ i = .cmDrep e q) →
    s.portUp e = true →
    s.forResponder e = false →
    Gives i s (fun t => t = s.discard e)) ∧
  (∀ (i : Instr) (e : Eth) (r : CmReq) (q : Nat) (s : State),
    (i = .cmReq e r ∨ i = .cmRtu e q ∨ i = .cmMra e q ∨ i = .cmRej e q ∨ i = .cmDreq e q ∨ i = .cmDrep e q) →
    s.portUp e = true →
    s.forResponder e = true →
    s.mode.mode = .hold →
    Gives i s (fun t => t = s.bump Ctr.NET_CNT_DROP)) ∧
  (∀ (e : Eth) (r : CmReq) (d slot : Nat) (svc : Nat) (s : State),
    s.portUp e = true →
    s.forResponder e = true →
    s.mode.mode ≠ .hold →
    (s.net.listen.find? (fun l => l.1 == r.serviceId) = some (svc, d)) →
    s.newSlot 0 = some slot →
    r.rc = true →
    (r.mtu = 1024 ∨ r.mtu = 2048 ∨ r.mtu = 4096) →
    s.replicates = false →
    (s.ethPort e.mac e.port).pausedRx.has (s.prioOf e) = false →
    Gives (.cmReq e r) s (fun t => ∃ c : Conn, t.conn slot = some c ∧ c.rts = true ∧ c.own = true ∧ c.qpn = s.qpnOf slot ∧ c.reqQpn = r.reqQpn ∧ c.epsn = r.startPsn ∧ c.pkey = r.pkey ∧ c.mtu = r.mtu ∧ c.domain = d ∧ c.respRes = min r.initDepth (s.fldIn Reg.NET_CONN Fld.NET_CONN_RESP_MAX 1 16) ∧ c.ops = [] ∧ t.out = .frame (c.frame (.cmRep c.qpn c.respRes)) :: .toFirmware e.mac e.port 1 :: s.out ∧ (∀ k, k ≠ slot → t.conn k = s.conn k))) ∧
  (∀ (e : Eth) (r : CmReq) (d slot : Nat) (svc : Nat) (s : State),
    s.portUp e = true →
    s.forResponder e = true →
    s.mode.mode ≠ .hold →
    (s.net.listen.find? (fun l => l.1 == r.serviceId) = some (svc, d)) →
    s.newSlot 0 = some slot →
    r.rc = true →
    (r.mtu = 1024 ∨ r.mtu = 2048 ∨ r.mtu = 4096) →
    s.replicates = true →
    Gives (.cmReq e r) s (fun t => ∃ c c' : Conn, t.conn slot = some c ∧ c.rts = false ∧ c.own = true ∧ c.qpn = s.qpnOf slot ∧ c'.qpn = c.qpn ∧ c'.own = false ∧ c'.epsn = r.startPsn ∧ .twMessage ⟨0x0E, 0, [.control (.connSetup slot c')]⟩ ∈ t.out)) ∧
  (∀ (e : Eth) (r : CmReq) (s : State),
    s.portUp e = true →
    s.forResponder e = true →
    s.mode.mode ≠ .hold →
    (s.net.listen.find? (fun l => l.1 == r.serviceId) = none ∨ s.newSlot 0 = none ∨ r.rc = false ∨ r.mtu ≠ 1024 ∧ r.mtu ≠ 2048 ∧ r.mtu ≠ 4096) →
    (s.ethPort e.mac e.port).pausedRx.has (s.prioOf e) = false →
    Gives (.cmReq e r) s (fun t => t.net = s.net ∧ (∃ (f : NetFrame) (reason : Nat), t.out = .frame f :: .toFirmware e.mac e.port 1 :: s.out ∧ f.what = .cmRej reason ∧ f.dstIp = e.srcIp))) ∧
  (∀ (e : Eth) (qpn : Nat) (c : Conn) (s : State),
    s.portUp e = true →
    s.forResponder e = true →
    s.mode.mode ≠ .hold →
    s.liveConn qpn = some c →
    Gives (.cmRtu e qpn) s (fun t => t.conn (qpn % 1048576) = some { c with ready := true } ∧ (∀ k, k ≠ qpn % 1048576 → t.conn k = s.conn k) ∧ t.out = .toFirmware e.mac e.port 1 :: s.out ∧ t.trk = s.trk)) ∧
  (∀ (e : Eth) (qpn : Nat) (s : State),
    s.portUp e = true →
    s.forResponder e = true →
    s.mode.mode ≠ .hold →
    Gives (.cmMra e qpn) s (fun t => t = (s.emit (.toFirmware e.mac e.port 1)))) ∧
  (∀ (e : Eth) (qpn : Nat) (c : Conn) (s : State),
    s.portUp e = true →
    s.forResponder e = true →
    s.mode.mode ≠ .hold →
    s.connOfQpn qpn = some c →
    c.closing = false →
    c.rts = true →
    (c.own && s.replicates) = false →
    c.ops = [] →
    c.stall = none →
    Gives (.cmRej e qpn) s (fun t => t.conn (qpn % 1048576) = none ∧ (∀ k, k ≠ qpn % 1048576 → t.conn k = s.conn k) ∧ t.net.cached.has (qpn % 1048576) = false ∧ t.out = .toFirmware e.mac e.port 1 :: s.out ∧ t.trk = s.trk)) ∧
  (∀ (e : Eth) (qpn : Nat) (c : Conn) (s : State),
    s.portUp e = true →
    s.forResponder e = true →
    s.mode.mode ≠ .hold →
    s.connOfQpn qpn = some c →
    c.closing = false →
    c.rts = true →
    (c.own && s.replicates) = false →
    c.ops = [] →
    c.stall = none →
    (s.ethPort c.route.mac c.route.port).link = true →
    (s.ethPort c.route.mac c.route.port).pausedRx.has c.route.prio = false →
    Gives (.cmDreq e qpn) s (fun t => t.conn (qpn % 1048576) = none ∧ (∀ k, k ≠ qpn % 1048576 → t.conn k = s.conn k) ∧ (∃ c' : Conn, c'.route = c.route ∧ c'.udpSrc = c.udpSrc ∧ t.out = .frame (c'.frame (.cmDrep c.reqQpn)) :: .toFirmware e.mac e.port 1 :: s.out))) ∧
  (∀ (e : Eth) (qpn : Nat) (c : Conn) (s : State),
    s.portUp e = true →
    s.forResponder e = true →
    s.mode.mode ≠ .hold →
    s.connOfQpn qpn = some c →
    c.closing = true →
    c.ops = [] →
    c.twinWait = false →
    Gives (.cmDrep e qpn) s (fun t => t.conn (qpn % 1048576) = none ∧ (∀ k, k ≠ qpn % 1048576 → t.conn k = s.conn k) ∧ t.out = .toFirmware e.mac e.port 1 :: s.out)) ∧
  (∀ (qpn : Nat) (c : Conn) (s : State),
    s.connOfQpn qpn = some c →
    c.closing = false →
    c.rts = true →
    (c.own && s.replicates) = false →
    c.ops = [] →
    c.stall = none →
    c.error = true →
    (s.ethPort c.route.mac c.route.port).link = true →
    (s.ethPort c.route.mac c.route.port).pausedRx.has c.route.prio = false →
    Gives (.errorDreq qpn) s (fun t => t.conn (qpn % 1048576) = none ∧ t.out = .frame (c.frame (.cmDreq c.reqQpn)) :: s.out ∧ (∀ k, k ≠ qpn % 1048576 → t.conn k = s.conn k))) ∧
  (∀ (qpn : Nat) (s : State),
    (match s.connOfQpn qpn with | some c => !c.error || c.closing | none => true) = true →
    Gives (.errorDreq qpn) s (fun t => t = s))

/-- A frame on a path that is not up changes nothing. A header returns credits, at most 8,192 in all, and frees the frames it acknowledges. A DATA frame
in sequence is accepted and takes its place in staging, a copy is counted and its slot freed; one out of sequence draws one NAK. A bad CRC is counted.
A BEAT of the twin clears the misses, and one of another identity is logged once and clears nothing. At the 25th missed interval the path is declared
dead, which is counted and reported. The first expiry of the replay timer resends every frame of the path, the second blocks it and asks for a PATH_UP
exchange. A PATH_UP request is acknowledged, and with both acknowledged the path is up from PSEQ 0. Rests on R134, R136, R137, R143, R146, R149, R150,
R151, R152. -/
def Obligations.TwinLinkFrames : Prop :=
  (∀ (path : Nat) (h : TwHeader) (payload : List (BitVec 8)) (s : State),
    (s.path path).up = false →
    Gives (.dataFrame path h payload) s (fun t => t = s)) ∧
  (∀ (path : Nat) (h : TwHeader) (payload : List (BitVec 8)) (s : State),
    path < 2 →
    (s.path path).up = true →
    h.pseq = ((s.rxHeader path h).path path).rxPseq →
    Gives (.dataFrame path h payload) s (fun t => t = (((s.rxHeader path h).setPath path { (s.rxHeader path h).path path with rxPseq := (((s.rxHeader path h).path path).rxPseq + 1) % 4096, nakSent := false }).bump (Ctr.TWL_CNT_RX path)).placeFrame h payload)) ∧
  (∀ (path : Nat) (h : TwHeader) (payload : List (BitVec 8)) (s : State),
    path < 2 →
    (s.path path).up = true →
    h.pseq ≠ ((s.rxHeader path h).path path).rxPseq →
    ((s.rxHeader path h).path path).nakSent = false →
    Gives (.dataFrame path h payload) s (fun t => (∃ crd, t.out = .twIdle path ((s.rxHeader path h).path path).ackseq true crd :: (s.rxHeader path h).out) ∧ (t.path path).nakSent = true ∧ (t.path path).rxPseq = ((s.rxHeader path h).path path).rxPseq ∧ t.ctr (Ctr.TWL_CNT_NAK path) = (s.rxHeader path h).ctr (Ctr.TWL_CNT_NAK path) + 1 ∧ t.twl.staging = (s.rxHeader path h).twl.staging)) ∧
  (∀ (path : Nat) (h : TwHeader) (payload : List (BitVec 8)) (s : State),
    path < 2 →
    (s.path path).up = true →
    h.pseq ≠ ((s.rxHeader path h).path path).rxPseq →
    ((s.rxHeader path h).path path).nakSent = true →
    Gives (.dataFrame path h payload) s (fun t => t = (s.rxHeader path h))) ∧
  (∀ (s : State) (h : TwHeader) (payload : List Byte),
    (2 ^ 19 ≤ (h.msn + 2 ^ 20 - s.twl.rxMsn) % 2 ^ 20 ∨ (s.twl.staging.getD h.msn {}).frames.has h.off = true ∨ (s.twl.staging.getD h.msn {}).msg.isSome = true) →
    s.placeFrame h payload = (s.bump Ctr.TWL_CNT_DUP).freeSlots 1) ∧
  (∀ (s : State) (h : TwHeader) (payload : List Byte),
    (h.msn + 2 ^ 20 - s.twl.rxMsn) % 2 ^ 20 < 2 ^ 19 →
    (s.twl.staging.getD h.msn {}).frames.has h.off = false →
    (s.twl.staging.getD h.msn {}).msg = none →
    h.last = false →
    (s.twl.staging.getD h.msn {}).count = none →
    ((s.placeFrame h payload).twl.staging.getD h.msn {}).frames.find? h.off = some payload ∧ (∀ k, k ≠ h.msn → (s.placeFrame h payload).twl.staging.find? k = s.twl.staging.find? k) ∧ (s.placeFrame h payload).ctrs = s.ctrs) ∧
  (∀ (s : State) (n : Nat) (h : TwHeader),
    h.nak = false →
    s.twl.pathA.leaves = false →
    s.twl.pathB.leaves = false →
    s.twl.sendq = [] →
    (s.rxHeader n h).twl.credit = min 8192 (s.twl.credit + 8 * h.crd) ∧ (s.rxHeader n h).twl.staging = s.twl.staging ∧ (s.rxHeader n h).out = s.out) ∧
  (∀ (s : State) (n : Nat) (h : TwHeader) (f : TxFrame) (rest : List TxFrame),
    n < 2 →
    h.nak = false →
    (s.path n).replay = f :: rest →
    (h.ackseq + 4097 - f.pseq) % 4096 ≤ rest.length + 1 →
    s.twl.pathA.leaves = false →
    s.twl.pathB.leaves = false →
    s.twl.sendq = [] →
    ((s.rxHeader n h).path n).replay = (f :: rest).drop ((h.ackseq + 4097 - f.pseq) % 4096) ∧ ((s.rxHeader n h).path (1 - n)).replay = (s.path (1 - n)).replay) ∧
  (∀ (path : Nat) (h : TwHeader) (s : State),
    (s.path path).up = true →
    Gives (.idleFrame path h) s (fun t => t = (s.rxHeader path h))) ∧
  (∀ (path : Nat) (h : TwHeader) (s : State),
    (s.path path).up = false →
    Gives (.idleFrame path h) s (fun t => t = s)) ∧
  (∀ (path : Nat) (s : State),
    Gives (.frameBadCrc path) s (fun t => t = if (s.path path).state = .down then s else s.bump (Ctr.TWL_CNT_CRC path))) ∧
  (∀ (path : Nat) (h : TwHeader) (b : TwBeat) (s : State),
    path < 2 →
    (s.path path).up = true →
    b.pairId = s.pairId →
    b.ctrlId = s.ctrlId ^^^ 1 →
    s.pair.twinState = (if s.pair.lost then 7 else b.state % 8) →
    Gives (.beat path h b) s (fun t => t = (s.rxHeader path h).setPath path { (s.rxHeader path h).path path with mismatch := false, missed := 0 })) ∧
  (∀ (path : Nat) (h : TwHeader) (b : TwBeat) (s : State),
    path < 2 →
    (s.path path).up = true →
    b.pairId = s.pairId →
    b.ctrlId = s.ctrlId ^^^ 1 →
    s.pair.twinState ≠ (if s.pair.lost then 7 else b.state % 8) →
    Gives (.beat path h b) s (fun t => ∃ u : State, t = u.pump.netRun ∧ u.pair.twinState = (if s.pair.lost then 7 else b.state % 8) ∧ (u.path path).missed = 0 ∧ (u.path path).mismatch = false ∧ u.mode = s.mode ∧ u.mem = s.mem ∧ u.trk = s.trk)) ∧
  (∀ (path : Nat) (h : TwHeader) (b : TwBeat) (s : State),
    path < 2 →
    (s.path path).up = true →
    (b.pairId ≠ s.pairId ∨ b.ctrlId ≠ s.ctrlId ^^^ 1) →
    Gives (.beat path h b) s (fun t => (t.path path).missed = ((s.rxHeader path h).path path).missed ∧ (t.path path).mismatch = true ∧ t.pair = s.pair ∧ (((s.rxHeader path h).path path).mismatch = true → t = (s.rxHeader path h)))) ∧
  (∀ (s : State),
    s.twl.pathA.up = true →
    s.twl.pathB.up = false →
    s.twl.owedCredit < 8 →
    Gives .beatSend s (fun t => t.out = .twBeat 0 s.twl.pathA.ackseq 0 :: s.out ∧ t.twl = s.twl)) ∧
  (∀ (s : State),
    s.twl.pathA.up = false →
    s.twl.pathB.up = false →
    Gives .beatSend s (fun t => t = s)) ∧
  (∀ (path : Nat) (s : State),
    path < 2 →
    (s.path path).state = .up →
    (s.path path).missed + 1 < 25 →
    Gives (.missedBeatInterval path) s (fun t => (t.path path).missed = (s.path path).missed + 1 ∧ (t.path path).state = .up ∧ t.ctr (Ctr.TWL_CNT_MISS path) = s.ctr (Ctr.TWL_CNT_MISS path) + 1 ∧ t.pair = s.pair)) ∧
  (∀ (path : Nat) (s : State),
    path < 2 →
    (s.path path).state = .up →
    25 ≤ (s.path path).missed + 1 →
    Gives (.missedBeatInterval path) s (fun t => t = ((s.setPath path { (s.path path) with missed := (s.path path).missed + 1 }).bump (Ctr.TWL_CNT_MISS path)).declareDead path)) ∧
  (∀ (path : Nat) (s : State),
    (s.path path).state ≠ .up →
    Gives (.missedBeatInterval path) s (fun t => t = s)) ∧
  (∀ (s : State) (n : Nat),
    n < 2 →
    (s.path n).state ≠ .dead →
    (s.path n).state ≠ .down →
    (s.path (1 - n)).up = true →
    ((s.declareDead n).path n).state = .dead ∧ ((s.declareDead n).path (1 - n)).state = (s.path (1 - n)).state ∧ (s.declareDead n).ctr (Ctr.TWL_CNT_DEAD n) = s.ctr (Ctr.TWL_CNT_DEAD n) + 1 ∧ (s.declareDead n).flt.reports = s.flt.reports ++ [⟨unitId 0x0D n, 0x12, Cls.major⟩] ∧ (s.declareDead n).pair = s.pair ∧ (s.declareDead n).mode = s.mode) ∧
  (∀ (s : State) (n : Nat),
    n < 2 →
    (s.path n).state ≠ .dead →
    (s.path n).state ≠ .down →
    (s.path (1 - n)).up = false →
    s.twl.cut = false →
    ((s.declareDead n).path n).state = .dead ∧ (s.declareDead n).twl.cut = true ∧ (s.declareDead n).pair.lost = true ∧ (s.declareDead n).linkUp = false) ∧
  (∀ (path : Nat) (s : State),
    path < 2 →
    (s.path path).state = .up →
    (s.path path).blocked = false →
    (s.path path).replay ≠ [] →
    (s.path path).expired = false →
    Gives (.replayTimerExpired path) s (fun t => t.out.length = s.out.length + (s.path path).replay.length ∧ (t.path path).expired = true ∧ (t.path path).replay = (s.path path).replay ∧ t.ctr (Ctr.TWL_CNT_REPLAY path) = s.ctr (Ctr.TWL_CNT_REPLAY path) + 1)) ∧
  (∀ (path : Nat) (s : State),
    path < 2 →
    (s.path path).state = .up →
    (s.path path).blocked = false →
    (s.path path).replay ≠ [] →
    (s.path path).expired = true →
    (s.path (1 - path)).takes = false →
    (s.path (1 - path)).leaves = false →
    s.twl.sendq = [] →
    Gives (.replayTimerExpired path) s (fun t => (t.path path).blocked = true ∧ (t.path path).upSent = true ∧ (t.path path).expired = false ∧ t.out = .twPathUp path false s.ownTag :: s.out)) ∧
  (∀ (path : Nat) (s : State),
    (s.path path).state = .training →
    Gives (.pathUpTimeout path) s (fun t => t = s.setPath path { (s.path path) with state := .dead, upSent := false, upAcked := false, upRecv := false })) ∧
  (∀ (path : Nat) (s : State),
    (s.path path).state ≠ .training →
    ((s.path path).blocked = true ∨ (s.path path).state = .retiring ∧ (s.path path).upSent = true) →
    Gives (.pathUpTimeout path) s (fun t => t = s.declareDead path)) ∧
  (∀ (path : Nat) (s : State),
    (s.path path).state = .dead →
    s.heldDead path = false →
    s.twlOn = true →
    Gives (.deadPathRetrain path) s (fun t => (t.path path).state = .training ∧ (t.path path).upSent = true ∧ (t.path path).upAcked = false ∧ (t.path path).upRecv = false ∧ t.out = .twPathUp path false s.ownTag :: s.out)) ∧
  (∀ (path : Nat) (h : TwHeader) (b : TwPathUp) (s : State),
    (s.twlOn = false ∨ (s.path path).state = .down ∨ s.heldDead path = true) →
    Gives (.pathUp path h b) s (fun t => t = s)) ∧
  (∀ (path : Nat) (h : TwHeader) (b : TwPathUp) (s : State),
    path < 2 →
    s.twlOn = true →
    s.heldDead path = false →
    (s.path path).state = .training →
    b.pairId = s.pairId →
    b.ctrlId = s.ctrlId ^^^ 1 →
    b.ack = false →
    (s.path path).upSent = true →
    (s.path path).upAcked = false →
    Gives (.pathUp path h b) s (fun t => (t.path path).state = .training ∧ (t.path path).upRecv = true ∧ t.pair.twinTag = some b.tag ∧ t.out = .twPathUp path true s.ownTag :: s.out)) ∧
  (∀ (path : Nat) (h : TwHeader) (b : TwPathUp) (s : State),
    path < 2 →
    s.twlOn = true →
    s.heldDead path = false →
    (s.path path).state = .training →
    b.pairId = s.pairId →
    b.ctrlId = s.ctrlId ^^^ 1 →
    b.ack = true →
    (s.path path).upSent = true →
    (s.path path).upRecv = true →
    Gives (.pathUp path h b) s (fun t => (t.path path).state = .up ∧ t.twl.cut = false ∧ t.pair.twinTag = some b.tag)) ∧
  (∀ (s : State) (n : Nat),
    s.twl.cut = true →
    ((s.pathIsUp n).path n).state = .up ∧ (s.pathIsUp n).twl.rxMsn = 0 ∧ (s.pathIsUp n).twl.staging = {} ∧ (s.pathIsUp n).pair.lost = false ∧ (s.pathIsUp n).pair.intentCredit = 131072 ∧ (s.pathIsUp n).linkUp = true)

/-- A lane fault is reported. With RETIRE_EN a whole path retires to the half without the lane, after the other path where that retires, unless the lane
has lost lock; without RETIRE_EN, or where lanes are out already, the path is declared dead. A request for retirement is acknowledged; an acknowledge,
or its time passed, lets the frames move. When the lanes to remain lock a PATH_UP exchange follows; otherwise the path dies. RESTORE_LANES returns all
lanes of an up path that passes its test. FORCE_DEAD is a guarded write of its bit and kills the path at once. Rests on R154, R155, R156, R157, R458,
R459. -/
def Obligations.LanesAndForcedDeath : Prop :=
  (∀ (path lane : Nat) (lostLock : Bool) (s : State),
    ((s.path path).up = false ∨ (s.path path).lanesOut.getLsbD lane = true) →
    Gives (.laneFault path lane lostLock) s (fun t => t = s)) ∧
  (∀ (path lane : Nat) (lostLock : Bool) (s : State),
    path < 2 →
    (s.path path).up = true →
    (s.path path).lanesOut.getLsbD lane = false →
    s.fld Reg.TWL_CTL Fld.TWL_CTL_RETIRE_EN = 0 →
    Gives (.laneFault path lane lostLock) s (fun t => t = (s.report (unitId 0x0C (8 * path + lane)) 0x11 Cls.minor).declareDead path)) ∧
  (∀ (path lane : Nat) (lostLock : Bool) (s : State),
    path < 2 →
    (s.path path).up = true →
    s.fld Reg.TWL_CTL Fld.TWL_CTL_RETIRE_EN = 1 →
    (s.path path).target = none →
    (s.path path).retireWait = none →
    (s.path path).lanesOut = 0 →
    ((s.path (1 - path)).state ≠ .retiring ∨ lostLock = true) →
    Gives (.laneFault path lane lostLock) s (fun t => (t.path path).state = .retiring ∧ (t.path path).target = some (if lane < 4 then 0xF0 else 0x0F) ∧ (t.path path).retireAcked = false ∧ t.out = .twRetire path false (if lane < 4 then 0xF0 else 0x0F) :: .twRetire path false (if lane < 4 then 0xF0 else 0x0F) :: s.out ∧ t.flt.reports = s.flt.reports ++ [⟨unitId 0x0C (8 * path + lane), 0x11, Cls.minor⟩] ∧ (t.path (1 - path)) = s.path (1 - path))) ∧
  (∀ (path lane : Nat) (lostLock : Bool) (s : State),
    path < 2 →
    (s.path path).up = true →
    lostLock = false →
    s.fld Reg.TWL_CTL Fld.TWL_CTL_RETIRE_EN = 1 →
    (s.path path).target = none →
    (s.path path).retireWait = none →
    (s.path path).lanesOut = 0 →
    (s.path (1 - path)).state = .retiring →
    Gives (.laneFault path lane lostLock) s (fun t => (t.path path) = { (s.path path) with retireWait := some (if lane < 4 then 0xF0 else 0x0F) } ∧ t.out = s.out)) ∧
  (∀ (path : Nat) (l : BitVec 8) (s : State),
    path < 2 →
    (s.path path).retireWait = some l →
    (s.path path).state = .up →
    Gives (.laneRetireWaitExpired path) s (fun t => (t.path path) = { (s.path path) with state := .retiring, target := some l, retireAcked := false, retireWait := none } ∧ t.out = .twRetire path false l :: .twRetire path false l :: s.out)) ∧
  (∀ (path : Nat) (s : State),
    (s.path path).retireWait = none →
    Gives (.laneRetireWaitExpired path) s (fun t => t = s)) ∧
  (∀ (path : Nat) (h : TwHeader) (which : Nat) (lanes : BitVec 8) (ack : Bool) (s : State),
    path < 2 →
    which < 2 →
    (s.path path).up = true →
    ack = false →
    (s.path which).up = true →
    (s.path (1 - which)).takes = false →
    h.nak = false →
    (s.path path).replay = [] →
    s.twl.pathA.leaves = false →
    s.twl.pathB.leaves = false →
    s.twl.sendq = [] →
    (s.path (1 - which)).replay = [] →
    Gives (.laneRetire path h which lanes ack) s (fun t => (t.path which).state = .retiring ∧ (t.path which).target = some lanes ∧ (t.path which).retireAcked = true ∧ t.out = .twRetire which true lanes :: s.out)) ∧
  (∀ (path : Nat) (h : TwHeader) (which : Nat) (lanes : BitVec 8) (ack : Bool) (s : State),
    path < 2 →
    which < 2 →
    (s.path path).up = true →
    ack = true →
    (s.path which).state = .retiring →
    Gives (.laneRetire path h which lanes ack) s (fun t => (t.path which).retireAcked = true ∧ (t.path which).state = .retiring ∧ (t.path which).target = (s.path which).target)) ∧
  (∀ (path : Nat) (s : State),
    path < 2 →
    (s.path path).state = .retiring →
    (s.path path).retireAcked = false →
    Gives (.laneRetireAckTimeout path) s (fun t => (t.path path).retireAcked = true ∧ (t.path path).state = .retiring)) ∧
  (∀ (path : Nat) (s : State),
    ((s.path path).state ≠ .retiring ∨ (s.path path).retireAcked = true) →
    Gives (.laneRetireAckTimeout path) s (fun t => t = s)) ∧
  (∀ (path : Nat) (locked : Bool) (s : State),
    path < 2 →
    locked = true →
    (s.path path).state = .retiring →
    (s.path path).retireAcked = true →
    (s.path path).upSent = false →
    (s.path path).upAcked = false →
    Gives (.laneRetrainDone path locked) s (fun t => (t.path path) = { (s.path path) with upSent := true, upAcked := false, upRecv := false } ∧ t.out = .twPathUp path false s.ownTag :: s.out)) ∧
  (∀ (path : Nat) (locked : Bool) (s : State),
    locked = false →
    (s.path path).state = .retiring →
    (s.path path).retireAcked = true →
    Gives (.laneRetrainDone path locked) s (fun t => t = s.declareDead path)) ∧
  (∀ (path : Nat) (pass : Bool) (s : State),
    path < 2 →
    pass = true →
    (s.path path).state = .up →
    (s.path path).lanesOut ≠ 0 →
    Gives (.restoreLanes path pass) s (fun t => (t.path path) = { (s.path path) with state := .retiring, target := some 0xFF, retireAcked := false, retireWait := none } ∧ t.out = .twRetire path false 0xFF :: .twRetire path false 0xFF :: s.out)) ∧
  (∀ (path : Nat) (pass : Bool) (s : State),
    (pass = false ∨ (s.path path).state ≠ .up ∨ (s.path path).lanesOut = 0) →
    Gives (.restoreLanes path pass) s (fun t => t = s)) ∧
  (∀ (who path : Nat) (dead : Bool) (s : State),
    path < 2 →
    s.unlocked who = true →
    dead = true →
    (s.path path).state ≠ .down →
    Gives (.forceDead who path dead) s (fun t => (t.path path).state = .dead ∧ t.heldDead path = true ∧ t.unlocked who = false)) ∧
  (∀ (who path : Nat) (dead : Bool) (s : State),
    path < 2 →
    s.unlocked who = true →
    dead = false →
    Gives (.forceDead who path dead) s (fun t => t = (s.relock who).setFld (Reg.TWL_PATH_CTL path) Fld.TWL_PATH_CTL_FORCE_DEAD 0)) ∧
  (∀ (who path : Nat) (dead : Bool) (s : State),
    s.unlocked who = false →
    Gives (.forceDead who path dead) s (fun t => t = s.bump Ctr.SYS_CNT_GUARD_REFUSED))

/-- Messages are applied in the order of their numbers: where the next is not there, nothing changes; an applied message frees its staging slots and is
counted. A forwarded write or a read-assist goes to the tracker where an entry may be granted, and else waits. A mirror is applied line by line in
order-number order, its checkpoints after it, and acknowledged; one that has to wait raises its leaves. A record older than the line changes no line;
a partial record ahead of its turn is kept; one that is applied sets the order number of its line. An intent is held until its data has come; the data
of intents is acknowledged. An acknowledged INTENT_DATA returns one credit a record. INTENT_DATA_SEND hands at most 195 records to the link, oldest
first. A checkpoint updates the shadow of its connection and no own connection. Rests on R71, R72, R101, R103, R108, R143, R147, R190. -/
def Obligations.TwinWrites : Prop :=
  (∀ (i : Instr) (c : ResyncMsg) (d : CtlMsg) (s : State),
    (i = .writeFwd ∨ i = .orderAck ∨ i = .mirror ∨ i = .mirrorAck ∨ i = .intent ∨ i = .intentData ∨ i = .raReq ∨ i = .raResp ∨ i = .checkpoint ∨ i = .handoverMarker ∨ i = .handoverAck ∨ i = .departing ∨ i = .departingAck ∨ i = .resyncCopy ∨ i = .resyncCtl c ∨ i = .control d) →
    s.twl.staging.find? s.twl.rxMsn = none →
    Gives i s (fun t => t = s)) ∧
  (∀ (s : State) (r : RxMsg),
    s.twl.staging.find? s.twl.rxMsn = some r →
    s.msgDone.twl.rxMsn = (s.twl.rxMsn + 1) % 2 ^ 20 ∧ s.msgDone.twl.staging.find? s.twl.rxMsn = none ∧ s.msgDone.twl.owedCredit = s.twl.owedCredit + r.frames.size ∧ s.msgDone.ctr Ctr.TWL_CNT_MSG_APPLIED = s.ctr Ctr.TWL_CNT_MSG_APPLIED + 1 ∧ s.msgDone.pair = s.pair ∧ s.msgDone.mem = s.mem ∧ s.msgDone.trk = s.trk) ∧
  (∀ (m : TwMsg) (r : LineRec) (d : Line) (s : State),
    s.nextMsg 0x01 = some m →
    m.recs = [.line r] →
    r.body = .full d →
    (s.mayGrant 3 && !s.heldBack 3) = true →
    Gives .writeFwd s (fun t => t = s.msgDone.submit ⟨3, r.line, .write d Mask.full false, .fwd m.tag 0, false⟩)) ∧
  (∀ (m : TwMsg) (r : LineRec) (k : Nat) (x y : BitVec 64) (s : State),
    s.nextMsg 0x01 = some m →
    m.recs = [.line r] →
    r.body = .cmpSwap k x y →
    (s.mayGrant 3 && !s.heldBack 3) = true →
    Gives .writeFwd s (fun t => t = s.msgDone.submit ⟨3, r.line, .cmpSwap k x y, .fwd m.tag 0, false⟩)) ∧
  (∀ (i : Instr) (s : State),
    (i = .writeFwd ∨ i = .raReq) →
    (s.mayGrant 3 && !s.heldBack 3) = false →
    Gives i s (fun t => t = s)) ∧
  (∀ (m : TwMsg) (r : LineRec) (s : State),
    s.nextMsg 0x07 = some m →
    m.recs = [.line r] →
    (s.mayGrant 3 && !s.heldBack 3) = true →
    Gives .raReq s (fun t => t = s.msgDone.submit ⟨3, r.line, .read, .assist m.tag 0, false⟩)) ∧
  (∀ (m : TwMsg) (r : LineRec) (c : Nat × Entry) (s : State),
    s.nextMsg 0x02 = some m →
    m.recs = [.line r] →
    (s.trk.entries.cells.find? (fun c => c.2.tag == some m.tag && c.2.line == r.line && c.2.owed && !c.2.sent) = some c) →
    Gives .orderAck s (fun t => t = match s.ordered c.1 c.2 r with | some u => u.msgDone.pump | none => s.raiseRecs m)) ∧
  (∀ (s : State) (id : Nat) (e : Entry) (r : LineRec),
    r.body = .nodata →
    e.forwarded = false →
    e.bounded = false →
    ordLater r.ord (s.ordOf e.line) = true →
    s.ordered id e r = some (s.setEntry id { e with ord := some r.ord })) ∧
  (∀ (s : State) (id : Nat) (e : Entry) (r : LineRec),
    r.body = .nodata →
    e.forwarded = false →
    ordLater r.ord (s.ordOf e.line) = false →
    s.ordered id e r = some ((s.setEntry id { e with ord := some r.ord, applied := true, owed := false }).tryComplete id { e with ord := some r.ord, applied := true, owed := false })) ∧
  (∀ (m : TwMsg) (s : State),
    s.nextMsg 0x03 = some m →
    Gives .mirror s (fun t => t = match s.applyRecs m.lines with | some u => ((u.applyCkpts m).msgDone.hand 0x04 0 [.tag m.tag]).pump | none => s.raiseRecs m)) ∧
  (∀ (s : State) (r : LineRec) (d : Line) (k : Mask) (p : Bool),
    r.body.write? = some (d, k, p) →
    ordLater r.ord (s.ordOf r.line) = false →
    s.trk.entries.cells = [] →
    s.applyRec r = some s) ∧
  (∀ (s : State) (r : LineRec) (d : Line) (k : Mask) (p : Bool),
    r.body.write? = some (d, k, p) →
    ordLater r.ord (s.ordOf r.line) = true →
    s.writable r.line = true →
    k ≠ Mask.full →
    r.ord ≠ s.ordOf r.line + 1 →
    s.applyRec r = some { s with pair := { s.pair with early := s.pair.early ++ [r] } }) ∧
  (∀ (s : State) (r : LineRec) (d : Line) (k : Mask) (p : Bool),
    r.body.write? = some (d, k, p) →
    ordLater r.ord (s.ordOf r.line) = true →
    s.writable r.line = true →
    (k = Mask.full ∨ r.ord = s.ordOf r.line + 1) →
    (s.putLine r.line d k p 7).isSome = true →
    s.trk.entries.cells = [] →
    s.pair.early = [] →
    ∃ u : State, s.applyRec r = some u ∧ u.ordOf r.line = r.ord ∧ (∀ l, l ≠ r.line → u.ordOf l = s.ordOf l)) ∧
  (∀ (m : TwMsg) (n : Nat) (d : Nat × List Nat) (s : State),
    s.nextMsg 0x04 = some m →
    m.recs = [.tag n] →
    (s.pair.dataSent.find? (fun d => d.1 == n) = some d) →
    Gives .mirrorAck s (fun t => ∃ u : State, t = u.afterData ∧ u.pair.intentCredit = min 131072 (s.pair.intentCredit + d.2.length) ∧ u.pair.dataSent = s.pair.dataSent.erase d ∧ u.trk = s.trk ∧ u.mem = s.mem)) ∧
  (∀ (m : TwMsg) (n : Nat) (id : Nat) (e : Entry) (s : State),
    s.nextMsg 0x04 = some m →
    m.recs = [.tag n] →
    s.pair.dataSent = [] →
    s.trk.entries.cells = [(id, e)] →
    e.tag = some n →
    e.owed = true →
    e.bounded = false →
    e.applied = true →
    e.sent = true →
    Gives .mirrorAck s (fun t => ∃ u : State, t = u.afterData ∧ u.entry id = some { e with owed := false } ∧ u.mem = s.mem ∧ u.pair = s.pair)) ∧
  (∀ (m : TwMsg) (s : State),
    s.nextMsg 0x05 = some m →
    m.ckpts = [] →
    Gives .intent s (fun t => t.pair.intents = s.pair.intents ++ m.lines.map (fun r => (r.line, r.ord)) ∧ t.twl.rxMsn = (s.twl.rxMsn + 1) % 2 ^ 20 ∧ t.mem = s.mem ∧ t.lc = s.lc ∧ t.trk = s.trk)) ∧
  (∀ (m : TwMsg) (s : State),
    s.nextMsg 0x06 = some m →
    Gives .intentData s (fun t => t = match s.applyRecs m.lines with | some u => (({ u with pair := { u.pair with intents := u.pair.intents.filter (fun i => !m.lines.any (fun r => r.line == i.1 && r.ord == i.2)) } } : State).msgDone.hand 0x04 0 [.tag m.tag]).afterData | none => s.raiseRecs m)) ∧
  (∀ (s : State),
    Gives .intentDataSend s (fun t => t = if s.pair.owed.isEmpty then s else (s.sendOwed 195).afterData)) ∧
  (∀ (s : State) (n : Nat),
    s.pair.owed.take n ≠ [] →
    (s.sendOwed n).pair.owed = s.pair.owed.drop n ∧ .twMessage ⟨0x06, s.twl.nextTag, (s.pair.owed.take n).map (fun o => TwRec.line o.record)⟩ ∈ (s.sendOwed n).out ∧ (s.sendOwed n).mem = s.mem) ∧
  (∀ (m : TwMsg) (leaf : Nat) (n : Nat) (s : State),
    s.nextMsg 0x08 = some m →
    (s.pair.restores.find? (fun a => a.1 == m.tag) = some (n, leaf)) →
    Gives .raResp s (fun t => t = s.msgDone.restoredLines leaf m.lines)) ∧
  (∀ (s : State) (leaf : Nat) (l : List LineRec) (u : Unrestored),
    s.vlt.unrestored.find? leaf = some u →
    (s.restoredLines leaf l).vlt.unrestored.find? leaf = some { u with got := true } ∧ (s.restoredLines leaf l).pair.restores = s.pair.restores.filter (fun a => a.2 != leaf) ∧ (s.restoredLines leaf l).trk = s.trk) ∧
  (∀ (m : TwMsg) (r : LineRec) (d : Line) (s : State),
    s.nextMsg 0x08 = some m →
    (s.pair.restores.find? (fun a => a.1 == m.tag) = none) →
    (s.pair.refetches.any (fun a => a.1 == m.tag) = false) →
    (s.pair.assists.any (fun a => a.1 == m.tag) = true) →
    m.recs = [.line r] →
    r.body = .full d →
    s.pair.refetches = [] →
    Gives .raResp s (fun t => t = (({ s.msgDone with pair := { s.pair with assists := s.pair.assists.filter (fun a => a.1 != m.tag) } } : State).deliver r.line d false false).pump)) ∧
  (∀ (m : TwMsg) (s : State),
    s.nextMsg 0x09 = some m →
    Gives .checkpoint s (fun t => t = (s.applyCkpts m).msgDone)) ∧
  (∀ (s : State) (k : Ckpt) (c : Conn),
    s.connOfQpn k.qpn = some c →
    c.own = false →
    ∃ c' : Conn, s.applyCkpt k = s.setConn (k.qpn % 1048576) c' ∧ c'.epsn = k.epsn ∧ c'.msn = k.msn ∧ c'.wr = none ∧ c'.nakPending = false ∧ c'.res = k.reads.map (fun r => Res.read r.1 r.2.1 r.2.2) ++ k.atomics.map (fun a => Res.atomic a.1 a.2) ∧ c'.own = false) ∧
  (∀ (s : State) (k : Ckpt),
    (match s.connOfQpn k.qpn with | some c => c.own | none => true) = true →
    s.applyCkpt k = s)

/-- HANDOVER_START hands what has been ordered to the link; the marker of an extent goes when nothing of it is left to send. A marker gives the extent to
its new owner, who acknowledges it, in HOLD only once that ends. The acknowledgement ends the handover, counted, and what waited is forwarded. A
DEPARTING twin is acknowledged, and counts as departed. The acknowledgement of an own departure is noted; where it does not come both paths are forced
dead and the twin is lost. A probe goes from the lowest linked port under a fresh number; a reply shows a partition, on which the bow asks for
power-off; silence releases the kept completions and takes the addresses over. Rests on R98, R111, R112, R113, R114, R115, R116, R117, R127. -/
def Obligations.HandoverDepartureProbe : Prop :=
  (∀ (x : Nat) (s : State),
    (!s.together || s.mode.mode == .hold || s.pair.owned.find? x != some true) = true →
    Gives (.handoverStart x) s (fun t => t = s)) ∧
  (∀ (x : Nat) (s : State),
    (!s.together || s.mode.mode == .hold || s.pair.owned.find? x != some true) = false →
    s.pair.handover.has x = false →
    s.pair.owed = [] →
    Gives (.handoverStart x) s (fun t => t = ({ s with pair := { s.pair with handover := s.pair.handover.insert x 1 } } : State).afterData)) ∧
  (∀ (s : State) (x : Nat),
    s.pair.handover.cells = [(x, 1)] →
    s.orderedAllSent x = true →
    s.sendMarkers.pair.handover.find? x = some 3 ∧ .twMessage ⟨0x0C, 0, [.handover 1 x]⟩ ∈ s.sendMarkers.out) ∧
  (∀ (s : State) (x : Nat),
    s.pair.handover.cells = [(x, 1)] →
    s.orderedAllSent x = false →
    s.sendMarkers = s) ∧
  (∀ (m : TwMsg) (x : Nat) (s : State),
    s.nextMsg 0x0C = some m →
    m.recs = [.handover 1 x] →
    s.mode.mode = .hold →
    Gives .handoverMarker s (fun t => t = { s.msgDone with pair := { s.pair with markers := s.pair.markers ++ [x] } })) ∧
  (∀ (m : TwMsg) (x : Nat) (s : State),
    s.nextMsg 0x0C = some m →
    m.recs = [.handover 1 x] →
    s.mode.mode ≠ .hold →
    Gives .handoverMarker s (fun t => t = (s.msgDone.acceptMarker x).pump.attrTry)) ∧
  (∀ (s : State) (x : Nat),
    (s.acceptMarker x).pair.owned.find? x = none ∧ .twMessage ⟨0x0C, 0, [.handover 2 x]⟩ ∈ (s.acceptMarker x).out ∧ (s.acceptMarker x).mem = s.mem) ∧
  (∀ (m : TwMsg) (x : Nat) (s : State),
    s.nextMsg 0x0C = some m →
    m.recs = [.handover 2 x] →
    Gives .handoverAck s (fun t => ∃ u : State, t = u.pump.attrTry ∧ u.pair.handover.find? x = none ∧ u.pair.owned.find? x = none ∧ u.ctr Ctr.SYS_CNT_HANDOVER = s.ctr Ctr.SYS_CNT_HANDOVER + 1 ∧ u.mem = s.mem ∧ u.trk = s.trk ∧ (u.pair.resyncing = (s.pair.resyncing && !(s.pair.resync.size == 0 && u.pair.owned.size == 0 && u.pair.handover.size == 0))))) ∧
  (∀ (s : State),
    s.nextDepart 1 = true →
    Gives .departing s (fun t => t = s.msgDone.twinDeparts.netRun)) ∧
  (∀ (s : State),
    s.nextDepart 1 = false →
    Gives .departing s (fun t => t = s)) ∧
  (∀ (s : State),
    s.mode.mode = .preserve →
    s.twinDeparts.pair.twinLeft = true ∧ .twMessage ⟨0x0D, 0, [.depart 2]⟩ ∈ s.twinDeparts.out ∧ s.twinDeparts.mode = s.mode) ∧
  (∀ (s : State),
    s.mode.mode = .serve →
    ∃ u : State, s.twinDeparts = u.pump ∧ u.pair.departed = true ∧ u.mode.mode = .solo ∧ u.mode.reason = 0x03 ∧ u.mode.count = (s.mode.count + 1) % 65536) ∧
  (∀ (s : State),
    s.nextDepart 2 = true →
    s.pair.departSent = true →
    Gives .departingAck s (fun t => ∃ u : State, t = u.pump ∧ u.pair = { s.pair with departAcked := true } ∧ u.mode = s.mode ∧ u.mem = s.mem ∧ u.trk = s.trk)) ∧
  (∀ (s : State),
    s.nextDepart 2 = true →
    s.pair.departSent = false →
    Gives .departingAck s (fun t => t = s.msgDone)) ∧
  (∀ (s : State),
    s.mode.mode = .preserve →
    s.pair.departSent = true →
    s.pair.departAcked = false →
    Gives .departingAckTimeout s (fun t => t = ((s.declareDead 0).declareDead 1).loseTwin ∧ t.pair.lost = true ∧ t.linkUp = false)) ∧
  (∀ (s : State),
    (s.mode.mode ≠ .preserve ∨ s.pair.departSent = false ∨ s.pair.departAcked = true) →
    Gives .departingAckTimeout s (fun t => t = s)) ∧
  (∀ (c : Nat × EthPort) (s : State),
    s.pair.probing = true →
    (s.net.ports.cells.find? (fun c => c.2.link) = some c) →
    (s.ethPort (c.1 / 4) (c.1 % 4)).link = true →
    (s.ethPort (c.1 / 4) (c.1 % 4)).pausedRx.has 0 = false →
    Gives .probeSend s (fun t => (∃ f : NetFrame, t.out = .frame f :: s.out ∧ f.what = .probe s.pairId s.ctrlId (BitVec.ofNat 64 s.net.probeSeq) ∧ f.mac = c.1 / 4 ∧ f.port = c.1 % 4 ∧ f.dstIp = s.pair.probeAddr) ∧ t.net.probeSeq = s.net.probeSeq + 1 ∧ t.pair = s.pair)) ∧
  (∀ (s : State),
    s.pair.probing = false →
    Gives .probeSend s (fun t => t = s)) ∧
  (∀ (seq : Nat) (s : State),
    s.pair.probing = true →
    seq < s.net.probeSeq →
    Gives (.probeReply seq) s (fun t => t = (if s.isBow then ({ s with pair := { s.pair with partition := true } } : State).offRequest 0x08 else { s with pair := { s.pair with partition := true } }))) ∧
  (∀ (seq : Nat) (s : State),
    (s.pair.probing = false ∨ s.net.probeSeq ≤ seq) →
    Gives (.probeReply seq) s (fun t => t = s)) ∧
  (∀ (s : State),
    s.pair.probing = true →
    (s.pair.partition && s.isBow) = false →
    Gives .probeSilent s (fun t => t = ((({ s with pair := { s.pair with probing := false } } : State).pump).takeOver).netRun)) ∧
  (∀ (s : State),
    s.pair.takeover = false →
    s.takeOver.pair = { s.pair with takeover := true } ∧ s.takeOver.mode = s.mode ∧ s.takeOver.mem = s.mem)

/-- The pair epochs decide which copy of an extent is kept: the later epoch in 16-bit serial order wins; equal epochs keep the copy that is not stale, and
move nothing where neither is stale or redirected; a tie is the bow's to lose and is recorded. The reunion of a SOLO controller ends in SERVE. The
winning side sends its lines in order, at or after its cursor, and the losing side applies each unless a newer write has been. At its end an extent
has the winning epoch and no mark, and counts. A CONTROL message is applied in order: another protocol version is recorded. PAIR_FORM completes with
the pair record and every allocated extent in resync. Rests on R118, R119, R120, R123, R126, R127, R365, R449. -/
def Obligations.ResyncAndPair : Prop :=
  (∀ (s : State) (own tw : ExtPair),
    0 < ((own.epoch + 65536 - tw.epoch) % 65536) →
    ((own.epoch + 65536 - tw.epoch) % 65536) < 32768 →
    s.winner own tw = (some true, false)) ∧
  (∀ (s : State) (own tw : ExtPair),
    32768 < ((own.epoch + 65536 - tw.epoch) % 65536) →
    s.winner own tw = (some false, false)) ∧
  (∀ (s : State) (own tw : ExtPair),
    ((own.epoch + 65536 - tw.epoch) % 65536) = 0 →
    (own.rd && tw.rd) = false →
    (own.st && tw.st) = false →
    s.winner own tw = (if own.st then (some false, false) else if tw.st then (some true, false) else (none, false))) ∧
  (∀ (s : State) (own tw : ExtPair),
    (((own.epoch + 65536 - tw.epoch) % 65536) = 32768 ∨ ((own.epoch + 65536 - tw.epoch) % 65536) = 0 ∧ ((own.rd && tw.rd) = true ∨ (own.st && tw.st) = true)) →
    s.winner own tw = (some (!s.isBow), true)) ∧
  (∀ (x : Nat) (i : Nat) (d : Line) (s : State),
    s.pair.resync.find? x = some true →
    s.linkUp = true →
    s.nextCopy x = some i →
    s.unrestored (leafOf (x * extentLines + i)) = false →
    s.lineNow (x * extentLines + i) = some (.data d) →
    Gives (.resyncCopySend x) s (fun t => .twMessage ⟨0x0A, s.twl.nextTag, [.line ⟨x * extentLines + i, s.ordOf (x * extentLines + i), s.pair.resyncEpoch.getD x 0, .full d⟩]⟩ ∈ t.out ∧ t.pair.resyncAt.find? x = some (i + 1) ∧ t.pair.resyncLines = s.pair.resyncLines + 1 ∧ t.mem = s.mem ∧ t.pair.resync = s.pair.resync)) ∧
  (∀ (x : Nat) (s : State),
    (s.pair.resync.find? x ≠ some true ∨ s.linkUp = false ∨ s.nextCopy x = none) →
    Gives (.resyncCopySend x) s (fun t => t = s)) ∧
  (∀ (m : TwMsg) (r : LineRec) (s : State),
    s.nextMsg 0x0A = some m →
    m.recs = [.line r] →
    ordLater (s.ordOf r.line) r.ord = true →
    Gives .resyncCopy s (fun t => ∃ u : State, t = u.pump ∧ u.ordOf r.line = s.ordOf r.line ∧ u.mem = s.mem ∧ u.lc = s.lc ∧ u.pair.resyncAt.find? (extentOf r.line) = some (r.line % extentLines + 1) ∧ u.pair.resyncLines = s.pair.resyncLines + 1)) ∧
  (∀ (m : TwMsg) (r : LineRec) (d : Line) (u : State) (s : State),
    s.nextMsg 0x0A = some m →
    m.recs = [.line r] →
    ordLater (s.ordOf r.line) r.ord = false →
    r.body = .full d →
    s.writable r.line = true →
    s.putLine r.line d Mask.full false 7 = some u →
    Gives .resyncCopy s (fun t => t = (({ u.setOrd r.line r.ord with pair := { u.pair with resyncAt := u.pair.resyncAt.insert (extentOf r.line) (r.line % extentLines + 1), resyncLines := u.pair.resyncLines + 1 } } : State).msgDone).pump)) ∧
  (∀ (x : Nat) (s : State),
    s.pair.resync.find? x = some true →
    s.nextCopy x = none →
    s.linkUp = true →
    Gives (.resyncExtentDone x) s (fun t => t = ((((s.hand 0x0B 0 [.resync (.ended [x])]).extentEnds x).resyncFalls.handBack).pump).attrTry)) ∧
  (∀ (x : Nat) (s : State),
    (s.pair.resync.find? x ≠ some true ∨ (s.nextCopy x).isSome = true ∨ s.linkUp = false) →
    Gives (.resyncExtentDone x) s (fun t => t = s)) ∧
  (∀ (s : State) (x : Nat) (w : Bool),
    s.pair.resync.find? x = some w →
    (s.extentEnds x).pair.resync.find? x = none ∧ (s.extentEnds x).extPair x = ⟨s.pair.resyncEpoch.getD x (s.extPair x).epoch, false, false⟩ ∧ (∀ y, y ≠ x → (s.extentEnds x).extPair y = s.extPair y) ∧ (s.extentEnds x).pair.resyncDone = s.pair.resyncDone + 1 ∧ (s.extentEnds x).ctr Ctr.SYS_CNT_RESYNC_EXT = s.ctr Ctr.SYS_CNT_RESYNC_EXT + 1) ∧
  (∀ (c : ResyncMsg) (m : TwMsg) (xs : List Nat) (s : State),
    s.nextMsg 0x0B = some m →
    (s.mode.bringup == .rebuild && !s.vlt.loaded) = false →
    c = .ask xs →
    Gives (.resyncCtl c) s (fun t => t.twl.rxMsn = (s.twl.rxMsn + 1) % 2 ^ 20 ∧ (∀ x ∈ xs, s.pair.resync.find? x = some true → t.pair.resyncAt.find? x = none) ∧ t.pair.resync = s.pair.resync ∧ t.mem = s.mem ∧ t.mode = s.mode)) ∧
  (∀ (c : ResyncMsg) (m : TwMsg) (xs : List Nat) (s : State),
    s.nextMsg 0x0B = some m →
    (s.mode.bringup == .rebuild && !s.vlt.loaded) = false →
    c = .ended xs →
    Gives (.resyncCtl c) s (fun t => t = ((xs.foldl State.extentEnds s.msgDone).resyncFalls.handBack.pump).attrTry)) ∧
  (∀ (c : ResyncMsg) (m : TwMsg) (e : List (Nat × ExtPair)) (b : ExtPair) (v : List Nat) (q : List (Nat × BitVec 32)) (s : State),
    s.nextMsg 0x0B = some m →
    s.mode.bringup ≠ .rebuild →
    c = .epochs e b v q →
    s.twinReachable = true →
    s.mode.mode = .solo →
    Gives (.resyncCtl c) s (fun t => ∃ u : State, t = u.pump.netRun ∧ u.mode.mode = .serve ∧ u.mode.reason = 0x04 ∧ u.mode.count = (s.mode.count + 1) % 65536 ∧ u.trk.entries = s.trk.entries ∧ u.mem = s.mem)) ∧
  (∀ (c : ResyncMsg) (m : TwMsg) (e : List (Nat × ExtPair)) (b : ExtPair) (v : List Nat) (q : List (Nat × BitVec 32)) (s : State),
    s.nextMsg 0x0B = some m →
    s.mode.bringup ≠ .rebuild →
    c = .epochs e b v q →
    s.twinReachable = false →
    Gives (.resyncCtl c) s (fun t => t = s.msgDone)) ∧
  (∀ (c : CtlMsg) (m : TwMsg) (v : Nat) (s : State),
    s.nextMsg 0x0E = some m →
    c = .proto v →
    v / 256 ≠ s.pairProto / 256 →
    Gives (.control c) s (fun t => t.cmd.twinProto = some v ∧ t.mode = s.mode ∧ t.mem = s.mem ∧ t.twl.rxMsn = (s.twl.rxMsn + 1) % 2 ^ 20)) ∧
  (∀ (c : CtlMsg) (m : TwMsg) (s : State),
    s.nextMsg 0x0E = some m →
    c = .handedBack →
    Gives (.control c) s (fun t => t.pair = { s.pair with takeover := false } ∧ t.net.handback = [] ∧ t.net.conns = s.net.conns ∧ t.mode = s.mode)) ∧
  (∀ (c : CtlMsg) (m : TwMsg) (slot : Nat) (n : Conn) (s : State),
    s.nextMsg 0x0E = some m →
    c = .connSetup slot n →
    s.conn slot = none →
    slot < s.net.maxConn →
    Gives (.control c) s (fun t => t.conn slot = some n ∧ .twMessage ⟨0x0E, 0, [.control (.connOk slot)]⟩ ∈ t.out ∧ (∀ k, k ≠ slot → t.conn k = s.conn k))) ∧
  (∀ (f : Forming) (s : State),
    s.pair.forming = some f →
    f.at_ = 6 →
    s.mode.mode = .hold →
    s.linkUp = true →
    f.donor = true →
    Gives .pairFormComplete s (fun t => ∃ u : State, t = (u.leaveHold 0x0B).resyncFalls ∧ u.pair.record = some (s.newRecord f) ∧ u.pair.forming = none ∧ u.pair.lost = false ∧ u.pair.resyncing = true ∧ u.pair.probeAddr = f.probeAddr ∧ (∀ x, u.pair.resync.find? x = if x ∈ s.addr.regions.values.flatMap Region.extents then some true else none) ∧ u.vlt.nand.tables.pair = some (s.newRecord f) ∧ u.mode = s.mode ∧ u.mem = s.mem)) ∧
  (∀ (s : State),
    (s.pair.forming = none ∨ s.mode.mode ≠ .hold ∨ s.linkUp = false) →
    Gives .pairFormComplete s (fun t => t = s))

end
end

