-- ==== Sys2Proof/Laws/State.lean ====
section
/-!
SUPPORT. Laws/State.lean: groups of the state's fields, how each stands under a
record update, under an if and under a fold, and what it means that one state keeps a group of another.
-/
namespace Sys2Proof.Machine

/-- The queue, the always-on copies, the timebase, the sideband buses and the unlocks. -/
def State.quietP (s : State) := (s.pending, s.rsc, s.copies, s.latched, s.tim, s.sb0, s.sb1, s.sb2, s.sb3, s.unlocks)

@[simp] theorem State.quietP_mk (s : State) (out fresh regs ctrs mode pwr log sht addr trk twl pair tier lc ch ec mem vlt net cxl flt cmd fls) :
    State.quietP ⟨s.pending, out, fresh, regs, s.rsc, s.copies, ctrs, s.latched, mode, s.tim, pwr, s.sb0, s.sb1, s.sb2, s.sb3, log, sht, s.unlocks, addr, trk, twl, pair, tier, lc, ch, ec, mem, vlt, net, cxl, flt, cmd, fls⟩ = s.quietP := by simp only [State.quietP]

@[simp] theorem foldl_quietP {β : Type} (f : State → β → State) (h : ∀ s a, (f s a).quietP = s.quietP) (l : List β) (s : State) :
    (l.foldl f s).quietP = s.quietP := by
  induction l generalizing s with
  | nil => rfl
  | cons a l ih => simp [ih, h]

@[simp] theorem ite_quietP (c : Prop) [Decidable c] (a b : State) :
    (if c then a else b).quietP = if c then a.quietP else b.quietP := by split <;> rfl

/-- Home lines, config flash, SHUTTER, and the count of free values. -/
def State.storeP (s : State) := (s.fresh, s.mem, s.fls, s.sht)

@[simp] theorem State.storeP_mk (s : State) (pending out regs rsc copies ctrs latched mode tim pwr sb0 sb1 sb2 sb3 log unlocks addr trk twl pair tier lc ch ec vlt net cxl flt cmd) :
    State.storeP ⟨pending, out, s.fresh, regs, rsc, copies, ctrs, latched, mode, tim, pwr, sb0, sb1, sb2, sb3, log, s.sht, unlocks, addr, trk, twl, pair, tier, lc, ch, ec, s.mem, vlt, net, cxl, flt, cmd, s.fls⟩ = s.storeP := by simp only [State.storeP]

@[simp] theorem foldl_storeP {β : Type} (f : State → β → State) (h : ∀ s a, (f s a).storeP = s.storeP) (l : List β) (s : State) :
    (l.foldl f s).storeP = s.storeP := by
  induction l generalizing s with
  | nil => rfl
  | cons a l ih => simp [ih, h]

@[simp] theorem ite_storeP (c : Prop) [Decidable c] (a b : State) :
    (if c then a else b).storeP = if c then a.storeP else b.storeP := by split <;> rfl

/-- The mode controller, the power supervisor, the fault manager, the control complex. -/
def State.ctlP (s : State) := (s.mode, s.pwr, s.flt, s.cmd)

@[simp] theorem State.ctlP_mk (s : State) (pending out fresh regs rsc copies ctrs latched tim sb0 sb1 sb2 sb3 log sht unlocks addr trk twl pair tier lc ch ec mem vlt net cxl fls) :
    State.ctlP ⟨pending, out, fresh, regs, rsc, copies, ctrs, latched, s.mode, tim, s.pwr, sb0, sb1, sb2, sb3, log, sht, unlocks, addr, trk, twl, pair, tier, lc, ch, ec, mem, vlt, net, cxl, s.flt, s.cmd, fls⟩ = s.ctlP := by simp only [State.ctlP]

@[simp] theorem foldl_ctlP {β : Type} (f : State → β → State) (h : ∀ s a, (f s a).ctlP = s.ctlP) (l : List β) (s : State) :
    (l.foldl f s).ctlP = s.ctlP := by
  induction l generalizing s with
  | nil => rfl
  | cons a l ih => simp [ih, h]

@[simp] theorem ite_ctlP (c : Prop) [Decidable c] (a b : State) :
    (if c then a else b).ctlP = if c then a.ctlP else b.ctlP := by split <;> rfl

/-- The address map, the tracker, the tiers, the line cache, the channels, the code engines. -/
def State.pathP (s : State) := (s.addr, s.trk, s.tier, s.lc, s.ch, s.ec)

@[simp] theorem State.pathP_mk (s : State) (pending out fresh regs rsc copies ctrs latched mode tim pwr sb0 sb1 sb2 sb3 log sht unlocks twl pair mem vlt net cxl flt cmd fls) :
    State.pathP ⟨pending, out, fresh, regs, rsc, copies, ctrs, latched, mode, tim, pwr, sb0, sb1, sb2, sb3, log, sht, unlocks, s.addr, s.trk, twl, pair, s.tier, s.lc, s.ch, s.ec, mem, vlt, net, cxl, flt, cmd, fls⟩ = s.pathP := by simp only [State.pathP]

@[simp] theorem foldl_pathP {β : Type} (f : State → β → State) (h : ∀ s a, (f s a).pathP = s.pathP) (l : List β) (s : State) :
    (l.foldl f s).pathP = s.pathP := by
  induction l generalizing s with
  | nil => rfl
  | cons a l ih => simp [ih, h]

@[simp] theorem ite_pathP (c : Prop) [Decidable c] (a b : State) :
    (if c then a else b).pathP = if c then a.pathP else b.pathP := by split <;> rfl

/-- The twin link, the pair, the CXL ports, the network engine, the vault. -/
def State.linksP (s : State) := (s.twl, s.pair, s.cxl, s.net, s.vlt)

@[simp] theorem State.linksP_mk (s : State) (pending out fresh regs rsc copies ctrs latched mode tim pwr sb0 sb1 sb2 sb3 log sht unlocks addr trk tier lc ch ec mem flt cmd fls) :
    State.linksP ⟨pending, out, fresh, regs, rsc, copies, ctrs, latched, mode, tim, pwr, sb0, sb1, sb2, sb3, log, sht, unlocks, addr, trk, s.twl, s.pair, tier, lc, ch, ec, mem, s.vlt, s.net, s.cxl, flt, cmd, fls⟩ = s.linksP := by simp only [State.linksP]

@[simp] theorem foldl_linksP {β : Type} (f : State → β → State) (h : ∀ s a, (f s a).linksP = s.linksP) (l : List β) (s : State) :
    (l.foldl f s).linksP = s.linksP := by
  induction l generalizing s with
  | nil => rfl
  | cons a l ih => simp [ih, h]

@[simp] theorem ite_linksP (c : Prop) [Decidable c] (a b : State) :
    (if c then a else b).linksP = if c then a.linksP else b.linksP := by split <;> rfl

/-- `t` keeps them. -/
abbrev Same.quiet (s t : State) : Prop := t.quietP = s.quietP ∧ t.pending = s.pending ∧ t.rsc = s.rsc ∧ t.copies = s.copies ∧ t.latched = s.latched ∧ t.tim = s.tim ∧ t.sb0 = s.sb0 ∧ t.sb1 = s.sb1 ∧ t.sb2 = s.sb2 ∧ t.sb3 = s.sb3 ∧ t.unlocks = s.unlocks

theorem Same.quiet_of {s t : State} (h : t.quietP = s.quietP) : Same.quiet s t := by
  refine ⟨h, ?_⟩
  simp only [State.quietP, Prod.mk.injEq] at h
  exact h

/-- `t` keeps them. -/
abbrev Same.store (s t : State) : Prop := t.storeP = s.storeP ∧ t.fresh = s.fresh ∧ t.mem = s.mem ∧ t.fls = s.fls ∧ t.sht = s.sht

theorem Same.store_of {s t : State} (h : t.storeP = s.storeP) : Same.store s t := by
  refine ⟨h, ?_⟩
  simp only [State.storeP, Prod.mk.injEq] at h
  exact h

/-- `t` keeps them. -/
abbrev Same.ctl (s t : State) : Prop := t.ctlP = s.ctlP ∧ t.mode = s.mode ∧ t.pwr = s.pwr ∧ t.flt = s.flt ∧ t.cmd = s.cmd

theorem Same.ctl_of {s t : State} (h : t.ctlP = s.ctlP) : Same.ctl s t := by
  refine ⟨h, ?_⟩
  simp only [State.ctlP, Prod.mk.injEq] at h
  exact h

/-- `t` keeps them. -/
abbrev Same.path (s t : State) : Prop := t.pathP = s.pathP ∧ t.addr = s.addr ∧ t.trk = s.trk ∧ t.tier = s.tier ∧ t.lc = s.lc ∧ t.ch = s.ch ∧ t.ec = s.ec

theorem Same.path_of {s t : State} (h : t.pathP = s.pathP) : Same.path s t := by
  refine ⟨h, ?_⟩
  simp only [State.pathP, Prod.mk.injEq] at h
  exact h

/-- `t` keeps them. -/
abbrev Same.links (s t : State) : Prop := t.linksP = s.linksP ∧ t.twl = s.twl ∧ t.pair = s.pair ∧ t.cxl = s.cxl ∧ t.net = s.net ∧ t.vlt = s.vlt

theorem Same.links_of {s t : State} (h : t.linksP = s.linksP) : Same.links s t := by
  refine ⟨h, ?_⟩
  simp only [State.linksP, Prod.mk.injEq] at h
  exact h

@[simp] theorem foldl_pending {β : Type} (f : State → β → State) (h : ∀ s a, (f s a).pending = s.pending) (l : List β) (s : State) :
    (l.foldl f s).pending = s.pending := by
  induction l generalizing s with
  | nil => rfl
  | cons a l ih => simp [ih, h]

@[simp] theorem ite_pending (c : Prop) [Decidable c] (a b : State) :
    (if c then a else b).pending = if c then a.pending else b.pending := by split <;> rfl

@[simp] theorem foldl_out {β : Type} (f : State → β → State) (h : ∀ s a, (f s a).out = s.out) (l : List β) (s : State) :
    (l.foldl f s).out = s.out := by
  induction l generalizing s with
  | nil => rfl
  | cons a l ih => simp [ih, h]

@[simp] theorem ite_out (c : Prop) [Decidable c] (a b : State) :
    (if c then a else b).out = if c then a.out else b.out := by split <;> rfl

@[simp] theorem foldl_fresh {β : Type} (f : State → β → State) (h : ∀ s a, (f s a).fresh = s.fresh) (l : List β) (s : State) :
    (l.foldl f s).fresh = s.fresh := by
  induction l generalizing s with
  | nil => rfl
  | cons a l ih => simp [ih, h]

@[simp] theorem ite_fresh (c : Prop) [Decidable c] (a b : State) :
    (if c then a else b).fresh = if c then a.fresh else b.fresh := by split <;> rfl

@[simp] theorem foldl_regs {β : Type} (f : State → β → State) (h : ∀ s a, (f s a).regs = s.regs) (l : List β) (s : State) :
    (l.foldl f s).regs = s.regs := by
  induction l generalizing s with
  | nil => rfl
  | cons a l ih => simp [ih, h]

@[simp] theorem ite_regs (c : Prop) [Decidable c] (a b : State) :
    (if c then a else b).regs = if c then a.regs else b.regs := by split <;> rfl

@[simp] theorem foldl_rsc {β : Type} (f : State → β → State) (h : ∀ s a, (f s a).rsc = s.rsc) (l : List β) (s : State) :
    (l.foldl f s).rsc = s.rsc := by
  induction l generalizing s with
  | nil => rfl
  | cons a l ih => simp [ih, h]

@[simp] theorem ite_rsc (c : Prop) [Decidable c] (a b : State) :
    (if c then a else b).rsc = if c then a.rsc else b.rsc := by split <;> rfl

@[simp] theorem foldl_copies {β : Type} (f : State → β → State) (h : ∀ s a, (f s a).copies = s.copies) (l : List β) (s : State) :
    (l.foldl f s).copies = s.copies := by
  induction l generalizing s with
  | nil => rfl
  | cons a l ih => simp [ih, h]

@[simp] theorem ite_copies (c : Prop) [Decidable c] (a b : State) :
    (if c then a else b).copies = if c then a.copies else b.copies := by split <;> rfl

@[simp] theorem foldl_ctrs {β : Type} (f : State → β → State) (h : ∀ s a, (f s a).ctrs = s.ctrs) (l : List β) (s : State) :
    (l.foldl f s).ctrs = s.ctrs := by
  induction l generalizing s with
  | nil => rfl
  | cons a l ih => simp [ih, h]

@[simp] theorem ite_ctrs (c : Prop) [Decidable c] (a b : State) :
    (if c then a else b).ctrs = if c then a.ctrs else b.ctrs := by split <;> rfl

@[simp] theorem foldl_latched {β : Type} (f : State → β → State) (h : ∀ s a, (f s a).latched = s.latched) (l : List β) (s : State) :
    (l.foldl f s).latched = s.latched := by
  induction l generalizing s with
  | nil => rfl
  | cons a l ih => simp [ih, h]

@[simp] theorem ite_latched (c : Prop) [Decidable c] (a b : State) :
    (if c then a else b).latched = if c then a.latched else b.latched := by split <;> rfl

@[simp] theorem foldl_mode {β : Type} (f : State → β → State) (h : ∀ s a, (f s a).mode = s.mode) (l : List β) (s : State) :
    (l.foldl f s).mode = s.mode := by
  induction l generalizing s with
  | nil => rfl
  | cons a l ih => simp [ih, h]

@[simp] theorem ite_mode (c : Prop) [Decidable c] (a b : State) :
    (if c then a else b).mode = if c then a.mode else b.mode := by split <;> rfl

@[simp] theorem foldl_tim {β : Type} (f : State → β → State) (h : ∀ s a, (f s a).tim = s.tim) (l : List β) (s : State) :
    (l.foldl f s).tim = s.tim := by
  induction l generalizing s with
  | nil => rfl
  | cons a l ih => simp [ih, h]

@[simp] theorem ite_tim (c : Prop) [Decidable c] (a b : State) :
    (if c then a else b).tim = if c then a.tim else b.tim := by split <;> rfl

@[simp] theorem foldl_pwr {β : Type} (f : State → β → State) (h : ∀ s a, (f s a).pwr = s.pwr) (l : List β) (s : State) :
    (l.foldl f s).pwr = s.pwr := by
  induction l generalizing s with
  | nil => rfl
  | cons a l ih => simp [ih, h]

@[simp] theorem ite_pwr (c : Prop) [Decidable c] (a b : State) :
    (if c then a else b).pwr = if c then a.pwr else b.pwr := by split <;> rfl

@[simp] theorem foldl_sb0 {β : Type} (f : State → β → State) (h : ∀ s a, (f s a).sb0 = s.sb0) (l : List β) (s : State) :
    (l.foldl f s).sb0 = s.sb0 := by
  induction l generalizing s with
  | nil => rfl
  | cons a l ih => simp [ih, h]

@[simp] theorem ite_sb0 (c : Prop) [Decidable c] (a b : State) :
    (if c then a else b).sb0 = if c then a.sb0 else b.sb0 := by split <;> rfl

@[simp] theorem foldl_sb1 {β : Type} (f : State → β → State) (h : ∀ s a, (f s a).sb1 = s.sb1) (l : List β) (s : State) :
    (l.foldl f s).sb1 = s.sb1 := by
  induction l generalizing s with
  | nil => rfl
  | cons a l ih => simp [ih, h]

@[simp] theorem ite_sb1 (c : Prop) [Decidable c] (a b : State) :
    (if c then a else b).sb1 = if c then a.sb1 else b.sb1 := by split <;> rfl

@[simp] theorem foldl_sb2 {β : Type} (f : State → β → State) (h : ∀ s a, (f s a).sb2 = s.sb2) (l : List β) (s : State) :
    (l.foldl f s).sb2 = s.sb2 := by
  induction l generalizing s with
  | nil => rfl
  | cons a l ih => simp [ih, h]

@[simp] theorem ite_sb2 (c : Prop) [Decidable c] (a b : State) :
    (if c then a else b).sb2 = if c then a.sb2 else b.sb2 := by split <;> rfl

@[simp] theorem foldl_sb3 {β : Type} (f : State → β → State) (h : ∀ s a, (f s a).sb3 = s.sb3) (l : List β) (s : State) :
    (l.foldl f s).sb3 = s.sb3 := by
  induction l generalizing s with
  | nil => rfl
  | cons a l ih => simp [ih, h]

@[simp] theorem ite_sb3 (c : Prop) [Decidable c] (a b : State) :
    (if c then a else b).sb3 = if c then a.sb3 else b.sb3 := by split <;> rfl

@[simp] theorem foldl_log {β : Type} (f : State → β → State) (h : ∀ s a, (f s a).log = s.log) (l : List β) (s : State) :
    (l.foldl f s).log = s.log := by
  induction l generalizing s with
  | nil => rfl
  | cons a l ih => simp [ih, h]

@[simp] theorem ite_log (c : Prop) [Decidable c] (a b : State) :
    (if c then a else b).log = if c then a.log else b.log := by split <;> rfl

@[simp] theorem foldl_sht {β : Type} (f : State → β → State) (h : ∀ s a, (f s a).sht = s.sht) (l : List β) (s : State) :
    (l.foldl f s).sht = s.sht := by
  induction l generalizing s with
  | nil => rfl
  | cons a l ih => simp [ih, h]

@[simp] theorem ite_sht (c : Prop) [Decidable c] (a b : State) :
    (if c then a else b).sht = if c then a.sht else b.sht := by split <;> rfl

@[simp] theorem foldl_unlocks {β : Type} (f : State → β → State) (h : ∀ s a, (f s a).unlocks = s.unlocks) (l : List β) (s : State) :
    (l.foldl f s).unlocks = s.unlocks := by
  induction l generalizing s with
  | nil => rfl
  | cons a l ih => simp [ih, h]

@[simp] theorem ite_unlocks (c : Prop) [Decidable c] (a b : State) :
    (if c then a else b).unlocks = if c then a.unlocks else b.unlocks := by split <;> rfl

@[simp] theorem foldl_addr {β : Type} (f : State → β → State) (h : ∀ s a, (f s a).addr = s.addr) (l : List β) (s : State) :
    (l.foldl f s).addr = s.addr := by
  induction l generalizing s with
  | nil => rfl
  | cons a l ih => simp [ih, h]

@[simp] theorem ite_addr (c : Prop) [Decidable c] (a b : State) :
    (if c then a else b).addr = if c then a.addr else b.addr := by split <;> rfl

@[simp] theorem foldl_trk {β : Type} (f : State → β → State) (h : ∀ s a, (f s a).trk = s.trk) (l : List β) (s : State) :
    (l.foldl f s).trk = s.trk := by
  induction l generalizing s with
  | nil => rfl
  | cons a l ih => simp [ih, h]

@[simp] theorem ite_trk (c : Prop) [Decidable c] (a b : State) :
    (if c then a else b).trk = if c then a.trk else b.trk := by split <;> rfl

@[simp] theorem foldl_twl {β : Type} (f : State → β → State) (h : ∀ s a, (f s a).twl = s.twl) (l : List β) (s : State) :
    (l.foldl f s).twl = s.twl := by
  induction l generalizing s with
  | nil => rfl
  | cons a l ih => simp [ih, h]

@[simp] theorem ite_twl (c : Prop) [Decidable c] (a b : State) :
    (if c then a else b).twl = if c then a.twl else b.twl := by split <;> rfl

@[simp] theorem foldl_pair {β : Type} (f : State → β → State) (h : ∀ s a, (f s a).pair = s.pair) (l : List β) (s : State) :
    (l.foldl f s).pair = s.pair := by
  induction l generalizing s with
  | nil => rfl
  | cons a l ih => simp [ih, h]

@[simp] theorem ite_pair (c : Prop) [Decidable c] (a b : State) :
    (if c then a else b).pair = if c then a.pair else b.pair := by split <;> rfl

@[simp] theorem foldl_tier {β : Type} (f : State → β → State) (h : ∀ s a, (f s a).tier = s.tier) (l : List β) (s : State) :
    (l.foldl f s).tier = s.tier := by
  induction l generalizing s with
  | nil => rfl
  | cons a l ih => simp [ih, h]

@[simp] theorem ite_tier (c : Prop) [Decidable c] (a b : State) :
    (if c then a else b).tier = if c then a.tier else b.tier := by split <;> rfl

@[simp] theorem foldl_lc {β : Type} (f : State → β → State) (h : ∀ s a, (f s a).lc = s.lc) (l : List β) (s : State) :
    (l.foldl f s).lc = s.lc := by
  induction l generalizing s with
  | nil => rfl
  | cons a l ih => simp [ih, h]

@[simp] theorem ite_lc (c : Prop) [Decidable c] (a b : State) :
    (if c then a else b).lc = if c then a.lc else b.lc := by split <;> rfl

@[simp] theorem foldl_ch {β : Type} (f : State → β → State) (h : ∀ s a, (f s a).ch = s.ch) (l : List β) (s : State) :
    (l.foldl f s).ch = s.ch := by
  induction l generalizing s with
  | nil => rfl
  | cons a l ih => simp [ih, h]

@[simp] theorem ite_ch (c : Prop) [Decidable c] (a b : State) :
    (if c then a else b).ch = if c then a.ch else b.ch := by split <;> rfl

@[simp] theorem foldl_ec {β : Type} (f : State → β → State) (h : ∀ s a, (f s a).ec = s.ec) (l : List β) (s : State) :
    (l.foldl f s).ec = s.ec := by
  induction l generalizing s with
  | nil => rfl
  | cons a l ih => simp [ih, h]

@[simp] theorem ite_ec (c : Prop) [Decidable c] (a b : State) :
    (if c then a else b).ec = if c then a.ec else b.ec := by split <;> rfl

@[simp] theorem foldl_mem {β : Type} (f : State → β → State) (h : ∀ s a, (f s a).mem = s.mem) (l : List β) (s : State) :
    (l.foldl f s).mem = s.mem := by
  induction l generalizing s with
  | nil => rfl
  | cons a l ih => simp [ih, h]

@[simp] theorem ite_mem (c : Prop) [Decidable c] (a b : State) :
    (if c then a else b).mem = if c then a.mem else b.mem := by split <;> rfl

@[simp] theorem foldl_vlt {β : Type} (f : State → β → State) (h : ∀ s a, (f s a).vlt = s.vlt) (l : List β) (s : State) :
    (l.foldl f s).vlt = s.vlt := by
  induction l generalizing s with
  | nil => rfl
  | cons a l ih => simp [ih, h]

@[simp] theorem ite_vlt (c : Prop) [Decidable c] (a b : State) :
    (if c then a else b).vlt = if c then a.vlt else b.vlt := by split <;> rfl

@[simp] theorem foldl_net {β : Type} (f : State → β → State) (h : ∀ s a, (f s a).net = s.net) (l : List β) (s : State) :
    (l.foldl f s).net = s.net := by
  induction l generalizing s with
  | nil => rfl
  | cons a l ih => simp [ih, h]

@[simp] theorem ite_net (c : Prop) [Decidable c] (a b : State) :
    (if c then a else b).net = if c then a.net else b.net := by split <;> rfl

@[simp] theorem foldl_cxl {β : Type} (f : State → β → State) (h : ∀ s a, (f s a).cxl = s.cxl) (l : List β) (s : State) :
    (l.foldl f s).cxl = s.cxl := by
  induction l generalizing s with
  | nil => rfl
  | cons a l ih => simp [ih, h]

@[simp] theorem ite_cxl (c : Prop) [Decidable c] (a b : State) :
    (if c then a else b).cxl = if c then a.cxl else b.cxl := by split <;> rfl

@[simp] theorem foldl_flt {β : Type} (f : State → β → State) (h : ∀ s a, (f s a).flt = s.flt) (l : List β) (s : State) :
    (l.foldl f s).flt = s.flt := by
  induction l generalizing s with
  | nil => rfl
  | cons a l ih => simp [ih, h]

@[simp] theorem ite_flt (c : Prop) [Decidable c] (a b : State) :
    (if c then a else b).flt = if c then a.flt else b.flt := by split <;> rfl

@[simp] theorem foldl_cmd {β : Type} (f : State → β → State) (h : ∀ s a, (f s a).cmd = s.cmd) (l : List β) (s : State) :
    (l.foldl f s).cmd = s.cmd := by
  induction l generalizing s with
  | nil => rfl
  | cons a l ih => simp [ih, h]

@[simp] theorem ite_cmd (c : Prop) [Decidable c] (a b : State) :
    (if c then a else b).cmd = if c then a.cmd else b.cmd := by split <;> rfl

@[simp] theorem foldl_fls {β : Type} (f : State → β → State) (h : ∀ s a, (f s a).fls = s.fls) (l : List β) (s : State) :
    (l.foldl f s).fls = s.fls := by
  induction l generalizing s with
  | nil => rfl
  | cons a l ih => simp [ih, h]

@[simp] theorem ite_fls (c : Prop) [Decidable c] (a b : State) :
    (if c then a else b).fls = if c then a.fls else b.fls := by split <;> rfl

@[simp] theorem foldl_fst_quietP {β γ : Type} (f : State × γ → β → State × γ) (h : ∀ a b, (f a b).1.quietP = a.1.quietP) (l : List β) (a : State × γ) :
    (l.foldl f a).1.quietP = a.1.quietP := by
  induction l generalizing a with
  | nil => rfl
  | cons b l ih => simp [ih, h]

@[simp] theorem foldl_fst_storeP {β γ : Type} (f : State × γ → β → State × γ) (h : ∀ a b, (f a b).1.storeP = a.1.storeP) (l : List β) (a : State × γ) :
    (l.foldl f a).1.storeP = a.1.storeP := by
  induction l generalizing a with
  | nil => rfl
  | cons b l ih => simp [ih, h]

@[simp] theorem foldl_fst_ctlP {β γ : Type} (f : State × γ → β → State × γ) (h : ∀ a b, (f a b).1.ctlP = a.1.ctlP) (l : List β) (a : State × γ) :
    (l.foldl f a).1.ctlP = a.1.ctlP := by
  induction l generalizing a with
  | nil => rfl
  | cons b l ih => simp [ih, h]

@[simp] theorem foldl_fst_pathP {β γ : Type} (f : State × γ → β → State × γ) (h : ∀ a b, (f a b).1.pathP = a.1.pathP) (l : List β) (a : State × γ) :
    (l.foldl f a).1.pathP = a.1.pathP := by
  induction l generalizing a with
  | nil => rfl
  | cons b l ih => simp [ih, h]

@[simp] theorem foldl_fst_linksP {β γ : Type} (f : State × γ → β → State × γ) (h : ∀ a b, (f a b).1.linksP = a.1.linksP) (l : List β) (a : State × γ) :
    (l.foldl f a).1.linksP = a.1.linksP := by
  induction l generalizing a with
  | nil => rfl
  | cons b l ih => simp [ih, h]

@[simp] theorem foldl_fst_pending {β γ : Type} (f : State × γ → β → State × γ) (h : ∀ a b, (f a b).1.pending = a.1.pending) (l : List β) (a : State × γ) :
    (l.foldl f a).1.pending = a.1.pending := by
  induction l generalizing a with
  | nil => rfl
  | cons b l ih => simp [ih, h]

@[simp] theorem foldl_fst_out {β γ : Type} (f : State × γ → β → State × γ) (h : ∀ a b, (f a b).1.out = a.1.out) (l : List β) (a : State × γ) :
    (l.foldl f a).1.out = a.1.out := by
  induction l generalizing a with
  | nil => rfl
  | cons b l ih => simp [ih, h]

@[simp] theorem foldl_fst_fresh {β γ : Type} (f : State × γ → β → State × γ) (h : ∀ a b, (f a b).1.fresh = a.1.fresh) (l : List β) (a : State × γ) :
    (l.foldl f a).1.fresh = a.1.fresh := by
  induction l generalizing a with
  | nil => rfl
  | cons b l ih => simp [ih, h]

@[simp] theorem foldl_fst_regs {β γ : Type} (f : State × γ → β → State × γ) (h : ∀ a b, (f a b).1.regs = a.1.regs) (l : List β) (a : State × γ) :
    (l.foldl f a).1.regs = a.1.regs := by
  induction l generalizing a with
  | nil => rfl
  | cons b l ih => simp [ih, h]

@[simp] theorem foldl_fst_rsc {β γ : Type} (f : State × γ → β → State × γ) (h : ∀ a b, (f a b).1.rsc = a.1.rsc) (l : List β) (a : State × γ) :
    (l.foldl f a).1.rsc = a.1.rsc := by
  induction l generalizing a with
  | nil => rfl
  | cons b l ih => simp [ih, h]

@[simp] theorem foldl_fst_copies {β γ : Type} (f : State × γ → β → State × γ) (h : ∀ a b, (f a b).1.copies = a.1.copies) (l : List β) (a : State × γ) :
    (l.foldl f a).1.copies = a.1.copies := by
  induction l generalizing a with
  | nil => rfl
  | cons b l ih => simp [ih, h]

@[simp] theorem foldl_fst_ctrs {β γ : Type} (f : State × γ → β → State × γ) (h : ∀ a b, (f a b).1.ctrs = a.1.ctrs) (l : List β) (a : State × γ) :
    (l.foldl f a).1.ctrs = a.1.ctrs := by
  induction l generalizing a with
  | nil => rfl
  | cons b l ih => simp [ih, h]

@[simp] theorem foldl_fst_latched {β γ : Type} (f : State × γ → β → State × γ) (h : ∀ a b, (f a b).1.latched = a.1.latched) (l : List β) (a : State × γ) :
    (l.foldl f a).1.latched = a.1.latched := by
  induction l generalizing a with
  | nil => rfl
  | cons b l ih => simp [ih, h]

@[simp] theorem foldl_fst_mode {β γ : Type} (f : State × γ → β → State × γ) (h : ∀ a b, (f a b).1.mode = a.1.mode) (l : List β) (a : State × γ) :
    (l.foldl f a).1.mode = a.1.mode := by
  induction l generalizing a with
  | nil => rfl
  | cons b l ih => simp [ih, h]

@[simp] theorem foldl_fst_tim {β γ : Type} (f : State × γ → β → State × γ) (h : ∀ a b, (f a b).1.tim = a.1.tim) (l : List β) (a : State × γ) :
    (l.foldl f a).1.tim = a.1.tim := by
  induction l generalizing a with
  | nil => rfl
  | cons b l ih => simp [ih, h]

@[simp] theorem foldl_fst_pwr {β γ : Type} (f : State × γ → β → State × γ) (h : ∀ a b, (f a b).1.pwr = a.1.pwr) (l : List β) (a : State × γ) :
    (l.foldl f a).1.pwr = a.1.pwr := by
  induction l generalizing a with
  | nil => rfl
  | cons b l ih => simp [ih, h]

@[simp] theorem foldl_fst_sb0 {β γ : Type} (f : State × γ → β → State × γ) (h : ∀ a b, (f a b).1.sb0 = a.1.sb0) (l : List β) (a : State × γ) :
    (l.foldl f a).1.sb0 = a.1.sb0 := by
  induction l generalizing a with
  | nil => rfl
  | cons b l ih => simp [ih, h]

@[simp] theorem foldl_fst_sb1 {β γ : Type} (f : State × γ → β → State × γ) (h : ∀ a b, (f a b).1.sb1 = a.1.sb1) (l : List β) (a : State × γ) :
    (l.foldl f a).1.sb1 = a.1.sb1 := by
  induction l generalizing a with
  | nil => rfl
  | cons b l ih => simp [ih, h]

@[simp] theorem foldl_fst_sb2 {β γ : Type} (f : State × γ → β → State × γ) (h : ∀ a b, (f a b).1.sb2 = a.1.sb2) (l : List β) (a : State × γ) :
    (l.foldl f a).1.sb2 = a.1.sb2 := by
  induction l generalizing a with
  | nil => rfl
  | cons b l ih => simp [ih, h]

@[simp] theorem foldl_fst_sb3 {β γ : Type} (f : State × γ → β → State × γ) (h : ∀ a b, (f a b).1.sb3 = a.1.sb3) (l : List β) (a : State × γ) :
    (l.foldl f a).1.sb3 = a.1.sb3 := by
  induction l generalizing a with
  | nil => rfl
  | cons b l ih => simp [ih, h]

@[simp] theorem foldl_fst_log {β γ : Type} (f : State × γ → β → State × γ) (h : ∀ a b, (f a b).1.log = a.1.log) (l : List β) (a : State × γ) :
    (l.foldl f a).1.log = a.1.log := by
  induction l generalizing a with
  | nil => rfl
  | cons b l ih => simp [ih, h]

@[simp] theorem foldl_fst_sht {β γ : Type} (f : State × γ → β → State × γ) (h : ∀ a b, (f a b).1.sht = a.1.sht) (l : List β) (a : State × γ) :
    (l.foldl f a).1.sht = a.1.sht := by
  induction l generalizing a with
  | nil => rfl
  | cons b l ih => simp [ih, h]

@[simp] theorem foldl_fst_unlocks {β γ : Type} (f : State × γ → β → State × γ) (h : ∀ a b, (f a b).1.unlocks = a.1.unlocks) (l : List β) (a : State × γ) :
    (l.foldl f a).1.unlocks = a.1.unlocks := by
  induction l generalizing a with
  | nil => rfl
  | cons b l ih => simp [ih, h]

@[simp] theorem foldl_fst_addr {β γ : Type} (f : State × γ → β → State × γ) (h : ∀ a b, (f a b).1.addr = a.1.addr) (l : List β) (a : State × γ) :
    (l.foldl f a).1.addr = a.1.addr := by
  induction l generalizing a with
  | nil => rfl
  | cons b l ih => simp [ih, h]

@[simp] theorem foldl_fst_trk {β γ : Type} (f : State × γ → β → State × γ) (h : ∀ a b, (f a b).1.trk = a.1.trk) (l : List β) (a : State × γ) :
    (l.foldl f a).1.trk = a.1.trk := by
  induction l generalizing a with
  | nil => rfl
  | cons b l ih => simp [ih, h]

@[simp] theorem foldl_fst_twl {β γ : Type} (f : State × γ → β → State × γ) (h : ∀ a b, (f a b).1.twl = a.1.twl) (l : List β) (a : State × γ) :
    (l.foldl f a).1.twl = a.1.twl := by
  induction l generalizing a with
  | nil => rfl
  | cons b l ih => simp [ih, h]

@[simp] theorem foldl_fst_pair {β γ : Type} (f : State × γ → β → State × γ) (h : ∀ a b, (f a b).1.pair = a.1.pair) (l : List β) (a : State × γ) :
    (l.foldl f a).1.pair = a.1.pair := by
  induction l generalizing a with
  | nil => rfl
  | cons b l ih => simp [ih, h]

@[simp] theorem foldl_fst_tier {β γ : Type} (f : State × γ → β → State × γ) (h : ∀ a b, (f a b).1.tier = a.1.tier) (l : List β) (a : State × γ) :
    (l.foldl f a).1.tier = a.1.tier := by
  induction l generalizing a with
  | nil => rfl
  | cons b l ih => simp [ih, h]

@[simp] theorem foldl_fst_lc {β γ : Type} (f : State × γ → β → State × γ) (h : ∀ a b, (f a b).1.lc = a.1.lc) (l : List β) (a : State × γ) :
    (l.foldl f a).1.lc = a.1.lc := by
  induction l generalizing a with
  | nil => rfl
  | cons b l ih => simp [ih, h]

@[simp] theorem foldl_fst_ch {β γ : Type} (f : State × γ → β → State × γ) (h : ∀ a b, (f a b).1.ch = a.1.ch) (l : List β) (a : State × γ) :
    (l.foldl f a).1.ch = a.1.ch := by
  induction l generalizing a with
  | nil => rfl
  | cons b l ih => simp [ih, h]

@[simp] theorem foldl_fst_ec {β γ : Type} (f : State × γ → β → State × γ) (h : ∀ a b, (f a b).1.ec = a.1.ec) (l : List β) (a : State × γ) :
    (l.foldl f a).1.ec = a.1.ec := by
  induction l generalizing a with
  | nil => rfl
  | cons b l ih => simp [ih, h]

@[simp] theorem foldl_fst_mem {β γ : Type} (f : State × γ → β → State × γ) (h : ∀ a b, (f a b).1.mem = a.1.mem) (l : List β) (a : State × γ) :
    (l.foldl f a).1.mem = a.1.mem := by
  induction l generalizing a with
  | nil => rfl
  | cons b l ih => simp [ih, h]

@[simp] theorem foldl_fst_vlt {β γ : Type} (f : State × γ → β → State × γ) (h : ∀ a b, (f a b).1.vlt = a.1.vlt) (l : List β) (a : State × γ) :
    (l.foldl f a).1.vlt = a.1.vlt := by
  induction l generalizing a with
  | nil => rfl
  | cons b l ih => simp [ih, h]

@[simp] theorem foldl_fst_net {β γ : Type} (f : State × γ → β → State × γ) (h : ∀ a b, (f a b).1.net = a.1.net) (l : List β) (a : State × γ) :
    (l.foldl f a).1.net = a.1.net := by
  induction l generalizing a with
  | nil => rfl
  | cons b l ih => simp [ih, h]

@[simp] theorem foldl_fst_cxl {β γ : Type} (f : State × γ → β → State × γ) (h : ∀ a b, (f a b).1.cxl = a.1.cxl) (l : List β) (a : State × γ) :
    (l.foldl f a).1.cxl = a.1.cxl := by
  induction l generalizing a with
  | nil => rfl
  | cons b l ih => simp [ih, h]

@[simp] theorem foldl_fst_flt {β γ : Type} (f : State × γ → β → State × γ) (h : ∀ a b, (f a b).1.flt = a.1.flt) (l : List β) (a : State × γ) :
    (l.foldl f a).1.flt = a.1.flt := by
  induction l generalizing a with
  | nil => rfl
  | cons b l ih => simp [ih, h]

@[simp] theorem foldl_fst_cmd {β γ : Type} (f : State × γ → β → State × γ) (h : ∀ a b, (f a b).1.cmd = a.1.cmd) (l : List β) (a : State × γ) :
    (l.foldl f a).1.cmd = a.1.cmd := by
  induction l generalizing a with
  | nil => rfl
  | cons b l ih => simp [ih, h]

@[simp] theorem foldl_fst_fls {β γ : Type} (f : State × γ → β → State × γ) (h : ∀ a b, (f a b).1.fls = a.1.fls) (l : List β) (a : State × γ) :
    (l.foldl f a).1.fls = a.1.fls := by
  induction l generalizing a with
  | nil => rfl
  | cons b l ih => simp [ih, h]

end Sys2Proof.Machine
end

