-- ==== Sys2Proof/Laws/FrameOps.lean ====
section
/-!
SUPPORT. Laws/FrameOps.lean: what the shared operations leave unchanged, one lemma each (first part).
-/
namespace Sys2Proof.Machine

@[simp] theorem State.powerEvent_frame : ∀ s x1 x2 x3, Same.quiet s (State.powerEvent s x1 x2 x3) ∧ Same.store s (State.powerEvent s x1 x2 x3) ∧ Same.path s (State.powerEvent s x1 x2 x3) ∧ Same.links s (State.powerEvent s x1 x2 x3) ∧ (State.powerEvent s x1 x2 x3).out = s.out ∧ (State.powerEvent s x1 x2 x3).regs = s.regs ∧ (State.powerEvent s x1 x2 x3).ctrs = s.ctrs ∧ (State.powerEvent s x1 x2 x3).mode = s.mode ∧ (State.powerEvent s x1 x2 x3).log = s.log ∧ (State.powerEvent s x1 x2 x3).flt = s.flt ∧ (State.powerEvent s x1 x2 x3).cmd = s.cmd := by
  intro s x1 x2 x3
  refine And.imp Same.quiet_of (And.imp Same.store_of (And.imp Same.path_of (And.imp Same.links_of id))) ?_
  unfold State.powerEvent
  try dsimp only
  (repeat' split) <;> simp

@[simp] theorem State.bumpBy_frame : ∀ s x1 x2, Same.quiet s (State.bumpBy s x1 x2) ∧ Same.store s (State.bumpBy s x1 x2) ∧ Same.ctl s (State.bumpBy s x1 x2) ∧ Same.path s (State.bumpBy s x1 x2) ∧ Same.links s (State.bumpBy s x1 x2) ∧ (State.bumpBy s x1 x2).out = s.out ∧ (State.bumpBy s x1 x2).regs = s.regs ∧ (State.bumpBy s x1 x2).log = s.log := by
  intro s x1 x2
  refine And.imp Same.quiet_of (And.imp Same.store_of (And.imp Same.ctl_of (And.imp Same.path_of (And.imp Same.links_of id)))) ?_
  unfold State.bumpBy
  try dsimp only
  (repeat' split) <;> simp

@[simp] theorem State.bump_frame : ∀ s x1, Same.quiet s (State.bump s x1) ∧ Same.store s (State.bump s x1) ∧ Same.ctl s (State.bump s x1) ∧ Same.path s (State.bump s x1) ∧ Same.links s (State.bump s x1) ∧ (State.bump s x1).out = s.out ∧ (State.bump s x1).regs = s.regs ∧ (State.bump s x1).log = s.log := by
  intro s x1
  refine And.imp Same.quiet_of (And.imp Same.store_of (And.imp Same.ctl_of (And.imp Same.path_of (And.imp Same.links_of id)))) ?_
  unfold State.bump
  try dsimp only
  (repeat' split) <;> simp

@[simp] theorem State.forceLog_frame : ∀ s x1 x2 x3, Same.quiet s (State.forceLog s x1 x2 x3) ∧ Same.ctl s (State.forceLog s x1 x2 x3) ∧ Same.path s (State.forceLog s x1 x2 x3) ∧ Same.links s (State.forceLog s x1 x2 x3) ∧ (State.forceLog s x1 x2 x3).out = s.out ∧ (State.forceLog s x1 x2 x3).fresh = s.fresh ∧ (State.forceLog s x1 x2 x3).regs = s.regs ∧ (State.forceLog s x1 x2 x3).ctrs = s.ctrs ∧ (State.forceLog s x1 x2 x3).log = s.log ∧ (State.forceLog s x1 x2 x3).sht = s.sht ∧ (State.forceLog s x1 x2 x3).mem = s.mem := by
  intro s x1 x2 x3
  refine And.imp Same.quiet_of (And.imp Same.ctl_of (And.imp Same.path_of (And.imp Same.links_of id))) ?_
  unfold State.forceLog
  try dsimp only
  (repeat' split) <;> simp

@[simp] theorem State.markFrame_frame : ∀ s x1 x2, Same.quiet s (State.markFrame s x1 x2) ∧ Same.ctl s (State.markFrame s x1 x2) ∧ Same.path s (State.markFrame s x1 x2) ∧ Same.links s (State.markFrame s x1 x2) ∧ (State.markFrame s x1 x2).out = s.out ∧ (State.markFrame s x1 x2).fresh = s.fresh ∧ (State.markFrame s x1 x2).regs = s.regs ∧ (State.markFrame s x1 x2).ctrs = s.ctrs ∧ (State.markFrame s x1 x2).log = s.log ∧ (State.markFrame s x1 x2).mem = s.mem := by
  intro s x1 x2
  refine And.imp Same.quiet_of (And.imp Same.ctl_of (And.imp Same.path_of (And.imp Same.links_of id))) ?_
  unfold State.markFrame
  try dsimp only
  (repeat' split) <;> simp

@[simp] theorem State.setReg_frame : ∀ s x1 x2, Same.quiet s (State.setReg s x1 x2) ∧ Same.store s (State.setReg s x1 x2) ∧ Same.ctl s (State.setReg s x1 x2) ∧ Same.path s (State.setReg s x1 x2) ∧ Same.links s (State.setReg s x1 x2) ∧ (State.setReg s x1 x2).out = s.out ∧ (State.setReg s x1 x2).ctrs = s.ctrs ∧ (State.setReg s x1 x2).log = s.log := by
  intro s x1 x2
  refine And.imp Same.quiet_of (And.imp Same.store_of (And.imp Same.ctl_of (And.imp Same.path_of (And.imp Same.links_of id)))) ?_
  unfold State.setReg
  try dsimp only
  (repeat' split) <;> simp

@[simp] theorem State.setFld_frame : ∀ s x1 x2 x3, Same.quiet s (State.setFld s x1 x2 x3) ∧ Same.store s (State.setFld s x1 x2 x3) ∧ Same.ctl s (State.setFld s x1 x2 x3) ∧ Same.path s (State.setFld s x1 x2 x3) ∧ Same.links s (State.setFld s x1 x2 x3) ∧ (State.setFld s x1 x2 x3).out = s.out ∧ (State.setFld s x1 x2 x3).ctrs = s.ctrs ∧ (State.setFld s x1 x2 x3).log = s.log := by
  intro s x1 x2 x3
  refine And.imp Same.quiet_of (And.imp Same.store_of (And.imp Same.ctl_of (And.imp Same.path_of (And.imp Same.links_of id)))) ?_
  unfold State.setFld
  try dsimp only
  (repeat' split) <;> simp

@[simp] theorem State.stripFault_frame : ∀ s x1, Same.quiet s (State.stripFault s x1) ∧ Same.ctl s (State.stripFault s x1) ∧ Same.path s (State.stripFault s x1) ∧ Same.links s (State.stripFault s x1) ∧ (State.stripFault s x1).out = s.out ∧ (State.stripFault s x1).fresh = s.fresh ∧ (State.stripFault s x1).log = s.log ∧ (State.stripFault s x1).mem = s.mem := by
  intro s x1
  refine And.imp Same.quiet_of (And.imp Same.ctl_of (And.imp Same.path_of (And.imp Same.links_of id))) ?_
  unfold State.stripFault
  try dsimp only
  (repeat' split) <;> simp

@[simp] theorem State.hostsDown_frame : ∀ s, Same.quiet s (State.hostsDown s) ∧ Same.store s (State.hostsDown s) ∧ Same.path s (State.hostsDown s) ∧ (State.hostsDown s).out = s.out ∧ (State.hostsDown s).regs = s.regs ∧ (State.hostsDown s).ctrs = s.ctrs ∧ (State.hostsDown s).pwr = s.pwr ∧ (State.hostsDown s).log = s.log ∧ (State.hostsDown s).twl = s.twl ∧ (State.hostsDown s).pair = s.pair ∧ (State.hostsDown s).vlt = s.vlt ∧ (State.hostsDown s).net = s.net ∧ (State.hostsDown s).flt = s.flt ∧ (State.hostsDown s).cmd = s.cmd := by
  intro s
  refine And.imp Same.quiet_of (And.imp Same.store_of (And.imp Same.path_of id)) ?_
  unfold State.hostsDown
  try dsimp only
  (repeat' split) <;> simp

@[simp] theorem State.powerDown_frame : ∀ s, Same.quiet s (State.powerDown s) ∧ Same.store s (State.powerDown s) ∧ Same.path s (State.powerDown s) ∧ (State.powerDown s).out = s.out ∧ (State.powerDown s).regs = s.regs ∧ (State.powerDown s).ctrs = s.ctrs ∧ (State.powerDown s).log = s.log ∧ (State.powerDown s).twl = s.twl ∧ (State.powerDown s).pair = s.pair ∧ (State.powerDown s).vlt = s.vlt ∧ (State.powerDown s).net = s.net ∧ (State.powerDown s).flt = s.flt ∧ (State.powerDown s).cmd = s.cmd := by
  intro s
  refine And.imp Same.quiet_of (And.imp Same.store_of (And.imp Same.path_of id)) ?_
  unfold State.powerDown
  try dsimp only
  (repeat' split) <;> simp

@[simp] theorem State.logAt_frame : ∀ s x1 x2 x3 x4 x5 x6, Same.quiet s (State.logAt s x1 x2 x3 x4 x5 x6) ∧ Same.store s (State.logAt s x1 x2 x3 x4 x5 x6) ∧ Same.ctl s (State.logAt s x1 x2 x3 x4 x5 x6) ∧ Same.path s (State.logAt s x1 x2 x3 x4 x5 x6) ∧ Same.links s (State.logAt s x1 x2 x3 x4 x5 x6) ∧ (State.logAt s x1 x2 x3 x4 x5 x6).out = s.out ∧ (State.logAt s x1 x2 x3 x4 x5 x6).regs = s.regs := by
  intro s x1 x2 x3 x4 x5 x6
  refine And.imp Same.quiet_of (And.imp Same.store_of (And.imp Same.ctl_of (And.imp Same.path_of (And.imp Same.links_of id)))) ?_
  unfold State.logAt
  try dsimp only
  (repeat' split) <;> simp

@[simp] theorem State.logRec_frame : ∀ s x1 x2 x3 x4, Same.quiet s (State.logRec s x1 x2 x3 x4) ∧ Same.store s (State.logRec s x1 x2 x3 x4) ∧ Same.ctl s (State.logRec s x1 x2 x3 x4) ∧ Same.path s (State.logRec s x1 x2 x3 x4) ∧ Same.links s (State.logRec s x1 x2 x3 x4) ∧ (State.logRec s x1 x2 x3 x4).out = s.out ∧ (State.logRec s x1 x2 x3 x4).regs = s.regs := by
  intro s x1 x2 x3 x4
  refine And.imp Same.quiet_of (And.imp Same.store_of (And.imp Same.ctl_of (And.imp Same.path_of (And.imp Same.links_of id)))) ?_
  unfold State.logRec
  try dsimp only
  (repeat' split) <;> simp

@[simp] theorem State.setMode_frame : ∀ s x1 x2, Same.quiet s (State.setMode s x1 x2) ∧ Same.store s (State.setMode s x1 x2) ∧ Same.path s (State.setMode s x1 x2) ∧ Same.links s (State.setMode s x1 x2) ∧ (State.setMode s x1 x2).out = s.out ∧ (State.setMode s x1 x2).regs = s.regs ∧ (State.setMode s x1 x2).pwr = s.pwr ∧ (State.setMode s x1 x2).flt = s.flt ∧ (State.setMode s x1 x2).cmd = s.cmd := by
  intro s x1 x2
  refine And.imp Same.quiet_of (And.imp Same.store_of (And.imp Same.path_of (And.imp Same.links_of id))) ?_
  unfold State.setMode
  try dsimp only
  (repeat' split) <;> simp

@[simp] theorem State.endBringup_frame : ∀ s x1 x2, Same.quiet s (State.endBringup s x1 x2) ∧ Same.store s (State.endBringup s x1 x2) ∧ Same.path s (State.endBringup s x1 x2) ∧ (State.endBringup s x1 x2).out = s.out ∧ (State.endBringup s x1 x2).regs = s.regs ∧ (State.endBringup s x1 x2).twl = s.twl ∧ (State.endBringup s x1 x2).pair = s.pair ∧ (State.endBringup s x1 x2).vlt = s.vlt ∧ (State.endBringup s x1 x2).net = s.net ∧ (State.endBringup s x1 x2).flt = s.flt ∧ (State.endBringup s x1 x2).cmd = s.cmd := by
  intro s x1 x2
  refine And.imp Same.quiet_of (And.imp Same.store_of (And.imp Same.path_of id)) ?_
  unfold State.endBringup
  try dsimp only
  (repeat' split) <;> simp

@[simp] theorem State.crossBringup_frame : ∀ s x1 x2, Same.quiet s (State.crossBringup s x1 x2) ∧ Same.store s (State.crossBringup s x1 x2) ∧ Same.path s (State.crossBringup s x1 x2) ∧ (State.crossBringup s x1 x2).out = s.out ∧ (State.crossBringup s x1 x2).regs = s.regs ∧ (State.crossBringup s x1 x2).twl = s.twl ∧ (State.crossBringup s x1 x2).pair = s.pair ∧ (State.crossBringup s x1 x2).vlt = s.vlt ∧ (State.crossBringup s x1 x2).net = s.net ∧ (State.crossBringup s x1 x2).flt = s.flt ∧ (State.crossBringup s x1 x2).cmd = s.cmd := by
  intro s x1 x2
  refine And.imp Same.quiet_of (And.imp Same.store_of (And.imp Same.path_of id)) ?_
  unfold State.crossBringup
  try dsimp only
  (repeat' split) <;> simp

@[simp] theorem State.emit_frame : ∀ s x1, Same.quiet s (State.emit s x1) ∧ Same.store s (State.emit s x1) ∧ Same.ctl s (State.emit s x1) ∧ Same.path s (State.emit s x1) ∧ Same.links s (State.emit s x1) ∧ (State.emit s x1).regs = s.regs ∧ (State.emit s x1).ctrs = s.ctrs ∧ (State.emit s x1).log = s.log := by
  intro s x1
  refine And.imp Same.quiet_of (And.imp Same.store_of (And.imp Same.ctl_of (And.imp Same.path_of (And.imp Same.links_of id)))) ?_
  unfold State.emit
  try dsimp only
  (repeat' split) <;> simp

@[simp] theorem State.answer_frame : ∀ s x1 x2 x3, Same.quiet s (State.answer s x1 x2 x3) ∧ Same.store s (State.answer s x1 x2 x3) ∧ Same.ctl s (State.answer s x1 x2 x3) ∧ Same.path s (State.answer s x1 x2 x3) ∧ Same.links s (State.answer s x1 x2 x3) ∧ (State.answer s x1 x2 x3).regs = s.regs ∧ (State.answer s x1 x2 x3).log = s.log := by
  intro s x1 x2 x3
  refine And.imp Same.quiet_of (And.imp Same.store_of (And.imp Same.ctl_of (And.imp Same.path_of (And.imp Same.links_of id)))) ?_
  unfold State.answer
  try dsimp only
  (repeat' split) <;> simp

@[simp] theorem State.lostCompletion_frame : ∀ s x1 x2 x3, Same.quiet s (State.lostCompletion s x1 x2 x3) ∧ Same.store s (State.lostCompletion s x1 x2 x3) ∧ Same.ctl s (State.lostCompletion s x1 x2 x3) ∧ Same.path s (State.lostCompletion s x1 x2 x3) ∧ Same.links s (State.lostCompletion s x1 x2 x3) ∧ (State.lostCompletion s x1 x2 x3).out = s.out ∧ (State.lostCompletion s x1 x2 x3).regs = s.regs := by
  intro s x1 x2 x3
  refine And.imp Same.quiet_of (And.imp Same.store_of (And.imp Same.ctl_of (And.imp Same.path_of (And.imp Same.links_of id)))) ?_
  unfold State.lostCompletion
  try dsimp only
  (repeat' split) <;> simp

@[simp] theorem State.setJob_frame : ∀ s x1 x2, Same.quiet s (State.setJob s x1 x2) ∧ Same.store s (State.setJob s x1 x2) ∧ Same.path s (State.setJob s x1 x2) ∧ Same.links s (State.setJob s x1 x2) ∧ (State.setJob s x1 x2).out = s.out ∧ (State.setJob s x1 x2).regs = s.regs ∧ (State.setJob s x1 x2).ctrs = s.ctrs ∧ (State.setJob s x1 x2).mode = s.mode ∧ (State.setJob s x1 x2).pwr = s.pwr ∧ (State.setJob s x1 x2).log = s.log ∧ (State.setJob s x1 x2).flt = s.flt := by
  intro s x1 x2
  refine And.imp Same.quiet_of (And.imp Same.store_of (And.imp Same.path_of (And.imp Same.links_of id))) ?_
  unfold State.setJob
  try dsimp only
  (repeat' split) <;> simp

@[simp] theorem State.finish_frame : ∀ s x1 x2, Same.quiet s (State.finish s x1 x2) ∧ Same.store s (State.finish s x1 x2) ∧ Same.path s (State.finish s x1 x2) ∧ Same.links s (State.finish s x1 x2) ∧ (State.finish s x1 x2).regs = s.regs ∧ (State.finish s x1 x2).mode = s.mode ∧ (State.finish s x1 x2).pwr = s.pwr ∧ (State.finish s x1 x2).flt = s.flt := by
  intro s x1 x2
  refine And.imp Same.quiet_of (And.imp Same.store_of (And.imp Same.path_of (And.imp Same.links_of id))) ?_
  unfold State.finish
  try dsimp only
  (repeat' split) <;> simp

@[simp] theorem State.endHold_frame : ∀ s, Same.quiet s (State.endHold s) ∧ Same.store s (State.endHold s) ∧ Same.path s (State.endHold s) ∧ (State.endHold s).regs = s.regs ∧ (State.endHold s).mode = s.mode ∧ (State.endHold s).pwr = s.pwr ∧ (State.endHold s).twl = s.twl ∧ (State.endHold s).vlt = s.vlt ∧ (State.endHold s).net = s.net ∧ (State.endHold s).cxl = s.cxl ∧ (State.endHold s).flt = s.flt := by
  intro s
  refine And.imp Same.quiet_of (And.imp Same.store_of (And.imp Same.path_of id)) ?_
  unfold State.endHold
  try dsimp only
  (repeat' split) <;> simp

@[simp] theorem State.abandonHold_frame : ∀ s, Same.quiet s (State.abandonHold s) ∧ Same.store s (State.abandonHold s) ∧ Same.path s (State.abandonHold s) ∧ (State.abandonHold s).regs = s.regs ∧ (State.abandonHold s).mode = s.mode ∧ (State.abandonHold s).pwr = s.pwr ∧ (State.abandonHold s).twl = s.twl ∧ (State.abandonHold s).vlt = s.vlt ∧ (State.abandonHold s).net = s.net ∧ (State.abandonHold s).cxl = s.cxl ∧ (State.abandonHold s).flt = s.flt := by
  intro s
  refine And.imp Same.quiet_of (And.imp Same.store_of (And.imp Same.path_of id)) ?_
  unfold State.abandonHold
  try dsimp only
  (repeat' split) <;> simp

@[simp] theorem State.setPath_frame : ∀ s x1 x2, Same.quiet s (State.setPath s x1 x2) ∧ Same.store s (State.setPath s x1 x2) ∧ Same.ctl s (State.setPath s x1 x2) ∧ Same.path s (State.setPath s x1 x2) ∧ (State.setPath s x1 x2).out = s.out ∧ (State.setPath s x1 x2).regs = s.regs ∧ (State.setPath s x1 x2).ctrs = s.ctrs ∧ (State.setPath s x1 x2).log = s.log ∧ (State.setPath s x1 x2).pair = s.pair ∧ (State.setPath s x1 x2).vlt = s.vlt ∧ (State.setPath s x1 x2).net = s.net ∧ (State.setPath s x1 x2).cxl = s.cxl := by
  intro s x1 x2
  refine And.imp Same.quiet_of (And.imp Same.store_of (And.imp Same.ctl_of (And.imp Same.path_of id))) ?_
  unfold State.setPath
  try dsimp only
  (repeat' split) <;> simp

@[simp] theorem State.takeCrd_frame : ∀ s, Same.quiet s (State.takeCrd s).1 ∧ Same.store s (State.takeCrd s).1 ∧ Same.ctl s (State.takeCrd s).1 ∧ Same.path s (State.takeCrd s).1 ∧ (State.takeCrd s).1.out = s.out ∧ (State.takeCrd s).1.regs = s.regs ∧ (State.takeCrd s).1.ctrs = s.ctrs ∧ (State.takeCrd s).1.log = s.log ∧ (State.takeCrd s).1.pair = s.pair ∧ (State.takeCrd s).1.vlt = s.vlt ∧ (State.takeCrd s).1.net = s.net ∧ (State.takeCrd s).1.cxl = s.cxl := by
  intro s
  refine And.imp Same.quiet_of (And.imp Same.store_of (And.imp Same.ctl_of (And.imp Same.path_of id))) ?_
  unfold State.takeCrd
  try dsimp only
  (repeat' split) <;> simp

@[simp] theorem State.sendFrame_frame : ∀ s x1 x2 x3 x4, Same.quiet s (State.sendFrame s x1 x2 x3 x4) ∧ Same.store s (State.sendFrame s x1 x2 x3 x4) ∧ Same.ctl s (State.sendFrame s x1 x2 x3 x4) ∧ Same.path s (State.sendFrame s x1 x2 x3 x4) ∧ (State.sendFrame s x1 x2 x3 x4).regs = s.regs ∧ (State.sendFrame s x1 x2 x3 x4).log = s.log ∧ (State.sendFrame s x1 x2 x3 x4).pair = s.pair ∧ (State.sendFrame s x1 x2 x3 x4).vlt = s.vlt ∧ (State.sendFrame s x1 x2 x3 x4).net = s.net ∧ (State.sendFrame s x1 x2 x3 x4).cxl = s.cxl := by
  intro s x1 x2 x3 x4
  refine And.imp Same.quiet_of (And.imp Same.store_of (And.imp Same.ctl_of (And.imp Same.path_of id))) ?_
  unfold State.sendFrame
  try dsimp only
  (repeat' split) <;> simp

@[simp] theorem State.sendFrames_frame : ∀ s x1 x2 x3, Same.quiet s (State.sendFrames s x1 x2 x3) ∧ Same.store s (State.sendFrames s x1 x2 x3) ∧ Same.ctl s (State.sendFrames s x1 x2 x3) ∧ Same.path s (State.sendFrames s x1 x2 x3) ∧ (State.sendFrames s x1 x2 x3).regs = s.regs ∧ (State.sendFrames s x1 x2 x3).log = s.log ∧ (State.sendFrames s x1 x2 x3).pair = s.pair ∧ (State.sendFrames s x1 x2 x3).vlt = s.vlt ∧ (State.sendFrames s x1 x2 x3).net = s.net ∧ (State.sendFrames s x1 x2 x3).cxl = s.cxl := by
  intro s x1 x2 x3
  refine And.imp Same.quiet_of (And.imp Same.store_of (And.imp Same.ctl_of (And.imp Same.path_of id))) ?_
  revert s x1 x2 x3
  intro s x1 x2 x3
  induction x3 generalizing s with
  | zero => simp [State.sendFrames]
  | succ k ih =>
    unfold State.sendFrames
    split <;> simp [ih]

@[simp] theorem State.drainN_frame : ∀ x0 s, Same.quiet s (State.drainN x0 s) ∧ Same.store s (State.drainN x0 s) ∧ Same.ctl s (State.drainN x0 s) ∧ Same.path s (State.drainN x0 s) ∧ (State.drainN x0 s).regs = s.regs ∧ (State.drainN x0 s).log = s.log ∧ (State.drainN x0 s).pair = s.pair ∧ (State.drainN x0 s).vlt = s.vlt ∧ (State.drainN x0 s).net = s.net ∧ (State.drainN x0 s).cxl = s.cxl := by
  intro x0 s
  refine And.imp Same.quiet_of (And.imp Same.store_of (And.imp Same.ctl_of (And.imp Same.path_of id))) ?_
  revert x0 s
  intro x0 s
  induction x0 generalizing s with
  | zero => simp [State.drainN]
  | succ k ih =>
    unfold State.drainN
    try dsimp only
    (repeat' split) <;> simp [ih]

@[simp] theorem State.drainLink_frame : ∀ s, Same.quiet s (State.drainLink s) ∧ Same.store s (State.drainLink s) ∧ Same.ctl s (State.drainLink s) ∧ Same.path s (State.drainLink s) ∧ (State.drainLink s).regs = s.regs ∧ (State.drainLink s).log = s.log ∧ (State.drainLink s).pair = s.pair ∧ (State.drainLink s).vlt = s.vlt ∧ (State.drainLink s).net = s.net ∧ (State.drainLink s).cxl = s.cxl := by
  intro s
  refine And.imp Same.quiet_of (And.imp Same.store_of (And.imp Same.ctl_of (And.imp Same.path_of id))) ?_
  unfold State.drainLink
  try dsimp only
  (repeat' split) <;> simp

@[simp] theorem State.hand_frame : ∀ s x1 x2 x3, Same.quiet s (State.hand s x1 x2 x3) ∧ Same.store s (State.hand s x1 x2 x3) ∧ Same.ctl s (State.hand s x1 x2 x3) ∧ Same.path s (State.hand s x1 x2 x3) ∧ (State.hand s x1 x2 x3).regs = s.regs ∧ (State.hand s x1 x2 x3).log = s.log ∧ (State.hand s x1 x2 x3).pair = s.pair ∧ (State.hand s x1 x2 x3).vlt = s.vlt ∧ (State.hand s x1 x2 x3).net = s.net ∧ (State.hand s x1 x2 x3).cxl = s.cxl := by
  intro s x1 x2 x3
  refine And.imp Same.quiet_of (And.imp Same.store_of (And.imp Same.ctl_of (And.imp Same.path_of id))) ?_
  unfold State.hand
  try dsimp only
  (repeat' split) <;> simp

@[simp] theorem State.handNew_frame : ∀ s x1 x2, Same.quiet s (State.handNew s x1 x2) ∧ Same.store s (State.handNew s x1 x2) ∧ Same.ctl s (State.handNew s x1 x2) ∧ Same.path s (State.handNew s x1 x2) ∧ (State.handNew s x1 x2).regs = s.regs ∧ (State.handNew s x1 x2).log = s.log ∧ (State.handNew s x1 x2).pair = s.pair ∧ (State.handNew s x1 x2).vlt = s.vlt ∧ (State.handNew s x1 x2).net = s.net ∧ (State.handNew s x1 x2).cxl = s.cxl := by
  intro s x1 x2
  refine And.imp Same.quiet_of (And.imp Same.store_of (And.imp Same.ctl_of (And.imp Same.path_of id))) ?_
  unfold State.handNew
  try dsimp only
  (repeat' split) <;> simp

@[simp] theorem State.setEntry_frame : ∀ s x1 x2, Same.quiet s (State.setEntry s x1 x2) ∧ Same.store s (State.setEntry s x1 x2) ∧ Same.ctl s (State.setEntry s x1 x2) ∧ Same.links s (State.setEntry s x1 x2) ∧ (State.setEntry s x1 x2).out = s.out ∧ (State.setEntry s x1 x2).regs = s.regs ∧ (State.setEntry s x1 x2).ctrs = s.ctrs ∧ (State.setEntry s x1 x2).log = s.log ∧ (State.setEntry s x1 x2).addr = s.addr ∧ (State.setEntry s x1 x2).tier = s.tier ∧ (State.setEntry s x1 x2).lc = s.lc ∧ (State.setEntry s x1 x2).ch = s.ch ∧ (State.setEntry s x1 x2).ec = s.ec := by
  intro s x1 x2
  refine And.imp Same.quiet_of (And.imp Same.store_of (And.imp Same.ctl_of (And.imp Same.links_of id))) ?_
  unfold State.setEntry
  try dsimp only
  (repeat' split) <;> simp

@[simp] theorem State.sendOwed_frame : ∀ s x1, Same.quiet s (State.sendOwed s x1) ∧ Same.store s (State.sendOwed s x1) ∧ Same.ctl s (State.sendOwed s x1) ∧ (State.sendOwed s x1).regs = s.regs ∧ (State.sendOwed s x1).log = s.log ∧ (State.sendOwed s x1).addr = s.addr ∧ (State.sendOwed s x1).tier = s.tier ∧ (State.sendOwed s x1).lc = s.lc ∧ (State.sendOwed s x1).ch = s.ch ∧ (State.sendOwed s x1).ec = s.ec ∧ (State.sendOwed s x1).vlt = s.vlt ∧ (State.sendOwed s x1).net = s.net ∧ (State.sendOwed s x1).cxl = s.cxl := by
  intro s x1
  refine And.imp Same.quiet_of (And.imp Same.store_of (And.imp Same.ctl_of id)) ?_
  unfold State.sendOwed
  try dsimp only
  (repeat' split) <;> simp

@[simp] theorem State.depart_frame : ∀ s, Same.quiet s (State.depart s) ∧ Same.store s (State.depart s) ∧ Same.ctl s (State.depart s) ∧ (State.depart s).regs = s.regs ∧ (State.depart s).log = s.log ∧ (State.depart s).addr = s.addr ∧ (State.depart s).tier = s.tier ∧ (State.depart s).lc = s.lc ∧ (State.depart s).ch = s.ch ∧ (State.depart s).ec = s.ec ∧ (State.depart s).net = s.net ∧ (State.depart s).cxl = s.cxl := by
  intro s
  refine And.imp Same.quiet_of (And.imp Same.store_of (And.imp Same.ctl_of id)) ?_
  unfold State.depart
  try dsimp only
  (repeat' split) <;> simp

@[simp] theorem State.setExtPair_frame : ∀ s x1 x2, Same.quiet s (State.setExtPair s x1 x2) ∧ Same.store s (State.setExtPair s x1 x2) ∧ Same.ctl s (State.setExtPair s x1 x2) ∧ Same.path s (State.setExtPair s x1 x2) ∧ (State.setExtPair s x1 x2).out = s.out ∧ (State.setExtPair s x1 x2).regs = s.regs ∧ (State.setExtPair s x1 x2).ctrs = s.ctrs ∧ (State.setExtPair s x1 x2).log = s.log ∧ (State.setExtPair s x1 x2).twl = s.twl ∧ (State.setExtPair s x1 x2).vlt = s.vlt ∧ (State.setExtPair s x1 x2).net = s.net ∧ (State.setExtPair s x1 x2).cxl = s.cxl := by
  intro s x1 x2
  refine And.imp Same.quiet_of (And.imp Same.store_of (And.imp Same.ctl_of (And.imp Same.path_of id))) ?_
  unfold State.setExtPair
  try dsimp only
  (repeat' split) <;> simp

@[simp] theorem State.seal_frame : ∀ s, Same.quiet s (State.seal s) ∧ Same.store s (State.seal s) ∧ Same.ctl s (State.seal s) ∧ (State.seal s).regs = s.regs ∧ (State.seal s).addr = s.addr ∧ (State.seal s).tier = s.tier ∧ (State.seal s).lc = s.lc ∧ (State.seal s).ec = s.ec ∧ (State.seal s).net = s.net ∧ (State.seal s).cxl = s.cxl := by
  intro s
  refine And.imp Same.quiet_of (And.imp Same.store_of (And.imp Same.ctl_of id)) ?_
  unfold State.seal
  try dsimp only
  (repeat' split) <;> simp

@[simp] theorem State.enterPreserve_frame : ∀ s x1, Same.quiet s (State.enterPreserve s x1) ∧ Same.store s (State.enterPreserve s x1) ∧ (State.enterPreserve s x1).regs = s.regs ∧ (State.enterPreserve s x1).pwr = s.pwr ∧ (State.enterPreserve s x1).addr = s.addr ∧ (State.enterPreserve s x1).tier = s.tier ∧ (State.enterPreserve s x1).lc = s.lc ∧ (State.enterPreserve s x1).ec = s.ec ∧ (State.enterPreserve s x1).net = s.net ∧ (State.enterPreserve s x1).cxl = s.cxl ∧ (State.enterPreserve s x1).flt = s.flt := by
  intro s x1
  refine And.imp Same.quiet_of (And.imp Same.store_of id) ?_
  unfold State.enterPreserve
  try dsimp only
  (repeat' split) <;> simp

@[simp] theorem State.offRequest_frame : ∀ s x1, Same.quiet s (State.offRequest s x1) ∧ Same.store s (State.offRequest s x1) ∧ (State.offRequest s x1).regs = s.regs ∧ (State.offRequest s x1).addr = s.addr ∧ (State.offRequest s x1).tier = s.tier ∧ (State.offRequest s x1).lc = s.lc ∧ (State.offRequest s x1).ec = s.ec ∧ (State.offRequest s x1).net = s.net ∧ (State.offRequest s x1).flt = s.flt := by
  intro s x1
  refine And.imp Same.quiet_of (And.imp Same.store_of id) ?_
  unfold State.offRequest
  try dsimp only
  (repeat' split) <;> simp

@[simp] theorem State.faultOff_frame : ∀ s, Same.quiet s (State.faultOff s) ∧ Same.store s (State.faultOff s) ∧ (State.faultOff s).regs = s.regs ∧ (State.faultOff s).addr = s.addr ∧ (State.faultOff s).tier = s.tier ∧ (State.faultOff s).lc = s.lc ∧ (State.faultOff s).ec = s.ec ∧ (State.faultOff s).net = s.net ∧ (State.faultOff s).flt = s.flt := by
  intro s
  refine And.imp Same.quiet_of (And.imp Same.store_of id) ?_
  unfold State.faultOff
  try dsimp only
  (repeat' split) <;> simp

@[simp] theorem State.setChan_frame : ∀ s x1 x2, Same.quiet s (State.setChan s x1 x2) ∧ Same.store s (State.setChan s x1 x2) ∧ Same.ctl s (State.setChan s x1 x2) ∧ Same.links s (State.setChan s x1 x2) ∧ (State.setChan s x1 x2).out = s.out ∧ (State.setChan s x1 x2).regs = s.regs ∧ (State.setChan s x1 x2).ctrs = s.ctrs ∧ (State.setChan s x1 x2).log = s.log ∧ (State.setChan s x1 x2).addr = s.addr ∧ (State.setChan s x1 x2).trk = s.trk ∧ (State.setChan s x1 x2).tier = s.tier ∧ (State.setChan s x1 x2).lc = s.lc ∧ (State.setChan s x1 x2).ec = s.ec := by
  intro s x1 x2
  refine And.imp Same.quiet_of (And.imp Same.store_of (And.imp Same.ctl_of (And.imp Same.links_of id))) ?_
  unfold State.setChan
  try dsimp only
  (repeat' split) <;> simp

@[simp] theorem State.markRetired_frame : ∀ s x1, Same.quiet s (State.markRetired s x1) ∧ Same.store s (State.markRetired s x1) ∧ Same.ctl s (State.markRetired s x1) ∧ Same.links s (State.markRetired s x1) ∧ (State.markRetired s x1).out = s.out ∧ (State.markRetired s x1).ctrs = s.ctrs ∧ (State.markRetired s x1).log = s.log ∧ (State.markRetired s x1).addr = s.addr ∧ (State.markRetired s x1).trk = s.trk ∧ (State.markRetired s x1).tier = s.tier ∧ (State.markRetired s x1).lc = s.lc := by
  intro s x1
  refine And.imp Same.quiet_of (And.imp Same.store_of (And.imp Same.ctl_of (And.imp Same.links_of id))) ?_
  unfold State.markRetired
  try dsimp only
  (repeat' split) <;> simp

@[simp] theorem State.assistDone_frame : ∀ s x1, Same.quiet s (State.assistDone s x1) ∧ Same.store s (State.assistDone s x1) ∧ Same.ctl s (State.assistDone s x1) ∧ (State.assistDone s x1).regs = s.regs ∧ (State.assistDone s x1).log = s.log ∧ (State.assistDone s x1).addr = s.addr ∧ (State.assistDone s x1).pair = s.pair ∧ (State.assistDone s x1).tier = s.tier ∧ (State.assistDone s x1).lc = s.lc ∧ (State.assistDone s x1).ch = s.ch ∧ (State.assistDone s x1).ec = s.ec ∧ (State.assistDone s x1).vlt = s.vlt ∧ (State.assistDone s x1).net = s.net ∧ (State.assistDone s x1).cxl = s.cxl := by
  intro s x1
  refine And.imp Same.quiet_of (And.imp Same.store_of (And.imp Same.ctl_of id)) ?_
  unfold State.assistDone
  try dsimp only
  (repeat' split) <;> simp

@[simp] theorem State.bumpLink_frame : ∀ s x1 x2 x3, Same.quiet s (State.bumpLink s x1 x2 x3) ∧ Same.store s (State.bumpLink s x1 x2 x3) ∧ Same.ctl s (State.bumpLink s x1 x2 x3) ∧ Same.path s (State.bumpLink s x1 x2 x3) ∧ Same.links s (State.bumpLink s x1 x2 x3) ∧ (State.bumpLink s x1 x2 x3).out = s.out ∧ (State.bumpLink s x1 x2 x3).regs = s.regs ∧ (State.bumpLink s x1 x2 x3).log = s.log := by
  intro s x1 x2 x3
  refine And.imp Same.quiet_of (And.imp Same.store_of (And.imp Same.ctl_of (And.imp Same.path_of (And.imp Same.links_of id)))) ?_
  unfold State.bumpLink
  try dsimp only
  (repeat' split) <;> simp

@[simp] theorem State.setPort_frame : ∀ s x1 x2, Same.quiet s (State.setPort s x1 x2) ∧ Same.store s (State.setPort s x1 x2) ∧ Same.ctl s (State.setPort s x1 x2) ∧ Same.path s (State.setPort s x1 x2) ∧ (State.setPort s x1 x2).out = s.out ∧ (State.setPort s x1 x2).regs = s.regs ∧ (State.setPort s x1 x2).ctrs = s.ctrs ∧ (State.setPort s x1 x2).log = s.log ∧ (State.setPort s x1 x2).twl = s.twl ∧ (State.setPort s x1 x2).pair = s.pair ∧ (State.setPort s x1 x2).vlt = s.vlt ∧ (State.setPort s x1 x2).net = s.net := by
  intro s x1 x2
  refine And.imp Same.quiet_of (And.imp Same.store_of (And.imp Same.ctl_of (And.imp Same.path_of id))) ?_
  unfold State.setPort
  try dsimp only
  (repeat' split) <;> simp

@[simp] theorem State.setLink_frame : ∀ s x1 x2 x3, Same.quiet s (State.setLink s x1 x2 x3) ∧ Same.store s (State.setLink s x1 x2 x3) ∧ Same.ctl s (State.setLink s x1 x2 x3) ∧ Same.path s (State.setLink s x1 x2 x3) ∧ (State.setLink s x1 x2 x3).out = s.out ∧ (State.setLink s x1 x2 x3).regs = s.regs ∧ (State.setLink s x1 x2 x3).ctrs = s.ctrs ∧ (State.setLink s x1 x2 x3).log = s.log ∧ (State.setLink s x1 x2 x3).twl = s.twl ∧ (State.setLink s x1 x2 x3).pair = s.pair ∧ (State.setLink s x1 x2 x3).vlt = s.vlt ∧ (State.setLink s x1 x2 x3).net = s.net := by
  intro s x1 x2 x3
  refine And.imp Same.quiet_of (And.imp Same.store_of (And.imp Same.ctl_of (And.imp Same.path_of id))) ?_
  unfold State.setLink
  try dsimp only
  (repeat' split) <;> simp

@[simp] theorem State.returnCredit_frame : ∀ s x1 x2, Same.quiet s (State.returnCredit s x1 x2) ∧ Same.store s (State.returnCredit s x1 x2) ∧ Same.ctl s (State.returnCredit s x1 x2) ∧ Same.path s (State.returnCredit s x1 x2) ∧ (State.returnCredit s x1 x2).regs = s.regs ∧ (State.returnCredit s x1 x2).ctrs = s.ctrs ∧ (State.returnCredit s x1 x2).log = s.log ∧ (State.returnCredit s x1 x2).twl = s.twl ∧ (State.returnCredit s x1 x2).pair = s.pair ∧ (State.returnCredit s x1 x2).vlt = s.vlt ∧ (State.returnCredit s x1 x2).net = s.net := by
  intro s x1 x2
  refine And.imp Same.quiet_of (And.imp Same.store_of (And.imp Same.ctl_of (And.imp Same.path_of id))) ?_
  unfold State.returnCredit
  try dsimp only
  (repeat' split) <;> simp

@[simp] theorem State.grant_frame : ∀ s x1, Same.quiet s (State.grant s x1).1 ∧ Same.store s (State.grant s x1).1 ∧ Same.ctl s (State.grant s x1).1 ∧ (State.grant s x1).1.ctrs = s.ctrs ∧ (State.grant s x1).1.log = s.log ∧ (State.grant s x1).1.addr = s.addr ∧ (State.grant s x1).1.twl = s.twl ∧ (State.grant s x1).1.pair = s.pair ∧ (State.grant s x1).1.tier = s.tier ∧ (State.grant s x1).1.lc = s.lc ∧ (State.grant s x1).1.ch = s.ch ∧ (State.grant s x1).1.ec = s.ec ∧ (State.grant s x1).1.vlt = s.vlt ∧ (State.grant s x1).1.net = s.net := by
  intro s x1
  refine And.imp Same.quiet_of (And.imp Same.store_of (And.imp Same.ctl_of id)) ?_
  unfold State.grant
  try dsimp only
  (repeat' split) <;> simp

@[simp] theorem State.holdBack_frame : ∀ s x1, Same.quiet s (State.holdBack s x1) ∧ Same.store s (State.holdBack s x1) ∧ Same.ctl s (State.holdBack s x1) ∧ Same.links s (State.holdBack s x1) ∧ (State.holdBack s x1).out = s.out ∧ (State.holdBack s x1).regs = s.regs ∧ (State.holdBack s x1).log = s.log ∧ (State.holdBack s x1).addr = s.addr ∧ (State.holdBack s x1).tier = s.tier ∧ (State.holdBack s x1).lc = s.lc ∧ (State.holdBack s x1).ch = s.ch ∧ (State.holdBack s x1).ec = s.ec := by
  intro s x1
  refine And.imp Same.quiet_of (And.imp Same.store_of (And.imp Same.ctl_of (And.imp Same.links_of id))) ?_
  unfold State.holdBack
  try dsimp only
  (repeat' split) <;> simp

@[simp] theorem State.request_frame : ∀ s x1, Same.quiet s (State.request s x1).1 ∧ Same.store s (State.request s x1).1 ∧ Same.ctl s (State.request s x1).1 ∧ (State.request s x1).1.log = s.log ∧ (State.request s x1).1.addr = s.addr ∧ (State.request s x1).1.twl = s.twl ∧ (State.request s x1).1.pair = s.pair ∧ (State.request s x1).1.tier = s.tier ∧ (State.request s x1).1.lc = s.lc ∧ (State.request s x1).1.ch = s.ch ∧ (State.request s x1).1.ec = s.ec ∧ (State.request s x1).1.vlt = s.vlt ∧ (State.request s x1).1.net = s.net := by
  intro s x1
  refine And.imp Same.quiet_of (And.imp Same.store_of (And.imp Same.ctl_of id)) ?_
  unfold State.request
  try dsimp only
  (repeat' split) <;> simp

@[simp] theorem State.beginRead_frame : ∀ s x1 x2, Same.quiet s (State.beginRead s x1 x2) ∧ Same.store s (State.beginRead s x1 x2) ∧ Same.ctl s (State.beginRead s x1 x2) ∧ (State.beginRead s x1 x2).log = s.log ∧ (State.beginRead s x1 x2).addr = s.addr ∧ (State.beginRead s x1 x2).twl = s.twl ∧ (State.beginRead s x1 x2).pair = s.pair ∧ (State.beginRead s x1 x2).tier = s.tier ∧ (State.beginRead s x1 x2).lc = s.lc ∧ (State.beginRead s x1 x2).ch = s.ch ∧ (State.beginRead s x1 x2).ec = s.ec ∧ (State.beginRead s x1 x2).vlt = s.vlt ∧ (State.beginRead s x1 x2).net = s.net := by
  intro s x1 x2
  refine And.imp Same.quiet_of (And.imp Same.store_of (And.imp Same.ctl_of id)) ?_
  unfold State.beginRead
  try dsimp only
  (repeat' split) <;> simp

@[simp] theorem State.connGone_frame : ∀ s x1, Same.quiet s (State.connGone s x1) ∧ Same.store s (State.connGone s x1) ∧ Same.ctl s (State.connGone s x1) ∧ Same.path s (State.connGone s x1) ∧ (State.connGone s x1).out = s.out ∧ (State.connGone s x1).regs = s.regs ∧ (State.connGone s x1).ctrs = s.ctrs ∧ (State.connGone s x1).log = s.log ∧ (State.connGone s x1).twl = s.twl ∧ (State.connGone s x1).pair = s.pair ∧ (State.connGone s x1).vlt = s.vlt ∧ (State.connGone s x1).cxl = s.cxl := by
  intro s x1
  refine And.imp Same.quiet_of (And.imp Same.store_of (And.imp Same.ctl_of (And.imp Same.path_of id))) ?_
  unfold State.connGone
  try dsimp only
  (repeat' split) <;> simp

@[simp] theorem State.epochLeave_frame : ∀ s x1, Same.quiet s (State.epochLeave s x1) ∧ Same.store s (State.epochLeave s x1) ∧ Same.ctl s (State.epochLeave s x1) ∧ Same.path s (State.epochLeave s x1) ∧ (State.epochLeave s x1).out = s.out ∧ (State.epochLeave s x1).regs = s.regs ∧ (State.epochLeave s x1).ctrs = s.ctrs ∧ (State.epochLeave s x1).log = s.log ∧ (State.epochLeave s x1).twl = s.twl ∧ (State.epochLeave s x1).pair = s.pair ∧ (State.epochLeave s x1).vlt = s.vlt ∧ (State.epochLeave s x1).cxl = s.cxl := by
  intro s x1
  refine And.imp Same.quiet_of (And.imp Same.store_of (And.imp Same.ctl_of (And.imp Same.path_of id))) ?_
  unfold State.epochLeave
  try dsimp only
  (repeat' split) <;> simp

@[simp] theorem State.setConn_frame : ∀ s x1 x2, Same.quiet s (State.setConn s x1 x2) ∧ Same.store s (State.setConn s x1 x2) ∧ Same.ctl s (State.setConn s x1 x2) ∧ Same.path s (State.setConn s x1 x2) ∧ (State.setConn s x1 x2).out = s.out ∧ (State.setConn s x1 x2).regs = s.regs ∧ (State.setConn s x1 x2).ctrs = s.ctrs ∧ (State.setConn s x1 x2).log = s.log ∧ (State.setConn s x1 x2).twl = s.twl ∧ (State.setConn s x1 x2).pair = s.pair ∧ (State.setConn s x1 x2).vlt = s.vlt ∧ (State.setConn s x1 x2).cxl = s.cxl := by
  intro s x1 x2
  refine And.imp Same.quiet_of (And.imp Same.store_of (And.imp Same.ctl_of (And.imp Same.path_of id))) ?_
  unfold State.setConn
  try dsimp only
  (repeat' split) <;> simp

@[simp] theorem State.dropOp_frame : ∀ s x1 x2, Same.quiet s (State.dropOp s x1 x2) ∧ Same.store s (State.dropOp s x1 x2) ∧ Same.ctl s (State.dropOp s x1 x2) ∧ Same.path s (State.dropOp s x1 x2) ∧ (State.dropOp s x1 x2).out = s.out ∧ (State.dropOp s x1 x2).regs = s.regs ∧ (State.dropOp s x1 x2).ctrs = s.ctrs ∧ (State.dropOp s x1 x2).log = s.log ∧ (State.dropOp s x1 x2).twl = s.twl ∧ (State.dropOp s x1 x2).pair = s.pair ∧ (State.dropOp s x1 x2).vlt = s.vlt ∧ (State.dropOp s x1 x2).cxl = s.cxl := by
  intro s x1 x2
  refine And.imp Same.quiet_of (And.imp Same.store_of (And.imp Same.ctl_of (And.imp Same.path_of id))) ?_
  unfold State.dropOp
  try dsimp only
  (repeat' split) <;> simp

@[simp] theorem State.setEthPort_frame : ∀ s x1 x2 x3, Same.quiet s (State.setEthPort s x1 x2 x3) ∧ Same.store s (State.setEthPort s x1 x2 x3) ∧ Same.ctl s (State.setEthPort s x1 x2 x3) ∧ Same.path s (State.setEthPort s x1 x2 x3) ∧ (State.setEthPort s x1 x2 x3).out = s.out ∧ (State.setEthPort s x1 x2 x3).regs = s.regs ∧ (State.setEthPort s x1 x2 x3).ctrs = s.ctrs ∧ (State.setEthPort s x1 x2 x3).log = s.log ∧ (State.setEthPort s x1 x2 x3).twl = s.twl ∧ (State.setEthPort s x1 x2 x3).pair = s.pair ∧ (State.setEthPort s x1 x2 x3).vlt = s.vlt ∧ (State.setEthPort s x1 x2 x3).cxl = s.cxl := by
  intro s x1 x2 x3
  refine And.imp Same.quiet_of (And.imp Same.store_of (And.imp Same.ctl_of (And.imp Same.path_of id))) ?_
  unfold State.setEthPort
  try dsimp only
  (repeat' split) <;> simp

@[simp] theorem State.sendFrameEth_frame : ∀ s x1, Same.quiet s (State.sendFrameEth s x1) ∧ Same.store s (State.sendFrameEth s x1) ∧ Same.ctl s (State.sendFrameEth s x1) ∧ Same.path s (State.sendFrameEth s x1) ∧ (State.sendFrameEth s x1).regs = s.regs ∧ (State.sendFrameEth s x1).log = s.log ∧ (State.sendFrameEth s x1).twl = s.twl ∧ (State.sendFrameEth s x1).pair = s.pair ∧ (State.sendFrameEth s x1).vlt = s.vlt ∧ (State.sendFrameEth s x1).cxl = s.cxl := by
  intro s x1
  refine And.imp Same.quiet_of (And.imp Same.store_of (And.imp Same.ctl_of (And.imp Same.path_of id))) ?_
  unfold State.sendFrameEth
  try dsimp only
  (repeat' split) <;> simp

@[simp] theorem State.sendAck_frame : ∀ s x1 x2, Same.quiet s (State.sendAck s x1 x2) ∧ Same.store s (State.sendAck s x1 x2) ∧ Same.ctl s (State.sendAck s x1 x2) ∧ Same.path s (State.sendAck s x1 x2) ∧ (State.sendAck s x1 x2).regs = s.regs ∧ (State.sendAck s x1 x2).log = s.log ∧ (State.sendAck s x1 x2).twl = s.twl ∧ (State.sendAck s x1 x2).pair = s.pair ∧ (State.sendAck s x1 x2).vlt = s.vlt ∧ (State.sendAck s x1 x2).cxl = s.cxl := by
  intro s x1 x2
  refine And.imp Same.quiet_of (And.imp Same.store_of (And.imp Same.ctl_of (And.imp Same.path_of id))) ?_
  unfold State.sendAck
  try dsimp only
  (repeat' split) <;> simp

@[simp] theorem State.messageDone_frame : ∀ s x1 x2 x3 x4, Same.quiet s (State.messageDone s x1 x2 x3 x4) ∧ Same.store s (State.messageDone s x1 x2 x3 x4) ∧ Same.ctl s (State.messageDone s x1 x2 x3 x4) ∧ Same.path s (State.messageDone s x1 x2 x3 x4) ∧ (State.messageDone s x1 x2 x3 x4).regs = s.regs ∧ (State.messageDone s x1 x2 x3 x4).log = s.log ∧ (State.messageDone s x1 x2 x3 x4).twl = s.twl ∧ (State.messageDone s x1 x2 x3 x4).pair = s.pair ∧ (State.messageDone s x1 x2 x3 x4).vlt = s.vlt ∧ (State.messageDone s x1 x2 x3 x4).cxl = s.cxl := by
  intro s x1 x2 x3 x4
  refine And.imp Same.quiet_of (And.imp Same.store_of (And.imp Same.ctl_of (And.imp Same.path_of id))) ?_
  unfold State.messageDone
  try dsimp only
  (repeat' split) <;> simp

@[simp] theorem State.nakError_frame : ∀ s x1 x2 x3 x4, Same.quiet s (State.nakError s x1 x2 x3 x4) ∧ Same.store s (State.nakError s x1 x2 x3 x4) ∧ Same.ctl s (State.nakError s x1 x2 x3 x4) ∧ Same.path s (State.nakError s x1 x2 x3 x4) ∧ (State.nakError s x1 x2 x3 x4).regs = s.regs ∧ (State.nakError s x1 x2 x3 x4).log = s.log ∧ (State.nakError s x1 x2 x3 x4).twl = s.twl ∧ (State.nakError s x1 x2 x3 x4).pair = s.pair ∧ (State.nakError s x1 x2 x3 x4).vlt = s.vlt ∧ (State.nakError s x1 x2 x3 x4).cxl = s.cxl := by
  intro s x1 x2 x3 x4
  refine And.imp Same.quiet_of (And.imp Same.store_of (And.imp Same.ctl_of (And.imp Same.path_of id))) ?_
  unfold State.nakError
  try dsimp only
  (repeat' split) <;> simp

@[simp] theorem State.setOp_frame : ∀ s x1 x2, Same.quiet s (State.setOp s x1 x2) ∧ Same.store s (State.setOp s x1 x2) ∧ Same.ctl s (State.setOp s x1 x2) ∧ Same.path s (State.setOp s x1 x2) ∧ (State.setOp s x1 x2).out = s.out ∧ (State.setOp s x1 x2).regs = s.regs ∧ (State.setOp s x1 x2).ctrs = s.ctrs ∧ (State.setOp s x1 x2).log = s.log ∧ (State.setOp s x1 x2).twl = s.twl ∧ (State.setOp s x1 x2).pair = s.pair ∧ (State.setOp s x1 x2).vlt = s.vlt ∧ (State.setOp s x1 x2).cxl = s.cxl := by
  intro s x1 x2
  refine And.imp Same.quiet_of (And.imp Same.store_of (And.imp Same.ctl_of (And.imp Same.path_of id))) ?_
  unfold State.setOp
  try dsimp only
  (repeat' split) <;> simp

@[simp] theorem State.sendReads_frame : ∀ x0 s x2 x3, Same.quiet s (State.sendReads x0 s x2 x3) ∧ Same.store s (State.sendReads x0 s x2 x3) ∧ Same.ctl s (State.sendReads x0 s x2 x3) ∧ Same.path s (State.sendReads x0 s x2 x3) ∧ (State.sendReads x0 s x2 x3).regs = s.regs ∧ (State.sendReads x0 s x2 x3).twl = s.twl ∧ (State.sendReads x0 s x2 x3).pair = s.pair ∧ (State.sendReads x0 s x2 x3).vlt = s.vlt ∧ (State.sendReads x0 s x2 x3).cxl = s.cxl := by
  intro x0 s x2 x3
  refine And.imp Same.quiet_of (And.imp Same.store_of (And.imp Same.ctl_of (And.imp Same.path_of id))) ?_
  revert x0 s x2 x3
  intro x0 s x2 x3
  induction x0 generalizing s x2 x3 with
  | zero => simp [State.sendReads]
  | succ k ih =>
    unfold State.sendReads
    try dsimp only
    (repeat' split) <;> simp [ih]

@[simp] theorem State.connStep_frame : ∀ x0 s x2, Same.quiet s (State.connStep x0 s x2) ∧ Same.store s (State.connStep x0 s x2) ∧ Same.ctl s (State.connStep x0 s x2) ∧ (State.connStep x0 s x2).addr = s.addr ∧ (State.connStep x0 s x2).pair = s.pair ∧ (State.connStep x0 s x2).tier = s.tier ∧ (State.connStep x0 s x2).lc = s.lc ∧ (State.connStep x0 s x2).ch = s.ch ∧ (State.connStep x0 s x2).ec = s.ec ∧ (State.connStep x0 s x2).vlt = s.vlt := by
  intro x0 s x2
  refine And.imp Same.quiet_of (And.imp Same.store_of (And.imp Same.ctl_of id)) ?_
  revert x0 s x2
  intro x0 s x2
  induction x0 generalizing s x2 with
  | zero => simp [State.connStep]
  | succ k ih =>
    unfold State.connStep
    try dsimp only
    (repeat' split) <;> simp [ih]

@[simp] theorem State.connRun_frame : ∀ s x1, Same.quiet s (State.connRun s x1) ∧ Same.store s (State.connRun s x1) ∧ Same.ctl s (State.connRun s x1) ∧ (State.connRun s x1).addr = s.addr ∧ (State.connRun s x1).pair = s.pair ∧ (State.connRun s x1).tier = s.tier ∧ (State.connRun s x1).lc = s.lc ∧ (State.connRun s x1).ch = s.ch ∧ (State.connRun s x1).ec = s.ec ∧ (State.connRun s x1).vlt = s.vlt := by
  intro s x1
  refine And.imp Same.quiet_of (And.imp Same.store_of (And.imp Same.ctl_of id)) ?_
  unfold State.connRun
  try dsimp only
  (repeat' split) <;> simp

@[simp] theorem State.netLine_frame : ∀ s x1 x2 x3 x4, Same.quiet s (State.netLine s x1 x2 x3 x4) ∧ Same.store s (State.netLine s x1 x2 x3 x4) ∧ Same.ctl s (State.netLine s x1 x2 x3 x4) ∧ (State.netLine s x1 x2 x3 x4).addr = s.addr ∧ (State.netLine s x1 x2 x3 x4).pair = s.pair ∧ (State.netLine s x1 x2 x3 x4).tier = s.tier ∧ (State.netLine s x1 x2 x3 x4).lc = s.lc ∧ (State.netLine s x1 x2 x3 x4).ch = s.ch ∧ (State.netLine s x1 x2 x3 x4).ec = s.ec ∧ (State.netLine s x1 x2 x3 x4).vlt = s.vlt := by
  intro s x1 x2 x3 x4
  refine And.imp Same.quiet_of (And.imp Same.store_of (And.imp Same.ctl_of id)) ?_
  unfold State.netLine
  try dsimp only
  (repeat' split) <;> simp

@[simp] theorem State.setFunc_frame : ∀ s x1 x2, Same.quiet s (State.setFunc s x1 x2) ∧ Same.store s (State.setFunc s x1 x2) ∧ Same.ctl s (State.setFunc s x1 x2) ∧ Same.path s (State.setFunc s x1 x2) ∧ (State.setFunc s x1 x2).out = s.out ∧ (State.setFunc s x1 x2).regs = s.regs ∧ (State.setFunc s x1 x2).ctrs = s.ctrs ∧ (State.setFunc s x1 x2).log = s.log ∧ (State.setFunc s x1 x2).twl = s.twl ∧ (State.setFunc s x1 x2).pair = s.pair ∧ (State.setFunc s x1 x2).vlt = s.vlt ∧ (State.setFunc s x1 x2).net = s.net := by
  intro s x1 x2
  refine And.imp Same.quiet_of (And.imp Same.store_of (And.imp Same.ctl_of (And.imp Same.path_of id))) ?_
  unfold State.setFunc
  try dsimp only
  (repeat' split) <;> simp

@[simp] theorem State.event_frame : ∀ s x1 x2 x3 x4 x5, Same.quiet s (State.event s x1 x2 x3 x4 x5) ∧ Same.store s (State.event s x1 x2 x3 x4 x5) ∧ Same.ctl s (State.event s x1 x2 x3 x4 x5) ∧ Same.path s (State.event s x1 x2 x3 x4 x5) ∧ (State.event s x1 x2 x3 x4 x5).regs = s.regs ∧ (State.event s x1 x2 x3 x4 x5).ctrs = s.ctrs ∧ (State.event s x1 x2 x3 x4 x5).log = s.log ∧ (State.event s x1 x2 x3 x4 x5).twl = s.twl ∧ (State.event s x1 x2 x3 x4 x5).pair = s.pair ∧ (State.event s x1 x2 x3 x4 x5).vlt = s.vlt ∧ (State.event s x1 x2 x3 x4 x5).net = s.net := by
  intro s x1 x2 x3 x4 x5
  refine And.imp Same.quiet_of (And.imp Same.store_of (And.imp Same.ctl_of (And.imp Same.path_of id))) ?_
  unfold State.event
  try dsimp only
  (repeat' split) <;> simp

@[simp] theorem State.gmEvent_frame : ∀ s x1 x2 x3, Same.quiet s (State.gmEvent s x1 x2 x3) ∧ Same.store s (State.gmEvent s x1 x2 x3) ∧ Same.ctl s (State.gmEvent s x1 x2 x3) ∧ Same.path s (State.gmEvent s x1 x2 x3) ∧ (State.gmEvent s x1 x2 x3).regs = s.regs ∧ (State.gmEvent s x1 x2 x3).ctrs = s.ctrs ∧ (State.gmEvent s x1 x2 x3).log = s.log ∧ (State.gmEvent s x1 x2 x3).twl = s.twl ∧ (State.gmEvent s x1 x2 x3).pair = s.pair ∧ (State.gmEvent s x1 x2 x3).vlt = s.vlt ∧ (State.gmEvent s x1 x2 x3).net = s.net := by
  intro s x1 x2 x3
  refine And.imp Same.quiet_of (And.imp Same.store_of (And.imp Same.ctl_of (And.imp Same.path_of id))) ?_
  unfold State.gmEvent
  try dsimp only
  (repeat' split) <;> simp

@[simp] theorem State.poisonRead_frame : ∀ s x1 x2 x3 x4 x5, Same.quiet s (State.poisonRead s x1 x2 x3 x4 x5) ∧ Same.store s (State.poisonRead s x1 x2 x3 x4 x5) ∧ Same.ctl s (State.poisonRead s x1 x2 x3 x4 x5) ∧ Same.path s (State.poisonRead s x1 x2 x3 x4 x5) ∧ (State.poisonRead s x1 x2 x3 x4 x5).regs = s.regs ∧ (State.poisonRead s x1 x2 x3 x4 x5).log = s.log ∧ (State.poisonRead s x1 x2 x3 x4 x5).twl = s.twl ∧ (State.poisonRead s x1 x2 x3 x4 x5).pair = s.pair ∧ (State.poisonRead s x1 x2 x3 x4 x5).vlt = s.vlt ∧ (State.poisonRead s x1 x2 x3 x4 x5).net = s.net := by
  intro s x1 x2 x3 x4 x5
  refine And.imp Same.quiet_of (And.imp Same.store_of (And.imp Same.ctl_of (And.imp Same.path_of id))) ?_
  unfold State.poisonRead
  try dsimp only
  repeat' split
  all_goals try (rename_i hh; have hh' := congrArg Prod.fst hh; dsimp only at hh'; subst hh')
  all_goals try (rename_i hh; have hh' := congrArg Prod.snd hh; dsimp only at hh'; subst hh')
  all_goals simp

@[simp] theorem State.respond_frame : ∀ s x1 x2 x3 x4 x5 x6, Same.quiet s (State.respond s x1 x2 x3 x4 x5 x6) ∧ Same.store s (State.respond s x1 x2 x3 x4 x5 x6) ∧ Same.ctl s (State.respond s x1 x2 x3 x4 x5 x6) ∧ Same.path s (State.respond s x1 x2 x3 x4 x5 x6) ∧ (State.respond s x1 x2 x3 x4 x5 x6).regs = s.regs ∧ (State.respond s x1 x2 x3 x4 x5 x6).ctrs = s.ctrs ∧ (State.respond s x1 x2 x3 x4 x5 x6).log = s.log ∧ (State.respond s x1 x2 x3 x4 x5 x6).twl = s.twl ∧ (State.respond s x1 x2 x3 x4 x5 x6).pair = s.pair ∧ (State.respond s x1 x2 x3 x4 x5 x6).vlt = s.vlt ∧ (State.respond s x1 x2 x3 x4 x5 x6).net = s.net := by
  intro s x1 x2 x3 x4 x5 x6
  refine And.imp Same.quiet_of (And.imp Same.store_of (And.imp Same.ctl_of (And.imp Same.path_of id))) ?_
  unfold State.respond
  try dsimp only
  (repeat' split) <;> simp

@[simp] theorem State.complete_frame : ∀ s x1 x2 x3, Same.quiet s (State.complete s x1 x2 x3) ∧ Same.store s (State.complete s x1 x2 x3) ∧ Same.ctl s (State.complete s x1 x2 x3) ∧ (State.complete s x1 x2 x3).addr = s.addr ∧ (State.complete s x1 x2 x3).tier = s.tier ∧ (State.complete s x1 x2 x3).lc = s.lc ∧ (State.complete s x1 x2 x3).ch = s.ch ∧ (State.complete s x1 x2 x3).ec = s.ec ∧ (State.complete s x1 x2 x3).vlt = s.vlt := by
  intro s x1 x2 x3
  refine And.imp Same.quiet_of (And.imp Same.store_of (And.imp Same.ctl_of id)) ?_
  unfold State.complete
  try dsimp only
  repeat' split
  all_goals try (rename_i hh; have hh' := congrArg Prod.fst hh; dsimp only at hh'; subst hh')
  all_goals try (rename_i hh; have hh' := congrArg Prod.snd hh; dsimp only at hh'; subst hh')
  all_goals simp

@[simp] theorem State.setLset_frame : ∀ s x1 x2, Same.quiet s (State.setLset s x1 x2) ∧ Same.store s (State.setLset s x1 x2) ∧ Same.ctl s (State.setLset s x1 x2) ∧ Same.links s (State.setLset s x1 x2) ∧ (State.setLset s x1 x2).out = s.out ∧ (State.setLset s x1 x2).regs = s.regs ∧ (State.setLset s x1 x2).ctrs = s.ctrs ∧ (State.setLset s x1 x2).log = s.log ∧ (State.setLset s x1 x2).addr = s.addr ∧ (State.setLset s x1 x2).trk = s.trk ∧ (State.setLset s x1 x2).tier = s.tier ∧ (State.setLset s x1 x2).ch = s.ch ∧ (State.setLset s x1 x2).ec = s.ec := by
  intro s x1 x2
  refine And.imp Same.quiet_of (And.imp Same.store_of (And.imp Same.ctl_of (And.imp Same.links_of id))) ?_
  unfold State.setLset
  try dsimp only
  (repeat' split) <;> simp

@[simp] theorem State.remapHit_frame : ∀ s x1, Same.quiet s (State.remapHit s x1) ∧ Same.store s (State.remapHit s x1) ∧ Same.ctl s (State.remapHit s x1) ∧ Same.path s (State.remapHit s x1) ∧ Same.links s (State.remapHit s x1) ∧ (State.remapHit s x1).out = s.out ∧ (State.remapHit s x1).regs = s.regs ∧ (State.remapHit s x1).log = s.log := by
  intro s x1
  refine And.imp Same.quiet_of (And.imp Same.store_of (And.imp Same.ctl_of (And.imp Same.path_of (And.imp Same.links_of id)))) ?_
  unfold State.remapHit
  try dsimp only
  (repeat' split) <;> simp

@[simp] theorem State.bumpCh_frame : ∀ s x1 x2, Same.quiet s (State.bumpCh s x1 x2) ∧ Same.store s (State.bumpCh s x1 x2) ∧ Same.ctl s (State.bumpCh s x1 x2) ∧ Same.path s (State.bumpCh s x1 x2) ∧ Same.links s (State.bumpCh s x1 x2) ∧ (State.bumpCh s x1 x2).out = s.out ∧ (State.bumpCh s x1 x2).regs = s.regs ∧ (State.bumpCh s x1 x2).log = s.log := by
  intro s x1 x2
  refine And.imp Same.quiet_of (And.imp Same.store_of (And.imp Same.ctl_of (And.imp Same.path_of (And.imp Same.links_of id)))) ?_
  unfold State.bumpCh
  try dsimp only
  (repeat' split) <;> simp

@[simp] theorem State.setDrain_frame : ∀ s x1 x2, Same.quiet s (State.setDrain s x1 x2) ∧ Same.store s (State.setDrain s x1 x2) ∧ Same.ctl s (State.setDrain s x1 x2) ∧ Same.links s (State.setDrain s x1 x2) ∧ (State.setDrain s x1 x2).out = s.out ∧ (State.setDrain s x1 x2).regs = s.regs ∧ (State.setDrain s x1 x2).log = s.log ∧ (State.setDrain s x1 x2).addr = s.addr ∧ (State.setDrain s x1 x2).trk = s.trk ∧ (State.setDrain s x1 x2).tier = s.tier ∧ (State.setDrain s x1 x2).lc = s.lc ∧ (State.setDrain s x1 x2).ec = s.ec := by
  intro s x1 x2
  refine And.imp Same.quiet_of (And.imp Same.store_of (And.imp Same.ctl_of (And.imp Same.links_of id))) ?_
  unfold State.setDrain
  try dsimp only
  (repeat' split) <;> simp

@[simp] theorem State.toChannel_frame : ∀ s x1 x2 x3 x4 x5 x6 x7, Same.quiet s (State.toChannel s x1 x2 x3 x4 x5 x6 x7) ∧ Same.store s (State.toChannel s x1 x2 x3 x4 x5 x6 x7) ∧ Same.ctl s (State.toChannel s x1 x2 x3 x4 x5 x6 x7) ∧ Same.links s (State.toChannel s x1 x2 x3 x4 x5 x6 x7) ∧ (State.toChannel s x1 x2 x3 x4 x5 x6 x7).out = s.out ∧ (State.toChannel s x1 x2 x3 x4 x5 x6 x7).regs = s.regs ∧ (State.toChannel s x1 x2 x3 x4 x5 x6 x7).log = s.log ∧ (State.toChannel s x1 x2 x3 x4 x5 x6 x7).addr = s.addr ∧ (State.toChannel s x1 x2 x3 x4 x5 x6 x7).trk = s.trk ∧ (State.toChannel s x1 x2 x3 x4 x5 x6 x7).tier = s.tier ∧ (State.toChannel s x1 x2 x3 x4 x5 x6 x7).lc = s.lc ∧ (State.toChannel s x1 x2 x3 x4 x5 x6 x7).ec = s.ec := by
  intro s x1 x2 x3 x4 x5 x6 x7
  refine And.imp Same.quiet_of (And.imp Same.store_of (And.imp Same.ctl_of (And.imp Same.links_of id))) ?_
  unfold State.toChannel
  try dsimp only
  (repeat' split) <;> simp

@[simp] theorem State.writeHome_frame : ∀ s x1 x2 x3 x4 x5, Same.quiet s (State.writeHome s x1 x2 x3 x4 x5) ∧ Same.store s (State.writeHome s x1 x2 x3 x4 x5) ∧ Same.ctl s (State.writeHome s x1 x2 x3 x4 x5) ∧ Same.links s (State.writeHome s x1 x2 x3 x4 x5) ∧ (State.writeHome s x1 x2 x3 x4 x5).out = s.out ∧ (State.writeHome s x1 x2 x3 x4 x5).regs = s.regs ∧ (State.writeHome s x1 x2 x3 x4 x5).log = s.log ∧ (State.writeHome s x1 x2 x3 x4 x5).addr = s.addr ∧ (State.writeHome s x1 x2 x3 x4 x5).trk = s.trk ∧ (State.writeHome s x1 x2 x3 x4 x5).tier = s.tier ∧ (State.writeHome s x1 x2 x3 x4 x5).lc = s.lc := by
  intro s x1 x2 x3 x4 x5
  refine And.imp Same.quiet_of (And.imp Same.store_of (And.imp Same.ctl_of (And.imp Same.links_of id))) ?_
  unfold State.writeHome
  try dsimp only
  (repeat' split) <;> simp

@[simp] theorem State.writeBack_frame : ∀ s x1 x2 x3, Same.quiet s (State.writeBack s x1 x2 x3) ∧ Same.store s (State.writeBack s x1 x2 x3) ∧ Same.ctl s (State.writeBack s x1 x2 x3) ∧ Same.links s (State.writeBack s x1 x2 x3) ∧ (State.writeBack s x1 x2 x3).out = s.out ∧ (State.writeBack s x1 x2 x3).regs = s.regs ∧ (State.writeBack s x1 x2 x3).log = s.log ∧ (State.writeBack s x1 x2 x3).addr = s.addr ∧ (State.writeBack s x1 x2 x3).trk = s.trk ∧ (State.writeBack s x1 x2 x3).tier = s.tier ∧ (State.writeBack s x1 x2 x3).lc = s.lc := by
  intro s x1 x2 x3
  refine And.imp Same.quiet_of (And.imp Same.store_of (And.imp Same.ctl_of (And.imp Same.links_of id))) ?_
  unfold State.writeBack
  try dsimp only
  (repeat' split) <;> simp

@[simp] theorem State.place_frame : ∀ s x1 x2 x3 x4 x5, Same.quiet s (State.place s x1 x2 x3 x4 x5).1 ∧ Same.store s (State.place s x1 x2 x3 x4 x5).1 ∧ Same.ctl s (State.place s x1 x2 x3 x4 x5).1 ∧ Same.links s (State.place s x1 x2 x3 x4 x5).1 ∧ (State.place s x1 x2 x3 x4 x5).1.out = s.out ∧ (State.place s x1 x2 x3 x4 x5).1.regs = s.regs ∧ (State.place s x1 x2 x3 x4 x5).1.log = s.log ∧ (State.place s x1 x2 x3 x4 x5).1.addr = s.addr ∧ (State.place s x1 x2 x3 x4 x5).1.trk = s.trk ∧ (State.place s x1 x2 x3 x4 x5).1.tier = s.tier := by
  intro s x1 x2 x3 x4 x5
  refine And.imp Same.quiet_of (And.imp Same.store_of (And.imp Same.ctl_of (And.imp Same.links_of id))) ?_
  unfold State.place
  try dsimp only
  (repeat' split) <;> simp

@[simp] theorem State.setMerge_frame : ∀ s x1 x2, Same.quiet s (State.setMerge s x1 x2) ∧ Same.store s (State.setMerge s x1 x2) ∧ Same.ctl s (State.setMerge s x1 x2) ∧ Same.links s (State.setMerge s x1 x2) ∧ (State.setMerge s x1 x2).out = s.out ∧ (State.setMerge s x1 x2).regs = s.regs ∧ (State.setMerge s x1 x2).ctrs = s.ctrs ∧ (State.setMerge s x1 x2).log = s.log ∧ (State.setMerge s x1 x2).addr = s.addr ∧ (State.setMerge s x1 x2).trk = s.trk ∧ (State.setMerge s x1 x2).tier = s.tier ∧ (State.setMerge s x1 x2).lc = s.lc ∧ (State.setMerge s x1 x2).ch = s.ch := by
  intro s x1 x2
  refine And.imp Same.quiet_of (And.imp Same.store_of (And.imp Same.ctl_of (And.imp Same.links_of id))) ?_
  unfold State.setMerge
  try dsimp only
  (repeat' split) <;> simp

@[simp] theorem State.setSlot_frame : ∀ s x1 x2, Same.quiet s (State.setSlot s x1 x2) ∧ Same.store s (State.setSlot s x1 x2) ∧ Same.ctl s (State.setSlot s x1 x2) ∧ Same.links s (State.setSlot s x1 x2) ∧ (State.setSlot s x1 x2).out = s.out ∧ (State.setSlot s x1 x2).regs = s.regs ∧ (State.setSlot s x1 x2).ctrs = s.ctrs ∧ (State.setSlot s x1 x2).log = s.log ∧ (State.setSlot s x1 x2).addr = s.addr ∧ (State.setSlot s x1 x2).trk = s.trk ∧ (State.setSlot s x1 x2).tier = s.tier ∧ (State.setSlot s x1 x2).ch = s.ch ∧ (State.setSlot s x1 x2).ec = s.ec := by
  intro s x1 x2
  refine And.imp Same.quiet_of (And.imp Same.store_of (And.imp Same.ctl_of (And.imp Same.links_of id))) ?_
  unfold State.setSlot
  try dsimp only
  (repeat' split) <;> simp

@[simp] theorem State.arrive_frame : ∀ s x1 x2 x3 x4 x5, Same.quiet s (State.arrive s x1 x2 x3 x4 x5).1 ∧ Same.store s (State.arrive s x1 x2 x3 x4 x5).1 ∧ Same.ctl s (State.arrive s x1 x2 x3 x4 x5).1 ∧ Same.links s (State.arrive s x1 x2 x3 x4 x5).1 ∧ (State.arrive s x1 x2 x3 x4 x5).1.out = s.out ∧ (State.arrive s x1 x2 x3 x4 x5).1.regs = s.regs ∧ (State.arrive s x1 x2 x3 x4 x5).1.log = s.log ∧ (State.arrive s x1 x2 x3 x4 x5).1.addr = s.addr ∧ (State.arrive s x1 x2 x3 x4 x5).1.trk = s.trk ∧ (State.arrive s x1 x2 x3 x4 x5).1.tier = s.tier := by
  intro s x1 x2 x3 x4 x5
  refine And.imp Same.quiet_of (And.imp Same.store_of (And.imp Same.ctl_of (And.imp Same.links_of id))) ?_
  unfold State.arrive
  try dsimp only
  (repeat' split) <;> simp

@[simp] theorem State.askTwin_frame : ∀ s x1 x2, Same.quiet s (State.askTwin s x1 x2) ∧ Same.store s (State.askTwin s x1 x2) ∧ Same.ctl s (State.askTwin s x1 x2) ∧ (State.askTwin s x1 x2).regs = s.regs ∧ (State.askTwin s x1 x2).log = s.log ∧ (State.askTwin s x1 x2).addr = s.addr ∧ (State.askTwin s x1 x2).tier = s.tier ∧ (State.askTwin s x1 x2).ch = s.ch ∧ (State.askTwin s x1 x2).ec = s.ec ∧ (State.askTwin s x1 x2).vlt = s.vlt ∧ (State.askTwin s x1 x2).net = s.net ∧ (State.askTwin s x1 x2).cxl = s.cxl := by
  intro s x1 x2
  refine And.imp Same.quiet_of (And.imp Same.store_of (And.imp Same.ctl_of id)) ?_
  unfold State.askTwin
  try dsimp only
  (repeat' split) <;> simp

@[simp] theorem State.hit_frame : ∀ s x1 x2 x3, Same.quiet s (State.hit s x1 x2 x3) ∧ Same.store s (State.hit s x1 x2 x3) ∧ Same.ctl s (State.hit s x1 x2 x3) ∧ Same.links s (State.hit s x1 x2 x3) ∧ (State.hit s x1 x2 x3).out = s.out ∧ (State.hit s x1 x2 x3).regs = s.regs ∧ (State.hit s x1 x2 x3).log = s.log ∧ (State.hit s x1 x2 x3).addr = s.addr ∧ (State.hit s x1 x2 x3).trk = s.trk ∧ (State.hit s x1 x2 x3).tier = s.tier ∧ (State.hit s x1 x2 x3).ch = s.ch ∧ (State.hit s x1 x2 x3).ec = s.ec := by
  intro s x1 x2 x3
  refine And.imp Same.quiet_of (And.imp Same.store_of (And.imp Same.ctl_of (And.imp Same.links_of id))) ?_
  unfold State.hit
  try dsimp only
  (repeat' split) <;> simp

@[simp] theorem State.askMove_frame : ∀ s x1 x2 x3, Same.quiet s (State.askMove s x1 x2 x3) ∧ Same.store s (State.askMove s x1 x2 x3) ∧ Same.ctl s (State.askMove s x1 x2 x3) ∧ Same.links s (State.askMove s x1 x2 x3) ∧ (State.askMove s x1 x2 x3).out = s.out ∧ (State.askMove s x1 x2 x3).regs = s.regs ∧ (State.askMove s x1 x2 x3).ctrs = s.ctrs ∧ (State.askMove s x1 x2 x3).log = s.log ∧ (State.askMove s x1 x2 x3).addr = s.addr ∧ (State.askMove s x1 x2 x3).trk = s.trk ∧ (State.askMove s x1 x2 x3).lc = s.lc ∧ (State.askMove s x1 x2 x3).ch = s.ch ∧ (State.askMove s x1 x2 x3).ec = s.ec := by
  intro s x1 x2 x3
  refine And.imp Same.quiet_of (And.imp Same.store_of (And.imp Same.ctl_of (And.imp Same.links_of id))) ?_
  unfold State.askMove
  try dsimp only
  (repeat' split) <;> simp

@[simp] theorem State.setAge_frame : ∀ s x1 x2, Same.quiet s (State.setAge s x1 x2) ∧ Same.store s (State.setAge s x1 x2) ∧ Same.ctl s (State.setAge s x1 x2) ∧ Same.links s (State.setAge s x1 x2) ∧ (State.setAge s x1 x2).out = s.out ∧ (State.setAge s x1 x2).regs = s.regs ∧ (State.setAge s x1 x2).ctrs = s.ctrs ∧ (State.setAge s x1 x2).log = s.log ∧ (State.setAge s x1 x2).addr = s.addr ∧ (State.setAge s x1 x2).trk = s.trk ∧ (State.setAge s x1 x2).lc = s.lc ∧ (State.setAge s x1 x2).ch = s.ch ∧ (State.setAge s x1 x2).ec = s.ec := by
  intro s x1 x2
  refine And.imp Same.quiet_of (And.imp Same.store_of (And.imp Same.ctl_of (And.imp Same.links_of id))) ?_
  unfold State.setAge
  try dsimp only
  (repeat' split) <;> simp

@[simp] theorem State.noteMiss_frame : ∀ s x1 x2, Same.quiet s (State.noteMiss s x1 x2) ∧ Same.store s (State.noteMiss s x1 x2) ∧ Same.ctl s (State.noteMiss s x1 x2) ∧ Same.links s (State.noteMiss s x1 x2) ∧ (State.noteMiss s x1 x2).out = s.out ∧ (State.noteMiss s x1 x2).regs = s.regs ∧ (State.noteMiss s x1 x2).ctrs = s.ctrs ∧ (State.noteMiss s x1 x2).log = s.log ∧ (State.noteMiss s x1 x2).addr = s.addr ∧ (State.noteMiss s x1 x2).trk = s.trk ∧ (State.noteMiss s x1 x2).lc = s.lc ∧ (State.noteMiss s x1 x2).ch = s.ch ∧ (State.noteMiss s x1 x2).ec = s.ec := by
  intro s x1 x2
  refine And.imp Same.quiet_of (And.imp Same.store_of (And.imp Same.ctl_of (And.imp Same.links_of id))) ?_
  unfold State.noteMiss
  try dsimp only
  (repeat' split) <;> simp

@[simp] theorem State.onDemand_frame : ∀ s x1, Same.quiet s (State.onDemand s x1) ∧ Same.store s (State.onDemand s x1) ∧ Same.ctl s (State.onDemand s x1) ∧ Same.path s (State.onDemand s x1) ∧ (State.onDemand s x1).out = s.out ∧ (State.onDemand s x1).regs = s.regs ∧ (State.onDemand s x1).log = s.log ∧ (State.onDemand s x1).twl = s.twl ∧ (State.onDemand s x1).pair = s.pair ∧ (State.onDemand s x1).net = s.net ∧ (State.onDemand s x1).cxl = s.cxl := by
  intro s x1
  refine And.imp Same.quiet_of (And.imp Same.store_of (And.imp Same.ctl_of (And.imp Same.path_of id))) ?_
  unfold State.onDemand
  try dsimp only
  (repeat' split) <;> simp

@[simp] theorem State.park_frame : ∀ s x1 x2 x3, Same.quiet s (State.park s x1 x2 x3) ∧ Same.store s (State.park s x1 x2 x3) ∧ Same.ctl s (State.park s x1 x2 x3) ∧ Same.links s (State.park s x1 x2 x3) ∧ (State.park s x1 x2 x3).out = s.out ∧ (State.park s x1 x2 x3).regs = s.regs ∧ (State.park s x1 x2 x3).log = s.log ∧ (State.park s x1 x2 x3).addr = s.addr ∧ (State.park s x1 x2 x3).tier = s.tier ∧ (State.park s x1 x2 x3).lc = s.lc ∧ (State.park s x1 x2 x3).ch = s.ch ∧ (State.park s x1 x2 x3).ec = s.ec := by
  intro s x1 x2 x3
  refine And.imp Same.quiet_of (And.imp Same.store_of (And.imp Same.ctl_of (And.imp Same.links_of id))) ?_
  unfold State.park
  try dsimp only
  (repeat' split) <;> simp

@[simp] theorem State.readHome_frame : ∀ s x1 x2 x3 x4 x5, Same.quiet s (State.readHome s x1 x2 x3 x4 x5) ∧ Same.store s (State.readHome s x1 x2 x3 x4 x5) ∧ Same.ctl s (State.readHome s x1 x2 x3 x4 x5) ∧ Same.links s (State.readHome s x1 x2 x3 x4 x5) ∧ (State.readHome s x1 x2 x3 x4 x5).out = s.out ∧ (State.readHome s x1 x2 x3 x4 x5).regs = s.regs ∧ (State.readHome s x1 x2 x3 x4 x5).log = s.log ∧ (State.readHome s x1 x2 x3 x4 x5).addr = s.addr ∧ (State.readHome s x1 x2 x3 x4 x5).trk = s.trk ∧ (State.readHome s x1 x2 x3 x4 x5).tier = s.tier ∧ (State.readHome s x1 x2 x3 x4 x5).lc = s.lc ∧ (State.readHome s x1 x2 x3 x4 x5).ec = s.ec := by
  intro s x1 x2 x3 x4 x5
  refine And.imp Same.quiet_of (And.imp Same.store_of (And.imp Same.ctl_of (And.imp Same.links_of id))) ?_
  unfold State.readHome
  try dsimp only
  (repeat' split) <;> simp

/-- The state a fetch leaves. -/
def Fetch.st : Fetch → State
  | .now s _ _ => s
  | .wait s => s

theorem State.fetch_frame : ∀ (s : State) id e, (s.fetch id e).st.quietP = s.quietP ∧ (s.fetch id e).st.storeP = s.storeP ∧
    (s.fetch id e).st.ctlP = s.ctlP ∧ (s.fetch id e).st.addr = s.addr ∧ (s.fetch id e).st.vlt = s.vlt ∧ (s.fetch id e).st.net = s.net ∧
    (s.fetch id e).st.cxl = s.cxl ∧ (s.fetch id e).st.regs = s.regs ∧ (s.fetch id e).st.log = s.log := by
  intro s id e
  unfold State.fetch
  dsimp only
  repeat' split
  all_goals try (rename_i hh; have hh' := congrArg Prod.fst hh; dsimp only at hh'; subst hh')
  all_goals simp [Fetch.st]

@[simp] theorem State.tryAssist_frame : ∀ s x1 x2, Same.quiet s (State.tryAssist s x1 x2) ∧ Same.store s (State.tryAssist s x1 x2) ∧ Same.ctl s (State.tryAssist s x1 x2) ∧ (State.tryAssist s x1 x2).addr = s.addr := by
  intro s x1 x2
  refine And.imp Same.quiet_of (And.imp Same.store_of (And.imp Same.ctl_of id)) ?_
  unfold State.tryAssist
  try dsimp only
  repeat' split
  all_goals try (rename_i hh; have hh' := congrArg Prod.fst hh; dsimp only at hh'; subst hh')
  all_goals try (rename_i hh; have hh' := congrArg Prod.snd hh; dsimp only at hh'; subst hh')
  all_goals try (have hf := State.fetch_frame s x1 x2; rw [‹State.fetch _ _ _ = _›] at hf; simp only [Fetch.st] at hf)
  all_goals simp [*]

@[simp] theorem State.tryInv_frame : ∀ s x1 x2, Same.quiet s (State.tryInv s x1 x2) ∧ Same.store s (State.tryInv s x1 x2) ∧ Same.ctl s (State.tryInv s x1 x2) ∧ (State.tryInv s x1 x2).addr = s.addr ∧ (State.tryInv s x1 x2).tier = s.tier ∧ (State.tryInv s x1 x2).lc = s.lc ∧ (State.tryInv s x1 x2).ch = s.ch ∧ (State.tryInv s x1 x2).ec = s.ec ∧ (State.tryInv s x1 x2).vlt = s.vlt := by
  intro s x1 x2
  refine And.imp Same.quiet_of (And.imp Same.store_of (And.imp Same.ctl_of id)) ?_
  unfold State.tryInv
  try dsimp only
  (repeat' split) <;> simp

@[simp] theorem State.tryRead_frame : ∀ s x1 x2, Same.quiet s (State.tryRead s x1 x2) ∧ Same.store s (State.tryRead s x1 x2) ∧ Same.ctl s (State.tryRead s x1 x2) ∧ (State.tryRead s x1 x2).addr = s.addr := by
  intro s x1 x2
  refine And.imp Same.quiet_of (And.imp Same.store_of (And.imp Same.ctl_of id)) ?_
  unfold State.tryRead
  repeat' split
  all_goals try (rename_i hh; have hh' := congrArg Prod.fst hh; dsimp only at hh'; subst hh')
  all_goals try (rename_i hh; have hh' := congrArg Prod.snd hh; dsimp only at hh'; subst hh')
  all_goals try (have hf := State.fetch_frame s x1 x2; rw [‹State.fetch _ _ _ = _›] at hf; simp only [Fetch.st] at hf)
  all_goals simp [*]

@[simp] theorem State.tryComplete_frame : ∀ s x1 x2, Same.quiet s (State.tryComplete s x1 x2) ∧ Same.store s (State.tryComplete s x1 x2) ∧ Same.ctl s (State.tryComplete s x1 x2) ∧ (State.tryComplete s x1 x2).addr = s.addr ∧ (State.tryComplete s x1 x2).tier = s.tier ∧ (State.tryComplete s x1 x2).lc = s.lc ∧ (State.tryComplete s x1 x2).ch = s.ch ∧ (State.tryComplete s x1 x2).ec = s.ec ∧ (State.tryComplete s x1 x2).vlt = s.vlt := by
  intro s x1 x2
  refine And.imp Same.quiet_of (And.imp Same.store_of (And.imp Same.ctl_of id)) ?_
  unfold State.tryComplete
  try dsimp only
  (repeat' split) <;> simp

@[simp] theorem State.tryIntent_frame : ∀ s x1 x2 x3, Same.quiet s (State.tryIntent s x1 x2 x3) ∧ Same.store s (State.tryIntent s x1 x2 x3) ∧ Same.ctl s (State.tryIntent s x1 x2 x3) ∧ (State.tryIntent s x1 x2 x3).addr = s.addr ∧ (State.tryIntent s x1 x2 x3).tier = s.tier ∧ (State.tryIntent s x1 x2 x3).lc = s.lc ∧ (State.tryIntent s x1 x2 x3).ch = s.ch ∧ (State.tryIntent s x1 x2 x3).ec = s.ec ∧ (State.tryIntent s x1 x2 x3).vlt = s.vlt := by
  intro s x1 x2 x3
  refine And.imp Same.quiet_of (And.imp Same.store_of (And.imp Same.ctl_of id)) ?_
  unfold State.tryIntent
  try dsimp only
  (repeat' split) <;> simp

@[simp] theorem State.lateIntent_frame : ∀ s x1 x2, Same.quiet s (State.lateIntent s x1 x2) ∧ Same.store s (State.lateIntent s x1 x2) ∧ Same.ctl s (State.lateIntent s x1 x2) ∧ (State.lateIntent s x1 x2).addr = s.addr ∧ (State.lateIntent s x1 x2).tier = s.tier ∧ (State.lateIntent s x1 x2).lc = s.lc ∧ (State.lateIntent s x1 x2).ch = s.ch ∧ (State.lateIntent s x1 x2).ec = s.ec ∧ (State.lateIntent s x1 x2).vlt = s.vlt := by
  intro s x1 x2
  refine And.imp Same.quiet_of (And.imp Same.store_of (And.imp Same.ctl_of id)) ?_
  unfold State.lateIntent
  repeat' split
  all_goals try (rename_i hh; have hh' := congrArg Prod.fst hh; dsimp only at hh'; subst hh')
  all_goals try (rename_i hh; have hh' := congrArg Prod.snd hh; dsimp only at hh'; subst hh')
  all_goals simp

@[simp] theorem State.orderAck_frame : ∀ s x1, Same.quiet s (State.orderAck s x1) ∧ Same.store s (State.orderAck s x1) ∧ Same.ctl s (State.orderAck s x1) ∧ Same.path s (State.orderAck s x1) ∧ (State.orderAck s x1).regs = s.regs ∧ (State.orderAck s x1).log = s.log ∧ (State.orderAck s x1).pair = s.pair ∧ (State.orderAck s x1).vlt = s.vlt ∧ (State.orderAck s x1).net = s.net ∧ (State.orderAck s x1).cxl = s.cxl := by
  intro s x1
  refine And.imp Same.quiet_of (And.imp Same.store_of (And.imp Same.ctl_of (And.imp Same.path_of id))) ?_
  unfold State.orderAck
  try dsimp only
  (repeat' split) <;> simp

@[simp] theorem State.mergeBytes_frame : ∀ s x1 x2 x3 t, State.mergeBytes s x1 x2 x3 = some t → Same.quiet s t ∧ Same.store s t ∧ Same.ctl s t ∧ Same.links s t ∧ t.out = s.out ∧ t.regs = s.regs ∧ t.ctrs = s.ctrs ∧ t.log = s.log ∧ t.addr = s.addr ∧ t.trk = s.trk ∧ t.tier = s.tier ∧ t.lc = s.lc ∧ t.ch = s.ch := by
  intro s x1 x2 x3 t h
  refine And.imp Same.quiet_of (And.imp Same.store_of (And.imp Same.ctl_of (And.imp Same.links_of id))) ?_
  unfold State.mergeBytes at h
  try dsimp only at h
  repeat' split at h
  all_goals try (simp at h)
  all_goals try (subst h)
  all_goals simp

@[simp] theorem State.mergeFlushFull_frame : ∀ s x1 x2, Same.quiet s (State.mergeFlushFull s x1 x2) ∧ Same.store s (State.mergeFlushFull s x1 x2) ∧ Same.ctl s (State.mergeFlushFull s x1 x2) ∧ Same.links s (State.mergeFlushFull s x1 x2) ∧ (State.mergeFlushFull s x1 x2).out = s.out ∧ (State.mergeFlushFull s x1 x2).regs = s.regs ∧ (State.mergeFlushFull s x1 x2).log = s.log ∧ (State.mergeFlushFull s x1 x2).addr = s.addr ∧ (State.mergeFlushFull s x1 x2).trk = s.trk ∧ (State.mergeFlushFull s x1 x2).tier = s.tier ∧ (State.mergeFlushFull s x1 x2).lc = s.lc := by
  intro s x1 x2
  refine And.imp Same.quiet_of (And.imp Same.store_of (And.imp Same.ctl_of (And.imp Same.links_of id))) ?_
  unfold State.mergeFlushFull
  try dsimp only
  (repeat' split) <;> simp

@[simp] theorem State.setHeld_frame : ∀ s x1 x2 x3, Same.quiet s (State.setHeld s x1 x2 x3) ∧ Same.store s (State.setHeld s x1 x2 x3) ∧ Same.ctl s (State.setHeld s x1 x2 x3) ∧ Same.links s (State.setHeld s x1 x2 x3) ∧ (State.setHeld s x1 x2 x3).out = s.out ∧ (State.setHeld s x1 x2 x3).regs = s.regs ∧ (State.setHeld s x1 x2 x3).ctrs = s.ctrs ∧ (State.setHeld s x1 x2 x3).log = s.log ∧ (State.setHeld s x1 x2 x3).addr = s.addr ∧ (State.setHeld s x1 x2 x3).trk = s.trk ∧ (State.setHeld s x1 x2 x3).tier = s.tier ∧ (State.setHeld s x1 x2 x3).ch = s.ch ∧ (State.setHeld s x1 x2 x3).ec = s.ec := by
  intro s x1 x2 x3
  refine And.imp Same.quiet_of (And.imp Same.store_of (And.imp Same.ctl_of (And.imp Same.links_of id))) ?_
  unfold State.setHeld
  try dsimp only
  (repeat' split) <;> simp

@[simp] theorem State.applyLine_frame : ∀ s x1 x2 x3 x4 x5 t, State.applyLine s x1 x2 x3 x4 x5 = some t → Same.quiet s t ∧ Same.store s t ∧ Same.ctl s t ∧ Same.links s t ∧ t.out = s.out ∧ t.regs = s.regs ∧ t.log = s.log ∧ t.addr = s.addr ∧ t.trk = s.trk ∧ t.tier = s.tier := by
  intro s x1 x2 x3 x4 x5 t h
  refine And.imp Same.quiet_of (And.imp Same.store_of (And.imp Same.ctl_of (And.imp Same.links_of id))) ?_
  unfold State.applyLine at h
  split at h
  · simp at h; subst h; simp
  · split at h
    · simp at h; subst h; split <;> simp
    · split at h
      · rw [Option.map_eq_some_iff] at h
        obtain ⟨a, ha, rfl⟩ := h
        have hq := State.mergeBytes_frame _ _ _ _ _ ha
        split
        · split <;> simp [hq]
        · simp [hq]
      · split at h
        · dsimp only at h
          split at h
          · simp at h; subst h; simp
          · rw [Option.map_eq_some_iff] at h
            obtain ⟨a, ha, rfl⟩ := h
            have hq := State.mergeBytes_frame _ _ _ _ _ ha
            split <;> simp [hq]
        · have hq := State.mergeBytes_frame _ _ _ _ _ h
          simp [hq]

@[simp] theorem State.noteEpoch_frame : ∀ s x1, Same.quiet s (State.noteEpoch s x1) ∧ Same.store s (State.noteEpoch s x1) ∧ Same.ctl s (State.noteEpoch s x1) ∧ Same.path s (State.noteEpoch s x1) ∧ (State.noteEpoch s x1).out = s.out ∧ (State.noteEpoch s x1).regs = s.regs ∧ (State.noteEpoch s x1).ctrs = s.ctrs ∧ (State.noteEpoch s x1).log = s.log ∧ (State.noteEpoch s x1).twl = s.twl ∧ (State.noteEpoch s x1).vlt = s.vlt ∧ (State.noteEpoch s x1).net = s.net ∧ (State.noteEpoch s x1).cxl = s.cxl := by
  intro s x1
  refine And.imp Same.quiet_of (And.imp Same.store_of (And.imp Same.ctl_of (And.imp Same.path_of id))) ?_
  unfold State.noteEpoch
  try dsimp only
  (repeat' split) <;> simp

@[simp] theorem State.joinWindow_frame : ∀ s x1, Same.quiet s (State.joinWindow s x1) ∧ Same.store s (State.joinWindow s x1) ∧ Same.ctl s (State.joinWindow s x1) ∧ Same.path s (State.joinWindow s x1) ∧ (State.joinWindow s x1).out = s.out ∧ (State.joinWindow s x1).regs = s.regs ∧ (State.joinWindow s x1).ctrs = s.ctrs ∧ (State.joinWindow s x1).log = s.log ∧ (State.joinWindow s x1).twl = s.twl ∧ (State.joinWindow s x1).pair = s.pair ∧ (State.joinWindow s x1).net = s.net ∧ (State.joinWindow s x1).cxl = s.cxl := by
  intro s x1
  refine And.imp Same.quiet_of (And.imp Same.store_of (And.imp Same.ctl_of (And.imp Same.path_of id))) ?_
  unfold State.joinWindow
  try dsimp only
  (repeat' split) <;> simp

@[simp] theorem State.noteLeaf_frame : ∀ s x1, Same.quiet s (State.noteLeaf s x1) ∧ Same.store s (State.noteLeaf s x1) ∧ Same.ctl s (State.noteLeaf s x1) ∧ (State.noteLeaf s x1).out = s.out ∧ (State.noteLeaf s x1).regs = s.regs ∧ (State.noteLeaf s x1).ctrs = s.ctrs ∧ (State.noteLeaf s x1).log = s.log ∧ (State.noteLeaf s x1).trk = s.trk ∧ (State.noteLeaf s x1).twl = s.twl ∧ (State.noteLeaf s x1).pair = s.pair ∧ (State.noteLeaf s x1).tier = s.tier ∧ (State.noteLeaf s x1).lc = s.lc ∧ (State.noteLeaf s x1).ch = s.ch ∧ (State.noteLeaf s x1).ec = s.ec ∧ (State.noteLeaf s x1).net = s.net ∧ (State.noteLeaf s x1).cxl = s.cxl := by
  intro s x1
  refine And.imp Same.quiet_of (And.imp Same.store_of (And.imp Same.ctl_of id)) ?_
  unfold State.noteLeaf
  try dsimp only
  (repeat' split) <;> simp

@[simp] theorem State.noteApplied_frame : ∀ s x1, Same.quiet s (State.noteApplied s x1) ∧ Same.store s (State.noteApplied s x1) ∧ Same.ctl s (State.noteApplied s x1) ∧ (State.noteApplied s x1).out = s.out ∧ (State.noteApplied s x1).regs = s.regs ∧ (State.noteApplied s x1).ctrs = s.ctrs ∧ (State.noteApplied s x1).log = s.log ∧ (State.noteApplied s x1).trk = s.trk ∧ (State.noteApplied s x1).twl = s.twl ∧ (State.noteApplied s x1).tier = s.tier ∧ (State.noteApplied s x1).lc = s.lc ∧ (State.noteApplied s x1).ch = s.ch ∧ (State.noteApplied s x1).ec = s.ec ∧ (State.noteApplied s x1).net = s.net ∧ (State.noteApplied s x1).cxl = s.cxl := by
  intro s x1
  refine And.imp Same.quiet_of (And.imp Same.store_of (And.imp Same.ctl_of id)) ?_
  unfold State.noteApplied
  try dsimp only
  (repeat' split) <;> simp

@[simp] theorem State.ecRecord_frame : ∀ s x1 x2 x3 x4 x5 x6 x7 x8 x9, Same.quiet s (State.ecRecord s x1 x2 x3 x4 x5 x6 x7 x8 x9) ∧ Same.store s (State.ecRecord s x1 x2 x3 x4 x5 x6 x7 x8 x9) ∧ Same.ctl s (State.ecRecord s x1 x2 x3 x4 x5 x6 x7 x8 x9) ∧ Same.path s (State.ecRecord s x1 x2 x3 x4 x5 x6 x7 x8 x9) ∧ Same.links s (State.ecRecord s x1 x2 x3 x4 x5 x6 x7 x8 x9) ∧ (State.ecRecord s x1 x2 x3 x4 x5 x6 x7 x8 x9).out = s.out ∧ (State.ecRecord s x1 x2 x3 x4 x5 x6 x7 x8 x9).regs = s.regs := by
  intro s x1 x2 x3 x4 x5 x6 x7 x8 x9
  refine And.imp Same.quiet_of (And.imp Same.store_of (And.imp Same.ctl_of (And.imp Same.path_of (And.imp Same.links_of id)))) ?_
  unfold State.ecRecord
  try dsimp only
  (repeat' split) <;> simp

@[simp] theorem State.notePoison_frame : ∀ s x1, Same.quiet s (State.notePoison s x1) ∧ Same.store s (State.notePoison s x1) ∧ Same.ctl s (State.notePoison s x1) ∧ Same.path s (State.notePoison s x1) ∧ (State.notePoison s x1).out = s.out ∧ (State.notePoison s x1).regs = s.regs ∧ (State.notePoison s x1).ctrs = s.ctrs ∧ (State.notePoison s x1).log = s.log ∧ (State.notePoison s x1).twl = s.twl ∧ (State.notePoison s x1).pair = s.pair ∧ (State.notePoison s x1).vlt = s.vlt ∧ (State.notePoison s x1).net = s.net := by
  intro s x1
  refine And.imp Same.quiet_of (And.imp Same.store_of (And.imp Same.ctl_of (And.imp Same.path_of id))) ?_
  unfold State.notePoison
  try dsimp only
  (repeat' split) <;> simp

@[simp] theorem State.poisonWritten_frame : ∀ s x1 x2 x3, Same.quiet s (State.poisonWritten s x1 x2 x3) ∧ Same.store s (State.poisonWritten s x1 x2 x3) ∧ Same.ctl s (State.poisonWritten s x1 x2 x3) ∧ Same.path s (State.poisonWritten s x1 x2 x3) ∧ (State.poisonWritten s x1 x2 x3).out = s.out ∧ (State.poisonWritten s x1 x2 x3).regs = s.regs ∧ (State.poisonWritten s x1 x2 x3).twl = s.twl ∧ (State.poisonWritten s x1 x2 x3).pair = s.pair ∧ (State.poisonWritten s x1 x2 x3).vlt = s.vlt ∧ (State.poisonWritten s x1 x2 x3).net = s.net := by
  intro s x1 x2 x3
  refine And.imp Same.quiet_of (And.imp Same.store_of (And.imp Same.ctl_of (And.imp Same.path_of id))) ?_
  unfold State.poisonWritten
  try dsimp only
  (repeat' split) <;> simp

@[simp] theorem State.propagate_frame : ∀ s x1 x2 x3, Same.quiet s (State.propagate s x1 x2 x3) ∧ Same.store s (State.propagate s x1 x2 x3) ∧ Same.ctl s (State.propagate s x1 x2 x3) ∧ (State.propagate s x1 x2 x3).addr = s.addr ∧ (State.propagate s x1 x2 x3).tier = s.tier ∧ (State.propagate s x1 x2 x3).lc = s.lc ∧ (State.propagate s x1 x2 x3).ch = s.ch ∧ (State.propagate s x1 x2 x3).ec = s.ec ∧ (State.propagate s x1 x2 x3).vlt = s.vlt := by
  intro s x1 x2 x3
  refine And.imp Same.quiet_of (And.imp Same.store_of (And.imp Same.ctl_of id)) ?_
  unfold State.propagate
  try dsimp only
  (repeat' split) <;> simp

@[simp] theorem State.setOrd_frame : ∀ s x1 x2, Same.quiet s (State.setOrd s x1 x2) ∧ Same.store s (State.setOrd s x1 x2) ∧ Same.ctl s (State.setOrd s x1 x2) ∧ Same.links s (State.setOrd s x1 x2) ∧ (State.setOrd s x1 x2).out = s.out ∧ (State.setOrd s x1 x2).regs = s.regs ∧ (State.setOrd s x1 x2).ctrs = s.ctrs ∧ (State.setOrd s x1 x2).log = s.log ∧ (State.setOrd s x1 x2).addr = s.addr ∧ (State.setOrd s x1 x2).tier = s.tier ∧ (State.setOrd s x1 x2).lc = s.lc ∧ (State.setOrd s x1 x2).ch = s.ch ∧ (State.setOrd s x1 x2).ec = s.ec := by
  intro s x1 x2
  refine And.imp Same.quiet_of (And.imp Same.store_of (And.imp Same.ctl_of (And.imp Same.links_of id))) ?_
  unfold State.setOrd
  try dsimp only
  (repeat' split) <;> simp

@[simp] theorem State.orderHere_frame : ∀ s x1 x2 x3 x4 x5 x6, Same.quiet s (State.orderHere s x1 x2 x3 x4 x5 x6) ∧ Same.store s (State.orderHere s x1 x2 x3 x4 x5 x6) ∧ Same.ctl s (State.orderHere s x1 x2 x3 x4 x5 x6) ∧ (State.orderHere s x1 x2 x3 x4 x5 x6).tier = s.tier := by
  intro s x1 x2 x3 x4 x5 x6
  refine And.imp Same.quiet_of (And.imp Same.store_of (And.imp Same.ctl_of id)) ?_
  unfold State.orderHere
  repeat' split
  all_goals try (rename_i hh; have hh' := congrArg Prod.fst hh; dsimp only at hh'; subst hh')
  all_goals try (rename_i hh; have hh' := congrArg Prod.snd hh; dsimp only at hh'; subst hh')
  all_goals try have hq_applyLine := State.applyLine_frame _ _ _ _ _ _ _ (by assumption)
  all_goals simp [*]

@[simp] theorem State.atomicHere_frame : ∀ s x1 x2 x3 x4, Same.quiet s (State.atomicHere s x1 x2 x3 x4) ∧ Same.store s (State.atomicHere s x1 x2 x3 x4) ∧ Same.ctl s (State.atomicHere s x1 x2 x3 x4) ∧ (State.atomicHere s x1 x2 x3 x4).tier = s.tier := by
  intro s x1 x2 x3 x4
  refine And.imp Same.quiet_of (And.imp Same.store_of (And.imp Same.ctl_of id)) ?_
  unfold State.atomicHere
  try dsimp only
  (repeat' split) <;> simp

@[simp] theorem State.forward_frame : ∀ s x1 x2, Same.quiet s (State.forward s x1 x2) ∧ Same.store s (State.forward s x1 x2) ∧ Same.ctl s (State.forward s x1 x2) ∧ (State.forward s x1 x2).regs = s.regs ∧ (State.forward s x1 x2).log = s.log ∧ (State.forward s x1 x2).addr = s.addr ∧ (State.forward s x1 x2).pair = s.pair ∧ (State.forward s x1 x2).tier = s.tier ∧ (State.forward s x1 x2).lc = s.lc ∧ (State.forward s x1 x2).ch = s.ch ∧ (State.forward s x1 x2).ec = s.ec ∧ (State.forward s x1 x2).vlt = s.vlt ∧ (State.forward s x1 x2).net = s.net ∧ (State.forward s x1 x2).cxl = s.cxl := by
  intro s x1 x2
  refine And.imp Same.quiet_of (And.imp Same.store_of (And.imp Same.ctl_of id)) ?_
  unfold State.forward
  try dsimp only
  (repeat' split) <;> simp

@[simp] theorem State.placeWrite_frame : ∀ s x1 x2, Same.quiet s (State.placeWrite s x1 x2) ∧ Same.store s (State.placeWrite s x1 x2) ∧ Same.ctl s (State.placeWrite s x1 x2) := by
  intro s x1 x2
  refine And.imp Same.quiet_of (And.imp Same.store_of Same.ctl_of) ?_
  unfold State.placeWrite
  repeat' split
  all_goals try (rename_i hh; have hh' := congrArg Prod.fst hh; dsimp only at hh'; subst hh')
  all_goals try (rename_i hh; have hh' := congrArg Prod.snd hh; dsimp only at hh'; subst hh')
  all_goals try (have hf := State.fetch_frame s x1 x2; rw [‹State.fetch _ _ _ = _›] at hf; simp only [Fetch.st] at hf)
  all_goals simp [*]

@[simp] theorem State.ageSpent_frame : ∀ s x1, Same.quiet s (State.ageSpent s x1) ∧ Same.store s (State.ageSpent s x1) ∧ Same.ctl s (State.ageSpent s x1) ∧ Same.links s (State.ageSpent s x1) ∧ (State.ageSpent s x1).out = s.out ∧ (State.ageSpent s x1).regs = s.regs ∧ (State.ageSpent s x1).ctrs = s.ctrs ∧ (State.ageSpent s x1).log = s.log ∧ (State.ageSpent s x1).addr = s.addr ∧ (State.ageSpent s x1).trk = s.trk ∧ (State.ageSpent s x1).lc = s.lc ∧ (State.ageSpent s x1).ch = s.ch ∧ (State.ageSpent s x1).ec = s.ec := by
  intro s x1
  refine And.imp Same.quiet_of (And.imp Same.store_of (And.imp Same.ctl_of (And.imp Same.links_of id))) ?_
  unfold State.ageSpent
  try dsimp only
  (repeat' split) <;> simp

@[simp] theorem State.setSched_frame : ∀ s x1 x2, Same.quiet s (State.setSched s x1 x2) ∧ Same.store s (State.setSched s x1 x2) ∧ Same.ctl s (State.setSched s x1 x2) ∧ Same.links s (State.setSched s x1 x2) ∧ (State.setSched s x1 x2).out = s.out ∧ (State.setSched s x1 x2).regs = s.regs ∧ (State.setSched s x1 x2).ctrs = s.ctrs ∧ (State.setSched s x1 x2).log = s.log ∧ (State.setSched s x1 x2).addr = s.addr ∧ (State.setSched s x1 x2).trk = s.trk ∧ (State.setSched s x1 x2).lc = s.lc ∧ (State.setSched s x1 x2).ch = s.ch ∧ (State.setSched s x1 x2).ec = s.ec := by
  intro s x1 x2
  refine And.imp Same.quiet_of (And.imp Same.store_of (And.imp Same.ctl_of (And.imp Same.links_of id))) ?_
  unfold State.setSched
  try dsimp only
  (repeat' split) <;> simp

@[simp] theorem State.stageSteps_frame : ∀ s x1 x2 x3, Same.quiet s (State.stageSteps s x1 x2 x3) ∧ Same.store s (State.stageSteps s x1 x2 x3) ∧ Same.ctl s (State.stageSteps s x1 x2 x3) ∧ Same.links s (State.stageSteps s x1 x2 x3) ∧ (State.stageSteps s x1 x2 x3).out = s.out ∧ (State.stageSteps s x1 x2 x3).regs = s.regs ∧ (State.stageSteps s x1 x2 x3).ctrs = s.ctrs ∧ (State.stageSteps s x1 x2 x3).log = s.log ∧ (State.stageSteps s x1 x2 x3).addr = s.addr ∧ (State.stageSteps s x1 x2 x3).trk = s.trk ∧ (State.stageSteps s x1 x2 x3).lc = s.lc ∧ (State.stageSteps s x1 x2 x3).ch = s.ch ∧ (State.stageSteps s x1 x2 x3).ec = s.ec := by
  intro s x1 x2 x3
  refine And.imp Same.quiet_of (And.imp Same.store_of (And.imp Same.ctl_of (And.imp Same.links_of id))) ?_
  unfold State.stageSteps
  try dsimp only
  (repeat' split) <;> simp

@[simp] theorem State.trigger_frame : ∀ s x1 x2, Same.quiet s (State.trigger s x1 x2) ∧ Same.store s (State.trigger s x1 x2) ∧ Same.ctl s (State.trigger s x1 x2) ∧ Same.links s (State.trigger s x1 x2) ∧ (State.trigger s x1 x2).out = s.out ∧ (State.trigger s x1 x2).regs = s.regs ∧ (State.trigger s x1 x2).log = s.log ∧ (State.trigger s x1 x2).addr = s.addr ∧ (State.trigger s x1 x2).trk = s.trk ∧ (State.trigger s x1 x2).lc = s.lc ∧ (State.trigger s x1 x2).ch = s.ch ∧ (State.trigger s x1 x2).ec = s.ec := by
  intro s x1 x2
  refine And.imp Same.quiet_of (And.imp Same.store_of (And.imp Same.ctl_of (And.imp Same.links_of id))) ?_
  unfold State.trigger
  try dsimp only
  (repeat' split) <;> simp

@[simp] theorem State.doorbellAtomic_frame : ∀ s x1 x2, Same.quiet s (State.doorbellAtomic s x1 x2).1 ∧ Same.store s (State.doorbellAtomic s x1 x2).1 ∧ Same.ctl s (State.doorbellAtomic s x1 x2).1 ∧ Same.links s (State.doorbellAtomic s x1 x2).1 ∧ (State.doorbellAtomic s x1 x2).1.out = s.out ∧ (State.doorbellAtomic s x1 x2).1.regs = s.regs ∧ (State.doorbellAtomic s x1 x2).1.log = s.log ∧ (State.doorbellAtomic s x1 x2).1.addr = s.addr ∧ (State.doorbellAtomic s x1 x2).1.trk = s.trk ∧ (State.doorbellAtomic s x1 x2).1.lc = s.lc ∧ (State.doorbellAtomic s x1 x2).1.ch = s.ch ∧ (State.doorbellAtomic s x1 x2).1.ec = s.ec := by
  intro s x1 x2
  refine And.imp Same.quiet_of (And.imp Same.store_of (And.imp Same.ctl_of (And.imp Same.links_of id))) ?_
  unfold State.doorbellAtomic
  try dsimp only
  (repeat' split) <;> simp

@[simp] theorem State.doorbellWrite_frame : ∀ s x1 x2 x3, Same.quiet s (State.doorbellWrite s x1 x2 x3) ∧ Same.store s (State.doorbellWrite s x1 x2 x3) ∧ Same.ctl s (State.doorbellWrite s x1 x2 x3) ∧ Same.links s (State.doorbellWrite s x1 x2 x3) ∧ (State.doorbellWrite s x1 x2 x3).out = s.out ∧ (State.doorbellWrite s x1 x2 x3).regs = s.regs ∧ (State.doorbellWrite s x1 x2 x3).log = s.log ∧ (State.doorbellWrite s x1 x2 x3).addr = s.addr ∧ (State.doorbellWrite s x1 x2 x3).trk = s.trk ∧ (State.doorbellWrite s x1 x2 x3).lc = s.lc ∧ (State.doorbellWrite s x1 x2 x3).ch = s.ch ∧ (State.doorbellWrite s x1 x2 x3).ec = s.ec := by
  intro s x1 x2 x3
  refine And.imp Same.quiet_of (And.imp Same.store_of (And.imp Same.ctl_of (And.imp Same.links_of id))) ?_
  unfold State.doorbellWrite
  try dsimp only
  (repeat' split) <;> simp

@[simp] theorem State.ringDoorbell_frame : ∀ s x1 x2 x3, Same.quiet s (State.ringDoorbell s x1 x2 x3) ∧ Same.store s (State.ringDoorbell s x1 x2 x3) ∧ Same.ctl s (State.ringDoorbell s x1 x2 x3) ∧ (State.ringDoorbell s x1 x2 x3).addr = s.addr ∧ (State.ringDoorbell s x1 x2 x3).lc = s.lc ∧ (State.ringDoorbell s x1 x2 x3).ch = s.ch ∧ (State.ringDoorbell s x1 x2 x3).ec = s.ec ∧ (State.ringDoorbell s x1 x2 x3).vlt = s.vlt := by
  intro s x1 x2 x3
  refine And.imp Same.quiet_of (And.imp Same.store_of (And.imp Same.ctl_of id)) ?_
  unfold State.ringDoorbell
  repeat' split
  all_goals try (rename_i hh; have hh' := congrArg Prod.fst hh; dsimp only at hh'; subst hh')
  all_goals try (rename_i hh; have hh' := congrArg Prod.snd hh; dsimp only at hh'; subst hh')
  all_goals simp

@[simp] theorem State.tryWrite_frame : ∀ s x1 x2, Same.quiet s (State.tryWrite s x1 x2) ∧ Same.store s (State.tryWrite s x1 x2) ∧ Same.ctl s (State.tryWrite s x1 x2) := by
  intro s x1 x2
  refine And.imp Same.quiet_of (And.imp Same.store_of Same.ctl_of) ?_
  unfold State.tryWrite
  repeat' split
  all_goals try (rename_i hh; have hh' := congrArg Prod.fst hh; dsimp only at hh'; subst hh')
  all_goals try (rename_i hh; have hh' := congrArg Prod.snd hh; dsimp only at hh'; subst hh')
  all_goals simp

@[simp] theorem State.tryEntry_frame : ∀ s x1, Same.quiet s (State.tryEntry s x1) ∧ Same.store s (State.tryEntry s x1) ∧ Same.ctl s (State.tryEntry s x1) := by
  intro s x1
  refine And.imp Same.quiet_of (And.imp Same.store_of Same.ctl_of) ?_
  unfold State.tryEntry
  try dsimp only
  (repeat' split) <;> simp

@[simp] theorem State.pumpN_frame : ∀ x0 s, Same.quiet s (State.pumpN x0 s) ∧ Same.store s (State.pumpN x0 s) ∧ Same.ctl s (State.pumpN x0 s) := by
  intro x0 s
  refine And.imp Same.quiet_of (And.imp Same.store_of Same.ctl_of) ?_
  revert x0 s
  intro x0 s
  induction x0 generalizing s with
  | zero => simp [State.pumpN]
  | succ k ih =>
    unfold State.pumpN
    try dsimp only
    (repeat' split) <;> simp [ih]

@[simp] theorem State.pump_frame : ∀ s, Same.quiet s (State.pump s) ∧ Same.store s (State.pump s) ∧ Same.ctl s (State.pump s) := by
  intro s
  refine And.imp Same.quiet_of (And.imp Same.store_of Same.ctl_of) ?_
  unfold State.pump
  try dsimp only
  (repeat' split) <;> simp

@[simp] theorem State.redirectRead_frame : ∀ s x1, Same.quiet s (State.redirectRead s x1) ∧ Same.store s (State.redirectRead s x1) ∧ Same.ctl s (State.redirectRead s x1) ∧ Same.links s (State.redirectRead s x1) ∧ (State.redirectRead s x1).out = s.out ∧ (State.redirectRead s x1).regs = s.regs ∧ (State.redirectRead s x1).ctrs = s.ctrs ∧ (State.redirectRead s x1).log = s.log ∧ (State.redirectRead s x1).addr = s.addr ∧ (State.redirectRead s x1).tier = s.tier ∧ (State.redirectRead s x1).ch = s.ch ∧ (State.redirectRead s x1).ec = s.ec := by
  intro s x1
  refine And.imp Same.quiet_of (And.imp Same.store_of (And.imp Same.ctl_of (And.imp Same.links_of id))) ?_
  unfold State.redirectRead
  try dsimp only
  (repeat' split) <;> simp

@[simp] theorem State.redirectReads_frame : ∀ s x1, Same.quiet s (State.redirectReads s x1) ∧ Same.store s (State.redirectReads s x1) ∧ Same.ctl s (State.redirectReads s x1) := by
  intro s x1
  refine And.imp Same.quiet_of (And.imp Same.store_of Same.ctl_of) ?_
  unfold State.redirectReads
  try dsimp only
  (repeat' split) <;> simp

@[simp] theorem State.staleAll_frame : ∀ s, Same.quiet s (State.staleAll s) ∧ Same.store s (State.staleAll s) ∧ Same.ctl s (State.staleAll s) ∧ Same.path s (State.staleAll s) ∧ (State.staleAll s).out = s.out ∧ (State.staleAll s).regs = s.regs ∧ (State.staleAll s).ctrs = s.ctrs ∧ (State.staleAll s).log = s.log ∧ (State.staleAll s).twl = s.twl ∧ (State.staleAll s).vlt = s.vlt ∧ (State.staleAll s).net = s.net ∧ (State.staleAll s).cxl = s.cxl := by
  intro s
  refine And.imp Same.quiet_of (And.imp Same.store_of (And.imp Same.ctl_of (And.imp Same.path_of id))) ?_
  unfold State.staleAll
  try dsimp only
  (repeat' split) <;> simp

@[simp] theorem State.unitDone_frame : ∀ s x1, Same.quiet s (State.unitDone s x1) ∧ Same.store s (State.unitDone s x1) ∧ Same.path s (State.unitDone s x1) ∧ Same.links s (State.unitDone s x1) ∧ (State.unitDone s x1).out = s.out ∧ (State.unitDone s x1).regs = s.regs ∧ (State.unitDone s x1).ctrs = s.ctrs ∧ (State.unitDone s x1).mode = s.mode ∧ (State.unitDone s x1).pwr = s.pwr ∧ (State.unitDone s x1).log = s.log ∧ (State.unitDone s x1).cmd = s.cmd := by
  intro s x1
  refine And.imp Same.quiet_of (And.imp Same.store_of (And.imp Same.path_of (And.imp Same.links_of id))) ?_
  unfold State.unitDone
  try dsimp only
  (repeat' split) <;> simp

@[simp] theorem State.retireChannels_frame : ∀ s x1, Same.quiet s (State.retireChannels s x1) ∧ Same.store s (State.retireChannels s x1) := by
  intro s x1
  refine And.imp Same.quiet_of Same.store_of ?_
  unfold State.retireChannels
  try dsimp only
  (repeat' split) <;> simp

@[simp] theorem State.retireChannel_frame : ∀ s x1, Same.quiet s (State.retireChannel s x1) ∧ Same.store s (State.retireChannel s x1) := by
  intro s x1
  refine And.imp Same.quiet_of Same.store_of ?_
  unfold State.retireChannel
  try dsimp only
  (repeat' split) <;> simp

@[simp] theorem State.setRefetch_frame : ∀ s x1 x2, Same.quiet s (State.setRefetch s x1 x2) ∧ Same.store s (State.setRefetch s x1 x2) ∧ Same.ctl s (State.setRefetch s x1 x2) ∧ Same.links s (State.setRefetch s x1 x2) ∧ (State.setRefetch s x1 x2).out = s.out ∧ (State.setRefetch s x1 x2).regs = s.regs ∧ (State.setRefetch s x1 x2).ctrs = s.ctrs ∧ (State.setRefetch s x1 x2).log = s.log ∧ (State.setRefetch s x1 x2).addr = s.addr ∧ (State.setRefetch s x1 x2).trk = s.trk ∧ (State.setRefetch s x1 x2).lc = s.lc ∧ (State.setRefetch s x1 x2).ch = s.ch ∧ (State.setRefetch s x1 x2).ec = s.ec := by
  intro s x1 x2
  refine And.imp Same.quiet_of (And.imp Same.store_of (And.imp Same.ctl_of (And.imp Same.links_of id))) ?_
  unfold State.setRefetch
  try dsimp only
  (repeat' split) <;> simp

@[simp] theorem State.refetchLocal_frame : ∀ s x1, Same.quiet s (State.refetchLocal s x1) ∧ Same.store s (State.refetchLocal s x1) ∧ Same.ctl s (State.refetchLocal s x1) ∧ Same.links s (State.refetchLocal s x1) ∧ (State.refetchLocal s x1).out = s.out ∧ (State.refetchLocal s x1).regs = s.regs ∧ (State.refetchLocal s x1).ctrs = s.ctrs ∧ (State.refetchLocal s x1).log = s.log ∧ (State.refetchLocal s x1).addr = s.addr ∧ (State.refetchLocal s x1).trk = s.trk ∧ (State.refetchLocal s x1).lc = s.lc ∧ (State.refetchLocal s x1).ch = s.ch ∧ (State.refetchLocal s x1).ec = s.ec := by
  intro s x1
  refine And.imp Same.quiet_of (And.imp Same.store_of (And.imp Same.ctl_of (And.imp Same.links_of id))) ?_
  unfold State.refetchLocal
  try dsimp only
  (repeat' split) <;> simp

@[simp] theorem State.refetchStart_frame : ∀ s x1, Same.quiet s (State.refetchStart s x1) ∧ Same.store s (State.refetchStart s x1) ∧ Same.ctl s (State.refetchStart s x1) ∧ (State.refetchStart s x1).regs = s.regs ∧ (State.refetchStart s x1).log = s.log ∧ (State.refetchStart s x1).addr = s.addr ∧ (State.refetchStart s x1).trk = s.trk ∧ (State.refetchStart s x1).lc = s.lc ∧ (State.refetchStart s x1).ch = s.ch ∧ (State.refetchStart s x1).ec = s.ec ∧ (State.refetchStart s x1).vlt = s.vlt ∧ (State.refetchStart s x1).net = s.net ∧ (State.refetchStart s x1).cxl = s.cxl := by
  intro s x1
  refine And.imp Same.quiet_of (And.imp Same.store_of (And.imp Same.ctl_of id)) ?_
  unfold State.refetchStart
  try dsimp only
  (repeat' split) <;> simp

@[simp] theorem State.startRepair_frame : ∀ s x1, Same.quiet s (State.startRepair s x1) ∧ Same.store s (State.startRepair s x1) ∧ Same.ctl s (State.startRepair s x1) ∧ (State.startRepair s x1).regs = s.regs ∧ (State.startRepair s x1).log = s.log ∧ (State.startRepair s x1).addr = s.addr ∧ (State.startRepair s x1).trk = s.trk ∧ (State.startRepair s x1).lc = s.lc ∧ (State.startRepair s x1).ch = s.ch ∧ (State.startRepair s x1).vlt = s.vlt ∧ (State.startRepair s x1).net = s.net ∧ (State.startRepair s x1).cxl = s.cxl := by
  intro s x1
  refine And.imp Same.quiet_of (And.imp Same.store_of (And.imp Same.ctl_of id)) ?_
  unfold State.startRepair
  try dsimp only
  (repeat' split) <;> simp

@[simp] theorem State.autoRepair_frame : ∀ s x1 x2 x3, Same.quiet s (State.autoRepair s x1 x2 x3) ∧ Same.store s (State.autoRepair s x1 x2 x3) := by
  intro s x1 x2 x3
  refine And.imp Same.quiet_of Same.store_of ?_
  unfold State.autoRepair
  try dsimp only
  (repeat' split) <;> simp

@[simp] theorem State.calibrate_frame : ∀ s x1 x2 x3, Same.quiet s (State.calibrate s x1 x2 x3) ∧ Same.store s (State.calibrate s x1 x2 x3) ∧ Same.ctl s (State.calibrate s x1 x2 x3) ∧ Same.path s (State.calibrate s x1 x2 x3) ∧ Same.links s (State.calibrate s x1 x2 x3) ∧ (State.calibrate s x1 x2 x3).regs = s.regs ∧ (State.calibrate s x1 x2 x3).log = s.log := by
  intro s x1 x2 x3
  refine And.imp Same.quiet_of (And.imp Same.store_of (And.imp Same.ctl_of (And.imp Same.path_of (And.imp Same.links_of id)))) ?_
  unfold State.calibrate
  try dsimp only
  (repeat' split) <;> simp

@[simp] theorem State.settle_frame : ∀ s x1, Same.quiet s (State.settle s x1) ∧ Same.store s (State.settle s x1) ∧ Same.ctl s (State.settle s x1) ∧ Same.links s (State.settle s x1) ∧ (State.settle s x1).out = s.out ∧ (State.settle s x1).regs = s.regs ∧ (State.settle s x1).log = s.log ∧ (State.settle s x1).addr = s.addr ∧ (State.settle s x1).trk = s.trk ∧ (State.settle s x1).tier = s.tier ∧ (State.settle s x1).lc = s.lc ∧ (State.settle s x1).ec = s.ec := by
  intro s x1
  refine And.imp Same.quiet_of (And.imp Same.store_of (And.imp Same.ctl_of (And.imp Same.links_of id))) ?_
  unfold State.settle
  try dsimp only
  (repeat' split) <;> simp

@[simp] theorem State.releaseChannel_frame : ∀ s x1 x2, Same.quiet s (State.releaseChannel s x1 x2) ∧ Same.store s (State.releaseChannel s x1 x2) ∧ (State.releaseChannel s x1 x2).mode = s.mode ∧ (State.releaseChannel s x1 x2).pwr = s.pwr ∧ (State.releaseChannel s x1 x2).cmd = s.cmd := by
  intro s x1 x2
  refine And.imp Same.quiet_of (And.imp Same.store_of id) ?_
  unfold State.releaseChannel
  try dsimp only
  (repeat' split) <;> simp

@[simp] theorem State.remapRefused_frame : ∀ s x1, Same.quiet s (State.remapRefused s x1) ∧ Same.store s (State.remapRefused s x1) ∧ Same.ctl s (State.remapRefused s x1) ∧ Same.links s (State.remapRefused s x1) ∧ (State.remapRefused s x1).out = s.out ∧ (State.remapRefused s x1).regs = s.regs ∧ (State.remapRefused s x1).ctrs = s.ctrs ∧ (State.remapRefused s x1).log = s.log ∧ (State.remapRefused s x1).addr = s.addr ∧ (State.remapRefused s x1).trk = s.trk ∧ (State.remapRefused s x1).tier = s.tier ∧ (State.remapRefused s x1).lc = s.lc ∧ (State.remapRefused s x1).ch = s.ch := by
  intro s x1
  refine And.imp Same.quiet_of (And.imp Same.store_of (And.imp Same.ctl_of (And.imp Same.links_of id))) ?_
  unfold State.remapRefused
  try dsimp only
  (repeat' split) <;> simp

@[simp] theorem State.retireLine_frame : ∀ s x1, Same.quiet s (State.retireLine s x1) ∧ Same.store s (State.retireLine s x1) ∧ (State.retireLine s x1).mode = s.mode ∧ (State.retireLine s x1).pwr = s.pwr ∧ (State.retireLine s x1).cmd = s.cmd := by
  intro s x1
  refine And.imp Same.quiet_of (And.imp Same.store_of id) ?_
  unfold State.retireLine
  try dsimp only
  (repeat' split) <;> simp

@[simp] theorem State.actChannel_frame : ∀ s x1 x2 x3 x4, Same.quiet s (State.actChannel s x1 x2 x3 x4) ∧ Same.store s (State.actChannel s x1 x2 x3 x4) := by
  intro s x1 x2 x3 x4
  refine And.imp Same.quiet_of Same.store_of ?_
  unfold State.actChannel
  try dsimp only
  (repeat' split) <;> simp

@[simp] theorem State.markRecord_frame : ∀ s x1 x2, Same.quiet s (State.markRecord s x1 x2) ∧ Same.store s (State.markRecord s x1 x2) ∧ Same.ctl s (State.markRecord s x1 x2) ∧ Same.path s (State.markRecord s x1 x2) ∧ Same.links s (State.markRecord s x1 x2) ∧ (State.markRecord s x1 x2).out = s.out ∧ (State.markRecord s x1 x2).regs = s.regs := by
  intro s x1 x2
  refine And.imp Same.quiet_of (And.imp Same.store_of (And.imp Same.ctl_of (And.imp Same.path_of (And.imp Same.links_of id)))) ?_
  unfold State.markRecord
  try dsimp only
  (repeat' split) <;> simp

@[simp] theorem State.actDevice_frame : ∀ s x1, Same.quiet s (State.actDevice s x1) ∧ Same.store s (State.actDevice s x1) ∧ (State.actDevice s x1).mode = s.mode ∧ (State.actDevice s x1).pwr = s.pwr ∧ (State.actDevice s x1).cmd = s.cmd := by
  intro s x1
  refine And.imp Same.quiet_of (And.imp Same.store_of id) ?_
  unfold State.actDevice
  try dsimp only
  (repeat' split) <;> simp

@[simp] theorem State.setWayOff_frame : ∀ s x1 x2 x3, Same.quiet s (State.setWayOff s x1 x2 x3) ∧ Same.store s (State.setWayOff s x1 x2 x3) ∧ Same.ctl s (State.setWayOff s x1 x2 x3) ∧ Same.links s (State.setWayOff s x1 x2 x3) ∧ (State.setWayOff s x1 x2 x3).out = s.out ∧ (State.setWayOff s x1 x2 x3).regs = s.regs ∧ (State.setWayOff s x1 x2 x3).ctrs = s.ctrs ∧ (State.setWayOff s x1 x2 x3).log = s.log ∧ (State.setWayOff s x1 x2 x3).addr = s.addr ∧ (State.setWayOff s x1 x2 x3).trk = s.trk ∧ (State.setWayOff s x1 x2 x3).tier = s.tier ∧ (State.setWayOff s x1 x2 x3).ch = s.ch ∧ (State.setWayOff s x1 x2 x3).ec = s.ec := by
  intro s x1 x2 x3
  refine And.imp Same.quiet_of (And.imp Same.store_of (And.imp Same.ctl_of (And.imp Same.links_of id))) ?_
  unfold State.setWayOff
  try dsimp only
  (repeat' split) <;> simp

@[simp] theorem State.contain_frame : ∀ s x1, Same.quiet s (State.contain s x1) ∧ Same.store s (State.contain s x1) ∧ Same.links s (State.contain s x1) ∧ (State.contain s x1).out = s.out ∧ (State.contain s x1).regs = s.regs ∧ (State.contain s x1).ctrs = s.ctrs ∧ (State.contain s x1).mode = s.mode ∧ (State.contain s x1).pwr = s.pwr ∧ (State.contain s x1).log = s.log ∧ (State.contain s x1).addr = s.addr ∧ (State.contain s x1).trk = s.trk ∧ (State.contain s x1).tier = s.tier ∧ (State.contain s x1).ch = s.ch ∧ (State.contain s x1).ec = s.ec ∧ (State.contain s x1).cmd = s.cmd := by
  intro s x1
  refine And.imp Same.quiet_of (And.imp Same.store_of (And.imp Same.links_of id)) ?_
  unfold State.contain
  try dsimp only
  (repeat' split) <;> simp

@[simp] theorem State.loseDies_frame : ∀ s x1, Same.quiet s (State.loseDies s x1) ∧ Same.store s (State.loseDies s x1) ∧ Same.ctl s (State.loseDies s x1) ∧ Same.path s (State.loseDies s x1) ∧ (State.loseDies s x1).out = s.out ∧ (State.loseDies s x1).regs = s.regs ∧ (State.loseDies s x1).ctrs = s.ctrs ∧ (State.loseDies s x1).log = s.log ∧ (State.loseDies s x1).twl = s.twl ∧ (State.loseDies s x1).pair = s.pair ∧ (State.loseDies s x1).net = s.net ∧ (State.loseDies s x1).cxl = s.cxl := by
  intro s x1
  refine And.imp Same.quiet_of (And.imp Same.store_of (And.imp Same.ctl_of (And.imp Same.path_of id))) ?_
  unfold State.loseDies
  try dsimp only
  (repeat' split) <;> simp

@[simp] theorem State.dropHeld_frame : ∀ s x1, Same.quiet s (State.dropHeld s x1) ∧ Same.store s (State.dropHeld s x1) ∧ Same.ctl s (State.dropHeld s x1) ∧ Same.links s (State.dropHeld s x1) ∧ (State.dropHeld s x1).out = s.out ∧ (State.dropHeld s x1).regs = s.regs ∧ (State.dropHeld s x1).ctrs = s.ctrs ∧ (State.dropHeld s x1).log = s.log ∧ (State.dropHeld s x1).addr = s.addr ∧ (State.dropHeld s x1).trk = s.trk ∧ (State.dropHeld s x1).tier = s.tier ∧ (State.dropHeld s x1).ch = s.ch ∧ (State.dropHeld s x1).ec = s.ec := by
  intro s x1
  refine And.imp Same.quiet_of (And.imp Same.store_of (And.imp Same.ctl_of (And.imp Same.links_of id))) ?_
  unfold State.dropHeld
  try dsimp only
  (repeat' split) <;> simp

@[simp] theorem State.deliver_frame : ∀ s x1 x2 x3 x4, Same.quiet s (State.deliver s x1 x2 x3 x4) ∧ Same.store s (State.deliver s x1 x2 x3 x4) ∧ Same.ctl s (State.deliver s x1 x2 x3 x4) ∧ (State.deliver s x1 x2 x3 x4).tier = s.tier := by
  intro s x1 x2 x3 x4
  refine And.imp Same.quiet_of (And.imp Same.store_of (And.imp Same.ctl_of id)) ?_
  unfold State.deliver
  try dsimp only
  simp (disch := (intros; (repeat' split) <;> (try simp)))

@[simp] theorem State.refetchMoves_frame : ∀ s x1, Same.quiet s (State.refetchMoves s x1) ∧ Same.store s (State.refetchMoves s x1) ∧ Same.ctl s (State.refetchMoves s x1) ∧ Same.links s (State.refetchMoves s x1) ∧ (State.refetchMoves s x1).out = s.out ∧ (State.refetchMoves s x1).regs = s.regs ∧ (State.refetchMoves s x1).ctrs = s.ctrs ∧ (State.refetchMoves s x1).log = s.log ∧ (State.refetchMoves s x1).addr = s.addr ∧ (State.refetchMoves s x1).trk = s.trk ∧ (State.refetchMoves s x1).lc = s.lc ∧ (State.refetchMoves s x1).ch = s.ch ∧ (State.refetchMoves s x1).ec = s.ec := by
  intro s x1
  refine And.imp Same.quiet_of (And.imp Same.store_of (And.imp Same.ctl_of (And.imp Same.links_of id))) ?_
  unfold State.refetchMoves
  try dsimp only
  (repeat' split) <;> simp

@[simp] theorem State.spareOutcome_frame : ∀ s x1 x2, Same.quiet s (State.spareOutcome s x1 x2) ∧ Same.store s (State.spareOutcome s x1 x2) ∧ Same.ctl s (State.spareOutcome s x1 x2) ∧ Same.links s (State.spareOutcome s x1 x2) ∧ (State.spareOutcome s x1 x2).out = s.out ∧ (State.spareOutcome s x1 x2).regs = s.regs ∧ (State.spareOutcome s x1 x2).log = s.log ∧ (State.spareOutcome s x1 x2).addr = s.addr ∧ (State.spareOutcome s x1 x2).trk = s.trk ∧ (State.spareOutcome s x1 x2).tier = s.tier ∧ (State.spareOutcome s x1 x2).lc = s.lc := by
  intro s x1 x2
  refine And.imp Same.quiet_of (And.imp Same.store_of (And.imp Same.ctl_of (And.imp Same.links_of id))) ?_
  unfold State.spareOutcome
  try dsimp only
  (repeat' split) <;> simp

@[simp] theorem State.refetchPoison_frame : ∀ s x1, Same.quiet s (State.refetchPoison s x1) ∧ Same.store s (State.refetchPoison s x1) ∧ Same.ctl s (State.refetchPoison s x1) := by
  intro s x1
  refine And.imp Same.quiet_of (And.imp Same.store_of Same.ctl_of) ?_
  unfold State.refetchPoison
  try dsimp only
  (repeat' split) <;> simp

@[simp] theorem State.lostHeld_frame : ∀ s x1, Same.quiet s (State.lostHeld s x1) ∧ Same.store s (State.lostHeld s x1) ∧ Same.ctl s (State.lostHeld s x1) := by
  intro s x1
  refine And.imp Same.quiet_of (And.imp Same.store_of Same.ctl_of) ?_
  unfold State.lostHeld
  try dsimp only
  (repeat' split) <;> simp

@[simp] theorem State.loseSlice_frame : ∀ s x1, Same.quiet s (State.loseSlice s x1) ∧ Same.store s (State.loseSlice s x1) ∧ (State.loseSlice s x1).mode = s.mode ∧ (State.loseSlice s x1).pwr = s.pwr ∧ (State.loseSlice s x1).cmd = s.cmd := by
  intro s x1
  refine And.imp Same.quiet_of (And.imp Same.store_of id) ?_
  unfold State.loseSlice
  try dsimp only
  (repeat' split) <;> simp

@[simp] theorem State.discard_frame : ∀ s x1, Same.quiet s (State.discard s x1) ∧ Same.store s (State.discard s x1) ∧ Same.ctl s (State.discard s x1) ∧ Same.path s (State.discard s x1) ∧ Same.links s (State.discard s x1) ∧ (State.discard s x1).out = s.out ∧ (State.discard s x1).regs = s.regs ∧ (State.discard s x1).log = s.log := by
  intro s x1
  refine And.imp Same.quiet_of (And.imp Same.store_of (And.imp Same.ctl_of (And.imp Same.path_of (And.imp Same.links_of id)))) ?_
  unfold State.discard
  try dsimp only
  (repeat' split) <;> simp

@[simp] theorem State.intoMissbuf_frame : ∀ s x1 x2, Same.quiet s (State.intoMissbuf s x1 x2) ∧ Same.store s (State.intoMissbuf s x1 x2) ∧ Same.ctl s (State.intoMissbuf s x1 x2) ∧ Same.path s (State.intoMissbuf s x1 x2) ∧ (State.intoMissbuf s x1 x2).out = s.out ∧ (State.intoMissbuf s x1 x2).regs = s.regs ∧ (State.intoMissbuf s x1 x2).log = s.log ∧ (State.intoMissbuf s x1 x2).twl = s.twl ∧ (State.intoMissbuf s x1 x2).pair = s.pair ∧ (State.intoMissbuf s x1 x2).vlt = s.vlt ∧ (State.intoMissbuf s x1 x2).cxl = s.cxl := by
  intro s x1 x2
  refine And.imp Same.quiet_of (And.imp Same.store_of (And.imp Same.ctl_of (And.imp Same.path_of id))) ?_
  unfold State.intoMissbuf
  try dsimp only
  (repeat' split) <;> simp

@[simp] theorem State.submit_frame : ∀ s x1, Same.quiet s (State.submit s x1) ∧ Same.store s (State.submit s x1) ∧ Same.ctl s (State.submit s x1) := by
  intro s x1
  refine And.imp Same.quiet_of (And.imp Same.store_of Same.ctl_of) ?_
  unfold State.submit
  repeat' split
  all_goals try (rename_i hh; have hh' := congrArg Prod.fst hh; dsimp only at hh'; subst hh')
  all_goals try (rename_i hh; have hh' := congrArg Prod.snd hh; dsimp only at hh'; subst hh')
  all_goals simp

@[simp] theorem State.acceptPkt_frame : ∀ s x1 x2 x3 x4 x5, Same.quiet s (State.acceptPkt s x1 x2 x3 x4 x5) ∧ Same.store s (State.acceptPkt s x1 x2 x3 x4 x5) ∧ Same.ctl s (State.acceptPkt s x1 x2 x3 x4 x5) := by
  intro s x1 x2 x3 x4 x5
  refine And.imp Same.quiet_of (And.imp Same.store_of Same.ctl_of) ?_
  unfold State.acceptPkt
  try dsimp only
  (repeat' split) <;> simp

@[simp] theorem State.dropWaiting_frame : ∀ s x1, Same.quiet s (State.dropWaiting s x1).1 ∧ Same.store s (State.dropWaiting s x1).1 ∧ Same.ctl s (State.dropWaiting s x1).1 ∧ Same.path s (State.dropWaiting s x1).1 ∧ (State.dropWaiting s x1).1.out = s.out ∧ (State.dropWaiting s x1).1.regs = s.regs ∧ (State.dropWaiting s x1).1.ctrs = s.ctrs ∧ (State.dropWaiting s x1).1.log = s.log ∧ (State.dropWaiting s x1).1.twl = s.twl ∧ (State.dropWaiting s x1).1.pair = s.pair ∧ (State.dropWaiting s x1).1.vlt = s.vlt ∧ (State.dropWaiting s x1).1.cxl = s.cxl := by
  intro s x1
  refine And.imp Same.quiet_of (And.imp Same.store_of (And.imp Same.ctl_of (And.imp Same.path_of id))) ?_
  unfold State.dropWaiting
  try dsimp only
  (repeat' split) <;> simp

@[simp] theorem State.dropPkts_frame : ∀ s x1 x2, Same.quiet s (State.dropPkts s x1 x2) ∧ Same.store s (State.dropPkts s x1 x2) ∧ Same.ctl s (State.dropPkts s x1 x2) ∧ Same.path s (State.dropPkts s x1 x2) ∧ (State.dropPkts s x1 x2).out = s.out ∧ (State.dropPkts s x1 x2).regs = s.regs ∧ (State.dropPkts s x1 x2).log = s.log ∧ (State.dropPkts s x1 x2).twl = s.twl ∧ (State.dropPkts s x1 x2).pair = s.pair ∧ (State.dropPkts s x1 x2).vlt = s.vlt ∧ (State.dropPkts s x1 x2).cxl = s.cxl := by
  intro s x1 x2
  refine And.imp Same.quiet_of (And.imp Same.store_of (And.imp Same.ctl_of (And.imp Same.path_of id))) ?_
  unfold State.dropPkts
  try dsimp only
  (repeat' split) <;> simp

@[simp] theorem State.epochEnter_frame : ∀ s, Same.quiet s (State.epochEnter s) ∧ Same.store s (State.epochEnter s) ∧ Same.ctl s (State.epochEnter s) ∧ Same.path s (State.epochEnter s) ∧ (State.epochEnter s).out = s.out ∧ (State.epochEnter s).regs = s.regs ∧ (State.epochEnter s).ctrs = s.ctrs ∧ (State.epochEnter s).log = s.log ∧ (State.epochEnter s).twl = s.twl ∧ (State.epochEnter s).pair = s.pair ∧ (State.epochEnter s).vlt = s.vlt ∧ (State.epochEnter s).cxl = s.cxl := by
  intro s
  refine And.imp Same.quiet_of (And.imp Same.store_of (And.imp Same.ctl_of (And.imp Same.path_of id))) ?_
  unfold State.epochEnter
  try dsimp only
  (repeat' split) <;> simp

@[simp] theorem State.raiseData_frame : ∀ s x1 x2, Same.quiet s (State.raiseData s x1 x2) ∧ Same.store s (State.raiseData s x1 x2) ∧ Same.ctl s (State.raiseData s x1 x2) ∧ Same.path s (State.raiseData s x1 x2) ∧ (State.raiseData s x1 x2).out = s.out ∧ (State.raiseData s x1 x2).regs = s.regs ∧ (State.raiseData s x1 x2).log = s.log ∧ (State.raiseData s x1 x2).twl = s.twl ∧ (State.raiseData s x1 x2).pair = s.pair ∧ (State.raiseData s x1 x2).net = s.net ∧ (State.raiseData s x1 x2).cxl = s.cxl := by
  intro s x1 x2
  refine And.imp Same.quiet_of (And.imp Same.store_of (And.imp Same.ctl_of (And.imp Same.path_of id))) ?_
  unfold State.raiseData
  try dsimp only
  (repeat' split) <;> simp

@[simp] theorem State.checkPkt_frame : ∀ s x1 x2 x3 x4, Same.quiet s (State.checkPkt s x1 x2 x3 x4) ∧ Same.store s (State.checkPkt s x1 x2 x3 x4) ∧ Same.ctl s (State.checkPkt s x1 x2 x3 x4) := by
  intro s x1 x2 x3 x4
  refine And.imp Same.quiet_of (And.imp Same.store_of Same.ctl_of) ?_
  unfold State.checkPkt
  try dsimp only
  (repeat' split) <;> simp

@[simp] theorem State.cnp_frame : ∀ s x1 x2 x3, Same.quiet s (State.cnp s x1 x2 x3).1 ∧ Same.store s (State.cnp s x1 x2 x3).1 ∧ Same.ctl s (State.cnp s x1 x2 x3).1 ∧ Same.path s (State.cnp s x1 x2 x3).1 ∧ (State.cnp s x1 x2 x3).1.regs = s.regs ∧ (State.cnp s x1 x2 x3).1.log = s.log ∧ (State.cnp s x1 x2 x3).1.twl = s.twl ∧ (State.cnp s x1 x2 x3).1.pair = s.pair ∧ (State.cnp s x1 x2 x3).1.vlt = s.vlt ∧ (State.cnp s x1 x2 x3).1.cxl = s.cxl := by
  intro s x1 x2 x3
  refine And.imp Same.quiet_of (And.imp Same.store_of (And.imp Same.ctl_of (And.imp Same.path_of id))) ?_
  unfold State.cnp
  try dsimp only
  (repeat' split) <;> simp

@[simp] theorem State.dupPkt_frame : ∀ s x1 x2 x3, Same.quiet s (State.dupPkt s x1 x2 x3) ∧ Same.store s (State.dupPkt s x1 x2 x3) ∧ Same.ctl s (State.dupPkt s x1 x2 x3) := by
  intro s x1 x2 x3
  refine And.imp Same.quiet_of (And.imp Same.store_of Same.ctl_of) ?_
  unfold State.dupPkt
  try dsimp only
  (repeat' split) <;> simp

@[simp] theorem State.takePkt_frame : ∀ s x1 x2 x3, Same.quiet s (State.takePkt s x1 x2 x3) ∧ Same.store s (State.takePkt s x1 x2 x3) ∧ Same.ctl s (State.takePkt s x1 x2 x3) := by
  intro s x1 x2 x3
  refine And.imp Same.quiet_of (And.imp Same.store_of Same.ctl_of) ?_
  unfold State.takePkt
  extract_lets n0 s1 c1 s2
  have h2 : s2.quietP = s.quietP ∧ s2.storeP = s.storeP ∧ s2.ctlP = s.ctlP := by simp [s2, s1]
  clear_value s2 c1
  split
  · simpa using h2
  · split
    rename_i hh
    have hh' := congrArg Prod.fst hh
    dsimp only at hh'
    subst hh'
    extract_lets d
    clear_value d
    split
    · simpa using h2
    · split
      · split
        · simpa using h2
        · simp only [State.bump_frame, State.setConn_frame, State.sendFrameEth_frame, State.cnp_frame]
          exact h2
      · simpa using h2

@[simp] theorem State.netCtx_frame : ∀ s x1, Same.quiet s (State.netCtx s x1) ∧ Same.store s (State.netCtx s x1) ∧ Same.ctl s (State.netCtx s x1) := by
  intro s x1
  refine And.imp Same.quiet_of (And.imp Same.store_of Same.ctl_of) ?_
  unfold State.netCtx
  try dsimp only
  (repeat' split) <;> simp

@[simp] theorem State.netIn_frame : ∀ s x1, Same.quiet s (State.netIn s x1) ∧ Same.store s (State.netIn s x1) ∧ Same.ctl s (State.netIn s x1) := by
  intro s x1
  refine And.imp Same.quiet_of (And.imp Same.store_of Same.ctl_of) ?_
  unfold State.netIn
  try dsimp only
  (repeat' split) <;> simp

@[simp] theorem State.drainIn_frame : ∀ x0 s, Same.quiet s (State.drainIn x0 s) ∧ Same.store s (State.drainIn x0 s) ∧ Same.ctl s (State.drainIn x0 s) := by
  intro x0 s
  refine And.imp Same.quiet_of (And.imp Same.store_of Same.ctl_of) ?_
  revert x0 s
  intro x0 s
  induction x0 generalizing s with
  | zero => simp [State.drainIn]
  | succ k ih =>
    unfold State.drainIn
    try dsimp only
    (repeat' split) <;> simp [ih]

@[simp] theorem State.drainMiss_frame : ∀ x0 s x2, Same.quiet s (State.drainMiss x0 s x2) ∧ Same.store s (State.drainMiss x0 s x2) ∧ Same.ctl s (State.drainMiss x0 s x2) := by
  intro x0 s x2
  refine And.imp Same.quiet_of (And.imp Same.store_of Same.ctl_of) ?_
  revert x0 s x2
  intro x0 s x2
  induction x0 generalizing s x2 with
  | zero => simp [State.drainMiss]
  | succ k ih =>
    unfold State.drainMiss
    try dsimp only
    (repeat' split) <;> simp [ih]

@[simp] theorem State.retryStall_frame : ∀ s x1, Same.quiet s (State.retryStall s x1) ∧ Same.store s (State.retryStall s x1) ∧ Same.ctl s (State.retryStall s x1) := by
  intro s x1
  refine And.imp Same.quiet_of (And.imp Same.store_of Same.ctl_of) ?_
  unfold State.retryStall
  try dsimp only
  (repeat' split) <;> simp

@[simp] theorem State.retryStalls_frame : ∀ s, Same.quiet s (State.retryStalls s) ∧ Same.store s (State.retryStalls s) ∧ Same.ctl s (State.retryStalls s) := by
  intro s
  refine And.imp Same.quiet_of (And.imp Same.store_of Same.ctl_of) ?_
  unfold State.retryStalls
  try dsimp only
  (repeat' split) <;> simp

@[simp] theorem State.sendPfc_frame : ∀ s x1 x2 x3 x4, Same.quiet s (State.sendPfc s x1 x2 x3 x4) ∧ Same.store s (State.sendPfc s x1 x2 x3 x4) ∧ Same.ctl s (State.sendPfc s x1 x2 x3 x4) ∧ Same.path s (State.sendPfc s x1 x2 x3 x4) ∧ Same.links s (State.sendPfc s x1 x2 x3 x4) ∧ (State.sendPfc s x1 x2 x3 x4).regs = s.regs ∧ (State.sendPfc s x1 x2 x3 x4).log = s.log := by
  intro s x1 x2 x3 x4
  refine And.imp Same.quiet_of (And.imp Same.store_of (And.imp Same.ctl_of (And.imp Same.path_of (And.imp Same.links_of id)))) ?_
  unfold State.sendPfc
  try dsimp only
  (repeat' split) <;> simp

end Sys2Proof.Machine
end

