-- ==== Sys2Proof/Laws/FrameUnits.lean ====
section
/-!
SUPPORT. Laws/FrameUnits.lean: what the shared operations leave unchanged, one lemma each (second part).
-/
namespace Sys2Proof.Machine

@[simp] theorem State.sendXons_frame : ∀ s, Same.quiet s (State.sendXons s) ∧ Same.store s (State.sendXons s) ∧ Same.ctl s (State.sendXons s) ∧ Same.path s (State.sendXons s) ∧ (State.sendXons s).regs = s.regs ∧ (State.sendXons s).log = s.log ∧ (State.sendXons s).twl = s.twl ∧ (State.sendXons s).pair = s.pair ∧ (State.sendXons s).vlt = s.vlt ∧ (State.sendXons s).cxl = s.cxl := by
  intro s
  refine And.imp Same.quiet_of (And.imp Same.store_of (And.imp Same.ctl_of (And.imp Same.path_of id))) ?_
  unfold State.sendXons
  try dsimp only
  (repeat' split) <;> simp

@[simp] theorem State.netRun_frame : ∀ s, Same.quiet s (State.netRun s) ∧ Same.store s (State.netRun s) ∧ Same.ctl s (State.netRun s) := by
  intro s
  refine And.imp Same.quiet_of (And.imp Same.store_of Same.ctl_of) ?_
  unfold State.netRun
  try dsimp only
  (repeat' split) <;> simp

@[simp] theorem State.report_frame : ∀ s x1 x2 x3, Same.quiet s (State.report s x1 x2 x3) ∧ Same.store s (State.report s x1 x2 x3) ∧ Same.path s (State.report s x1 x2 x3) ∧ Same.links s (State.report s x1 x2 x3) ∧ (State.report s x1 x2 x3).out = s.out ∧ (State.report s x1 x2 x3).regs = s.regs ∧ (State.report s x1 x2 x3).ctrs = s.ctrs ∧ (State.report s x1 x2 x3).mode = s.mode ∧ (State.report s x1 x2 x3).pwr = s.pwr ∧ (State.report s x1 x2 x3).log = s.log ∧ (State.report s x1 x2 x3).cmd = s.cmd := by
  intro s x1 x2 x3
  refine And.imp Same.quiet_of (And.imp Same.store_of (And.imp Same.path_of (And.imp Same.links_of id))) ?_
  unfold State.report
  try dsimp only
  (repeat' split) <;> simp

@[simp] theorem State.resumeStall_frame : ∀ s x1, Same.quiet s (State.resumeStall s x1) ∧ Same.store s (State.resumeStall s x1) ∧ Same.path s (State.resumeStall s x1) ∧ Same.links s (State.resumeStall s x1) ∧ (State.resumeStall s x1).out = s.out ∧ (State.resumeStall s x1).regs = s.regs ∧ (State.resumeStall s x1).ctrs = s.ctrs ∧ (State.resumeStall s x1).mode = s.mode ∧ (State.resumeStall s x1).pwr = s.pwr ∧ (State.resumeStall s x1).log = s.log ∧ (State.resumeStall s x1).cmd = s.cmd := by
  intro s x1
  refine And.imp Same.quiet_of (And.imp Same.store_of (And.imp Same.path_of (And.imp Same.links_of id))) ?_
  unfold State.resumeStall
  try dsimp only
  (repeat' split) <;> simp

@[simp] theorem State.setEight_frame : ∀ s x1 x2, Same.quiet s (State.setEight s x1 x2) ∧ Same.store s (State.setEight s x1 x2) ∧ Same.path s (State.setEight s x1 x2) ∧ Same.links s (State.setEight s x1 x2) ∧ (State.setEight s x1 x2).out = s.out ∧ (State.setEight s x1 x2).regs = s.regs ∧ (State.setEight s x1 x2).ctrs = s.ctrs ∧ (State.setEight s x1 x2).mode = s.mode ∧ (State.setEight s x1 x2).pwr = s.pwr ∧ (State.setEight s x1 x2).log = s.log ∧ (State.setEight s x1 x2).cmd = s.cmd := by
  intro s x1 x2
  refine And.imp Same.quiet_of (And.imp Same.store_of (And.imp Same.path_of (And.imp Same.links_of id))) ?_
  unfold State.setEight
  try dsimp only
  (repeat' split) <;> simp

@[simp] theorem State.actUnit_frame : ∀ s x1 x2 x3 x4, Same.quiet s (State.actUnit s x1 x2 x3 x4) ∧ Same.store s (State.actUnit s x1 x2 x3 x4) := by
  intro s x1 x2 x3 x4
  refine And.imp Same.quiet_of Same.store_of ?_
  unfold State.actUnit
  try dsimp only
  (repeat' split) <;> simp

@[simp] theorem State.freeFlt_frame : ∀ s x1, Same.quiet s (State.freeFlt s x1) ∧ Same.store s (State.freeFlt s x1) ∧ Same.path s (State.freeFlt s x1) ∧ Same.links s (State.freeFlt s x1) ∧ (State.freeFlt s x1).out = s.out ∧ (State.freeFlt s x1).regs = s.regs ∧ (State.freeFlt s x1).ctrs = s.ctrs ∧ (State.freeFlt s x1).mode = s.mode ∧ (State.freeFlt s x1).pwr = s.pwr ∧ (State.freeFlt s x1).log = s.log ∧ (State.freeFlt s x1).cmd = s.cmd := by
  intro s x1
  refine And.imp Same.quiet_of (And.imp Same.store_of (And.imp Same.path_of (And.imp Same.links_of id))) ?_
  unfold State.freeFlt
  try dsimp only
  (repeat' split) <;> simp

@[simp] theorem State.setFlt_frame : ∀ s x1 x2, Same.quiet s (State.setFlt s x1 x2) ∧ Same.store s (State.setFlt s x1 x2) ∧ Same.path s (State.setFlt s x1 x2) ∧ Same.links s (State.setFlt s x1 x2) ∧ (State.setFlt s x1 x2).out = s.out ∧ (State.setFlt s x1 x2).regs = s.regs ∧ (State.setFlt s x1 x2).ctrs = s.ctrs ∧ (State.setFlt s x1 x2).mode = s.mode ∧ (State.setFlt s x1 x2).pwr = s.pwr ∧ (State.setFlt s x1 x2).log = s.log ∧ (State.setFlt s x1 x2).cmd = s.cmd := by
  intro s x1 x2
  refine And.imp Same.quiet_of (And.imp Same.store_of (And.imp Same.path_of (And.imp Same.links_of id))) ?_
  unfold State.setFlt
  try dsimp only
  (repeat' split) <;> simp

@[simp] theorem State.actSlot_frame : ∀ s x1 x2 x3, Same.quiet s (State.actSlot s x1 x2 x3) ∧ Same.store s (State.actSlot s x1 x2 x3) := by
  intro s x1 x2 x3
  refine And.imp Same.quiet_of Same.store_of ?_
  unfold State.actSlot
  try dsimp only
  (repeat' split) <;> simp

@[simp] theorem State.toFirmware_frame : ∀ s x1 x2, Same.quiet s (State.toFirmware s x1 x2) ∧ Same.store s (State.toFirmware s x1 x2) ∧ Same.ctl s (State.toFirmware s x1 x2) ∧ Same.path s (State.toFirmware s x1 x2) ∧ Same.links s (State.toFirmware s x1 x2) ∧ (State.toFirmware s x1 x2).regs = s.regs ∧ (State.toFirmware s x1 x2).ctrs = s.ctrs ∧ (State.toFirmware s x1 x2).log = s.log := by
  intro s x1 x2
  refine And.imp Same.quiet_of (And.imp Same.store_of (And.imp Same.ctl_of (And.imp Same.path_of (And.imp Same.links_of id)))) ?_
  unfold State.toFirmware
  try dsimp only
  (repeat' split) <;> simp

@[simp] theorem State.acceptMarker_frame : ∀ s x1, Same.quiet s (State.acceptMarker s x1) ∧ Same.store s (State.acceptMarker s x1) ∧ Same.ctl s (State.acceptMarker s x1) ∧ Same.path s (State.acceptMarker s x1) ∧ (State.acceptMarker s x1).regs = s.regs ∧ (State.acceptMarker s x1).log = s.log ∧ (State.acceptMarker s x1).vlt = s.vlt ∧ (State.acceptMarker s x1).net = s.net ∧ (State.acceptMarker s x1).cxl = s.cxl := by
  intro s x1
  refine And.imp Same.quiet_of (And.imp Same.store_of (And.imp Same.ctl_of (And.imp Same.path_of id))) ?_
  unfold State.acceptMarker
  try dsimp only
  (repeat' split) <;> simp

@[simp] theorem State.takeMarkers_frame : ∀ s, Same.quiet s (State.takeMarkers s) ∧ Same.store s (State.takeMarkers s) ∧ Same.ctl s (State.takeMarkers s) ∧ Same.path s (State.takeMarkers s) ∧ (State.takeMarkers s).regs = s.regs ∧ (State.takeMarkers s).log = s.log ∧ (State.takeMarkers s).vlt = s.vlt ∧ (State.takeMarkers s).net = s.net ∧ (State.takeMarkers s).cxl = s.cxl := by
  intro s
  refine And.imp Same.quiet_of (And.imp Same.store_of (And.imp Same.ctl_of (And.imp Same.path_of id))) ?_
  unfold State.takeMarkers
  try dsimp only
  (repeat' split) <;> simp

@[simp] theorem State.leaveHold_frame : ∀ s x1, Same.quiet s (State.leaveHold s x1) ∧ Same.store s (State.leaveHold s x1) ∧ (State.leaveHold s x1).pwr = s.pwr ∧ (State.leaveHold s x1).flt = s.flt := by
  intro s x1
  refine And.imp Same.quiet_of (And.imp Same.store_of id) ?_
  unfold State.leaveHold
  try dsimp only
  (repeat' split) <;> simp

@[simp] theorem State.loadTables_frame : ∀ s, Same.quiet s (State.loadTables s) ∧ Same.store s (State.loadTables s) ∧ (State.loadTables s).out = s.out ∧ (State.loadTables s).regs = s.regs ∧ (State.loadTables s).ctrs = s.ctrs ∧ (State.loadTables s).mode = s.mode ∧ (State.loadTables s).pwr = s.pwr ∧ (State.loadTables s).log = s.log ∧ (State.loadTables s).trk = s.trk ∧ (State.loadTables s).twl = s.twl ∧ (State.loadTables s).lc = s.lc ∧ (State.loadTables s).ch = s.ch ∧ (State.loadTables s).ec = s.ec ∧ (State.loadTables s).vlt = s.vlt ∧ (State.loadTables s).net = s.net ∧ (State.loadTables s).cxl = s.cxl ∧ (State.loadTables s).flt = s.flt := by
  intro s
  refine And.imp Same.quiet_of (And.imp Same.store_of id) ?_
  unfold State.loadTables
  try dsimp only
  (repeat' split) <;> simp

@[simp] theorem State.enterRestore_frame : ∀ s, Same.quiet s (State.enterRestore s) ∧ Same.store s (State.enterRestore s) ∧ (State.enterRestore s).out = s.out ∧ (State.enterRestore s).regs = s.regs ∧ (State.enterRestore s).pwr = s.pwr ∧ (State.enterRestore s).trk = s.trk ∧ (State.enterRestore s).twl = s.twl ∧ (State.enterRestore s).lc = s.lc ∧ (State.enterRestore s).ch = s.ch ∧ (State.enterRestore s).ec = s.ec ∧ (State.enterRestore s).vlt = s.vlt ∧ (State.enterRestore s).net = s.net ∧ (State.enterRestore s).cxl = s.cxl ∧ (State.enterRestore s).flt = s.flt := by
  intro s
  refine And.imp Same.quiet_of (And.imp Same.store_of id) ?_
  unfold State.enterRestore
  try dsimp only
  (repeat' split) <;> simp

@[simp] theorem State.issueRefresh_frame : ∀ s x1 x2 x3, Same.quiet s (State.issueRefresh s x1 x2 x3) ∧ Same.store s (State.issueRefresh s x1 x2 x3) ∧ Same.ctl s (State.issueRefresh s x1 x2 x3) ∧ Same.links s (State.issueRefresh s x1 x2 x3) ∧ (State.issueRefresh s x1 x2 x3).regs = s.regs ∧ (State.issueRefresh s x1 x2 x3).log = s.log ∧ (State.issueRefresh s x1 x2 x3).addr = s.addr ∧ (State.issueRefresh s x1 x2 x3).trk = s.trk ∧ (State.issueRefresh s x1 x2 x3).tier = s.tier ∧ (State.issueRefresh s x1 x2 x3).lc = s.lc ∧ (State.issueRefresh s x1 x2 x3).ec = s.ec := by
  intro s x1 x2 x3
  refine And.imp Same.quiet_of (And.imp Same.store_of (And.imp Same.ctl_of (And.imp Same.links_of id))) ?_
  unfold State.issueRefresh
  try dsimp only
  (repeat' split) <;> simp

@[simp] theorem State.joinTwinBacked_frame : ∀ s x1, Same.quiet s (State.joinTwinBacked s x1) ∧ Same.store s (State.joinTwinBacked s x1) ∧ Same.ctl s (State.joinTwinBacked s x1) ∧ Same.path s (State.joinTwinBacked s x1) ∧ (State.joinTwinBacked s x1).out = s.out ∧ (State.joinTwinBacked s x1).regs = s.regs ∧ (State.joinTwinBacked s x1).ctrs = s.ctrs ∧ (State.joinTwinBacked s x1).log = s.log ∧ (State.joinTwinBacked s x1).twl = s.twl ∧ (State.joinTwinBacked s x1).pair = s.pair ∧ (State.joinTwinBacked s x1).net = s.net ∧ (State.joinTwinBacked s x1).cxl = s.cxl := by
  intro s x1
  refine And.imp Same.quiet_of (And.imp Same.store_of (And.imp Same.ctl_of (And.imp Same.path_of id))) ?_
  unfold State.joinTwinBacked
  try dsimp only
  (repeat' split) <;> simp

@[simp] theorem State.retireStack_frame : ∀ s x1, Same.quiet s (State.retireStack s x1) ∧ Same.store s (State.retireStack s x1) := by
  intro s x1
  refine And.imp Same.quiet_of Same.store_of ?_
  unfold State.retireStack
  try dsimp only
  (repeat' split) <;> simp

@[simp] theorem State.stackFreeze_frame : ∀ s x1, Same.quiet s (State.stackFreeze s x1) ∧ Same.store s (State.stackFreeze s x1) := by
  intro s x1
  refine And.imp Same.quiet_of Same.store_of ?_
  unfold State.stackFreeze
  try dsimp only
  (repeat' split) <;> simp

@[simp] theorem State.fence_frame : ∀ s x1 x2 x3, Same.quiet s (State.fence s x1 x2 x3) ∧ Same.store s (State.fence s x1 x2 x3) ∧ Same.ctl s (State.fence s x1 x2 x3) ∧ Same.links s (State.fence s x1 x2 x3) ∧ (State.fence s x1 x2 x3).out = s.out ∧ (State.fence s x1 x2 x3).regs = s.regs ∧ (State.fence s x1 x2 x3).ctrs = s.ctrs ∧ (State.fence s x1 x2 x3).log = s.log ∧ (State.fence s x1 x2 x3).trk = s.trk ∧ (State.fence s x1 x2 x3).tier = s.tier ∧ (State.fence s x1 x2 x3).lc = s.lc ∧ (State.fence s x1 x2 x3).ch = s.ch ∧ (State.fence s x1 x2 x3).ec = s.ec := by
  intro s x1 x2 x3
  refine And.imp Same.quiet_of (And.imp Same.store_of (And.imp Same.ctl_of (And.imp Same.links_of id))) ?_
  unfold State.fence
  try dsimp only
  (repeat' split) <;> simp

@[simp] theorem State.markGrants_frame : ∀ s x1, Same.quiet s (State.markGrants s x1) ∧ Same.store s (State.markGrants s x1) ∧ Same.ctl s (State.markGrants s x1) ∧ Same.path s (State.markGrants s x1) ∧ (State.markGrants s x1).out = s.out ∧ (State.markGrants s x1).regs = s.regs ∧ (State.markGrants s x1).ctrs = s.ctrs ∧ (State.markGrants s x1).log = s.log ∧ (State.markGrants s x1).twl = s.twl ∧ (State.markGrants s x1).pair = s.pair ∧ (State.markGrants s x1).vlt = s.vlt ∧ (State.markGrants s x1).cxl = s.cxl := by
  intro s x1
  refine And.imp Same.quiet_of (And.imp Same.store_of (And.imp Same.ctl_of (And.imp Same.path_of id))) ?_
  unfold State.markGrants
  try dsimp only
  (repeat' split) <;> simp

@[simp] theorem State.markRevoking_frame : ∀ s x1, Same.quiet s (State.markRevoking s x1) ∧ Same.store s (State.markRevoking s x1) ∧ Same.ctl s (State.markRevoking s x1) ∧ Same.path s (State.markRevoking s x1) ∧ (State.markRevoking s x1).out = s.out ∧ (State.markRevoking s x1).regs = s.regs ∧ (State.markRevoking s x1).ctrs = s.ctrs ∧ (State.markRevoking s x1).log = s.log ∧ (State.markRevoking s x1).twl = s.twl ∧ (State.markRevoking s x1).pair = s.pair ∧ (State.markRevoking s x1).vlt = s.vlt ∧ (State.markRevoking s x1).cxl = s.cxl := by
  intro s x1
  refine And.imp Same.quiet_of (And.imp Same.store_of (And.imp Same.ctl_of (And.imp Same.path_of id))) ?_
  unfold State.markRevoking
  try dsimp only
  (repeat' split) <;> simp

@[simp] theorem State.revokeAdvance_frame : ∀ s, Same.quiet s (State.revokeAdvance s) ∧ Same.store s (State.revokeAdvance s) ∧ Same.ctl s (State.revokeAdvance s) ∧ Same.path s (State.revokeAdvance s) ∧ (State.revokeAdvance s).out = s.out ∧ (State.revokeAdvance s).regs = s.regs ∧ (State.revokeAdvance s).ctrs = s.ctrs ∧ (State.revokeAdvance s).log = s.log ∧ (State.revokeAdvance s).twl = s.twl ∧ (State.revokeAdvance s).pair = s.pair ∧ (State.revokeAdvance s).vlt = s.vlt ∧ (State.revokeAdvance s).cxl = s.cxl := by
  intro s
  refine And.imp Same.quiet_of (And.imp Same.store_of (And.imp Same.ctl_of (And.imp Same.path_of id))) ?_
  unfold State.revokeAdvance
  try dsimp only
  (repeat' split) <;> simp

@[simp] theorem State.revokeStart_frame : ∀ s x1 x2, Same.quiet s (State.revokeStart s x1 x2) ∧ Same.store s (State.revokeStart s x1 x2) ∧ Same.ctl s (State.revokeStart s x1 x2) ∧ Same.path s (State.revokeStart s x1 x2) ∧ (State.revokeStart s x1 x2).out = s.out ∧ (State.revokeStart s x1 x2).regs = s.regs ∧ (State.revokeStart s x1 x2).ctrs = s.ctrs ∧ (State.revokeStart s x1 x2).log = s.log ∧ (State.revokeStart s x1 x2).twl = s.twl ∧ (State.revokeStart s x1 x2).pair = s.pair ∧ (State.revokeStart s x1 x2).vlt = s.vlt ∧ (State.revokeStart s x1 x2).cxl = s.cxl := by
  intro s x1 x2
  refine And.imp Same.quiet_of (And.imp Same.store_of (And.imp Same.ctl_of (And.imp Same.path_of id))) ?_
  unfold State.revokeStart
  try dsimp only
  (repeat' split) <;> simp

@[simp] theorem State.regionFence_frame : ∀ s x1 x2 x3 x4, Same.quiet s (State.regionFence s x1 x2 x3 x4).1 ∧ Same.store s (State.regionFence s x1 x2 x3 x4).1 ∧ Same.ctl s (State.regionFence s x1 x2 x3 x4).1 ∧ (State.regionFence s x1 x2 x3 x4).1.out = s.out ∧ (State.regionFence s x1 x2 x3 x4).1.regs = s.regs ∧ (State.regionFence s x1 x2 x3 x4).1.ctrs = s.ctrs ∧ (State.regionFence s x1 x2 x3 x4).1.log = s.log ∧ (State.regionFence s x1 x2 x3 x4).1.trk = s.trk ∧ (State.regionFence s x1 x2 x3 x4).1.twl = s.twl ∧ (State.regionFence s x1 x2 x3 x4).1.pair = s.pair ∧ (State.regionFence s x1 x2 x3 x4).1.tier = s.tier ∧ (State.regionFence s x1 x2 x3 x4).1.lc = s.lc ∧ (State.regionFence s x1 x2 x3 x4).1.ch = s.ch ∧ (State.regionFence s x1 x2 x3 x4).1.ec = s.ec ∧ (State.regionFence s x1 x2 x3 x4).1.vlt = s.vlt ∧ (State.regionFence s x1 x2 x3 x4).1.cxl = s.cxl := by
  intro s x1 x2 x3 x4
  refine And.imp Same.quiet_of (And.imp Same.store_of (And.imp Same.ctl_of id)) ?_
  unfold State.regionFence
  try dsimp only
  (repeat' split) <;> simp

@[simp] theorem State.countCorrected_frame : ∀ s x1 x2 x3 x4 x5, Same.quiet s (State.countCorrected s x1 x2 x3 x4 x5) ∧ Same.store s (State.countCorrected s x1 x2 x3 x4 x5) ∧ Same.links s (State.countCorrected s x1 x2 x3 x4 x5) ∧ (State.countCorrected s x1 x2 x3 x4 x5).out = s.out ∧ (State.countCorrected s x1 x2 x3 x4 x5).regs = s.regs ∧ (State.countCorrected s x1 x2 x3 x4 x5).mode = s.mode ∧ (State.countCorrected s x1 x2 x3 x4 x5).pwr = s.pwr ∧ (State.countCorrected s x1 x2 x3 x4 x5).addr = s.addr ∧ (State.countCorrected s x1 x2 x3 x4 x5).trk = s.trk ∧ (State.countCorrected s x1 x2 x3 x4 x5).tier = s.tier ∧ (State.countCorrected s x1 x2 x3 x4 x5).lc = s.lc ∧ (State.countCorrected s x1 x2 x3 x4 x5).ch = s.ch ∧ (State.countCorrected s x1 x2 x3 x4 x5).cmd = s.cmd := by
  intro s x1 x2 x3 x4 x5
  refine And.imp Same.quiet_of (And.imp Same.store_of (And.imp Same.links_of id)) ?_
  unfold State.countCorrected
  try dsimp only
  (repeat' split) <;> simp

@[simp] theorem State.noteCorrected_frame : ∀ s x1 x2 x3 x4, Same.quiet s (State.noteCorrected s x1 x2 x3 x4) ∧ Same.store s (State.noteCorrected s x1 x2 x3 x4) ∧ Same.links s (State.noteCorrected s x1 x2 x3 x4) ∧ (State.noteCorrected s x1 x2 x3 x4).out = s.out ∧ (State.noteCorrected s x1 x2 x3 x4).regs = s.regs ∧ (State.noteCorrected s x1 x2 x3 x4).mode = s.mode ∧ (State.noteCorrected s x1 x2 x3 x4).pwr = s.pwr ∧ (State.noteCorrected s x1 x2 x3 x4).addr = s.addr ∧ (State.noteCorrected s x1 x2 x3 x4).trk = s.trk ∧ (State.noteCorrected s x1 x2 x3 x4).tier = s.tier ∧ (State.noteCorrected s x1 x2 x3 x4).lc = s.lc ∧ (State.noteCorrected s x1 x2 x3 x4).ch = s.ch ∧ (State.noteCorrected s x1 x2 x3 x4).cmd = s.cmd := by
  intro s x1 x2 x3 x4
  refine And.imp Same.quiet_of (And.imp Same.store_of (And.imp Same.links_of id)) ?_
  unfold State.noteCorrected
  try dsimp only
  (repeat' split) <;> simp

@[simp] theorem State.sweepLine_frame : ∀ s x1, Same.quiet s (State.sweepLine s x1) ∧ Same.store s (State.sweepLine s x1) ∧ Same.ctl s (State.sweepLine s x1) ∧ Same.links s (State.sweepLine s x1) ∧ (State.sweepLine s x1).out = s.out ∧ (State.sweepLine s x1).regs = s.regs ∧ (State.sweepLine s x1).log = s.log ∧ (State.sweepLine s x1).addr = s.addr ∧ (State.sweepLine s x1).trk = s.trk ∧ (State.sweepLine s x1).tier = s.tier := by
  intro s x1
  refine And.imp Same.quiet_of (And.imp Same.store_of (And.imp Same.ctl_of (And.imp Same.links_of id))) ?_
  unfold State.sweepLine
  try dsimp only
  (repeat' split) <;> simp

@[simp] theorem State.ras_frame : ∀ s x1 x2 x3, Same.quiet s (State.ras s x1 x2 x3) ∧ Same.store s (State.ras s x1 x2 x3) ∧ Same.ctl s (State.ras s x1 x2 x3) ∧ Same.path s (State.ras s x1 x2 x3) ∧ (State.ras s x1 x2 x3).regs = s.regs ∧ (State.ras s x1 x2 x3).ctrs = s.ctrs ∧ (State.ras s x1 x2 x3).log = s.log ∧ (State.ras s x1 x2 x3).twl = s.twl ∧ (State.ras s x1 x2 x3).pair = s.pair ∧ (State.ras s x1 x2 x3).vlt = s.vlt ∧ (State.ras s x1 x2 x3).net = s.net := by
  intro s x1 x2 x3
  refine And.imp Same.quiet_of (And.imp Same.store_of (And.imp Same.ctl_of (And.imp Same.path_of id))) ?_
  unfold State.ras
  try dsimp only
  simp (disch := (intros; (repeat' split) <;> (try simp)))

@[simp] theorem State.escalate_frame : ∀ s x1 x2, Same.quiet s (State.escalate s x1 x2) ∧ Same.store s (State.escalate s x1 x2) ∧ Same.path s (State.escalate s x1 x2) ∧ Same.links s (State.escalate s x1 x2) ∧ (State.escalate s x1 x2).out = s.out ∧ (State.escalate s x1 x2).regs = s.regs ∧ (State.escalate s x1 x2).mode = s.mode ∧ (State.escalate s x1 x2).pwr = s.pwr ∧ (State.escalate s x1 x2).log = s.log ∧ (State.escalate s x1 x2).cmd = s.cmd := by
  intro s x1 x2
  refine And.imp Same.quiet_of (And.imp Same.store_of (And.imp Same.path_of (And.imp Same.links_of id))) ?_
  unfold State.escalate
  try dsimp only
  (repeat' split) <;> simp

@[simp] theorem State.tenantSet_frame : ∀ s x1, Same.quiet s (State.tenantSet s x1).1 ∧ Same.store s (State.tenantSet s x1).1 ∧ Same.ctl s (State.tenantSet s x1).1 ∧ (State.tenantSet s x1).1.out = s.out ∧ (State.tenantSet s x1).1.regs = s.regs ∧ (State.tenantSet s x1).1.ctrs = s.ctrs ∧ (State.tenantSet s x1).1.log = s.log ∧ (State.tenantSet s x1).1.addr = s.addr ∧ (State.tenantSet s x1).1.trk = s.trk ∧ (State.tenantSet s x1).1.twl = s.twl ∧ (State.tenantSet s x1).1.pair = s.pair ∧ (State.tenantSet s x1).1.lc = s.lc ∧ (State.tenantSet s x1).1.ch = s.ch ∧ (State.tenantSet s x1).1.ec = s.ec ∧ (State.tenantSet s x1).1.net = s.net ∧ (State.tenantSet s x1).1.cxl = s.cxl := by
  intro s x1
  refine And.imp Same.quiet_of (And.imp Same.store_of (And.imp Same.ctl_of id)) ?_
  unfold State.tenantSet
  try dsimp only
  (repeat' split) <;> simp

@[simp] theorem State.cacheEnable_frame : ∀ s x1, Same.quiet s (State.cacheEnable s x1) ∧ Same.store s (State.cacheEnable s x1) ∧ Same.ctl s (State.cacheEnable s x1) ∧ Same.links s (State.cacheEnable s x1) ∧ (State.cacheEnable s x1).out = s.out ∧ (State.cacheEnable s x1).regs = s.regs ∧ (State.cacheEnable s x1).ctrs = s.ctrs ∧ (State.cacheEnable s x1).log = s.log ∧ (State.cacheEnable s x1).addr = s.addr ∧ (State.cacheEnable s x1).trk = s.trk ∧ (State.cacheEnable s x1).tier = s.tier ∧ (State.cacheEnable s x1).ch = s.ch ∧ (State.cacheEnable s x1).ec = s.ec := by
  intro s x1
  refine And.imp Same.quiet_of (And.imp Same.store_of (And.imp Same.ctl_of (And.imp Same.links_of id))) ?_
  unfold State.cacheEnable
  try dsimp only
  (repeat' split) <;> simp

@[simp] theorem State.ethPortDown_frame : ∀ x0 s x2, Same.quiet s (State.ethPortDown x0 s x2) ∧ Same.store s (State.ethPortDown x0 s x2) ∧ Same.ctl s (State.ethPortDown x0 s x2) ∧ Same.path s (State.ethPortDown x0 s x2) ∧ (State.ethPortDown x0 s x2).out = s.out ∧ (State.ethPortDown x0 s x2).regs = s.regs ∧ (State.ethPortDown x0 s x2).ctrs = s.ctrs ∧ (State.ethPortDown x0 s x2).log = s.log ∧ (State.ethPortDown x0 s x2).twl = s.twl ∧ (State.ethPortDown x0 s x2).pair = s.pair ∧ (State.ethPortDown x0 s x2).vlt = s.vlt ∧ (State.ethPortDown x0 s x2).cxl = s.cxl := by
  intro x0 s x2
  refine And.imp Same.quiet_of (And.imp Same.store_of (And.imp Same.ctl_of (And.imp Same.path_of id))) ?_
  unfold State.ethPortDown
  try dsimp only
  (repeat' split) <;> simp

@[simp] theorem State.reactMac_frame : ∀ old s x2, Same.quiet s (State.reactMac old s x2) ∧ Same.store s (State.reactMac old s x2) ∧ Same.ctl s (State.reactMac old s x2) ∧ Same.path s (State.reactMac old s x2) ∧ (State.reactMac old s x2).out = s.out ∧ (State.reactMac old s x2).regs = s.regs ∧ (State.reactMac old s x2).ctrs = s.ctrs ∧ (State.reactMac old s x2).log = s.log ∧ (State.reactMac old s x2).twl = s.twl ∧ (State.reactMac old s x2).pair = s.pair ∧ (State.reactMac old s x2).vlt = s.vlt ∧ (State.reactMac old s x2).cxl = s.cxl := by
  intro old s x2
  refine And.imp Same.quiet_of (And.imp Same.store_of (And.imp Same.ctl_of (And.imp Same.path_of id))) ?_
  unfold State.reactMac
  try dsimp only
  (repeat' split) <;> simp

@[simp] theorem State.putLine_frame : ∀ s x1 x2 x3 x4 x5 t, State.putLine s x1 x2 x3 x4 x5 = some t → Same.quiet s t ∧ Same.store s t ∧ Same.ctl s t ∧ t.out = s.out ∧ t.regs = s.regs ∧ t.trk = s.trk ∧ t.twl = s.twl ∧ t.tier = s.tier ∧ t.net = s.net := by
  intro s x1 x2 x3 x4 x5 t h
  refine And.imp Same.quiet_of (And.imp Same.store_of (And.imp Same.ctl_of id)) ?_
  unfold State.putLine at h
  repeat' split at h
  all_goals try (rename_i hh; have hh' := congrArg Prod.fst hh; dsimp only at hh'; subst hh')
  all_goals try (rename_i hh; have hh' := congrArg Prod.snd hh; dsimp only at hh'; subst hh')
  all_goals try (simp only [Option.map_eq_some_iff, Option.some.injEq, reduceCtorEq] at h)
  all_goals try (obtain ⟨_, hm, rfl⟩ := h)
  all_goals try have hq_applyLine := State.applyLine_frame _ _ _ _ _ _ _ (by assumption)
  all_goals try (subst h)
  all_goals (repeat' split)
  all_goals simp [*]

@[simp] theorem State.forceLine_frame : ∀ s x1 x2 x3 x4, Same.quiet s (State.forceLine s x1 x2 x3 x4) ∧ Same.store s (State.forceLine s x1 x2 x3 x4) ∧ Same.ctl s (State.forceLine s x1 x2 x3 x4) ∧ (State.forceLine s x1 x2 x3 x4).out = s.out ∧ (State.forceLine s x1 x2 x3 x4).regs = s.regs ∧ (State.forceLine s x1 x2 x3 x4).trk = s.trk ∧ (State.forceLine s x1 x2 x3 x4).twl = s.twl ∧ (State.forceLine s x1 x2 x3 x4).tier = s.tier ∧ (State.forceLine s x1 x2 x3 x4).net = s.net := by
  intro s x1 x2 x3 x4
  refine And.imp Same.quiet_of (And.imp Same.store_of (And.imp Same.ctl_of id)) ?_
  unfold State.forceLine
  repeat' split
  all_goals try (rename_i hh; have hh' := congrArg Prod.fst hh; dsimp only at hh'; subst hh')
  all_goals try (rename_i hh; have hh' := congrArg Prod.snd hh; dsimp only at hh'; subst hh')
  all_goals try have hq_putLine := State.putLine_frame _ _ _ _ _ _ _ (by assumption)
  all_goals simp [*]

@[simp] theorem State.poisonLine_frame : ∀ s x1 x2, Same.quiet s (State.poisonLine s x1 x2) ∧ Same.store s (State.poisonLine s x1 x2) ∧ Same.ctl s (State.poisonLine s x1 x2) ∧ (State.poisonLine s x1 x2).out = s.out ∧ (State.poisonLine s x1 x2).regs = s.regs ∧ (State.poisonLine s x1 x2).trk = s.trk ∧ (State.poisonLine s x1 x2).twl = s.twl ∧ (State.poisonLine s x1 x2).tier = s.tier ∧ (State.poisonLine s x1 x2).net = s.net := by
  intro s x1 x2
  refine And.imp Same.quiet_of (And.imp Same.store_of (And.imp Same.ctl_of id)) ?_
  unfold State.poisonLine
  cases hp : s.putLine x1 0 Mask.full true x2 with
  | none => simp [hp]
  | some t => simp [hp, State.putLine_frame _ _ _ _ _ _ _ hp]

@[simp] theorem State.lastCopy_frame : ∀ s x1 x2, Same.quiet s (State.lastCopy s x1 x2).1 ∧ Same.store s (State.lastCopy s x1 x2).1 ∧ Same.ctl s (State.lastCopy s x1 x2).1 ∧ (State.lastCopy s x1 x2).1.out = s.out ∧ (State.lastCopy s x1 x2).1.regs = s.regs ∧ (State.lastCopy s x1 x2).1.trk = s.trk ∧ (State.lastCopy s x1 x2).1.twl = s.twl ∧ (State.lastCopy s x1 x2).1.tier = s.tier ∧ (State.lastCopy s x1 x2).1.net = s.net := by
  intro s x1 x2
  refine And.imp Same.quiet_of (And.imp Same.store_of (And.imp Same.ctl_of id)) ?_
  unfold State.lastCopy
  try dsimp only
  (repeat' split) <;> simp

@[simp] theorem State.abandonResync_frame : ∀ s, Same.quiet s (State.abandonResync s) ∧ Same.store s (State.abandonResync s) ∧ Same.ctl s (State.abandonResync s) ∧ (State.abandonResync s).out = s.out ∧ (State.abandonResync s).regs = s.regs ∧ (State.abandonResync s).trk = s.trk ∧ (State.abandonResync s).twl = s.twl ∧ (State.abandonResync s).tier = s.tier ∧ (State.abandonResync s).net = s.net := by
  intro s
  refine And.imp Same.quiet_of (And.imp Same.store_of (And.imp Same.ctl_of id)) ?_
  unfold State.abandonResync
  extract_lets losing
  split
  rename_i hh
  have hh' := congrArg Prod.fst hh
  dsimp only at hh'
  subst hh'
  clear hh
  have hl : ∀ e (a : State × List Nat) l, (s.loseLine e a l).1.quietP = a.1.quietP ∧ (s.loseLine e a l).1.storeP = a.1.storeP ∧ (s.loseLine e a l).1.ctlP = a.1.ctlP ∧
      (s.loseLine e a l).1.out = a.1.out ∧ (s.loseLine e a l).1.regs = a.1.regs ∧ (s.loseLine e a l).1.trk = a.1.trk ∧
      (s.loseLine e a l).1.twl = a.1.twl ∧ (s.loseLine e a l).1.tier = a.1.tier ∧ (s.loseLine e a l).1.net = a.1.net := by
    intro e a l; unfold State.loseLine; split <;> simp
  simp [hl]

@[simp] theorem State.dropEntry_frame : ∀ s x1, Same.quiet s (State.dropEntry s x1) ∧ Same.store s (State.dropEntry s x1) ∧ Same.links s (State.dropEntry s x1) ∧ (State.dropEntry s x1).out = s.out ∧ (State.dropEntry s x1).regs = s.regs ∧ (State.dropEntry s x1).ctrs = s.ctrs ∧ (State.dropEntry s x1).mode = s.mode ∧ (State.dropEntry s x1).pwr = s.pwr ∧ (State.dropEntry s x1).log = s.log ∧ (State.dropEntry s x1).addr = s.addr ∧ (State.dropEntry s x1).tier = s.tier ∧ (State.dropEntry s x1).lc = s.lc ∧ (State.dropEntry s x1).ch = s.ch ∧ (State.dropEntry s x1).ec = s.ec ∧ (State.dropEntry s x1).cmd = s.cmd := by
  intro s x1
  refine And.imp Same.quiet_of (And.imp Same.store_of (And.imp Same.links_of id)) ?_
  unfold State.dropEntry
  try dsimp only
  (repeat' split) <;> simp

@[simp] theorem State.entryAlone_frame : ∀ s x1, Same.quiet s (State.entryAlone s x1) ∧ Same.store s (State.entryAlone s x1) ∧ Same.links s (State.entryAlone s x1) ∧ (State.entryAlone s x1).out = s.out ∧ (State.entryAlone s x1).regs = s.regs ∧ (State.entryAlone s x1).ctrs = s.ctrs ∧ (State.entryAlone s x1).mode = s.mode ∧ (State.entryAlone s x1).pwr = s.pwr ∧ (State.entryAlone s x1).log = s.log ∧ (State.entryAlone s x1).addr = s.addr ∧ (State.entryAlone s x1).tier = s.tier ∧ (State.entryAlone s x1).lc = s.lc ∧ (State.entryAlone s x1).ch = s.ch ∧ (State.entryAlone s x1).ec = s.ec ∧ (State.entryAlone s x1).cmd = s.cmd := by
  intro s x1
  refine And.imp Same.quiet_of (And.imp Same.store_of (And.imp Same.links_of id)) ?_
  unfold State.entryAlone
  try dsimp only
  (repeat' split) <;> simp

@[simp] theorem State.ownApplied_frame : ∀ s x1 x2, Same.quiet s (State.ownApplied s x1 x2) ∧ Same.store s (State.ownApplied s x1 x2) ∧ Same.ctl s (State.ownApplied s x1 x2) ∧ (State.ownApplied s x1 x2).addr = s.addr ∧ (State.ownApplied s x1 x2).tier = s.tier ∧ (State.ownApplied s x1 x2).lc = s.lc ∧ (State.ownApplied s x1 x2).ch = s.ch ∧ (State.ownApplied s x1 x2).ec = s.ec ∧ (State.ownApplied s x1 x2).vlt = s.vlt := by
  intro s x1 x2
  refine And.imp Same.quiet_of (And.imp Same.store_of (And.imp Same.ctl_of id)) ?_
  unfold State.ownApplied
  try dsimp only
  (repeat' split) <;> simp

@[simp] theorem State.flushEarly_frame : ∀ x0 s, Same.quiet s (State.flushEarly x0 s) ∧ Same.store s (State.flushEarly x0 s) ∧ Same.ctl s (State.flushEarly x0 s) ∧ (State.flushEarly x0 s).tier = s.tier := by
  intro x0 s
  refine And.imp Same.quiet_of (And.imp Same.store_of (And.imp Same.ctl_of id)) ?_
  revert x0 s
  intro x0 s
  induction x0 generalizing s with
  | zero => simp [State.flushEarly]
  | succ k ih =>
    unfold State.flushEarly
    try dsimp only
    (repeat' split) <;> simp [ih]

@[simp] theorem State.goAlone_frame : ∀ s, Same.quiet s (State.goAlone s) ∧ Same.store s (State.goAlone s) ∧ (State.goAlone s).mode = s.mode ∧ (State.goAlone s).pwr = s.pwr ∧ (State.goAlone s).cmd = s.cmd := by
  intro s
  refine And.imp Same.quiet_of (And.imp Same.store_of id) ?_
  unfold State.goAlone
  try dsimp only
  (repeat' split) <;> simp

@[simp] theorem State.poisonIntents_frame : ∀ s, Same.quiet s (State.poisonIntents s) ∧ Same.store s (State.poisonIntents s) ∧ Same.ctl s (State.poisonIntents s) ∧ (State.poisonIntents s).out = s.out ∧ (State.poisonIntents s).regs = s.regs ∧ (State.poisonIntents s).trk = s.trk ∧ (State.poisonIntents s).twl = s.twl ∧ (State.poisonIntents s).tier = s.tier ∧ (State.poisonIntents s).net = s.net := by
  intro s
  refine And.imp Same.quiet_of (And.imp Same.store_of (And.imp Same.ctl_of id)) ?_
  unfold State.poisonIntents
  try dsimp only
  (repeat' split) <;> simp

@[simp] theorem State.redoAssists_frame : ∀ s x1, Same.quiet s (State.redoAssists s x1) ∧ Same.store s (State.redoAssists s x1) ∧ Same.ctl s (State.redoAssists s x1) ∧ Same.links s (State.redoAssists s x1) ∧ (State.redoAssists s x1).out = s.out ∧ (State.redoAssists s x1).regs = s.regs ∧ (State.redoAssists s x1).ctrs = s.ctrs ∧ (State.redoAssists s x1).log = s.log ∧ (State.redoAssists s x1).addr = s.addr ∧ (State.redoAssists s x1).tier = s.tier ∧ (State.redoAssists s x1).ch = s.ch ∧ (State.redoAssists s x1).ec = s.ec := by
  intro s x1
  refine And.imp Same.quiet_of (And.imp Same.store_of (And.imp Same.ctl_of (And.imp Same.links_of id))) ?_
  unfold State.redoAssists
  try dsimp only
  simp (disch := (intros; (repeat' split) <;> (try simp)))

@[simp] theorem State.endsHere_frame : ∀ s x1 x2, Same.quiet s (State.endsHere s x1 x2) ∧ Same.store s (State.endsHere s x1 x2) ∧ Same.ctl s (State.endsHere s x1 x2) ∧ Same.path s (State.endsHere s x1 x2) ∧ (State.endsHere s x1 x2).regs = s.regs ∧ (State.endsHere s x1 x2).log = s.log ∧ (State.endsHere s x1 x2).twl = s.twl ∧ (State.endsHere s x1 x2).pair = s.pair ∧ (State.endsHere s x1 x2).vlt = s.vlt ∧ (State.endsHere s x1 x2).cxl = s.cxl := by
  intro s x1 x2
  refine And.imp Same.quiet_of (And.imp Same.store_of (And.imp Same.ctl_of (And.imp Same.path_of id))) ?_
  unfold State.endsHere
  try dsimp only
  (repeat' split) <;> simp

@[simp] theorem State.sendRep_frame : ∀ s x1 x2, Same.quiet s (State.sendRep s x1 x2) ∧ Same.store s (State.sendRep s x1 x2) ∧ Same.ctl s (State.sendRep s x1 x2) ∧ Same.path s (State.sendRep s x1 x2) ∧ (State.sendRep s x1 x2).regs = s.regs ∧ (State.sendRep s x1 x2).log = s.log ∧ (State.sendRep s x1 x2).twl = s.twl ∧ (State.sendRep s x1 x2).pair = s.pair ∧ (State.sendRep s x1 x2).vlt = s.vlt ∧ (State.sendRep s x1 x2).cxl = s.cxl := by
  intro s x1 x2
  refine And.imp Same.quiet_of (And.imp Same.store_of (And.imp Same.ctl_of (And.imp Same.path_of id))) ?_
  unfold State.sendRep
  try dsimp only
  (repeat' split) <;> simp

@[simp] theorem State.connsAlone_frame : ∀ s, Same.quiet s (State.connsAlone s) ∧ Same.store s (State.connsAlone s) ∧ Same.ctl s (State.connsAlone s) ∧ Same.path s (State.connsAlone s) ∧ (State.connsAlone s).regs = s.regs ∧ (State.connsAlone s).log = s.log ∧ (State.connsAlone s).twl = s.twl ∧ (State.connsAlone s).pair = s.pair ∧ (State.connsAlone s).vlt = s.vlt ∧ (State.connsAlone s).cxl = s.cxl := by
  intro s
  refine And.imp Same.quiet_of (And.imp Same.store_of (And.imp Same.ctl_of (And.imp Same.path_of id))) ?_
  unfold State.connsAlone
  try dsimp only
  (repeat' split) <;> simp

@[simp] theorem State.control_frame : ∀ s x1, Same.quiet s (State.control s x1) ∧ Same.store s (State.control s x1) ∧ Same.ctl s (State.control s x1) ∧ Same.path s (State.control s x1) ∧ (State.control s x1).regs = s.regs ∧ (State.control s x1).log = s.log ∧ (State.control s x1).pair = s.pair ∧ (State.control s x1).vlt = s.vlt ∧ (State.control s x1).net = s.net ∧ (State.control s x1).cxl = s.cxl := by
  intro s x1
  refine And.imp Same.quiet_of (And.imp Same.store_of (And.imp Same.ctl_of (And.imp Same.path_of id))) ?_
  unfold State.control
  try dsimp only
  (repeat' split) <;> simp

@[simp] theorem State.replEnd_frame : ∀ s x1, Same.quiet s (State.replEnd s x1) ∧ Same.store s (State.replEnd s x1) ∧ Same.path s (State.replEnd s x1) ∧ (State.replEnd s x1).regs = s.regs ∧ (State.replEnd s x1).mode = s.mode ∧ (State.replEnd s x1).pwr = s.pwr ∧ (State.replEnd s x1).pair = s.pair ∧ (State.replEnd s x1).vlt = s.vlt ∧ (State.replEnd s x1).net = s.net ∧ (State.replEnd s x1).cxl = s.cxl ∧ (State.replEnd s x1).flt = s.flt := by
  intro s x1
  refine And.imp Same.quiet_of (And.imp Same.store_of (And.imp Same.path_of id)) ?_
  unfold State.replEnd
  try dsimp only
  (repeat' split) <;> simp

@[simp] theorem State.replTry_frame : ∀ s x1, Same.quiet s (State.replTry s x1) ∧ Same.store s (State.replTry s x1) ∧ (State.replTry s x1).mode = s.mode ∧ (State.replTry s x1).pwr = s.pwr ∧ (State.replTry s x1).flt = s.flt := by
  intro s x1
  refine And.imp Same.quiet_of (And.imp Same.store_of id) ?_
  unfold State.replTry
  try dsimp only
  (repeat' split) <;> simp

@[simp] theorem State.releaseCommands_frame : ∀ s, Same.quiet s (State.releaseCommands s) ∧ Same.store s (State.releaseCommands s) ∧ (State.releaseCommands s).mode = s.mode ∧ (State.releaseCommands s).pwr = s.pwr ∧ (State.releaseCommands s).flt = s.flt := by
  intro s
  refine And.imp Same.quiet_of (And.imp Same.store_of id) ?_
  unfold State.releaseCommands
  try dsimp only
  (repeat' split) <;> simp

@[simp] theorem State.dropTwin_frame : ∀ s x1, Same.quiet s (State.dropTwin s x1) ∧ Same.store s (State.dropTwin s x1) ∧ (State.dropTwin s x1).mode = s.mode ∧ (State.dropTwin s x1).pwr = s.pwr := by
  intro s x1
  refine And.imp Same.quiet_of (And.imp Same.store_of id) ?_
  unfold State.dropTwin
  try dsimp only
  (repeat' split) <;> simp

@[simp] theorem State.announce_frame : ∀ s x1, Same.quiet s (State.announce s x1) ∧ Same.store s (State.announce s x1) ∧ Same.ctl s (State.announce s x1) ∧ Same.path s (State.announce s x1) ∧ (State.announce s x1).regs = s.regs ∧ (State.announce s x1).log = s.log ∧ (State.announce s x1).twl = s.twl ∧ (State.announce s x1).pair = s.pair ∧ (State.announce s x1).vlt = s.vlt ∧ (State.announce s x1).cxl = s.cxl := by
  intro s x1
  refine And.imp Same.quiet_of (And.imp Same.store_of (And.imp Same.ctl_of (And.imp Same.path_of id))) ?_
  unfold State.announce
  try dsimp only
  (repeat' split) <;> simp

@[simp] theorem State.takeOver_frame : ∀ s, Same.quiet s (State.takeOver s) ∧ Same.store s (State.takeOver s) ∧ Same.ctl s (State.takeOver s) ∧ Same.path s (State.takeOver s) ∧ (State.takeOver s).regs = s.regs ∧ (State.takeOver s).log = s.log ∧ (State.takeOver s).twl = s.twl ∧ (State.takeOver s).vlt = s.vlt ∧ (State.takeOver s).cxl = s.cxl := by
  intro s
  refine And.imp Same.quiet_of (And.imp Same.store_of (And.imp Same.ctl_of (And.imp Same.path_of id))) ?_
  unfold State.takeOver
  try dsimp only
  (repeat' split) <;> simp

@[simp] theorem State.probeOrTakeOver_frame : ∀ s x1, Same.quiet s (State.probeOrTakeOver s x1) ∧ Same.store s (State.probeOrTakeOver s x1) ∧ Same.ctl s (State.probeOrTakeOver s x1) ∧ Same.path s (State.probeOrTakeOver s x1) ∧ (State.probeOrTakeOver s x1).regs = s.regs ∧ (State.probeOrTakeOver s x1).log = s.log ∧ (State.probeOrTakeOver s x1).twl = s.twl ∧ (State.probeOrTakeOver s x1).vlt = s.vlt ∧ (State.probeOrTakeOver s x1).cxl = s.cxl := by
  intro s x1
  refine And.imp Same.quiet_of (And.imp Same.store_of (And.imp Same.ctl_of (And.imp Same.path_of id))) ?_
  unfold State.probeOrTakeOver
  try dsimp only
  (repeat' split) <;> simp

@[simp] theorem State.loseTwin_frame : ∀ s, Same.quiet s (State.loseTwin s) ∧ Same.store s (State.loseTwin s) ∧ (State.loseTwin s).pwr = s.pwr := by
  intro s
  refine And.imp Same.quiet_of (And.imp Same.store_of id) ?_
  unfold State.loseTwin
  try dsimp only
  (repeat' split) <;> simp

@[simp] theorem State.cutLink_frame : ∀ s, Same.quiet s (State.cutLink s) ∧ Same.store s (State.cutLink s) ∧ (State.cutLink s).pwr = s.pwr := by
  intro s
  refine And.imp Same.quiet_of (And.imp Same.store_of id) ?_
  unfold State.cutLink
  try dsimp only
  (repeat' split) <;> simp

@[simp] theorem State.sendUp_frame : ∀ s x1 x2, Same.quiet s (State.sendUp s x1 x2) ∧ Same.store s (State.sendUp s x1 x2) ∧ Same.ctl s (State.sendUp s x1 x2) ∧ Same.path s (State.sendUp s x1 x2) ∧ Same.links s (State.sendUp s x1 x2) ∧ (State.sendUp s x1 x2).regs = s.regs ∧ (State.sendUp s x1 x2).ctrs = s.ctrs ∧ (State.sendUp s x1 x2).log = s.log := by
  intro s x1 x2
  refine And.imp Same.quiet_of (And.imp Same.store_of (And.imp Same.ctl_of (And.imp Same.path_of (And.imp Same.links_of id)))) ?_
  unfold State.sendUp
  try dsimp only
  (repeat' split) <;> simp

@[simp] theorem State.requestUp_frame : ∀ s x1, Same.quiet s (State.requestUp s x1) ∧ Same.store s (State.requestUp s x1) ∧ Same.ctl s (State.requestUp s x1) ∧ Same.path s (State.requestUp s x1) ∧ (State.requestUp s x1).regs = s.regs ∧ (State.requestUp s x1).ctrs = s.ctrs ∧ (State.requestUp s x1).log = s.log ∧ (State.requestUp s x1).pair = s.pair ∧ (State.requestUp s x1).vlt = s.vlt ∧ (State.requestUp s x1).net = s.net ∧ (State.requestUp s x1).cxl = s.cxl := by
  intro s x1
  refine And.imp Same.quiet_of (And.imp Same.store_of (And.imp Same.ctl_of (And.imp Same.path_of id))) ?_
  unfold State.requestUp
  try dsimp only
  (repeat' split) <;> simp

@[simp] theorem State.trainPath_frame : ∀ s x1, Same.quiet s (State.trainPath s x1) ∧ Same.store s (State.trainPath s x1) ∧ Same.ctl s (State.trainPath s x1) ∧ Same.path s (State.trainPath s x1) ∧ (State.trainPath s x1).regs = s.regs ∧ (State.trainPath s x1).ctrs = s.ctrs ∧ (State.trainPath s x1).log = s.log ∧ (State.trainPath s x1).pair = s.pair ∧ (State.trainPath s x1).vlt = s.vlt ∧ (State.trainPath s x1).net = s.net ∧ (State.trainPath s x1).cxl = s.cxl := by
  intro s x1
  refine And.imp Same.quiet_of (And.imp Same.store_of (And.imp Same.ctl_of (And.imp Same.path_of id))) ?_
  unfold State.trainPath
  try dsimp only
  (repeat' split) <;> simp

@[simp] theorem State.twlEnable_frame : ∀ s x1, Same.quiet s (State.twlEnable s x1) ∧ Same.store s (State.twlEnable s x1) ∧ (State.twlEnable s x1).pwr = s.pwr := by
  intro s x1
  refine And.imp Same.quiet_of (And.imp Same.store_of id) ?_
  unfold State.twlEnable
  try dsimp only
  (repeat' split) <;> simp

@[simp] theorem State.react_frame : ∀ old s, Same.quiet s (State.react old s) ∧ Same.store s (State.react old s) ∧ (State.react old s).pwr = s.pwr := by
  intro old s
  refine And.imp Same.quiet_of (And.imp Same.store_of id) ?_
  unfold State.react
  extract_lets on s1 s2
  have h1 : s1.quietP = s.quietP ∧ s1.storeP = s.storeP ∧ s1.pwr = s.pwr := by simp only [s1]; split <;> simp
  have h2 : s2.quietP = s.quietP ∧ s2.storeP = s.storeP ∧ s2.pwr = s.pwr := by simp only [s2]; split <;> simp [h1]
  clear_value s1 s2
  refine ⟨?_, ?_, ?_⟩
  · rw [foldl_quietP _ (fun a b => (State.reactMac_frame old a b).1.1)]; exact h2.1
  · rw [foldl_storeP _ (fun a b => (State.reactMac_frame old a b).2.1.1)]; exact h2.2.1
  · rw [foldl_pwr _ (fun a b => by simp)]; exact h2.2.2

@[simp] theorem State.setNand_frame : ∀ s x1, Same.quiet s (State.setNand s x1) ∧ Same.store s (State.setNand s x1) ∧ Same.ctl s (State.setNand s x1) ∧ Same.path s (State.setNand s x1) ∧ (State.setNand s x1).out = s.out ∧ (State.setNand s x1).regs = s.regs ∧ (State.setNand s x1).ctrs = s.ctrs ∧ (State.setNand s x1).log = s.log ∧ (State.setNand s x1).twl = s.twl ∧ (State.setNand s x1).pair = s.pair ∧ (State.setNand s x1).net = s.net ∧ (State.setNand s x1).cxl = s.cxl := by
  intro s x1
  refine And.imp Same.quiet_of (And.imp Same.store_of (And.imp Same.ctl_of (And.imp Same.path_of id))) ?_
  unfold State.setNand
  try dsimp only
  (repeat' split) <;> simp

@[simp] theorem State.blockFails_frame : ∀ s x1 x2, Same.quiet s (State.blockFails s x1 x2) ∧ Same.store s (State.blockFails s x1 x2) ∧ Same.path s (State.blockFails s x1 x2) ∧ (State.blockFails s x1 x2).out = s.out ∧ (State.blockFails s x1 x2).regs = s.regs ∧ (State.blockFails s x1 x2).ctrs = s.ctrs ∧ (State.blockFails s x1 x2).mode = s.mode ∧ (State.blockFails s x1 x2).pwr = s.pwr ∧ (State.blockFails s x1 x2).log = s.log ∧ (State.blockFails s x1 x2).twl = s.twl ∧ (State.blockFails s x1 x2).pair = s.pair ∧ (State.blockFails s x1 x2).net = s.net ∧ (State.blockFails s x1 x2).cxl = s.cxl ∧ (State.blockFails s x1 x2).cmd = s.cmd := by
  intro s x1 x2
  refine And.imp Same.quiet_of (And.imp Same.store_of (And.imp Same.path_of id)) ?_
  unfold State.blockFails
  try dsimp only
  (repeat' split) <;> simp

@[simp] theorem State.saveNet_frame : ∀ s, Same.quiet s (State.saveNet s) ∧ Same.store s (State.saveNet s) ∧ Same.ctl s (State.saveNet s) ∧ Same.path s (State.saveNet s) ∧ (State.saveNet s).out = s.out ∧ (State.saveNet s).regs = s.regs ∧ (State.saveNet s).ctrs = s.ctrs ∧ (State.saveNet s).log = s.log ∧ (State.saveNet s).twl = s.twl ∧ (State.saveNet s).pair = s.pair ∧ (State.saveNet s).net = s.net ∧ (State.saveNet s).cxl = s.cxl := by
  intro s
  refine And.imp Same.quiet_of (And.imp Same.store_of (And.imp Same.ctl_of (And.imp Same.path_of id))) ?_
  unfold State.saveNet
  try dsimp only
  (repeat' split) <;> simp

@[simp] theorem State.propose_frame : ∀ s x1 x2, Same.quiet s (State.propose s x1 x2) ∧ Same.store s (State.propose s x1 x2) ∧ Same.ctl s (State.propose s x1 x2) ∧ Same.path s (State.propose s x1 x2) ∧ (State.propose s x1 x2).regs = s.regs ∧ (State.propose s x1 x2).log = s.log ∧ (State.propose s x1 x2).pair = s.pair ∧ (State.propose s x1 x2).vlt = s.vlt ∧ (State.propose s x1 x2).cxl = s.cxl := by
  intro s x1 x2
  refine And.imp Same.quiet_of (And.imp Same.store_of (And.imp Same.ctl_of (And.imp Same.path_of id))) ?_
  unfold State.propose
  try dsimp only
  (repeat' split) <;> simp

@[simp] theorem State.leaveRestore_frame : ∀ s, Same.quiet s (State.leaveRestore s) ∧ Same.store s (State.leaveRestore s) ∧ (State.leaveRestore s).pwr = s.pwr ∧ (State.leaveRestore s).flt = s.flt ∧ (State.leaveRestore s).cmd = s.cmd := by
  intro s
  refine And.imp Same.quiet_of (And.imp Same.store_of id) ?_
  unfold State.leaveRestore
  try dsimp only
  (repeat' split) <;> simp

@[simp] theorem State.serveHosts_frame : ∀ s, Same.quiet s (State.serveHosts s) ∧ Same.store s (State.serveHosts s) ∧ (State.serveHosts s).pwr = s.pwr ∧ (State.serveHosts s).flt = s.flt ∧ (State.serveHosts s).cmd = s.cmd := by
  intro s
  refine And.imp Same.quiet_of (And.imp Same.store_of id) ?_
  unfold State.serveHosts
  try dsimp only
  (repeat' split) <;> simp

@[simp] theorem State.scrubPass_frame : ∀ s, Same.quiet s (State.scrubPass s) ∧ Same.store s (State.scrubPass s) ∧ Same.ctl s (State.scrubPass s) ∧ Same.links s (State.scrubPass s) ∧ (State.scrubPass s).out = s.out ∧ (State.scrubPass s).regs = s.regs ∧ (State.scrubPass s).ctrs = s.ctrs ∧ (State.scrubPass s).log = s.log ∧ (State.scrubPass s).addr = s.addr ∧ (State.scrubPass s).trk = s.trk ∧ (State.scrubPass s).tier = s.tier ∧ (State.scrubPass s).lc = s.lc ∧ (State.scrubPass s).ch = s.ch := by
  intro s
  refine And.imp Same.quiet_of (And.imp Same.store_of (And.imp Same.ctl_of (And.imp Same.links_of id))) ?_
  unfold State.scrubPass
  try dsimp only
  (repeat' split) <;> simp

@[simp] theorem State.setStale_frame : ∀ s x1, Same.quiet s (State.setStale s x1) ∧ Same.store s (State.setStale s x1) ∧ Same.ctl s (State.setStale s x1) ∧ Same.path s (State.setStale s x1) ∧ (State.setStale s x1).out = s.out ∧ (State.setStale s x1).regs = s.regs ∧ (State.setStale s x1).ctrs = s.ctrs ∧ (State.setStale s x1).log = s.log ∧ (State.setStale s x1).twl = s.twl ∧ (State.setStale s x1).vlt = s.vlt ∧ (State.setStale s x1).net = s.net ∧ (State.setStale s x1).cxl = s.cxl := by
  intro s x1
  refine And.imp Same.quiet_of (And.imp Same.store_of (And.imp Same.ctl_of (And.imp Same.path_of id))) ?_
  unfold State.setStale
  try dsimp only
  (repeat' split) <;> simp

@[simp] theorem State.tell_frame : ∀ s x1 x2 x3, Same.quiet s (State.tell s x1 x2 x3) ∧ Same.store s (State.tell s x1 x2 x3) ∧ Same.path s (State.tell s x1 x2 x3) ∧ Same.links s (State.tell s x1 x2 x3) ∧ (State.tell s x1 x2 x3).out = s.out ∧ (State.tell s x1 x2 x3).regs = s.regs ∧ (State.tell s x1 x2 x3).ctrs = s.ctrs ∧ (State.tell s x1 x2 x3).mode = s.mode ∧ (State.tell s x1 x2 x3).pwr = s.pwr ∧ (State.tell s x1 x2 x3).log = s.log ∧ (State.tell s x1 x2 x3).cmd = s.cmd := by
  intro s x1 x2 x3
  refine And.imp Same.quiet_of (And.imp Same.store_of (And.imp Same.path_of (And.imp Same.links_of id))) ?_
  unfold State.tell
  try dsimp only
  (repeat' split) <;> simp

@[simp] theorem State.vcoreRead_frame : ∀ s x1, Same.quiet s (State.vcoreRead s x1) ∧ Same.store s (State.vcoreRead s x1) ∧ Same.path s (State.vcoreRead s x1) ∧ Same.links s (State.vcoreRead s x1) ∧ (State.vcoreRead s x1).out = s.out ∧ (State.vcoreRead s x1).regs = s.regs ∧ (State.vcoreRead s x1).ctrs = s.ctrs ∧ (State.vcoreRead s x1).mode = s.mode ∧ (State.vcoreRead s x1).log = s.log ∧ (State.vcoreRead s x1).cmd = s.cmd := by
  intro s x1
  refine And.imp Same.quiet_of (And.imp Same.store_of (And.imp Same.path_of (And.imp Same.links_of id))) ?_
  unfold State.vcoreRead
  try dsimp only
  (repeat' split) <;> simp

@[simp] theorem State.setBank_frame : ∀ s x1 x2, Same.quiet s (State.setBank s x1 x2) ∧ Same.ctl s (State.setBank s x1 x2) ∧ Same.path s (State.setBank s x1 x2) ∧ Same.links s (State.setBank s x1 x2) ∧ (State.setBank s x1 x2).out = s.out ∧ (State.setBank s x1 x2).fresh = s.fresh ∧ (State.setBank s x1 x2).regs = s.regs ∧ (State.setBank s x1 x2).ctrs = s.ctrs ∧ (State.setBank s x1 x2).log = s.log ∧ (State.setBank s x1 x2).sht = s.sht ∧ (State.setBank s x1 x2).mem = s.mem := by
  intro s x1 x2
  refine And.imp Same.quiet_of (And.imp Same.ctl_of (And.imp Same.path_of (And.imp Same.links_of id))) ?_
  unfold State.setBank
  try dsimp only
  (repeat' split) <;> simp

@[simp] theorem State.sample_frame : ∀ s x1, Same.quiet s (State.sample s x1) ∧ Same.store s (State.sample s x1) ∧ Same.path s (State.sample s x1) ∧ Same.links s (State.sample s x1) ∧ (State.sample s x1).out = s.out ∧ (State.sample s x1).regs = s.regs ∧ (State.sample s x1).ctrs = s.ctrs ∧ (State.sample s x1).mode = s.mode ∧ (State.sample s x1).log = s.log ∧ (State.sample s x1).flt = s.flt ∧ (State.sample s x1).cmd = s.cmd := by
  intro s x1
  refine And.imp Same.quiet_of (And.imp Same.store_of (And.imp Same.path_of (And.imp Same.links_of id))) ?_
  unfold State.sample
  try dsimp only
  (repeat' split) <;> simp

@[simp] theorem State.putFw_frame : ∀ s x1 x2 x3, Same.quiet s (State.putFw s x1 x2 x3) ∧ Same.ctl s (State.putFw s x1 x2 x3) ∧ Same.path s (State.putFw s x1 x2 x3) ∧ Same.links s (State.putFw s x1 x2 x3) ∧ (State.putFw s x1 x2 x3).out = s.out ∧ (State.putFw s x1 x2 x3).fresh = s.fresh ∧ (State.putFw s x1 x2 x3).regs = s.regs ∧ (State.putFw s x1 x2 x3).ctrs = s.ctrs ∧ (State.putFw s x1 x2 x3).log = s.log ∧ (State.putFw s x1 x2 x3).sht = s.sht ∧ (State.putFw s x1 x2 x3).mem = s.mem := by
  intro s x1 x2 x3
  refine And.imp Same.quiet_of (And.imp Same.ctl_of (And.imp Same.path_of (And.imp Same.links_of id))) ?_
  unfold State.putFw
  try dsimp only
  (repeat' split) <;> simp

@[simp] theorem State.takeSeq_frame : ∀ s x1, Same.quiet s (State.takeSeq s x1) ∧ Same.store s (State.takeSeq s x1) ∧ Same.ctl s (State.takeSeq s x1) ∧ Same.path s (State.takeSeq s x1) ∧ (State.takeSeq s x1).out = s.out ∧ (State.takeSeq s x1).regs = s.regs ∧ (State.takeSeq s x1).ctrs = s.ctrs ∧ (State.takeSeq s x1).log = s.log ∧ (State.takeSeq s x1).twl = s.twl ∧ (State.takeSeq s x1).pair = s.pair ∧ (State.takeSeq s x1).net = s.net ∧ (State.takeSeq s x1).cxl = s.cxl := by
  intro s x1
  refine And.imp Same.quiet_of (And.imp Same.store_of (And.imp Same.ctl_of (And.imp Same.path_of id))) ?_
  unfold State.takeSeq
  try dsimp only
  (repeat' split) <;> simp

@[simp] theorem State.openSeg_frame : ∀ s x1 x2 t, State.openSeg s x1 x2 = some t → Same.quiet s t ∧ Same.store s t ∧ Same.ctl s t ∧ Same.path s t ∧ t.out = s.out ∧ t.regs = s.regs ∧ t.ctrs = s.ctrs ∧ t.log = s.log ∧ t.twl = s.twl ∧ t.pair = s.pair ∧ t.net = s.net ∧ t.cxl = s.cxl := by
  intro s x1 x2 t h
  refine And.imp Same.quiet_of (And.imp Same.store_of (And.imp Same.ctl_of (And.imp Same.path_of id))) ?_
  unfold State.openSeg at h
  try dsimp only at h
  repeat' split at h
  all_goals try (simp at h)
  all_goals try (subst h)
  all_goals simp

@[simp] theorem State.reqResult_frame : ∀ s x1, Same.quiet s (State.reqResult s x1) ∧ Same.store s (State.reqResult s x1) ∧ Same.path s (State.reqResult s x1) ∧ Same.links s (State.reqResult s x1) ∧ (State.reqResult s x1).out = s.out ∧ (State.reqResult s x1).regs = s.regs ∧ (State.reqResult s x1).ctrs = s.ctrs ∧ (State.reqResult s x1).pwr = s.pwr ∧ (State.reqResult s x1).log = s.log ∧ (State.reqResult s x1).flt = s.flt ∧ (State.reqResult s x1).cmd = s.cmd := by
  intro s x1
  refine And.imp Same.quiet_of (And.imp Same.store_of (And.imp Same.path_of (And.imp Same.links_of id))) ?_
  unfold State.reqResult
  try dsimp only
  (repeat' split) <;> simp

@[simp] theorem State.selftestRun_frame : ∀ s x1, Same.quiet s (State.selftestRun s x1).1 ∧ Same.store s (State.selftestRun s x1).1 ∧ Same.ctl s (State.selftestRun s x1).1 ∧ Same.path s (State.selftestRun s x1).1 ∧ Same.links s (State.selftestRun s x1).1 ∧ (State.selftestRun s x1).1.out = s.out ∧ (State.selftestRun s x1).1.regs = s.regs ∧ (State.selftestRun s x1).1.ctrs = s.ctrs ∧ (State.selftestRun s x1).1.log = s.log := by
  intro s x1
  refine And.imp Same.quiet_of (And.imp Same.store_of (And.imp Same.ctl_of (And.imp Same.path_of (And.imp Same.links_of id)))) ?_
  unfold State.selftestRun
  try dsimp only
  (repeat' split) <;> simp

@[simp] theorem State.enterHold_frame : ∀ s x1 x2, Same.quiet s (State.enterHold s x1 x2) ∧ Same.store s (State.enterHold s x1 x2) ∧ Same.path s (State.enterHold s x1 x2) ∧ Same.links s (State.enterHold s x1 x2) ∧ (State.enterHold s x1 x2).out = s.out ∧ (State.enterHold s x1 x2).regs = s.regs ∧ (State.enterHold s x1 x2).pwr = s.pwr ∧ (State.enterHold s x1 x2).flt = s.flt ∧ (State.enterHold s x1 x2).cmd = s.cmd := by
  intro s x1 x2
  refine And.imp Same.quiet_of (And.imp Same.store_of (And.imp Same.path_of (And.imp Same.links_of id))) ?_
  unfold State.enterHold
  try dsimp only
  (repeat' split) <;> simp

@[simp] theorem State.enterSolo_frame : ∀ s x1, Same.quiet s (State.enterSolo s x1) ∧ Same.store s (State.enterSolo s x1) ∧ (State.enterSolo s x1).pwr = s.pwr := by
  intro s x1
  refine And.imp Same.quiet_of (And.imp Same.store_of id) ?_
  unfold State.enterSolo
  try dsimp only
  (repeat' split) <;> simp

@[simp] theorem State.modeReq_frame : ∀ s x1 x2, Same.quiet s (State.modeReq s x1 x2) ∧ Same.store s (State.modeReq s x1 x2) := by
  intro s x1 x2
  refine And.imp Same.quiet_of Same.store_of ?_
  unfold State.modeReq
  try dsimp only
  (repeat' split) <;> simp

@[simp] theorem State.land_frame : ∀ s x1 x2, Same.store s (State.land s x1 x2) ∧ (State.land s x1 x2).pending = s.pending ∧ (State.land s x1 x2).copies = s.copies ∧ (State.land s x1 x2).latched = s.latched ∧ (State.land s x1 x2).tim = s.tim ∧ (State.land s x1 x2).sb0 = s.sb0 ∧ (State.land s x1 x2).sb1 = s.sb1 ∧ (State.land s x1 x2).sb2 = s.sb2 ∧ (State.land s x1 x2).sb3 = s.sb3 ∧ (State.land s x1 x2).unlocks = s.unlocks := by
  intro s x1 x2
  refine And.imp Same.store_of id ?_
  unfold State.land
  try dsimp only
  (repeat' split) <;> simp

@[simp] theorem State.writeRsc_frame : ∀ s x1 x2 x3, Same.store s (State.writeRsc s x1 x2 x3) ∧ (State.writeRsc s x1 x2 x3).pending = s.pending ∧ (State.writeRsc s x1 x2 x3).copies = s.copies ∧ (State.writeRsc s x1 x2 x3).latched = s.latched ∧ (State.writeRsc s x1 x2 x3).tim = s.tim ∧ (State.writeRsc s x1 x2 x3).sb0 = s.sb0 ∧ (State.writeRsc s x1 x2 x3).sb1 = s.sb1 ∧ (State.writeRsc s x1 x2 x3).sb2 = s.sb2 ∧ (State.writeRsc s x1 x2 x3).sb3 = s.sb3 ∧ (State.writeRsc s x1 x2 x3).unlocks = s.unlocks := by
  intro s x1 x2 x3
  refine And.imp Same.store_of id ?_
  unfold State.writeRsc
  try dsimp only
  (repeat' split) <;> simp

@[simp] theorem State.answerIn_frame : ∀ s x1 x2 x3 x4, Same.quiet s (State.answerIn s x1 x2 x3 x4) ∧ Same.store s (State.answerIn s x1 x2 x3 x4) ∧ Same.path s (State.answerIn s x1 x2 x3 x4) ∧ Same.links s (State.answerIn s x1 x2 x3 x4) ∧ (State.answerIn s x1 x2 x3 x4).regs = s.regs ∧ (State.answerIn s x1 x2 x3 x4).mode = s.mode ∧ (State.answerIn s x1 x2 x3 x4).pwr = s.pwr ∧ (State.answerIn s x1 x2 x3 x4).flt = s.flt := by
  intro s x1 x2 x3 x4
  refine And.imp Same.quiet_of (And.imp Same.store_of (And.imp Same.path_of (And.imp Same.links_of id))) ?_
  unfold State.answerIn
  try dsimp only
  (repeat' split) <;> simp

@[simp] theorem State.setMove_frame : ∀ s x1, Same.quiet s (State.setMove s x1) ∧ Same.store s (State.setMove s x1) ∧ Same.ctl s (State.setMove s x1) ∧ Same.links s (State.setMove s x1) ∧ (State.setMove s x1).out = s.out ∧ (State.setMove s x1).regs = s.regs ∧ (State.setMove s x1).ctrs = s.ctrs ∧ (State.setMove s x1).log = s.log ∧ (State.setMove s x1).addr = s.addr ∧ (State.setMove s x1).trk = s.trk ∧ (State.setMove s x1).lc = s.lc ∧ (State.setMove s x1).ch = s.ch ∧ (State.setMove s x1).ec = s.ec := by
  intro s x1
  refine And.imp Same.quiet_of (And.imp Same.store_of (And.imp Same.ctl_of (And.imp Same.links_of id))) ?_
  unfold State.setMove
  try dsimp only
  (repeat' split) <;> simp

@[simp] theorem State.freeze_frame : ∀ s x1 x2 x3, Same.quiet s (State.freeze s x1 x2 x3) ∧ Same.store s (State.freeze s x1 x2 x3) ∧ Same.links s (State.freeze s x1 x2 x3) ∧ (State.freeze s x1 x2 x3).out = s.out ∧ (State.freeze s x1 x2 x3).regs = s.regs ∧ (State.freeze s x1 x2 x3).mode = s.mode ∧ (State.freeze s x1 x2 x3).pwr = s.pwr ∧ (State.freeze s x1 x2 x3).log = s.log ∧ (State.freeze s x1 x2 x3).addr = s.addr ∧ (State.freeze s x1 x2 x3).trk = s.trk ∧ (State.freeze s x1 x2 x3).tier = s.tier ∧ (State.freeze s x1 x2 x3).lc = s.lc ∧ (State.freeze s x1 x2 x3).ec = s.ec ∧ (State.freeze s x1 x2 x3).cmd = s.cmd := by
  intro s x1 x2 x3
  refine And.imp Same.quiet_of (And.imp Same.store_of (And.imp Same.links_of id)) ?_
  unfold State.freeze
  try dsimp only
  (repeat' split) <;> simp

@[simp] theorem State.noteUncorrectable_frame : ∀ s x1 x2 x3, Same.quiet s (State.noteUncorrectable s x1 x2 x3) ∧ Same.store s (State.noteUncorrectable s x1 x2 x3) ∧ Same.links s (State.noteUncorrectable s x1 x2 x3) ∧ (State.noteUncorrectable s x1 x2 x3).out = s.out ∧ (State.noteUncorrectable s x1 x2 x3).regs = s.regs ∧ (State.noteUncorrectable s x1 x2 x3).mode = s.mode ∧ (State.noteUncorrectable s x1 x2 x3).pwr = s.pwr ∧ (State.noteUncorrectable s x1 x2 x3).addr = s.addr ∧ (State.noteUncorrectable s x1 x2 x3).trk = s.trk ∧ (State.noteUncorrectable s x1 x2 x3).tier = s.tier ∧ (State.noteUncorrectable s x1 x2 x3).lc = s.lc ∧ (State.noteUncorrectable s x1 x2 x3).ec = s.ec ∧ (State.noteUncorrectable s x1 x2 x3).cmd = s.cmd := by
  intro s x1 x2 x3
  refine And.imp Same.quiet_of (And.imp Same.store_of (And.imp Same.links_of id)) ?_
  unfold State.noteUncorrectable
  try dsimp only
  (repeat' split) <;> simp

@[simp] theorem State.uncorrectable_frame : ∀ s x1 x2 x3, Same.quiet s (State.uncorrectable s x1 x2 x3) ∧ Same.store s (State.uncorrectable s x1 x2 x3) ∧ (State.uncorrectable s x1 x2 x3).mode = s.mode ∧ (State.uncorrectable s x1 x2 x3).pwr = s.pwr ∧ (State.uncorrectable s x1 x2 x3).cmd = s.cmd := by
  intro s x1 x2 x3
  refine And.imp Same.quiet_of (And.imp Same.store_of id) ?_
  unfold State.uncorrectable
  try dsimp only
  (repeat' split) <;> simp

@[simp] theorem State.moveFails_frame : ∀ s x1, Same.quiet s (State.moveFails s x1) ∧ Same.store s (State.moveFails s x1) ∧ (State.moveFails s x1).mode = s.mode ∧ (State.moveFails s x1).pwr = s.pwr ∧ (State.moveFails s x1).cmd = s.cmd := by
  intro s x1
  refine And.imp Same.quiet_of (And.imp Same.store_of id) ?_
  unfold State.moveFails
  try dsimp only
  (repeat' split) <;> simp

@[simp] theorem State.crossN_frame : ∀ x0 s x2, Same.quiet s (State.crossN x0 s x2) ∧ Same.store s (State.crossN x0 s x2) ∧ Same.ctl s (State.crossN x0 s x2) ∧ Same.path s (State.crossN x0 s x2) ∧ (State.crossN x0 s x2).regs = s.regs ∧ (State.crossN x0 s x2).log = s.log ∧ (State.crossN x0 s x2).pair = s.pair ∧ (State.crossN x0 s x2).vlt = s.vlt ∧ (State.crossN x0 s x2).net = s.net ∧ (State.crossN x0 s x2).cxl = s.cxl := by
  intro x0 s x2
  refine And.imp Same.quiet_of (And.imp Same.store_of (And.imp Same.ctl_of (And.imp Same.path_of id))) ?_
  revert x0 s x2
  intro x0 s x2
  induction x0 generalizing s x2 with
  | zero => simp [State.crossN]
  | succ k ih =>
    unfold State.crossN
    try dsimp only
    (repeat' split) <;> simp [ih]

@[simp] theorem State.setCell_frame : ∀ s x1 x2, Same.quiet s (State.setCell s x1 x2) ∧ Same.ctl s (State.setCell s x1 x2) ∧ Same.path s (State.setCell s x1 x2) ∧ Same.links s (State.setCell s x1 x2) ∧ (State.setCell s x1 x2).out = s.out ∧ (State.setCell s x1 x2).fresh = s.fresh ∧ (State.setCell s x1 x2).regs = s.regs ∧ (State.setCell s x1 x2).ctrs = s.ctrs ∧ (State.setCell s x1 x2).log = s.log ∧ (State.setCell s x1 x2).sht = s.sht ∧ (State.setCell s x1 x2).fls = s.fls := by
  intro s x1 x2
  refine And.imp Same.quiet_of (And.imp Same.ctl_of (And.imp Same.path_of (And.imp Same.links_of id))) ?_
  unfold State.setCell
  try dsimp only
  (repeat' split) <;> simp

@[simp] theorem State.restoredLine_frame : ∀ s x1, Same.quiet s (State.restoredLine s x1) ∧ Same.ctl s (State.restoredLine s x1) ∧ Same.path s (State.restoredLine s x1) ∧ Same.links s (State.restoredLine s x1) ∧ (State.restoredLine s x1).out = s.out ∧ (State.restoredLine s x1).fresh = s.fresh ∧ (State.restoredLine s x1).regs = s.regs ∧ (State.restoredLine s x1).ctrs = s.ctrs ∧ (State.restoredLine s x1).log = s.log ∧ (State.restoredLine s x1).sht = s.sht ∧ (State.restoredLine s x1).fls = s.fls := by
  intro s x1
  refine And.imp Same.quiet_of (And.imp Same.ctl_of (And.imp Same.path_of (And.imp Same.links_of id))) ?_
  unfold State.restoredLine
  try dsimp only
  (repeat' split) <;> simp

@[simp] theorem State.setSb_frame : ∀ s x1 x2, Same.store s (State.setSb s x1 x2) ∧ Same.ctl s (State.setSb s x1 x2) ∧ Same.path s (State.setSb s x1 x2) ∧ Same.links s (State.setSb s x1 x2) ∧ (State.setSb s x1 x2).pending = s.pending ∧ (State.setSb s x1 x2).out = s.out ∧ (State.setSb s x1 x2).regs = s.regs ∧ (State.setSb s x1 x2).rsc = s.rsc ∧ (State.setSb s x1 x2).copies = s.copies ∧ (State.setSb s x1 x2).ctrs = s.ctrs ∧ (State.setSb s x1 x2).latched = s.latched ∧ (State.setSb s x1 x2).tim = s.tim ∧ (State.setSb s x1 x2).log = s.log ∧ (State.setSb s x1 x2).unlocks = s.unlocks := by
  intro s x1 x2
  refine And.imp Same.store_of (And.imp Same.ctl_of (And.imp Same.path_of (And.imp Same.links_of id))) ?_
  unfold State.setSb
  try dsimp only
  (repeat' split) <;> simp

@[simp] theorem State.freed_frame : ∀ s, Same.quiet s (State.freed s) ∧ Same.ctl s (State.freed s) ∧ Same.path s (State.freed s) ∧ Same.links s (State.freed s) ∧ (State.freed s).out = s.out ∧ (State.freed s).regs = s.regs ∧ (State.freed s).ctrs = s.ctrs ∧ (State.freed s).log = s.log ∧ (State.freed s).sht = s.sht ∧ (State.freed s).mem = s.mem ∧ (State.freed s).fls = s.fls := by
  intro s
  refine And.imp Same.quiet_of (And.imp Same.ctl_of (And.imp Same.path_of (And.imp Same.links_of id))) ?_
  unfold State.freed
  try dsimp only
  (repeat' split) <;> simp

@[simp] theorem State.putTest_frame : ∀ s x1 x2 x3, Same.quiet s (State.putTest s x1 x2 x3) ∧ Same.store s (State.putTest s x1 x2 x3) ∧ Same.ctl s (State.putTest s x1 x2 x3) ∧ Same.path s (State.putTest s x1 x2 x3) ∧ Same.links s (State.putTest s x1 x2 x3) ∧ (State.putTest s x1 x2 x3).out = s.out ∧ (State.putTest s x1 x2 x3).ctrs = s.ctrs ∧ (State.putTest s x1 x2 x3).log = s.log := by
  intro s x1 x2 x3
  refine And.imp Same.quiet_of (And.imp Same.store_of (And.imp Same.ctl_of (And.imp Same.path_of (And.imp Same.links_of id)))) ?_
  unfold State.putTest
  try dsimp only
  (repeat' split) <;> simp

@[simp] theorem State.testRead_frame : ∀ s x1 x2 x3 x4, Same.quiet s (State.testRead s x1 x2 x3 x4) ∧ Same.ctl s (State.testRead s x1 x2 x3 x4) ∧ Same.links s (State.testRead s x1 x2 x3 x4) ∧ (State.testRead s x1 x2 x3 x4).out = s.out ∧ (State.testRead s x1 x2 x3 x4).ctrs = s.ctrs ∧ (State.testRead s x1 x2 x3 x4).log = s.log ∧ (State.testRead s x1 x2 x3 x4).sht = s.sht ∧ (State.testRead s x1 x2 x3 x4).addr = s.addr ∧ (State.testRead s x1 x2 x3 x4).trk = s.trk ∧ (State.testRead s x1 x2 x3 x4).tier = s.tier ∧ (State.testRead s x1 x2 x3 x4).lc = s.lc ∧ (State.testRead s x1 x2 x3 x4).ch = s.ch ∧ (State.testRead s x1 x2 x3 x4).mem = s.mem ∧ (State.testRead s x1 x2 x3 x4).fls = s.fls := by
  intro s x1 x2 x3 x4
  refine And.imp Same.quiet_of (And.imp Same.ctl_of (And.imp Same.links_of id)) ?_
  unfold State.testRead
  try dsimp only
  (repeat' split) <;> simp

@[simp] theorem State.writeDeltas_frame : ∀ s, Same.quiet s (State.writeDeltas s) ∧ Same.store s (State.writeDeltas s) ∧ Same.ctl s (State.writeDeltas s) ∧ Same.path s (State.writeDeltas s) ∧ (State.writeDeltas s).out = s.out ∧ (State.writeDeltas s).regs = s.regs ∧ (State.writeDeltas s).ctrs = s.ctrs ∧ (State.writeDeltas s).log = s.log ∧ (State.writeDeltas s).twl = s.twl ∧ (State.writeDeltas s).pair = s.pair ∧ (State.writeDeltas s).net = s.net ∧ (State.writeDeltas s).cxl = s.cxl := by
  intro s
  refine And.imp Same.quiet_of (And.imp Same.store_of (And.imp Same.ctl_of (And.imp Same.path_of id))) ?_
  unfold State.writeDeltas
  try dsimp only
  (repeat' split) <;> simp

@[simp] theorem State.applyEarly_frame : ∀ x0 s x2, Same.quiet s (State.applyEarly x0 s x2) ∧ Same.store s (State.applyEarly x0 s x2) ∧ Same.ctl s (State.applyEarly x0 s x2) ∧ (State.applyEarly x0 s x2).tier = s.tier := by
  intro x0 s x2
  refine And.imp Same.quiet_of (And.imp Same.store_of (And.imp Same.ctl_of id)) ?_
  revert x0 s x2
  intro k
  induction k with
  | zero => intro s x; simp [State.applyEarly]
  | succ k ih =>
    intro s x
    unfold State.applyEarly
    split
    · simp
    · split
      · simp
      · split
        · simp
        · rename_i hp
          simp [ih, State.putLine_frame _ _ _ _ _ _ _ hp]

@[simp] theorem State.applyRec_frame : ∀ s x1 t, State.applyRec s x1 = some t → Same.quiet s t ∧ Same.store s t ∧ Same.ctl s t ∧ t.tier = s.tier := by
  intro s x1 t h
  refine And.imp Same.quiet_of (And.imp Same.store_of (And.imp Same.ctl_of id)) ?_
  unfold State.applyRec at h
  repeat' split at h
  all_goals try (rename_i hh; have hh' := congrArg Prod.fst hh; dsimp only at hh'; subst hh')
  all_goals try (rename_i hh; have hh' := congrArg Prod.snd hh; dsimp only at hh'; subst hh')
  all_goals try (simp only [Option.map_eq_some_iff, Option.some.injEq, reduceCtorEq] at h)
  all_goals try (obtain ⟨_, hm, rfl⟩ := h)
  all_goals try have hq_putLine := State.putLine_frame _ _ _ _ _ _ _ (by assumption)
  all_goals try (subst h)
  all_goals (repeat' split)
  all_goals simp [*]

@[simp] theorem State.sbResult_frame : ∀ s x1 x2 x3, Same.store s (State.sbResult s x1 x2 x3) ∧ Same.ctl s (State.sbResult s x1 x2 x3) ∧ Same.path s (State.sbResult s x1 x2 x3) ∧ Same.links s (State.sbResult s x1 x2 x3) ∧ (State.sbResult s x1 x2 x3).pending = s.pending ∧ (State.sbResult s x1 x2 x3).out = s.out ∧ (State.sbResult s x1 x2 x3).regs = s.regs ∧ (State.sbResult s x1 x2 x3).rsc = s.rsc ∧ (State.sbResult s x1 x2 x3).copies = s.copies ∧ (State.sbResult s x1 x2 x3).ctrs = s.ctrs ∧ (State.sbResult s x1 x2 x3).latched = s.latched ∧ (State.sbResult s x1 x2 x3).tim = s.tim ∧ (State.sbResult s x1 x2 x3).log = s.log ∧ (State.sbResult s x1 x2 x3).unlocks = s.unlocks := by
  intro s x1 x2 x3
  refine And.imp Same.store_of (And.imp Same.ctl_of (And.imp Same.path_of (And.imp Same.links_of id))) ?_
  unfold State.sbResult
  try dsimp only
  (repeat' split) <;> simp

@[simp] theorem State.sbStart_frame : ∀ s x1 x2, Same.store s (State.sbStart s x1 x2) ∧ Same.ctl s (State.sbStart s x1 x2) ∧ Same.path s (State.sbStart s x1 x2) ∧ Same.links s (State.sbStart s x1 x2) ∧ (State.sbStart s x1 x2).pending = s.pending ∧ (State.sbStart s x1 x2).regs = s.regs ∧ (State.sbStart s x1 x2).rsc = s.rsc ∧ (State.sbStart s x1 x2).copies = s.copies ∧ (State.sbStart s x1 x2).ctrs = s.ctrs ∧ (State.sbStart s x1 x2).latched = s.latched ∧ (State.sbStart s x1 x2).tim = s.tim ∧ (State.sbStart s x1 x2).log = s.log ∧ (State.sbStart s x1 x2).unlocks = s.unlocks := by
  intro s x1 x2
  refine And.imp Same.store_of (And.imp Same.ctl_of (And.imp Same.path_of (And.imp Same.links_of id))) ?_
  unfold State.sbStart
  try dsimp only
  (repeat' split) <;> simp

@[simp] theorem State.sbSubmit_frame : ∀ s x1 x2, Same.store s (State.sbSubmit s x1 x2) ∧ Same.ctl s (State.sbSubmit s x1 x2) ∧ Same.path s (State.sbSubmit s x1 x2) ∧ Same.links s (State.sbSubmit s x1 x2) ∧ (State.sbSubmit s x1 x2).pending = s.pending ∧ (State.sbSubmit s x1 x2).regs = s.regs ∧ (State.sbSubmit s x1 x2).rsc = s.rsc ∧ (State.sbSubmit s x1 x2).copies = s.copies ∧ (State.sbSubmit s x1 x2).ctrs = s.ctrs ∧ (State.sbSubmit s x1 x2).latched = s.latched ∧ (State.sbSubmit s x1 x2).tim = s.tim ∧ (State.sbSubmit s x1 x2).log = s.log ∧ (State.sbSubmit s x1 x2).unlocks = s.unlocks := by
  intro s x1 x2
  refine And.imp Same.store_of (And.imp Same.ctl_of (And.imp Same.path_of (And.imp Same.links_of id))) ?_
  unfold State.sbSubmit
  try dsimp only
  (repeat' split) <;> simp

@[simp] theorem State.sendXoff_frame : ∀ s x1 x2 x3, Same.quiet s (State.sendXoff s x1 x2 x3) ∧ Same.store s (State.sendXoff s x1 x2 x3) ∧ Same.ctl s (State.sendXoff s x1 x2 x3) ∧ Same.path s (State.sendXoff s x1 x2 x3) ∧ (State.sendXoff s x1 x2 x3).regs = s.regs ∧ (State.sendXoff s x1 x2 x3).log = s.log ∧ (State.sendXoff s x1 x2 x3).twl = s.twl ∧ (State.sendXoff s x1 x2 x3).pair = s.pair ∧ (State.sendXoff s x1 x2 x3).vlt = s.vlt ∧ (State.sendXoff s x1 x2 x3).cxl = s.cxl := by
  intro s x1 x2 x3
  refine And.imp Same.quiet_of (And.imp Same.store_of (And.imp Same.ctl_of (And.imp Same.path_of id))) ?_
  unfold State.sendXoff
  try dsimp only
  (repeat' split) <;> simp

@[simp] theorem State.crossAll_frame : ∀ s, Same.quiet s (State.crossAll s) ∧ Same.store s (State.crossAll s) ∧ Same.ctl s (State.crossAll s) ∧ Same.path s (State.crossAll s) ∧ (State.crossAll s).regs = s.regs ∧ (State.crossAll s).log = s.log ∧ (State.crossAll s).pair = s.pair ∧ (State.crossAll s).vlt = s.vlt ∧ (State.crossAll s).net = s.net ∧ (State.crossAll s).cxl = s.cxl := by
  intro s
  refine And.imp Same.quiet_of (And.imp Same.store_of (And.imp Same.ctl_of (And.imp Same.path_of id))) ?_
  unfold State.crossAll
  try dsimp only
  (repeat' split) <;> simp

@[simp] theorem State.declareDead_frame : ∀ s x1, Same.quiet s (State.declareDead s x1) ∧ Same.store s (State.declareDead s x1) ∧ (State.declareDead s x1).pwr = s.pwr := by
  intro s x1
  refine And.imp Same.quiet_of (And.imp Same.store_of id) ?_
  unfold State.declareDead
  try dsimp only
  (repeat' split) <;> simp

@[simp] theorem State.formatError_frame : ∀ s x1, Same.quiet s (State.formatError s x1) ∧ Same.store s (State.formatError s x1) ∧ (State.formatError s x1).pwr = s.pwr := by
  intro s x1
  refine And.imp Same.quiet_of (And.imp Same.store_of id) ?_
  unfold State.formatError
  try dsimp only
  (repeat' split) <;> simp

@[simp] theorem State.freeSlots_frame : ∀ s x1, Same.quiet s (State.freeSlots s x1) ∧ Same.store s (State.freeSlots s x1) ∧ Same.ctl s (State.freeSlots s x1) ∧ Same.path s (State.freeSlots s x1) ∧ (State.freeSlots s x1).out = s.out ∧ (State.freeSlots s x1).regs = s.regs ∧ (State.freeSlots s x1).ctrs = s.ctrs ∧ (State.freeSlots s x1).log = s.log ∧ (State.freeSlots s x1).pair = s.pair ∧ (State.freeSlots s x1).vlt = s.vlt ∧ (State.freeSlots s x1).net = s.net ∧ (State.freeSlots s x1).cxl = s.cxl := by
  intro s x1
  refine And.imp Same.quiet_of (And.imp Same.store_of (And.imp Same.ctl_of (And.imp Same.path_of id))) ?_
  unfold State.freeSlots
  try dsimp only
  (repeat' split) <;> simp

@[simp] theorem State.placeFrame_frame : ∀ s x1 x2, Same.quiet s (State.placeFrame s x1 x2) ∧ Same.store s (State.placeFrame s x1 x2) ∧ (State.placeFrame s x1 x2).pwr = s.pwr := by
  intro s x1 x2
  refine And.imp Same.quiet_of (And.imp Same.store_of id) ?_
  unfold State.placeFrame
  try dsimp only
  (repeat' split) <;> simp

@[simp] theorem State.queueEvent_frame : ∀ s x1, Same.quiet s (State.queueEvent s x1) ∧ Same.store s (State.queueEvent s x1) ∧ Same.path s (State.queueEvent s x1) ∧ Same.links s (State.queueEvent s x1) ∧ (State.queueEvent s x1).out = s.out ∧ (State.queueEvent s x1).regs = s.regs ∧ (State.queueEvent s x1).mode = s.mode ∧ (State.queueEvent s x1).pwr = s.pwr ∧ (State.queueEvent s x1).cmd = s.cmd := by
  intro s x1
  refine And.imp Same.quiet_of (And.imp Same.store_of (And.imp Same.path_of (And.imp Same.links_of id))) ?_
  unfold State.queueEvent
  try dsimp only
  (repeat' split) <;> simp

@[simp] theorem State.flsBusy_frame : ∀ s, Same.quiet s (State.flsBusy s) ∧ Same.ctl s (State.flsBusy s) ∧ Same.path s (State.flsBusy s) ∧ Same.links s (State.flsBusy s) ∧ (State.flsBusy s).out = s.out ∧ (State.flsBusy s).fresh = s.fresh ∧ (State.flsBusy s).regs = s.regs ∧ (State.flsBusy s).ctrs = s.ctrs ∧ (State.flsBusy s).log = s.log ∧ (State.flsBusy s).sht = s.sht ∧ (State.flsBusy s).mem = s.mem := by
  intro s
  refine And.imp Same.quiet_of (And.imp Same.ctl_of (And.imp Same.path_of (And.imp Same.links_of id))) ?_
  unfold State.flsBusy
  try dsimp only
  (repeat' split) <;> simp

@[simp] theorem State.flsResult_frame : ∀ s x1, Same.quiet s (State.flsResult s x1) ∧ Same.ctl s (State.flsResult s x1) ∧ Same.path s (State.flsResult s x1) ∧ Same.links s (State.flsResult s x1) ∧ (State.flsResult s x1).out = s.out ∧ (State.flsResult s x1).fresh = s.fresh ∧ (State.flsResult s x1).regs = s.regs ∧ (State.flsResult s x1).ctrs = s.ctrs ∧ (State.flsResult s x1).log = s.log ∧ (State.flsResult s x1).sht = s.sht ∧ (State.flsResult s x1).mem = s.mem := by
  intro s x1
  refine And.imp Same.quiet_of (And.imp Same.ctl_of (And.imp Same.path_of (And.imp Same.links_of id))) ?_
  unfold State.flsResult
  try dsimp only
  (repeat' split) <;> simp

@[simp] theorem State.flsIssue_frame : ∀ s x1, Same.quiet s (State.flsIssue s x1) ∧ Same.ctl s (State.flsIssue s x1) ∧ Same.path s (State.flsIssue s x1) ∧ Same.links s (State.flsIssue s x1) ∧ (State.flsIssue s x1).out = s.out ∧ (State.flsIssue s x1).fresh = s.fresh ∧ (State.flsIssue s x1).regs = s.regs ∧ (State.flsIssue s x1).ctrs = s.ctrs ∧ (State.flsIssue s x1).log = s.log ∧ (State.flsIssue s x1).sht = s.sht ∧ (State.flsIssue s x1).mem = s.mem := by
  intro s x1
  refine And.imp Same.quiet_of (And.imp Same.ctl_of (And.imp Same.path_of (And.imp Same.links_of id))) ?_
  unfold State.flsIssue
  try dsimp only
  (repeat' split) <;> simp

@[simp] theorem State.tempReading_frame : ∀ s x1 x2, Same.quiet s (State.tempReading s x1 x2) ∧ Same.store s (State.tempReading s x1 x2) ∧ Same.links s (State.tempReading s x1 x2) ∧ (State.tempReading s x1 x2).out = s.out ∧ (State.tempReading s x1 x2).regs = s.regs ∧ (State.tempReading s x1 x2).ctrs = s.ctrs ∧ (State.tempReading s x1 x2).mode = s.mode ∧ (State.tempReading s x1 x2).pwr = s.pwr ∧ (State.tempReading s x1 x2).log = s.log ∧ (State.tempReading s x1 x2).addr = s.addr ∧ (State.tempReading s x1 x2).trk = s.trk ∧ (State.tempReading s x1 x2).tier = s.tier ∧ (State.tempReading s x1 x2).lc = s.lc ∧ (State.tempReading s x1 x2).ec = s.ec ∧ (State.tempReading s x1 x2).cmd = s.cmd := by
  intro s x1 x2
  refine And.imp Same.quiet_of (And.imp Same.store_of (And.imp Same.links_of id)) ?_
  unfold State.tempReading
  try dsimp only
  (repeat' split) <;> simp

@[simp] theorem State.sendRej_frame : ∀ s x1 x2, Same.quiet s (State.sendRej s x1 x2) ∧ Same.ctl s (State.sendRej s x1 x2) ∧ Same.path s (State.sendRej s x1 x2) ∧ (State.sendRej s x1 x2).regs = s.regs ∧ (State.sendRej s x1 x2).log = s.log ∧ (State.sendRej s x1 x2).sht = s.sht ∧ (State.sendRej s x1 x2).twl = s.twl ∧ (State.sendRej s x1 x2).pair = s.pair ∧ (State.sendRej s x1 x2).mem = s.mem ∧ (State.sendRej s x1 x2).vlt = s.vlt ∧ (State.sendRej s x1 x2).cxl = s.cxl ∧ (State.sendRej s x1 x2).fls = s.fls := by
  intro s x1 x2
  refine And.imp Same.quiet_of (And.imp Same.ctl_of (And.imp Same.path_of id)) ?_
  unfold State.sendRej
  try dsimp only
  (repeat' split) <;> simp

@[simp] theorem State.grantN_frame : ∀ x0 s x2, Same.quiet s (State.grantN x0 s x2).1 ∧ Same.store s (State.grantN x0 s x2).1 ∧ Same.ctl s (State.grantN x0 s x2).1 ∧ (State.grantN x0 s x2).1.ctrs = s.ctrs ∧ (State.grantN x0 s x2).1.log = s.log ∧ (State.grantN x0 s x2).1.addr = s.addr ∧ (State.grantN x0 s x2).1.twl = s.twl ∧ (State.grantN x0 s x2).1.pair = s.pair ∧ (State.grantN x0 s x2).1.tier = s.tier ∧ (State.grantN x0 s x2).1.lc = s.lc ∧ (State.grantN x0 s x2).1.ch = s.ch ∧ (State.grantN x0 s x2).1.ec = s.ec ∧ (State.grantN x0 s x2).1.vlt = s.vlt ∧ (State.grantN x0 s x2).1.net = s.net := by
  intro x0 s x2
  refine And.imp Same.quiet_of (And.imp Same.store_of (And.imp Same.ctl_of id)) ?_
  revert x0 s x2
  intro x0 s x2
  induction x0 generalizing s x2 with
  | zero => simp [State.grantN]
  | succ k ih =>
    unfold State.grantN
    try dsimp only
    (repeat' split) <;> simp [ih]

@[simp] theorem State.grantWaiting_frame : ∀ s, Same.quiet s (State.grantWaiting s).1 ∧ Same.store s (State.grantWaiting s).1 ∧ Same.ctl s (State.grantWaiting s).1 ∧ (State.grantWaiting s).1.ctrs = s.ctrs ∧ (State.grantWaiting s).1.log = s.log ∧ (State.grantWaiting s).1.addr = s.addr ∧ (State.grantWaiting s).1.twl = s.twl ∧ (State.grantWaiting s).1.pair = s.pair ∧ (State.grantWaiting s).1.tier = s.tier ∧ (State.grantWaiting s).1.lc = s.lc ∧ (State.grantWaiting s).1.ch = s.ch ∧ (State.grantWaiting s).1.ec = s.ec ∧ (State.grantWaiting s).1.vlt = s.vlt ∧ (State.grantWaiting s).1.net = s.net := by
  intro s
  refine And.imp Same.quiet_of (And.imp Same.store_of (And.imp Same.ctl_of id)) ?_
  unfold State.grantWaiting
  try dsimp only
  (repeat' split) <;> simp

@[simp] theorem State.entryFreed_frame : ∀ s x1, Same.quiet s (State.entryFreed s x1) ∧ Same.store s (State.entryFreed s x1) ∧ (State.entryFreed s x1).mode = s.mode ∧ (State.entryFreed s x1).pwr = s.pwr := by
  intro s x1
  refine And.imp Same.quiet_of (And.imp Same.store_of id) ?_
  unfold State.entryFreed
  try dsimp only
  (repeat' split) <;> simp

@[simp] theorem State.shtReject_frame : ∀ s x1, Same.quiet s (State.shtReject s x1) ∧ Same.ctl s (State.shtReject s x1) ∧ Same.path s (State.shtReject s x1) ∧ Same.links s (State.shtReject s x1) ∧ (State.shtReject s x1).out = s.out ∧ (State.shtReject s x1).fresh = s.fresh ∧ (State.shtReject s x1).regs = s.regs ∧ (State.shtReject s x1).log = s.log ∧ (State.shtReject s x1).mem = s.mem ∧ (State.shtReject s x1).fls = s.fls := by
  intro s x1
  refine And.imp Same.quiet_of (And.imp Same.ctl_of (And.imp Same.path_of (And.imp Same.links_of id))) ?_
  unfold State.shtReject
  try dsimp only
  (repeat' split) <;> simp

@[simp] theorem State.enforce_frame : ∀ s x1 x2, Same.quiet s (State.enforce s x1 x2) ∧ Same.store s (State.enforce s x1 x2) ∧ Same.ctl s (State.enforce s x1 x2) ∧ Same.path s (State.enforce s x1 x2) ∧ Same.links s (State.enforce s x1 x2) ∧ (State.enforce s x1 x2).out = s.out ∧ (State.enforce s x1 x2).ctrs = s.ctrs ∧ (State.enforce s x1 x2).log = s.log := by
  intro s x1 x2
  refine And.imp Same.quiet_of (And.imp Same.store_of (And.imp Same.ctl_of (And.imp Same.path_of (And.imp Same.links_of id)))) ?_
  unfold State.enforce
  try dsimp only
  (repeat' split) <;> simp

@[simp] theorem State.shtApplied_frame : ∀ s, Same.quiet s (State.shtApplied s) ∧ Same.ctl s (State.shtApplied s) ∧ Same.path s (State.shtApplied s) ∧ Same.links s (State.shtApplied s) ∧ (State.shtApplied s).out = s.out ∧ (State.shtApplied s).fresh = s.fresh ∧ (State.shtApplied s).regs = s.regs ∧ (State.shtApplied s).log = s.log ∧ (State.shtApplied s).mem = s.mem ∧ (State.shtApplied s).fls = s.fls := by
  intro s
  refine And.imp Same.quiet_of (And.imp Same.ctl_of (And.imp Same.path_of (And.imp Same.links_of id))) ?_
  unfold State.shtApplied
  try dsimp only
  (repeat' split) <;> simp

@[simp] theorem State.toFrame_frame : ∀ s x1, Same.quiet s (State.toFrame s x1) ∧ (State.toFrame s x1).fresh = s.fresh ∧ (State.toFrame s x1).pwr = s.pwr ∧ (State.toFrame s x1).mem = s.mem := by
  intro s x1
  refine And.imp Same.quiet_of id ?_
  unfold State.toFrame
  repeat' split
  all_goals try (rename_i hh; have hh' := congrArg Prod.fst hh; dsimp only at hh'; subst hh')
  all_goals try (rename_i hh; have hh' := congrArg Prod.snd hh; dsimp only at hh'; subst hh')
  all_goals simp

@[simp] theorem State.rewind_frame : ∀ s x1, Same.quiet s (State.rewind s x1).1 ∧ (State.rewind s x1).1.fresh = s.fresh ∧ (State.rewind s x1).1.pwr = s.pwr ∧ (State.rewind s x1).1.mem = s.mem := by
  intro s x1
  refine And.imp Same.quiet_of id ?_
  unfold State.rewind
  try dsimp only
  (repeat' split) <;> simp

@[simp] theorem State.connSetupRx_frame : ∀ s x1 x2, Same.quiet s (State.connSetupRx s x1 x2) ∧ Same.ctl s (State.connSetupRx s x1 x2) ∧ Same.path s (State.connSetupRx s x1 x2) ∧ (State.connSetupRx s x1 x2).regs = s.regs ∧ (State.connSetupRx s x1 x2).log = s.log ∧ (State.connSetupRx s x1 x2).sht = s.sht ∧ (State.connSetupRx s x1 x2).pair = s.pair ∧ (State.connSetupRx s x1 x2).mem = s.mem ∧ (State.connSetupRx s x1 x2).vlt = s.vlt ∧ (State.connSetupRx s x1 x2).cxl = s.cxl ∧ (State.connSetupRx s x1 x2).fls = s.fls := by
  intro s x1 x2
  refine And.imp Same.quiet_of (And.imp Same.ctl_of (And.imp Same.path_of id)) ?_
  unfold State.connSetupRx
  try dsimp only
  (repeat' split) <;> simp

@[simp] theorem State.startRetire_frame : ∀ s x1 x2, Same.quiet s (State.startRetire s x1 x2) ∧ Same.store s (State.startRetire s x1 x2) ∧ Same.ctl s (State.startRetire s x1 x2) ∧ Same.path s (State.startRetire s x1 x2) ∧ (State.startRetire s x1 x2).regs = s.regs ∧ (State.startRetire s x1 x2).ctrs = s.ctrs ∧ (State.startRetire s x1 x2).log = s.log ∧ (State.startRetire s x1 x2).pair = s.pair ∧ (State.startRetire s x1 x2).vlt = s.vlt ∧ (State.startRetire s x1 x2).net = s.net ∧ (State.startRetire s x1 x2).cxl = s.cxl := by
  intro s x1 x2
  refine And.imp Same.quiet_of (And.imp Same.store_of (And.imp Same.ctl_of (And.imp Same.path_of id))) ?_
  unfold State.startRetire
  try dsimp only
  (repeat' split) <;> simp

@[simp] theorem State.afterRetire_frame : ∀ s x1, Same.quiet s (State.afterRetire s x1) ∧ Same.store s (State.afterRetire s x1) ∧ Same.ctl s (State.afterRetire s x1) ∧ Same.path s (State.afterRetire s x1) ∧ (State.afterRetire s x1).regs = s.regs ∧ (State.afterRetire s x1).ctrs = s.ctrs ∧ (State.afterRetire s x1).log = s.log ∧ (State.afterRetire s x1).pair = s.pair ∧ (State.afterRetire s x1).vlt = s.vlt ∧ (State.afterRetire s x1).net = s.net ∧ (State.afterRetire s x1).cxl = s.cxl := by
  intro s x1
  refine And.imp Same.quiet_of (And.imp Same.store_of (And.imp Same.ctl_of (And.imp Same.path_of id))) ?_
  unfold State.afterRetire
  try dsimp only
  (repeat' split) <;> simp

@[simp] theorem State.repairDropped_frame : ∀ s x1, Same.quiet s (State.repairDropped s x1) ∧ Same.store s (State.repairDropped s x1) ∧ Same.ctl s (State.repairDropped s x1) ∧ Same.path s (State.repairDropped s x1) ∧ Same.links s (State.repairDropped s x1) ∧ (State.repairDropped s x1).out = s.out ∧ (State.repairDropped s x1).regs = s.regs := by
  intro s x1
  refine And.imp Same.quiet_of (And.imp Same.store_of (And.imp Same.ctl_of (And.imp Same.path_of (And.imp Same.links_of id)))) ?_
  unfold State.repairDropped
  try dsimp only
  (repeat' split) <;> simp

@[simp] theorem State.loadMark_frame : ∀ s x1, Same.quiet s (State.loadMark s x1) ∧ Same.store s (State.loadMark s x1) ∧ Same.ctl s (State.loadMark s x1) ∧ Same.links s (State.loadMark s x1) ∧ (State.loadMark s x1).out = s.out ∧ (State.loadMark s x1).regs = s.regs ∧ (State.loadMark s x1).addr = s.addr ∧ (State.loadMark s x1).trk = s.trk ∧ (State.loadMark s x1).tier = s.tier ∧ (State.loadMark s x1).lc = s.lc ∧ (State.loadMark s x1).ch = s.ch := by
  intro s x1
  refine And.imp Same.quiet_of (And.imp Same.store_of (And.imp Same.ctl_of (And.imp Same.links_of id))) ?_
  unfold State.loadMark
  try dsimp only
  (repeat' split) <;> simp

@[simp] theorem State.loadRemap_frame : ∀ s x1, Same.quiet s (State.loadRemap s x1) ∧ Same.store s (State.loadRemap s x1) ∧ Same.ctl s (State.loadRemap s x1) ∧ Same.links s (State.loadRemap s x1) ∧ (State.loadRemap s x1).out = s.out ∧ (State.loadRemap s x1).regs = s.regs ∧ (State.loadRemap s x1).addr = s.addr ∧ (State.loadRemap s x1).trk = s.trk ∧ (State.loadRemap s x1).tier = s.tier ∧ (State.loadRemap s x1).lc = s.lc ∧ (State.loadRemap s x1).ch = s.ch := by
  intro s x1
  refine And.imp Same.quiet_of (And.imp Same.store_of (And.imp Same.ctl_of (And.imp Same.links_of id))) ?_
  unfold State.loadRemap
  try dsimp only
  (repeat' split) <;> simp

@[simp] theorem State.loadRow_frame : ∀ s x1, Same.quiet s (State.loadRow s x1) ∧ Same.store s (State.loadRow s x1) ∧ Same.ctl s (State.loadRow s x1) ∧ Same.links s (State.loadRow s x1) ∧ (State.loadRow s x1).out = s.out ∧ (State.loadRow s x1).regs = s.regs ∧ (State.loadRow s x1).addr = s.addr ∧ (State.loadRow s x1).trk = s.trk ∧ (State.loadRow s x1).tier = s.tier ∧ (State.loadRow s x1).lc = s.lc ∧ (State.loadRow s x1).ch = s.ch := by
  intro s x1
  refine And.imp Same.quiet_of (And.imp Same.store_of (And.imp Same.ctl_of (And.imp Same.links_of id))) ?_
  unfold State.loadRow
  try dsimp only
  (repeat' split) <;> simp

@[simp] theorem State.loadRepair_frame : ∀ s, Same.quiet s (State.loadRepair s) ∧ Same.store s (State.loadRepair s) ∧ Same.ctl s (State.loadRepair s) ∧ Same.links s (State.loadRepair s) ∧ (State.loadRepair s).out = s.out ∧ (State.loadRepair s).regs = s.regs ∧ (State.loadRepair s).addr = s.addr ∧ (State.loadRepair s).trk = s.trk ∧ (State.loadRepair s).tier = s.tier ∧ (State.loadRepair s).lc = s.lc ∧ (State.loadRepair s).ch = s.ch := by
  intro s
  refine And.imp Same.quiet_of (And.imp Same.store_of (And.imp Same.ctl_of (And.imp Same.links_of id))) ?_
  unfold State.loadRepair
  try dsimp only
  (repeat' split) <;> simp

@[simp] theorem State.placeAll_frame : ∀ s, Same.quiet s (State.placeAll s) ∧ Same.store s (State.placeAll s) ∧ Same.ctl s (State.placeAll s) ∧ Same.links s (State.placeAll s) ∧ (State.placeAll s).out = s.out ∧ (State.placeAll s).regs = s.regs ∧ (State.placeAll s).ctrs = s.ctrs ∧ (State.placeAll s).log = s.log ∧ (State.placeAll s).addr = s.addr ∧ (State.placeAll s).trk = s.trk ∧ (State.placeAll s).lc = s.lc ∧ (State.placeAll s).ch = s.ch ∧ (State.placeAll s).ec = s.ec := by
  intro s
  refine And.imp Same.quiet_of (And.imp Same.store_of (And.imp Same.ctl_of (And.imp Same.links_of id))) ?_
  unfold State.placeAll
  try dsimp only
  (repeat' split) <;> simp

@[simp] theorem State.rebuildTransient_frame : ∀ s, Same.quiet s (State.rebuildTransient s) ∧ Same.store s (State.rebuildTransient s) ∧ Same.path s (State.rebuildTransient s) ∧ Same.links s (State.rebuildTransient s) ∧ (State.rebuildTransient s).out = s.out ∧ (State.rebuildTransient s).regs = s.regs ∧ (State.rebuildTransient s).ctrs = s.ctrs ∧ (State.rebuildTransient s).mode = s.mode ∧ (State.rebuildTransient s).pwr = s.pwr ∧ (State.rebuildTransient s).log = s.log ∧ (State.rebuildTransient s).cmd = s.cmd := by
  intro s
  refine And.imp Same.quiet_of (And.imp Same.store_of (And.imp Same.path_of (And.imp Same.links_of id))) ?_
  unfold State.rebuildTransient
  try dsimp only
  (repeat' split) <;> simp

@[simp] theorem State.trainLinks_frame : ∀ s, Same.quiet s (State.trainLinks s) ∧ Same.store s (State.trainLinks s) ∧ Same.ctl s (State.trainLinks s) ∧ Same.path s (State.trainLinks s) ∧ (State.trainLinks s).out = s.out ∧ (State.trainLinks s).regs = s.regs ∧ (State.trainLinks s).ctrs = s.ctrs ∧ (State.trainLinks s).log = s.log ∧ (State.trainLinks s).twl = s.twl ∧ (State.trainLinks s).pair = s.pair ∧ (State.trainLinks s).vlt = s.vlt ∧ (State.trainLinks s).net = s.net := by
  intro s
  refine And.imp Same.quiet_of (And.imp Same.store_of (And.imp Same.ctl_of (And.imp Same.path_of id))) ?_
  unfold State.trainLinks
  try dsimp only
  (repeat' split) <;> simp

@[simp] theorem State.beginRestore_frame : ∀ s, Same.quiet s (State.beginRestore s) ∧ Same.store s (State.beginRestore s) ∧ (State.beginRestore s).pwr = s.pwr := by
  intro s
  refine And.imp Same.quiet_of (And.imp Same.store_of id) ?_
  unfold State.beginRestore
  try dsimp only
  (repeat' split) <;> simp

@[simp] theorem State.formRefused_frame : ∀ s x1, Same.quiet s (State.formRefused s x1).1 ∧ Same.store s (State.formRefused s x1).1 ∧ Same.ctl s (State.formRefused s x1).1 ∧ Same.path s (State.formRefused s x1).1 ∧ Same.links s (State.formRefused s x1).1 ∧ (State.formRefused s x1).1.out = s.out ∧ (State.formRefused s x1).1.regs = s.regs := by
  intro s x1
  refine And.imp Same.quiet_of (And.imp Same.store_of (And.imp Same.ctl_of (And.imp Same.path_of (And.imp Same.links_of id)))) ?_
  unfold State.formRefused
  try dsimp only
  (repeat' split) <;> simp

@[simp] theorem State.openSlot_frame : ∀ s x1 x2, Same.quiet s (State.openSlot s x1 x2) ∧ Same.store s (State.openSlot s x1 x2) := by
  intro s x1 x2
  refine And.imp Same.quiet_of Same.store_of ?_
  unfold State.openSlot
  try dsimp only
  (repeat' split) <;> simp

@[simp] theorem State.handle_frame : ∀ s x1, Same.quiet s (State.handle s x1) ∧ Same.store s (State.handle s x1) := by
  intro s x1
  refine And.imp Same.quiet_of Same.store_of ?_
  unfold State.handle
  try dsimp only
  (repeat' split) <;> simp

@[simp] theorem State.putRecLine_frame : ∀ x0 s x2, Same.quiet s (State.putRecLine x0 s x2) ∧ Same.ctl s (State.putRecLine x0 s x2) ∧ Same.path s (State.putRecLine x0 s x2) ∧ Same.links s (State.putRecLine x0 s x2) ∧ (State.putRecLine x0 s x2).out = s.out ∧ (State.putRecLine x0 s x2).fresh = s.fresh ∧ (State.putRecLine x0 s x2).regs = s.regs ∧ (State.putRecLine x0 s x2).ctrs = s.ctrs ∧ (State.putRecLine x0 s x2).log = s.log ∧ (State.putRecLine x0 s x2).sht = s.sht ∧ (State.putRecLine x0 s x2).fls = s.fls := by
  intro x0 s x2
  refine And.imp Same.quiet_of (And.imp Same.ctl_of (And.imp Same.path_of (And.imp Same.links_of id))) ?_
  unfold State.putRecLine
  try dsimp only
  (repeat' split) <;> simp

@[simp] theorem State.putRecord_frame : ∀ s x1, Same.quiet s (State.putRecord s x1) ∧ Same.ctl s (State.putRecord s x1) ∧ Same.path s (State.putRecord s x1) ∧ Same.links s (State.putRecord s x1) ∧ (State.putRecord s x1).out = s.out ∧ (State.putRecord s x1).fresh = s.fresh ∧ (State.putRecord s x1).regs = s.regs ∧ (State.putRecord s x1).ctrs = s.ctrs ∧ (State.putRecord s x1).log = s.log ∧ (State.putRecord s x1).sht = s.sht ∧ (State.putRecord s x1).fls = s.fls := by
  intro s x1
  refine And.imp Same.quiet_of (And.imp Same.ctl_of (And.imp Same.path_of (And.imp Same.links_of id))) ?_
  unfold State.putRecord
  try dsimp only
  (repeat' split) <;> simp

@[simp] theorem State.scanLine_frame : ∀ s x1, Same.quiet s (State.scanLine s x1).1 ∧ Same.store s (State.scanLine s x1).1 ∧ (State.scanLine s x1).1.mode = s.mode ∧ (State.scanLine s x1).1.pwr = s.pwr ∧ (State.scanLine s x1).1.cmd = s.cmd := by
  intro s x1
  refine And.imp Same.quiet_of (And.imp Same.store_of id) ?_
  unfold State.scanLine
  try dsimp only
  (repeat' split) <;> simp

@[simp] theorem State.writeLeaf_frame : ∀ s x1 x2, Same.quiet s (State.writeLeaf s x1 x2) ∧ Same.store s (State.writeLeaf s x1 x2) ∧ Same.ctl s (State.writeLeaf s x1 x2) ∧ Same.path s (State.writeLeaf s x1 x2) ∧ (State.writeLeaf s x1 x2).regs = s.regs ∧ (State.writeLeaf s x1 x2).ctrs = s.ctrs ∧ (State.writeLeaf s x1 x2).log = s.log ∧ (State.writeLeaf s x1 x2).twl = s.twl ∧ (State.writeLeaf s x1 x2).pair = s.pair ∧ (State.writeLeaf s x1 x2).net = s.net ∧ (State.writeLeaf s x1 x2).cxl = s.cxl := by
  intro s x1 x2
  refine And.imp Same.quiet_of (And.imp Same.store_of (And.imp Same.ctl_of (And.imp Same.path_of id))) ?_
  unfold State.writeLeaf
  try dsimp only
  (repeat' split) <;> simp

@[simp] theorem State.cancelJobs_frame : ∀ s x1, Same.quiet s (State.cancelJobs s x1) ∧ Same.store s (State.cancelJobs s x1) ∧ Same.path s (State.cancelJobs s x1) ∧ (State.cancelJobs s x1).out = s.out ∧ (State.cancelJobs s x1).regs = s.regs ∧ (State.cancelJobs s x1).mode = s.mode ∧ (State.cancelJobs s x1).pwr = s.pwr ∧ (State.cancelJobs s x1).twl = s.twl ∧ (State.cancelJobs s x1).vlt = s.vlt ∧ (State.cancelJobs s x1).net = s.net ∧ (State.cancelJobs s x1).cxl = s.cxl ∧ (State.cancelJobs s x1).flt = s.flt := by
  intro s x1
  refine And.imp Same.quiet_of (And.imp Same.store_of (And.imp Same.path_of id)) ?_
  unfold State.cancelJobs
  try dsimp only
  simp (disch := (intros; (repeat' split) <;> (try simp)))

@[simp] theorem State.schedLoad_frame : ∀ s x1 x2, Same.quiet s (State.schedLoad s x1 x2).1 ∧ Same.store s (State.schedLoad s x1 x2).1 ∧ Same.ctl s (State.schedLoad s x1 x2).1 ∧ Same.links s (State.schedLoad s x1 x2).1 ∧ (State.schedLoad s x1 x2).1.out = s.out ∧ (State.schedLoad s x1 x2).1.regs = s.regs ∧ (State.schedLoad s x1 x2).1.ctrs = s.ctrs ∧ (State.schedLoad s x1 x2).1.log = s.log ∧ (State.schedLoad s x1 x2).1.addr = s.addr ∧ (State.schedLoad s x1 x2).1.trk = s.trk ∧ (State.schedLoad s x1 x2).1.lc = s.lc ∧ (State.schedLoad s x1 x2).1.ch = s.ch ∧ (State.schedLoad s x1 x2).1.ec = s.ec := by
  intro s x1 x2
  refine And.imp Same.quiet_of (And.imp Same.store_of (And.imp Same.ctl_of (And.imp Same.links_of id))) ?_
  unfold State.schedLoad
  try dsimp only
  (repeat' split) <;> simp

@[simp] theorem State.keyRevoke_frame : ∀ s x1 x2 x3, Same.quiet s (State.keyRevoke s x1 x2 x3).1 ∧ Same.store s (State.keyRevoke s x1 x2 x3).1 ∧ Same.ctl s (State.keyRevoke s x1 x2 x3).1 ∧ Same.path s (State.keyRevoke s x1 x2 x3).1 ∧ (State.keyRevoke s x1 x2 x3).1.out = s.out ∧ (State.keyRevoke s x1 x2 x3).1.regs = s.regs ∧ (State.keyRevoke s x1 x2 x3).1.ctrs = s.ctrs ∧ (State.keyRevoke s x1 x2 x3).1.log = s.log ∧ (State.keyRevoke s x1 x2 x3).1.twl = s.twl ∧ (State.keyRevoke s x1 x2 x3).1.pair = s.pair ∧ (State.keyRevoke s x1 x2 x3).1.cxl = s.cxl := by
  intro s x1 x2 x3
  refine And.imp Same.quiet_of (And.imp Same.store_of (And.imp Same.ctl_of (And.imp Same.path_of id))) ?_
  unfold State.keyRevoke
  try dsimp only
  (repeat' split) <;> simp

@[simp] theorem State.writeSuper_frame : ∀ s x1, Same.quiet s (State.writeSuper s x1) ∧ Same.store s (State.writeSuper s x1) ∧ Same.ctl s (State.writeSuper s x1) ∧ Same.path s (State.writeSuper s x1) ∧ (State.writeSuper s x1).out = s.out ∧ (State.writeSuper s x1).regs = s.regs ∧ (State.writeSuper s x1).ctrs = s.ctrs ∧ (State.writeSuper s x1).log = s.log ∧ (State.writeSuper s x1).twl = s.twl ∧ (State.writeSuper s x1).pair = s.pair ∧ (State.writeSuper s x1).net = s.net ∧ (State.writeSuper s x1).cxl = s.cxl := by
  intro s x1
  refine And.imp Same.quiet_of (And.imp Same.store_of (And.imp Same.ctl_of (And.imp Same.path_of id))) ?_
  unfold State.writeSuper
  try dsimp only
  (repeat' split) <;> simp

@[simp] theorem State.bringupFail_frame : ∀ s, Same.quiet s (State.bringupFail s) ∧ Same.path s (State.bringupFail s) ∧ (State.bringupFail s).out = s.out ∧ (State.bringupFail s).fresh = s.fresh ∧ (State.bringupFail s).regs = s.regs ∧ (State.bringupFail s).twl = s.twl ∧ (State.bringupFail s).pair = s.pair ∧ (State.bringupFail s).mem = s.mem ∧ (State.bringupFail s).vlt = s.vlt ∧ (State.bringupFail s).net = s.net ∧ (State.bringupFail s).flt = s.flt ∧ (State.bringupFail s).cmd = s.cmd := by
  intro s
  refine And.imp Same.quiet_of (And.imp Same.path_of id) ?_
  unfold State.bringupFail
  try dsimp only
  (repeat' split) <;> simp

@[simp] theorem State.rangeShort_frame : ∀ s, Same.quiet s (State.rangeShort s) ∧ Same.path s (State.rangeShort s) ∧ (State.rangeShort s).out = s.out ∧ (State.rangeShort s).fresh = s.fresh ∧ (State.rangeShort s).regs = s.regs ∧ (State.rangeShort s).twl = s.twl ∧ (State.rangeShort s).pair = s.pair ∧ (State.rangeShort s).mem = s.mem ∧ (State.rangeShort s).vlt = s.vlt ∧ (State.rangeShort s).net = s.net ∧ (State.rangeShort s).flt = s.flt ∧ (State.rangeShort s).cmd = s.cmd := by
  intro s
  refine And.imp Same.quiet_of (And.imp Same.path_of id) ?_
  unfold State.rangeShort
  try dsimp only
  (repeat' split) <;> simp

@[simp] theorem State.checkRestore_frame : ∀ s, Same.quiet s (State.checkRestore s) ∧ (State.checkRestore s).fresh = s.fresh ∧ (State.checkRestore s).mem = s.mem := by
  intro s
  refine And.imp Same.quiet_of id ?_
  unfold State.checkRestore
  try dsimp only
  (repeat' split) <;> simp

@[simp] theorem State.twinDeparts_frame : ∀ s, Same.quiet s (State.twinDeparts s) ∧ Same.store s (State.twinDeparts s) ∧ (State.twinDeparts s).pwr = s.pwr := by
  intro s
  refine And.imp Same.quiet_of (And.imp Same.store_of id) ?_
  unfold State.twinDeparts
  try dsimp only
  (repeat' split) <;> simp

@[simp] theorem State.opLine_frame : ∀ s x1 x2, Same.quiet s (State.opLine s x1 x2).1 ∧ Same.store s (State.opLine s x1 x2).1 ∧ Same.ctl s (State.opLine s x1 x2).1 ∧ Same.links s (State.opLine s x1 x2).1 ∧ (State.opLine s x1 x2).1.out = s.out ∧ (State.opLine s x1 x2).1.regs = s.regs ∧ (State.opLine s x1 x2).1.log = s.log ∧ (State.opLine s x1 x2).1.addr = s.addr ∧ (State.opLine s x1 x2).1.trk = s.trk ∧ (State.opLine s x1 x2).1.tier = s.tier := by
  intro s x1 x2
  refine And.imp Same.quiet_of (And.imp Same.store_of (And.imp Same.ctl_of (And.imp Same.links_of id))) ?_
  unfold State.opLine
  try dsimp only
  (repeat' split) <;> simp

@[simp] theorem State.opAct_frame : ∀ s x1 x2, Same.quiet s (State.opAct s x1 x2).1 ∧ Same.store s (State.opAct s x1 x2).1 ∧ Same.ctl s (State.opAct s x1 x2).1 := by
  intro s x1 x2
  refine And.imp Same.quiet_of (And.imp Same.store_of Same.ctl_of) ?_
  revert s x1 x2
  intro s o p
  unfold State.opAct
  split
  · simp
  · extract_lets ls
    split
    rename_i hh
    have hh' := congrArg Prod.fst hh
    dsimp only at hh'
    subst hh'
    split <;> simp

@[simp] theorem State.opBegin_frame : ∀ s x1, Same.quiet s (State.opBegin s x1) ∧ Same.store s (State.opBegin s x1) ∧ Same.ctl s (State.opBegin s x1) := by
  intro s x1
  refine And.imp Same.quiet_of (And.imp Same.store_of Same.ctl_of) ?_
  unfold State.opBegin
  try dsimp only
  (repeat' split) <;> simp

@[simp] theorem State.opRes_frame : ∀ s x1, Same.quiet s (State.opRes s x1) ∧ Same.store s (State.opRes s x1) ∧ Same.ctl s (State.opRes s x1) ∧ Same.links s (State.opRes s x1) ∧ (State.opRes s x1).out = s.out ∧ (State.opRes s x1).regs = s.regs ∧ (State.opRes s x1).ctrs = s.ctrs ∧ (State.opRes s x1).log = s.log ∧ (State.opRes s x1).addr = s.addr ∧ (State.opRes s x1).trk = s.trk ∧ (State.opRes s x1).tier = s.tier ∧ (State.opRes s x1).ch = s.ch ∧ (State.opRes s x1).ec = s.ec := by
  intro s x1
  refine And.imp Same.quiet_of (And.imp Same.store_of (And.imp Same.ctl_of (And.imp Same.links_of id))) ?_
  unfold State.opRes
  try dsimp only
  (repeat' split) <;> simp

@[simp] theorem State.lcOp_frame : ∀ s x1 x2 x3, Same.quiet s (State.lcOp s x1 x2 x3) ∧ Same.store s (State.lcOp s x1 x2 x3) ∧ Same.ctl s (State.lcOp s x1 x2 x3) := by
  intro s x1 x2 x3
  refine And.imp Same.quiet_of (And.imp Same.store_of Same.ctl_of) ?_
  unfold State.lcOp
  try dsimp only
  (repeat' split) <;> simp

@[simp] theorem State.epochExit_frame : ∀ s x1, Same.quiet s (State.epochExit s x1) ∧ Same.store s (State.epochExit s x1) ∧ Same.ctl s (State.epochExit s x1) ∧ Same.path s (State.epochExit s x1) ∧ (State.epochExit s x1).out = s.out ∧ (State.epochExit s x1).regs = s.regs ∧ (State.epochExit s x1).ctrs = s.ctrs ∧ (State.epochExit s x1).log = s.log ∧ (State.epochExit s x1).twl = s.twl ∧ (State.epochExit s x1).pair = s.pair ∧ (State.epochExit s x1).vlt = s.vlt ∧ (State.epochExit s x1).cxl = s.cxl := by
  intro s x1
  refine And.imp Same.quiet_of (And.imp Same.store_of (And.imp Same.ctl_of (And.imp Same.path_of id))) ?_
  unfold State.epochExit
  try dsimp only
  (repeat' split) <;> simp

@[simp] theorem State.closeConn_frame : ∀ s x1 x2 x3 x4, Same.quiet s (State.closeConn s x1 x2 x3 x4) ∧ Same.store s (State.closeConn s x1 x2 x3 x4) ∧ Same.ctl s (State.closeConn s x1 x2 x3 x4) ∧ (State.closeConn s x1 x2 x3 x4).addr = s.addr ∧ (State.closeConn s x1 x2 x3 x4).pair = s.pair ∧ (State.closeConn s x1 x2 x3 x4).tier = s.tier ∧ (State.closeConn s x1 x2 x3 x4).lc = s.lc ∧ (State.closeConn s x1 x2 x3 x4).ch = s.ch ∧ (State.closeConn s x1 x2 x3 x4).ec = s.ec ∧ (State.closeConn s x1 x2 x3 x4).vlt = s.vlt := by
  intro s x1 x2 x3 x4
  refine And.imp Same.quiet_of (And.imp Same.store_of (And.imp Same.ctl_of id)) ?_
  unfold State.closeConn
  try dsimp only
  (repeat' split) <;> simp

@[simp] theorem State.connClose_frame : ∀ s x1, Same.quiet s (State.connClose s x1).1 ∧ Same.store s (State.connClose s x1).1 ∧ Same.ctl s (State.connClose s x1).1 ∧ (State.connClose s x1).1.addr = s.addr ∧ (State.connClose s x1).1.pair = s.pair ∧ (State.connClose s x1).1.tier = s.tier ∧ (State.connClose s x1).1.lc = s.lc ∧ (State.connClose s x1).1.ch = s.ch ∧ (State.connClose s x1).1.ec = s.ec ∧ (State.connClose s x1).1.vlt = s.vlt := by
  intro s x1
  refine And.imp Same.quiet_of (And.imp Same.store_of (And.imp Same.ctl_of id)) ?_
  unfold State.connClose
  try dsimp only
  (repeat' split) <;> simp

@[simp] theorem State.noVictim_frame : ∀ s x1, Same.quiet s (State.noVictim s x1) ∧ Same.store s (State.noVictim s x1) ∧ Same.ctl s (State.noVictim s x1) ∧ Same.links s (State.noVictim s x1) ∧ (State.noVictim s x1).out = s.out ∧ (State.noVictim s x1).regs = s.regs ∧ (State.noVictim s x1).log = s.log ∧ (State.noVictim s x1).addr = s.addr ∧ (State.noVictim s x1).trk = s.trk ∧ (State.noVictim s x1).lc = s.lc ∧ (State.noVictim s x1).ch = s.ch ∧ (State.noVictim s x1).ec = s.ec := by
  intro s x1
  refine And.imp Same.quiet_of (And.imp Same.store_of (And.imp Same.ctl_of (And.imp Same.links_of id))) ?_
  unfold State.noVictim
  try dsimp only
  (repeat' split) <;> simp

@[simp] theorem State.listenSet_frame : ∀ s x1, Same.quiet s (State.listenSet s x1).1 ∧ Same.store s (State.listenSet s x1).1 ∧ Same.ctl s (State.listenSet s x1).1 ∧ Same.path s (State.listenSet s x1).1 ∧ (State.listenSet s x1).1.out = s.out ∧ (State.listenSet s x1).1.regs = s.regs ∧ (State.listenSet s x1).1.ctrs = s.ctrs ∧ (State.listenSet s x1).1.log = s.log ∧ (State.listenSet s x1).1.twl = s.twl ∧ (State.listenSet s x1).1.pair = s.pair ∧ (State.listenSet s x1).1.cxl = s.cxl := by
  intro s x1
  refine And.imp Same.quiet_of (And.imp Same.store_of (And.imp Same.ctl_of (And.imp Same.path_of id))) ?_
  unfold State.listenSet
  try dsimp only
  (repeat' split) <;> simp

@[simp] theorem State.addrSet_frame : ∀ s x1 x2, Same.quiet s (State.addrSet s x1 x2).1 ∧ Same.store s (State.addrSet s x1 x2).1 ∧ Same.ctl s (State.addrSet s x1 x2).1 ∧ Same.path s (State.addrSet s x1 x2).1 ∧ (State.addrSet s x1 x2).1.out = s.out ∧ (State.addrSet s x1 x2).1.regs = s.regs ∧ (State.addrSet s x1 x2).1.ctrs = s.ctrs ∧ (State.addrSet s x1 x2).1.log = s.log ∧ (State.addrSet s x1 x2).1.twl = s.twl ∧ (State.addrSet s x1 x2).1.pair = s.pair ∧ (State.addrSet s x1 x2).1.cxl = s.cxl := by
  intro s x1 x2
  refine And.imp Same.quiet_of (And.imp Same.store_of (And.imp Same.ctl_of (And.imp Same.path_of id))) ?_
  unfold State.addrSet
  try dsimp only
  (repeat' split) <;> simp

@[simp] theorem State.domainRevoke_frame : ∀ s x1 x2, Same.quiet s (State.domainRevoke s x1 x2).1 ∧ Same.store s (State.domainRevoke s x1 x2).1 ∧ Same.ctl s (State.domainRevoke s x1 x2).1 ∧ Same.path s (State.domainRevoke s x1 x2).1 ∧ (State.domainRevoke s x1 x2).1.out = s.out ∧ (State.domainRevoke s x1 x2).1.regs = s.regs ∧ (State.domainRevoke s x1 x2).1.ctrs = s.ctrs ∧ (State.domainRevoke s x1 x2).1.log = s.log ∧ (State.domainRevoke s x1 x2).1.twl = s.twl ∧ (State.domainRevoke s x1 x2).1.pair = s.pair ∧ (State.domainRevoke s x1 x2).1.cxl = s.cxl := by
  intro s x1 x2
  refine And.imp Same.quiet_of (And.imp Same.store_of (And.imp Same.ctl_of (And.imp Same.path_of id))) ?_
  unfold State.domainRevoke
  try dsimp only
  (repeat' split) <;> simp

@[simp] theorem State.domainSet_frame : ∀ s x1 x2, Same.quiet s (State.domainSet s x1 x2).1 ∧ Same.store s (State.domainSet s x1 x2).1 ∧ Same.ctl s (State.domainSet s x1 x2).1 ∧ Same.path s (State.domainSet s x1 x2).1 ∧ (State.domainSet s x1 x2).1.out = s.out ∧ (State.domainSet s x1 x2).1.regs = s.regs ∧ (State.domainSet s x1 x2).1.ctrs = s.ctrs ∧ (State.domainSet s x1 x2).1.log = s.log ∧ (State.domainSet s x1 x2).1.twl = s.twl ∧ (State.domainSet s x1 x2).1.pair = s.pair ∧ (State.domainSet s x1 x2).1.cxl = s.cxl := by
  intro s x1 x2
  refine And.imp Same.quiet_of (And.imp Same.store_of (And.imp Same.ctl_of (And.imp Same.path_of id))) ?_
  unfold State.domainSet
  try dsimp only
  (repeat' split) <;> simp

@[simp] theorem State.keyGen_frame : ∀ s x1 x2, Same.quiet s (State.keyGen s x1 x2).1 ∧ Same.ctl s (State.keyGen s x1 x2).1 ∧ Same.path s (State.keyGen s x1 x2).1 ∧ Same.links s (State.keyGen s x1 x2).1 ∧ (State.keyGen s x1 x2).1.out = s.out ∧ (State.keyGen s x1 x2).1.regs = s.regs ∧ (State.keyGen s x1 x2).1.ctrs = s.ctrs ∧ (State.keyGen s x1 x2).1.log = s.log ∧ (State.keyGen s x1 x2).1.sht = s.sht ∧ (State.keyGen s x1 x2).1.mem = s.mem ∧ (State.keyGen s x1 x2).1.fls = s.fls := by
  intro s x1 x2
  refine And.imp Same.quiet_of (And.imp Same.ctl_of (And.imp Same.path_of (And.imp Same.links_of id))) ?_
  unfold State.keyGen
  repeat' split
  all_goals try (rename_i hh; have hh' := congrArg Prod.fst hh; dsimp only at hh'; subst hh')
  all_goals try (rename_i hh; have hh' := congrArg Prod.snd hh; dsimp only at hh'; subst hh')
  all_goals simp

@[simp] theorem State.keyPut_frame : ∀ s x1 x2 x3, Same.quiet s (State.keyPut s x1 x2 x3).1 ∧ Same.ctl s (State.keyPut s x1 x2 x3).1 ∧ Same.path s (State.keyPut s x1 x2 x3).1 ∧ (State.keyPut s x1 x2 x3).1.out = s.out ∧ (State.keyPut s x1 x2 x3).1.regs = s.regs ∧ (State.keyPut s x1 x2 x3).1.ctrs = s.ctrs ∧ (State.keyPut s x1 x2 x3).1.log = s.log ∧ (State.keyPut s x1 x2 x3).1.sht = s.sht ∧ (State.keyPut s x1 x2 x3).1.twl = s.twl ∧ (State.keyPut s x1 x2 x3).1.pair = s.pair ∧ (State.keyPut s x1 x2 x3).1.mem = s.mem ∧ (State.keyPut s x1 x2 x3).1.cxl = s.cxl ∧ (State.keyPut s x1 x2 x3).1.fls = s.fls := by
  intro s x1 x2 x3
  refine And.imp Same.quiet_of (And.imp Same.ctl_of (And.imp Same.path_of id)) ?_
  unfold State.keyPut
  simp

@[simp] theorem State.keyRegister_frame : ∀ s x1 x2 x3, Same.quiet s (State.keyRegister s x1 x2 x3).1 ∧ Same.ctl s (State.keyRegister s x1 x2 x3).1 ∧ Same.path s (State.keyRegister s x1 x2 x3).1 ∧ (State.keyRegister s x1 x2 x3).1.out = s.out ∧ (State.keyRegister s x1 x2 x3).1.regs = s.regs ∧ (State.keyRegister s x1 x2 x3).1.ctrs = s.ctrs ∧ (State.keyRegister s x1 x2 x3).1.log = s.log ∧ (State.keyRegister s x1 x2 x3).1.sht = s.sht ∧ (State.keyRegister s x1 x2 x3).1.twl = s.twl ∧ (State.keyRegister s x1 x2 x3).1.pair = s.pair ∧ (State.keyRegister s x1 x2 x3).1.mem = s.mem ∧ (State.keyRegister s x1 x2 x3).1.cxl = s.cxl ∧ (State.keyRegister s x1 x2 x3).1.fls = s.fls := by
  intro s x1 x2 x3
  refine And.imp Same.quiet_of (And.imp Same.ctl_of (And.imp Same.path_of id)) ?_
  unfold State.keyRegister
  cases s.keyTarget x1 x2 x3 <;> simp

@[simp] theorem State.saveKeys_frame : ∀ s, Same.quiet s (State.saveKeys s) ∧ Same.store s (State.saveKeys s) ∧ Same.ctl s (State.saveKeys s) ∧ Same.path s (State.saveKeys s) ∧ (State.saveKeys s).out = s.out ∧ (State.saveKeys s).regs = s.regs ∧ (State.saveKeys s).ctrs = s.ctrs ∧ (State.saveKeys s).log = s.log ∧ (State.saveKeys s).twl = s.twl ∧ (State.saveKeys s).pair = s.pair ∧ (State.saveKeys s).net = s.net ∧ (State.saveKeys s).cxl = s.cxl := by
  intro s
  refine And.imp Same.quiet_of (And.imp Same.store_of (And.imp Same.ctl_of (And.imp Same.path_of id))) ?_
  unfold State.saveKeys
  try dsimp only
  (repeat' split) <;> simp

@[simp] theorem State.keyslotClear_frame : ∀ s x1, Same.quiet s (State.keyslotClear s x1).1 ∧ Same.store s (State.keyslotClear s x1).1 ∧ Same.path s (State.keyslotClear s x1).1 ∧ (State.keyslotClear s x1).1.out = s.out ∧ (State.keyslotClear s x1).1.regs = s.regs ∧ (State.keyslotClear s x1).1.ctrs = s.ctrs ∧ (State.keyslotClear s x1).1.mode = s.mode ∧ (State.keyslotClear s x1).1.pwr = s.pwr ∧ (State.keyslotClear s x1).1.log = s.log ∧ (State.keyslotClear s x1).1.twl = s.twl ∧ (State.keyslotClear s x1).1.pair = s.pair ∧ (State.keyslotClear s x1).1.net = s.net ∧ (State.keyslotClear s x1).1.cxl = s.cxl ∧ (State.keyslotClear s x1).1.flt = s.flt := by
  intro s x1
  refine And.imp Same.quiet_of (And.imp Same.store_of (And.imp Same.path_of id)) ?_
  unfold State.keyslotClear
  try dsimp only
  (repeat' split) <;> simp

@[simp] theorem State.putKey_frame : ∀ s x1 x2, Same.quiet s (State.putKey s x1 x2).1 ∧ Same.store s (State.putKey s x1 x2).1 ∧ Same.path s (State.putKey s x1 x2).1 ∧ (State.putKey s x1 x2).1.out = s.out ∧ (State.putKey s x1 x2).1.regs = s.regs ∧ (State.putKey s x1 x2).1.ctrs = s.ctrs ∧ (State.putKey s x1 x2).1.mode = s.mode ∧ (State.putKey s x1 x2).1.pwr = s.pwr ∧ (State.putKey s x1 x2).1.log = s.log ∧ (State.putKey s x1 x2).1.twl = s.twl ∧ (State.putKey s x1 x2).1.pair = s.pair ∧ (State.putKey s x1 x2).1.net = s.net ∧ (State.putKey s x1 x2).1.cxl = s.cxl ∧ (State.putKey s x1 x2).1.flt = s.flt := by
  intro s x1 x2
  refine And.imp Same.quiet_of (And.imp Same.store_of (And.imp Same.path_of id)) ?_
  unfold State.putKey
  try dsimp only
  (repeat' split) <;> simp

@[simp] theorem State.keyslotGenerate_frame : ∀ s x1 x2, Same.quiet s (State.keyslotGenerate s x1 x2).1 ∧ Same.path s (State.keyslotGenerate s x1 x2).1 ∧ (State.keyslotGenerate s x1 x2).1.out = s.out ∧ (State.keyslotGenerate s x1 x2).1.regs = s.regs ∧ (State.keyslotGenerate s x1 x2).1.ctrs = s.ctrs ∧ (State.keyslotGenerate s x1 x2).1.mode = s.mode ∧ (State.keyslotGenerate s x1 x2).1.pwr = s.pwr ∧ (State.keyslotGenerate s x1 x2).1.log = s.log ∧ (State.keyslotGenerate s x1 x2).1.sht = s.sht ∧ (State.keyslotGenerate s x1 x2).1.twl = s.twl ∧ (State.keyslotGenerate s x1 x2).1.pair = s.pair ∧ (State.keyslotGenerate s x1 x2).1.mem = s.mem ∧ (State.keyslotGenerate s x1 x2).1.net = s.net ∧ (State.keyslotGenerate s x1 x2).1.cxl = s.cxl ∧ (State.keyslotGenerate s x1 x2).1.flt = s.flt ∧ (State.keyslotGenerate s x1 x2).1.fls = s.fls := by
  intro s x1 x2
  refine And.imp Same.quiet_of (And.imp Same.path_of id) ?_
  unfold State.keyslotGenerate
  try dsimp only
  (repeat' split) <;> simp

@[simp] theorem State.keyslotLoad_frame : ∀ s x1 x2, Same.quiet s (State.keyslotLoad s x1 x2).1 ∧ Same.store s (State.keyslotLoad s x1 x2).1 ∧ Same.path s (State.keyslotLoad s x1 x2).1 ∧ (State.keyslotLoad s x1 x2).1.out = s.out ∧ (State.keyslotLoad s x1 x2).1.regs = s.regs ∧ (State.keyslotLoad s x1 x2).1.mode = s.mode ∧ (State.keyslotLoad s x1 x2).1.pwr = s.pwr ∧ (State.keyslotLoad s x1 x2).1.log = s.log ∧ (State.keyslotLoad s x1 x2).1.twl = s.twl ∧ (State.keyslotLoad s x1 x2).1.pair = s.pair ∧ (State.keyslotLoad s x1 x2).1.net = s.net ∧ (State.keyslotLoad s x1 x2).1.cxl = s.cxl ∧ (State.keyslotLoad s x1 x2).1.flt = s.flt := by
  intro s x1 x2
  refine And.imp Same.quiet_of (And.imp Same.store_of (And.imp Same.path_of id)) ?_
  unfold State.keyslotLoad
  try dsimp only
  (repeat' split) <;> simp

@[simp] theorem State.enterTier_frame : ∀ s x1, Same.quiet s (State.enterTier s x1) ∧ Same.store s (State.enterTier s x1) ∧ Same.ctl s (State.enterTier s x1) ∧ Same.links s (State.enterTier s x1) ∧ (State.enterTier s x1).out = s.out ∧ (State.enterTier s x1).regs = s.regs ∧ (State.enterTier s x1).ctrs = s.ctrs ∧ (State.enterTier s x1).log = s.log ∧ (State.enterTier s x1).addr = s.addr ∧ (State.enterTier s x1).trk = s.trk ∧ (State.enterTier s x1).lc = s.lc ∧ (State.enterTier s x1).ch = s.ch ∧ (State.enterTier s x1).ec = s.ec := by
  intro s x1
  refine And.imp Same.quiet_of (And.imp Same.store_of (And.imp Same.ctl_of (And.imp Same.links_of id))) ?_
  unfold State.enterTier
  try dsimp only
  (repeat' split) <;> simp

@[simp] theorem State.regionCreate_frame : ∀ s x1, Same.quiet s (State.regionCreate s x1).1 ∧ Same.store s (State.regionCreate s x1).1 ∧ Same.ctl s (State.regionCreate s x1).1 ∧ Same.links s (State.regionCreate s x1).1 ∧ (State.regionCreate s x1).1.out = s.out ∧ (State.regionCreate s x1).1.regs = s.regs ∧ (State.regionCreate s x1).1.ctrs = s.ctrs ∧ (State.regionCreate s x1).1.log = s.log ∧ (State.regionCreate s x1).1.trk = s.trk ∧ (State.regionCreate s x1).1.lc = s.lc ∧ (State.regionCreate s x1).1.ch = s.ch ∧ (State.regionCreate s x1).1.ec = s.ec := by
  intro s x1
  refine And.imp Same.quiet_of (And.imp Same.store_of (And.imp Same.ctl_of (And.imp Same.links_of id))) ?_
  unfold State.regionCreate
  try dsimp only
  (repeat' split) <;> simp

@[simp] theorem State.keepOwners_frame : ∀ old s x2, Same.quiet s (State.keepOwners old s x2) ∧ Same.store s (State.keepOwners old s x2) ∧ Same.ctl s (State.keepOwners old s x2) ∧ Same.path s (State.keepOwners old s x2) ∧ (State.keepOwners old s x2).out = s.out ∧ (State.keepOwners old s x2).regs = s.regs ∧ (State.keepOwners old s x2).ctrs = s.ctrs ∧ (State.keepOwners old s x2).log = s.log ∧ (State.keepOwners old s x2).twl = s.twl ∧ (State.keepOwners old s x2).vlt = s.vlt ∧ (State.keepOwners old s x2).net = s.net ∧ (State.keepOwners old s x2).cxl = s.cxl := by
  intro old s x2
  refine And.imp Same.quiet_of (And.imp Same.store_of (And.imp Same.ctl_of (And.imp Same.path_of id))) ?_
  unfold State.keepOwners
  repeat' split
  all_goals try (rename_i hh; have hh' := congrArg Prod.fst hh; dsimp only at hh'; subst hh')
  all_goals try (rename_i hh; have hh' := congrArg Prod.snd hh; dsimp only at hh'; subst hh')
  all_goals simp

end Sys2Proof.Machine
end

