-- ==== Sys2Proof/Laws/FrameEngine.lean ====
section
/-!
SUPPORT. Laws/FrameEngine.lean: what the shared operations leave unchanged, one lemma each (third part).
-/
namespace Sys2Proof.Machine

@[simp] theorem State.regionSetAttr_frame : ∀ s x1 x2, Same.quiet s (State.regionSetAttr s x1 x2).1 ∧ Same.store s (State.regionSetAttr s x1 x2).1 ∧ Same.ctl s (State.regionSetAttr s x1 x2).1 ∧ (State.regionSetAttr s x1 x2).1.out = s.out ∧ (State.regionSetAttr s x1 x2).1.regs = s.regs ∧ (State.regionSetAttr s x1 x2).1.ctrs = s.ctrs ∧ (State.regionSetAttr s x1 x2).1.log = s.log ∧ (State.regionSetAttr s x1 x2).1.trk = s.trk ∧ (State.regionSetAttr s x1 x2).1.twl = s.twl ∧ (State.regionSetAttr s x1 x2).1.lc = s.lc ∧ (State.regionSetAttr s x1 x2).1.ch = s.ch ∧ (State.regionSetAttr s x1 x2).1.ec = s.ec ∧ (State.regionSetAttr s x1 x2).1.vlt = s.vlt ∧ (State.regionSetAttr s x1 x2).1.net = s.net ∧ (State.regionSetAttr s x1 x2).1.cxl = s.cxl := by
  intro s x1 x2
  refine And.imp Same.quiet_of (And.imp Same.store_of (And.imp Same.ctl_of id)) ?_
  unfold State.regionSetAttr
  repeat' split
  all_goals try (rename_i hh; have hh' := congrArg Prod.fst hh; dsimp only at hh'; subst hh')
  all_goals try (rename_i hh; have hh' := congrArg Prod.snd hh; dsimp only at hh'; subst hh')
  all_goals simp

@[simp] theorem State.shareCreate_frame : ∀ s x1, Same.quiet s (State.shareCreate s x1).1 ∧ Same.store s (State.shareCreate s x1).1 ∧ Same.ctl s (State.shareCreate s x1).1 ∧ Same.links s (State.shareCreate s x1).1 ∧ (State.shareCreate s x1).1.out = s.out ∧ (State.shareCreate s x1).1.regs = s.regs ∧ (State.shareCreate s x1).1.ctrs = s.ctrs ∧ (State.shareCreate s x1).1.log = s.log ∧ (State.shareCreate s x1).1.trk = s.trk ∧ (State.shareCreate s x1).1.tier = s.tier ∧ (State.shareCreate s x1).1.lc = s.lc ∧ (State.shareCreate s x1).1.ch = s.ch ∧ (State.shareCreate s x1).1.ec = s.ec := by
  intro s x1
  refine And.imp Same.quiet_of (And.imp Same.store_of (And.imp Same.ctl_of (And.imp Same.links_of id))) ?_
  unfold State.shareCreate
  try dsimp only
  (repeat' split) <;> simp

@[simp] theorem State.shareDelete_frame : ∀ s x1, Same.quiet s (State.shareDelete s x1).1 ∧ Same.store s (State.shareDelete s x1).1 ∧ Same.ctl s (State.shareDelete s x1).1 ∧ Same.links s (State.shareDelete s x1).1 ∧ (State.shareDelete s x1).1.out = s.out ∧ (State.shareDelete s x1).1.regs = s.regs ∧ (State.shareDelete s x1).1.ctrs = s.ctrs ∧ (State.shareDelete s x1).1.log = s.log ∧ (State.shareDelete s x1).1.trk = s.trk ∧ (State.shareDelete s x1).1.tier = s.tier ∧ (State.shareDelete s x1).1.lc = s.lc ∧ (State.shareDelete s x1).1.ch = s.ch ∧ (State.shareDelete s x1).1.ec = s.ec := by
  intro s x1
  refine And.imp Same.quiet_of (And.imp Same.store_of (And.imp Same.ctl_of (And.imp Same.links_of id))) ?_
  unfold State.shareDelete
  try dsimp only
  (repeat' split) <;> simp

@[simp] theorem State.pBody_frame : ∀ s x1 x2 x3 x4 x5 x6 x7, Same.quiet s (State.pBody s x1 x2 x3 x4 x5 x6 x7).1 ∧ (State.pBody s x1 x2 x3 x4 x5 x6 x7).1.mode = s.mode ∧ (State.pBody s x1 x2 x3 x4 x5 x6 x7).1.pwr = s.pwr ∧ (State.pBody s x1 x2 x3 x4 x5 x6 x7).1.sht = s.sht ∧ (State.pBody s x1 x2 x3 x4 x5 x6 x7).1.lc = s.lc ∧ (State.pBody s x1 x2 x3 x4 x5 x6 x7).1.ch = s.ch ∧ (State.pBody s x1 x2 x3 x4 x5 x6 x7).1.ec = s.ec ∧ (State.pBody s x1 x2 x3 x4 x5 x6 x7).1.mem = s.mem ∧ (State.pBody s x1 x2 x3 x4 x5 x6 x7).1.flt = s.flt ∧ (State.pBody s x1 x2 x3 x4 x5 x6 x7).1.fls = s.fls := by
  intro s x1 x2 x3 x4 x5 x6 x7
  refine And.imp Same.quiet_of id ?_
  unfold State.pBody
  simp [apply_ite Prod.fst]

@[simp] theorem State.stage_frame : ∀ s x1 x2, Same.quiet s (State.stage s x1 x2) ∧ Same.ctl s (State.stage s x1 x2) ∧ Same.path s (State.stage s x1 x2) ∧ Same.links s (State.stage s x1 x2) ∧ (State.stage s x1 x2).out = s.out ∧ (State.stage s x1 x2).fresh = s.fresh ∧ (State.stage s x1 x2).regs = s.regs ∧ (State.stage s x1 x2).ctrs = s.ctrs ∧ (State.stage s x1 x2).log = s.log ∧ (State.stage s x1 x2).mem = s.mem ∧ (State.stage s x1 x2).fls = s.fls := by
  intro s x1 x2
  refine And.imp Same.quiet_of (And.imp Same.ctl_of (And.imp Same.path_of (And.imp Same.links_of id))) ?_
  unfold State.stage
  try dsimp only
  (repeat' split) <;> simp

@[simp] theorem State.returnUnit_frame : ∀ s x1, Same.quiet s (State.returnUnit s x1) ∧ Same.store s (State.returnUnit s x1) ∧ (State.returnUnit s x1).mode = s.mode ∧ (State.returnUnit s x1).pwr = s.pwr ∧ (State.returnUnit s x1).cmd = s.cmd := by
  intro s x1
  refine And.imp Same.quiet_of (And.imp Same.store_of id) ?_
  unfold State.returnUnit
  try dsimp only
  (repeat' split) <;> simp

@[simp] theorem State.loseExtents_frame : ∀ s x1 x2, Same.quiet s (State.loseExtents s x1 x2) ∧ Same.store s (State.loseExtents s x1 x2) ∧ Same.ctl s (State.loseExtents s x1 x2) ∧ (State.loseExtents s x1 x2).out = s.out ∧ (State.loseExtents s x1 x2).regs = s.regs ∧ (State.loseExtents s x1 x2).ctrs = s.ctrs ∧ (State.loseExtents s x1 x2).log = s.log ∧ (State.loseExtents s x1 x2).twl = s.twl ∧ (State.loseExtents s x1 x2).pair = s.pair ∧ (State.loseExtents s x1 x2).tier = s.tier ∧ (State.loseExtents s x1 x2).ch = s.ch ∧ (State.loseExtents s x1 x2).net = s.net ∧ (State.loseExtents s x1 x2).cxl = s.cxl := by
  intro s x1 x2
  refine And.imp Same.quiet_of (And.imp Same.store_of (And.imp Same.ctl_of id)) ?_
  unfold State.loseExtents
  try dsimp only
  (repeat' split) <;> simp

@[simp] theorem State.reunite_frame : ∀ s x1 x2 x3 x4, Same.quiet s (State.reunite s x1 x2 x3 x4) ∧ Same.store s (State.reunite s x1 x2 x3 x4) ∧ (State.reunite s x1 x2 x3 x4).pwr = s.pwr ∧ (State.reunite s x1 x2 x3 x4).flt = s.flt ∧ (State.reunite s x1 x2 x3 x4).cmd = s.cmd := by
  intro s x1 x2 x3 x4
  refine And.imp Same.quiet_of (And.imp Same.store_of id) ?_
  unfold State.reunite
  try dsimp only
  (repeat' split) <;> simp

@[simp] theorem State.refetchGood_frame : ∀ s x1 x2, Same.quiet s (State.refetchGood s x1 x2) ∧ Same.store s (State.refetchGood s x1 x2) ∧ Same.ctl s (State.refetchGood s x1 x2) := by
  intro s x1 x2
  refine And.imp Same.quiet_of (And.imp Same.store_of Same.ctl_of) ?_
  unfold State.refetchGood
  try dsimp only
  (repeat' split) <;> simp

@[simp] theorem State.refetchTwin_frame : ∀ s x1 x2, Same.quiet s (State.refetchTwin s x1 x2) ∧ Same.store s (State.refetchTwin s x1 x2) ∧ Same.ctl s (State.refetchTwin s x1 x2) := by
  intro s x1 x2
  refine And.imp Same.quiet_of (And.imp Same.store_of Same.ctl_of) ?_
  unfold State.refetchTwin
  try dsimp only
  (repeat' split) <;> simp

@[simp] theorem State.handBack_frame : ∀ s, Same.quiet s (State.handBack s) ∧ Same.store s (State.handBack s) ∧ Same.ctl s (State.handBack s) ∧ Same.path s (State.handBack s) ∧ (State.handBack s).regs = s.regs ∧ (State.handBack s).log = s.log ∧ (State.handBack s).pair = s.pair ∧ (State.handBack s).vlt = s.vlt ∧ (State.handBack s).cxl = s.cxl := by
  intro s
  refine And.imp Same.quiet_of (And.imp Same.store_of (And.imp Same.ctl_of (And.imp Same.path_of id))) ?_
  unfold State.handBack
  try dsimp only
  (repeat' split) <;> simp

@[simp] theorem State.channelsTrained_frame : ∀ s, Same.quiet s (State.channelsTrained s) ∧ Same.store s (State.channelsTrained s) ∧ Same.ctl s (State.channelsTrained s) ∧ Same.links s (State.channelsTrained s) ∧ (State.channelsTrained s).out = s.out ∧ (State.channelsTrained s).regs = s.regs ∧ (State.channelsTrained s).ctrs = s.ctrs ∧ (State.channelsTrained s).log = s.log ∧ (State.channelsTrained s).addr = s.addr ∧ (State.channelsTrained s).trk = s.trk ∧ (State.channelsTrained s).tier = s.tier ∧ (State.channelsTrained s).lc = s.lc ∧ (State.channelsTrained s).ec = s.ec := by
  intro s
  refine And.imp Same.quiet_of (And.imp Same.store_of (And.imp Same.ctl_of (And.imp Same.links_of id))) ?_
  unfold State.channelsTrained
  try dsimp only
  (repeat' split) <;> simp

@[simp] theorem State.sbCure_frame : ∀ s x1 x2, Same.store s (State.sbCure s x1 x2) ∧ Same.path s (State.sbCure s x1 x2) ∧ Same.links s (State.sbCure s x1 x2) ∧ (State.sbCure s x1 x2).pending = s.pending ∧ (State.sbCure s x1 x2).regs = s.regs ∧ (State.sbCure s x1 x2).rsc = s.rsc ∧ (State.sbCure s x1 x2).copies = s.copies ∧ (State.sbCure s x1 x2).latched = s.latched ∧ (State.sbCure s x1 x2).mode = s.mode ∧ (State.sbCure s x1 x2).tim = s.tim ∧ (State.sbCure s x1 x2).pwr = s.pwr ∧ (State.sbCure s x1 x2).log = s.log ∧ (State.sbCure s x1 x2).unlocks = s.unlocks ∧ (State.sbCure s x1 x2).cmd = s.cmd := by
  intro s x1 x2
  refine And.imp Same.store_of (And.imp Same.path_of (And.imp Same.links_of id)) ?_
  unfold State.sbCure
  try dsimp only
  (repeat' split) <;> simp

@[simp] theorem State.sbFound_frame : ∀ s x1 x2, Same.store s (State.sbFound s x1 x2) ∧ Same.path s (State.sbFound s x1 x2) ∧ Same.links s (State.sbFound s x1 x2) ∧ (State.sbFound s x1 x2).pending = s.pending ∧ (State.sbFound s x1 x2).regs = s.regs ∧ (State.sbFound s x1 x2).rsc = s.rsc ∧ (State.sbFound s x1 x2).copies = s.copies ∧ (State.sbFound s x1 x2).latched = s.latched ∧ (State.sbFound s x1 x2).mode = s.mode ∧ (State.sbFound s x1 x2).tim = s.tim ∧ (State.sbFound s x1 x2).pwr = s.pwr ∧ (State.sbFound s x1 x2).log = s.log ∧ (State.sbFound s x1 x2).unlocks = s.unlocks ∧ (State.sbFound s x1 x2).cmd = s.cmd := by
  intro s x1 x2
  refine And.imp Same.store_of (And.imp Same.path_of (And.imp Same.links_of id)) ?_
  unfold State.sbFound
  try dsimp only
  (repeat' split) <;> simp

@[simp] theorem State.activationOver_frame : ∀ s x1 x2, Same.quiet s (State.activationOver s x1 x2) ∧ Same.store s (State.activationOver s x1 x2) ∧ (State.activationOver s x1 x2).pwr = s.pwr ∧ (State.activationOver s x1 x2).flt = s.flt := by
  intro s x1 x2
  refine And.imp Same.quiet_of (And.imp Same.store_of id) ?_
  unfold State.activationOver
  try dsimp only
  (repeat' split) <;> simp

@[simp] theorem State.restoredLines_frame : ∀ s x1 x2, Same.quiet s (State.restoredLines s x1 x2) ∧ Same.ctl s (State.restoredLines s x1 x2) ∧ Same.path s (State.restoredLines s x1 x2) ∧ (State.restoredLines s x1 x2).out = s.out ∧ (State.restoredLines s x1 x2).fresh = s.fresh ∧ (State.restoredLines s x1 x2).regs = s.regs ∧ (State.restoredLines s x1 x2).ctrs = s.ctrs ∧ (State.restoredLines s x1 x2).log = s.log ∧ (State.restoredLines s x1 x2).sht = s.sht ∧ (State.restoredLines s x1 x2).twl = s.twl ∧ (State.restoredLines s x1 x2).net = s.net ∧ (State.restoredLines s x1 x2).cxl = s.cxl ∧ (State.restoredLines s x1 x2).fls = s.fls := by
  intro s x1 x2
  refine And.imp Same.quiet_of (And.imp Same.ctl_of (And.imp Same.path_of id)) ?_
  unfold State.restoredLines
  try dsimp only
  (repeat' split) <;> simp

@[simp] theorem State.sbNext_frame : ∀ s x1, Same.store s (State.sbNext s x1) ∧ Same.ctl s (State.sbNext s x1) ∧ Same.path s (State.sbNext s x1) ∧ Same.links s (State.sbNext s x1) ∧ (State.sbNext s x1).pending = s.pending ∧ (State.sbNext s x1).regs = s.regs ∧ (State.sbNext s x1).rsc = s.rsc ∧ (State.sbNext s x1).copies = s.copies ∧ (State.sbNext s x1).ctrs = s.ctrs ∧ (State.sbNext s x1).latched = s.latched ∧ (State.sbNext s x1).tim = s.tim ∧ (State.sbNext s x1).log = s.log ∧ (State.sbNext s x1).unlocks = s.unlocks := by
  intro s x1
  refine And.imp Same.store_of (And.imp Same.ctl_of (And.imp Same.path_of (And.imp Same.links_of id))) ?_
  unfold State.sbNext
  try dsimp only
  (repeat' split) <;> simp

@[simp] theorem State.sbEnd_frame : ∀ s x1 x2, Same.store s (State.sbEnd s x1 x2) ∧ Same.ctl s (State.sbEnd s x1 x2) ∧ Same.path s (State.sbEnd s x1 x2) ∧ Same.links s (State.sbEnd s x1 x2) ∧ (State.sbEnd s x1 x2).pending = s.pending ∧ (State.sbEnd s x1 x2).regs = s.regs ∧ (State.sbEnd s x1 x2).rsc = s.rsc ∧ (State.sbEnd s x1 x2).copies = s.copies ∧ (State.sbEnd s x1 x2).latched = s.latched ∧ (State.sbEnd s x1 x2).tim = s.tim ∧ (State.sbEnd s x1 x2).log = s.log ∧ (State.sbEnd s x1 x2).unlocks = s.unlocks := by
  intro s x1 x2
  refine And.imp Same.store_of (And.imp Same.ctl_of (And.imp Same.path_of (And.imp Same.links_of id))) ?_
  unfold State.sbEnd
  try dsimp only
  (repeat' split) <;> simp

@[simp] theorem State.relock_frame : ∀ s x1, Same.store s (State.relock s x1) ∧ Same.ctl s (State.relock s x1) ∧ Same.path s (State.relock s x1) ∧ Same.links s (State.relock s x1) ∧ (State.relock s x1).pending = s.pending ∧ (State.relock s x1).out = s.out ∧ (State.relock s x1).regs = s.regs ∧ (State.relock s x1).rsc = s.rsc ∧ (State.relock s x1).copies = s.copies ∧ (State.relock s x1).ctrs = s.ctrs ∧ (State.relock s x1).latched = s.latched ∧ (State.relock s x1).tim = s.tim ∧ (State.relock s x1).sb0 = s.sb0 ∧ (State.relock s x1).sb1 = s.sb1 ∧ (State.relock s x1).sb2 = s.sb2 ∧ (State.relock s x1).sb3 = s.sb3 ∧ (State.relock s x1).log = s.log := by
  intro s x1
  refine And.imp Same.store_of (And.imp Same.ctl_of (And.imp Same.path_of (And.imp Same.links_of id))) ?_
  unfold State.relock
  try dsimp only
  (repeat' split) <;> simp

@[simp] theorem State.guarded_frame : ∀ s x1, Same.store s (State.guarded s x1).2 ∧ Same.ctl s (State.guarded s x1).2 ∧ Same.path s (State.guarded s x1).2 ∧ Same.links s (State.guarded s x1).2 ∧ (State.guarded s x1).2.pending = s.pending ∧ (State.guarded s x1).2.out = s.out ∧ (State.guarded s x1).2.regs = s.regs ∧ (State.guarded s x1).2.rsc = s.rsc ∧ (State.guarded s x1).2.copies = s.copies ∧ (State.guarded s x1).2.latched = s.latched ∧ (State.guarded s x1).2.tim = s.tim ∧ (State.guarded s x1).2.sb0 = s.sb0 ∧ (State.guarded s x1).2.sb1 = s.sb1 ∧ (State.guarded s x1).2.sb2 = s.sb2 ∧ (State.guarded s x1).2.sb3 = s.sb3 ∧ (State.guarded s x1).2.log = s.log := by
  intro s x1
  refine And.imp Same.store_of (And.imp Same.ctl_of (And.imp Same.path_of (And.imp Same.links_of id))) ?_
  unfold State.guarded
  try dsimp only
  (repeat' split) <;> simp

@[simp] theorem State.cacheOp_frame : ∀ s x1 x2 x3, Same.store s (State.cacheOp s x1 x2 x3).1 ∧ Same.ctl s (State.cacheOp s x1 x2 x3).1 ∧ (State.cacheOp s x1 x2 x3).1.pending = s.pending ∧ (State.cacheOp s x1 x2 x3).1.rsc = s.rsc ∧ (State.cacheOp s x1 x2 x3).1.copies = s.copies ∧ (State.cacheOp s x1 x2 x3).1.latched = s.latched ∧ (State.cacheOp s x1 x2 x3).1.tim = s.tim ∧ (State.cacheOp s x1 x2 x3).1.sb0 = s.sb0 ∧ (State.cacheOp s x1 x2 x3).1.sb1 = s.sb1 ∧ (State.cacheOp s x1 x2 x3).1.sb2 = s.sb2 ∧ (State.cacheOp s x1 x2 x3).1.sb3 = s.sb3 := by
  intro s x1 x2 x3
  refine And.imp Same.store_of (And.imp Same.ctl_of id) ?_
  unfold State.cacheOp
  try dsimp only
  (repeat' split) <;> simp

@[simp] theorem State.resetLink_frame : ∀ s, Same.quiet s (State.resetLink s) ∧ Same.store s (State.resetLink s) ∧ Same.path s (State.resetLink s) ∧ (State.resetLink s).regs = s.regs ∧ (State.resetLink s).mode = s.mode ∧ (State.resetLink s).pwr = s.pwr ∧ (State.resetLink s).log = s.log ∧ (State.resetLink s).vlt = s.vlt ∧ (State.resetLink s).net = s.net ∧ (State.resetLink s).cxl = s.cxl ∧ (State.resetLink s).flt = s.flt := by
  intro s
  refine And.imp Same.quiet_of (And.imp Same.store_of (And.imp Same.path_of id)) ?_
  unfold State.resetLink
  try dsimp only
  (repeat' split) <;> simp

@[simp] theorem State.sendIdle_frame : ∀ s x1 x2, Same.quiet s (State.sendIdle s x1 x2) ∧ Same.store s (State.sendIdle s x1 x2) ∧ Same.ctl s (State.sendIdle s x1 x2) ∧ Same.path s (State.sendIdle s x1 x2) ∧ (State.sendIdle s x1 x2).regs = s.regs ∧ (State.sendIdle s x1 x2).ctrs = s.ctrs ∧ (State.sendIdle s x1 x2).log = s.log ∧ (State.sendIdle s x1 x2).pair = s.pair ∧ (State.sendIdle s x1 x2).vlt = s.vlt ∧ (State.sendIdle s x1 x2).net = s.net ∧ (State.sendIdle s x1 x2).cxl = s.cxl := by
  intro s x1 x2
  refine And.imp Same.quiet_of (And.imp Same.store_of (And.imp Same.ctl_of (And.imp Same.path_of id))) ?_
  unfold State.sendIdle
  try dsimp only
  (repeat' split) <;> simp

@[simp] theorem State.setFromEeprom_frame : ∀ s x1 x2, Same.quiet s (State.setFromEeprom s x1 x2) ∧ Same.store s (State.setFromEeprom s x1 x2) ∧ Same.ctl s (State.setFromEeprom s x1 x2) ∧ Same.path s (State.setFromEeprom s x1 x2) ∧ Same.links s (State.setFromEeprom s x1 x2) ∧ (State.setFromEeprom s x1 x2).out = s.out ∧ (State.setFromEeprom s x1 x2).ctrs = s.ctrs ∧ (State.setFromEeprom s x1 x2).log = s.log := by
  intro s x1 x2
  refine And.imp Same.quiet_of (And.imp Same.store_of (And.imp Same.ctl_of (And.imp Same.path_of (And.imp Same.links_of id)))) ?_
  unfold State.setFromEeprom
  try dsimp only
  (repeat' split) <;> simp

@[simp] theorem State.seqFault_frame : ∀ s x1 x2 x3, Same.quiet s (State.seqFault s x1 x2 x3) ∧ Same.store s (State.seqFault s x1 x2 x3) ∧ Same.path s (State.seqFault s x1 x2 x3) ∧ Same.links s (State.seqFault s x1 x2 x3) ∧ (State.seqFault s x1 x2 x3).out = s.out ∧ (State.seqFault s x1 x2 x3).regs = s.regs ∧ (State.seqFault s x1 x2 x3).log = s.log ∧ (State.seqFault s x1 x2 x3).flt = s.flt ∧ (State.seqFault s x1 x2 x3).cmd = s.cmd := by
  intro s x1 x2 x3
  refine And.imp Same.quiet_of (And.imp Same.store_of (And.imp Same.path_of (And.imp Same.links_of id))) ?_
  unfold State.seqFault
  try dsimp only
  (repeat' split) <;> simp

@[simp] theorem State.readRecord_frame : ∀ s x1 x2 x3, Same.quiet s (State.readRecord s x1 x2 x3).1 ∧ Same.store s (State.readRecord s x1 x2 x3).1 ∧ Same.ctl s (State.readRecord s x1 x2 x3).1 ∧ Same.path s (State.readRecord s x1 x2 x3).1 ∧ Same.links s (State.readRecord s x1 x2 x3).1 ∧ (State.readRecord s x1 x2 x3).1.out = s.out ∧ (State.readRecord s x1 x2 x3).1.regs = s.regs ∧ (State.readRecord s x1 x2 x3).1.log = s.log := by
  intro s x1 x2 x3
  refine And.imp Same.quiet_of (And.imp Same.store_of (And.imp Same.ctl_of (And.imp Same.path_of (And.imp Same.links_of id)))) ?_
  unfold State.readRecord
  try dsimp only
  (repeat' split) <;> simp

@[simp] theorem State.chooseRecord_frame : ∀ x0 x1 x2 x3 x4 s, Same.quiet s (State.chooseRecord x0 x1 x2 x3 x4 s).1 ∧ Same.store s (State.chooseRecord x0 x1 x2 x3 x4 s).1 ∧ Same.ctl s (State.chooseRecord x0 x1 x2 x3 x4 s).1 ∧ Same.path s (State.chooseRecord x0 x1 x2 x3 x4 s).1 ∧ Same.links s (State.chooseRecord x0 x1 x2 x3 x4 s).1 ∧ (State.chooseRecord x0 x1 x2 x3 x4 s).1.out = s.out ∧ (State.chooseRecord x0 x1 x2 x3 x4 s).1.regs = s.regs ∧ (State.chooseRecord x0 x1 x2 x3 x4 s).1.log = s.log := by
  intro x0 x1 x2 x3 x4 s
  refine And.imp Same.quiet_of (And.imp Same.store_of (And.imp Same.ctl_of (And.imp Same.path_of (And.imp Same.links_of id)))) ?_
  revert x0 x1 x2 x3 x4 s
  intro x0 x1 x2 x3 x4 s
  induction x0 generalizing x1 x2 x3 x4 s with
  | zero => simp [State.chooseRecord]
  | succ k ih =>
    unfold State.chooseRecord
    try dsimp only
    (repeat' split) <;> simp [ih]

@[simp] theorem State.replayEvent_frame : ∀ s x1, Same.quiet s (State.replayEvent s x1) ∧ Same.store s (State.replayEvent s x1) ∧ Same.ctl s (State.replayEvent s x1) ∧ Same.path s (State.replayEvent s x1) ∧ Same.links s (State.replayEvent s x1) ∧ (State.replayEvent s x1).out = s.out ∧ (State.replayEvent s x1).regs = s.regs := by
  intro s x1
  refine And.imp Same.quiet_of (And.imp Same.store_of (And.imp Same.ctl_of (And.imp Same.path_of (And.imp Same.links_of id)))) ?_
  unfold State.replayEvent
  try dsimp only
  (repeat' split) <;> simp

@[simp] theorem State.relocate_frame : ∀ x0 x1 s t, State.relocate x0 x1 s = some t → Same.quiet s t ∧ Same.store s t ∧ Same.ctl s t ∧ Same.path s t ∧ t.regs = s.regs ∧ t.ctrs = s.ctrs ∧ t.log = s.log ∧ t.twl = s.twl ∧ t.pair = s.pair ∧ t.net = s.net ∧ t.cxl = s.cxl := by
  intro x0 x1 s t h
  refine And.imp Same.quiet_of (And.imp Same.store_of (And.imp Same.ctl_of (And.imp Same.path_of id))) ?_
  revert x0 x1 s t h
  intro a
  induction a with
  | nil => intro b s t h; simp [State.relocate] at h; subst h; simp
  | cons c cs ih =>
    intro b s t h
    cases b with
    | nil => simp [State.relocate] at h
    | cons l ls =>
      unfold State.relocate at h
      split at h
      · exact ih _ _ _ h
      · split at h
        · simp at h
        · split at h
          · simp at h
          · rename_i ho
            have h1 := ih _ _ _ h
            have h2 := State.openSeg_frame _ _ _ _ ho
            simpa [h2] using h1

@[simp] theorem State.revertFw_frame : ∀ s x1, Same.quiet s (State.revertFw s x1) ∧ Same.store s (State.revertFw s x1) ∧ (State.revertFw s x1).pwr = s.pwr ∧ (State.revertFw s x1).flt = s.flt := by
  intro s x1
  refine And.imp Same.quiet_of (And.imp Same.store_of id) ?_
  unfold State.revertFw
  try dsimp only
  (repeat' split) <;> simp

@[simp] theorem State.markSet_frame : ∀ s x1, Same.quiet s (State.markSet s x1).1 ∧ Same.store s (State.markSet s x1).1 ∧ Same.links s (State.markSet s x1).1 ∧ (State.markSet s x1).1.out = s.out ∧ (State.markSet s x1).1.regs = s.regs ∧ (State.markSet s x1).1.mode = s.mode ∧ (State.markSet s x1).1.pwr = s.pwr ∧ (State.markSet s x1).1.addr = s.addr ∧ (State.markSet s x1).1.trk = s.trk ∧ (State.markSet s x1).1.tier = s.tier ∧ (State.markSet s x1).1.lc = s.lc ∧ (State.markSet s x1).1.ch = s.ch ∧ (State.markSet s x1).1.cmd = s.cmd := by
  intro s x1
  refine And.imp Same.quiet_of (And.imp Same.store_of (And.imp Same.links_of id)) ?_
  unfold State.markSet
  try dsimp only
  (repeat' split) <;> simp

@[simp] theorem State.unpause_frame : ∀ s x1 x2 x3, Same.quiet s (State.unpause s x1 x2 x3) ∧ Same.store s (State.unpause s x1 x2 x3) ∧ Same.ctl s (State.unpause s x1 x2 x3) ∧ Same.path s (State.unpause s x1 x2 x3) ∧ (State.unpause s x1 x2 x3).regs = s.regs ∧ (State.unpause s x1 x2 x3).log = s.log ∧ (State.unpause s x1 x2 x3).twl = s.twl ∧ (State.unpause s x1 x2 x3).pair = s.pair ∧ (State.unpause s x1 x2 x3).vlt = s.vlt ∧ (State.unpause s x1 x2 x3).cxl = s.cxl := by
  intro s x1 x2 x3
  refine And.imp Same.quiet_of (And.imp Same.store_of (And.imp Same.ctl_of (And.imp Same.path_of id))) ?_
  unfold State.unpause
  try dsimp only
  (repeat' split) <;> simp

@[simp] theorem State.schedUnload_frame : ∀ s x1 x2, Same.quiet s (State.schedUnload s x1 x2).1 ∧ Same.store s (State.schedUnload s x1 x2).1 ∧ Same.ctl s (State.schedUnload s x1 x2).1 ∧ Same.links s (State.schedUnload s x1 x2).1 ∧ (State.schedUnload s x1 x2).1.out = s.out ∧ (State.schedUnload s x1 x2).1.regs = s.regs ∧ (State.schedUnload s x1 x2).1.ctrs = s.ctrs ∧ (State.schedUnload s x1 x2).1.log = s.log ∧ (State.schedUnload s x1 x2).1.addr = s.addr ∧ (State.schedUnload s x1 x2).1.trk = s.trk ∧ (State.schedUnload s x1 x2).1.lc = s.lc ∧ (State.schedUnload s x1 x2).1.ch = s.ch ∧ (State.schedUnload s x1 x2).1.ec = s.ec := by
  intro s x1 x2
  refine And.imp Same.quiet_of (And.imp Same.store_of (And.imp Same.ctl_of (And.imp Same.links_of id))) ?_
  unfold State.schedUnload
  try dsimp only
  (repeat' split) <;> simp

@[simp] theorem State.ethDown_frame : ∀ s, Same.quiet s (State.ethDown s) ∧ Same.store s (State.ethDown s) ∧ Same.ctl s (State.ethDown s) ∧ Same.path s (State.ethDown s) ∧ (State.ethDown s).out = s.out ∧ (State.ethDown s).regs = s.regs ∧ (State.ethDown s).ctrs = s.ctrs ∧ (State.ethDown s).log = s.log ∧ (State.ethDown s).twl = s.twl ∧ (State.ethDown s).pair = s.pair ∧ (State.ethDown s).vlt = s.vlt ∧ (State.ethDown s).cxl = s.cxl := by
  intro s
  refine And.imp Same.quiet_of (And.imp Same.store_of (And.imp Same.ctl_of (And.imp Same.path_of id))) ?_
  unfold State.ethDown
  try dsimp only
  (repeat' split) <;> simp

@[simp] theorem State.pathIsUp_frame : ∀ s x1, Same.quiet s (State.pathIsUp s x1) ∧ Same.store s (State.pathIsUp s x1) ∧ Same.path s (State.pathIsUp s x1) ∧ (State.pathIsUp s x1).regs = s.regs ∧ (State.pathIsUp s x1).mode = s.mode ∧ (State.pathIsUp s x1).pwr = s.pwr ∧ (State.pathIsUp s x1).log = s.log ∧ (State.pathIsUp s x1).vlt = s.vlt ∧ (State.pathIsUp s x1).net = s.net ∧ (State.pathIsUp s x1).cxl = s.cxl ∧ (State.pathIsUp s x1).flt = s.flt := by
  intro s x1
  refine And.imp Same.quiet_of (And.imp Same.store_of (And.imp Same.path_of id)) ?_
  unfold State.pathIsUp
  try dsimp only
  (repeat' split) <;> simp

@[simp] theorem State.connNoRx_frame : ∀ s x1, Same.quiet s (State.connNoRx s x1) ∧ Same.ctl s (State.connNoRx s x1) ∧ Same.path s (State.connNoRx s x1) ∧ (State.connNoRx s x1).regs = s.regs ∧ (State.connNoRx s x1).log = s.log ∧ (State.connNoRx s x1).sht = s.sht ∧ (State.connNoRx s x1).pair = s.pair ∧ (State.connNoRx s x1).mem = s.mem ∧ (State.connNoRx s x1).vlt = s.vlt ∧ (State.connNoRx s x1).cxl = s.cxl ∧ (State.connNoRx s x1).fls = s.fls := by
  intro s x1
  refine And.imp Same.quiet_of (And.imp Same.ctl_of (And.imp Same.path_of id)) ?_
  unfold State.connNoRx
  try dsimp only
  (repeat' split) <;> simp

@[simp] theorem State.testRes_frame : ∀ s x1, Same.quiet s (State.testRes s x1) ∧ Same.store s (State.testRes s x1) ∧ Same.ctl s (State.testRes s x1) ∧ Same.links s (State.testRes s x1) ∧ (State.testRes s x1).out = s.out ∧ (State.testRes s x1).regs = s.regs ∧ (State.testRes s x1).ctrs = s.ctrs ∧ (State.testRes s x1).log = s.log ∧ (State.testRes s x1).addr = s.addr ∧ (State.testRes s x1).trk = s.trk ∧ (State.testRes s x1).tier = s.tier ∧ (State.testRes s x1).lc = s.lc ∧ (State.testRes s x1).ch = s.ch := by
  intro s x1
  refine And.imp Same.quiet_of (And.imp Same.store_of (And.imp Same.ctl_of (And.imp Same.links_of id))) ?_
  unfold State.testRes
  try dsimp only
  (repeat' split) <;> simp

@[simp] theorem State.endMove_frame : ∀ s x1, Same.quiet s (State.endMove s x1) ∧ Same.store s (State.endMove s x1) ∧ Same.ctl s (State.endMove s x1) ∧ Same.links s (State.endMove s x1) ∧ (State.endMove s x1).out = s.out ∧ (State.endMove s x1).regs = s.regs ∧ (State.endMove s x1).log = s.log ∧ (State.endMove s x1).addr = s.addr ∧ (State.endMove s x1).trk = s.trk ∧ (State.endMove s x1).lc = s.lc ∧ (State.endMove s x1).ch = s.ch ∧ (State.endMove s x1).ec = s.ec := by
  intro s x1
  refine And.imp Same.quiet_of (And.imp Same.store_of (And.imp Same.ctl_of (And.imp Same.links_of id))) ?_
  unfold State.endMove
  try dsimp only
  (repeat' split) <;> simp

@[simp] theorem State.commit_frame : ∀ s x1, Same.quiet s (State.commit s x1).1 ∧ (State.commit s x1).1.fresh = s.fresh ∧ (State.commit s x1).1.pwr = s.pwr ∧ (State.commit s x1).1.mem = s.mem ∧ (State.commit s x1).1.fls = s.fls := by
  intro s x1
  refine And.imp Same.quiet_of id ?_
  unfold State.commit
  repeat' split
  all_goals try (rename_i hh; have hh' := congrArg Prod.fst hh; dsimp only at hh'; subst hh')
  all_goals try (rename_i hh; have hh' := congrArg Prod.snd hh; dsimp only at hh'; subst hh')
  all_goals simp

@[simp] theorem State.dropLogSector_frame : ∀ s x1, Same.quiet s (State.dropLogSector s x1) ∧ Same.store s (State.dropLogSector s x1) ∧ Same.ctl s (State.dropLogSector s x1) ∧ Same.path s (State.dropLogSector s x1) ∧ Same.links s (State.dropLogSector s x1) ∧ (State.dropLogSector s x1).out = s.out ∧ (State.dropLogSector s x1).regs = s.regs ∧ (State.dropLogSector s x1).ctrs = s.ctrs := by
  intro s x1
  refine And.imp Same.quiet_of (And.imp Same.store_of (And.imp Same.ctl_of (And.imp Same.path_of (And.imp Same.links_of id)))) ?_
  unfold State.dropLogSector
  try dsimp only
  (repeat' split) <;> simp

@[simp] theorem State.fixCopyOne_frame : ∀ s x1, Same.quiet s (State.fixCopyOne s x1) ∧ Same.store s (State.fixCopyOne s x1) ∧ Same.ctl s (State.fixCopyOne s x1) ∧ Same.path s (State.fixCopyOne s x1) ∧ Same.links s (State.fixCopyOne s x1) ∧ (State.fixCopyOne s x1).out = s.out ∧ (State.fixCopyOne s x1).regs = s.regs ∧ (State.fixCopyOne s x1).ctrs = s.ctrs := by
  intro s x1
  refine And.imp Same.quiet_of (And.imp Same.store_of (And.imp Same.ctl_of (And.imp Same.path_of (And.imp Same.links_of id)))) ?_
  unfold State.fixCopyOne
  try dsimp only
  (repeat' split) <;> simp

@[simp] theorem State.fixCopy_frame : ∀ s, Same.quiet s (State.fixCopy s) ∧ Same.store s (State.fixCopy s) ∧ Same.ctl s (State.fixCopy s) ∧ Same.path s (State.fixCopy s) ∧ Same.links s (State.fixCopy s) ∧ (State.fixCopy s).out = s.out ∧ (State.fixCopy s).regs = s.regs ∧ (State.fixCopy s).ctrs = s.ctrs := by
  intro s
  refine And.imp Same.quiet_of (And.imp Same.store_of (And.imp Same.ctl_of (And.imp Same.path_of (And.imp Same.links_of id)))) ?_
  unfold State.fixCopy
  try dsimp only
  (repeat' split) <;> simp

@[simp] theorem State.fixEraseNext_frame : ∀ s, Same.quiet s (State.fixEraseNext s) ∧ Same.ctl s (State.fixEraseNext s) ∧ Same.path s (State.fixEraseNext s) ∧ Same.links s (State.fixEraseNext s) ∧ (State.fixEraseNext s).out = s.out ∧ (State.fixEraseNext s).fresh = s.fresh ∧ (State.fixEraseNext s).regs = s.regs ∧ (State.fixEraseNext s).ctrs = s.ctrs ∧ (State.fixEraseNext s).sht = s.sht ∧ (State.fixEraseNext s).mem = s.mem := by
  intro s
  refine And.imp Same.quiet_of (And.imp Same.ctl_of (And.imp Same.path_of (And.imp Same.links_of id))) ?_
  unfold State.fixEraseNext
  try dsimp only
  (repeat' split) <;> simp

@[simp] theorem State.fixErased_frame : ∀ s x1, Same.quiet s (State.fixErased s x1) ∧ Same.ctl s (State.fixErased s x1) ∧ Same.path s (State.fixErased s x1) ∧ Same.links s (State.fixErased s x1) ∧ (State.fixErased s x1).out = s.out ∧ (State.fixErased s x1).fresh = s.fresh ∧ (State.fixErased s x1).regs = s.regs ∧ (State.fixErased s x1).ctrs = s.ctrs ∧ (State.fixErased s x1).sht = s.sht ∧ (State.fixErased s x1).mem = s.mem := by
  intro s x1
  refine And.imp Same.quiet_of (And.imp Same.ctl_of (And.imp Same.path_of (And.imp Same.links_of id))) ?_
  unfold State.fixErased
  try dsimp only
  (repeat' split) <;> simp

@[simp] theorem State.netArrive_frame : ∀ s x1, Same.quiet s (State.netArrive s x1) ∧ Same.store s (State.netArrive s x1) ∧ Same.ctl s (State.netArrive s x1) := by
  intro s x1
  refine And.imp Same.quiet_of (And.imp Same.store_of Same.ctl_of) ?_
  unfold State.netArrive
  try dsimp only
  (repeat' split) <;> simp

@[simp] theorem State.bootFirmware_frame : ∀ s, Same.quiet s (State.bootFirmware s).1 ∧ Same.store s (State.bootFirmware s).1 ∧ Same.path s (State.bootFirmware s).1 ∧ Same.links s (State.bootFirmware s).1 ∧ (State.bootFirmware s).1.out = s.out ∧ (State.bootFirmware s).1.regs = s.regs ∧ (State.bootFirmware s).1.mode = s.mode ∧ (State.bootFirmware s).1.pwr = s.pwr ∧ (State.bootFirmware s).1.log = s.log ∧ (State.bootFirmware s).1.flt = s.flt := by
  intro s
  refine And.imp Same.quiet_of (And.imp Same.store_of (And.imp Same.path_of (And.imp Same.links_of id))) ?_
  unfold State.bootFirmware
  try dsimp only
  (repeat' split) <;> simp

@[simp] theorem State.grantCredits_frame : ∀ s x1 x2, Same.quiet s (State.grantCredits s x1 x2) ∧ Same.store s (State.grantCredits s x1 x2) ∧ Same.ctl s (State.grantCredits s x1 x2) ∧ Same.path s (State.grantCredits s x1 x2) ∧ (State.grantCredits s x1 x2).out = s.out ∧ (State.grantCredits s x1 x2).regs = s.regs ∧ (State.grantCredits s x1 x2).ctrs = s.ctrs ∧ (State.grantCredits s x1 x2).log = s.log ∧ (State.grantCredits s x1 x2).twl = s.twl ∧ (State.grantCredits s x1 x2).pair = s.pair ∧ (State.grantCredits s x1 x2).vlt = s.vlt ∧ (State.grantCredits s x1 x2).net = s.net := by
  intro s x1 x2
  refine And.imp Same.quiet_of (And.imp Same.store_of (And.imp Same.ctl_of (And.imp Same.path_of id))) ?_
  unfold State.grantCredits
  try dsimp only
  (repeat' split) <;> simp

@[simp] theorem State.commitJob_frame : ∀ s x1, Same.quiet s (State.commitJob s x1) ∧ Same.store s (State.commitJob s x1) ∧ Same.path s (State.commitJob s x1) ∧ Same.links s (State.commitJob s x1) ∧ (State.commitJob s x1).out = s.out ∧ (State.commitJob s x1).regs = s.regs ∧ (State.commitJob s x1).ctrs = s.ctrs ∧ (State.commitJob s x1).mode = s.mode ∧ (State.commitJob s x1).pwr = s.pwr ∧ (State.commitJob s x1).log = s.log ∧ (State.commitJob s x1).flt = s.flt := by
  intro s x1
  refine And.imp Same.quiet_of (And.imp Same.store_of (And.imp Same.path_of (And.imp Same.links_of id))) ?_
  unfold State.commitJob
  try dsimp only
  (repeat' split) <;> simp

@[simp] theorem State.extentEnds_frame : ∀ s x1, Same.quiet s (State.extentEnds s x1) ∧ Same.store s (State.extentEnds s x1) ∧ Same.ctl s (State.extentEnds s x1) ∧ Same.path s (State.extentEnds s x1) ∧ (State.extentEnds s x1).out = s.out ∧ (State.extentEnds s x1).regs = s.regs ∧ (State.extentEnds s x1).log = s.log ∧ (State.extentEnds s x1).twl = s.twl ∧ (State.extentEnds s x1).vlt = s.vlt ∧ (State.extentEnds s x1).net = s.net ∧ (State.extentEnds s x1).cxl = s.cxl := by
  intro s x1
  refine And.imp Same.quiet_of (And.imp Same.store_of (And.imp Same.ctl_of (And.imp Same.path_of id))) ?_
  unfold State.extentEnds
  try dsimp only
  (repeat' split) <;> simp

@[simp] theorem State.flsFailed_frame : ∀ s x1 x2, Same.quiet s (State.flsFailed s x1 x2) ∧ Same.path s (State.flsFailed s x1 x2) ∧ Same.links s (State.flsFailed s x1 x2) ∧ (State.flsFailed s x1 x2).out = s.out ∧ (State.flsFailed s x1 x2).fresh = s.fresh ∧ (State.flsFailed s x1 x2).regs = s.regs ∧ (State.flsFailed s x1 x2).mode = s.mode ∧ (State.flsFailed s x1 x2).pwr = s.pwr ∧ (State.flsFailed s x1 x2).log = s.log ∧ (State.flsFailed s x1 x2).sht = s.sht ∧ (State.flsFailed s x1 x2).mem = s.mem ∧ (State.flsFailed s x1 x2).cmd = s.cmd := by
  intro s x1 x2
  refine And.imp Same.quiet_of (And.imp Same.path_of (And.imp Same.links_of id)) ?_
  unfold State.flsFailed
  try dsimp only
  (repeat' split) <;> simp

@[simp] theorem State.setFlsData_frame : ∀ s x1, Same.quiet s (State.setFlsData s x1) ∧ Same.store s (State.setFlsData s x1) ∧ Same.ctl s (State.setFlsData s x1) ∧ Same.path s (State.setFlsData s x1) ∧ Same.links s (State.setFlsData s x1) ∧ (State.setFlsData s x1).out = s.out ∧ (State.setFlsData s x1).ctrs = s.ctrs ∧ (State.setFlsData s x1).log = s.log := by
  intro s x1
  refine And.imp Same.quiet_of (And.imp Same.store_of (And.imp Same.ctl_of (And.imp Same.path_of (And.imp Same.links_of id)))) ?_
  unfold State.setFlsData
  try dsimp only
  (repeat' split) <;> simp

@[simp] theorem State.unqueue_frame : ∀ s x1, Same.quiet s (State.unqueue s x1) ∧ Same.store s (State.unqueue s x1) ∧ Same.ctl s (State.unqueue s x1) ∧ Same.links s (State.unqueue s x1) ∧ (State.unqueue s x1).out = s.out ∧ (State.unqueue s x1).regs = s.regs ∧ (State.unqueue s x1).ctrs = s.ctrs ∧ (State.unqueue s x1).log = s.log ∧ (State.unqueue s x1).addr = s.addr ∧ (State.unqueue s x1).trk = s.trk ∧ (State.unqueue s x1).tier = s.tier ∧ (State.unqueue s x1).lc = s.lc ∧ (State.unqueue s x1).ec = s.ec := by
  intro s x1
  refine And.imp Same.quiet_of (And.imp Same.store_of (And.imp Same.ctl_of (And.imp Same.links_of id))) ?_
  unfold State.unqueue
  try dsimp only
  (repeat' split) <;> simp

@[simp] theorem State.unremap_frame : ∀ s x1, Same.quiet s (State.unremap s x1) ∧ Same.ctl s (State.unremap s x1) ∧ Same.links s (State.unremap s x1) ∧ (State.unremap s x1).out = s.out ∧ (State.unremap s x1).fresh = s.fresh ∧ (State.unremap s x1).regs = s.regs ∧ (State.unremap s x1).sht = s.sht ∧ (State.unremap s x1).addr = s.addr ∧ (State.unremap s x1).trk = s.trk ∧ (State.unremap s x1).tier = s.tier ∧ (State.unremap s x1).lc = s.lc ∧ (State.unremap s x1).fls = s.fls := by
  intro s x1
  refine And.imp Same.quiet_of (And.imp Same.ctl_of (And.imp Same.links_of id)) ?_
  unfold State.unremap
  try dsimp only
  (repeat' split) <;> simp

@[simp] theorem State.assistPoison_frame : ∀ s x1, Same.quiet s (State.assistPoison s x1) ∧ Same.store s (State.assistPoison s x1) ∧ Same.ctl s (State.assistPoison s x1) ∧ (State.assistPoison s x1).tier = s.tier := by
  intro s x1
  refine And.imp Same.quiet_of (And.imp Same.store_of (And.imp Same.ctl_of id)) ?_
  unfold State.assistPoison
  try dsimp only
  (repeat' split) <;> simp

@[simp] theorem State.leafWritten_frame : ∀ s x1, Same.quiet s (State.leafWritten s x1) ∧ Same.store s (State.leafWritten s x1) ∧ Same.ctl s (State.leafWritten s x1) ∧ Same.path s (State.leafWritten s x1) ∧ (State.leafWritten s x1).out = s.out ∧ (State.leafWritten s x1).regs = s.regs ∧ (State.leafWritten s x1).log = s.log ∧ (State.leafWritten s x1).twl = s.twl ∧ (State.leafWritten s x1).pair = s.pair ∧ (State.leafWritten s x1).net = s.net ∧ (State.leafWritten s x1).cxl = s.cxl := by
  intro s x1
  refine And.imp Same.quiet_of (And.imp Same.store_of (And.imp Same.ctl_of (And.imp Same.path_of id))) ?_
  unfold State.leafWritten
  try dsimp only
  (repeat' split) <;> simp

@[simp] theorem State.preserveDown_frame : ∀ s x1 x2, Same.quiet s (State.preserveDown s x1 x2) ∧ Same.store s (State.preserveDown s x1 x2) ∧ Same.path s (State.preserveDown s x1 x2) ∧ (State.preserveDown s x1 x2).out = s.out ∧ (State.preserveDown s x1 x2).regs = s.regs ∧ (State.preserveDown s x1 x2).twl = s.twl ∧ (State.preserveDown s x1 x2).pair = s.pair ∧ (State.preserveDown s x1 x2).net = s.net ∧ (State.preserveDown s x1 x2).flt = s.flt ∧ (State.preserveDown s x1 x2).cmd = s.cmd := by
  intro s x1 x2
  refine And.imp Same.quiet_of (And.imp Same.store_of (And.imp Same.path_of id)) ?_
  unfold State.preserveDown
  try dsimp only
  (repeat' split) <;> simp

@[simp] theorem State.preserveTrigger_frame : ∀ s x1, Same.quiet s (State.preserveTrigger s x1) ∧ Same.store s (State.preserveTrigger s x1) ∧ (State.preserveTrigger s x1).regs = s.regs ∧ (State.preserveTrigger s x1).pwr = s.pwr ∧ (State.preserveTrigger s x1).addr = s.addr ∧ (State.preserveTrigger s x1).tier = s.tier ∧ (State.preserveTrigger s x1).lc = s.lc ∧ (State.preserveTrigger s x1).ec = s.ec ∧ (State.preserveTrigger s x1).net = s.net ∧ (State.preserveTrigger s x1).cxl = s.cxl ∧ (State.preserveTrigger s x1).flt = s.flt := by
  intro s x1
  refine And.imp Same.quiet_of (And.imp Same.store_of id) ?_
  unfold State.preserveTrigger
  try dsimp only
  (repeat' split) <;> simp

@[simp] theorem State.railLost_frame : ∀ s x1, Same.quiet s (State.railLost s x1) ∧ Same.store s (State.railLost s x1) ∧ (State.railLost s x1).regs = s.regs ∧ (State.railLost s x1).addr = s.addr ∧ (State.railLost s x1).tier = s.tier ∧ (State.railLost s x1).lc = s.lc ∧ (State.railLost s x1).ec = s.ec ∧ (State.railLost s x1).net = s.net ∧ (State.railLost s x1).flt = s.flt := by
  intro s x1
  refine And.imp Same.quiet_of (And.imp Same.store_of id) ?_
  unfold State.railLost
  try dsimp only
  (repeat' split) <;> simp

@[simp] theorem State.reloadNet_frame : ∀ s x1 x2 x3 x4 x5, Same.quiet s (State.reloadNet s x1 x2 x3 x4 x5) ∧ Same.store s (State.reloadNet s x1 x2 x3 x4 x5) ∧ Same.ctl s (State.reloadNet s x1 x2 x3 x4 x5) ∧ Same.path s (State.reloadNet s x1 x2 x3 x4 x5) ∧ (State.reloadNet s x1 x2 x3 x4 x5).out = s.out ∧ (State.reloadNet s x1 x2 x3 x4 x5).regs = s.regs ∧ (State.reloadNet s x1 x2 x3 x4 x5).ctrs = s.ctrs ∧ (State.reloadNet s x1 x2 x3 x4 x5).log = s.log ∧ (State.reloadNet s x1 x2 x3 x4 x5).twl = s.twl ∧ (State.reloadNet s x1 x2 x3 x4 x5).pair = s.pair ∧ (State.reloadNet s x1 x2 x3 x4 x5).vlt = s.vlt ∧ (State.reloadNet s x1 x2 x3 x4 x5).cxl = s.cxl := by
  intro s x1 x2 x3 x4 x5
  refine And.imp Same.quiet_of (And.imp Same.store_of (And.imp Same.ctl_of (And.imp Same.path_of id))) ?_
  unfold State.reloadNet
  try dsimp only
  (repeat' split) <;> simp

@[simp] theorem State.rebuildMap_frame : ∀ s, Same.quiet s (State.rebuildMap s) ∧ Same.store s (State.rebuildMap s) ∧ (State.rebuildMap s).out = s.out ∧ (State.rebuildMap s).regs = s.regs ∧ (State.rebuildMap s).mode = s.mode ∧ (State.rebuildMap s).pwr = s.pwr ∧ (State.rebuildMap s).trk = s.trk ∧ (State.rebuildMap s).twl = s.twl ∧ (State.rebuildMap s).tier = s.tier ∧ (State.rebuildMap s).lc = s.lc ∧ (State.rebuildMap s).ch = s.ch ∧ (State.rebuildMap s).ec = s.ec ∧ (State.rebuildMap s).cxl = s.cxl ∧ (State.rebuildMap s).flt = s.flt := by
  intro s
  refine And.imp Same.quiet_of (And.imp Same.store_of id) ?_
  unfold State.rebuildMap
  try dsimp only
  (repeat' split) <;> simp

@[simp] theorem State.landCell_frame : ∀ s x1 x2, Same.quiet s (State.landCell s x1 x2) ∧ Same.ctl s (State.landCell s x1 x2) ∧ Same.links s (State.landCell s x1 x2) ∧ (State.landCell s x1 x2).out = s.out ∧ (State.landCell s x1 x2).fresh = s.fresh ∧ (State.landCell s x1 x2).regs = s.regs ∧ (State.landCell s x1 x2).ctrs = s.ctrs ∧ (State.landCell s x1 x2).log = s.log ∧ (State.landCell s x1 x2).sht = s.sht ∧ (State.landCell s x1 x2).addr = s.addr ∧ (State.landCell s x1 x2).trk = s.trk ∧ (State.landCell s x1 x2).tier = s.tier ∧ (State.landCell s x1 x2).lc = s.lc ∧ (State.landCell s x1 x2).ec = s.ec ∧ (State.landCell s x1 x2).fls = s.fls := by
  intro s x1 x2
  refine And.imp Same.quiet_of (And.imp Same.ctl_of (And.imp Same.links_of id)) ?_
  unfold State.landCell
  try dsimp only
  (repeat' split) <;> simp

@[simp] theorem State.cleanSent_frame : ∀ s, Same.quiet s (State.cleanSent s) ∧ Same.store s (State.cleanSent s) ∧ Same.ctl s (State.cleanSent s) ∧ Same.path s (State.cleanSent s) ∧ (State.cleanSent s).out = s.out ∧ (State.cleanSent s).regs = s.regs ∧ (State.cleanSent s).ctrs = s.ctrs ∧ (State.cleanSent s).log = s.log ∧ (State.cleanSent s).pair = s.pair ∧ (State.cleanSent s).vlt = s.vlt ∧ (State.cleanSent s).net = s.net ∧ (State.cleanSent s).cxl = s.cxl := by
  intro s
  refine And.imp Same.quiet_of (And.imp Same.store_of (And.imp Same.ctl_of (And.imp Same.path_of id))) ?_
  unfold State.cleanSent
  try dsimp only
  (repeat' split) <;> simp

@[simp] theorem State.saveTables_frame : ∀ s, Same.quiet s (State.saveTables s) ∧ Same.store s (State.saveTables s) ∧ Same.ctl s (State.saveTables s) ∧ Same.path s (State.saveTables s) ∧ (State.saveTables s).out = s.out ∧ (State.saveTables s).regs = s.regs ∧ (State.saveTables s).ctrs = s.ctrs ∧ (State.saveTables s).log = s.log ∧ (State.saveTables s).twl = s.twl ∧ (State.saveTables s).pair = s.pair ∧ (State.saveTables s).net = s.net ∧ (State.saveTables s).cxl = s.cxl := by
  intro s
  refine And.imp Same.quiet_of (And.imp Same.store_of (And.imp Same.ctl_of (And.imp Same.path_of id))) ?_
  unfold State.saveTables
  try dsimp only
  (repeat' split) <;> simp

@[simp] theorem State.resend_frame : ∀ s x1, Same.quiet s (State.resend s x1) ∧ Same.store s (State.resend s x1) ∧ Same.ctl s (State.resend s x1) ∧ Same.path s (State.resend s x1) ∧ (State.resend s x1).regs = s.regs ∧ (State.resend s x1).log = s.log ∧ (State.resend s x1).pair = s.pair ∧ (State.resend s x1).vlt = s.vlt ∧ (State.resend s x1).net = s.net ∧ (State.resend s x1).cxl = s.cxl := by
  intro s x1
  refine And.imp Same.quiet_of (And.imp Same.store_of (And.imp Same.ctl_of (And.imp Same.path_of id))) ?_
  unfold State.resend
  try dsimp only
  (repeat' split) <;> simp

@[simp] theorem State.writeSide_frame : ∀ s x1 x2, Same.ctl s (State.writeSide s x1 x2) ∧ Same.path s (State.writeSide s x1 x2) ∧ (State.writeSide s x1 x2).pending = s.pending ∧ (State.writeSide s x1 x2).out = s.out ∧ (State.writeSide s x1 x2).fresh = s.fresh ∧ (State.writeSide s x1 x2).regs = s.regs ∧ (State.writeSide s x1 x2).rsc = s.rsc ∧ (State.writeSide s x1 x2).copies = s.copies ∧ (State.writeSide s x1 x2).ctrs = s.ctrs ∧ (State.writeSide s x1 x2).latched = s.latched ∧ (State.writeSide s x1 x2).tim = s.tim ∧ (State.writeSide s x1 x2).log = s.log ∧ (State.writeSide s x1 x2).sht = s.sht ∧ (State.writeSide s x1 x2).unlocks = s.unlocks ∧ (State.writeSide s x1 x2).twl = s.twl ∧ (State.writeSide s x1 x2).pair = s.pair ∧ (State.writeSide s x1 x2).mem = s.mem ∧ (State.writeSide s x1 x2).vlt = s.vlt ∧ (State.writeSide s x1 x2).net = s.net := by
  intro s x1 x2
  refine And.imp Same.ctl_of (And.imp Same.path_of id) ?_
  unfold State.writeSide
  try dsimp only
  (repeat' split) <;> simp

@[simp] theorem State.proposeAgain_frame : ∀ s x1, Same.quiet s (State.proposeAgain s x1) ∧ Same.store s (State.proposeAgain s x1) ∧ Same.ctl s (State.proposeAgain s x1) ∧ Same.path s (State.proposeAgain s x1) ∧ (State.proposeAgain s x1).regs = s.regs ∧ (State.proposeAgain s x1).log = s.log ∧ (State.proposeAgain s x1).pair = s.pair ∧ (State.proposeAgain s x1).vlt = s.vlt ∧ (State.proposeAgain s x1).net = s.net ∧ (State.proposeAgain s x1).cxl = s.cxl := by
  intro s x1
  refine And.imp Same.quiet_of (And.imp Same.store_of (And.imp Same.ctl_of (And.imp Same.path_of id))) ?_
  unfold State.proposeAgain
  try dsimp only
  (repeat' split) <;> simp

@[simp] theorem State.fill_frame : ∀ s x1 x2 x3 x4 x5, Same.quiet s (State.fill s x1 x2 x3 x4 x5).1 ∧ Same.store s (State.fill s x1 x2 x3 x4 x5).1 ∧ Same.ctl s (State.fill s x1 x2 x3 x4 x5).1 ∧ Same.links s (State.fill s x1 x2 x3 x4 x5).1 ∧ (State.fill s x1 x2 x3 x4 x5).1.out = s.out ∧ (State.fill s x1 x2 x3 x4 x5).1.regs = s.regs ∧ (State.fill s x1 x2 x3 x4 x5).1.log = s.log ∧ (State.fill s x1 x2 x3 x4 x5).1.addr = s.addr ∧ (State.fill s x1 x2 x3 x4 x5).1.trk = s.trk ∧ (State.fill s x1 x2 x3 x4 x5).1.tier = s.tier := by
  intro s x1 x2 x3 x4 x5
  refine And.imp Same.quiet_of (And.imp Same.store_of (And.imp Same.ctl_of (And.imp Same.links_of id))) ?_
  unfold State.fill
  try dsimp only
  (repeat' split) <;> simp

@[simp] theorem State.recordEvent_frame : ∀ s x1 x2, Same.quiet s (State.recordEvent s x1 x2) ∧ Same.store s (State.recordEvent s x1 x2) ∧ Same.path s (State.recordEvent s x1 x2) ∧ (State.recordEvent s x1 x2).regs = s.regs ∧ (State.recordEvent s x1 x2).mode = s.mode ∧ (State.recordEvent s x1 x2).pwr = s.pwr ∧ (State.recordEvent s x1 x2).twl = s.twl ∧ (State.recordEvent s x1 x2).pair = s.pair ∧ (State.recordEvent s x1 x2).vlt = s.vlt ∧ (State.recordEvent s x1 x2).net = s.net ∧ (State.recordEvent s x1 x2).cmd = s.cmd := by
  intro s x1 x2
  refine And.imp Same.quiet_of (And.imp Same.store_of (And.imp Same.path_of id)) ?_
  unfold State.recordEvent
  repeat' split
  all_goals try (rename_i hh; have hh' := congrArg Prod.fst hh; dsimp only at hh'; subst hh')
  all_goals try (rename_i hh; have hh' := congrArg Prod.snd hh; dsimp only at hh'; subst hh')
  all_goals simp

@[simp] theorem State.energyLow_frame : ∀ s, Same.quiet s (State.energyLow s) ∧ Same.store s (State.energyLow s) ∧ (State.energyLow s).regs = s.regs ∧ (State.energyLow s).addr = s.addr ∧ (State.energyLow s).tier = s.tier ∧ (State.energyLow s).lc = s.lc ∧ (State.energyLow s).ec = s.ec ∧ (State.energyLow s).net = s.net := by
  intro s
  refine And.imp Same.quiet_of (And.imp Same.store_of id) ?_
  unfold State.energyLow
  try dsimp only
  (repeat' split) <;> simp

@[simp] theorem State.bankReading_frame : ∀ s x1, Same.quiet s (State.bankReading s x1) ∧ Same.store s (State.bankReading s x1) := by
  intro s x1
  refine And.imp Same.quiet_of Same.store_of ?_
  unfold State.bankReading
  try dsimp only
  (repeat' split) <;> simp

@[simp] theorem State.supervisorRead_frame : ∀ s x1 x2, Same.quiet s (State.supervisorRead s x1 x2) ∧ Same.store s (State.supervisorRead s x1 x2) := by
  intro s x1 x2
  refine And.imp Same.quiet_of Same.store_of ?_
  unfold State.supervisorRead
  try dsimp only
  (repeat' split) <;> simp

@[simp] theorem State.scrubPast_frame : ∀ s x1, Same.quiet s (State.scrubPast s x1) ∧ Same.store s (State.scrubPast s x1) ∧ Same.ctl s (State.scrubPast s x1) ∧ Same.links s (State.scrubPast s x1) ∧ (State.scrubPast s x1).out = s.out ∧ (State.scrubPast s x1).regs = s.regs ∧ (State.scrubPast s x1).ctrs = s.ctrs ∧ (State.scrubPast s x1).log = s.log ∧ (State.scrubPast s x1).addr = s.addr ∧ (State.scrubPast s x1).trk = s.trk ∧ (State.scrubPast s x1).tier = s.tier ∧ (State.scrubPast s x1).lc = s.lc ∧ (State.scrubPast s x1).ch = s.ch := by
  intro s x1
  refine And.imp Same.quiet_of (And.imp Same.store_of (And.imp Same.ctl_of (And.imp Same.links_of id))) ?_
  unfold State.scrubPast
  try dsimp only
  (repeat' split) <;> simp

@[simp] theorem State.attrTry_frame : ∀ s, Same.quiet s (State.attrTry s) ∧ Same.store s (State.attrTry s) ∧ (State.attrTry s).mode = s.mode ∧ (State.attrTry s).pwr = s.pwr ∧ (State.attrTry s).flt = s.flt := by
  intro s
  refine And.imp Same.quiet_of (And.imp Same.store_of id) ?_
  unfold State.attrTry
  try dsimp only
  (repeat' split) <;> simp

@[simp] theorem State.applyCkpt_frame : ∀ s x1, Same.quiet s (State.applyCkpt s x1) ∧ Same.store s (State.applyCkpt s x1) ∧ Same.ctl s (State.applyCkpt s x1) ∧ Same.path s (State.applyCkpt s x1) ∧ (State.applyCkpt s x1).out = s.out ∧ (State.applyCkpt s x1).regs = s.regs ∧ (State.applyCkpt s x1).ctrs = s.ctrs ∧ (State.applyCkpt s x1).log = s.log ∧ (State.applyCkpt s x1).twl = s.twl ∧ (State.applyCkpt s x1).pair = s.pair ∧ (State.applyCkpt s x1).vlt = s.vlt ∧ (State.applyCkpt s x1).cxl = s.cxl := by
  intro s x1
  refine And.imp Same.quiet_of (And.imp Same.store_of (And.imp Same.ctl_of (And.imp Same.path_of id))) ?_
  revert s x1
  intro s k
  unfold State.applyCkpt
  split
  · split
    · simp
    · simp only [State.setConn_frame, and_self]
  · simp

@[simp] theorem State.applyCkpts_frame : ∀ s x1, Same.quiet s (State.applyCkpts s x1) ∧ Same.store s (State.applyCkpts s x1) ∧ Same.ctl s (State.applyCkpts s x1) ∧ Same.path s (State.applyCkpts s x1) ∧ (State.applyCkpts s x1).out = s.out ∧ (State.applyCkpts s x1).regs = s.regs ∧ (State.applyCkpts s x1).ctrs = s.ctrs ∧ (State.applyCkpts s x1).log = s.log ∧ (State.applyCkpts s x1).twl = s.twl ∧ (State.applyCkpts s x1).pair = s.pair ∧ (State.applyCkpts s x1).vlt = s.vlt ∧ (State.applyCkpts s x1).cxl = s.cxl := by
  intro s x1
  refine And.imp Same.quiet_of (And.imp Same.store_of (And.imp Same.ctl_of (And.imp Same.path_of id))) ?_
  unfold State.applyCkpts
  try dsimp only
  (repeat' split) <;> simp

@[simp] theorem State.formStep_frame : ∀ s, Same.quiet s (State.formStep s) ∧ Same.store s (State.formStep s) ∧ (State.formStep s).pwr = s.pwr ∧ (State.formStep s).flt = s.flt := by
  intro s
  refine And.imp Same.quiet_of (And.imp Same.store_of id) ?_
  unfold State.formStep
  try dsimp only
  (repeat' split) <;> simp

@[simp] theorem State.logBoot_frame : ∀ s, Same.quiet s (State.logBoot s) ∧ Same.store s (State.logBoot s) ∧ Same.path s (State.logBoot s) ∧ Same.links s (State.logBoot s) ∧ (State.logBoot s).out = s.out ∧ (State.logBoot s).regs = s.regs ∧ (State.logBoot s).mode = s.mode ∧ (State.logBoot s).flt = s.flt ∧ (State.logBoot s).cmd = s.cmd := by
  intro s
  refine And.imp Same.quiet_of (And.imp Same.store_of (And.imp Same.path_of (And.imp Same.links_of id))) ?_
  unfold State.logBoot
  try dsimp only
  (repeat' split) <;> simp

@[simp] theorem State.guardTakes_frame : ∀ s x1 x2, Same.store s (State.guardTakes s x1 x2).2 ∧ Same.ctl s (State.guardTakes s x1 x2).2 ∧ Same.path s (State.guardTakes s x1 x2).2 ∧ Same.links s (State.guardTakes s x1 x2).2 ∧ (State.guardTakes s x1 x2).2.pending = s.pending ∧ (State.guardTakes s x1 x2).2.out = s.out ∧ (State.guardTakes s x1 x2).2.regs = s.regs ∧ (State.guardTakes s x1 x2).2.rsc = s.rsc ∧ (State.guardTakes s x1 x2).2.copies = s.copies ∧ (State.guardTakes s x1 x2).2.latched = s.latched ∧ (State.guardTakes s x1 x2).2.tim = s.tim ∧ (State.guardTakes s x1 x2).2.sb0 = s.sb0 ∧ (State.guardTakes s x1 x2).2.sb1 = s.sb1 ∧ (State.guardTakes s x1 x2).2.sb2 = s.sb2 ∧ (State.guardTakes s x1 x2).2.sb3 = s.sb3 ∧ (State.guardTakes s x1 x2).2.log = s.log := by
  intro s x1 x2
  refine And.imp Same.store_of (And.imp Same.ctl_of (And.imp Same.path_of (And.imp Same.links_of id))) ?_
  unfold State.guardTakes
  try dsimp only
  (repeat' split) <;> simp

@[simp] theorem State.connEndedRx_frame : ∀ s x1, Same.quiet s (State.connEndedRx s x1) ∧ Same.store s (State.connEndedRx s x1) ∧ Same.ctl s (State.connEndedRx s x1) ∧ Same.path s (State.connEndedRx s x1) ∧ (State.connEndedRx s x1).regs = s.regs ∧ (State.connEndedRx s x1).log = s.log ∧ (State.connEndedRx s x1).twl = s.twl ∧ (State.connEndedRx s x1).pair = s.pair ∧ (State.connEndedRx s x1).vlt = s.vlt ∧ (State.connEndedRx s x1).cxl = s.cxl := by
  intro s x1
  refine And.imp Same.quiet_of (And.imp Same.store_of (And.imp Same.ctl_of (And.imp Same.path_of id))) ?_
  unfold State.connEndedRx
  try dsimp only
  (repeat' split) <;> simp

@[simp] theorem State.replayNotify_frame : ∀ s x1, Same.store s (State.replayNotify s x1) ∧ Same.ctl s (State.replayNotify s x1) ∧ Same.path s (State.replayNotify s x1) ∧ Same.links s (State.replayNotify s x1) ∧ (State.replayNotify s x1).pending = s.pending ∧ (State.replayNotify s x1).out = s.out ∧ (State.replayNotify s x1).regs = s.regs ∧ (State.replayNotify s x1).rsc = s.rsc ∧ (State.replayNotify s x1).copies = s.copies ∧ (State.replayNotify s x1).latched = s.latched ∧ (State.replayNotify s x1).tim = s.tim ∧ (State.replayNotify s x1).unlocks = s.unlocks := by
  intro s x1
  refine And.imp Same.store_of (And.imp Same.ctl_of (And.imp Same.path_of (And.imp Same.links_of id))) ?_
  unfold State.replayNotify
  try dsimp only
  (repeat' split) <;> simp

@[simp] theorem State.replayEvents_frame : ∀ s, Same.store s (State.replayEvents s) ∧ Same.path s (State.replayEvents s) ∧ Same.links s (State.replayEvents s) ∧ (State.replayEvents s).pending = s.pending ∧ (State.replayEvents s).out = s.out ∧ (State.replayEvents s).regs = s.regs ∧ (State.replayEvents s).rsc = s.rsc ∧ (State.replayEvents s).copies = s.copies ∧ (State.replayEvents s).latched = s.latched ∧ (State.replayEvents s).mode = s.mode ∧ (State.replayEvents s).tim = s.tim ∧ (State.replayEvents s).unlocks = s.unlocks ∧ (State.replayEvents s).flt = s.flt ∧ (State.replayEvents s).cmd = s.cmd := by
  intro s
  refine And.imp Same.store_of (And.imp Same.path_of (And.imp Same.links_of id)) ?_
  unfold State.replayEvents
  try dsimp only
  (repeat' split) <;> simp

@[simp] theorem State.sbStore_frame : ∀ s x1 x2, Same.quiet s (State.sbStore s x1 x2) ∧ Same.store s (State.sbStore s x1 x2) ∧ Same.ctl s (State.sbStore s x1 x2) ∧ Same.path s (State.sbStore s x1 x2) ∧ Same.links s (State.sbStore s x1 x2) ∧ (State.sbStore s x1 x2).out = s.out ∧ (State.sbStore s x1 x2).ctrs = s.ctrs ∧ (State.sbStore s x1 x2).log = s.log := by
  intro s x1 x2
  refine And.imp Same.quiet_of (And.imp Same.store_of (And.imp Same.ctl_of (And.imp Same.path_of (And.imp Same.links_of id)))) ?_
  unfold State.sbStore
  try dsimp only
  (repeat' split) <;> simp

@[simp] theorem State.dropTransfer_frame : ∀ s x1, Same.quiet s (State.dropTransfer s x1) ∧ Same.path s (State.dropTransfer s x1) ∧ Same.links s (State.dropTransfer s x1) ∧ (State.dropTransfer s x1).out = s.out ∧ (State.dropTransfer s x1).fresh = s.fresh ∧ (State.dropTransfer s x1).regs = s.regs ∧ (State.dropTransfer s x1).ctrs = s.ctrs ∧ (State.dropTransfer s x1).mode = s.mode ∧ (State.dropTransfer s x1).pwr = s.pwr ∧ (State.dropTransfer s x1).log = s.log ∧ (State.dropTransfer s x1).sht = s.sht ∧ (State.dropTransfer s x1).mem = s.mem ∧ (State.dropTransfer s x1).flt = s.flt := by
  intro s x1
  refine And.imp Same.quiet_of (And.imp Same.path_of (And.imp Same.links_of id)) ?_
  unfold State.dropTransfer
  try dsimp only
  (repeat' split) <;> simp

@[simp] theorem State.resetIo_frame : ∀ s x1 x2, Same.quiet s (State.resetIo s x1 x2) ∧ Same.path s (State.resetIo s x1 x2) ∧ (State.resetIo s x1 x2).out = s.out ∧ (State.resetIo s x1 x2).fresh = s.fresh ∧ (State.resetIo s x1 x2).regs = s.regs ∧ (State.resetIo s x1 x2).mode = s.mode ∧ (State.resetIo s x1 x2).pwr = s.pwr ∧ (State.resetIo s x1 x2).sht = s.sht ∧ (State.resetIo s x1 x2).twl = s.twl ∧ (State.resetIo s x1 x2).mem = s.mem ∧ (State.resetIo s x1 x2).vlt = s.vlt ∧ (State.resetIo s x1 x2).net = s.net ∧ (State.resetIo s x1 x2).flt = s.flt := by
  intro s x1 x2
  refine And.imp Same.quiet_of (And.imp Same.path_of id) ?_
  unfold State.resetIo
  try dsimp only
  (repeat' split) <;> simp

@[simp] theorem State.ranIn_frame : ∀ s x1, Same.quiet s (State.ranIn s x1) ∧ Same.store s (State.ranIn s x1) ∧ (State.ranIn s x1).mode = s.mode ∧ (State.ranIn s x1).pwr = s.pwr ∧ (State.ranIn s x1).flt = s.flt := by
  intro s x1
  refine And.imp Same.quiet_of (And.imp Same.store_of id) ?_
  unfold State.ranIn
  try dsimp only
  (repeat' split) <;> simp

@[simp] theorem State.issueReq_frame : ∀ s x1 x2, Same.quiet s (State.issueReq s x1 x2) ∧ Same.store s (State.issueReq s x1 x2) ∧ Same.ctl s (State.issueReq s x1 x2) ∧ Same.links s (State.issueReq s x1 x2) ∧ (State.issueReq s x1 x2).regs = s.regs ∧ (State.issueReq s x1 x2).log = s.log ∧ (State.issueReq s x1 x2).addr = s.addr ∧ (State.issueReq s x1 x2).trk = s.trk ∧ (State.issueReq s x1 x2).tier = s.tier ∧ (State.issueReq s x1 x2).lc = s.lc ∧ (State.issueReq s x1 x2).ec = s.ec := by
  intro s x1 x2
  refine And.imp Same.quiet_of (And.imp Same.store_of (And.imp Same.ctl_of (And.imp Same.links_of id))) ?_
  unfold State.issueReq
  try dsimp only
  (repeat' split) <;> simp

@[simp] theorem State.commandError_frame : ∀ s x1 x2 x3, Same.quiet s (State.commandError s x1 x2 x3) ∧ Same.store s (State.commandError s x1 x2 x3) ∧ (State.commandError s x1 x2 x3).mode = s.mode ∧ (State.commandError s x1 x2 x3).pwr = s.pwr ∧ (State.commandError s x1 x2 x3).cmd = s.cmd := by
  intro s x1 x2 x3
  refine And.imp Same.quiet_of (And.imp Same.store_of id) ?_
  unfold State.commandError
  try dsimp only
  (repeat' split) <;> simp

@[simp] theorem State.endTransfer_frame : ∀ s x1, Same.quiet s (State.endTransfer s x1).1 ∧ Same.path s (State.endTransfer s x1).1 ∧ Same.links s (State.endTransfer s x1).1 ∧ (State.endTransfer s x1).1.out = s.out ∧ (State.endTransfer s x1).1.fresh = s.fresh ∧ (State.endTransfer s x1).1.regs = s.regs ∧ (State.endTransfer s x1).1.ctrs = s.ctrs ∧ (State.endTransfer s x1).1.mode = s.mode ∧ (State.endTransfer s x1).1.pwr = s.pwr ∧ (State.endTransfer s x1).1.log = s.log ∧ (State.endTransfer s x1).1.sht = s.sht ∧ (State.endTransfer s x1).1.mem = s.mem ∧ (State.endTransfer s x1).1.flt = s.flt := by
  intro s x1
  refine And.imp Same.quiet_of (And.imp Same.path_of (And.imp Same.links_of id)) ?_
  unfold State.endTransfer
  try dsimp only
  (repeat' split) <;> simp

@[simp] theorem State.transferFw_frame : ∀ s x1 x2 x3 x4 x5, Same.quiet s (State.transferFw s x1 x2 x3 x4 x5).1 ∧ Same.path s (State.transferFw s x1 x2 x3 x4 x5).1 ∧ Same.links s (State.transferFw s x1 x2 x3 x4 x5).1 ∧ (State.transferFw s x1 x2 x3 x4 x5).1.out = s.out ∧ (State.transferFw s x1 x2 x3 x4 x5).1.fresh = s.fresh ∧ (State.transferFw s x1 x2 x3 x4 x5).1.regs = s.regs ∧ (State.transferFw s x1 x2 x3 x4 x5).1.ctrs = s.ctrs ∧ (State.transferFw s x1 x2 x3 x4 x5).1.mode = s.mode ∧ (State.transferFw s x1 x2 x3 x4 x5).1.pwr = s.pwr ∧ (State.transferFw s x1 x2 x3 x4 x5).1.log = s.log ∧ (State.transferFw s x1 x2 x3 x4 x5).1.sht = s.sht ∧ (State.transferFw s x1 x2 x3 x4 x5).1.mem = s.mem ∧ (State.transferFw s x1 x2 x3 x4 x5).1.flt = s.flt := by
  intro s x1 x2 x3 x4 x5
  refine And.imp Same.quiet_of (And.imp Same.path_of (And.imp Same.links_of id)) ?_
  unfold State.transferFw
  try dsimp only
  (repeat' split) <;> simp

@[simp] theorem State.writeLive_frame : ∀ s x1 x2 x3, (State.writeLive s x1 x2 x3).pending = s.pending ∧ (State.writeLive s x1 x2 x3).fresh = s.fresh ∧ (State.writeLive s x1 x2 x3).copies = s.copies ∧ (State.writeLive s x1 x2 x3).latched = s.latched ∧ (State.writeLive s x1 x2 x3).tim = s.tim ∧ (State.writeLive s x1 x2 x3).sht = s.sht ∧ (State.writeLive s x1 x2 x3).mem = s.mem := by
  intro s x1 x2 x3
  unfold State.writeLive
  try dsimp only
  (repeat' split) <;> simp

@[simp] theorem State.noWindow_frame : ∀ s x1 x2 x3 x4 x5, Same.quiet s (State.noWindow s x1 x2 x3 x4 x5) ∧ Same.store s (State.noWindow s x1 x2 x3 x4 x5) ∧ Same.ctl s (State.noWindow s x1 x2 x3 x4 x5) ∧ Same.path s (State.noWindow s x1 x2 x3 x4 x5) ∧ (State.noWindow s x1 x2 x3 x4 x5).regs = s.regs ∧ (State.noWindow s x1 x2 x3 x4 x5).log = s.log ∧ (State.noWindow s x1 x2 x3 x4 x5).twl = s.twl ∧ (State.noWindow s x1 x2 x3 x4 x5).pair = s.pair ∧ (State.noWindow s x1 x2 x3 x4 x5).vlt = s.vlt ∧ (State.noWindow s x1 x2 x3 x4 x5).net = s.net := by
  intro s x1 x2 x3 x4 x5
  refine And.imp Same.quiet_of (And.imp Same.store_of (And.imp Same.ctl_of (And.imp Same.path_of id))) ?_
  unfold State.noWindow
  try dsimp only
  (repeat' split) <;> simp

@[simp] theorem State.resyncFalls_frame : ∀ s, Same.quiet s (State.resyncFalls s) ∧ Same.store s (State.resyncFalls s) ∧ Same.ctl s (State.resyncFalls s) ∧ Same.path s (State.resyncFalls s) ∧ (State.resyncFalls s).out = s.out ∧ (State.resyncFalls s).regs = s.regs ∧ (State.resyncFalls s).ctrs = s.ctrs ∧ (State.resyncFalls s).log = s.log ∧ (State.resyncFalls s).twl = s.twl ∧ (State.resyncFalls s).vlt = s.vlt ∧ (State.resyncFalls s).net = s.net ∧ (State.resyncFalls s).cxl = s.cxl := by
  intro s
  refine And.imp Same.quiet_of (And.imp Same.store_of (And.imp Same.ctl_of (And.imp Same.path_of id))) ?_
  unfold State.resyncFalls
  try dsimp only
  (repeat' split) <;> simp

@[simp] theorem State.useCredit_frame : ∀ s x1 x2 x3, Same.quiet s (State.useCredit s x1 x2 x3).1 ∧ Same.store s (State.useCredit s x1 x2 x3).1 ∧ Same.ctl s (State.useCredit s x1 x2 x3).1 ∧ Same.path s (State.useCredit s x1 x2 x3).1 ∧ (State.useCredit s x1 x2 x3).1.regs = s.regs ∧ (State.useCredit s x1 x2 x3).1.ctrs = s.ctrs ∧ (State.useCredit s x1 x2 x3).1.log = s.log ∧ (State.useCredit s x1 x2 x3).1.twl = s.twl ∧ (State.useCredit s x1 x2 x3).1.pair = s.pair ∧ (State.useCredit s x1 x2 x3).1.vlt = s.vlt ∧ (State.useCredit s x1 x2 x3).1.net = s.net := by
  intro s x1 x2 x3
  refine And.imp Same.quiet_of (And.imp Same.store_of (And.imp Same.ctl_of (And.imp Same.path_of id))) ?_
  unfold State.useCredit
  try dsimp only
  (repeat' split) <;> simp

@[simp] theorem State.m2sRwd_frame : ∀ s x1 x2 x3 x4, Same.quiet s (State.m2sRwd s x1 x2 x3 x4) ∧ Same.store s (State.m2sRwd s x1 x2 x3 x4) ∧ Same.ctl s (State.m2sRwd s x1 x2 x3 x4) := by
  intro s x1 x2 x3 x4
  refine And.imp Same.quiet_of (And.imp Same.store_of Same.ctl_of) ?_
  revert s x1 x2 x3 x4
  intro s p d m po
  unfold State.m2sRwd
  split
  · simp
  · split
    · rename_i hh; have hh' := congrArg Prod.fst hh; dsimp only at hh'; subst hh'; simp
    · rename_i hh; have hh' := congrArg Prod.fst hh; dsimp only at hh'; subst hh'
      split
      · simp
      · dsimp only
        split <;> simp

@[simp] theorem State.writeTables_frame : ∀ s, Same.quiet s (State.writeTables s) ∧ Same.store s (State.writeTables s) ∧ Same.ctl s (State.writeTables s) ∧ Same.path s (State.writeTables s) ∧ (State.writeTables s).out = s.out ∧ (State.writeTables s).regs = s.regs ∧ (State.writeTables s).ctrs = s.ctrs ∧ (State.writeTables s).log = s.log ∧ (State.writeTables s).twl = s.twl ∧ (State.writeTables s).pair = s.pair ∧ (State.writeTables s).net = s.net ∧ (State.writeTables s).cxl = s.cxl := by
  intro s
  refine And.imp Same.quiet_of (And.imp Same.store_of (And.imp Same.ctl_of (And.imp Same.path_of id))) ?_
  unfold State.writeTables
  try dsimp only
  (repeat' split) <;> simp

@[simp] theorem State.coreOff_frame : ∀ s, (State.coreOff s).pending = s.pending ∧ (State.coreOff s).out = s.out ∧ (State.coreOff s).rsc = s.rsc ∧ (State.coreOff s).mode = s.mode ∧ (State.coreOff s).tim = s.tim ∧ (State.coreOff s).sb1 = s.sb1 ∧ (State.coreOff s).sb2 = s.sb2 ∧ (State.coreOff s).sb3 = s.sb3 ∧ (State.coreOff s).unlocks = s.unlocks := by
  intro s
  unfold State.coreOff
  try dsimp only
  (repeat' split) <;> simp

@[simp] theorem State.beginMove_frame : ∀ s x1, Same.quiet s (State.beginMove s x1) ∧ Same.store s (State.beginMove s x1) ∧ Same.ctl s (State.beginMove s x1) ∧ Same.links s (State.beginMove s x1) ∧ (State.beginMove s x1).out = s.out ∧ (State.beginMove s x1).regs = s.regs ∧ (State.beginMove s x1).ctrs = s.ctrs ∧ (State.beginMove s x1).log = s.log ∧ (State.beginMove s x1).addr = s.addr ∧ (State.beginMove s x1).trk = s.trk ∧ (State.beginMove s x1).lc = s.lc ∧ (State.beginMove s x1).ch = s.ch ∧ (State.beginMove s x1).ec = s.ec := by
  intro s x1
  refine And.imp Same.quiet_of (And.imp Same.store_of (And.imp Same.ctl_of (And.imp Same.links_of id))) ?_
  unfold State.beginMove
  try dsimp only
  (repeat' split) <;> simp

@[simp] theorem State.writeReg_frame : ∀ s x1 x2 x3, (State.writeReg s x1 x2 x3).pending = s.pending ∧ (State.writeReg s x1 x2 x3).fresh = s.fresh ∧ (State.writeReg s x1 x2 x3).copies = s.copies ∧ (State.writeReg s x1 x2 x3).latched = s.latched ∧ (State.writeReg s x1 x2 x3).tim = s.tim ∧ (State.writeReg s x1 x2 x3).mem = s.mem := by
  intro s x1 x2 x3
  unfold State.writeReg
  try dsimp only
  (repeat' split) <;> simp

@[simp] theorem State.replayCmd_frame : ∀ x0 s x2, Same.quiet s (State.replayCmd x0 s x2) ∧ Same.store s (State.replayCmd x0 s x2) ∧ Same.ctl s (State.replayCmd x0 s x2) ∧ Same.path s (State.replayCmd x0 s x2) ∧ (State.replayCmd x0 s x2).regs = s.regs ∧ (State.replayCmd x0 s x2).log = s.log ∧ (State.replayCmd x0 s x2).pair = s.pair ∧ (State.replayCmd x0 s x2).vlt = s.vlt ∧ (State.replayCmd x0 s x2).net = s.net ∧ (State.replayCmd x0 s x2).cxl = s.cxl := by
  intro x0 s x2
  refine And.imp Same.quiet_of (And.imp Same.store_of (And.imp Same.ctl_of (And.imp Same.path_of id))) ?_
  unfold State.replayCmd
  try dsimp only
  (repeat' split) <;> simp

@[simp] theorem State.journalScan_frame : ∀ s, Same.quiet s (State.journalScan s) ∧ Same.ctl s (State.journalScan s) ∧ Same.path s (State.journalScan s) ∧ Same.links s (State.journalScan s) ∧ (State.journalScan s).out = s.out ∧ (State.journalScan s).fresh = s.fresh ∧ (State.journalScan s).regs = s.regs ∧ (State.journalScan s).sht = s.sht ∧ (State.journalScan s).mem = s.mem := by
  intro s
  refine And.imp Same.quiet_of (And.imp Same.ctl_of (And.imp Same.path_of (And.imp Same.links_of id))) ?_
  unfold State.journalScan
  try dsimp only
  (repeat' split) <;> simp

@[simp] theorem State.loadFrame_frame : ∀ s, Same.quiet s (State.loadFrame s) ∧ Same.ctl s (State.loadFrame s) ∧ (State.loadFrame s).out = s.out ∧ (State.loadFrame s).fresh = s.fresh ∧ (State.loadFrame s).ctrs = s.ctrs ∧ (State.loadFrame s).log = s.log ∧ (State.loadFrame s).addr = s.addr ∧ (State.loadFrame s).trk = s.trk ∧ (State.loadFrame s).twl = s.twl ∧ (State.loadFrame s).pair = s.pair ∧ (State.loadFrame s).tier = s.tier ∧ (State.loadFrame s).ch = s.ch ∧ (State.loadFrame s).ec = s.ec ∧ (State.loadFrame s).mem = s.mem ∧ (State.loadFrame s).vlt = s.vlt := by
  intro s
  refine And.imp Same.quiet_of (And.imp Same.ctl_of id) ?_
  unfold State.loadFrame
  try dsimp only
  (repeat' split) <;> simp

@[simp] theorem State.refreshCopies_frame : ∀ s, Same.store s (State.refreshCopies s) ∧ Same.ctl s (State.refreshCopies s) ∧ Same.path s (State.refreshCopies s) ∧ Same.links s (State.refreshCopies s) ∧ (State.refreshCopies s).pending = s.pending ∧ (State.refreshCopies s).out = s.out ∧ (State.refreshCopies s).regs = s.regs ∧ (State.refreshCopies s).rsc = s.rsc ∧ (State.refreshCopies s).ctrs = s.ctrs ∧ (State.refreshCopies s).latched = s.latched ∧ (State.refreshCopies s).tim = s.tim ∧ (State.refreshCopies s).sb0 = s.sb0 ∧ (State.refreshCopies s).sb1 = s.sb1 ∧ (State.refreshCopies s).sb2 = s.sb2 ∧ (State.refreshCopies s).sb3 = s.sb3 ∧ (State.refreshCopies s).log = s.log ∧ (State.refreshCopies s).unlocks = s.unlocks := by
  intro s
  refine And.imp Same.store_of (And.imp Same.ctl_of (And.imp Same.path_of (And.imp Same.links_of id))) ?_
  unfold State.refreshCopies
  try dsimp only
  (repeat' split) <;> simp

@[simp] theorem State.vcoreCommand_frame : ∀ s x1, Same.store s (State.vcoreCommand s x1) ∧ Same.path s (State.vcoreCommand s x1) ∧ Same.links s (State.vcoreCommand s x1) ∧ (State.vcoreCommand s x1).pending = s.pending ∧ (State.vcoreCommand s x1).regs = s.regs ∧ (State.vcoreCommand s x1).rsc = s.rsc ∧ (State.vcoreCommand s x1).copies = s.copies ∧ (State.vcoreCommand s x1).ctrs = s.ctrs ∧ (State.vcoreCommand s x1).latched = s.latched ∧ (State.vcoreCommand s x1).mode = s.mode ∧ (State.vcoreCommand s x1).tim = s.tim ∧ (State.vcoreCommand s x1).log = s.log ∧ (State.vcoreCommand s x1).unlocks = s.unlocks ∧ (State.vcoreCommand s x1).flt = s.flt ∧ (State.vcoreCommand s x1).cmd = s.cmd := by
  intro s x1
  refine And.imp Same.store_of (And.imp Same.path_of (And.imp Same.links_of id)) ?_
  unfold State.vcoreCommand
  try dsimp only
  (repeat' split) <;> simp

@[simp] theorem State.bootCore_frame : ∀ s x1, (State.bootCore s x1).pending = s.pending ∧ (State.bootCore s x1).fresh = s.fresh ∧ (State.bootCore s x1).rsc = s.rsc ∧ (State.bootCore s x1).latched = s.latched ∧ (State.bootCore s x1).tim = s.tim ∧ (State.bootCore s x1).unlocks = s.unlocks ∧ (State.bootCore s x1).trk = s.trk ∧ (State.bootCore s x1).twl = s.twl ∧ (State.bootCore s x1).pair = s.pair ∧ (State.bootCore s x1).tier = s.tier ∧ (State.bootCore s x1).mem = s.mem := by
  intro s pop
  unfold State.bootCore
  extract_lets m0 p0 sa sb s3
  have h1 : s3.pending = s.pending ∧ s3.fresh = s.fresh ∧ s3.rsc = s.rsc ∧ s3.latched = s.latched ∧ s3.tim = s.tim ∧ s3.unlocks = s.unlocks ∧ s3.trk = s.trk ∧ s3.twl = s.twl ∧ s3.pair = s.pair ∧ s3.tier = s.tier ∧ s3.mem = s.mem := by simp [s3, sb, sa]
  clear_value s3
  split
  · rename_i hh
    have hh' := congrArg Prod.fst hh
    dsimp only at hh'
    subst hh'
    simp [h1]
  · rename_i hh
    have hh' := congrArg Prod.fst hh
    dsimp only at hh'
    subst hh'
    extract_lets s4
    have h4 : s4.pending = s.pending ∧ s4.fresh = s.fresh ∧ s4.rsc = s.rsc ∧ s4.latched = s.latched ∧ s4.tim = s.tim ∧ s4.unlocks = s.unlocks ∧ s4.trk = s.trk ∧ s4.twl = s.twl ∧ s4.pair = s.pair ∧ s4.tier = s.tier ∧ s4.mem = s.mem := by simp [s4, h1]
    clear_value s4
    cases pop with
    | none => simp [h4]
    | some b =>
      dsimp only
      split
      · simp [h4]
      · split
        · simp [h4]
        · split <;> simp [h4]

@[simp] theorem State.unpowered_frame : ∀ s, (State.unpowered s).pending = s.pending ∧ (State.unpowered s).out = s.out := by
  intro s
  unfold State.unpowered
  try dsimp only
  (repeat' split) <;> simp

@[simp] theorem State.formedIn_frame : ∀ s, Same.quiet s (State.formedIn s) ∧ Same.store s (State.formedIn s) ∧ Same.ctl s (State.formedIn s) ∧ Same.path s (State.formedIn s) ∧ (State.formedIn s).regs = s.regs ∧ (State.formedIn s).log = s.log ∧ (State.formedIn s).vlt = s.vlt ∧ (State.formedIn s).net = s.net ∧ (State.formedIn s).cxl = s.cxl := by
  intro s
  refine And.imp Same.quiet_of (And.imp Same.store_of (And.imp Same.ctl_of (And.imp Same.path_of id))) ?_
  unfold State.formedIn
  try dsimp only
  (repeat' split) <;> simp

@[simp] theorem State.raiseLeaves_frame : ∀ s x1, Same.quiet s (State.raiseLeaves s x1) ∧ Same.store s (State.raiseLeaves s x1) ∧ Same.ctl s (State.raiseLeaves s x1) ∧ Same.path s (State.raiseLeaves s x1) ∧ (State.raiseLeaves s x1).out = s.out ∧ (State.raiseLeaves s x1).regs = s.regs ∧ (State.raiseLeaves s x1).ctrs = s.ctrs ∧ (State.raiseLeaves s x1).log = s.log ∧ (State.raiseLeaves s x1).twl = s.twl ∧ (State.raiseLeaves s x1).pair = s.pair ∧ (State.raiseLeaves s x1).net = s.net ∧ (State.raiseLeaves s x1).cxl = s.cxl := by
  intro s x1
  refine And.imp Same.quiet_of (And.imp Same.store_of (And.imp Same.ctl_of (And.imp Same.path_of id))) ?_
  unfold State.raiseLeaves
  try dsimp only
  (repeat' split) <;> simp

@[simp] theorem State.discardLines_frame : ∀ s x1 x2, Same.quiet s (State.discardLines s x1 x2).1 ∧ Same.store s (State.discardLines s x1 x2).1 ∧ Same.ctl s (State.discardLines s x1 x2).1 ∧ Same.links s (State.discardLines s x1 x2).1 ∧ (State.discardLines s x1 x2).1.out = s.out ∧ (State.discardLines s x1 x2).1.regs = s.regs ∧ (State.discardLines s x1 x2).1.ctrs = s.ctrs ∧ (State.discardLines s x1 x2).1.log = s.log ∧ (State.discardLines s x1 x2).1.addr = s.addr ∧ (State.discardLines s x1 x2).1.trk = s.trk ∧ (State.discardLines s x1 x2).1.tier = s.tier ∧ (State.discardLines s x1 x2).1.ch = s.ch := by
  intro s x1 x2
  refine And.imp Same.quiet_of (And.imp Same.store_of (And.imp Same.ctl_of (And.imp Same.links_of id))) ?_
  unfold State.discardLines
  try dsimp only
  (repeat' split) <;> simp

@[simp] theorem State.linkDown_frame : ∀ s x1 x2 x3, Same.quiet s (State.linkDown s x1 x2 x3) ∧ Same.store s (State.linkDown s x1 x2 x3) ∧ Same.ctl s (State.linkDown s x1 x2 x3) ∧ (State.linkDown s x1 x2 x3).out = s.out ∧ (State.linkDown s x1 x2 x3).regs = s.regs ∧ (State.linkDown s x1 x2 x3).ctrs = s.ctrs ∧ (State.linkDown s x1 x2 x3).log = s.log ∧ (State.linkDown s x1 x2 x3).addr = s.addr ∧ (State.linkDown s x1 x2 x3).twl = s.twl ∧ (State.linkDown s x1 x2 x3).pair = s.pair ∧ (State.linkDown s x1 x2 x3).tier = s.tier ∧ (State.linkDown s x1 x2 x3).lc = s.lc ∧ (State.linkDown s x1 x2 x3).ch = s.ch ∧ (State.linkDown s x1 x2 x3).ec = s.ec ∧ (State.linkDown s x1 x2 x3).vlt = s.vlt ∧ (State.linkDown s x1 x2 x3).net = s.net := by
  intro s x1 x2 x3
  refine And.imp Same.quiet_of (And.imp Same.store_of (And.imp Same.ctl_of id)) ?_
  unfold State.linkDown
  try dsimp only
  (repeat' split) <;> simp

@[simp] theorem State.cxlClockLost_frame : ∀ s, Same.quiet s (State.cxlClockLost s) ∧ Same.store s (State.cxlClockLost s) ∧ Same.ctl s (State.cxlClockLost s) := by
  intro s
  refine And.imp Same.quiet_of (And.imp Same.store_of Same.ctl_of) ?_
  unfold State.cxlClockLost
  try dsimp only
  (repeat' split) <;> simp

@[simp] theorem State.startCycle_frame : ∀ s, Same.quiet s (State.startCycle s) ∧ Same.store s (State.startCycle s) ∧ Same.ctl s (State.startCycle s) ∧ Same.path s (State.startCycle s) ∧ (State.startCycle s).out = s.out ∧ (State.startCycle s).regs = s.regs ∧ (State.startCycle s).ctrs = s.ctrs ∧ (State.startCycle s).log = s.log ∧ (State.startCycle s).twl = s.twl ∧ (State.startCycle s).pair = s.pair ∧ (State.startCycle s).net = s.net ∧ (State.startCycle s).cxl = s.cxl := by
  intro s
  refine And.imp Same.quiet_of (And.imp Same.store_of (And.imp Same.ctl_of (And.imp Same.path_of id))) ?_
  unfold State.startCycle
  try dsimp only
  (repeat' split) <;> simp

@[simp] theorem State.discardRegion_frame : ∀ s x1, Same.quiet s (State.discardRegion s x1) ∧ Same.store s (State.discardRegion s x1) ∧ Same.ctl s (State.discardRegion s x1) ∧ (State.discardRegion s x1).out = s.out ∧ (State.discardRegion s x1).regs = s.regs ∧ (State.discardRegion s x1).ctrs = s.ctrs ∧ (State.discardRegion s x1).log = s.log ∧ (State.discardRegion s x1).trk = s.trk ∧ (State.discardRegion s x1).twl = s.twl ∧ (State.discardRegion s x1).pair = s.pair ∧ (State.discardRegion s x1).tier = s.tier ∧ (State.discardRegion s x1).ch = s.ch ∧ (State.discardRegion s x1).net = s.net ∧ (State.discardRegion s x1).cxl = s.cxl := by
  intro s x1
  refine And.imp Same.quiet_of (And.imp Same.store_of (And.imp Same.ctl_of id)) ?_
  unfold State.discardRegion
  try dsimp only
  (repeat' split) <;> simp

@[simp] theorem State.sendMarkers_frame : ∀ s, Same.quiet s (State.sendMarkers s) ∧ Same.store s (State.sendMarkers s) ∧ Same.ctl s (State.sendMarkers s) ∧ Same.path s (State.sendMarkers s) ∧ (State.sendMarkers s).regs = s.regs ∧ (State.sendMarkers s).log = s.log ∧ (State.sendMarkers s).vlt = s.vlt ∧ (State.sendMarkers s).net = s.net ∧ (State.sendMarkers s).cxl = s.cxl := by
  intro s
  refine And.imp Same.quiet_of (And.imp Same.store_of (And.imp Same.ctl_of (And.imp Same.path_of id))) ?_
  unfold State.sendMarkers
  try dsimp only
  (repeat' split) <;> simp

@[simp] theorem State.afterData_frame : ∀ s, Same.quiet s (State.afterData s) ∧ Same.store s (State.afterData s) ∧ (State.afterData s).mode = s.mode ∧ (State.afterData s).pwr = s.pwr ∧ (State.afterData s).flt = s.flt := by
  intro s
  refine And.imp Same.quiet_of (And.imp Same.store_of id) ?_
  unfold State.afterData
  try dsimp only
  (repeat' split) <;> simp

@[simp] theorem State.blockErased_frame : ∀ s x1 x2, Same.quiet s (State.blockErased s x1 x2) ∧ Same.store s (State.blockErased s x1 x2) ∧ Same.ctl s (State.blockErased s x1 x2) ∧ Same.path s (State.blockErased s x1 x2) ∧ (State.blockErased s x1 x2).out = s.out ∧ (State.blockErased s x1 x2).regs = s.regs ∧ (State.blockErased s x1 x2).ctrs = s.ctrs ∧ (State.blockErased s x1 x2).log = s.log ∧ (State.blockErased s x1 x2).twl = s.twl ∧ (State.blockErased s x1 x2).pair = s.pair ∧ (State.blockErased s x1 x2).net = s.net ∧ (State.blockErased s x1 x2).cxl = s.cxl := by
  intro s x1 x2
  refine And.imp Same.quiet_of (And.imp Same.store_of (And.imp Same.ctl_of (And.imp Same.path_of id))) ?_
  unfold State.blockErased
  try dsimp only
  (repeat' split) <;> simp

@[simp] theorem State.eraseTry_frame : ∀ s, Same.quiet s (State.eraseTry s) ∧ Same.store s (State.eraseTry s) ∧ Same.ctl s (State.eraseTry s) ∧ Same.path s (State.eraseTry s) ∧ (State.eraseTry s).out = s.out ∧ (State.eraseTry s).regs = s.regs ∧ (State.eraseTry s).ctrs = s.ctrs ∧ (State.eraseTry s).log = s.log ∧ (State.eraseTry s).twl = s.twl ∧ (State.eraseTry s).pair = s.pair ∧ (State.eraseTry s).net = s.net ∧ (State.eraseTry s).cxl = s.cxl := by
  intro s
  refine And.imp Same.quiet_of (And.imp Same.store_of (And.imp Same.ctl_of (And.imp Same.path_of id))) ?_
  unfold State.eraseTry
  try dsimp only
  (repeat' split) <;> simp

@[simp] theorem State.rowBack_frame : ∀ s x1 x2 x3, Same.quiet s (State.rowBack s x1 x2 x3) ∧ Same.ctl s (State.rowBack s x1 x2 x3) ∧ Same.path s (State.rowBack s x1 x2 x3) ∧ (State.rowBack s x1 x2 x3).out = s.out ∧ (State.rowBack s x1 x2 x3).fresh = s.fresh ∧ (State.rowBack s x1 x2 x3).regs = s.regs ∧ (State.rowBack s x1 x2 x3).sht = s.sht ∧ (State.rowBack s x1 x2 x3).twl = s.twl ∧ (State.rowBack s x1 x2 x3).pair = s.pair ∧ (State.rowBack s x1 x2 x3).vlt = s.vlt ∧ (State.rowBack s x1 x2 x3).net = s.net ∧ (State.rowBack s x1 x2 x3).fls = s.fls := by
  intro s x1 x2 x3
  refine And.imp Same.quiet_of (And.imp Same.ctl_of (And.imp Same.path_of id)) ?_
  unfold State.rowBack
  try dsimp only
  (repeat' split) <;> simp

@[simp] theorem State.autoTry_frame : ∀ s, Same.quiet s (State.autoTry s) ∧ (State.autoTry s).fresh = s.fresh ∧ (State.autoTry s).pwr = s.pwr ∧ (State.autoTry s).mem = s.mem := by
  intro s
  refine And.imp Same.quiet_of id ?_
  unfold State.autoTry
  try dsimp only
  (repeat' split) <;> simp

@[simp] theorem State.dependants_frame : ∀ s x1, Same.quiet s (State.dependants s x1) ∧ Same.store s (State.dependants s x1) ∧ Same.path s (State.dependants s x1) ∧ Same.links s (State.dependants s x1) ∧ (State.dependants s x1).out = s.out ∧ (State.dependants s x1).regs = s.regs ∧ (State.dependants s x1).mode = s.mode ∧ (State.dependants s x1).pwr = s.pwr ∧ (State.dependants s x1).log = s.log ∧ (State.dependants s x1).cmd = s.cmd := by
  intro s x1
  refine And.imp Same.quiet_of (And.imp Same.store_of (And.imp Same.path_of (And.imp Same.links_of id))) ?_
  unfold State.dependants
  try dsimp only
  (repeat' split) <;> simp

@[simp] theorem State.startStep_frame : ∀ s x1, Same.quiet s (State.startStep s x1) ∧ Same.store s (State.startStep s x1) ∧ Same.path s (State.startStep s x1) ∧ Same.links s (State.startStep s x1) ∧ (State.startStep s x1).out = s.out ∧ (State.startStep s x1).regs = s.regs ∧ (State.startStep s x1).ctrs = s.ctrs ∧ (State.startStep s x1).mode = s.mode ∧ (State.startStep s x1).log = s.log ∧ (State.startStep s x1).flt = s.flt ∧ (State.startStep s x1).cmd = s.cmd := by
  intro s x1
  refine And.imp Same.quiet_of (And.imp Same.store_of (And.imp Same.path_of (And.imp Same.links_of id))) ?_
  unfold State.startStep
  try dsimp only
  (repeat' split) <;> simp

@[simp] theorem State.poisonLeaf_frame : ∀ s x1 x2, Same.quiet s (State.poisonLeaf s x1 x2) ∧ Same.ctl s (State.poisonLeaf s x1 x2) ∧ Same.path s (State.poisonLeaf s x1 x2) ∧ (State.poisonLeaf s x1 x2).out = s.out ∧ (State.poisonLeaf s x1 x2).fresh = s.fresh ∧ (State.poisonLeaf s x1 x2).regs = s.regs ∧ (State.poisonLeaf s x1 x2).sht = s.sht ∧ (State.poisonLeaf s x1 x2).twl = s.twl ∧ (State.poisonLeaf s x1 x2).pair = s.pair ∧ (State.poisonLeaf s x1 x2).vlt = s.vlt ∧ (State.poisonLeaf s x1 x2).net = s.net ∧ (State.poisonLeaf s x1 x2).fls = s.fls := by
  intro s x1 x2
  refine And.imp Same.quiet_of (And.imp Same.ctl_of (And.imp Same.path_of id)) ?_
  unfold State.poisonLeaf
  try dsimp only
  (repeat' split) <;> simp

@[simp] theorem State.raiseRecs_frame : ∀ s x1, Same.quiet s (State.raiseRecs s x1) ∧ Same.store s (State.raiseRecs s x1) ∧ Same.ctl s (State.raiseRecs s x1) ∧ Same.path s (State.raiseRecs s x1) ∧ (State.raiseRecs s x1).out = s.out ∧ (State.raiseRecs s x1).regs = s.regs ∧ (State.raiseRecs s x1).log = s.log ∧ (State.raiseRecs s x1).twl = s.twl ∧ (State.raiseRecs s x1).pair = s.pair ∧ (State.raiseRecs s x1).net = s.net ∧ (State.raiseRecs s x1).cxl = s.cxl := by
  intro s x1
  refine And.imp Same.quiet_of (And.imp Same.store_of (And.imp Same.ctl_of (And.imp Same.path_of id))) ?_
  unfold State.raiseRecs
  try dsimp only
  (repeat' split) <;> simp

@[simp] theorem State.sendNetTables_frame : ∀ s, Same.quiet s (State.sendNetTables s) ∧ Same.store s (State.sendNetTables s) ∧ Same.ctl s (State.sendNetTables s) ∧ Same.path s (State.sendNetTables s) ∧ (State.sendNetTables s).regs = s.regs ∧ (State.sendNetTables s).log = s.log ∧ (State.sendNetTables s).pair = s.pair ∧ (State.sendNetTables s).vlt = s.vlt ∧ (State.sendNetTables s).net = s.net ∧ (State.sendNetTables s).cxl = s.cxl := by
  intro s
  refine And.imp Same.quiet_of (And.imp Same.store_of (And.imp Same.ctl_of (And.imp Same.path_of id))) ?_
  unfold State.sendNetTables
  try dsimp only
  (repeat' split) <;> simp

@[simp] theorem State.tablesIn_frame : ∀ s x1 x2 x3 x4 x5 x6, Same.quiet s (State.tablesIn s x1 x2 x3 x4 x5 x6) ∧ Same.store s (State.tablesIn s x1 x2 x3 x4 x5 x6) ∧ Same.ctl s (State.tablesIn s x1 x2 x3 x4 x5 x6) ∧ Same.path s (State.tablesIn s x1 x2 x3 x4 x5 x6) ∧ (State.tablesIn s x1 x2 x3 x4 x5 x6).regs = s.regs ∧ (State.tablesIn s x1 x2 x3 x4 x5 x6).log = s.log ∧ (State.tablesIn s x1 x2 x3 x4 x5 x6).vlt = s.vlt ∧ (State.tablesIn s x1 x2 x3 x4 x5 x6).net = s.net ∧ (State.tablesIn s x1 x2 x3 x4 x5 x6).cxl = s.cxl := by
  intro s x1 x2 x3 x4 x5 x6
  refine And.imp Same.quiet_of (And.imp Same.store_of (And.imp Same.ctl_of (And.imp Same.path_of id))) ?_
  unfold State.tablesIn
  try dsimp only
  (repeat' split) <;> simp

@[simp] theorem State.slotTested_frame : ∀ s x1 x2 x3 x4 x5, Same.quiet s (State.slotTested s x1 x2 x3 x4 x5) ∧ Same.store s (State.slotTested s x1 x2 x3 x4 x5) := by
  intro s x1 x2 x3 x4 x5
  refine And.imp Same.quiet_of Same.store_of ?_
  unfold State.slotTested
  split <;> simp

@[simp] theorem State.rxHeader_frame : ∀ s x1 x2, Same.quiet s (State.rxHeader s x1 x2) ∧ Same.ctl s (State.rxHeader s x1 x2) ∧ Same.path s (State.rxHeader s x1 x2) ∧ (State.rxHeader s x1 x2).regs = s.regs ∧ (State.rxHeader s x1 x2).log = s.log ∧ (State.rxHeader s x1 x2).sht = s.sht ∧ (State.rxHeader s x1 x2).pair = s.pair ∧ (State.rxHeader s x1 x2).mem = s.mem ∧ (State.rxHeader s x1 x2).vlt = s.vlt ∧ (State.rxHeader s x1 x2).net = s.net ∧ (State.rxHeader s x1 x2).cxl = s.cxl ∧ (State.rxHeader s x1 x2).fls = s.fls := by
  intro s x1 x2
  refine And.imp Same.quiet_of (And.imp Same.ctl_of (And.imp Same.path_of id)) ?_
  unfold State.rxHeader
  try dsimp only
  (repeat' split) <;> simp

@[simp] theorem State.removeRegion_frame : ∀ s x1 x2, Same.quiet s (State.removeRegion s x1 x2) ∧ Same.store s (State.removeRegion s x1 x2) ∧ Same.ctl s (State.removeRegion s x1 x2) ∧ (State.removeRegion s x1 x2).out = s.out ∧ (State.removeRegion s x1 x2).regs = s.regs ∧ (State.removeRegion s x1 x2).ctrs = s.ctrs ∧ (State.removeRegion s x1 x2).log = s.log ∧ (State.removeRegion s x1 x2).trk = s.trk ∧ (State.removeRegion s x1 x2).twl = s.twl ∧ (State.removeRegion s x1 x2).lc = s.lc ∧ (State.removeRegion s x1 x2).ch = s.ch ∧ (State.removeRegion s x1 x2).ec = s.ec ∧ (State.removeRegion s x1 x2).vlt = s.vlt ∧ (State.removeRegion s x1 x2).net = s.net ∧ (State.removeRegion s x1 x2).cxl = s.cxl := by
  intro s x1 x2
  refine And.imp Same.quiet_of (And.imp Same.store_of (And.imp Same.ctl_of id)) ?_
  unfold State.removeRegion
  try dsimp only
  (repeat' split) <;> simp

@[simp] theorem State.scrubReturn_frame : ∀ s x1 x2 x3 x4 x5, Same.quiet s (State.scrubReturn s x1 x2 x3 x4 x5) ∧ Same.store s (State.scrubReturn s x1 x2 x3 x4 x5) ∧ (State.scrubReturn s x1 x2 x3 x4 x5).mode = s.mode ∧ (State.scrubReturn s x1 x2 x3 x4 x5).pwr = s.pwr ∧ (State.scrubReturn s x1 x2 x3 x4 x5).cmd = s.cmd := by
  intro s x1 x2 x3 x4 x5
  refine And.imp Same.quiet_of (And.imp Same.store_of id) ?_
  unfold State.scrubReturn
  try dsimp only
  (repeat' split) <;> simp

@[simp] theorem State.meetTwin_frame : ∀ s, Same.quiet s (State.meetTwin s) ∧ Same.store s (State.meetTwin s) ∧ Same.path s (State.meetTwin s) ∧ (State.meetTwin s).regs = s.regs ∧ (State.meetTwin s).mode = s.mode ∧ (State.meetTwin s).pwr = s.pwr ∧ (State.meetTwin s).log = s.log ∧ (State.meetTwin s).pair = s.pair ∧ (State.meetTwin s).vlt = s.vlt ∧ (State.meetTwin s).net = s.net ∧ (State.meetTwin s).cxl = s.cxl ∧ (State.meetTwin s).flt = s.flt := by
  intro s
  refine And.imp Same.quiet_of (And.imp Same.store_of (And.imp Same.path_of id)) ?_
  unfold State.meetTwin
  try dsimp only
  (repeat' split) <;> simp

@[simp] theorem State.protoIn_frame : ∀ s x1, Same.quiet s (State.protoIn s x1) ∧ Same.store s (State.protoIn s x1) ∧ Same.path s (State.protoIn s x1) ∧ (State.protoIn s x1).regs = s.regs ∧ (State.protoIn s x1).mode = s.mode ∧ (State.protoIn s x1).pwr = s.pwr ∧ (State.protoIn s x1).pair = s.pair ∧ (State.protoIn s x1).vlt = s.vlt ∧ (State.protoIn s x1).cxl = s.cxl ∧ (State.protoIn s x1).flt = s.flt := by
  intro s x1
  refine And.imp Same.quiet_of (And.imp Same.store_of (And.imp Same.path_of id)) ?_
  unfold State.protoIn
  try dsimp only
  (repeat' split) <;> simp

@[simp] theorem State.lowerNext_frame : ∀ s, Same.quiet s (State.lowerNext s) ∧ Same.store s (State.lowerNext s) ∧ Same.path s (State.lowerNext s) ∧ Same.links s (State.lowerNext s) ∧ (State.lowerNext s).out = s.out ∧ (State.lowerNext s).regs = s.regs ∧ (State.lowerNext s).ctrs = s.ctrs ∧ (State.lowerNext s).log = s.log ∧ (State.lowerNext s).flt = s.flt ∧ (State.lowerNext s).cmd = s.cmd := by
  intro s
  refine And.imp Same.quiet_of (And.imp Same.store_of (And.imp Same.path_of (And.imp Same.links_of id))) ?_
  unfold State.lowerNext
  try dsimp only
  (repeat' split) <;> simp

@[simp] theorem State.withFetchWord_frame : ∀ s x1 x2, Same.store s (State.withFetchWord s x1 x2) ∧ Same.ctl s (State.withFetchWord s x1 x2) ∧ Same.path s (State.withFetchWord s x1 x2) ∧ Same.links s (State.withFetchWord s x1 x2) ∧ (State.withFetchWord s x1 x2).out = s.out ∧ (State.withFetchWord s x1 x2).regs = s.regs ∧ (State.withFetchWord s x1 x2).rsc = s.rsc ∧ (State.withFetchWord s x1 x2).copies = s.copies ∧ (State.withFetchWord s x1 x2).ctrs = s.ctrs ∧ (State.withFetchWord s x1 x2).latched = s.latched ∧ (State.withFetchWord s x1 x2).tim = s.tim ∧ (State.withFetchWord s x1 x2).sb0 = s.sb0 ∧ (State.withFetchWord s x1 x2).sb1 = s.sb1 ∧ (State.withFetchWord s x1 x2).sb2 = s.sb2 ∧ (State.withFetchWord s x1 x2).sb3 = s.sb3 ∧ (State.withFetchWord s x1 x2).log = s.log ∧ (State.withFetchWord s x1 x2).unlocks = s.unlocks := by
  intro s x1 x2
  refine And.imp Same.store_of (And.imp Same.ctl_of (And.imp Same.path_of (And.imp Same.links_of id))) ?_
  unfold State.withFetchWord
  try dsimp only
  (repeat' split) <;> simp

@[simp] theorem State.activateFw_frame : ∀ s x1 x2 x3 x4, Same.quiet s (State.activateFw s x1 x2 x3 x4).1 ∧ Same.path s (State.activateFw s x1 x2 x3 x4).1 ∧ Same.links s (State.activateFw s x1 x2 x3 x4).1 ∧ (State.activateFw s x1 x2 x3 x4).1.out = s.out ∧ (State.activateFw s x1 x2 x3 x4).1.fresh = s.fresh ∧ (State.activateFw s x1 x2 x3 x4).1.regs = s.regs ∧ (State.activateFw s x1 x2 x3 x4).1.pwr = s.pwr ∧ (State.activateFw s x1 x2 x3 x4).1.sht = s.sht ∧ (State.activateFw s x1 x2 x3 x4).1.mem = s.mem ∧ (State.activateFw s x1 x2 x3 x4).1.flt = s.flt := by
  intro s x1 x2 x3 x4
  refine And.imp Same.quiet_of (And.imp Same.path_of (And.imp Same.links_of id)) ?_
  unfold State.activateFw
  try dsimp only
  (repeat' split) <;> simp

@[simp] theorem State.leavePreserve_frame : ∀ s, Same.quiet s (State.leavePreserve s) ∧ (State.leavePreserve s).fresh = s.fresh ∧ (State.leavePreserve s).mem = s.mem := by
  intro s
  refine And.imp Same.quiet_of id ?_
  unfold State.leavePreserve
  try dsimp only
  (repeat' split) <;> simp

@[simp] theorem State.takeDonor_frame : ∀ s x1, Same.quiet s (State.takeDonor s x1) ∧ Same.store s (State.takeDonor s x1) ∧ (State.takeDonor s x1).out = s.out ∧ (State.takeDonor s x1).regs = s.regs ∧ (State.takeDonor s x1).ctrs = s.ctrs ∧ (State.takeDonor s x1).mode = s.mode ∧ (State.takeDonor s x1).pwr = s.pwr ∧ (State.takeDonor s x1).log = s.log ∧ (State.takeDonor s x1).twl = s.twl ∧ (State.takeDonor s x1).ch = s.ch ∧ (State.takeDonor s x1).net = s.net ∧ (State.takeDonor s x1).cxl = s.cxl ∧ (State.takeDonor s x1).flt = s.flt := by
  intro s x1
  refine And.imp Same.quiet_of (And.imp Same.store_of id) ?_
  unfold State.takeDonor
  try dsimp only
  (repeat' split) <;> simp

@[simp] theorem State.flushRecs_frame : ∀ x0 s, Same.quiet s (State.flushRecs x0 s) ∧ Same.store s (State.flushRecs x0 s) ∧ Same.ctl s (State.flushRecs x0 s) ∧ Same.path s (State.flushRecs x0 s) ∧ Same.links s (State.flushRecs x0 s) ∧ (State.flushRecs x0 s).out = s.out ∧ (State.flushRecs x0 s).regs = s.regs ∧ (State.flushRecs x0 s).ctrs = s.ctrs := by
  intro x0 s
  refine And.imp Same.quiet_of (And.imp Same.store_of (And.imp Same.ctl_of (And.imp Same.path_of (And.imp Same.links_of id)))) ?_
  revert x0 s
  intro x0 s
  induction x0 generalizing s with
  | zero => simp [State.flushRecs]
  | succ k ih =>
    unfold State.flushRecs
    try dsimp only
    (repeat' split) <;> simp [ih]

@[simp] theorem State.pprRun_frame : ∀ s x1 x2 x3, Same.quiet s (State.pprRun s x1 x2 x3).1 ∧ Same.store s (State.pprRun s x1 x2 x3).1 ∧ Same.ctl s (State.pprRun s x1 x2 x3).1 ∧ (State.pprRun s x1 x2 x3).1.regs = s.regs ∧ (State.pprRun s x1 x2 x3).1.log = s.log ∧ (State.pprRun s x1 x2 x3).1.addr = s.addr ∧ (State.pprRun s x1 x2 x3).1.trk = s.trk ∧ (State.pprRun s x1 x2 x3).1.lc = s.lc ∧ (State.pprRun s x1 x2 x3).1.ch = s.ch ∧ (State.pprRun s x1 x2 x3).1.vlt = s.vlt ∧ (State.pprRun s x1 x2 x3).1.net = s.net ∧ (State.pprRun s x1 x2 x3).1.cxl = s.cxl := by
  intro s x1 x2 x3
  refine And.imp Same.quiet_of (And.imp Same.store_of (And.imp Same.ctl_of id)) ?_
  unfold State.pprRun
  try dsimp only
  (repeat' split) <;> simp

@[simp] theorem State.saveLeaf_frame : ∀ s x1 x2 x3 x4, Same.quiet s (State.saveLeaf s x1 x2 x3 x4) ∧ Same.ctl s (State.saveLeaf s x1 x2 x3 x4) ∧ Same.path s (State.saveLeaf s x1 x2 x3 x4) ∧ (State.saveLeaf s x1 x2 x3 x4).regs = s.regs ∧ (State.saveLeaf s x1 x2 x3 x4).sht = s.sht ∧ (State.saveLeaf s x1 x2 x3 x4).twl = s.twl ∧ (State.saveLeaf s x1 x2 x3 x4).pair = s.pair ∧ (State.saveLeaf s x1 x2 x3 x4).mem = s.mem ∧ (State.saveLeaf s x1 x2 x3 x4).net = s.net ∧ (State.saveLeaf s x1 x2 x3 x4).fls = s.fls := by
  intro s x1 x2 x3 x4
  refine And.imp Same.quiet_of (And.imp Same.ctl_of (And.imp Same.path_of id)) ?_
  unfold State.saveLeaf
  try dsimp only
  repeat' split
  all_goals try (rename_i hh; have hh' := congrArg Prod.fst hh; dsimp only at hh'; subst hh')
  all_goals try (rename_i hh; have hh' := congrArg Prod.snd hh; dsimp only at hh'; subst hh')
  all_goals try have hq_openSeg := State.openSeg_frame _ _ _ _ (by assumption)
  all_goals simp [*]

@[simp] theorem State.ordered_frame : ∀ s x1 x2 x3 t, State.ordered s x1 x2 x3 = some t → Same.quiet s t ∧ Same.store s t ∧ Same.ctl s t ∧ t.tier = s.tier := by
  intro s x1 x2 x3 t h
  refine And.imp Same.quiet_of (And.imp Same.store_of (And.imp Same.ctl_of id)) ?_
  unfold State.ordered at h
  extract_lets res e e1 s1 at h
  have h1 : s1.quietP = s.quietP ∧ s1.storeP = s.storeP ∧ s1.ctlP = s.ctlP ∧ s1.tier = s.tier := by simp [s1]
  clear_value e e1 s1
  split at h
  · split at h <;> simp only [Option.some.injEq] at h <;> subst h <;> simp [h1]
  · split at h
    · simp only [Option.some.injEq] at h; subst h; simp
    · split at h
      · have h2 := State.applyRec_frame _ _ _ h
        simp [h2]
      · simp only [Option.some.injEq] at h; subst h; simp

@[simp] theorem State.setSpan_frame : ∀ s x1 x2, Same.quiet s (State.setSpan s x1 x2) ∧ Same.store s (State.setSpan s x1 x2) ∧ Same.ctl s (State.setSpan s x1 x2) ∧ Same.path s (State.setSpan s x1 x2) ∧ Same.links s (State.setSpan s x1 x2) ∧ (State.setSpan s x1 x2).out = s.out ∧ (State.setSpan s x1 x2).ctrs = s.ctrs ∧ (State.setSpan s x1 x2).log = s.log := by
  intro s x1 x2
  refine And.imp Same.quiet_of (And.imp Same.store_of (And.imp Same.ctl_of (And.imp Same.path_of (And.imp Same.links_of id)))) ?_
  unfold State.setSpan
  try dsimp only
  (repeat' split) <;> simp

@[simp] theorem State.msgDone_frame : ∀ s, Same.quiet s (State.msgDone s) ∧ Same.store s (State.msgDone s) ∧ Same.ctl s (State.msgDone s) ∧ Same.path s (State.msgDone s) ∧ (State.msgDone s).out = s.out ∧ (State.msgDone s).regs = s.regs ∧ (State.msgDone s).log = s.log ∧ (State.msgDone s).pair = s.pair ∧ (State.msgDone s).vlt = s.vlt ∧ (State.msgDone s).net = s.net ∧ (State.msgDone s).cxl = s.cxl := by
  intro s
  refine And.imp Same.quiet_of (And.imp Same.store_of (And.imp Same.ctl_of (And.imp Same.path_of id))) ?_
  unfold State.msgDone
  try dsimp only
  (repeat' split) <;> simp

@[simp] theorem State.leafRestored_frame : ∀ s x1, Same.quiet s (State.leafRestored s x1) ∧ Same.store s (State.leafRestored s x1) ∧ (State.leafRestored s x1).pwr = s.pwr ∧ (State.leafRestored s x1).flt = s.flt ∧ (State.leafRestored s x1).cmd = s.cmd := by
  intro s x1
  refine And.imp Same.quiet_of (And.imp Same.store_of id) ?_
  unfold State.leafRestored
  try dsimp only
  (repeat' split) <;> simp

@[simp] theorem State.pairFormStart_frame : ∀ s x1 x2 x3, Same.quiet s (State.pairFormStart s x1 x2 x3) ∧ Same.store s (State.pairFormStart s x1 x2 x3) ∧ (State.pairFormStart s x1 x2 x3).pwr = s.pwr ∧ (State.pairFormStart s x1 x2 x3).flt = s.flt := by
  intro s x1 x2 x3
  refine And.imp Same.quiet_of (And.imp Same.store_of id) ?_
  unfold State.pairFormStart
  try dsimp only
  (repeat' split) <;> simp

@[simp] theorem State.identity_frame : ∀ s x1 x2 x3, Same.quiet s (State.identity s x1 x2 x3).2 ∧ Same.store s (State.identity s x1 x2 x3).2 ∧ Same.ctl s (State.identity s x1 x2 x3).2 ∧ Same.path s (State.identity s x1 x2 x3).2 ∧ (State.identity s x1 x2 x3).2.out = s.out ∧ (State.identity s x1 x2 x3).2.regs = s.regs ∧ (State.identity s x1 x2 x3).2.pair = s.pair ∧ (State.identity s x1 x2 x3).2.vlt = s.vlt ∧ (State.identity s x1 x2 x3).2.net = s.net ∧ (State.identity s x1 x2 x3).2.cxl = s.cxl := by
  intro s x1 x2 x3
  refine And.imp Same.quiet_of (And.imp Same.store_of (And.imp Same.ctl_of (And.imp Same.path_of id))) ?_
  unfold State.identity
  try dsimp only
  (repeat' split) <;> simp

@[simp] theorem State.connEndRx_frame : ∀ s x1, Same.quiet s (State.connEndRx s x1) ∧ Same.store s (State.connEndRx s x1) ∧ Same.ctl s (State.connEndRx s x1) ∧ (State.connEndRx s x1).addr = s.addr ∧ (State.connEndRx s x1).pair = s.pair ∧ (State.connEndRx s x1).tier = s.tier ∧ (State.connEndRx s x1).lc = s.lc ∧ (State.connEndRx s x1).ch = s.ch ∧ (State.connEndRx s x1).ec = s.ec ∧ (State.connEndRx s x1).vlt = s.vlt := by
  intro s x1
  refine And.imp Same.quiet_of (And.imp Same.store_of (And.imp Same.ctl_of id)) ?_
  unfold State.connEndRx
  try dsimp only
  (repeat' split) <;> simp

@[simp] theorem State.moveLine_frame : ∀ s x1 t, State.moveLine s x1 = some t → Same.quiet s t ∧ Same.ctl s t ∧ Same.links s t ∧ t.out = s.out ∧ t.regs = s.regs ∧ t.log = s.log ∧ t.sht = s.sht ∧ t.addr = s.addr ∧ t.trk = s.trk ∧ t.tier = s.tier ∧ t.lc = s.lc ∧ t.fls = s.fls := by
  intro s x1 t h
  refine And.imp Same.quiet_of (And.imp Same.ctl_of (And.imp Same.links_of id)) ?_
  unfold State.moveLine at h
  try dsimp only at h
  repeat' split at h
  all_goals try (simp at h)
  all_goals try (subst h)
  all_goals simp

@[simp] theorem State.repairEnd_frame : ∀ s x1 x2, Same.quiet s (State.repairEnd s x1 x2) ∧ Same.store s (State.repairEnd s x1 x2) := by
  intro s x1 x2
  refine And.imp Same.quiet_of Same.store_of ?_
  unfold State.repairEnd
  try dsimp only
  (repeat' split) <;> simp

@[simp] theorem State.opNext_frame : ∀ s, Same.quiet s (State.opNext s) ∧ Same.store s (State.opNext s) ∧ Same.ctl s (State.opNext s) := by
  intro s
  refine And.imp Same.quiet_of (And.imp Same.store_of Same.ctl_of) ?_
  unfold State.opNext
  try dsimp only
  (repeat' split) <;> simp

@[simp] theorem State.connOkRx_frame : ∀ s x1, Same.quiet s (State.connOkRx s x1) ∧ Same.store s (State.connOkRx s x1) ∧ Same.ctl s (State.connOkRx s x1) ∧ Same.path s (State.connOkRx s x1) ∧ (State.connOkRx s x1).regs = s.regs ∧ (State.connOkRx s x1).log = s.log ∧ (State.connOkRx s x1).twl = s.twl ∧ (State.connOkRx s x1).pair = s.pair ∧ (State.connOkRx s x1).vlt = s.vlt ∧ (State.connOkRx s x1).cxl = s.cxl := by
  intro s x1
  refine And.imp Same.quiet_of (And.imp Same.store_of (And.imp Same.ctl_of (And.imp Same.path_of id))) ?_
  unfold State.connOkRx
  try dsimp only
  (repeat' split) <;> simp

@[simp] theorem State.zeroLines_frame : ∀ s x1 x2, Same.quiet s (State.zeroLines s x1 x2) ∧ Same.store s (State.zeroLines s x1 x2) ∧ Same.ctl s (State.zeroLines s x1 x2) ∧ Same.links s (State.zeroLines s x1 x2) ∧ (State.zeroLines s x1 x2).out = s.out ∧ (State.zeroLines s x1 x2).regs = s.regs ∧ (State.zeroLines s x1 x2).log = s.log ∧ (State.zeroLines s x1 x2).addr = s.addr ∧ (State.zeroLines s x1 x2).trk = s.trk ∧ (State.zeroLines s x1 x2).tier = s.tier ∧ (State.zeroLines s x1 x2).lc = s.lc := by
  intro s x1 x2
  refine And.imp Same.quiet_of (And.imp Same.store_of (And.imp Same.ctl_of (And.imp Same.links_of id))) ?_
  unfold State.zeroLines
  try dsimp only
  (repeat' split) <;> simp

@[simp] theorem State.endConn_frame : ∀ s x1 x2, Same.quiet s (State.endConn s x1 x2) ∧ Same.store s (State.endConn s x1 x2) ∧ Same.ctl s (State.endConn s x1 x2) ∧ (State.endConn s x1 x2).addr = s.addr ∧ (State.endConn s x1 x2).pair = s.pair ∧ (State.endConn s x1 x2).tier = s.tier ∧ (State.endConn s x1 x2).lc = s.lc ∧ (State.endConn s x1 x2).ch = s.ch ∧ (State.endConn s x1 x2).ec = s.ec ∧ (State.endConn s x1 x2).vlt = s.vlt := by
  intro s x1 x2
  refine And.imp Same.quiet_of (And.imp Same.store_of (And.imp Same.ctl_of id)) ?_
  unfold State.endConn
  try dsimp only
  (repeat' split) <;> simp

@[simp] theorem State.moveLines_frame : ∀ x0 s x2, Same.quiet s (State.moveLines x0 s x2) ∧ (State.moveLines x0 s x2).mode = s.mode ∧ (State.moveLines x0 s x2).pwr = s.pwr ∧ (State.moveLines x0 s x2).sht = s.sht ∧ (State.moveLines x0 s x2).cmd = s.cmd ∧ (State.moveLines x0 s x2).fls = s.fls := by
  intro x0 s x2
  refine And.imp Same.quiet_of id ?_
  revert x0 s x2
  intro k
  induction k with
  | zero => intro s x; simp [State.moveLines]
  | succ k ih =>
    intro s x
    unfold State.moveLines
    split
    · simp
    · split
      · simp
      · split
        · rename_i hp
          simp [ih, State.moveLine_frame _ _ _ hp]
        · simp

@[simp] theorem State.onRequest_frame : ∀ s, Same.store s (State.onRequest s) ∧ Same.path s (State.onRequest s) ∧ Same.links s (State.onRequest s) ∧ (State.onRequest s).pending = s.pending ∧ (State.onRequest s).regs = s.regs ∧ (State.onRequest s).rsc = s.rsc ∧ (State.onRequest s).copies = s.copies ∧ (State.onRequest s).ctrs = s.ctrs ∧ (State.onRequest s).latched = s.latched ∧ (State.onRequest s).mode = s.mode ∧ (State.onRequest s).tim = s.tim ∧ (State.onRequest s).log = s.log ∧ (State.onRequest s).unlocks = s.unlocks ∧ (State.onRequest s).flt = s.flt ∧ (State.onRequest s).cmd = s.cmd := by
  intro s
  refine And.imp Same.store_of (And.imp Same.path_of (And.imp Same.links_of id)) ?_
  unfold State.onRequest
  try dsimp only
  (repeat' split) <;> simp

@[simp] theorem State.m2sReq_frame : ∀ s x1 x2 x3, Same.quiet s (State.m2sReq s x1 x2 x3) ∧ Same.store s (State.m2sReq s x1 x2 x3) ∧ Same.ctl s (State.m2sReq s x1 x2 x3) := by
  intro s x1 x2 x3
  refine And.imp Same.quiet_of (And.imp Same.store_of Same.ctl_of) ?_
  revert s x1 x2 x3
  intro s p op sp
  unfold State.m2sReq
  split
  · simp
  · split
    · rename_i hh; have hh' := congrArg Prod.fst hh; dsimp only at hh'; subst hh'; simp
    · rename_i hh; have hh' := congrArg Prod.fst hh; dsimp only at hh'; subst hh'
      split
      · simp
      · dsimp only
        split <;> simp

@[simp] theorem State.applyRecs_frame : ∀ s x1 t, State.applyRecs s x1 = some t → Same.quiet s t ∧ Same.store s t ∧ Same.ctl s t ∧ t.tier = s.tier := by
  intro s x1 t h
  refine And.imp Same.quiet_of (And.imp Same.store_of (And.imp Same.ctl_of id)) ?_
  revert s x1 t h
  intro s l
  induction l generalizing s with
  | nil => intro t h; simp [State.applyRecs] at h; subst h; simp
  | cons r l ih =>
    intro t h
    unfold State.applyRecs at h
    rw [Option.bind_eq_some_iff] at h
    obtain ⟨a, ha, hb⟩ := h
    have h1 := ih _ _ hb
    have h2 := State.applyRec_frame _ _ _ ha
    simpa [h2] using h1

@[simp] theorem State.faultEffects_frame : ∀ s x1 x2, Same.quiet s (State.faultEffects s x1 x2) ∧ Same.store s (State.faultEffects s x1 x2) := by
  intro s x1 x2
  refine And.imp Same.quiet_of Same.store_of ?_
  unfold State.faultEffects
  try dsimp only
  (repeat' split) <;> simp

@[simp] theorem State.readReturn_frame : ∀ s x1 x2 x3 x4, Same.quiet s (State.readReturn s x1 x2 x3 x4) ∧ (State.readReturn s x1 x2 x3 x4).mode = s.mode ∧ (State.readReturn s x1 x2 x3 x4).pwr = s.pwr ∧ (State.readReturn s x1 x2 x3 x4).sht = s.sht ∧ (State.readReturn s x1 x2 x3 x4).mem = s.mem ∧ (State.readReturn s x1 x2 x3 x4).cmd = s.cmd ∧ (State.readReturn s x1 x2 x3 x4).fls = s.fls := by
  intro s x1 x2 x3 x4
  refine And.imp Same.quiet_of id ?_
  unfold State.readReturn
  try dsimp only
  (repeat' split) <;> simp

@[simp] theorem State.flushWaiters_frame : ∀ s, Same.quiet s (State.flushWaiters s) ∧ Same.store s (State.flushWaiters s) ∧ Same.path s (State.flushWaiters s) ∧ Same.links s (State.flushWaiters s) ∧ (State.flushWaiters s).regs = s.regs ∧ (State.flushWaiters s).mode = s.mode ∧ (State.flushWaiters s).pwr = s.pwr ∧ (State.flushWaiters s).flt = s.flt := by
  intro s
  refine And.imp Same.quiet_of (And.imp Same.store_of (And.imp Same.path_of (And.imp Same.links_of id))) ?_
  unfold State.flushWaiters
  try dsimp only
  (repeat' split) <;> simp

@[simp] theorem State.stormReport_frame : ∀ s x1 x2, Same.quiet s (State.stormReport s x1 x2) ∧ Same.store s (State.stormReport s x1 x2) ∧ Same.path s (State.stormReport s x1 x2) ∧ Same.links s (State.stormReport s x1 x2) ∧ (State.stormReport s x1 x2).out = s.out ∧ (State.stormReport s x1 x2).regs = s.regs ∧ (State.stormReport s x1 x2).ctrs = s.ctrs ∧ (State.stormReport s x1 x2).mode = s.mode ∧ (State.stormReport s x1 x2).pwr = s.pwr ∧ (State.stormReport s x1 x2).log = s.log ∧ (State.stormReport s x1 x2).cmd = s.cmd := by
  intro s x1 x2
  refine And.imp Same.quiet_of (And.imp Same.store_of (And.imp Same.path_of (And.imp Same.links_of id))) ?_
  unfold State.stormReport
  try dsimp only
  (repeat' split) <;> simp

@[simp] theorem State.openJob_frame : ∀ s x1 x2 x3, Same.quiet s (State.openJob s x1 x2 x3) ∧ Same.store s (State.openJob s x1 x2 x3) ∧ Same.path s (State.openJob s x1 x2 x3) ∧ Same.links s (State.openJob s x1 x2 x3) ∧ (State.openJob s x1 x2 x3).out = s.out ∧ (State.openJob s x1 x2 x3).regs = s.regs ∧ (State.openJob s x1 x2 x3).ctrs = s.ctrs ∧ (State.openJob s x1 x2 x3).mode = s.mode ∧ (State.openJob s x1 x2 x3).pwr = s.pwr ∧ (State.openJob s x1 x2 x3).log = s.log ∧ (State.openJob s x1 x2 x3).flt = s.flt := by
  intro s x1 x2 x3
  refine And.imp Same.quiet_of (And.imp Same.store_of (And.imp Same.path_of (And.imp Same.links_of id))) ?_
  unfold State.openJob
  try dsimp only
  (repeat' split) <;> simp

@[simp] theorem State.wbSettle_frame : ∀ s, Same.quiet s (State.wbSettle s) ∧ Same.store s (State.wbSettle s) ∧ Same.ctl s (State.wbSettle s) ∧ Same.path s (State.wbSettle s) ∧ (State.wbSettle s).out = s.out ∧ (State.wbSettle s).regs = s.regs ∧ (State.wbSettle s).log = s.log ∧ (State.wbSettle s).twl = s.twl ∧ (State.wbSettle s).pair = s.pair ∧ (State.wbSettle s).net = s.net ∧ (State.wbSettle s).cxl = s.cxl := by
  intro s
  refine And.imp Same.quiet_of (And.imp Same.store_of (And.imp Same.ctl_of (And.imp Same.path_of id))) ?_
  unfold State.wbSettle
  try dsimp only
  (repeat' split) <;> simp

@[simp] theorem State.loadTable_frame : ∀ s x1, Same.quiet s (State.loadTable s x1) ∧ Same.store s (State.loadTable s x1) ∧ Same.path s (State.loadTable s x1) ∧ Same.links s (State.loadTable s x1) ∧ (State.loadTable s x1).out = s.out ∧ (State.loadTable s x1).ctrs = s.ctrs ∧ (State.loadTable s x1).mode = s.mode ∧ (State.loadTable s x1).log = s.log ∧ (State.loadTable s x1).flt = s.flt ∧ (State.loadTable s x1).cmd = s.cmd := by
  intro s x1
  refine And.imp Same.quiet_of (And.imp Same.store_of (And.imp Same.path_of (And.imp Same.links_of id))) ?_
  unfold State.loadTable
  try dsimp only
  (repeat' split) <;> simp

@[simp] theorem State.unlockWrite_frame : ∀ s x1 x2, Same.store s (State.unlockWrite s x1 x2) ∧ Same.ctl s (State.unlockWrite s x1 x2) ∧ Same.path s (State.unlockWrite s x1 x2) ∧ Same.links s (State.unlockWrite s x1 x2) ∧ (State.unlockWrite s x1 x2).pending = s.pending ∧ (State.unlockWrite s x1 x2).out = s.out ∧ (State.unlockWrite s x1 x2).regs = s.regs ∧ (State.unlockWrite s x1 x2).rsc = s.rsc ∧ (State.unlockWrite s x1 x2).copies = s.copies ∧ (State.unlockWrite s x1 x2).latched = s.latched ∧ (State.unlockWrite s x1 x2).tim = s.tim ∧ (State.unlockWrite s x1 x2).sb0 = s.sb0 ∧ (State.unlockWrite s x1 x2).sb1 = s.sb1 ∧ (State.unlockWrite s x1 x2).sb2 = s.sb2 ∧ (State.unlockWrite s x1 x2).sb3 = s.sb3 ∧ (State.unlockWrite s x1 x2).log = s.log := by
  intro s x1 x2
  refine And.imp Same.store_of (And.imp Same.ctl_of (And.imp Same.path_of (And.imp Same.links_of id))) ?_
  unfold State.unlockWrite
  try dsimp only
  (repeat' split) <;> simp

@[simp] theorem State.chainDown_frame : ∀ s, Same.quiet s (State.chainDown s) ∧ Same.store s (State.chainDown s) ∧ Same.path s (State.chainDown s) ∧ Same.links s (State.chainDown s) ∧ (State.chainDown s).out = s.out ∧ (State.chainDown s).regs = s.regs ∧ (State.chainDown s).ctrs = s.ctrs ∧ (State.chainDown s).log = s.log ∧ (State.chainDown s).flt = s.flt ∧ (State.chainDown s).cmd = s.cmd := by
  intro s
  refine And.imp Same.quiet_of (And.imp Same.store_of (And.imp Same.path_of (And.imp Same.links_of id))) ?_
  unfold State.chainDown
  try dsimp only
  (repeat' split) <;> simp

@[simp] theorem State.sbRetry_frame : ∀ s x1 x2, Same.store s (State.sbRetry s x1 x2) ∧ Same.ctl s (State.sbRetry s x1 x2) ∧ Same.path s (State.sbRetry s x1 x2) ∧ Same.links s (State.sbRetry s x1 x2) ∧ (State.sbRetry s x1 x2).pending = s.pending ∧ (State.sbRetry s x1 x2).regs = s.regs ∧ (State.sbRetry s x1 x2).rsc = s.rsc ∧ (State.sbRetry s x1 x2).copies = s.copies ∧ (State.sbRetry s x1 x2).latched = s.latched ∧ (State.sbRetry s x1 x2).tim = s.tim ∧ (State.sbRetry s x1 x2).log = s.log ∧ (State.sbRetry s x1 x2).unlocks = s.unlocks := by
  intro s x1 x2
  refine And.imp Same.store_of (And.imp Same.ctl_of (And.imp Same.path_of (And.imp Same.links_of id))) ?_
  unfold State.sbRetry
  try dsimp only
  (repeat' split) <;> simp

@[simp] theorem State.frameWritten_frame : ∀ s x1, Same.quiet s (State.frameWritten s x1) ∧ (State.frameWritten s x1).fresh = s.fresh ∧ (State.frameWritten s x1).pwr = s.pwr ∧ (State.frameWritten s x1).mem = s.mem := by
  intro s x1
  refine And.imp Same.quiet_of id ?_
  unfold State.frameWritten
  try dsimp only
  (repeat' split) <;> simp

@[simp] theorem State.markFree_frame : ∀ s x1, Same.quiet s (State.markFree s x1) ∧ Same.store s (State.markFree s x1) ∧ Same.ctl s (State.markFree s x1) ∧ Same.path s (State.markFree s x1) ∧ (State.markFree s x1).out = s.out ∧ (State.markFree s x1).regs = s.regs ∧ (State.markFree s x1).ctrs = s.ctrs ∧ (State.markFree s x1).log = s.log ∧ (State.markFree s x1).twl = s.twl ∧ (State.markFree s x1).pair = s.pair ∧ (State.markFree s x1).vlt = s.vlt ∧ (State.markFree s x1).cxl = s.cxl := by
  intro s x1
  refine And.imp Same.quiet_of (And.imp Same.store_of (And.imp Same.ctl_of (And.imp Same.path_of id))) ?_
  unfold State.markFree
  try dsimp only
  (repeat' split) <;> simp

end Sys2Proof.Machine
end

