-- ==== Sys2Proof/Laws/FrameCommands.lean ====
section
/-!
SUPPORT. Laws/FrameCommands.lean: the frames of the operations that run a given body (a
mailbox command, a command of the twin, a flash command): what the body keeps, they keep.
-/
namespace Sys2Proof.Machine

@[simp] theorem State.replRun_quietP : ∀ s x1 x2 x3 x4 x5 f, (∀ t0 a, (f t0 a).1.quietP = a.quietP) → (State.replRun s x1 x2 x3 x4 x5 f).quietP = s.quietP := by
  intro s x1 x2 x3 x4 x5 f h
  unfold State.replRun
  dsimp only
  (repeat' split) <;> simp [h]

@[simp] theorem State.replRun_storeP : ∀ s x1 x2 x3 x4 x5 f, (∀ t0 a, (f t0 a).1.storeP = a.storeP) → (State.replRun s x1 x2 x3 x4 x5 f).storeP = s.storeP := by
  intro s x1 x2 x3 x4 x5 f h
  unfold State.replRun
  dsimp only
  (repeat' split) <;> simp [h]

@[simp] theorem State.replRun_pending : ∀ s x1 x2 x3 x4 x5 f, (∀ t0 a, (f t0 a).1.pending = a.pending) → (State.replRun s x1 x2 x3 x4 x5 f).pending = s.pending := by
  intro s x1 x2 x3 x4 x5 f h
  unfold State.replRun
  dsimp only
  (repeat' split) <;> simp [h]

@[simp] theorem State.replRun_fresh : ∀ s x1 x2 x3 x4 x5 f, (∀ t0 a, (f t0 a).1.fresh = a.fresh) → (State.replRun s x1 x2 x3 x4 x5 f).fresh = s.fresh := by
  intro s x1 x2 x3 x4 x5 f h
  unfold State.replRun
  dsimp only
  (repeat' split) <;> simp [h]

@[simp] theorem State.replRun_rsc : ∀ s x1 x2 x3 x4 x5 f, (∀ t0 a, (f t0 a).1.rsc = a.rsc) → (State.replRun s x1 x2 x3 x4 x5 f).rsc = s.rsc := by
  intro s x1 x2 x3 x4 x5 f h
  unfold State.replRun
  dsimp only
  (repeat' split) <;> simp [h]

@[simp] theorem State.replRun_copies : ∀ s x1 x2 x3 x4 x5 f, (∀ t0 a, (f t0 a).1.copies = a.copies) → (State.replRun s x1 x2 x3 x4 x5 f).copies = s.copies := by
  intro s x1 x2 x3 x4 x5 f h
  unfold State.replRun
  dsimp only
  (repeat' split) <;> simp [h]

@[simp] theorem State.replRun_latched : ∀ s x1 x2 x3 x4 x5 f, (∀ t0 a, (f t0 a).1.latched = a.latched) → (State.replRun s x1 x2 x3 x4 x5 f).latched = s.latched := by
  intro s x1 x2 x3 x4 x5 f h
  unfold State.replRun
  dsimp only
  (repeat' split) <;> simp [h]

@[simp] theorem State.replRun_mode : ∀ s x1 x2 x3 x4 x5 f, (∀ t0 a, (f t0 a).1.mode = a.mode) → (State.replRun s x1 x2 x3 x4 x5 f).mode = s.mode := by
  intro s x1 x2 x3 x4 x5 f h
  unfold State.replRun
  dsimp only
  (repeat' split) <;> simp [h]

@[simp] theorem State.replRun_tim : ∀ s x1 x2 x3 x4 x5 f, (∀ t0 a, (f t0 a).1.tim = a.tim) → (State.replRun s x1 x2 x3 x4 x5 f).tim = s.tim := by
  intro s x1 x2 x3 x4 x5 f h
  unfold State.replRun
  dsimp only
  (repeat' split) <;> simp [h]

@[simp] theorem State.replRun_pwr : ∀ s x1 x2 x3 x4 x5 f, (∀ t0 a, (f t0 a).1.pwr = a.pwr) → (State.replRun s x1 x2 x3 x4 x5 f).pwr = s.pwr := by
  intro s x1 x2 x3 x4 x5 f h
  unfold State.replRun
  dsimp only
  (repeat' split) <;> simp [h]

@[simp] theorem State.replRun_sb0 : ∀ s x1 x2 x3 x4 x5 f, (∀ t0 a, (f t0 a).1.sb0 = a.sb0) → (State.replRun s x1 x2 x3 x4 x5 f).sb0 = s.sb0 := by
  intro s x1 x2 x3 x4 x5 f h
  unfold State.replRun
  dsimp only
  (repeat' split) <;> simp [h]

@[simp] theorem State.replRun_sb1 : ∀ s x1 x2 x3 x4 x5 f, (∀ t0 a, (f t0 a).1.sb1 = a.sb1) → (State.replRun s x1 x2 x3 x4 x5 f).sb1 = s.sb1 := by
  intro s x1 x2 x3 x4 x5 f h
  unfold State.replRun
  dsimp only
  (repeat' split) <;> simp [h]

@[simp] theorem State.replRun_sb2 : ∀ s x1 x2 x3 x4 x5 f, (∀ t0 a, (f t0 a).1.sb2 = a.sb2) → (State.replRun s x1 x2 x3 x4 x5 f).sb2 = s.sb2 := by
  intro s x1 x2 x3 x4 x5 f h
  unfold State.replRun
  dsimp only
  (repeat' split) <;> simp [h]

@[simp] theorem State.replRun_sb3 : ∀ s x1 x2 x3 x4 x5 f, (∀ t0 a, (f t0 a).1.sb3 = a.sb3) → (State.replRun s x1 x2 x3 x4 x5 f).sb3 = s.sb3 := by
  intro s x1 x2 x3 x4 x5 f h
  unfold State.replRun
  dsimp only
  (repeat' split) <;> simp [h]

@[simp] theorem State.replRun_sht : ∀ s x1 x2 x3 x4 x5 f, (∀ t0 a, (f t0 a).1.sht = a.sht) → (State.replRun s x1 x2 x3 x4 x5 f).sht = s.sht := by
  intro s x1 x2 x3 x4 x5 f h
  unfold State.replRun
  dsimp only
  (repeat' split) <;> simp [h]

@[simp] theorem State.replRun_unlocks : ∀ s x1 x2 x3 x4 x5 f, (∀ t0 a, (f t0 a).1.unlocks = a.unlocks) → (State.replRun s x1 x2 x3 x4 x5 f).unlocks = s.unlocks := by
  intro s x1 x2 x3 x4 x5 f h
  unfold State.replRun
  dsimp only
  (repeat' split) <;> simp [h]

@[simp] theorem State.replRun_mem : ∀ s x1 x2 x3 x4 x5 f, (∀ t0 a, (f t0 a).1.mem = a.mem) → (State.replRun s x1 x2 x3 x4 x5 f).mem = s.mem := by
  intro s x1 x2 x3 x4 x5 f h
  unfold State.replRun
  dsimp only
  (repeat' split) <;> simp [h]

@[simp] theorem State.replRun_flt : ∀ s x1 x2 x3 x4 x5 f, (∀ t0 a, (f t0 a).1.flt = a.flt) → (State.replRun s x1 x2 x3 x4 x5 f).flt = s.flt := by
  intro s x1 x2 x3 x4 x5 f h
  unfold State.replRun
  dsimp only
  (repeat' split) <;> simp [h]

@[simp] theorem State.replRun_fls : ∀ s x1 x2 x3 x4 x5 f, (∀ t0 a, (f t0 a).1.fls = a.fls) → (State.replRun s x1 x2 x3 x4 x5 f).fls = s.fls := by
  intro s x1 x2 x3 x4 x5 f h
  unfold State.replRun
  dsimp only
  (repeat' split) <;> simp [h]

@[simp] theorem State.runJob_quietP : ∀ s x1 x2 x3 f, (∀ t0 a, (f t0 a).1.quietP = a.quietP) → (State.runJob s x1 x2 x3 f).quietP = s.quietP := by
  intro s x1 x2 x3 f h
  unfold State.runJob
  dsimp only
  split <;> rename_i hh <;> have hh' := congrArg Prod.fst hh <;> dsimp only at hh' <;> subst hh' <;> (try split) <;> simp [h]

@[simp] theorem State.runJob_storeP : ∀ s x1 x2 x3 f, (∀ t0 a, (f t0 a).1.storeP = a.storeP) → (State.runJob s x1 x2 x3 f).storeP = s.storeP := by
  intro s x1 x2 x3 f h
  unfold State.runJob
  dsimp only
  split <;> rename_i hh <;> have hh' := congrArg Prod.fst hh <;> dsimp only at hh' <;> subst hh' <;> (try split) <;> simp [h]

@[simp] theorem State.runJob_pathP : ∀ s x1 x2 x3 f, (∀ t0 a, (f t0 a).1.pathP = a.pathP) → (State.runJob s x1 x2 x3 f).pathP = s.pathP := by
  intro s x1 x2 x3 f h
  unfold State.runJob
  dsimp only
  split <;> rename_i hh <;> have hh' := congrArg Prod.fst hh <;> dsimp only at hh' <;> subst hh' <;> (try split) <;> simp [h]

@[simp] theorem State.runJob_linksP : ∀ s x1 x2 x3 f, (∀ t0 a, (f t0 a).1.linksP = a.linksP) → (State.runJob s x1 x2 x3 f).linksP = s.linksP := by
  intro s x1 x2 x3 f h
  unfold State.runJob
  dsimp only
  split <;> rename_i hh <;> have hh' := congrArg Prod.fst hh <;> dsimp only at hh' <;> subst hh' <;> (try split) <;> simp [h]

@[simp] theorem State.runJob_pending : ∀ s x1 x2 x3 f, (∀ t0 a, (f t0 a).1.pending = a.pending) → (State.runJob s x1 x2 x3 f).pending = s.pending := by
  intro s x1 x2 x3 f h
  unfold State.runJob
  dsimp only
  split <;> rename_i hh <;> have hh' := congrArg Prod.fst hh <;> dsimp only at hh' <;> subst hh' <;> (try split) <;> simp [h]

@[simp] theorem State.runJob_fresh : ∀ s x1 x2 x3 f, (∀ t0 a, (f t0 a).1.fresh = a.fresh) → (State.runJob s x1 x2 x3 f).fresh = s.fresh := by
  intro s x1 x2 x3 f h
  unfold State.runJob
  dsimp only
  split <;> rename_i hh <;> have hh' := congrArg Prod.fst hh <;> dsimp only at hh' <;> subst hh' <;> (try split) <;> simp [h]

@[simp] theorem State.runJob_regs : ∀ s x1 x2 x3 f, (∀ t0 a, (f t0 a).1.regs = a.regs) → (State.runJob s x1 x2 x3 f).regs = s.regs := by
  intro s x1 x2 x3 f h
  unfold State.runJob
  dsimp only
  split <;> rename_i hh <;> have hh' := congrArg Prod.fst hh <;> dsimp only at hh' <;> subst hh' <;> (try split) <;> simp [h]

@[simp] theorem State.runJob_rsc : ∀ s x1 x2 x3 f, (∀ t0 a, (f t0 a).1.rsc = a.rsc) → (State.runJob s x1 x2 x3 f).rsc = s.rsc := by
  intro s x1 x2 x3 f h
  unfold State.runJob
  dsimp only
  split <;> rename_i hh <;> have hh' := congrArg Prod.fst hh <;> dsimp only at hh' <;> subst hh' <;> (try split) <;> simp [h]

@[simp] theorem State.runJob_copies : ∀ s x1 x2 x3 f, (∀ t0 a, (f t0 a).1.copies = a.copies) → (State.runJob s x1 x2 x3 f).copies = s.copies := by
  intro s x1 x2 x3 f h
  unfold State.runJob
  dsimp only
  split <;> rename_i hh <;> have hh' := congrArg Prod.fst hh <;> dsimp only at hh' <;> subst hh' <;> (try split) <;> simp [h]

@[simp] theorem State.runJob_latched : ∀ s x1 x2 x3 f, (∀ t0 a, (f t0 a).1.latched = a.latched) → (State.runJob s x1 x2 x3 f).latched = s.latched := by
  intro s x1 x2 x3 f h
  unfold State.runJob
  dsimp only
  split <;> rename_i hh <;> have hh' := congrArg Prod.fst hh <;> dsimp only at hh' <;> subst hh' <;> (try split) <;> simp [h]

@[simp] theorem State.runJob_mode : ∀ s x1 x2 x3 f, (∀ t0 a, (f t0 a).1.mode = a.mode) → (State.runJob s x1 x2 x3 f).mode = s.mode := by
  intro s x1 x2 x3 f h
  unfold State.runJob
  dsimp only
  split <;> rename_i hh <;> have hh' := congrArg Prod.fst hh <;> dsimp only at hh' <;> subst hh' <;> (try split) <;> simp [h]

@[simp] theorem State.runJob_tim : ∀ s x1 x2 x3 f, (∀ t0 a, (f t0 a).1.tim = a.tim) → (State.runJob s x1 x2 x3 f).tim = s.tim := by
  intro s x1 x2 x3 f h
  unfold State.runJob
  dsimp only
  split <;> rename_i hh <;> have hh' := congrArg Prod.fst hh <;> dsimp only at hh' <;> subst hh' <;> (try split) <;> simp [h]

@[simp] theorem State.runJob_pwr : ∀ s x1 x2 x3 f, (∀ t0 a, (f t0 a).1.pwr = a.pwr) → (State.runJob s x1 x2 x3 f).pwr = s.pwr := by
  intro s x1 x2 x3 f h
  unfold State.runJob
  dsimp only
  split <;> rename_i hh <;> have hh' := congrArg Prod.fst hh <;> dsimp only at hh' <;> subst hh' <;> (try split) <;> simp [h]

@[simp] theorem State.runJob_sb0 : ∀ s x1 x2 x3 f, (∀ t0 a, (f t0 a).1.sb0 = a.sb0) → (State.runJob s x1 x2 x3 f).sb0 = s.sb0 := by
  intro s x1 x2 x3 f h
  unfold State.runJob
  dsimp only
  split <;> rename_i hh <;> have hh' := congrArg Prod.fst hh <;> dsimp only at hh' <;> subst hh' <;> (try split) <;> simp [h]

@[simp] theorem State.runJob_sb1 : ∀ s x1 x2 x3 f, (∀ t0 a, (f t0 a).1.sb1 = a.sb1) → (State.runJob s x1 x2 x3 f).sb1 = s.sb1 := by
  intro s x1 x2 x3 f h
  unfold State.runJob
  dsimp only
  split <;> rename_i hh <;> have hh' := congrArg Prod.fst hh <;> dsimp only at hh' <;> subst hh' <;> (try split) <;> simp [h]

@[simp] theorem State.runJob_sb2 : ∀ s x1 x2 x3 f, (∀ t0 a, (f t0 a).1.sb2 = a.sb2) → (State.runJob s x1 x2 x3 f).sb2 = s.sb2 := by
  intro s x1 x2 x3 f h
  unfold State.runJob
  dsimp only
  split <;> rename_i hh <;> have hh' := congrArg Prod.fst hh <;> dsimp only at hh' <;> subst hh' <;> (try split) <;> simp [h]

@[simp] theorem State.runJob_sb3 : ∀ s x1 x2 x3 f, (∀ t0 a, (f t0 a).1.sb3 = a.sb3) → (State.runJob s x1 x2 x3 f).sb3 = s.sb3 := by
  intro s x1 x2 x3 f h
  unfold State.runJob
  dsimp only
  split <;> rename_i hh <;> have hh' := congrArg Prod.fst hh <;> dsimp only at hh' <;> subst hh' <;> (try split) <;> simp [h]

@[simp] theorem State.runJob_sht : ∀ s x1 x2 x3 f, (∀ t0 a, (f t0 a).1.sht = a.sht) → (State.runJob s x1 x2 x3 f).sht = s.sht := by
  intro s x1 x2 x3 f h
  unfold State.runJob
  dsimp only
  split <;> rename_i hh <;> have hh' := congrArg Prod.fst hh <;> dsimp only at hh' <;> subst hh' <;> (try split) <;> simp [h]

@[simp] theorem State.runJob_unlocks : ∀ s x1 x2 x3 f, (∀ t0 a, (f t0 a).1.unlocks = a.unlocks) → (State.runJob s x1 x2 x3 f).unlocks = s.unlocks := by
  intro s x1 x2 x3 f h
  unfold State.runJob
  dsimp only
  split <;> rename_i hh <;> have hh' := congrArg Prod.fst hh <;> dsimp only at hh' <;> subst hh' <;> (try split) <;> simp [h]

@[simp] theorem State.runJob_addr : ∀ s x1 x2 x3 f, (∀ t0 a, (f t0 a).1.addr = a.addr) → (State.runJob s x1 x2 x3 f).addr = s.addr := by
  intro s x1 x2 x3 f h
  unfold State.runJob
  dsimp only
  split <;> rename_i hh <;> have hh' := congrArg Prod.fst hh <;> dsimp only at hh' <;> subst hh' <;> (try split) <;> simp [h]

@[simp] theorem State.runJob_trk : ∀ s x1 x2 x3 f, (∀ t0 a, (f t0 a).1.trk = a.trk) → (State.runJob s x1 x2 x3 f).trk = s.trk := by
  intro s x1 x2 x3 f h
  unfold State.runJob
  dsimp only
  split <;> rename_i hh <;> have hh' := congrArg Prod.fst hh <;> dsimp only at hh' <;> subst hh' <;> (try split) <;> simp [h]

@[simp] theorem State.runJob_twl : ∀ s x1 x2 x3 f, (∀ t0 a, (f t0 a).1.twl = a.twl) → (State.runJob s x1 x2 x3 f).twl = s.twl := by
  intro s x1 x2 x3 f h
  unfold State.runJob
  dsimp only
  split <;> rename_i hh <;> have hh' := congrArg Prod.fst hh <;> dsimp only at hh' <;> subst hh' <;> (try split) <;> simp [h]

@[simp] theorem State.runJob_pair : ∀ s x1 x2 x3 f, (∀ t0 a, (f t0 a).1.pair = a.pair) → (State.runJob s x1 x2 x3 f).pair = s.pair := by
  intro s x1 x2 x3 f h
  unfold State.runJob
  dsimp only
  split <;> rename_i hh <;> have hh' := congrArg Prod.fst hh <;> dsimp only at hh' <;> subst hh' <;> (try split) <;> simp [h]

@[simp] theorem State.runJob_tier : ∀ s x1 x2 x3 f, (∀ t0 a, (f t0 a).1.tier = a.tier) → (State.runJob s x1 x2 x3 f).tier = s.tier := by
  intro s x1 x2 x3 f h
  unfold State.runJob
  dsimp only
  split <;> rename_i hh <;> have hh' := congrArg Prod.fst hh <;> dsimp only at hh' <;> subst hh' <;> (try split) <;> simp [h]

@[simp] theorem State.runJob_lc : ∀ s x1 x2 x3 f, (∀ t0 a, (f t0 a).1.lc = a.lc) → (State.runJob s x1 x2 x3 f).lc = s.lc := by
  intro s x1 x2 x3 f h
  unfold State.runJob
  dsimp only
  split <;> rename_i hh <;> have hh' := congrArg Prod.fst hh <;> dsimp only at hh' <;> subst hh' <;> (try split) <;> simp [h]

@[simp] theorem State.runJob_ch : ∀ s x1 x2 x3 f, (∀ t0 a, (f t0 a).1.ch = a.ch) → (State.runJob s x1 x2 x3 f).ch = s.ch := by
  intro s x1 x2 x3 f h
  unfold State.runJob
  dsimp only
  split <;> rename_i hh <;> have hh' := congrArg Prod.fst hh <;> dsimp only at hh' <;> subst hh' <;> (try split) <;> simp [h]

@[simp] theorem State.runJob_ec : ∀ s x1 x2 x3 f, (∀ t0 a, (f t0 a).1.ec = a.ec) → (State.runJob s x1 x2 x3 f).ec = s.ec := by
  intro s x1 x2 x3 f h
  unfold State.runJob
  dsimp only
  split <;> rename_i hh <;> have hh' := congrArg Prod.fst hh <;> dsimp only at hh' <;> subst hh' <;> (try split) <;> simp [h]

@[simp] theorem State.runJob_mem : ∀ s x1 x2 x3 f, (∀ t0 a, (f t0 a).1.mem = a.mem) → (State.runJob s x1 x2 x3 f).mem = s.mem := by
  intro s x1 x2 x3 f h
  unfold State.runJob
  dsimp only
  split <;> rename_i hh <;> have hh' := congrArg Prod.fst hh <;> dsimp only at hh' <;> subst hh' <;> (try split) <;> simp [h]

@[simp] theorem State.runJob_vlt : ∀ s x1 x2 x3 f, (∀ t0 a, (f t0 a).1.vlt = a.vlt) → (State.runJob s x1 x2 x3 f).vlt = s.vlt := by
  intro s x1 x2 x3 f h
  unfold State.runJob
  dsimp only
  split <;> rename_i hh <;> have hh' := congrArg Prod.fst hh <;> dsimp only at hh' <;> subst hh' <;> (try split) <;> simp [h]

@[simp] theorem State.runJob_net : ∀ s x1 x2 x3 f, (∀ t0 a, (f t0 a).1.net = a.net) → (State.runJob s x1 x2 x3 f).net = s.net := by
  intro s x1 x2 x3 f h
  unfold State.runJob
  dsimp only
  split <;> rename_i hh <;> have hh' := congrArg Prod.fst hh <;> dsimp only at hh' <;> subst hh' <;> (try split) <;> simp [h]

@[simp] theorem State.runJob_cxl : ∀ s x1 x2 x3 f, (∀ t0 a, (f t0 a).1.cxl = a.cxl) → (State.runJob s x1 x2 x3 f).cxl = s.cxl := by
  intro s x1 x2 x3 f h
  unfold State.runJob
  dsimp only
  split <;> rename_i hh <;> have hh' := congrArg Prod.fst hh <;> dsimp only at hh' <;> subst hh' <;> (try split) <;> simp [h]

@[simp] theorem State.runJob_flt : ∀ s x1 x2 x3 f, (∀ t0 a, (f t0 a).1.flt = a.flt) → (State.runJob s x1 x2 x3 f).flt = s.flt := by
  intro s x1 x2 x3 f h
  unfold State.runJob
  dsimp only
  split <;> rename_i hh <;> have hh' := congrArg Prod.fst hh <;> dsimp only at hh' <;> subst hh' <;> (try split) <;> simp [h]

@[simp] theorem State.runJob_fls : ∀ s x1 x2 x3 f, (∀ t0 a, (f t0 a).1.fls = a.fls) → (State.runJob s x1 x2 x3 f).fls = s.fls := by
  intro s x1 x2 x3 f h
  unfold State.runJob
  dsimp only
  split <;> rename_i hh <;> have hh' := congrArg Prod.fst hh <;> dsimp only at hh' <;> subst hh' <;> (try split) <;> simp [h]

@[simp] theorem State.command_quietP : ∀ s x1 x2 x3 x4 f, (∀ t0 a, (f t0 a).1.quietP = a.quietP) → (State.command s x1 x2 x3 x4 f).quietP = s.quietP := by
  intro s x1 x2 x3 x4 f h
  unfold State.command
  repeat' split
  all_goals simp [h]

@[simp] theorem State.command_storeP : ∀ s x1 x2 x3 x4 f, (∀ t0 a, (f t0 a).1.storeP = a.storeP) → (State.command s x1 x2 x3 x4 f).storeP = s.storeP := by
  intro s x1 x2 x3 x4 f h
  unfold State.command
  repeat' split
  all_goals simp [h]

@[simp] theorem State.command_pathP : ∀ s x1 x2 x3 x4 f, (∀ t0 a, (f t0 a).1.pathP = a.pathP) → (State.command s x1 x2 x3 x4 f).pathP = s.pathP := by
  intro s x1 x2 x3 x4 f h
  unfold State.command
  repeat' split
  all_goals simp [h]

@[simp] theorem State.command_linksP : ∀ s x1 x2 x3 x4 f, (∀ t0 a, (f t0 a).1.linksP = a.linksP) → (State.command s x1 x2 x3 x4 f).linksP = s.linksP := by
  intro s x1 x2 x3 x4 f h
  unfold State.command
  repeat' split
  all_goals simp [h]

@[simp] theorem State.command_pending : ∀ s x1 x2 x3 x4 f, (∀ t0 a, (f t0 a).1.pending = a.pending) → (State.command s x1 x2 x3 x4 f).pending = s.pending := by
  intro s x1 x2 x3 x4 f h
  unfold State.command
  repeat' split
  all_goals simp [h]

@[simp] theorem State.command_fresh : ∀ s x1 x2 x3 x4 f, (∀ t0 a, (f t0 a).1.fresh = a.fresh) → (State.command s x1 x2 x3 x4 f).fresh = s.fresh := by
  intro s x1 x2 x3 x4 f h
  unfold State.command
  repeat' split
  all_goals simp [h]

@[simp] theorem State.command_regs : ∀ s x1 x2 x3 x4 f, (∀ t0 a, (f t0 a).1.regs = a.regs) → (State.command s x1 x2 x3 x4 f).regs = s.regs := by
  intro s x1 x2 x3 x4 f h
  unfold State.command
  repeat' split
  all_goals simp [h]

@[simp] theorem State.command_rsc : ∀ s x1 x2 x3 x4 f, (∀ t0 a, (f t0 a).1.rsc = a.rsc) → (State.command s x1 x2 x3 x4 f).rsc = s.rsc := by
  intro s x1 x2 x3 x4 f h
  unfold State.command
  repeat' split
  all_goals simp [h]

@[simp] theorem State.command_copies : ∀ s x1 x2 x3 x4 f, (∀ t0 a, (f t0 a).1.copies = a.copies) → (State.command s x1 x2 x3 x4 f).copies = s.copies := by
  intro s x1 x2 x3 x4 f h
  unfold State.command
  repeat' split
  all_goals simp [h]

@[simp] theorem State.command_latched : ∀ s x1 x2 x3 x4 f, (∀ t0 a, (f t0 a).1.latched = a.latched) → (State.command s x1 x2 x3 x4 f).latched = s.latched := by
  intro s x1 x2 x3 x4 f h
  unfold State.command
  repeat' split
  all_goals simp [h]

@[simp] theorem State.command_mode : ∀ s x1 x2 x3 x4 f, (∀ t0 a, (f t0 a).1.mode = a.mode) → (State.command s x1 x2 x3 x4 f).mode = s.mode := by
  intro s x1 x2 x3 x4 f h
  unfold State.command
  repeat' split
  all_goals simp [h]

@[simp] theorem State.command_tim : ∀ s x1 x2 x3 x4 f, (∀ t0 a, (f t0 a).1.tim = a.tim) → (State.command s x1 x2 x3 x4 f).tim = s.tim := by
  intro s x1 x2 x3 x4 f h
  unfold State.command
  repeat' split
  all_goals simp [h]

@[simp] theorem State.command_pwr : ∀ s x1 x2 x3 x4 f, (∀ t0 a, (f t0 a).1.pwr = a.pwr) → (State.command s x1 x2 x3 x4 f).pwr = s.pwr := by
  intro s x1 x2 x3 x4 f h
  unfold State.command
  repeat' split
  all_goals simp [h]

@[simp] theorem State.command_sb0 : ∀ s x1 x2 x3 x4 f, (∀ t0 a, (f t0 a).1.sb0 = a.sb0) → (State.command s x1 x2 x3 x4 f).sb0 = s.sb0 := by
  intro s x1 x2 x3 x4 f h
  unfold State.command
  repeat' split
  all_goals simp [h]

@[simp] theorem State.command_sb1 : ∀ s x1 x2 x3 x4 f, (∀ t0 a, (f t0 a).1.sb1 = a.sb1) → (State.command s x1 x2 x3 x4 f).sb1 = s.sb1 := by
  intro s x1 x2 x3 x4 f h
  unfold State.command
  repeat' split
  all_goals simp [h]

@[simp] theorem State.command_sb2 : ∀ s x1 x2 x3 x4 f, (∀ t0 a, (f t0 a).1.sb2 = a.sb2) → (State.command s x1 x2 x3 x4 f).sb2 = s.sb2 := by
  intro s x1 x2 x3 x4 f h
  unfold State.command
  repeat' split
  all_goals simp [h]

@[simp] theorem State.command_sb3 : ∀ s x1 x2 x3 x4 f, (∀ t0 a, (f t0 a).1.sb3 = a.sb3) → (State.command s x1 x2 x3 x4 f).sb3 = s.sb3 := by
  intro s x1 x2 x3 x4 f h
  unfold State.command
  repeat' split
  all_goals simp [h]

@[simp] theorem State.command_sht : ∀ s x1 x2 x3 x4 f, (∀ t0 a, (f t0 a).1.sht = a.sht) → (State.command s x1 x2 x3 x4 f).sht = s.sht := by
  intro s x1 x2 x3 x4 f h
  unfold State.command
  repeat' split
  all_goals simp [h]

@[simp] theorem State.command_unlocks : ∀ s x1 x2 x3 x4 f, (∀ t0 a, (f t0 a).1.unlocks = a.unlocks) → (State.command s x1 x2 x3 x4 f).unlocks = s.unlocks := by
  intro s x1 x2 x3 x4 f h
  unfold State.command
  repeat' split
  all_goals simp [h]

@[simp] theorem State.command_addr : ∀ s x1 x2 x3 x4 f, (∀ t0 a, (f t0 a).1.addr = a.addr) → (State.command s x1 x2 x3 x4 f).addr = s.addr := by
  intro s x1 x2 x3 x4 f h
  unfold State.command
  repeat' split
  all_goals simp [h]

@[simp] theorem State.command_trk : ∀ s x1 x2 x3 x4 f, (∀ t0 a, (f t0 a).1.trk = a.trk) → (State.command s x1 x2 x3 x4 f).trk = s.trk := by
  intro s x1 x2 x3 x4 f h
  unfold State.command
  repeat' split
  all_goals simp [h]

@[simp] theorem State.command_twl : ∀ s x1 x2 x3 x4 f, (∀ t0 a, (f t0 a).1.twl = a.twl) → (State.command s x1 x2 x3 x4 f).twl = s.twl := by
  intro s x1 x2 x3 x4 f h
  unfold State.command
  repeat' split
  all_goals simp [h]

@[simp] theorem State.command_pair : ∀ s x1 x2 x3 x4 f, (∀ t0 a, (f t0 a).1.pair = a.pair) → (State.command s x1 x2 x3 x4 f).pair = s.pair := by
  intro s x1 x2 x3 x4 f h
  unfold State.command
  repeat' split
  all_goals simp [h]

@[simp] theorem State.command_tier : ∀ s x1 x2 x3 x4 f, (∀ t0 a, (f t0 a).1.tier = a.tier) → (State.command s x1 x2 x3 x4 f).tier = s.tier := by
  intro s x1 x2 x3 x4 f h
  unfold State.command
  repeat' split
  all_goals simp [h]

@[simp] theorem State.command_lc : ∀ s x1 x2 x3 x4 f, (∀ t0 a, (f t0 a).1.lc = a.lc) → (State.command s x1 x2 x3 x4 f).lc = s.lc := by
  intro s x1 x2 x3 x4 f h
  unfold State.command
  repeat' split
  all_goals simp [h]

@[simp] theorem State.command_ch : ∀ s x1 x2 x3 x4 f, (∀ t0 a, (f t0 a).1.ch = a.ch) → (State.command s x1 x2 x3 x4 f).ch = s.ch := by
  intro s x1 x2 x3 x4 f h
  unfold State.command
  repeat' split
  all_goals simp [h]

@[simp] theorem State.command_ec : ∀ s x1 x2 x3 x4 f, (∀ t0 a, (f t0 a).1.ec = a.ec) → (State.command s x1 x2 x3 x4 f).ec = s.ec := by
  intro s x1 x2 x3 x4 f h
  unfold State.command
  repeat' split
  all_goals simp [h]

@[simp] theorem State.command_mem : ∀ s x1 x2 x3 x4 f, (∀ t0 a, (f t0 a).1.mem = a.mem) → (State.command s x1 x2 x3 x4 f).mem = s.mem := by
  intro s x1 x2 x3 x4 f h
  unfold State.command
  repeat' split
  all_goals simp [h]

@[simp] theorem State.command_vlt : ∀ s x1 x2 x3 x4 f, (∀ t0 a, (f t0 a).1.vlt = a.vlt) → (State.command s x1 x2 x3 x4 f).vlt = s.vlt := by
  intro s x1 x2 x3 x4 f h
  unfold State.command
  repeat' split
  all_goals simp [h]

@[simp] theorem State.command_net : ∀ s x1 x2 x3 x4 f, (∀ t0 a, (f t0 a).1.net = a.net) → (State.command s x1 x2 x3 x4 f).net = s.net := by
  intro s x1 x2 x3 x4 f h
  unfold State.command
  repeat' split
  all_goals simp [h]

@[simp] theorem State.command_cxl : ∀ s x1 x2 x3 x4 f, (∀ t0 a, (f t0 a).1.cxl = a.cxl) → (State.command s x1 x2 x3 x4 f).cxl = s.cxl := by
  intro s x1 x2 x3 x4 f h
  unfold State.command
  repeat' split
  all_goals simp [h]

@[simp] theorem State.command_flt : ∀ s x1 x2 x3 x4 f, (∀ t0 a, (f t0 a).1.flt = a.flt) → (State.command s x1 x2 x3 x4 f).flt = s.flt := by
  intro s x1 x2 x3 x4 f h
  unfold State.command
  repeat' split
  all_goals simp [h]

@[simp] theorem State.command_fls : ∀ s x1 x2 x3 x4 f, (∀ t0 a, (f t0 a).1.fls = a.fls) → (State.command s x1 x2 x3 x4 f).fls = s.fls := by
  intro s x1 x2 x3 x4 f h
  unfold State.command
  repeat' split
  all_goals simp [h]

@[simp] theorem State.simple_quietP : ∀ s x1 x2 x3 f, (∀ a, (f a).1.quietP = a.quietP) → (State.simple s x1 x2 x3 f).quietP = s.quietP := by
  intro s x1 x2 x3 f h
  unfold State.simple
  exact State.command_quietP _ _ _ _ _ _ (fun _ a => h a)

@[simp] theorem State.simple_storeP : ∀ s x1 x2 x3 f, (∀ a, (f a).1.storeP = a.storeP) → (State.simple s x1 x2 x3 f).storeP = s.storeP := by
  intro s x1 x2 x3 f h
  unfold State.simple
  exact State.command_storeP _ _ _ _ _ _ (fun _ a => h a)

@[simp] theorem State.simple_pathP : ∀ s x1 x2 x3 f, (∀ a, (f a).1.pathP = a.pathP) → (State.simple s x1 x2 x3 f).pathP = s.pathP := by
  intro s x1 x2 x3 f h
  unfold State.simple
  exact State.command_pathP _ _ _ _ _ _ (fun _ a => h a)

@[simp] theorem State.simple_linksP : ∀ s x1 x2 x3 f, (∀ a, (f a).1.linksP = a.linksP) → (State.simple s x1 x2 x3 f).linksP = s.linksP := by
  intro s x1 x2 x3 f h
  unfold State.simple
  exact State.command_linksP _ _ _ _ _ _ (fun _ a => h a)

@[simp] theorem State.simple_pending : ∀ s x1 x2 x3 f, (∀ a, (f a).1.pending = a.pending) → (State.simple s x1 x2 x3 f).pending = s.pending := by
  intro s x1 x2 x3 f h
  unfold State.simple
  exact State.command_pending _ _ _ _ _ _ (fun _ a => h a)

@[simp] theorem State.simple_fresh : ∀ s x1 x2 x3 f, (∀ a, (f a).1.fresh = a.fresh) → (State.simple s x1 x2 x3 f).fresh = s.fresh := by
  intro s x1 x2 x3 f h
  unfold State.simple
  exact State.command_fresh _ _ _ _ _ _ (fun _ a => h a)

@[simp] theorem State.simple_regs : ∀ s x1 x2 x3 f, (∀ a, (f a).1.regs = a.regs) → (State.simple s x1 x2 x3 f).regs = s.regs := by
  intro s x1 x2 x3 f h
  unfold State.simple
  exact State.command_regs _ _ _ _ _ _ (fun _ a => h a)

@[simp] theorem State.simple_rsc : ∀ s x1 x2 x3 f, (∀ a, (f a).1.rsc = a.rsc) → (State.simple s x1 x2 x3 f).rsc = s.rsc := by
  intro s x1 x2 x3 f h
  unfold State.simple
  exact State.command_rsc _ _ _ _ _ _ (fun _ a => h a)

@[simp] theorem State.simple_copies : ∀ s x1 x2 x3 f, (∀ a, (f a).1.copies = a.copies) → (State.simple s x1 x2 x3 f).copies = s.copies := by
  intro s x1 x2 x3 f h
  unfold State.simple
  exact State.command_copies _ _ _ _ _ _ (fun _ a => h a)

@[simp] theorem State.simple_latched : ∀ s x1 x2 x3 f, (∀ a, (f a).1.latched = a.latched) → (State.simple s x1 x2 x3 f).latched = s.latched := by
  intro s x1 x2 x3 f h
  unfold State.simple
  exact State.command_latched _ _ _ _ _ _ (fun _ a => h a)

@[simp] theorem State.simple_mode : ∀ s x1 x2 x3 f, (∀ a, (f a).1.mode = a.mode) → (State.simple s x1 x2 x3 f).mode = s.mode := by
  intro s x1 x2 x3 f h
  unfold State.simple
  exact State.command_mode _ _ _ _ _ _ (fun _ a => h a)

@[simp] theorem State.simple_tim : ∀ s x1 x2 x3 f, (∀ a, (f a).1.tim = a.tim) → (State.simple s x1 x2 x3 f).tim = s.tim := by
  intro s x1 x2 x3 f h
  unfold State.simple
  exact State.command_tim _ _ _ _ _ _ (fun _ a => h a)

@[simp] theorem State.simple_pwr : ∀ s x1 x2 x3 f, (∀ a, (f a).1.pwr = a.pwr) → (State.simple s x1 x2 x3 f).pwr = s.pwr := by
  intro s x1 x2 x3 f h
  unfold State.simple
  exact State.command_pwr _ _ _ _ _ _ (fun _ a => h a)

@[simp] theorem State.simple_sb0 : ∀ s x1 x2 x3 f, (∀ a, (f a).1.sb0 = a.sb0) → (State.simple s x1 x2 x3 f).sb0 = s.sb0 := by
  intro s x1 x2 x3 f h
  unfold State.simple
  exact State.command_sb0 _ _ _ _ _ _ (fun _ a => h a)

@[simp] theorem State.simple_sb1 : ∀ s x1 x2 x3 f, (∀ a, (f a).1.sb1 = a.sb1) → (State.simple s x1 x2 x3 f).sb1 = s.sb1 := by
  intro s x1 x2 x3 f h
  unfold State.simple
  exact State.command_sb1 _ _ _ _ _ _ (fun _ a => h a)

@[simp] theorem State.simple_sb2 : ∀ s x1 x2 x3 f, (∀ a, (f a).1.sb2 = a.sb2) → (State.simple s x1 x2 x3 f).sb2 = s.sb2 := by
  intro s x1 x2 x3 f h
  unfold State.simple
  exact State.command_sb2 _ _ _ _ _ _ (fun _ a => h a)

@[simp] theorem State.simple_sb3 : ∀ s x1 x2 x3 f, (∀ a, (f a).1.sb3 = a.sb3) → (State.simple s x1 x2 x3 f).sb3 = s.sb3 := by
  intro s x1 x2 x3 f h
  unfold State.simple
  exact State.command_sb3 _ _ _ _ _ _ (fun _ a => h a)

@[simp] theorem State.simple_sht : ∀ s x1 x2 x3 f, (∀ a, (f a).1.sht = a.sht) → (State.simple s x1 x2 x3 f).sht = s.sht := by
  intro s x1 x2 x3 f h
  unfold State.simple
  exact State.command_sht _ _ _ _ _ _ (fun _ a => h a)

@[simp] theorem State.simple_unlocks : ∀ s x1 x2 x3 f, (∀ a, (f a).1.unlocks = a.unlocks) → (State.simple s x1 x2 x3 f).unlocks = s.unlocks := by
  intro s x1 x2 x3 f h
  unfold State.simple
  exact State.command_unlocks _ _ _ _ _ _ (fun _ a => h a)

@[simp] theorem State.simple_addr : ∀ s x1 x2 x3 f, (∀ a, (f a).1.addr = a.addr) → (State.simple s x1 x2 x3 f).addr = s.addr := by
  intro s x1 x2 x3 f h
  unfold State.simple
  exact State.command_addr _ _ _ _ _ _ (fun _ a => h a)

@[simp] theorem State.simple_trk : ∀ s x1 x2 x3 f, (∀ a, (f a).1.trk = a.trk) → (State.simple s x1 x2 x3 f).trk = s.trk := by
  intro s x1 x2 x3 f h
  unfold State.simple
  exact State.command_trk _ _ _ _ _ _ (fun _ a => h a)

@[simp] theorem State.simple_twl : ∀ s x1 x2 x3 f, (∀ a, (f a).1.twl = a.twl) → (State.simple s x1 x2 x3 f).twl = s.twl := by
  intro s x1 x2 x3 f h
  unfold State.simple
  exact State.command_twl _ _ _ _ _ _ (fun _ a => h a)

@[simp] theorem State.simple_pair : ∀ s x1 x2 x3 f, (∀ a, (f a).1.pair = a.pair) → (State.simple s x1 x2 x3 f).pair = s.pair := by
  intro s x1 x2 x3 f h
  unfold State.simple
  exact State.command_pair _ _ _ _ _ _ (fun _ a => h a)

@[simp] theorem State.simple_tier : ∀ s x1 x2 x3 f, (∀ a, (f a).1.tier = a.tier) → (State.simple s x1 x2 x3 f).tier = s.tier := by
  intro s x1 x2 x3 f h
  unfold State.simple
  exact State.command_tier _ _ _ _ _ _ (fun _ a => h a)

@[simp] theorem State.simple_lc : ∀ s x1 x2 x3 f, (∀ a, (f a).1.lc = a.lc) → (State.simple s x1 x2 x3 f).lc = s.lc := by
  intro s x1 x2 x3 f h
  unfold State.simple
  exact State.command_lc _ _ _ _ _ _ (fun _ a => h a)

@[simp] theorem State.simple_ch : ∀ s x1 x2 x3 f, (∀ a, (f a).1.ch = a.ch) → (State.simple s x1 x2 x3 f).ch = s.ch := by
  intro s x1 x2 x3 f h
  unfold State.simple
  exact State.command_ch _ _ _ _ _ _ (fun _ a => h a)

@[simp] theorem State.simple_ec : ∀ s x1 x2 x3 f, (∀ a, (f a).1.ec = a.ec) → (State.simple s x1 x2 x3 f).ec = s.ec := by
  intro s x1 x2 x3 f h
  unfold State.simple
  exact State.command_ec _ _ _ _ _ _ (fun _ a => h a)

@[simp] theorem State.simple_mem : ∀ s x1 x2 x3 f, (∀ a, (f a).1.mem = a.mem) → (State.simple s x1 x2 x3 f).mem = s.mem := by
  intro s x1 x2 x3 f h
  unfold State.simple
  exact State.command_mem _ _ _ _ _ _ (fun _ a => h a)

@[simp] theorem State.simple_vlt : ∀ s x1 x2 x3 f, (∀ a, (f a).1.vlt = a.vlt) → (State.simple s x1 x2 x3 f).vlt = s.vlt := by
  intro s x1 x2 x3 f h
  unfold State.simple
  exact State.command_vlt _ _ _ _ _ _ (fun _ a => h a)

@[simp] theorem State.simple_net : ∀ s x1 x2 x3 f, (∀ a, (f a).1.net = a.net) → (State.simple s x1 x2 x3 f).net = s.net := by
  intro s x1 x2 x3 f h
  unfold State.simple
  exact State.command_net _ _ _ _ _ _ (fun _ a => h a)

@[simp] theorem State.simple_cxl : ∀ s x1 x2 x3 f, (∀ a, (f a).1.cxl = a.cxl) → (State.simple s x1 x2 x3 f).cxl = s.cxl := by
  intro s x1 x2 x3 f h
  unfold State.simple
  exact State.command_cxl _ _ _ _ _ _ (fun _ a => h a)

@[simp] theorem State.simple_flt : ∀ s x1 x2 x3 f, (∀ a, (f a).1.flt = a.flt) → (State.simple s x1 x2 x3 f).flt = s.flt := by
  intro s x1 x2 x3 f h
  unfold State.simple
  exact State.command_flt _ _ _ _ _ _ (fun _ a => h a)

@[simp] theorem State.simple_fls : ∀ s x1 x2 x3 f, (∀ a, (f a).1.fls = a.fls) → (State.simple s x1 x2 x3 f).fls = s.fls := by
  intro s x1 x2 x3 f h
  unfold State.simple
  exact State.command_fls _ _ _ _ _ _ (fun _ a => h a)

@[simp] theorem State.query_quietP : ∀ s x1 x2 x3 f, (State.query s x1 x2 x3 f).quietP = s.quietP := by
  intro s x1 x2 x3 f
  unfold State.query
  simp

@[simp] theorem State.query_storeP : ∀ s x1 x2 x3 f, (State.query s x1 x2 x3 f).storeP = s.storeP := by
  intro s x1 x2 x3 f
  unfold State.query
  simp

@[simp] theorem State.query_pathP : ∀ s x1 x2 x3 f, (State.query s x1 x2 x3 f).pathP = s.pathP := by
  intro s x1 x2 x3 f
  unfold State.query
  simp

@[simp] theorem State.query_linksP : ∀ s x1 x2 x3 f, (State.query s x1 x2 x3 f).linksP = s.linksP := by
  intro s x1 x2 x3 f
  unfold State.query
  simp

@[simp] theorem State.query_pending : ∀ s x1 x2 x3 f, (State.query s x1 x2 x3 f).pending = s.pending := by
  intro s x1 x2 x3 f
  unfold State.query
  simp

@[simp] theorem State.query_fresh : ∀ s x1 x2 x3 f, (State.query s x1 x2 x3 f).fresh = s.fresh := by
  intro s x1 x2 x3 f
  unfold State.query
  simp

@[simp] theorem State.query_regs : ∀ s x1 x2 x3 f, (State.query s x1 x2 x3 f).regs = s.regs := by
  intro s x1 x2 x3 f
  unfold State.query
  simp

@[simp] theorem State.query_rsc : ∀ s x1 x2 x3 f, (State.query s x1 x2 x3 f).rsc = s.rsc := by
  intro s x1 x2 x3 f
  unfold State.query
  simp

@[simp] theorem State.query_copies : ∀ s x1 x2 x3 f, (State.query s x1 x2 x3 f).copies = s.copies := by
  intro s x1 x2 x3 f
  unfold State.query
  simp

@[simp] theorem State.query_latched : ∀ s x1 x2 x3 f, (State.query s x1 x2 x3 f).latched = s.latched := by
  intro s x1 x2 x3 f
  unfold State.query
  simp

@[simp] theorem State.query_mode : ∀ s x1 x2 x3 f, (State.query s x1 x2 x3 f).mode = s.mode := by
  intro s x1 x2 x3 f
  unfold State.query
  simp

@[simp] theorem State.query_tim : ∀ s x1 x2 x3 f, (State.query s x1 x2 x3 f).tim = s.tim := by
  intro s x1 x2 x3 f
  unfold State.query
  simp

@[simp] theorem State.query_pwr : ∀ s x1 x2 x3 f, (State.query s x1 x2 x3 f).pwr = s.pwr := by
  intro s x1 x2 x3 f
  unfold State.query
  simp

@[simp] theorem State.query_sb0 : ∀ s x1 x2 x3 f, (State.query s x1 x2 x3 f).sb0 = s.sb0 := by
  intro s x1 x2 x3 f
  unfold State.query
  simp

@[simp] theorem State.query_sb1 : ∀ s x1 x2 x3 f, (State.query s x1 x2 x3 f).sb1 = s.sb1 := by
  intro s x1 x2 x3 f
  unfold State.query
  simp

@[simp] theorem State.query_sb2 : ∀ s x1 x2 x3 f, (State.query s x1 x2 x3 f).sb2 = s.sb2 := by
  intro s x1 x2 x3 f
  unfold State.query
  simp

@[simp] theorem State.query_sb3 : ∀ s x1 x2 x3 f, (State.query s x1 x2 x3 f).sb3 = s.sb3 := by
  intro s x1 x2 x3 f
  unfold State.query
  simp

@[simp] theorem State.query_sht : ∀ s x1 x2 x3 f, (State.query s x1 x2 x3 f).sht = s.sht := by
  intro s x1 x2 x3 f
  unfold State.query
  simp

@[simp] theorem State.query_unlocks : ∀ s x1 x2 x3 f, (State.query s x1 x2 x3 f).unlocks = s.unlocks := by
  intro s x1 x2 x3 f
  unfold State.query
  simp

@[simp] theorem State.query_addr : ∀ s x1 x2 x3 f, (State.query s x1 x2 x3 f).addr = s.addr := by
  intro s x1 x2 x3 f
  unfold State.query
  simp

@[simp] theorem State.query_trk : ∀ s x1 x2 x3 f, (State.query s x1 x2 x3 f).trk = s.trk := by
  intro s x1 x2 x3 f
  unfold State.query
  simp

@[simp] theorem State.query_twl : ∀ s x1 x2 x3 f, (State.query s x1 x2 x3 f).twl = s.twl := by
  intro s x1 x2 x3 f
  unfold State.query
  simp

@[simp] theorem State.query_pair : ∀ s x1 x2 x3 f, (State.query s x1 x2 x3 f).pair = s.pair := by
  intro s x1 x2 x3 f
  unfold State.query
  simp

@[simp] theorem State.query_tier : ∀ s x1 x2 x3 f, (State.query s x1 x2 x3 f).tier = s.tier := by
  intro s x1 x2 x3 f
  unfold State.query
  simp

@[simp] theorem State.query_lc : ∀ s x1 x2 x3 f, (State.query s x1 x2 x3 f).lc = s.lc := by
  intro s x1 x2 x3 f
  unfold State.query
  simp

@[simp] theorem State.query_ch : ∀ s x1 x2 x3 f, (State.query s x1 x2 x3 f).ch = s.ch := by
  intro s x1 x2 x3 f
  unfold State.query
  simp

@[simp] theorem State.query_ec : ∀ s x1 x2 x3 f, (State.query s x1 x2 x3 f).ec = s.ec := by
  intro s x1 x2 x3 f
  unfold State.query
  simp

@[simp] theorem State.query_mem : ∀ s x1 x2 x3 f, (State.query s x1 x2 x3 f).mem = s.mem := by
  intro s x1 x2 x3 f
  unfold State.query
  simp

@[simp] theorem State.query_vlt : ∀ s x1 x2 x3 f, (State.query s x1 x2 x3 f).vlt = s.vlt := by
  intro s x1 x2 x3 f
  unfold State.query
  simp

@[simp] theorem State.query_net : ∀ s x1 x2 x3 f, (State.query s x1 x2 x3 f).net = s.net := by
  intro s x1 x2 x3 f
  unfold State.query
  simp

@[simp] theorem State.query_cxl : ∀ s x1 x2 x3 f, (State.query s x1 x2 x3 f).cxl = s.cxl := by
  intro s x1 x2 x3 f
  unfold State.query
  simp

@[simp] theorem State.query_flt : ∀ s x1 x2 x3 f, (State.query s x1 x2 x3 f).flt = s.flt := by
  intro s x1 x2 x3 f
  unfold State.query
  simp

@[simp] theorem State.query_fls : ∀ s x1 x2 x3 f, (State.query s x1 x2 x3 f).fls = s.fls := by
  intro s x1 x2 x3 f
  unfold State.query
  simp

@[simp] theorem State.fmCommand_quietP : ∀ s x1 x2 f, (∀ a, (f a).1.quietP = a.quietP) → (State.fmCommand s x1 x2 f).quietP = s.quietP := by
  intro s x1 x2 f h
  unfold State.fmCommand
  refine State.simple_quietP _ _ _ _ _ (fun a => ?_)
  split
  · rfl
  · exact h a

@[simp] theorem State.fmCommand_storeP : ∀ s x1 x2 f, (∀ a, (f a).1.storeP = a.storeP) → (State.fmCommand s x1 x2 f).storeP = s.storeP := by
  intro s x1 x2 f h
  unfold State.fmCommand
  refine State.simple_storeP _ _ _ _ _ (fun a => ?_)
  split
  · rfl
  · exact h a

@[simp] theorem State.fmCommand_pathP : ∀ s x1 x2 f, (∀ a, (f a).1.pathP = a.pathP) → (State.fmCommand s x1 x2 f).pathP = s.pathP := by
  intro s x1 x2 f h
  unfold State.fmCommand
  refine State.simple_pathP _ _ _ _ _ (fun a => ?_)
  split
  · rfl
  · exact h a

@[simp] theorem State.fmCommand_linksP : ∀ s x1 x2 f, (∀ a, (f a).1.linksP = a.linksP) → (State.fmCommand s x1 x2 f).linksP = s.linksP := by
  intro s x1 x2 f h
  unfold State.fmCommand
  refine State.simple_linksP _ _ _ _ _ (fun a => ?_)
  split
  · rfl
  · exact h a

@[simp] theorem State.fmCommand_pending : ∀ s x1 x2 f, (∀ a, (f a).1.pending = a.pending) → (State.fmCommand s x1 x2 f).pending = s.pending := by
  intro s x1 x2 f h
  unfold State.fmCommand
  refine State.simple_pending _ _ _ _ _ (fun a => ?_)
  split
  · rfl
  · exact h a

@[simp] theorem State.fmCommand_fresh : ∀ s x1 x2 f, (∀ a, (f a).1.fresh = a.fresh) → (State.fmCommand s x1 x2 f).fresh = s.fresh := by
  intro s x1 x2 f h
  unfold State.fmCommand
  refine State.simple_fresh _ _ _ _ _ (fun a => ?_)
  split
  · rfl
  · exact h a

@[simp] theorem State.fmCommand_regs : ∀ s x1 x2 f, (∀ a, (f a).1.regs = a.regs) → (State.fmCommand s x1 x2 f).regs = s.regs := by
  intro s x1 x2 f h
  unfold State.fmCommand
  refine State.simple_regs _ _ _ _ _ (fun a => ?_)
  split
  · rfl
  · exact h a

@[simp] theorem State.fmCommand_rsc : ∀ s x1 x2 f, (∀ a, (f a).1.rsc = a.rsc) → (State.fmCommand s x1 x2 f).rsc = s.rsc := by
  intro s x1 x2 f h
  unfold State.fmCommand
  refine State.simple_rsc _ _ _ _ _ (fun a => ?_)
  split
  · rfl
  · exact h a

@[simp] theorem State.fmCommand_copies : ∀ s x1 x2 f, (∀ a, (f a).1.copies = a.copies) → (State.fmCommand s x1 x2 f).copies = s.copies := by
  intro s x1 x2 f h
  unfold State.fmCommand
  refine State.simple_copies _ _ _ _ _ (fun a => ?_)
  split
  · rfl
  · exact h a

@[simp] theorem State.fmCommand_latched : ∀ s x1 x2 f, (∀ a, (f a).1.latched = a.latched) → (State.fmCommand s x1 x2 f).latched = s.latched := by
  intro s x1 x2 f h
  unfold State.fmCommand
  refine State.simple_latched _ _ _ _ _ (fun a => ?_)
  split
  · rfl
  · exact h a

@[simp] theorem State.fmCommand_mode : ∀ s x1 x2 f, (∀ a, (f a).1.mode = a.mode) → (State.fmCommand s x1 x2 f).mode = s.mode := by
  intro s x1 x2 f h
  unfold State.fmCommand
  refine State.simple_mode _ _ _ _ _ (fun a => ?_)
  split
  · rfl
  · exact h a

@[simp] theorem State.fmCommand_tim : ∀ s x1 x2 f, (∀ a, (f a).1.tim = a.tim) → (State.fmCommand s x1 x2 f).tim = s.tim := by
  intro s x1 x2 f h
  unfold State.fmCommand
  refine State.simple_tim _ _ _ _ _ (fun a => ?_)
  split
  · rfl
  · exact h a

@[simp] theorem State.fmCommand_pwr : ∀ s x1 x2 f, (∀ a, (f a).1.pwr = a.pwr) → (State.fmCommand s x1 x2 f).pwr = s.pwr := by
  intro s x1 x2 f h
  unfold State.fmCommand
  refine State.simple_pwr _ _ _ _ _ (fun a => ?_)
  split
  · rfl
  · exact h a

@[simp] theorem State.fmCommand_sb0 : ∀ s x1 x2 f, (∀ a, (f a).1.sb0 = a.sb0) → (State.fmCommand s x1 x2 f).sb0 = s.sb0 := by
  intro s x1 x2 f h
  unfold State.fmCommand
  refine State.simple_sb0 _ _ _ _ _ (fun a => ?_)
  split
  · rfl
  · exact h a

@[simp] theorem State.fmCommand_sb1 : ∀ s x1 x2 f, (∀ a, (f a).1.sb1 = a.sb1) → (State.fmCommand s x1 x2 f).sb1 = s.sb1 := by
  intro s x1 x2 f h
  unfold State.fmCommand
  refine State.simple_sb1 _ _ _ _ _ (fun a => ?_)
  split
  · rfl
  · exact h a

@[simp] theorem State.fmCommand_sb2 : ∀ s x1 x2 f, (∀ a, (f a).1.sb2 = a.sb2) → (State.fmCommand s x1 x2 f).sb2 = s.sb2 := by
  intro s x1 x2 f h
  unfold State.fmCommand
  refine State.simple_sb2 _ _ _ _ _ (fun a => ?_)
  split
  · rfl
  · exact h a

@[simp] theorem State.fmCommand_sb3 : ∀ s x1 x2 f, (∀ a, (f a).1.sb3 = a.sb3) → (State.fmCommand s x1 x2 f).sb3 = s.sb3 := by
  intro s x1 x2 f h
  unfold State.fmCommand
  refine State.simple_sb3 _ _ _ _ _ (fun a => ?_)
  split
  · rfl
  · exact h a

@[simp] theorem State.fmCommand_sht : ∀ s x1 x2 f, (∀ a, (f a).1.sht = a.sht) → (State.fmCommand s x1 x2 f).sht = s.sht := by
  intro s x1 x2 f h
  unfold State.fmCommand
  refine State.simple_sht _ _ _ _ _ (fun a => ?_)
  split
  · rfl
  · exact h a

@[simp] theorem State.fmCommand_unlocks : ∀ s x1 x2 f, (∀ a, (f a).1.unlocks = a.unlocks) → (State.fmCommand s x1 x2 f).unlocks = s.unlocks := by
  intro s x1 x2 f h
  unfold State.fmCommand
  refine State.simple_unlocks _ _ _ _ _ (fun a => ?_)
  split
  · rfl
  · exact h a

@[simp] theorem State.fmCommand_addr : ∀ s x1 x2 f, (∀ a, (f a).1.addr = a.addr) → (State.fmCommand s x1 x2 f).addr = s.addr := by
  intro s x1 x2 f h
  unfold State.fmCommand
  refine State.simple_addr _ _ _ _ _ (fun a => ?_)
  split
  · rfl
  · exact h a

@[simp] theorem State.fmCommand_trk : ∀ s x1 x2 f, (∀ a, (f a).1.trk = a.trk) → (State.fmCommand s x1 x2 f).trk = s.trk := by
  intro s x1 x2 f h
  unfold State.fmCommand
  refine State.simple_trk _ _ _ _ _ (fun a => ?_)
  split
  · rfl
  · exact h a

@[simp] theorem State.fmCommand_twl : ∀ s x1 x2 f, (∀ a, (f a).1.twl = a.twl) → (State.fmCommand s x1 x2 f).twl = s.twl := by
  intro s x1 x2 f h
  unfold State.fmCommand
  refine State.simple_twl _ _ _ _ _ (fun a => ?_)
  split
  · rfl
  · exact h a

@[simp] theorem State.fmCommand_pair : ∀ s x1 x2 f, (∀ a, (f a).1.pair = a.pair) → (State.fmCommand s x1 x2 f).pair = s.pair := by
  intro s x1 x2 f h
  unfold State.fmCommand
  refine State.simple_pair _ _ _ _ _ (fun a => ?_)
  split
  · rfl
  · exact h a

@[simp] theorem State.fmCommand_tier : ∀ s x1 x2 f, (∀ a, (f a).1.tier = a.tier) → (State.fmCommand s x1 x2 f).tier = s.tier := by
  intro s x1 x2 f h
  unfold State.fmCommand
  refine State.simple_tier _ _ _ _ _ (fun a => ?_)
  split
  · rfl
  · exact h a

@[simp] theorem State.fmCommand_lc : ∀ s x1 x2 f, (∀ a, (f a).1.lc = a.lc) → (State.fmCommand s x1 x2 f).lc = s.lc := by
  intro s x1 x2 f h
  unfold State.fmCommand
  refine State.simple_lc _ _ _ _ _ (fun a => ?_)
  split
  · rfl
  · exact h a

@[simp] theorem State.fmCommand_ch : ∀ s x1 x2 f, (∀ a, (f a).1.ch = a.ch) → (State.fmCommand s x1 x2 f).ch = s.ch := by
  intro s x1 x2 f h
  unfold State.fmCommand
  refine State.simple_ch _ _ _ _ _ (fun a => ?_)
  split
  · rfl
  · exact h a

@[simp] theorem State.fmCommand_ec : ∀ s x1 x2 f, (∀ a, (f a).1.ec = a.ec) → (State.fmCommand s x1 x2 f).ec = s.ec := by
  intro s x1 x2 f h
  unfold State.fmCommand
  refine State.simple_ec _ _ _ _ _ (fun a => ?_)
  split
  · rfl
  · exact h a

@[simp] theorem State.fmCommand_mem : ∀ s x1 x2 f, (∀ a, (f a).1.mem = a.mem) → (State.fmCommand s x1 x2 f).mem = s.mem := by
  intro s x1 x2 f h
  unfold State.fmCommand
  refine State.simple_mem _ _ _ _ _ (fun a => ?_)
  split
  · rfl
  · exact h a

@[simp] theorem State.fmCommand_vlt : ∀ s x1 x2 f, (∀ a, (f a).1.vlt = a.vlt) → (State.fmCommand s x1 x2 f).vlt = s.vlt := by
  intro s x1 x2 f h
  unfold State.fmCommand
  refine State.simple_vlt _ _ _ _ _ (fun a => ?_)
  split
  · rfl
  · exact h a

@[simp] theorem State.fmCommand_net : ∀ s x1 x2 f, (∀ a, (f a).1.net = a.net) → (State.fmCommand s x1 x2 f).net = s.net := by
  intro s x1 x2 f h
  unfold State.fmCommand
  refine State.simple_net _ _ _ _ _ (fun a => ?_)
  split
  · rfl
  · exact h a

@[simp] theorem State.fmCommand_cxl : ∀ s x1 x2 f, (∀ a, (f a).1.cxl = a.cxl) → (State.fmCommand s x1 x2 f).cxl = s.cxl := by
  intro s x1 x2 f h
  unfold State.fmCommand
  refine State.simple_cxl _ _ _ _ _ (fun a => ?_)
  split
  · rfl
  · exact h a

@[simp] theorem State.fmCommand_flt : ∀ s x1 x2 f, (∀ a, (f a).1.flt = a.flt) → (State.fmCommand s x1 x2 f).flt = s.flt := by
  intro s x1 x2 f h
  unfold State.fmCommand
  refine State.simple_flt _ _ _ _ _ (fun a => ?_)
  split
  · rfl
  · exact h a

@[simp] theorem State.fmCommand_fls : ∀ s x1 x2 f, (∀ a, (f a).1.fls = a.fls) → (State.fmCommand s x1 x2 f).fls = s.fls := by
  intro s x1 x2 f h
  unfold State.fmCommand
  refine State.simple_fls _ _ _ _ _ (fun a => ?_)
  split
  · rfl
  · exact h a

@[simp] theorem State.pCommand_quietP : ∀ s x1 x2 x3 x4 x5 f, (∀ t0 t1 a, (f t0 t1 a).1.quietP = a.quietP) → (State.pCommand s x1 x2 x3 x4 x5 f).quietP = s.quietP := by
  intro s x1 x2 x3 x4 x5 f h
  unfold State.pCommand
  refine State.command_quietP _ _ _ _ _ _ (fun tg a => ?_)
  dsimp only
  split
  · simp
  · exact State.replRun_quietP _ _ _ _ _ _ _ (fun t b => h _ t b)

@[simp] theorem State.pCommand_storeP : ∀ s x1 x2 x3 x4 x5 f, (∀ t0 t1 a, (f t0 t1 a).1.storeP = a.storeP) → (State.pCommand s x1 x2 x3 x4 x5 f).storeP = s.storeP := by
  intro s x1 x2 x3 x4 x5 f h
  unfold State.pCommand
  refine State.command_storeP _ _ _ _ _ _ (fun tg a => ?_)
  dsimp only
  split
  · simp
  · exact State.replRun_storeP _ _ _ _ _ _ _ (fun t b => h _ t b)

@[simp] theorem State.pCommand_pending : ∀ s x1 x2 x3 x4 x5 f, (∀ t0 t1 a, (f t0 t1 a).1.pending = a.pending) → (State.pCommand s x1 x2 x3 x4 x5 f).pending = s.pending := by
  intro s x1 x2 x3 x4 x5 f h
  unfold State.pCommand
  refine State.command_pending _ _ _ _ _ _ (fun tg a => ?_)
  dsimp only
  split
  · simp
  · exact State.replRun_pending _ _ _ _ _ _ _ (fun t b => h _ t b)

@[simp] theorem State.pCommand_fresh : ∀ s x1 x2 x3 x4 x5 f, (∀ t0 t1 a, (f t0 t1 a).1.fresh = a.fresh) → (State.pCommand s x1 x2 x3 x4 x5 f).fresh = s.fresh := by
  intro s x1 x2 x3 x4 x5 f h
  unfold State.pCommand
  refine State.command_fresh _ _ _ _ _ _ (fun tg a => ?_)
  dsimp only
  split
  · simp
  · exact State.replRun_fresh _ _ _ _ _ _ _ (fun t b => h _ t b)

@[simp] theorem State.pCommand_rsc : ∀ s x1 x2 x3 x4 x5 f, (∀ t0 t1 a, (f t0 t1 a).1.rsc = a.rsc) → (State.pCommand s x1 x2 x3 x4 x5 f).rsc = s.rsc := by
  intro s x1 x2 x3 x4 x5 f h
  unfold State.pCommand
  refine State.command_rsc _ _ _ _ _ _ (fun tg a => ?_)
  dsimp only
  split
  · simp
  · exact State.replRun_rsc _ _ _ _ _ _ _ (fun t b => h _ t b)

@[simp] theorem State.pCommand_copies : ∀ s x1 x2 x3 x4 x5 f, (∀ t0 t1 a, (f t0 t1 a).1.copies = a.copies) → (State.pCommand s x1 x2 x3 x4 x5 f).copies = s.copies := by
  intro s x1 x2 x3 x4 x5 f h
  unfold State.pCommand
  refine State.command_copies _ _ _ _ _ _ (fun tg a => ?_)
  dsimp only
  split
  · simp
  · exact State.replRun_copies _ _ _ _ _ _ _ (fun t b => h _ t b)

@[simp] theorem State.pCommand_latched : ∀ s x1 x2 x3 x4 x5 f, (∀ t0 t1 a, (f t0 t1 a).1.latched = a.latched) → (State.pCommand s x1 x2 x3 x4 x5 f).latched = s.latched := by
  intro s x1 x2 x3 x4 x5 f h
  unfold State.pCommand
  refine State.command_latched _ _ _ _ _ _ (fun tg a => ?_)
  dsimp only
  split
  · simp
  · exact State.replRun_latched _ _ _ _ _ _ _ (fun t b => h _ t b)

@[simp] theorem State.pCommand_mode : ∀ s x1 x2 x3 x4 x5 f, (∀ t0 t1 a, (f t0 t1 a).1.mode = a.mode) → (State.pCommand s x1 x2 x3 x4 x5 f).mode = s.mode := by
  intro s x1 x2 x3 x4 x5 f h
  unfold State.pCommand
  refine State.command_mode _ _ _ _ _ _ (fun tg a => ?_)
  dsimp only
  split
  · simp
  · exact State.replRun_mode _ _ _ _ _ _ _ (fun t b => h _ t b)

@[simp] theorem State.pCommand_tim : ∀ s x1 x2 x3 x4 x5 f, (∀ t0 t1 a, (f t0 t1 a).1.tim = a.tim) → (State.pCommand s x1 x2 x3 x4 x5 f).tim = s.tim := by
  intro s x1 x2 x3 x4 x5 f h
  unfold State.pCommand
  refine State.command_tim _ _ _ _ _ _ (fun tg a => ?_)
  dsimp only
  split
  · simp
  · exact State.replRun_tim _ _ _ _ _ _ _ (fun t b => h _ t b)

@[simp] theorem State.pCommand_pwr : ∀ s x1 x2 x3 x4 x5 f, (∀ t0 t1 a, (f t0 t1 a).1.pwr = a.pwr) → (State.pCommand s x1 x2 x3 x4 x5 f).pwr = s.pwr := by
  intro s x1 x2 x3 x4 x5 f h
  unfold State.pCommand
  refine State.command_pwr _ _ _ _ _ _ (fun tg a => ?_)
  dsimp only
  split
  · simp
  · exact State.replRun_pwr _ _ _ _ _ _ _ (fun t b => h _ t b)

@[simp] theorem State.pCommand_sb0 : ∀ s x1 x2 x3 x4 x5 f, (∀ t0 t1 a, (f t0 t1 a).1.sb0 = a.sb0) → (State.pCommand s x1 x2 x3 x4 x5 f).sb0 = s.sb0 := by
  intro s x1 x2 x3 x4 x5 f h
  unfold State.pCommand
  refine State.command_sb0 _ _ _ _ _ _ (fun tg a => ?_)
  dsimp only
  split
  · simp
  · exact State.replRun_sb0 _ _ _ _ _ _ _ (fun t b => h _ t b)

@[simp] theorem State.pCommand_sb1 : ∀ s x1 x2 x3 x4 x5 f, (∀ t0 t1 a, (f t0 t1 a).1.sb1 = a.sb1) → (State.pCommand s x1 x2 x3 x4 x5 f).sb1 = s.sb1 := by
  intro s x1 x2 x3 x4 x5 f h
  unfold State.pCommand
  refine State.command_sb1 _ _ _ _ _ _ (fun tg a => ?_)
  dsimp only
  split
  · simp
  · exact State.replRun_sb1 _ _ _ _ _ _ _ (fun t b => h _ t b)

@[simp] theorem State.pCommand_sb2 : ∀ s x1 x2 x3 x4 x5 f, (∀ t0 t1 a, (f t0 t1 a).1.sb2 = a.sb2) → (State.pCommand s x1 x2 x3 x4 x5 f).sb2 = s.sb2 := by
  intro s x1 x2 x3 x4 x5 f h
  unfold State.pCommand
  refine State.command_sb2 _ _ _ _ _ _ (fun tg a => ?_)
  dsimp only
  split
  · simp
  · exact State.replRun_sb2 _ _ _ _ _ _ _ (fun t b => h _ t b)

@[simp] theorem State.pCommand_sb3 : ∀ s x1 x2 x3 x4 x5 f, (∀ t0 t1 a, (f t0 t1 a).1.sb3 = a.sb3) → (State.pCommand s x1 x2 x3 x4 x5 f).sb3 = s.sb3 := by
  intro s x1 x2 x3 x4 x5 f h
  unfold State.pCommand
  refine State.command_sb3 _ _ _ _ _ _ (fun tg a => ?_)
  dsimp only
  split
  · simp
  · exact State.replRun_sb3 _ _ _ _ _ _ _ (fun t b => h _ t b)

@[simp] theorem State.pCommand_sht : ∀ s x1 x2 x3 x4 x5 f, (∀ t0 t1 a, (f t0 t1 a).1.sht = a.sht) → (State.pCommand s x1 x2 x3 x4 x5 f).sht = s.sht := by
  intro s x1 x2 x3 x4 x5 f h
  unfold State.pCommand
  refine State.command_sht _ _ _ _ _ _ (fun tg a => ?_)
  dsimp only
  split
  · simp
  · exact State.replRun_sht _ _ _ _ _ _ _ (fun t b => h _ t b)

@[simp] theorem State.pCommand_unlocks : ∀ s x1 x2 x3 x4 x5 f, (∀ t0 t1 a, (f t0 t1 a).1.unlocks = a.unlocks) → (State.pCommand s x1 x2 x3 x4 x5 f).unlocks = s.unlocks := by
  intro s x1 x2 x3 x4 x5 f h
  unfold State.pCommand
  refine State.command_unlocks _ _ _ _ _ _ (fun tg a => ?_)
  dsimp only
  split
  · simp
  · exact State.replRun_unlocks _ _ _ _ _ _ _ (fun t b => h _ t b)

@[simp] theorem State.pCommand_mem : ∀ s x1 x2 x3 x4 x5 f, (∀ t0 t1 a, (f t0 t1 a).1.mem = a.mem) → (State.pCommand s x1 x2 x3 x4 x5 f).mem = s.mem := by
  intro s x1 x2 x3 x4 x5 f h
  unfold State.pCommand
  refine State.command_mem _ _ _ _ _ _ (fun tg a => ?_)
  dsimp only
  split
  · simp
  · exact State.replRun_mem _ _ _ _ _ _ _ (fun t b => h _ t b)

@[simp] theorem State.pCommand_flt : ∀ s x1 x2 x3 x4 x5 f, (∀ t0 t1 a, (f t0 t1 a).1.flt = a.flt) → (State.pCommand s x1 x2 x3 x4 x5 f).flt = s.flt := by
  intro s x1 x2 x3 x4 x5 f h
  unfold State.pCommand
  refine State.command_flt _ _ _ _ _ _ (fun tg a => ?_)
  dsimp only
  split
  · simp
  · exact State.replRun_flt _ _ _ _ _ _ _ (fun t b => h _ t b)

@[simp] theorem State.pCommand_fls : ∀ s x1 x2 x3 x4 x5 f, (∀ t0 t1 a, (f t0 t1 a).1.fls = a.fls) → (State.pCommand s x1 x2 x3 x4 x5 f).fls = s.fls := by
  intro s x1 x2 x3 x4 x5 f h
  unfold State.pCommand
  refine State.command_fls _ _ _ _ _ _ (fun tg a => ?_)
  dsimp only
  split
  · simp
  · exact State.replRun_fls _ _ _ _ _ _ _ (fun t b => h _ t b)

@[simp] theorem State.flsCmd_storeP : ∀ s x1 x2 f, (∀ a, (f a).storeP = a.storeP) → (State.flsCmd s x1 x2 f).storeP = s.storeP := by
  intro s x1 x2 f h
  unfold State.flsCmd
  repeat' split
  all_goals try (rename_i hh; have hh' := congrArg Prod.snd hh; dsimp only at hh'; subst hh')
  all_goals simp [h]

@[simp] theorem State.flsCmd_ctlP : ∀ s x1 x2 f, (∀ a, (f a).ctlP = a.ctlP) → (State.flsCmd s x1 x2 f).ctlP = s.ctlP := by
  intro s x1 x2 f h
  unfold State.flsCmd
  repeat' split
  all_goals try (rename_i hh; have hh' := congrArg Prod.snd hh; dsimp only at hh'; subst hh')
  all_goals simp [h]

@[simp] theorem State.flsCmd_pathP : ∀ s x1 x2 f, (∀ a, (f a).pathP = a.pathP) → (State.flsCmd s x1 x2 f).pathP = s.pathP := by
  intro s x1 x2 f h
  unfold State.flsCmd
  repeat' split
  all_goals try (rename_i hh; have hh' := congrArg Prod.snd hh; dsimp only at hh'; subst hh')
  all_goals simp [h]

@[simp] theorem State.flsCmd_linksP : ∀ s x1 x2 f, (∀ a, (f a).linksP = a.linksP) → (State.flsCmd s x1 x2 f).linksP = s.linksP := by
  intro s x1 x2 f h
  unfold State.flsCmd
  repeat' split
  all_goals try (rename_i hh; have hh' := congrArg Prod.snd hh; dsimp only at hh'; subst hh')
  all_goals simp [h]

@[simp] theorem State.flsCmd_pending : ∀ s x1 x2 f, (∀ a, (f a).pending = a.pending) → (State.flsCmd s x1 x2 f).pending = s.pending := by
  intro s x1 x2 f h
  unfold State.flsCmd
  repeat' split
  all_goals try (rename_i hh; have hh' := congrArg Prod.snd hh; dsimp only at hh'; subst hh')
  all_goals simp [h]

@[simp] theorem State.flsCmd_out : ∀ s x1 x2 f, (∀ a, (f a).out = a.out) → (State.flsCmd s x1 x2 f).out = s.out := by
  intro s x1 x2 f h
  unfold State.flsCmd
  repeat' split
  all_goals try (rename_i hh; have hh' := congrArg Prod.snd hh; dsimp only at hh'; subst hh')
  all_goals simp [h]

@[simp] theorem State.flsCmd_fresh : ∀ s x1 x2 f, (∀ a, (f a).fresh = a.fresh) → (State.flsCmd s x1 x2 f).fresh = s.fresh := by
  intro s x1 x2 f h
  unfold State.flsCmd
  repeat' split
  all_goals try (rename_i hh; have hh' := congrArg Prod.snd hh; dsimp only at hh'; subst hh')
  all_goals simp [h]

@[simp] theorem State.flsCmd_rsc : ∀ s x1 x2 f, (∀ a, (f a).rsc = a.rsc) → (State.flsCmd s x1 x2 f).rsc = s.rsc := by
  intro s x1 x2 f h
  unfold State.flsCmd
  repeat' split
  all_goals try (rename_i hh; have hh' := congrArg Prod.snd hh; dsimp only at hh'; subst hh')
  all_goals simp [h]

@[simp] theorem State.flsCmd_copies : ∀ s x1 x2 f, (∀ a, (f a).copies = a.copies) → (State.flsCmd s x1 x2 f).copies = s.copies := by
  intro s x1 x2 f h
  unfold State.flsCmd
  repeat' split
  all_goals try (rename_i hh; have hh' := congrArg Prod.snd hh; dsimp only at hh'; subst hh')
  all_goals simp [h]

@[simp] theorem State.flsCmd_latched : ∀ s x1 x2 f, (∀ a, (f a).latched = a.latched) → (State.flsCmd s x1 x2 f).latched = s.latched := by
  intro s x1 x2 f h
  unfold State.flsCmd
  repeat' split
  all_goals try (rename_i hh; have hh' := congrArg Prod.snd hh; dsimp only at hh'; subst hh')
  all_goals simp [h]

@[simp] theorem State.flsCmd_mode : ∀ s x1 x2 f, (∀ a, (f a).mode = a.mode) → (State.flsCmd s x1 x2 f).mode = s.mode := by
  intro s x1 x2 f h
  unfold State.flsCmd
  repeat' split
  all_goals try (rename_i hh; have hh' := congrArg Prod.snd hh; dsimp only at hh'; subst hh')
  all_goals simp [h]

@[simp] theorem State.flsCmd_tim : ∀ s x1 x2 f, (∀ a, (f a).tim = a.tim) → (State.flsCmd s x1 x2 f).tim = s.tim := by
  intro s x1 x2 f h
  unfold State.flsCmd
  repeat' split
  all_goals try (rename_i hh; have hh' := congrArg Prod.snd hh; dsimp only at hh'; subst hh')
  all_goals simp [h]

@[simp] theorem State.flsCmd_pwr : ∀ s x1 x2 f, (∀ a, (f a).pwr = a.pwr) → (State.flsCmd s x1 x2 f).pwr = s.pwr := by
  intro s x1 x2 f h
  unfold State.flsCmd
  repeat' split
  all_goals try (rename_i hh; have hh' := congrArg Prod.snd hh; dsimp only at hh'; subst hh')
  all_goals simp [h]

@[simp] theorem State.flsCmd_sb0 : ∀ s x1 x2 f, (∀ a, (f a).sb0 = a.sb0) → (State.flsCmd s x1 x2 f).sb0 = s.sb0 := by
  intro s x1 x2 f h
  unfold State.flsCmd
  repeat' split
  all_goals try (rename_i hh; have hh' := congrArg Prod.snd hh; dsimp only at hh'; subst hh')
  all_goals simp [h]

@[simp] theorem State.flsCmd_sb1 : ∀ s x1 x2 f, (∀ a, (f a).sb1 = a.sb1) → (State.flsCmd s x1 x2 f).sb1 = s.sb1 := by
  intro s x1 x2 f h
  unfold State.flsCmd
  repeat' split
  all_goals try (rename_i hh; have hh' := congrArg Prod.snd hh; dsimp only at hh'; subst hh')
  all_goals simp [h]

@[simp] theorem State.flsCmd_sb2 : ∀ s x1 x2 f, (∀ a, (f a).sb2 = a.sb2) → (State.flsCmd s x1 x2 f).sb2 = s.sb2 := by
  intro s x1 x2 f h
  unfold State.flsCmd
  repeat' split
  all_goals try (rename_i hh; have hh' := congrArg Prod.snd hh; dsimp only at hh'; subst hh')
  all_goals simp [h]

@[simp] theorem State.flsCmd_sb3 : ∀ s x1 x2 f, (∀ a, (f a).sb3 = a.sb3) → (State.flsCmd s x1 x2 f).sb3 = s.sb3 := by
  intro s x1 x2 f h
  unfold State.flsCmd
  repeat' split
  all_goals try (rename_i hh; have hh' := congrArg Prod.snd hh; dsimp only at hh'; subst hh')
  all_goals simp [h]

@[simp] theorem State.flsCmd_log : ∀ s x1 x2 f, (∀ a, (f a).log = a.log) → (State.flsCmd s x1 x2 f).log = s.log := by
  intro s x1 x2 f h
  unfold State.flsCmd
  repeat' split
  all_goals try (rename_i hh; have hh' := congrArg Prod.snd hh; dsimp only at hh'; subst hh')
  all_goals simp [h]

@[simp] theorem State.flsCmd_sht : ∀ s x1 x2 f, (∀ a, (f a).sht = a.sht) → (State.flsCmd s x1 x2 f).sht = s.sht := by
  intro s x1 x2 f h
  unfold State.flsCmd
  repeat' split
  all_goals try (rename_i hh; have hh' := congrArg Prod.snd hh; dsimp only at hh'; subst hh')
  all_goals simp [h]

@[simp] theorem State.flsCmd_addr : ∀ s x1 x2 f, (∀ a, (f a).addr = a.addr) → (State.flsCmd s x1 x2 f).addr = s.addr := by
  intro s x1 x2 f h
  unfold State.flsCmd
  repeat' split
  all_goals try (rename_i hh; have hh' := congrArg Prod.snd hh; dsimp only at hh'; subst hh')
  all_goals simp [h]

@[simp] theorem State.flsCmd_trk : ∀ s x1 x2 f, (∀ a, (f a).trk = a.trk) → (State.flsCmd s x1 x2 f).trk = s.trk := by
  intro s x1 x2 f h
  unfold State.flsCmd
  repeat' split
  all_goals try (rename_i hh; have hh' := congrArg Prod.snd hh; dsimp only at hh'; subst hh')
  all_goals simp [h]

@[simp] theorem State.flsCmd_twl : ∀ s x1 x2 f, (∀ a, (f a).twl = a.twl) → (State.flsCmd s x1 x2 f).twl = s.twl := by
  intro s x1 x2 f h
  unfold State.flsCmd
  repeat' split
  all_goals try (rename_i hh; have hh' := congrArg Prod.snd hh; dsimp only at hh'; subst hh')
  all_goals simp [h]

@[simp] theorem State.flsCmd_pair : ∀ s x1 x2 f, (∀ a, (f a).pair = a.pair) → (State.flsCmd s x1 x2 f).pair = s.pair := by
  intro s x1 x2 f h
  unfold State.flsCmd
  repeat' split
  all_goals try (rename_i hh; have hh' := congrArg Prod.snd hh; dsimp only at hh'; subst hh')
  all_goals simp [h]

@[simp] theorem State.flsCmd_tier : ∀ s x1 x2 f, (∀ a, (f a).tier = a.tier) → (State.flsCmd s x1 x2 f).tier = s.tier := by
  intro s x1 x2 f h
  unfold State.flsCmd
  repeat' split
  all_goals try (rename_i hh; have hh' := congrArg Prod.snd hh; dsimp only at hh'; subst hh')
  all_goals simp [h]

@[simp] theorem State.flsCmd_lc : ∀ s x1 x2 f, (∀ a, (f a).lc = a.lc) → (State.flsCmd s x1 x2 f).lc = s.lc := by
  intro s x1 x2 f h
  unfold State.flsCmd
  repeat' split
  all_goals try (rename_i hh; have hh' := congrArg Prod.snd hh; dsimp only at hh'; subst hh')
  all_goals simp [h]

@[simp] theorem State.flsCmd_ch : ∀ s x1 x2 f, (∀ a, (f a).ch = a.ch) → (State.flsCmd s x1 x2 f).ch = s.ch := by
  intro s x1 x2 f h
  unfold State.flsCmd
  repeat' split
  all_goals try (rename_i hh; have hh' := congrArg Prod.snd hh; dsimp only at hh'; subst hh')
  all_goals simp [h]

@[simp] theorem State.flsCmd_ec : ∀ s x1 x2 f, (∀ a, (f a).ec = a.ec) → (State.flsCmd s x1 x2 f).ec = s.ec := by
  intro s x1 x2 f h
  unfold State.flsCmd
  repeat' split
  all_goals try (rename_i hh; have hh' := congrArg Prod.snd hh; dsimp only at hh'; subst hh')
  all_goals simp [h]

@[simp] theorem State.flsCmd_mem : ∀ s x1 x2 f, (∀ a, (f a).mem = a.mem) → (State.flsCmd s x1 x2 f).mem = s.mem := by
  intro s x1 x2 f h
  unfold State.flsCmd
  repeat' split
  all_goals try (rename_i hh; have hh' := congrArg Prod.snd hh; dsimp only at hh'; subst hh')
  all_goals simp [h]

@[simp] theorem State.flsCmd_vlt : ∀ s x1 x2 f, (∀ a, (f a).vlt = a.vlt) → (State.flsCmd s x1 x2 f).vlt = s.vlt := by
  intro s x1 x2 f h
  unfold State.flsCmd
  repeat' split
  all_goals try (rename_i hh; have hh' := congrArg Prod.snd hh; dsimp only at hh'; subst hh')
  all_goals simp [h]

@[simp] theorem State.flsCmd_net : ∀ s x1 x2 f, (∀ a, (f a).net = a.net) → (State.flsCmd s x1 x2 f).net = s.net := by
  intro s x1 x2 f h
  unfold State.flsCmd
  repeat' split
  all_goals try (rename_i hh; have hh' := congrArg Prod.snd hh; dsimp only at hh'; subst hh')
  all_goals simp [h]

@[simp] theorem State.flsCmd_cxl : ∀ s x1 x2 f, (∀ a, (f a).cxl = a.cxl) → (State.flsCmd s x1 x2 f).cxl = s.cxl := by
  intro s x1 x2 f h
  unfold State.flsCmd
  repeat' split
  all_goals try (rename_i hh; have hh' := congrArg Prod.snd hh; dsimp only at hh'; subst hh')
  all_goals simp [h]

@[simp] theorem State.flsCmd_flt : ∀ s x1 x2 f, (∀ a, (f a).flt = a.flt) → (State.flsCmd s x1 x2 f).flt = s.flt := by
  intro s x1 x2 f h
  unfold State.flsCmd
  repeat' split
  all_goals try (rename_i hh; have hh' := congrArg Prod.snd hh; dsimp only at hh'; subst hh')
  all_goals simp [h]

@[simp] theorem State.flsCmd_cmd : ∀ s x1 x2 f, (∀ a, (f a).cmd = a.cmd) → (State.flsCmd s x1 x2 f).cmd = s.cmd := by
  intro s x1 x2 f h
  unfold State.flsCmd
  repeat' split
  all_goals try (rename_i hh; have hh' := congrArg Prod.snd hh; dsimp only at hh'; subst hh')
  all_goals simp [h]

@[simp] theorem State.flsCmd_fls : ∀ s x1 x2 f, (∀ a, (f a).fls = a.fls) → (State.flsCmd s x1 x2 f).fls = s.fls := by
  intro s x1 x2 f h
  unfold State.flsCmd
  repeat' split
  all_goals try (rename_i hh; have hh' := congrArg Prod.snd hh; dsimp only at hh'; subst hh')
  all_goals simp [h]

@[simp] theorem State.testOp_storeP : ∀ s x1 x2 x3 f, (∀ a t1, (f a t1).storeP = a.storeP) → (State.testOp s x1 x2 x3 f).storeP = s.storeP := by
  intro s x1 x2 x3 f h
  unfold State.testOp
  repeat' split
  all_goals try (rename_i hh; have hh' := congrArg Prod.snd hh; dsimp only at hh'; subst hh')
  all_goals (try dsimp only)
  all_goals (repeat' split)
  all_goals simp [h]

@[simp] theorem State.testOp_ctlP : ∀ s x1 x2 x3 f, (∀ a t1, (f a t1).ctlP = a.ctlP) → (State.testOp s x1 x2 x3 f).ctlP = s.ctlP := by
  intro s x1 x2 x3 f h
  unfold State.testOp
  repeat' split
  all_goals try (rename_i hh; have hh' := congrArg Prod.snd hh; dsimp only at hh'; subst hh')
  all_goals (try dsimp only)
  all_goals (repeat' split)
  all_goals simp [h]

@[simp] theorem State.testOp_linksP : ∀ s x1 x2 x3 f, (∀ a t1, (f a t1).linksP = a.linksP) → (State.testOp s x1 x2 x3 f).linksP = s.linksP := by
  intro s x1 x2 x3 f h
  unfold State.testOp
  repeat' split
  all_goals try (rename_i hh; have hh' := congrArg Prod.snd hh; dsimp only at hh'; subst hh')
  all_goals (try dsimp only)
  all_goals (repeat' split)
  all_goals simp [h]

@[simp] theorem State.testOp_pending : ∀ s x1 x2 x3 f, (∀ a t1, (f a t1).pending = a.pending) → (State.testOp s x1 x2 x3 f).pending = s.pending := by
  intro s x1 x2 x3 f h
  unfold State.testOp
  repeat' split
  all_goals try (rename_i hh; have hh' := congrArg Prod.snd hh; dsimp only at hh'; subst hh')
  all_goals (try dsimp only)
  all_goals (repeat' split)
  all_goals simp [h]

@[simp] theorem State.testOp_out : ∀ s x1 x2 x3 f, (∀ a t1, (f a t1).out = a.out) → (State.testOp s x1 x2 x3 f).out = s.out := by
  intro s x1 x2 x3 f h
  unfold State.testOp
  repeat' split
  all_goals try (rename_i hh; have hh' := congrArg Prod.snd hh; dsimp only at hh'; subst hh')
  all_goals (try dsimp only)
  all_goals (repeat' split)
  all_goals simp [h]

@[simp] theorem State.testOp_fresh : ∀ s x1 x2 x3 f, (∀ a t1, (f a t1).fresh = a.fresh) → (State.testOp s x1 x2 x3 f).fresh = s.fresh := by
  intro s x1 x2 x3 f h
  unfold State.testOp
  repeat' split
  all_goals try (rename_i hh; have hh' := congrArg Prod.snd hh; dsimp only at hh'; subst hh')
  all_goals (try dsimp only)
  all_goals (repeat' split)
  all_goals simp [h]

@[simp] theorem State.testOp_rsc : ∀ s x1 x2 x3 f, (∀ a t1, (f a t1).rsc = a.rsc) → (State.testOp s x1 x2 x3 f).rsc = s.rsc := by
  intro s x1 x2 x3 f h
  unfold State.testOp
  repeat' split
  all_goals try (rename_i hh; have hh' := congrArg Prod.snd hh; dsimp only at hh'; subst hh')
  all_goals (try dsimp only)
  all_goals (repeat' split)
  all_goals simp [h]

@[simp] theorem State.testOp_copies : ∀ s x1 x2 x3 f, (∀ a t1, (f a t1).copies = a.copies) → (State.testOp s x1 x2 x3 f).copies = s.copies := by
  intro s x1 x2 x3 f h
  unfold State.testOp
  repeat' split
  all_goals try (rename_i hh; have hh' := congrArg Prod.snd hh; dsimp only at hh'; subst hh')
  all_goals (try dsimp only)
  all_goals (repeat' split)
  all_goals simp [h]

@[simp] theorem State.testOp_latched : ∀ s x1 x2 x3 f, (∀ a t1, (f a t1).latched = a.latched) → (State.testOp s x1 x2 x3 f).latched = s.latched := by
  intro s x1 x2 x3 f h
  unfold State.testOp
  repeat' split
  all_goals try (rename_i hh; have hh' := congrArg Prod.snd hh; dsimp only at hh'; subst hh')
  all_goals (try dsimp only)
  all_goals (repeat' split)
  all_goals simp [h]

@[simp] theorem State.testOp_mode : ∀ s x1 x2 x3 f, (∀ a t1, (f a t1).mode = a.mode) → (State.testOp s x1 x2 x3 f).mode = s.mode := by
  intro s x1 x2 x3 f h
  unfold State.testOp
  repeat' split
  all_goals try (rename_i hh; have hh' := congrArg Prod.snd hh; dsimp only at hh'; subst hh')
  all_goals (try dsimp only)
  all_goals (repeat' split)
  all_goals simp [h]

@[simp] theorem State.testOp_tim : ∀ s x1 x2 x3 f, (∀ a t1, (f a t1).tim = a.tim) → (State.testOp s x1 x2 x3 f).tim = s.tim := by
  intro s x1 x2 x3 f h
  unfold State.testOp
  repeat' split
  all_goals try (rename_i hh; have hh' := congrArg Prod.snd hh; dsimp only at hh'; subst hh')
  all_goals (try dsimp only)
  all_goals (repeat' split)
  all_goals simp [h]

@[simp] theorem State.testOp_pwr : ∀ s x1 x2 x3 f, (∀ a t1, (f a t1).pwr = a.pwr) → (State.testOp s x1 x2 x3 f).pwr = s.pwr := by
  intro s x1 x2 x3 f h
  unfold State.testOp
  repeat' split
  all_goals try (rename_i hh; have hh' := congrArg Prod.snd hh; dsimp only at hh'; subst hh')
  all_goals (try dsimp only)
  all_goals (repeat' split)
  all_goals simp [h]

@[simp] theorem State.testOp_sb0 : ∀ s x1 x2 x3 f, (∀ a t1, (f a t1).sb0 = a.sb0) → (State.testOp s x1 x2 x3 f).sb0 = s.sb0 := by
  intro s x1 x2 x3 f h
  unfold State.testOp
  repeat' split
  all_goals try (rename_i hh; have hh' := congrArg Prod.snd hh; dsimp only at hh'; subst hh')
  all_goals (try dsimp only)
  all_goals (repeat' split)
  all_goals simp [h]

@[simp] theorem State.testOp_sb1 : ∀ s x1 x2 x3 f, (∀ a t1, (f a t1).sb1 = a.sb1) → (State.testOp s x1 x2 x3 f).sb1 = s.sb1 := by
  intro s x1 x2 x3 f h
  unfold State.testOp
  repeat' split
  all_goals try (rename_i hh; have hh' := congrArg Prod.snd hh; dsimp only at hh'; subst hh')
  all_goals (try dsimp only)
  all_goals (repeat' split)
  all_goals simp [h]

@[simp] theorem State.testOp_sb2 : ∀ s x1 x2 x3 f, (∀ a t1, (f a t1).sb2 = a.sb2) → (State.testOp s x1 x2 x3 f).sb2 = s.sb2 := by
  intro s x1 x2 x3 f h
  unfold State.testOp
  repeat' split
  all_goals try (rename_i hh; have hh' := congrArg Prod.snd hh; dsimp only at hh'; subst hh')
  all_goals (try dsimp only)
  all_goals (repeat' split)
  all_goals simp [h]

@[simp] theorem State.testOp_sb3 : ∀ s x1 x2 x3 f, (∀ a t1, (f a t1).sb3 = a.sb3) → (State.testOp s x1 x2 x3 f).sb3 = s.sb3 := by
  intro s x1 x2 x3 f h
  unfold State.testOp
  repeat' split
  all_goals try (rename_i hh; have hh' := congrArg Prod.snd hh; dsimp only at hh'; subst hh')
  all_goals (try dsimp only)
  all_goals (repeat' split)
  all_goals simp [h]

@[simp] theorem State.testOp_log : ∀ s x1 x2 x3 f, (∀ a t1, (f a t1).log = a.log) → (State.testOp s x1 x2 x3 f).log = s.log := by
  intro s x1 x2 x3 f h
  unfold State.testOp
  repeat' split
  all_goals try (rename_i hh; have hh' := congrArg Prod.snd hh; dsimp only at hh'; subst hh')
  all_goals (try dsimp only)
  all_goals (repeat' split)
  all_goals simp [h]

@[simp] theorem State.testOp_sht : ∀ s x1 x2 x3 f, (∀ a t1, (f a t1).sht = a.sht) → (State.testOp s x1 x2 x3 f).sht = s.sht := by
  intro s x1 x2 x3 f h
  unfold State.testOp
  repeat' split
  all_goals try (rename_i hh; have hh' := congrArg Prod.snd hh; dsimp only at hh'; subst hh')
  all_goals (try dsimp only)
  all_goals (repeat' split)
  all_goals simp [h]

@[simp] theorem State.testOp_addr : ∀ s x1 x2 x3 f, (∀ a t1, (f a t1).addr = a.addr) → (State.testOp s x1 x2 x3 f).addr = s.addr := by
  intro s x1 x2 x3 f h
  unfold State.testOp
  repeat' split
  all_goals try (rename_i hh; have hh' := congrArg Prod.snd hh; dsimp only at hh'; subst hh')
  all_goals (try dsimp only)
  all_goals (repeat' split)
  all_goals simp [h]

@[simp] theorem State.testOp_trk : ∀ s x1 x2 x3 f, (∀ a t1, (f a t1).trk = a.trk) → (State.testOp s x1 x2 x3 f).trk = s.trk := by
  intro s x1 x2 x3 f h
  unfold State.testOp
  repeat' split
  all_goals try (rename_i hh; have hh' := congrArg Prod.snd hh; dsimp only at hh'; subst hh')
  all_goals (try dsimp only)
  all_goals (repeat' split)
  all_goals simp [h]

@[simp] theorem State.testOp_twl : ∀ s x1 x2 x3 f, (∀ a t1, (f a t1).twl = a.twl) → (State.testOp s x1 x2 x3 f).twl = s.twl := by
  intro s x1 x2 x3 f h
  unfold State.testOp
  repeat' split
  all_goals try (rename_i hh; have hh' := congrArg Prod.snd hh; dsimp only at hh'; subst hh')
  all_goals (try dsimp only)
  all_goals (repeat' split)
  all_goals simp [h]

@[simp] theorem State.testOp_pair : ∀ s x1 x2 x3 f, (∀ a t1, (f a t1).pair = a.pair) → (State.testOp s x1 x2 x3 f).pair = s.pair := by
  intro s x1 x2 x3 f h
  unfold State.testOp
  repeat' split
  all_goals try (rename_i hh; have hh' := congrArg Prod.snd hh; dsimp only at hh'; subst hh')
  all_goals (try dsimp only)
  all_goals (repeat' split)
  all_goals simp [h]

@[simp] theorem State.testOp_tier : ∀ s x1 x2 x3 f, (∀ a t1, (f a t1).tier = a.tier) → (State.testOp s x1 x2 x3 f).tier = s.tier := by
  intro s x1 x2 x3 f h
  unfold State.testOp
  repeat' split
  all_goals try (rename_i hh; have hh' := congrArg Prod.snd hh; dsimp only at hh'; subst hh')
  all_goals (try dsimp only)
  all_goals (repeat' split)
  all_goals simp [h]

@[simp] theorem State.testOp_lc : ∀ s x1 x2 x3 f, (∀ a t1, (f a t1).lc = a.lc) → (State.testOp s x1 x2 x3 f).lc = s.lc := by
  intro s x1 x2 x3 f h
  unfold State.testOp
  repeat' split
  all_goals try (rename_i hh; have hh' := congrArg Prod.snd hh; dsimp only at hh'; subst hh')
  all_goals (try dsimp only)
  all_goals (repeat' split)
  all_goals simp [h]

@[simp] theorem State.testOp_ch : ∀ s x1 x2 x3 f, (∀ a t1, (f a t1).ch = a.ch) → (State.testOp s x1 x2 x3 f).ch = s.ch := by
  intro s x1 x2 x3 f h
  unfold State.testOp
  repeat' split
  all_goals try (rename_i hh; have hh' := congrArg Prod.snd hh; dsimp only at hh'; subst hh')
  all_goals (try dsimp only)
  all_goals (repeat' split)
  all_goals simp [h]

@[simp] theorem State.testOp_mem : ∀ s x1 x2 x3 f, (∀ a t1, (f a t1).mem = a.mem) → (State.testOp s x1 x2 x3 f).mem = s.mem := by
  intro s x1 x2 x3 f h
  unfold State.testOp
  repeat' split
  all_goals try (rename_i hh; have hh' := congrArg Prod.snd hh; dsimp only at hh'; subst hh')
  all_goals (try dsimp only)
  all_goals (repeat' split)
  all_goals simp [h]

@[simp] theorem State.testOp_vlt : ∀ s x1 x2 x3 f, (∀ a t1, (f a t1).vlt = a.vlt) → (State.testOp s x1 x2 x3 f).vlt = s.vlt := by
  intro s x1 x2 x3 f h
  unfold State.testOp
  repeat' split
  all_goals try (rename_i hh; have hh' := congrArg Prod.snd hh; dsimp only at hh'; subst hh')
  all_goals (try dsimp only)
  all_goals (repeat' split)
  all_goals simp [h]

@[simp] theorem State.testOp_net : ∀ s x1 x2 x3 f, (∀ a t1, (f a t1).net = a.net) → (State.testOp s x1 x2 x3 f).net = s.net := by
  intro s x1 x2 x3 f h
  unfold State.testOp
  repeat' split
  all_goals try (rename_i hh; have hh' := congrArg Prod.snd hh; dsimp only at hh'; subst hh')
  all_goals (try dsimp only)
  all_goals (repeat' split)
  all_goals simp [h]

@[simp] theorem State.testOp_cxl : ∀ s x1 x2 x3 f, (∀ a t1, (f a t1).cxl = a.cxl) → (State.testOp s x1 x2 x3 f).cxl = s.cxl := by
  intro s x1 x2 x3 f h
  unfold State.testOp
  repeat' split
  all_goals try (rename_i hh; have hh' := congrArg Prod.snd hh; dsimp only at hh'; subst hh')
  all_goals (try dsimp only)
  all_goals (repeat' split)
  all_goals simp [h]

@[simp] theorem State.testOp_flt : ∀ s x1 x2 x3 f, (∀ a t1, (f a t1).flt = a.flt) → (State.testOp s x1 x2 x3 f).flt = s.flt := by
  intro s x1 x2 x3 f h
  unfold State.testOp
  repeat' split
  all_goals try (rename_i hh; have hh' := congrArg Prod.snd hh; dsimp only at hh'; subst hh')
  all_goals (try dsimp only)
  all_goals (repeat' split)
  all_goals simp [h]

@[simp] theorem State.testOp_cmd : ∀ s x1 x2 x3 f, (∀ a t1, (f a t1).cmd = a.cmd) → (State.testOp s x1 x2 x3 f).cmd = s.cmd := by
  intro s x1 x2 x3 f h
  unfold State.testOp
  repeat' split
  all_goals try (rename_i hh; have hh' := congrArg Prod.snd hh; dsimp only at hh'; subst hh')
  all_goals (try dsimp only)
  all_goals (repeat' split)
  all_goals simp [h]

@[simp] theorem State.testOp_fls : ∀ s x1 x2 x3 f, (∀ a t1, (f a t1).fls = a.fls) → (State.testOp s x1 x2 x3 f).fls = s.fls := by
  intro s x1 x2 x3 f h
  unfold State.testOp
  repeat' split
  all_goals try (rename_i hh; have hh' := congrArg Prod.snd hh; dsimp only at hh'; subst hh')
  all_goals (try dsimp only)
  all_goals (repeat' split)
  all_goals simp [h]

@[simp] theorem State.cmIn_quietP : ∀ s x1 f, (∀ a, (f a).quietP = a.quietP) → (State.cmIn s x1 f).quietP = s.quietP := by
  intro s x1 f h
  unfold State.cmIn
  (repeat' split) <;> simp [h]

@[simp] theorem State.cmIn_storeP : ∀ s x1 f, (∀ a, (f a).storeP = a.storeP) → (State.cmIn s x1 f).storeP = s.storeP := by
  intro s x1 f h
  unfold State.cmIn
  (repeat' split) <;> simp [h]

@[simp] theorem State.cmIn_ctlP : ∀ s x1 f, (∀ a, (f a).ctlP = a.ctlP) → (State.cmIn s x1 f).ctlP = s.ctlP := by
  intro s x1 f h
  unfold State.cmIn
  (repeat' split) <;> simp [h]

@[simp] theorem State.cmIn_pathP : ∀ s x1 f, (∀ a, (f a).pathP = a.pathP) → (State.cmIn s x1 f).pathP = s.pathP := by
  intro s x1 f h
  unfold State.cmIn
  (repeat' split) <;> simp [h]

@[simp] theorem State.cmIn_linksP : ∀ s x1 f, (∀ a, (f a).linksP = a.linksP) → (State.cmIn s x1 f).linksP = s.linksP := by
  intro s x1 f h
  unfold State.cmIn
  (repeat' split) <;> simp [h]

@[simp] theorem State.cmIn_pending : ∀ s x1 f, (∀ a, (f a).pending = a.pending) → (State.cmIn s x1 f).pending = s.pending := by
  intro s x1 f h
  unfold State.cmIn
  (repeat' split) <;> simp [h]

@[simp] theorem State.cmIn_fresh : ∀ s x1 f, (∀ a, (f a).fresh = a.fresh) → (State.cmIn s x1 f).fresh = s.fresh := by
  intro s x1 f h
  unfold State.cmIn
  (repeat' split) <;> simp [h]

@[simp] theorem State.cmIn_regs : ∀ s x1 f, (∀ a, (f a).regs = a.regs) → (State.cmIn s x1 f).regs = s.regs := by
  intro s x1 f h
  unfold State.cmIn
  (repeat' split) <;> simp [h]

@[simp] theorem State.cmIn_rsc : ∀ s x1 f, (∀ a, (f a).rsc = a.rsc) → (State.cmIn s x1 f).rsc = s.rsc := by
  intro s x1 f h
  unfold State.cmIn
  (repeat' split) <;> simp [h]

@[simp] theorem State.cmIn_copies : ∀ s x1 f, (∀ a, (f a).copies = a.copies) → (State.cmIn s x1 f).copies = s.copies := by
  intro s x1 f h
  unfold State.cmIn
  (repeat' split) <;> simp [h]

@[simp] theorem State.cmIn_latched : ∀ s x1 f, (∀ a, (f a).latched = a.latched) → (State.cmIn s x1 f).latched = s.latched := by
  intro s x1 f h
  unfold State.cmIn
  (repeat' split) <;> simp [h]

@[simp] theorem State.cmIn_mode : ∀ s x1 f, (∀ a, (f a).mode = a.mode) → (State.cmIn s x1 f).mode = s.mode := by
  intro s x1 f h
  unfold State.cmIn
  (repeat' split) <;> simp [h]

@[simp] theorem State.cmIn_tim : ∀ s x1 f, (∀ a, (f a).tim = a.tim) → (State.cmIn s x1 f).tim = s.tim := by
  intro s x1 f h
  unfold State.cmIn
  (repeat' split) <;> simp [h]

@[simp] theorem State.cmIn_pwr : ∀ s x1 f, (∀ a, (f a).pwr = a.pwr) → (State.cmIn s x1 f).pwr = s.pwr := by
  intro s x1 f h
  unfold State.cmIn
  (repeat' split) <;> simp [h]

@[simp] theorem State.cmIn_sb0 : ∀ s x1 f, (∀ a, (f a).sb0 = a.sb0) → (State.cmIn s x1 f).sb0 = s.sb0 := by
  intro s x1 f h
  unfold State.cmIn
  (repeat' split) <;> simp [h]

@[simp] theorem State.cmIn_sb1 : ∀ s x1 f, (∀ a, (f a).sb1 = a.sb1) → (State.cmIn s x1 f).sb1 = s.sb1 := by
  intro s x1 f h
  unfold State.cmIn
  (repeat' split) <;> simp [h]

@[simp] theorem State.cmIn_sb2 : ∀ s x1 f, (∀ a, (f a).sb2 = a.sb2) → (State.cmIn s x1 f).sb2 = s.sb2 := by
  intro s x1 f h
  unfold State.cmIn
  (repeat' split) <;> simp [h]

@[simp] theorem State.cmIn_sb3 : ∀ s x1 f, (∀ a, (f a).sb3 = a.sb3) → (State.cmIn s x1 f).sb3 = s.sb3 := by
  intro s x1 f h
  unfold State.cmIn
  (repeat' split) <;> simp [h]

@[simp] theorem State.cmIn_log : ∀ s x1 f, (∀ a, (f a).log = a.log) → (State.cmIn s x1 f).log = s.log := by
  intro s x1 f h
  unfold State.cmIn
  (repeat' split) <;> simp [h]

@[simp] theorem State.cmIn_sht : ∀ s x1 f, (∀ a, (f a).sht = a.sht) → (State.cmIn s x1 f).sht = s.sht := by
  intro s x1 f h
  unfold State.cmIn
  (repeat' split) <;> simp [h]

@[simp] theorem State.cmIn_unlocks : ∀ s x1 f, (∀ a, (f a).unlocks = a.unlocks) → (State.cmIn s x1 f).unlocks = s.unlocks := by
  intro s x1 f h
  unfold State.cmIn
  (repeat' split) <;> simp [h]

@[simp] theorem State.cmIn_addr : ∀ s x1 f, (∀ a, (f a).addr = a.addr) → (State.cmIn s x1 f).addr = s.addr := by
  intro s x1 f h
  unfold State.cmIn
  (repeat' split) <;> simp [h]

@[simp] theorem State.cmIn_trk : ∀ s x1 f, (∀ a, (f a).trk = a.trk) → (State.cmIn s x1 f).trk = s.trk := by
  intro s x1 f h
  unfold State.cmIn
  (repeat' split) <;> simp [h]

@[simp] theorem State.cmIn_twl : ∀ s x1 f, (∀ a, (f a).twl = a.twl) → (State.cmIn s x1 f).twl = s.twl := by
  intro s x1 f h
  unfold State.cmIn
  (repeat' split) <;> simp [h]

@[simp] theorem State.cmIn_pair : ∀ s x1 f, (∀ a, (f a).pair = a.pair) → (State.cmIn s x1 f).pair = s.pair := by
  intro s x1 f h
  unfold State.cmIn
  (repeat' split) <;> simp [h]

@[simp] theorem State.cmIn_tier : ∀ s x1 f, (∀ a, (f a).tier = a.tier) → (State.cmIn s x1 f).tier = s.tier := by
  intro s x1 f h
  unfold State.cmIn
  (repeat' split) <;> simp [h]

@[simp] theorem State.cmIn_lc : ∀ s x1 f, (∀ a, (f a).lc = a.lc) → (State.cmIn s x1 f).lc = s.lc := by
  intro s x1 f h
  unfold State.cmIn
  (repeat' split) <;> simp [h]

@[simp] theorem State.cmIn_ch : ∀ s x1 f, (∀ a, (f a).ch = a.ch) → (State.cmIn s x1 f).ch = s.ch := by
  intro s x1 f h
  unfold State.cmIn
  (repeat' split) <;> simp [h]

@[simp] theorem State.cmIn_ec : ∀ s x1 f, (∀ a, (f a).ec = a.ec) → (State.cmIn s x1 f).ec = s.ec := by
  intro s x1 f h
  unfold State.cmIn
  (repeat' split) <;> simp [h]

@[simp] theorem State.cmIn_mem : ∀ s x1 f, (∀ a, (f a).mem = a.mem) → (State.cmIn s x1 f).mem = s.mem := by
  intro s x1 f h
  unfold State.cmIn
  (repeat' split) <;> simp [h]

@[simp] theorem State.cmIn_vlt : ∀ s x1 f, (∀ a, (f a).vlt = a.vlt) → (State.cmIn s x1 f).vlt = s.vlt := by
  intro s x1 f h
  unfold State.cmIn
  (repeat' split) <;> simp [h]

@[simp] theorem State.cmIn_net : ∀ s x1 f, (∀ a, (f a).net = a.net) → (State.cmIn s x1 f).net = s.net := by
  intro s x1 f h
  unfold State.cmIn
  (repeat' split) <;> simp [h]

@[simp] theorem State.cmIn_cxl : ∀ s x1 f, (∀ a, (f a).cxl = a.cxl) → (State.cmIn s x1 f).cxl = s.cxl := by
  intro s x1 f h
  unfold State.cmIn
  (repeat' split) <;> simp [h]

@[simp] theorem State.cmIn_flt : ∀ s x1 f, (∀ a, (f a).flt = a.flt) → (State.cmIn s x1 f).flt = s.flt := by
  intro s x1 f h
  unfold State.cmIn
  (repeat' split) <;> simp [h]

@[simp] theorem State.cmIn_cmd : ∀ s x1 f, (∀ a, (f a).cmd = a.cmd) → (State.cmIn s x1 f).cmd = s.cmd := by
  intro s x1 f h
  unfold State.cmIn
  (repeat' split) <;> simp [h]

@[simp] theorem State.cmIn_fls : ∀ s x1 f, (∀ a, (f a).fls = a.fls) → (State.cmIn s x1 f).fls = s.fls := by
  intro s x1 f h
  unfold State.cmIn
  (repeat' split) <;> simp [h]

@[simp] theorem State.runIn_frame : ∀ s x1 x2 x3 x4 x5 x6, Same.quiet s (State.runIn s x1 x2 x3 x4 x5 x6) ∧ (State.runIn s x1 x2 x3 x4 x5 x6).mode = s.mode ∧ (State.runIn s x1 x2 x3 x4 x5 x6).pwr = s.pwr ∧ (State.runIn s x1 x2 x3 x4 x5 x6).sht = s.sht ∧ (State.runIn s x1 x2 x3 x4 x5 x6).mem = s.mem ∧ (State.runIn s x1 x2 x3 x4 x5 x6).flt = s.flt ∧ (State.runIn s x1 x2 x3 x4 x5 x6).fls = s.fls := by
  intro s x1 x2 x3 x4 x5 x6
  refine And.imp Same.quiet_of id ?_
  unfold State.runIn
  split <;> simp

@[simp] theorem State.carriedIn_frame : ∀ s x1 x2 x3 x4, Same.quiet s (State.carriedIn s x1 x2 x3 x4) ∧ (State.carriedIn s x1 x2 x3 x4).mode = s.mode ∧ (State.carriedIn s x1 x2 x3 x4).pwr = s.pwr ∧ (State.carriedIn s x1 x2 x3 x4).sht = s.sht ∧ (State.carriedIn s x1 x2 x3 x4).mem = s.mem ∧ (State.carriedIn s x1 x2 x3 x4).flt = s.flt ∧ (State.carriedIn s x1 x2 x3 x4).fls = s.fls := by
  intro s x1 x2 x3 x4
  refine And.imp Same.quiet_of id ?_
  unfold State.carriedIn
  split
  · simp
  · split <;> simp

end Sys2Proof.Machine
end

