-- ==== Sys2Proof/Laws/SMap.lean ====
section
/-!
SUPPORT. Laws/SMap.lean: sparse tables: a read after a write, a write leaves other keys alone, and every operation keeps the
canonical form.
-/
namespace Sys2Proof.Machine

variable {α : Type}

theorem SMap.findL_insL (l : List (Nat × α)) (k j : Nat) (v : α) :
    SMap.findL (SMap.insL l k v) j = if k = j then some v else SMap.findL l j := by
  induction l with
  | nil => simp [SMap.insL, SMap.findL]
  | cons c l ih =>
    obtain ⟨x, w⟩ := c
    simp only [SMap.insL]
    split
    · simp [SMap.findL]
    · split
      · subst_vars; simp only [SMap.findL]; split <;> simp_all
      · simp only [SMap.findL, ih]; split <;> simp_all

@[simp] theorem SMap.find?_insert_self (m : SMap α) (k : Nat) (v : α) : (m.insert k v).find? k = some v := by
  simp [SMap.find?, SMap.insert, SMap.findL_insL]

theorem SMap.find?_insert_other (m : SMap α) (k j : Nat) (v : α) (h : k ≠ j) : (m.insert k v).find? j = m.find? j := by
  simp [SMap.find?, SMap.insert, SMap.findL_insL, h]

theorem SMap.findL_delL (l : List (Nat × α)) (k j : Nat) :
    SMap.findL (SMap.delL l k) j = if k = j then none else SMap.findL l j := by
  induction l with
  | nil => simp [SMap.delL, SMap.findL]
  | cons c l ih =>
    obtain ⟨x, w⟩ := c
    simp only [SMap.delL]
    split
    · rename_i hx
      subst hx
      simp only [SMap.findL, ih]
      split <;> simp_all
    · rename_i hx
      simp only [SMap.findL, ih]
      split
      · rename_i hj
        rw [if_neg (fun e => hx (by omega))]
      · rfl

@[simp] theorem SMap.find?_erase_self (m : SMap α) (k : Nat) : (m.erase k).find? k = none := by
  simp [SMap.find?, SMap.erase, SMap.findL_delL]

theorem SMap.find?_erase_other (m : SMap α) (k j : Nat) (h : k ≠ j) : (m.erase k).find? j = m.find? j := by
  simp [SMap.find?, SMap.erase, SMap.findL_delL, h]

theorem SMap.mem_insL (l : List (Nat × α)) (k : Nat) (v : α) (c : Nat × α) (h : c ∈ SMap.insL l k v) :
    c = (k, v) ∨ c ∈ l := by
  induction l with
  | nil => simpa [SMap.insL] using h
  | cons d l ih =>
    obtain ⟨x, w⟩ := d
    simp only [SMap.insL] at h
    split at h
    · simpa using h
    · split at h
      · rcases List.mem_cons.mp h with h | h
        · exact Or.inl h
        · exact Or.inr (List.mem_cons_of_mem _ h)
      · rcases List.mem_cons.mp h with h | h
        · exact Or.inr (h ▸ List.mem_cons_self)
        · rcases ih h with h | h
          · exact Or.inl h
          · exact Or.inr (List.mem_cons_of_mem _ h)

theorem SMap.mem_delL (l : List (Nat × α)) (k : Nat) (c : Nat × α) (h : c ∈ SMap.delL l k) : c ∈ l := by
  induction l with
  | nil => exact h
  | cons d l ih =>
    obtain ⟨x, w⟩ := d
    simp only [SMap.delL] at h
    split at h
    · exact List.mem_cons_of_mem _ (ih h)
    · simp only [List.mem_cons] at h ⊢
      rcases h with h | h
      · exact Or.inl h
      · exact Or.inr (ih h)

/-- Setting a key keeps the keys rising. -/
@[simp] theorem SMap.sortedL_insL (l : List (Nat × α)) (k : Nat) (v : α) (h : SMap.sortedL l = true) :
    SMap.sortedL (SMap.insL l k v) = true := by
  induction l with
  | nil => simp [SMap.insL, SMap.sortedL]
  | cons c l ih =>
    obtain ⟨x, w⟩ := c
    simp only [SMap.sortedL, Bool.and_eq_true, List.all_eq_true, decide_eq_true_eq] at h
    simp only [SMap.insL]
    split
    · rename_i hk
      simp only [SMap.sortedL, Bool.and_eq_true, List.all_eq_true, decide_eq_true_eq, List.mem_cons]
      refine ⟨fun d hd => ?_, h.1, h.2⟩
      rcases hd with rfl | hd
      · exact hk
      · exact Nat.lt_trans hk (h.1 _ hd)
    · split
      · rename_i hk
        subst hk
        simp only [SMap.sortedL, Bool.and_eq_true, List.all_eq_true, decide_eq_true_eq]
        exact h
      · simp only [SMap.sortedL, Bool.and_eq_true, List.all_eq_true, decide_eq_true_eq]
        refine ⟨fun d hd => ?_, ih h.2⟩
        rcases SMap.mem_insL _ _ _ _ hd with rfl | hd
        · dsimp only; omega
        · exact h.1 _ hd

/-- Removing a key keeps the keys rising. -/
@[simp] theorem SMap.sortedL_delL (l : List (Nat × α)) (k : Nat) (h : SMap.sortedL l = true) :
    SMap.sortedL (SMap.delL l k) = true := by
  induction l with
  | nil => rfl
  | cons c l ih =>
    obtain ⟨x, w⟩ := c
    simp only [SMap.sortedL, Bool.and_eq_true, List.all_eq_true, decide_eq_true_eq] at h
    simp only [SMap.delL]
    split
    · exact ih h.2
    · simp only [SMap.sortedL, Bool.and_eq_true, List.all_eq_true, decide_eq_true_eq]
      exact ⟨fun d hd => h.1 _ (SMap.mem_delL _ _ _ hd), ih h.2⟩

/-- Dropping cells keeps the keys rising. -/
@[simp] theorem SMap.sortedL_filter (l : List (Nat × α)) (p : Nat × α → Bool) (h : SMap.sortedL l = true) :
    SMap.sortedL (l.filter p) = true := by
  induction l with
  | nil => rfl
  | cons c l ih =>
    obtain ⟨x, w⟩ := c
    simp only [SMap.sortedL, Bool.and_eq_true, List.all_eq_true, decide_eq_true_eq] at h
    simp only [List.filter_cons]
    split
    · simp only [SMap.sortedL, Bool.and_eq_true, List.all_eq_true, decide_eq_true_eq]
      exact ⟨fun d hd => h.1 _ (List.mem_filter.mp hd).1, ih h.2⟩
    · exact ih h.2

@[simp] theorem SMap.insert_sorted (m : SMap α) (k : Nat) (v : α) (h : SMap.sortedL m.cells = true) :
    SMap.sortedL (m.insert k v).cells = true := SMap.sortedL_insL _ _ _ h

@[simp] theorem SMap.erase_sorted (m : SMap α) (k : Nat) (h : SMap.sortedL m.cells = true) :
    SMap.sortedL (m.erase k).cells = true := SMap.sortedL_delL _ _ h

@[simp] theorem SMap.filter_sorted (m : SMap α) (p : Nat → α → Bool) (h : SMap.sortedL m.cells = true) :
    SMap.sortedL (m.filter p).cells = true := SMap.sortedL_filter _ _ h

/-- `put` keeps the canonical form: keys rising, and no cell that holds what an unlisted key reads as. -/
theorem SMap.put_wf [DecidableEq α] (m : SMap α) (d : Nat → α) (k : Nat) (v : α) (h : m.wf d = true) :
    (m.put (d k) k v).wf d = true := by
  simp only [SMap.wf, Bool.and_eq_true, List.all_eq_true, decide_eq_true_eq] at h ⊢
  simp only [SMap.put]
  split
  · exact ⟨SMap.sortedL_delL _ _ h.1, fun c hc => h.2 _ (SMap.mem_delL _ _ _ hc)⟩
  · rename_i hv
    refine ⟨SMap.sortedL_insL _ _ _ h.1, fun c hc => ?_⟩
    rcases SMap.mem_insL _ _ _ _ hc with rfl | hc
    · exact hv
    · exact h.2 _ hc

/-- Dropping cells keeps the canonical form. -/
theorem SMap.filter_wf [DecidableEq α] (m : SMap α) (d : Nat → α) (p : Nat → α → Bool) (h : m.wf d = true) :
    (m.filter p).wf d = true := by
  simp only [SMap.wf, Bool.and_eq_true, List.all_eq_true, decide_eq_true_eq] at h ⊢
  exact ⟨SMap.sortedL_filter _ _ h.1, fun c hc => h.2 _ (List.mem_filter.mp hc).1⟩

/-- A read of a key that `put` has just set. -/
@[simp] theorem SMap.getD_put_self [DecidableEq α] (m : SMap α) (d : α) (k : Nat) (v : α) : (m.put d k v).getD k d = v := by
  simp only [SMap.put]
  split
  · rename_i hv
    simp [SMap.getD, hv]
  · simp [SMap.getD]

/-- A read of another key. -/
theorem SMap.getD_put_other [DecidableEq α] (m : SMap α) (d e : α) (k j : Nat) (v : α) (hk : k ≠ j) :
    (m.put d k v).getD j e = m.getD j e := by
  simp only [SMap.put]
  split
  · simp [SMap.getD, SMap.find?_erase_other _ _ _ hk]
  · simp [SMap.getD, SMap.find?_insert_other _ _ _ _ hk]

/-- A read of a key just set. -/
@[simp] theorem SMap.getD_insert_self (m : SMap α) (d : α) (k : Nat) (v : α) : (m.insert k v).getD k d = v := by
  simp [SMap.getD]

end Sys2Proof.Machine
end

