-- ==== Sys2Proof/Laws/Ops.lean ====
section
/-!
SUPPORT. Laws/Ops.lean: what the shared operations do: registers, counters, outputs, reports, transitions, mailbox commands.
-/
namespace Sys2Proof.Machine

/-! ## Registers and counters -/

@[simp] theorem State.reg_setReg_self (s : State) (a : Nat) (w : Word) : (s.setReg a w).reg a = w := by
  simp [State.reg, State.setReg]

theorem State.reg_setReg_other (s : State) (a b : Nat) (w : Word) (h : a ≠ b) : (s.setReg a w).reg b = s.reg b := by
  simp [State.reg, State.setReg, SMap.getD_put_other _ _ _ _ _ _ h]

@[simp] theorem State.ctr_bumpBy_self (s : State) (a n : Nat) : (s.bumpBy a n).ctr a = s.ctr a + BitVec.ofNat 64 n := by
  simp [State.ctr, State.bumpBy]

theorem State.ctr_bumpBy_other (s : State) (a b n : Nat) (h : a ≠ b) : (s.bumpBy a n).ctr b = s.ctr b := by
  simp [State.ctr, State.bumpBy, SMap.getD_put_other _ _ _ _ _ _ h]

@[simp] theorem State.ctr_bump_self (s : State) (a : Nat) : (s.bump a).ctr a = s.ctr a + 1 := State.ctr_bumpBy_self s a 1

@[simp] theorem State.bump_ctrs_getD (s : State) (a : Nat) : (s.bump a).ctrs.getD a 0#64 = s.ctrs.getD a 0#64 + 1#64 :=
  State.ctr_bump_self s a

theorem State.ctr_bump_other (s : State) (a b : Nat) (h : a ≠ b) : (s.bump a).ctr b = s.ctr b := State.ctr_bumpBy_other s a b 1 h

/-- A table written key by key reads, at a key written, what was written there. -/
theorem SMap.getD_puts (l : List Nat) (f : Nat → Word) (m : SMap Word) (a : Nat) :
   (l.foldl (fun (m : SMap Word) a => m.put (resetAt a) a (f a)) m).getD a (resetAt a) = if a ∈ l then f a else m.getD a (resetAt a) := by
  induction l generalizing m with
  | nil => simp
  | cons b l ih =>
    simp only [List.foldl_cons, ih]
    by_cases h : a ∈ l
    · simp [h]
    · by_cases hb : a = b
      · subst hb; simp [h]
      · simp [h, hb, SMap.getD_put_other _ _ _ _ _ _ (Ne.symm hb)]
/-- After a refresh the core's copy of an always-on register is its live value (R462). -/
theorem State.copyOf_refreshCopies (s : State) (a : Nat) (h : a ∈ aonAddrs) : (s.refreshCopies).copyOf a = (s.refreshCopies).aonView a := by
  simp only [State.copyOf, State.refreshCopies, SMap.getD_puts, h, if_true]
  rfl

/-! ## Outputs and reports -/

@[simp] theorem State.emit_out (s : State) (o : Output) : (s.emit o).out = o :: s.out := rfl

@[simp] theorem State.report_reports (s : State) (unit code cls : Nat) :
    (s.report unit code cls).flt.reports = s.flt.reports ++ [⟨unit, code, cls⟩] := rfl

/-! ## Sideband buses -/

@[simp] theorem State.sb_setSb_self (s : State) (n : Nat) (b : SbBus) : (s.setSb n b).sb n = b := by
  unfold State.sb State.setSb
  split
  · simp [*]
  · split
    · simp [*]
    · split <;> simp [*]

@[simp] theorem State.sb_emit (s : State) (n : Nat) (o : Output) : (s.emit o).sb n = s.sb n := rfl

@[simp] theorem State.sb_bump (s : State) (n a : Nat) : (s.bump a).sb n = s.sb n := rfl

@[simp] theorem State.sb_report (s : State) (n unit code cls : Nat) : (s.report unit code cls).sb n = s.sb n := rfl

/-! ## Transitions -/

/-- A transition sets STATE, REASON and COUNT, and nothing else of the mode controller. -/
@[simp] theorem State.setMode_mode (s : State) (dest : Mode) (reason : Nat) :
    (s.setMode dest reason).mode = { s.mode with mode := dest, reason := reason, count := (s.mode.count + 1) % 65536 } := by
  simp [State.setMode]

/-- A completion changes no more of the control complex than the jobs. -/
theorem State.finish_cmd (s : State) (tag : Nat) (r : Reply) : ∃ jobs, (s.finish tag r).cmd = { s.cmd with jobs := jobs } := by
  unfold State.finish
  split
  · exact ⟨s.cmd.jobs, rfl⟩
  · dsimp only
    split
    · exact ⟨_, (State.lostCompletion_frame _ _ _ _).2.2.1.2.2.2.2⟩
    · split
      · exact ⟨_, rfl⟩
      · exact ⟨_, (State.answer_frame _ _ _ _).2.2.1.2.2.2.2⟩
/-- Where HOLD leads rests on the link, SYS_PAIR, the pair record and the firmware alone. -/
theorem State.holdTarget_of (s t : State) (h1 : t.twl = s.twl) (h2 : t.regs = s.regs) (h3 : t.pair = { s.pair with forming := t.pair.forming, twinIdent := t.pair.twinIdent }) (h4 : t.cmd.twinProto = s.cmd.twinProto) (h5 : t.cmd.active = s.cmd.active) (h6 : t.fls = s.fls) : t.holdTarget = s.holdTarget := by
  have e : t.pairProto = s.pairProto := by
    unfold State.pairProto; rw [h5]; split
    · rfl
    · simp only [h6]
  have e1 : t.pair.departed = s.pair.departed ∧ t.pair.lost = s.pair.lost ∧ t.pair.record = s.pair.record ∧ t.pair.twinTag = s.pair.twinTag := by
    rw [h3]; exact ⟨rfl, rfl, rfl, rfl⟩
  have e2 : t.paired = s.paired ∧ t.pairId = s.pairId := by
    unfold State.paired State.pairId State.fld State.reg; rw [h2]; exact ⟨rfl, rfl⟩
  unfold State.holdTarget State.twinReachable State.linkUp
  rw [e, e1.1, e1.2.1, e1.2.2.1, e1.2.2.2, e2.1, e2.2, h1, h4]
/-- Leaving HOLD is one transition to the mode that the HOLD rows of R22 select. -/
theorem State.leaveHold_mode (s : State) (r : Nat) : (s.leaveHold r).mode = { s.mode with mode := s.holdTarget, reason := r, count := (s.mode.count + 1) % 65536 } := by
  have e2 : s.endHold.mode = s.mode := by simp
  have e : s.endHold.holdTarget = s.holdTarget := by
    apply State.holdTarget_of
    · unfold State.endHold; dsimp only; split <;> simp
    · simp
    · unfold State.endHold; dsimp only; split <;> simp
    · unfold State.endHold; dsimp only; split
      · obtain ⟨j, hj⟩ := State.finish_cmd _ _ _; rw [hj]
      · rfl
    · unfold State.endHold; dsimp only; split
      · obtain ⟨j, hj⟩ := State.finish_cmd _ _ _; rw [hj]
      · rfl
    · simp
  have e3 : ∀ t : State, t.pump.mode = t.mode ∧ t.takeMarkers.mode = t.mode := fun t => ⟨by simp, by simp⟩
  unfold State.leaveHold
  dsimp only
  split
  · rename_i a ha
    have e4 : State.holdTarget { s.endHold with cmd := { s.endHold.cmd with activate := some { a with left := true } } } = s.holdTarget :=
      (State.holdTarget_of s.endHold _ rfl rfl rfl rfl rfl rfl).trans e
    rw [(e3 _).1, (e3 _).2, State.setMode_mode, e4]
    simp only [e2]
  · rw [(e3 _).1, (e3 _).2, State.setMode_mode, e]
    simp only [e2]

/-! ## Mailbox commands -/

/-- The job of a foreground command that has just come. -/
theorem State.finish_new (s u : State) (m : Mbx) (c : CmdSpec) (r : Reply) (k : Bool)
    (hf : s.cmd.jobs.any (fun j => j.tag == s.tagNow) = false)
    (hj : u.cmd.jobs = s.cmd.jobs ++ [⟨m, c.opcode, s.tagNow, c.cfg, false, k, false, none⟩]) :
    u.finish s.tagNow r = { u with cmd := { u.cmd with jobs := s.cmd.jobs } }.answer m c.opcode r := by
  have hn : ∀ j ∈ s.cmd.jobs, (j.tag == s.tagNow) = false := fun j hm => by
    have := List.any_eq_false.mp hf j hm
    simpa using this
  have e1 : u.cmd.jobs.find? (fun j => j.tag == s.tagNow && j.done.isNone) =
      some ⟨m, c.opcode, s.tagNow, c.cfg, false, k, false, none⟩ := by
    rw [hj, List.find?_append, List.find?_eq_none.mpr (fun j hm => by simp [hn j hm])]
    simp
  have e2 : u.cmd.jobs.filter (fun k => k.tag != s.tagNow) = s.cmd.jobs := by
    rw [hj, List.filter_append, List.filter_eq_self.mpr (fun j hm => by simpa using hn j hm)]
    simp
  simp only [State.finish, e1, e2]
  rfl

/-- A command that a mailbox takes runs its body under its tag. -/
theorem State.command_takes (s : State) (m : Mbx) (c : CmdSpec) (body : Nat → State → State × CmdRes) (ht : s.takes m c = true) :
    s.command m c true false body = s.runJob m c false body := by
  simp only [State.takes, Bool.and_eq_true, Bool.not_eq_true', Bool.or_eq_true] at ht
  obtain ⟨⟨⟨⟨⟨⟨⟨h1, h2⟩, h3⟩, h4⟩, h5⟩, h6⟩, h7⟩, h8⟩ := ht
  have e : (!s.privileged m && !c.ld) = false := by rcases h5 with h | h <;> simp [h]
  unfold State.command
  rw [if_neg (by simpa [h1, h3, h4] using h2), if_neg (by simp [e]), if_neg (by simp), if_neg (by simp [h6]), if_neg (by simp),
    if_neg (by simp [h7])]

/-- A command that a mailbox takes for the background, none running there, runs its body under its tag. -/
theorem State.command_background (s : State) (m : Mbx) (c : CmdSpec) (body : Nat → State → State × CmdRes) (ht : s.takes m c = true)
    (hn : s.inBackground m = false) : s.command m c true true body = s.runJob m c true body := by
  simp only [State.takes, Bool.and_eq_true, Bool.not_eq_true', Bool.or_eq_true] at ht
  obtain ⟨⟨⟨⟨⟨⟨⟨h1, h2⟩, h3⟩, h4⟩, h5⟩, h6⟩, h7⟩, h8⟩ := ht
  have e : (!s.privileged m && !c.ld) = false := by rcases h5 with h | h <;> simp [h]
  unfold State.command
  rw [if_neg (by simpa [h1, h3, h4] using h2), if_neg (by simp [e]), if_neg (by simp), if_neg (by simp [h6]), if_neg (by simp [hn]),
    if_neg (by simp [h7])]

/-- No job bears the tag of a command that a mailbox takes. -/
theorem State.takes_fresh (s : State) (m : Mbx) (c : CmdSpec) (ht : s.takes m c = true) :
    s.cmd.jobs.any (fun j => j.tag == s.tagNow) = false := by
  simp only [State.takes, Bool.and_eq_true, Bool.not_eq_true', Bool.or_eq_true] at ht
  exact ht.2

/-- A command that a mailbox takes and whose body answers at once: the body's effect, and its answer. -/
theorem State.simple_takes (s u : State) (m : Mbx) (c : CmdSpec) (body : State → State × Reply) (r : Reply)
    (ht : s.takes m c = true) (hb : body (s.openJob m c false) = (u, r)) (hj : u.cmd.jobs = (s.openJob m c false).cmd.jobs) :
    s.simple m c true body = { u with cmd := { u.cmd with jobs := s.cmd.jobs } }.answer m c.opcode r := by
  unfold State.simple
  rw [State.command_takes s m c _ ht]
  simp only [State.runJob, Bool.false_eq_true, if_false, hb]
  exact State.finish_new s u m c r false (State.takes_fresh s m c ht) hj

/-- A P command that runs alone (R423), whose body answers at once and leaves nothing of its tag to wait for: the body's effect, and its
answer. -/
theorem State.pCommand_alone (s u : State) (m : Mbx) (c : CmdSpec) (inp : List Word) (body : Option Nat → Nat → State → State × Reply)
    (r : Reply) (ht : s.takes m c = true) (ha : s.solitary = true) (hb : body (s.limitedTo m) s.tagNow (s.openJob m c false) = (u, r))
    (h0 : r.rc = 0) (hc : u.cmd = { (s.openJob m c false).cmd with keys := u.cmd.keys, formatArmed := u.cmd.formatArmed })
    (hm : u.mode = s.mode) (ht2 : u.twl = s.twl) (hr : u.pair.record = s.pair.record)
    (hf : u.addr.fences = s.addr.fences) (hv : u.net.revs = s.net.revs) (hw : u.pair.attrWait = s.pair.attrWait) :
    s.pCommand m c true false inp body = { u with cmd := { u.cmd with jobs := s.cmd.jobs } }.answer m c.opcode r := by
  simp only [State.solitary, Bool.and_eq_true, Bool.not_eq_true'] at ha
  obtain ⟨⟨⟨⟨⟨a1, a2⟩, a3⟩, a4⟩, a5⟩, a6⟩ := ha
  have hfresh := State.takes_fresh s m c ht
  have hn : ∀ j ∈ s.cmd.jobs, (j.tag == s.tagNow) = false := fun j hm => by simpa using List.any_eq_false.mp hfresh j hm
  have hq : ∀ q ∈ s.cmd.repl, (q.tag == s.tagNow) = false := fun j hm => by simpa using List.any_eq_false.mp a3 j hm
  have hu : u.replicates = false := by
    rw [← a1]; unfold State.replicates State.linkUp; rw [hm, ht2]
  have hun : u.pair.record.isSome = false := by rw [hr]; simpa using a2
  have hur : u.cmd.repl = s.cmd.repl := by rw [hc]; rfl
  have hj : u.cmd.jobs = s.cmd.jobs ++ [⟨m, c.opcode, s.tagNow, c.cfg, false, false, false, none⟩] := by rw [hc]; rfl
  have hl : ∀ v : State, v.addr = u.addr → v.net = u.net → v.pair = u.pair → v.replLocal s.tagNow = true := by
    intro v e1 e2 e3
    unfold State.replLocal
    rw [e1, e2, e3, hf, hv, hw]
    have e : (s.addr.fences.any fun f => f.tag == s.tagNow && !f.localDone) = false := by
      rw [List.any_eq_false]
      intro f hm'
      have := List.any_eq_false.mp a4 f hm'
      rw [Bool.not_eq_true] at this
      rw [this]
      simp
    rw [e, a5, a6]
    rfl
  unfold State.pCommand
  rw [State.command_takes s m c _ ht]
  have g1 : (s.openJob m c false).replicates = false := a1
  simp only [State.runJob, Bool.false_eq_true, if_false, g1, Bool.false_and]
  show State.replRun (s.openJob m c false) s.tagNow c.opcode (s.limitedTo m) inp .own (body (s.limitedTo m)) = _
  unfold State.replRun
  simp only [hb]
  have eo : (ReplRole.own == ReplRole.own) = true := by decide
  have ea : (ReplRole.own == ReplRole.applied) = false := by decide
  have g2 : (u.commitJob s.tagNow).replicates = u.replicates := rfl
  have key : ∀ v : State, v = { u.commitJob s.tagNow with cmd := { (u.commitJob s.tagNow).cmd with
      repl := (u.commitJob s.tagNow).cmd.repl ++ [(⟨s.tagNow, c.opcode, .own, true, (0, r.ext, r.out)⟩ : Repl)] } } →
      v.replTry s.tagNow = { u with cmd := { u.cmd with jobs := s.cmd.jobs } }.answer m c.opcode r := by
    intro v hv'
    have gr : v.cmd.repl = s.cmd.repl ++ [(⟨s.tagNow, c.opcode, .own, true, (0, r.ext, r.out)⟩ : Repl)] := by
      rw [hv']
      show u.cmd.repl ++ _ = _
      rw [hur]
    have gf : v.cmd.repl.find? (fun r => r.tag == s.tagNow && r.role != .carried) = some ⟨s.tagNow, c.opcode, .own, true, (0, r.ext, r.out)⟩ := by
      rw [gr, List.find?_append, List.find?_eq_none.mpr (fun q hm => by simp [hq q hm])]
      simp
    have gn : (v.addr.fences.any fun f => f.tag == s.tagNow) = false := by rw [hv']; show (u.addr.fences.any _) = false; rw [hf]; exact a4
    have gd : v.cmd.repl.filter (fun (q : Repl) => q.tag != s.tagNow || q.role == ReplRole.carried) = s.cmd.repl := by
      rw [gr, List.filter_append, List.filter_eq_self.mpr (fun q hm => by simp [bne, hq q hm])]
      simp
    have ga : v.addr.fences.filter (fun f => f.tag != s.tagNow) = v.addr.fences := by
      rw [List.filter_eq_self]
      intro f hm'
      have := List.any_eq_false.mp gn f hm'
      simpa using this
    unfold State.replTry
    simp only [gf, hl v (by rw [hv']; rfl) (by rw [hv']; rfl) (by rw [hv']; rfl), gn, gd, ga, Bool.true_and, if_true, Bool.false_eq_true, if_false]
    unfold State.replEnd
    dsimp only
    have hr0 : (⟨0, r.ext, r.out⟩ : Reply) = r := by rw [← h0]
    rw [hr0]
    have gj : v.cmd.jobs = s.cmd.jobs ++ [⟨m, c.opcode, s.tagNow, c.cfg, false, true, false, none⟩] := by
      rw [hv']
      show u.cmd.jobs.map _ = _
      rw [hj, List.map_append]
      congr 1
      · rw [List.map_congr_left (g := id)]
        · simp
        · intro j hm'
          have := hn j hm'
          simp at this
          simp [this]
      · simp
    rw [State.finish_new s _ m c r true hfresh (by exact gj)]
    rw [hv']
    congr 1
    show ({ u with cmd := _ } : State) = _
    congr 1
    show ({ u.cmd with jobs := s.cmd.jobs, repl := s.cmd.repl } : Control) = _
    rw [← hur]
  have g3 : (u.commitJob s.tagNow).replicates = false := hu
  have g4 : (u.commitJob s.tagNow).pair.record.isSome = false := hun
  simp only [hu, h0, eo, ea, Bool.true_and, decide_true, if_true, Bool.not_false, Bool.or_true, Bool.true_or]
  rw [if_neg (by rw [g4, Bool.and_false]; exact Bool.false_ne_true)]
  exact key _ rfl

/-- A query that a mailbox takes answers, and does nothing else. -/
theorem State.query_takes (s : State) (m : Mbx) (c : CmdSpec) (body : State → Reply) (r : Reply) (lenOk : Bool) (hl : lenOk = true)
    (ht : s.takes m c = true) (hb : body (s.openJob m c false) = r) :
    s.query m c lenOk body = s.answered m c.opcode r := by
  subst hl
  unfold State.query
  rw [State.simple_takes s (s.openJob m c false) m c _ r ht (by rw [hb]) rfl]
  rfl

/-- A command that answers at once, by its effect on the state before it: that effect, and its answer. -/
theorem State.simple_answered (s u : State) (m : Mbx) (c : CmdSpec) (body : State → State × Reply) (r : Reply) (lenOk : Bool) (hl : lenOk = true)
    (ht : s.takes m c = true) (hb : body (s.openJob m c false) = (u.openJob m c false, r)) (hg : u.tagNow = s.tagNow)
    (hj : u.cmd.jobs = s.cmd.jobs) : s.simple m c lenOk body = u.answered m c.opcode r := by
  subst hl
  rw [State.simple_takes s _ m c body r ht hb (by simp only [State.openJob, hg, hj])]
  simp only [State.openJob, State.answered, ← hj]

/-- A P command that runs alone, by its effect on the state before it. -/
theorem State.pCommand_answered (s u : State) (m : Mbx) (c : CmdSpec) (inp : List Word) (body : Option Nat → Nat → State → State × Reply)
    (r : Reply) (lenOk : Bool) (hl : lenOk = true) (ht : s.takes m c = true) (ha : s.solitary = true)
    (hb : body (s.limitedTo m) s.tagNow (s.openJob m c false) = (u.openJob m c false, r))
    (h0 : r.rc = 0) (hg : u.tagNow = s.tagNow) (hc : u.cmd = { s.cmd with keys := u.cmd.keys, formatArmed := u.cmd.formatArmed })
    (hm : u.mode = s.mode) (ht2 : u.twl = s.twl) (hr : u.pair.record = s.pair.record)
    (hf : u.addr.fences = s.addr.fences) (hv : u.net.revs = s.net.revs) (hw : u.pair.attrWait = s.pair.attrWait) :
    s.pCommand m c lenOk false inp body = u.answered m c.opcode r := by
  subst hl
  have hj : u.cmd.jobs = s.cmd.jobs := by rw [hc]
  rw [State.pCommand_alone s _ m c inp body r ht ha hb h0 (by simp only [State.openJob, hg]; rw [hc]) hm ht2 hr hf hv hw]
  simp only [State.openJob, State.answered, ← hj]

end Sys2Proof.Machine
end

