-- ==== Sys2Proof/Laws/Memory.lean ====
section
/-!
SUPPORT. Laws/Memory.lean: home lines: a read after a write, a write leaves other lines alone, and every operation that writes home lines keeps
their canonical form.
-/
namespace Sys2Proof.Machine

@[simp] theorem State.cell_setCell_self (s : State) (h : Home) (c : Cell) : (s.setCell h c).cell h = some c := by
  simp [State.cell, State.setCell]

theorem State.cell_setCell_other (s : State) (h k : Home) (c : Cell) (n : k.key ≠ h.key) : (s.setCell h c).cell k = s.cell k := by
  simp only [State.cell, State.setCell]
  exact SMap.find?_insert_other _ _ _ _ (Ne.symm n)

theorem Home.key_inj (h k : Home) (e : h.key = k.key) : h = k := by
  obtain ⟨a, x⟩ := h
  obtain ⟨b, y⟩ := k
  cases a <;> cases b <;> simp [Home.key] at e ⊢ <;> omega

@[simp] theorem State.setCell_wf (s : State) (h : Home) (c : Cell) (w : Memory.wf s.mem = true) : Memory.wf (s.setCell h c).mem = true := by
  simpa [State.setCell] using SMap.insert_sorted s.mem h.key c w

theorem State.unqueue_mem (s : State) (h : Home) : (s.unqueue h).mem = s.mem := (State.unqueue_frame s h).2.1.2.2.1

theorem State.landCell_wf (s : State) (h : Home) (c : Option Cell) (w : Memory.wf s.mem = true) : Memory.wf (s.landCell h c).mem = true := by
  have w2 : Memory.wf (s.unqueue h).mem = true := by rw [State.unqueue_mem]; exact w
  unfold State.landCell
  cases c with
  | none => exact SMap.erase_sorted _ _ w2
  | some c => exact State.setCell_wf _ _ _ w2

theorem State.restoredLine_wf (s : State) (r : LineRec) (w : Memory.wf s.mem = true) : Memory.wf (s.restoredLine r).mem = true := by
  unfold State.restoredLine
  split <;> exact State.setCell_wf _ _ _ w

theorem State.putRecLine_wf (r : LeafRec) (s : State) (k : Nat) (w : Memory.wf s.mem = true) : Memory.wf (State.putRecLine r s k).mem = true := by
  unfold State.putRecLine
  dsimp only
  split <;> exact State.setCell_wf _ _ _ w

/-- A fold keeps the canonical form where each of its steps does. -/
theorem Memory.fold_wf {α : Type} (f : State → α → State) (k : ∀ s a, Memory.wf s.mem = true → Memory.wf (f s a).mem = true) (l : List α) :
    ∀ s : State, Memory.wf s.mem = true → Memory.wf (l.foldl f s).mem = true := by
  induction l with
  | nil => exact fun _ w => w
  | cons a l ih => exact fun s w => ih _ (k s a w)

theorem State.putRecord_wf (s : State) (r : LeafRec) (w : Memory.wf s.mem = true) : Memory.wf (s.putRecord r).mem = true :=
  Memory.fold_wf _ (fun s k w => State.putRecLine_wf r s k w) _ s w

theorem State.poisonWritten_mem (s : State) (a b c : Nat) : (s.poisonWritten a b c).mem = s.mem := (State.poisonWritten_frame s a b c).2.1.2.2.1

theorem State.poisonLeaf_wf (s : State) (leaf cause : Nat) (w : Memory.wf s.mem = true) : Memory.wf (s.poisonLeaf leaf cause).mem = true := by
  unfold State.poisonLeaf
  dsimp only
  rw [(State.logRec_frame _ _ _ _ _).2.1.2.2.1]
  refine Memory.fold_wf _ (fun s k w => ?_) _ s w
  rw [State.poisonWritten_mem]
  exact State.setCell_wf _ _ _ w

theorem State.rowBack_wf (s : State) (r : RepairedRow) (h : Home) (c : Cell) (w : Memory.wf s.mem = true) :
    Memory.wf (s.rowBack r h c).mem = true := by
  unfold State.rowBack
  repeat' split
  all_goals first
    | exact State.setCell_wf _ _ _ w
    | (rw [State.poisonWritten_mem]; exact State.setCell_wf _ _ _ w)

theorem State.unremap_wf (s : State) (r : Remap) (w : Memory.wf s.mem = true) : Memory.wf (s.unremap r).mem = true := by
  have w2 : Memory.wf (s.unqueue r.src).mem = true := by rw [State.unqueue_mem]; exact w
  unfold State.unremap
  dsimp only
  rw [(State.ecRecord_frame _ _ _ _ _ _ _ _ _ _).2.1.2.2.1]
  split
  · exact State.setCell_wf _ _ _ w2
  · exact SMap.erase_sorted _ _ w2

end Sys2Proof.Machine
end

