-- ==== Sys2Proof/WellFormed.lean ====
section
/-!
DEFINITION. WellFormed.lean: the ranges of the operands of a command, as the spec gives the things they name. exec is total and does not rely on
them; a sender that keeps to the spec sends only well-formed commands.
-/
namespace Sys2Proof
open Sys2Proof.Machine

/-- A mailbox with the payload it was given: function code (R369), words of the payload. -/
def mbxOk (m : Mbx) (inp : List Word) : Bool := decide (m.fn < 64) && decide (4 * inp.length < m.len + 4) && decide (m.len ≤ 4 * inp.length)

/-- A mailbox. -/
def fnOk (m : Mbx) : Bool := decide (m.fn < 64)

/-- A CXL.mem message: port, link, LD-ID (R368, R372). -/
def cxlOk (p : CxlMsg) : Bool := decide (p.port < 2) && decide (p.link < 2) && decide (p.ldid < 16)

/-- A header of the twin link (R134): PSEQ and ACKSEQ 12 bits, CRD 4 bits, MSN 20 bits, OFFSET 6 bits. -/
def twOk (h : TwHeader) : Bool :=
  decide (h.pseq < 4096) && decide (h.ackseq < 4096) && decide (h.crd < 16) && decide (h.msn < 1048576) && decide (h.off < 64)

/-- The operands of a command are in range. -/
def Instr.wf (i : Instr) : Bool :=
  match i with
  | .sysModeReqWrite who _ purpose _ => decide (who < 5) && decide (purpose < 4)
  | .rscWriteLands addr => decide (addr < 16777216)
  | .modeRequest m inp => mbxOk m inp
  | .modeStatus m inp => mbxOk m inp
  | .aonTick _ _ => true
  | .holdDwellExpired => true
  | .holdPurposeFinished => true
  | .preserveComplete _ => true
  | .timCaptureGo _ => true
  | .timCaptureLands => true
  | .handshakeStall channel unit => decide (channel < 4294967296) && decide (unit < 4294967296)
  | .pwrVcoreTargetWrite who _ _ => decide (who < 5)
  | .regionCreate m inp => mbxOk m inp
  | .regionDelete m inp => mbxOk m inp
  | .regionSetAttr m inp => mbxOk m inp
  | .regionZero m inp => mbxOk m inp
  | .regionFenceEnd region => decide (region < 65536)
  | .regionList m inp => mbxOk m inp
  | .identifyRegions m inp => mbxOk m inp
  | .shareCreate m inp => mbxOk m inp
  | .shareDelete m inp => mbxOk m inp
  | .sysPoolWrite who _ => decide (who < 5)
  | .leafFillDone leaf => decide (leaf < 4294967296)
  | .memRd p => cxlOk p
  | .memWr p _ _ => cxlOk p
  | .memWrPtl p _ _ _ => cxlOk p
  | .memSpecRd p => cxlOk p
  | .memInv p => cxlOk p
  | .m2sBadOpcode port link _ => decide (port < 2) && decide (link < 2)
  | .hdmDecoderCommit fn _ _ => decide (fn < 64)
  | .gpfPhase2Request port link => decide (port < 2) && decide (link < 2)
  | .gpfPhase2Response port link => decide (port < 2) && decide (link < 2)
  | .perstNAssert port link _ => decide (port < 2) && decide (link < 2)
  | .functionLevelReset fn => decide (fn < 64)
  | .cxlLaneFailure port link _ => decide (port < 2) && decide (link < 2)
  | .cxlLinkL0 port link => decide (port < 2) && decide (link < 2)
  | .cxlLinkRecoveryTimeout port link => decide (port < 2) && decide (link < 2)
  | .retrainFull port link _ => decide (port < 2) && decide (link < 2)
  | .ideIntegrityFail port link => decide (port < 2) && decide (link < 2)
  | .ideKm port link => decide (port < 2) && decide (link < 2)
  | .setLdAllocations m _ => fnOk m
  | .getLdInfo m => fnOk m
  | .getLdAllocations m _ _ => fnOk m
  | .cxaLdSpanWrite port ld _ => decide (port < 2) && decide (ld < 16)
  | .getEventRecords m log => fnOk m && decide (log < 4)
  | .clearEventRecords m log _ => fnOk m && decide (log < 4)
  | .getEventInterruptPolicy m => fnOk m
  | .setEventInterruptPolicy m _ => fnOk m
  | .getFwInfo m => fnOk m
  | .transferFw m _ slot _ _ => fnOk m && decide (slot < 3)
  | .activateFw m _ slot => fnOk m && decide (slot < 3)
  | .fwReady => true
  | .activationTimeout => true
  | .getTimestamp m => fnOk m
  | .setTimestamp m _ => fnOk m
  | .getSupportedLogs m => fnOk m
  | .getLog m _ _ => fnOk m
  | .identifyMemoryDevice m => fnOk m
  | .getPartitionInfo m => fnOk m
  | .getHealthInfo m => fnOk m
  | .getAlertConfiguration m => fnOk m
  | .setAlertConfiguration m _ temp => fnOk m && decide (temp < 256)
  | .getShutdownState m => fnOk m
  | .setShutdownState m _ => fnOk m
  | .getPoisonList m _ _ => fnOk m
  | .injectPoison m _ => fnOk m
  | .clearPoison m _ _ => fnOk m
  | .scanMediaCapabilities m => fnOk m
  | .scanMedia m _ _ => fnOk m
  | .getScanMediaResults m => fnOk m
  | .backgroundCommandDone fn _ => decide (fn < 64)
  | .unsupportedOpcode m _ => fnOk m
  | .trackerEntryFreed _ => true
  | .homeReadReturn inst _ _ => decide (inst < 48)
  | .mergedRefetchDone line _ => decide (line < 274877906944)
  | .mergeEntryTimeout line _ => decide (line < 274877906944)
  | .writeQueueRetire inst _ => decide (inst < 48)
  | .dramCommandIssue inst sc _ => decide (inst < 48) && decide (sc < 2)
  | .urgencyLevelUp inst _ => decide (inst < 48)
  | .refreshDue inst sc rank => decide (inst < 48) && decide (sc < 2) && decide (rank < 32)
  | .temperaturePoll inst _ => decide (inst < 48)
  | .zqCalibrationDue inst sc rank => decide (inst < 48) && decide (sc < 2) && decide (rank < 32)
  | .dqsCalibrationDue inst sc rank => decide (inst < 48) && decide (sc < 2) && decide (rank < 32)
  | .caParityError inst => decide (inst < 48)
  | .writeCrcError inst _ => decide (inst < 48)
  | .alertN inst => decide (inst < 48)
  | .dataParity inst => decide (inst < 48)
  | .release who inst => decide (who < 5) && decide (inst < 48)
  | .retireLine who inst => decide (who < 5) && decide (inst < 48)
  | .retireChannel who inst => decide (who < 5) && decide (inst < 48)
  | .freezeLimitExpired inst => decide (inst < 48)
  | .freezeReadTimeout inst => decide (inst < 48)
  | .scrubPassStart => true
  | .scrubRead => true
  | .markSet m inp => mbxOk m inp
  | .markList m inp => mbxOk m inp
  | .remapList m inp => mbxOk m inp
  | .errCounts m inp => mbxOk m inp
  | .pprRun m inp => mbxOk m inp
  | .pprDone _ => true
  | .rawWrite who _ => decide (who < 5)
  | .encWrite who _ => decide (who < 5)
  | .rawRead who _ _ => decide (who < 5)
  | .decRead who _ _ => decide (who < 5)
  | .moveStart extent => decide (extent < 8388608)
  | .moveComplete extent => decide (extent < 8388608)
  | .ageingPeriodEnd => true
  | .tenantSet m inp => mbxOk m inp
  | .tenantStatus m inp => mbxOk m inp
  | .schedLoad m inp => mbxOk m inp
  | .schedUnload m inp => mbxOk m inp
  | .schedStatus m inp => mbxOk m inp
  | .homeQuery m inp => mbxOk m inp
  | .cacheOp m inp => mbxOk m inp
  | .clean => true
  | .invalidate => true
  | .cleanInvalidate => true
  | .zero cls => decide (cls < 4)
  | .discard who => decide (who < 5)
  | .rangeWalkSet => true
  | .rangeOpDone => true
  | .cacheSweepDone => true
  | .writeBehindLeaf _ _ => true
  | .nandProgramDone _ _ => true
  | .nandEraseDone _ pos _ _ => decide (pos < 16)
  | .mapDeltaWrite => true
  | .checkpointCycleStart => true
  | .checkpointCycleDone => true
  | .cleaningStart zone _ => decide (zone < 8)
  | .sealRecordWritten => true
  | .leafRestoreStart leaf => decide (leaf < 4294967296)
  | .leafRestoreDone leaf _ => decide (leaf < 4294967296)
  | .vaultStatus m inp => mbxOk m inp
  | .vaultFormat m inp => mbxOk m inp
  | .vaultEraseGo who => decide (who < 5)
  | .vaultFormatDone _ => true
  | .zoneSet m inp => mbxOk m inp
  | .vaultLostList m inp => mbxOk m inp
  | .preserveReport m inp => mbxOk m inp
  | .vaultCheckpoint m inp => mbxOk m inp
  | .rdmaWritePacket _ => true
  | .rdmaReadRequest _ => true
  | .cmpSwap _ => true
  | .fetchAdd _ => true
  | .rcUnsupportedOpcode _ => true
  | .rxFrameDiscarded _ _ => true
  | .arpNdFrame _ _ => true
  | .probePacket _ _ _ _ => true
  | .cmReq _ _ => true
  | .cmRtu _ qpn => decide (qpn < 16777216)
  | .cmRej _ qpn => decide (qpn < 16777216)
  | .cmMra _ qpn => decide (qpn < 16777216)
  | .cmDreq _ qpn => decide (qpn < 16777216)
  | .cmDrep _ qpn => decide (qpn < 16777216)
  | .errorDreq qpn => decide (qpn < 16777216)
  | .pfcFrameReceived mac port _ _ => decide (mac < 8) && decide (port < 4)
  | .pauseQuantaExpired mac port prio => decide (mac < 8) && decide (port < 4) && decide (prio < 8)
  | .xoffRefresh mac port prio => decide (mac < 8) && decide (port < 4) && decide (prio < 8)
  | .rxPauseStorm mac port prio => decide (mac < 8) && decide (port < 4) && decide (prio < 8)
  | .rxStormIgnoreEnd mac port prio => decide (mac < 8) && decide (port < 4) && decide (prio < 8)
  | .txPauseStorm mac port prio => decide (mac < 8) && decide (port < 4) && decide (prio < 8)
  | .contextFetchDone _ => true
  | .stallExpired _ => true
  | .ackDelayExpired _ => true
  | .revocationDrainDone index => decide (index < 262144)
  | .keyRegister m inp => mbxOk m inp
  | .keyRevoke m inp => mbxOk m inp
  | .keyList m inp => mbxOk m inp
  | .domainSet m inp => mbxOk m inp
  | .domainRevoke m inp => mbxOk m inp
  | .netStatus m inp => mbxOk m inp
  | .addrSet m inp => mbxOk m inp
  | .listenSet m inp => mbxOk m inp
  | .connList m inp => mbxOk m inp
  | .connClose m inp => mbxOk m inp
  | .macModeRetrainDone mac => decide (mac < 8)
  | .ethernetLinkChange mac port _ => decide (mac < 8) && decide (port < 4)
  | .dataFrame path h _ => decide (path < 2) && twOk h
  | .idleFrame path h => decide (path < 2) && twOk h
  | .beat path h _ => decide (path < 2) && twOk h
  | .pathUp path h _ => decide (path < 2) && twOk h
  | .laneRetire path h _ _ _ => decide (path < 2) && twOk h
  | .writeFwd => true
  | .orderAck => true
  | .mirror => true
  | .mirrorAck => true
  | .intent => true
  | .intentData => true
  | .raReq => true
  | .raResp => true
  | .checkpoint => true
  | .resyncCopy => true
  | .resyncCtl _ => true
  | .handoverMarker => true
  | .handoverAck => true
  | .departing => true
  | .departingAck => true
  | .control _ => true
  | .beatSend => true
  | .missedBeatInterval path => decide (path < 2)
  | .replayTimerExpired path => decide (path < 2)
  | .pathUpTimeout path => decide (path < 2)
  | .deadPathRetrain path => decide (path < 2)
  | .laneFault path lane _ => decide (path < 2) && decide (lane < 8)
  | .laneRetireAckTimeout path => decide (path < 2)
  | .laneRetrainDone path _ => decide (path < 2)
  | .forceDead who path _ => decide (who < 5) && decide (path < 2)
  | .restoreLanes path _ => decide (path < 2)
  | .departingAckTimeout => true
  | .probeSend => true
  | .probeReply _ => true
  | .probeSilent => true
  | .handoverStart extent => decide (extent < 8388608)
  | .resyncExtentDone extent => decide (extent < 8388608)
  | .pairForm m inp => mbxOk m inp
  | .pairFormComplete => true
  | .pairStatus m inp => mbxOk m inp
  | .resyncStatus m inp => mbxOk m inp
  | .faultEvent unit code cls _ => decide (unit < 4294967296) && decide (code < 256) && decide (cls < 4)
  | .faultSlotDispatch _ => true
  | .selftestDone slot _ _ _ _ => decide (slot < 9)
  | .stuckOperation _ => true
  | .lockstepMismatch => true
  | .coxRestartDone => true
  | .firmwareCheckpoint => true
  | .engineFault eight engine _ => decide (eight < 8) && decide (engine < 8)
  | .referenceClockLost clock => decide (clock < 3)
  | .referenceClockRestored clock => decide (clock < 3)
  | .faultStatus m inp => mbxOk m inp
  | .faultChannels m inp => mbxOk m inp
  | .selftestRun m inp => mbxOk m inp
  | .trackerSnapshot m inp => mbxOk m inp
  | .frameCommit m inp => mbxOk m inp
  | .frameRewind m inp => mbxOk m inp
  | .frameList m inp => mbxOk m inp
  | .frameStatus m inp => mbxOk m inp
  | .logSnapshot m inp => mbxOk m inp
  | .logClear m inp => mbxOk m inp
  | .logFlush m inp => mbxOk m inp
  | .powerStatus m inp => mbxOk m inp
  | .secStatus m inp => mbxOk m inp
  | .identityGet m inp => mbxOk m inp
  | .keyslotLoad m inp => mbxOk m inp
  | .keyslotGenerate m inp => mbxOk m inp
  | .keyslotClear m inp => mbxOk m inp
  | .keyslotList m inp => mbxOk m inp
  | .fwSvnAdvance m inp => mbxOk m inp
  | .sysUnlockWrite who key => decide (who < 5) && decide (key < 65536)
  | .unlockExpired who => decide (who < 5)
  | .shtCommitWrite _ => true
  | .shtRewindWrite back => decide (back < 4)
  | .frameWriteDone _ => true
  | .frameWriteAbandoned => true
  | .testStripEnd => true
  | .autoRewindRetry => true
  | .registerWrite who width addr _ => decide (who < 5) && decide (width < 129) && decide (addr < 16777216)
  | .flashRead who => decide (who < 5)
  | .flashProgram who => decide (who < 5)
  | .flashErase who => decide (who < 5)
  | .flashSuspend who => decide (who < 5)
  | .flashResume who => decide (who < 5)
  | .protWrite who => decide (who < 5)
  | .pwdSet who => decide (who < 5)
  | .flashProgramDone bank _ => decide (bank < 2)
  | .flashEraseDone bank _ => decide (bank < 2)
  | .fetchSuspend bank => decide (bank < 2)
  | .progWaitExpired bank => decide (bank < 2)
  | .journalScan => true
  | .rollErase => true
  | .vddAonApplied _ _ _ _ => true
  | .powerUpStart => true
  | .stepQualified _ => true
  | .stepTimeout => true
  | .trainingComplete => true
  | .leafMapRebuilt => true
  | .bringupFailure _ => true
  | .pgFall bit _ => decide (bit < 12)
  | .seqInLow => true
  | .outHoldExpired => true
  | .chainDischarged chain => decide (chain < 4)
  | .dischargeTimeout step => decide (step < 12)
  | .offWaitEnd => true
  | .hostNotify bus sender _ => decide (bus < 4) && decide (sender < 128)
  | .pfailNFall => true
  | .pfailNRise => true
  | .rideRearmExpired => true
  | .rideTimerExpired => true
  | .bankReading _ => true
  | .bankReadingStale => true
  | .holdupOkLow => true
  | .vcoreStep => true
  | .vcoreReadback mv => decide (mv < 4096)
  | .resetNLow => true
  | .junctionOvertemp temp => decide (temp < 256)
  | .sbCmd who bus _ _ => decide (who < 5) && decide (bus < 4)
  | .sbTransferDone bus result _ => decide (bus < 4) && decide (result < 16)
  | .sclLowTimeout bus _ => decide (bus < 4)
  | .hangCureRetry bus _ => decide (bus < 4)
  | .arbitrationLost bus => decide (bus < 4)
  | .busError bus _ => decide (bus < 4)
  | .logFlushAge => true
  | .logFlushDone => true
  | .overflowRecord => true
  | .perstNRelease port link => decide (port < 2) && decide (link < 2)
  | .thermN temp => decide (temp < 256)
  | .vddAonRemoved => true
  | .intentDataSend => true
  | .resyncCopySend extent => decide (extent < 8388608)
  | .frameBadCrc path => decide (path < 2)
  | .laneRetireWaitExpired path => decide (path < 2)
  | .doeRequest fn protocol _ => decide (fn < 64) && decide (protocol < 256)
  | .jtagInstruction _ => true
  | .crcThreshold port link _ => decide (port < 2) && decide (link < 2)

end Sys2Proof
end

