-- ==== Sys2Proof/Tests/Slice0.lean ====
section
/-!
SUPPORT. Tests/Slice0.lean: ill-formed commands refused, small tests of single steps, and for every statement with hypotheses states that meet
them.
-/
namespace Sys2Proof.Tests
open Sys2Proof Sys2Proof.Machine
set_option linter.unusedVariables false
set_option maxRecDepth 4000
set_option exponentiation.threshold 1024

/-! ## Commands out of range -/

theorem test_wf_mailbox : Instr.wf (.modeStatus ⟨64, false, 0⟩ []) = false ∧ Instr.wf (.modeStatus ⟨0, false, 4⟩ []) = false ∧
    Instr.wf (.modeStatus ⟨0, false, 0⟩ [0]) = false ∧ Instr.wf (.getTimestamp ⟨64, false, 0⟩) = false ∧
    Instr.wf (.modeRequest ⟨63, false, 4⟩ [1]) = true := by decide
theorem test_wf_cxl : Instr.wf (.memRd ⟨2, 0, 0, 0, 0⟩) = false ∧ Instr.wf (.memRd ⟨0, 2, 0, 0, 0⟩) = false ∧
    Instr.wf (.memRd ⟨0, 0, 16, 0, 0⟩) = false ∧ Instr.wf (.memRd ⟨1, 1, 15, 0, 0⟩) = true := by decide
theorem test_wf_twin : Instr.wf (.dataFrame 2 ⟨0, 0, false, 0, 0, 0, false⟩ []) = false ∧
    Instr.wf (.idleFrame 0 ⟨4096, 0, false, 0, 0, 0, false⟩) = false ∧ Instr.wf (.idleFrame 0 ⟨0, 4096, false, 0, 0, 0, false⟩) = false ∧
    Instr.wf (.idleFrame 0 ⟨0, 0, false, 16, 0, 0, false⟩) = false ∧ Instr.wf (.idleFrame 0 ⟨0, 0, false, 0, 1048576, 0, false⟩) = false ∧
    Instr.wf (.idleFrame 0 ⟨0, 0, false, 0, 0, 64, false⟩) = false ∧ Instr.wf (.idleFrame 1 ⟨4095, 4095, true, 15, 1048575, 63, true⟩) = true := by
  decide
theorem test_wf_requesters : Instr.wf (.sysModeReqWrite 5 4 0 false) = false ∧ Instr.wf (.sysModeReqWrite 0 4 4 false) = false ∧
    Instr.wf (.sysUnlockWrite 0 65536) = false ∧ Instr.wf (.registerWrite 0 129 0 0) = false ∧ Instr.wf (.registerWrite 0 4 16777216 0) = false ∧
    Instr.wf (.rscWriteLands 16777216) = false ∧ Instr.wf (.shtRewindWrite 4) = false := by decide
theorem test_wf_host : Instr.wf (.cxlLinkL0 2 0) = false ∧ Instr.wf (.cxlLinkL0 0 2) = false ∧ Instr.wf (.functionLevelReset 64) = false ∧
    Instr.wf (.cxaLdSpanWrite 0 16 0) = false ∧ Instr.wf (.getEventRecords ⟨0, false, 0⟩ 4) = false ∧
    Instr.wf (.activateFw ⟨0, false, 0⟩ 0 3) = false ∧ Instr.wf (.setAlertConfiguration ⟨0, false, 0⟩ 0 256) = false ∧
    Instr.wf (.doeRequest 0 256 []) = false := by decide
theorem test_wf_memory : Instr.wf (.alertN 48) = false ∧ Instr.wf (.dramCommandIssue 0 2 []) = false ∧ Instr.wf (.refreshDue 0 0 32) = false ∧
    Instr.wf (.mergedRefetchDone 274877906944 0) = false ∧ Instr.wf (.moveStart 8388608) = false ∧ Instr.wf (.leafRestoreStart 4294967296) = false ∧
    Instr.wf (.regionFenceEnd 65536) = false ∧ Instr.wf (.zero 4) = false ∧ Instr.wf (.cleaningStart 8 []) = false ∧
    Instr.wf (.nandEraseDone 0 16 true []) = false := by decide
theorem test_wf_network : Instr.wf (.cmDrep ⟨0, 0, 0, 0, 0, 0, 0, 0, 0, true, true, true, 0, 4791, 0⟩ 16777216) = false ∧ Instr.wf (.xoffRefresh 8 0 0) = false ∧
    Instr.wf (.xoffRefresh 0 4 0) = false ∧ Instr.wf (.xoffRefresh 0 0 8) = false ∧ Instr.wf (.revocationDrainDone 262144) = false := by decide
theorem test_wf_units : Instr.wf (.laneFault 2 0 false) = false ∧ Instr.wf (.laneFault 0 8 false) = false ∧ Instr.wf (.faultEvent 4294967296 0 0 0) = false ∧
    Instr.wf (.faultEvent 0 256 0 0) = false ∧ Instr.wf (.faultEvent 0 0 4 0) = false ∧ Instr.wf (.selftestDone 9 true false 0 0) = false ∧
    Instr.wf (.engineFault 8 0 0) = false ∧ Instr.wf (.engineFault 0 8 0) = false ∧ Instr.wf (.referenceClockLost 3) = false ∧
    Instr.wf (.fetchSuspend 2) = false ∧ Instr.wf (.handshakeStall 4294967296 0) = false ∧ Instr.wf (.handshakeStall 0 4294967296) = false := by decide
theorem test_wf_power : Instr.wf (.pgFall 12 0) = false ∧ Instr.wf (.chainDischarged 4) = false ∧ Instr.wf (.dischargeTimeout 12) = false ∧
    Instr.wf (.hostNotify 4 0 0) = false ∧ Instr.wf (.hostNotify 0 128 0) = false ∧ Instr.wf (.vcoreReadback 4096) = false ∧
    Instr.wf (.thermN 256) = false ∧ Instr.wf (.sbTransferDone 0 16 []) = false := by decide

/-! ## States -/

/-- The state after a command, where it answers one. -/
def ran (i : Instr) (s : State) : State :=
  match exec i s with
  | .next t => t
  | _ => s

/-- A controller in SERVE, powered, alone. -/
def onS : State := { pwr := { aon := true, core := true, seq := .up, pfailN := true, holdupOk := true }, mode := { mode := .serve, bringup := .served } }
def pinsHi : Pins := ⟨true, true, true, true, 0⟩
/-- The same, with link 0 of port A up: function 0's mailbox is privileged. -/
def onM : State := { onS with cxl := { portA := { link0 := { state := .l0 } } } }
/-- The same, port A pooled: function 0x20 is the FM-owned LD's. -/
def onF : State := { onS with cxl := { portA := { mode := 1, link0 := { state := .l0 } } } }
/-- The mailbox of function 0, with a command of `n` bytes. -/
def mb (n : Nat) : Mbx := ⟨0, false, n⟩
/-- A region of four extents that function 0 owns and may write. -/
def r0 : Region := { id := 0, tenant := 0, base := 0, len := 4, bounded := false, lag := 0, affinity := 0, drop := false, shareable := false, vzone := 0, tier := 0, keySlot := 0, ownerLd := 0, ldWrite := true, noLd := false, dpaBase := 0 }
/-- The same as `onM`, with that region. -/
def onR : State := { onM with addr := { regions := ⟨[(0, r0)]⟩ } }
/-- A connection that carries data, with nothing in progress. -/
def c0 : Conn := { own := true, qpn := 0, reqQpn := 1, pkey := 0xFFFF, mtu := 1024, udpSrc := 0, domain := 0, respRes := 4, epsn := 0, msn := 0, nakPending := false, rts := true, ready := true, error := false, closing := false, wr := none, route := {}, res := [], ops := [], ackCount := 0, ackSince := 0, donePsn := 0, cnpAt := none, stall := none, routed := false, usedBy := [], twinWait := false, drepOwed := false }
/-- The same as `onR`, memory active, with credits and a decoder of 1 GiB from 0. -/
def onP : State := { onR with cxl := { memActive := true, portA := { link0 := { state := .l0, req := 4, rwd := 4 } }, funcs := ⟨[(0, { hdm := [{ size := 1073741824, committed := true }] })]⟩ } }
def msg : CxlMsg := ⟨0, 0, 0, 64, 7⟩
def far : CxlMsg := ⟨0, 0, 0, 0x80000000, 7⟩
/-- A read of home line 0. -/
def req0 : ChReq := { id := 1, port := 0, home := ⟨false, 0⟩, dev := 0, level := 0, since := 0, rd := some (.entry 0), wr := none, issued := false }
/-- Channel 0 ACTIVE with that read, its bank's open row as given. -/
def onC (rows : SMap (Nat × Nat)) : State := { onS with ch := ⟨[(0, { state := .active, rq := [req0], rows := rows })]⟩ }
/-- A frame to port 0 of E0 for the responder there. -/
def eth0 : Eth := { mac := 0, port := 0, pcp := 0, dscp := 0, ecn := 0, vlan := 0, srcMac := 5, srcIp := 6, dstIp := 1, dstMacOwn := true, fcsGood := true, icrcGood := true, udpSrc := 0, udpDst := 4791, bytes := 100 }
/-- A packet of connection 0. -/
def pk (op psn : Nat) (b : RdmaBody) : RdmaPkt := ⟨eth0, ⟨op, 0, 0xFFFF, 8388608, psn, false⟩, b⟩
/-- Connection 0, which expects PSN 5. -/
def cN : Conn := { c0 with qpn := 8388608, epsn := 5, routed := true }
/-- Port 0 of E0 up, with connection 0 in the cache. -/
def onN : State := { onS with net := { ports := ⟨[(0, { link := true, addrs := [⟨1, 64, false⟩] })]⟩, conns := ⟨[(0, cN)]⟩, cached := ⟨[(0, 0)]⟩ } }
/-- The same, with a key of all rights over a region of four extents. -/
def onK : State := { onN with addr := { regions := ⟨[(0, r0)]⟩, served := { onS.addr.served with len := 4 } }, net := { onN.net with keys := ⟨[(1, { state := 1, rights := 7, len := 4096 })]⟩ } }
/-- A tracker entry whose completion has been sent. -/
def entS : Entry := { src := 0, line := 0, dst := .cxl 0 0 0 7 false, op := .read, state := .respond, bad := false, since := 0, arr := 0, ord := none, applied := false, result := none, tag := none, sent := true, owed := false }
/-- The twin link up on one path, this message the next to apply. -/
def onW (m : TwMsg) : State := { onS with twl := { pathA := { state := .up }, cut := false, staging := ⟨[(0, { frames := ⟨[(0, [])]⟩, count := some 1, msg := some m })]⟩ } }
/-- A pair record, and a controller in SOLO that reaches the twin of that record. -/
def recW : PairRec := ⟨5, 0, 1, 7, 8⟩
def onB (m : TwMsg) : State := { onW m with mode := { mode := .solo, bringup := .served }, regs := ((onS.setFld Reg.SYS_PAIR Fld.SYS_PAIR_PAIRED 1).setFld Reg.SYS_PAIR_ID Fld.SYS_PAIR_ID_PAIR_ID 5).regs, pair := { record := some recW, twinTag := some recW.tag } }

/-- A write of home line 0 whose command has been issued, on channel 0. -/
def wrq : ChReq := { id := 1, port := 1, home := ⟨false, 0⟩, dev := 0, level := 0, since := 0, rd := none, wr := some .poison, issued := true }
def onQ : State := { onS with ch := ⟨[(0, { state := .active, wq := [wrq] })]⟩ }
/-- A move at its last line. -/
def mv : Move := { extent := 0, fromHbm := false, fromHome := 0, toHbm := true, toHome := 5, cursor := 32768, reading := false, refetch := false }
def onMv : State := { onS with tier := { moves := [mv] } }
/-- A checker test in HOLD with the unlock open. -/
def onT : State := { onS with mode := { mode := .hold, holdPurpose := 2, bringup := .served }, unlocks := { isOpen := BitVec.allOnes 5 } }
/-- A repair of row 0 of channel 0. -/
def ppr : RowRepair := { row := ⟨0, 0, 0, 0, 0, 0, 0⟩, hard := false, reply := mb 0, tag := 0 }
def onPpr : State := { onS with ec := { repair := some ppr } }

/-! ## Steps

Expected values are worked out from the rules cited. -/

theorem test_reset_canonical : State.reset.canonical = true := by decide
/-- R15: a target above the range is clamped to 850 mV, and reads back so. -/
theorem test_vcore_clamped : (ran (.pwrVcoreTargetWrite 0 900 false) onS).fld Reg.PWR_VCORE Fld.PWR_VCORE_TARGET = 850 := by decide
/-- R458: a wrong key closes the unlock and counts. -/
theorem test_wrong_key : (ran (.sysUnlockWrite 0 1) onT).unlocked 0 = false ∧ (ran (.sysUnlockWrite 0 1) onT).ctr Ctr.SYS_CNT_GUARD_REFUSED = 1 := by
  decide
/-- R512: T_RIDE_MS of 0 triggers at the first low sample. -/
theorem test_ride_zero : (ran .pfailNFall { onS with regs := ⟨[(Reg.PWR_RIDE, 0)]⟩ }).mode.reason = 5 := by decide
/-- R554: BYPASS is accepted, and its output is a single 0. -/
theorem test_bypass : (ran (.jtagInstruction .bypass) onS).out = [.jtag 0 0] := by decide
/-- R350: a packet that is ahead of its connection gets one NAK 0x60 and is discarded. -/
theorem test_ahead : ((ran (.rdmaReadRequest (pk 0x0C 7 (.read ⟨0, 1, 64⟩))) onK).conn 0).map (fun c => (c.epsn, c.nakPending)) = some (5, true) := by
  decide

/-! ## The statements' hypotheses can be met -/

theorem witness_StepRunsFront :
    (fun (s : State) (c : Instr) (rest : List Instr) => s.pending = c :: rest) { onS with pending := [.timCaptureLands] } .timCaptureLands [] ∧
    (fun (s : State) => s.pending = []) onS :=
  ⟨by decide, by decide⟩

theorem witness_EveryCommandCompletes :
    (fun (i : Instr) (s : State) => (s.pwr.aon = true → s.pwr.mfgTestN = false → i ≠ .jtagInstruction .extest ∧ i ≠ .jtagInstruction .scan)) .timCaptureLands onS ∧
    (fun (s : State) => s.pwr.aon = true ∧ s.pwr.mfgTestN = false) { onS with pwr := { onS.pwr with mfgTestN := false } } :=
  ⟨by decide, by decide⟩

theorem witness_CommandFrames :
    (∃ (i : Instr) (s t : State) (p : Part), exec i s = .next t ∧ p ∉ mayTouch i) :=
  ⟨.timCaptureLands, onS, onS, .homeLines, rfl, by decide⟩

theorem witness_HomeLineFrames :
    (∃ (inst req : Nat) (r : ChReq) (s t : State) (h : Home), (s.chan inst).wq.find? (fun r => r.id == req && r.issued) = some r ∧ exec (.writeQueueRetire inst req) s = .next t ∧ h.key ≠ r.home.key) ∧
    (∃ (x : Nat) (m : Move) (s t : State) (h : Home), s.moveOf x = some m ∧ exec (.moveComplete x) s = .next t ∧ ∀ o ∈ List.range extentLines, h.key ≠ (s.remapOf ⟨m.toHbm, m.toHome * extentLines + o⟩).key) ∧
    (∃ (leaf : Nat) (s t : State) (h : Home), exec (.leafRestoreDone leaf []) s = .next t ∧ ∀ k ∈ List.range leafLines, h.key ≠ (s.remapOf (s.homeOf (leafLines * leaf + k))).key) ∧
    (∃ (m : TwMsg) (s t : State) (h : Home), s.nextMsg 0x08 = some m ∧ exec .raResp s = .next t ∧ ∀ r ∈ m.lines, h.key ≠ (s.remapOf (s.homeOf r.line)).key) ∧
    (∃ (i : Instr) (s t : State) (h : Home), (i = .rawWrite 0 0 ∨ i = .encWrite 0 0) ∧ exec i s = .next t ∧ h.key ≠ s.testHome.key) ∧
    (∃ (p : RowRepair) (s t : State) (h : Home), s.ec.repair = some p ∧ exec (.pprDone 0) s = .next t ∧ s.inRow p.row h = false) :=
  ⟨⟨0, 1, wrq, onQ, ran (.writeQueueRetire 0 1) onQ, ⟨false, 7⟩, by decide, rfl, by decide⟩, ⟨0, mv, onMv, ran (.moveComplete 0) onMv, ⟨false, 0⟩, by decide, rfl, fun o _ => by simp [State.remapOf, onMv, onS, mv, Home.key]⟩, ⟨0, onS, onS, ⟨true, 0⟩, rfl, by decide⟩, ⟨⟨8, 9, []⟩, onW ⟨8, 9, []⟩, ran .raResp (onW ⟨8, 9, []⟩), ⟨false, 0⟩, by decide, rfl, by decide⟩, ⟨.rawWrite 0 0, onT, ran (.rawWrite 0 0) onT, ⟨true, 5⟩, .inl rfl, rfl, by decide⟩, ⟨ppr, onPpr, ran (.pprDone 0) onPpr, ⟨true, 0⟩, by decide, rfl, by decide⟩⟩

theorem witness_StepKeepsLawful :
    (∃ s t : State, s.lawful = true ∧ step s = .next t) :=
  ⟨{ onS with pending := [.timCaptureLands] }, onS, by decide, rfl⟩

theorem witness_ModeRequestResult :
    (fun (who target purpose : Nat) (s : State) => s.pwr.core = true ∧ who < 5) 0 2 0 onS ∧
    (fun (who target purpose : Nat) (s : State) => s.pwr.core = true ∧ who < 5 ∧ s.mode.transit = true) 0 2 0 { onS with mode := { onS.mode with transit := true } } ∧
    (fun (who purpose : Nat) (s : State) => s.pwr.core = true ∧ who < 5 ∧ s.mode.transit = false ∧ ((s.mode.mode = .serve ∧ purpose % 4 ≠ 3) ∨ s.mode.mode = .solo)) 0 1 onS ∧
    (fun (who purpose : Nat) (s : State) => s.pwr.core = true ∧ who < 5 ∧ s.mode.transit = false ∧ (s.mode.mode = .serve ∨ s.mode.mode = .solo ∨ s.mode.mode = .hold)) 0 0 onS :=
  ⟨by decide, by decide, by decide, by decide⟩

theorem witness_RscLanding :
    (fun (a : Nat) (w : Word) (s : State) => s.rsc.find? a = some w ∧ a ≠ Reg.SYS_MODE_REQ) Reg.PWR_VCORE 5 { onS with rsc := ⟨[(Reg.PWR_VCORE, 5)]⟩ } ∧
    (fun (w : Word) (s : State) => s.rsc.find? Reg.PWR_VCORE = some w) 700 { onS with rsc := ⟨[(Reg.PWR_VCORE, 700)]⟩ } ∧
    (fun (who target : Nat) (s : State) => s.pwr.core = true ∧ who < 5) 0 900 onS :=
  ⟨by decide, by decide, by decide⟩

theorem witness_TimebaseCommands :
    (fun (ns : Nat) (p : Pins) (s : State) => s.pwr.aon = true ∧ s.tim.locked = false ∧ s.tim.ns + 1000 < 2 ^ 64 ∧ s.tim.ticks + 1 < 2 ^ 64) 5 pinsHi onS ∧
    (fun (ns : Nat) (p : Pins) (s : State) => s.pwr.aon = true ∧ s.tim.locked = true ∧ ns < 2 ^ 64 ∧ s.tim.ns < 2 ^ 64 ∧ s.tim.ticks + 1 < 2 ^ 64) 5 pinsHi { onS with tim := { locked := true } } ∧
    (fun (ns a : Nat) (p : Pins) (s : State) => s.pwr.aon = true ∧ s.pwr.core = true ∧ a ∈ aonAddrs) 5 Reg.SYS_MODE pinsHi onS ∧
    (fun (s : State) => s.pwr.core = true) onS ∧
    (fun (d a : Nat) (s : State) => s.tim.capPending = some (d, a)) 7 8 { onS with tim := { capPending := some (7, 8) } } :=
  ⟨by decide, by decide, by decide, by decide, by decide⟩

theorem witness_LeavingHold :
    (fun (s : State) => s.mode.mode = .hold) { onS with mode := { mode := .hold } } ∧
    (fun (s : State) => s.mode.mode = .hold) { onS with mode := { mode := .hold } } ∧
    (fun (ch unit : Nat) (s : State) => s.pwr.core = true) 3 0 onS :=
  ⟨by decide, by decide, by decide⟩

theorem witness_SupplyAppliedRemoved :
    (fun (p : Pins) (mt xb : Bool) (s : State) => s.pwr.aon = false) pinsHi true false {} ∧
    (fun (p : Pins) (l : List (Word × Word)) (s : State) => s.pwr.aon = false ∧ l.length = 14) pinsHi (List.replicate 14 (0, 0)) {} ∧
    (fun (s : State) => s.pwr.aon = true) onS :=
  ⟨by decide, by decide, by decide⟩

theorem witness_PowerUpSteps :
    (fun (s : State) => s.powerGate = true ∧ tableBad s.stepRegs = false ∧ (validSteps s.stepRegs).isEmpty = false ∧ tablePg s.stepRegs &&& s.pwr.pg.toNat = 0) { regs := ⟨[(Reg.PWR_STEP_A 0, 0xC0000001)]⟩, pwr := { aon := true, seq := .off, onPending := true, pfailN := true, holdupOk := true, seqIn := true, bank := some (65535, 0) } } ∧
    (fun (s : State) => s.powerGate = true ∧ tableBad s.stepRegs = true) { regs := ⟨[(Reg.PWR_STEP_A 0, 0xC0000000)]⟩, pwr := { aon := true, seq := .off, onPending := true, pfailN := true, holdupOk := true, seqIn := true, bank := some (65535, 0) } } ∧
    (fun (pop : Option BootPop) (s : State) => s.pwr.seq = .upSeq ∧ s.pwr.crossing = none ∧ s.pwr.step + 1 < s.stepCount) none { pwr := { aon := true, seq := .upSeq, table := [(0xC0000001, 0), (0x80000002, 0)], started := 1 }, mode := { bringup := .sequencing } } ∧
    (fun (s : State) => s.pwr.seq = .upSeq ∧ s.pwr.crossing = none ∧ s.mode.mode = .standby) { pwr := { aon := true, seq := .upSeq, table := [(0xC0000001, 0), (0x80000002, 0)], started := 1 }, mode := { bringup := .sequencing } } :=
  ⟨by decide, by decide, by decide, by decide⟩

theorem witness_BringupEnds :
    (fun (s : State) => s.mode.bringup = .boot ∧ s.pwr.core = true ∧ s.cmd.active.isNone = false ∧ (s.channelsTrained.enterRestore).highestRegion ≤ s.addr.served.len ∧ s.vaultShort = false ∧ s.fld Reg.TWL_CTL Fld.TWL_CTL_ENABLE = 1) { pwr := { aon := true, core := true }, mode := { bringup := .boot }, cmd := { active := some 0 }, addr := {} } ∧
    (fun (s : State) => s.mode.bringup = .rebuild ∧ s.mode.mode = .restore ∧ s.vlt.loaded = false ∧ s.linkUp = false) { pwr := { aon := true, core := true }, mode := { mode := .restore, bringup := .rebuild } } ∧
    (fun (cause : Nat) (s : State) => s.mode.bringup = .boot ∧ s.mode.mode = .standby ∧ s.sht.frames = []) 3 { pwr := { aon := true, core := true, seq := .up }, mode := { bringup := .boot } } :=
  ⟨by decide, by decide, by decide⟩

theorem witness_RunningRails :
    (fun (bit ns k : Nat) (s : State) => s.pwr.seq = .up ∧ s.stepOfBit bit = some k ∧ ns ≤ 2000) 0 500 0 { onS with pwr := { onS.pwr with qualified := 1, table := [(0xC0000001, 0)] } } ∧
    (fun (bit ns k : Nat) (s : State) => s.pwr.seq = .up ∧ s.pwr.core = true ∧ s.mode.mode = .serve ∧ s.mode.bringup = .served ∧ s.stepOfBit bit = some k ∧ 2000 < ns ∧ (s.stepA k).field 27 27 = 0) 0 5000 0 { onS with pwr := { onS.pwr with qualified := 1, table := [(0xC0000001, 0)] } } ∧
    (fun (s : State) => s.pwr.seq = .up ∧ s.mode.mode = .serve ∧ s.mode.bringup = .served ∧ s.fld Reg.PWR_SEQ Fld.PWR_SEQ_IN_GATE ≠ 0) { onS with regs := ⟨[(Reg.PWR_SEQ, BitVec.allOnes 32)]⟩ } :=
  ⟨by decide, by decide, by decide⟩

theorem witness_PowerDownSteps :
    (fun (c : Nat) (l : List Nat) (s : State) => s.pwr.seq = .downSeq ∧ s.pwr.downHold = true ∧ s.pwr.downChains = c :: l) 0 [] { onS with pwr := { onS.pwr with seq := .downSeq, downHold := true, downChains := [0] } } ∧
    (fun (c : Nat) (s : State) => s.pwr.seq = .downSeq ∧ s.pwr.downHold = false ∧ s.pwr.downChains = [c]) 0 { onS with pwr := { onS.pwr with seq := .downSeq, downChains := [0] } } ∧
    (fun (k c : Nat) (l : List Nat) (s : State) => s.pwr.seq = .downSeq ∧ s.pwr.downHold = false ∧ s.pwr.downChains = c :: l ∧ k < s.pwr.started ∧ s.stepChain k = c ∧ k ∉ s.pwr.stuck) 0 0 [] { onS with pwr := { onS.pwr with seq := .downSeq, downChains := [0], started := 1, table := [(0xC0000001, 0)] } } ∧
    (fun (s : State) => s.pwr.seq = .offWait) { onS with pwr := { onS.pwr with seq := .offWait } } :=
  ⟨by decide, by decide, by decide, by decide⟩

theorem witness_RideAndBank :
    (fun (s : State) => s.pwr.aon = true ∧ s.mode.mode = .serve ∧ s.fld Reg.PWR_RIDE Fld.PWR_RIDE_T_RIDE_MS ≠ 0) { onS with regs := ⟨[(Reg.PWR_RIDE, BitVec.allOnes 32)]⟩ } ∧
    (fun (s : State) => s.pwr.aon = true ∧ s.mode.mode = .serve ∧ s.fld Reg.PWR_RIDE Fld.PWR_RIDE_T_RIDE_MS = 0) { onS with regs := ⟨[(Reg.PWR_RIDE, 0)]⟩ } ∧
    (fun (s : State) => s.pwr.aon = true) onS ∧
    (fun (s : State) => s.pwr.pfailN = true ∧ s.pwr.riding = true ∧ s.mode.mode ≠ .preserve) { onS with pwr := { onS.pwr with riding := true } } ∧
    (fun (s : State) => s.pwr.pfailN = false ∧ s.pwr.riding = true ∧ s.mode.mode = .solo) { onS with pwr := { onS.pwr with riding := true, pfailN := false }, mode := { mode := .solo } } ∧
    (fun (e : Nat) (s : State) => s.pwr.aon = true ∧ s.sb2.state ≠ .failed ∧ s.energy s.needMs ≤ e % 65536) 65535 onS ∧
    (fun (s : State) => s.pwr.aon = true ∧ s.sb2.state ≠ .failed) onS ∧
    (fun (s : State) => s.pwr.aon = true ∧ s.pwr.core = true ∧ s.pwr.bankStale = false ∧ s.mode.mode = .serve) onS ∧
    (fun (s : State) => s.pwr.aon = true ∧ s.pwr.core = true ∧ s.mode.mode = .solo) { onS with mode := { mode := .solo } } :=
  ⟨by decide, by decide, by decide, by decide, by decide, by decide, by decide, by decide, by decide⟩

theorem witness_CoreSupplyHeatReset :
    (fun (v : Nat) (s : State) => s.pwr.vcoreCmd = some v ∧ s.pwr.core = true ∧ v ≠ s.vcoreTarget) 700 { onS with pwr := { onS.pwr with vcoreCmd := some 700 } } ∧
    (fun (mv : Nat) (s : State) => s.pwr.aon = true ∧ s.pwr.vcoreCmd.isSome = true ∧ s.sb1.state ≠ .failed) 750 { onS with pwr := { onS.pwr with vcoreCmd := some 700 } } ∧
    (fun (s : State) => s.pwr.aon = true ∧ s.pwr.seq = .up ∧ s.mode.mode = .serve) onS ∧
    (fun (s : State) => s.pwr.aon = true ∧ s.pwr.seq = .off) { pwr := { aon := true, seq := .off } } ∧
    (fun (c : Nat) (s : State) => s.pwr.aon = true ∧ s.pwr.core = true ∧ 115 ≤ c ∧ s.mode.mode = .serve ∧ s.pwr.seq = .up) 120 onS ∧
    (fun (c : Nat) (s : State) => s.pwr.aon = true) 103 onS :=
  ⟨by decide, by decide, by decide, by decide, by decide, by decide⟩

theorem witness_PackagePort :
    (fun (s : State) => s.pwr.aon = true) onS ∧
    (fun (s : State) => s.pwr.aon = true) onS ∧
    (fun (b : BitVec 64) (s : State) => s.pwr.aon = true) 5 onS ∧
    (fun (s : State) => s.pwr.aon = true ∧ s.pwr.mfgTestN = true) onS ∧
    (fun (s : State) => s.pwr.aon = true ∧ s.pwr.mfgTestN = false) { onS with pwr := { onS.pwr with mfgTestN := false } } ∧
    (fun (s : State) => s.pwr.core = false) {} ∧
    (fun (s : State) => s.pwr.core = true ∧ s.mode.mode = .serve) onS ∧
    (fun (s : State) => s.pwr.core = true) onS ∧
    (fun (s : State) => s.pwr.core = false ∧ s.pwr.aon = true ∧ s.tim.locked = false) { pwr := { aon := true } } ∧
    (fun (s : State) => s.pwr.core = true) onS :=
  ⟨by decide, by decide, by decide, by decide, by decide, by decide, by decide, by decide, by decide, by decide⟩

theorem witness_SidebandTransfers :
    (fun (who n : Nat) (cmd : Word) (s : State) => s.pwr.core = true ∧ who < 5 ∧ s.sbLive n = true ∧ (cmd.field 11 8 ≠ 0 ∨ cmd.field 15 12 ≠ 0) ∧ (s.sb n).state = .idle) 0 1 0x0109 onS ∧
    (fun (n : Nat) (r : SbReq) (s : State) => s.sbLive n = true ∧ (s.sb n).cur = some r ∧ r.supervisor = false ∧ (s.sb n).queue = [] ∧ r.rlen = 0) 1 ⟨false, 9, [1], 0, 0⟩ { onS with sb1 := { state := .active, cur := some ⟨false, 9, [1], 0, 0⟩ } } ∧
    (fun (n : Nat) (r : SbReq) (s : State) => s.sbLive n = true ∧ s.pwr.core = true ∧ (s.sb n).cur = some r) 1 ⟨false, 9, [1], 0, 0⟩ { onS with sb1 := { state := .active, cur := some ⟨false, 9, [1], 0, 0⟩ } } ∧
    (fun (n k : Nat) (r : SbReq) (s : State) => s.sbLive n = true ∧ (s.sb n).cur = some r ∧ (s.sb n).queue = []) 1 3 ⟨false, 9, [1], 0, 0⟩ { onS with sb1 := { state := .active, cur := some ⟨false, 9, [1], 0, 0⟩ } } ∧
    (fun (n k : Nat) (s : State) => s.sbLive n = true ∧ (s.sb n).state = .failed) 1 3 { onS with sb1 := { state := .failed } } ∧
    (fun (n : Nat) (s : State) => s.sbLive n = true ∧ (s.sb n).state = .failed) 1 { onS with sb1 := { state := .failed } } ∧
    (fun (n : Nat) (r : SbReq) (s : State) => s.sbLive n = true ∧ (s.sb n).cur = some r ∧ r.retry < s.sbRetries n) 1 ⟨false, 9, [1], 0, 0⟩ { onS with regs := ⟨[(Reg.SB_CTL 6, BitVec.allOnes 32)]⟩, sb1 := { state := .active, cur := some ⟨false, 9, [1], 0, 0⟩ } } ∧
    (fun (n : Nat) (r : SbReq) (s : State) => s.sbLive n = true ∧ (s.sb n).cur = some r ∧ r.retry < s.sbRetries n) 1 ⟨false, 9, [1], 0, 0⟩ { onS with regs := ⟨[(Reg.SB_CTL 6, BitVec.allOnes 32)]⟩, sb1 := { state := .active, cur := some ⟨false, 9, [1], 0, 0⟩ } } :=
  ⟨by decide, by decide, by decide, by decide, by decide, by decide, by decide, by decide⟩

theorem witness_HostNotify :
    (fun (n who d : Nat) (s : State) => s.sbLive n = true ∧ s.fld (Reg.SB_CTL (sbPage n)) Fld.SB_CTL_HN_EN = 1 ∧ n ≠ 3 ∧ (s.sb n).notify = none) 1 9 5 { onS with regs := ⟨[(Reg.SB_CTL 6, BitVec.allOnes 32)]⟩ } ∧
    (fun (n who d : Nat) (s : State) => s.sbLive n = true ∧ s.fld (Reg.SB_CTL (sbPage n)) Fld.SB_CTL_HN_EN = 1 ∧ n ≠ 3 ∧ (s.sb n).notify.isSome = true) 1 9 5 { onS with regs := ⟨[(Reg.SB_CTL 6, BitVec.allOnes 32)]⟩, sb1 := { notify := some (1, 2) } } ∧
    (fun (s : State) => s.pwr.aon = true ∧ s.fld (Reg.SB_CTL (sbPage 3)) Fld.SB_CTL_HN_EN = 1 ∧ s.mode.mode = .serve ∧ s.fld Reg.PWR_CTL Fld.PWR_CTL_MGMT_ADDR < 128) { onS with regs := ⟨[(Reg.SB_CTL 8, BitVec.allOnes 32)]⟩ } :=
  ⟨by decide, by decide, by decide⟩

theorem witness_QueriesAnswer :
    (fun (m : Mbx) (inp : List Word) (s : State) => s.takes m ⟨0xC800, true, false, false, true⟩ = true ∧ m.len = 0) (mb 0) [] onM ∧
    (fun (m : Mbx) (inp : List Word) (s : State) => s.takes m ⟨0xC802, true, false, false, true⟩ = true ∧ m.len = 0) (mb 0) [] onM ∧
    (fun (m : Mbx) (inp : List Word) (s : State) => s.takes m ⟨0xC900, true, false, false, true⟩ = true ∧ m.len = 0) (mb 0) [] onM ∧
    (fun (m : Mbx) (inp : List Word) (s : State) => s.takes m (.read 0xC901) = true ∧ m.len = 0) (mb 0) [] onM ∧
    (fun (m : Mbx) (inp : List Word) (s : State) => s.takes m ⟨0xC201, true, false, false, true⟩ = true ∧ m.len = 4) (mb 4) [] onM ∧
    (fun (m : Mbx) (inp : List Word) (s : State) => s.takes m ⟨0xC212, true, false, false, true⟩ = true ∧ m.len = 4 ∧ s.limitedTo m = none ∧ (s.tier.scheds.find? ((wordAt inp 0).field 9 0)).isSome = true) (mb 4) [] { onM with tier := { scheds := ⟨[(0, { lead := 1, loop := false, doorbell := 0, subst := 0, steps := [], runs := [], step := 0, late := false, blocked := false, fresh := true, triggers := 0, lates := 0, since := 0 })]⟩ } } ∧
    (fun (m : Mbx) (inp : List Word) (s : State) => s.takes m ⟨0xC220, false, false, false, false⟩ = true ∧ m.len = 4 ∧ (wordAt inp 0).field 22 0 < s.addr.served.len) (mb 4) [] { onM with addr := { served := { onM.addr.served with len := 1 } } } ∧
    (fun (m : Mbx) (inp : List Word) (s : State) => s.takes m ⟨0xC300, true, false, false, true⟩ = true ∧ m.len = 0) (mb 0) [] onM ∧
    (fun (m : Mbx) (inp : List Word) (s : State) => s.takes m ⟨0xC304, false, false, false, false⟩ = true ∧ m.len = 0) (mb 0) [] onM ∧
    (fun (m : Mbx) (inp : List Word) (s : State) => s.takes m ⟨0xC400, false, false, false, true⟩ = true ∧ m.len = 0) (mb 0) [] onM ∧
    (fun (m : Mbx) (inp : List Word) (s : State) => s.takes m ⟨0xC100, true, false, false, true⟩ = true ∧ m.len = 0) (mb 0) [] onM ∧
    (fun (m : Mbx) (inp : List Word) (s : State) => s.takes m ⟨0xC103, true, false, false, true⟩ = true ∧ m.len = 0) (mb 0) [] onM ∧
    (fun (m : Mbx) (inp : List Word) (s : State) => s.takes m ⟨0xC500, true, false, false, true⟩ = true ∧ m.len = 0) (mb 0) [] onM ∧
    (fun (m : Mbx) (inp : List Word) (s : State) => s.takes m ⟨0xC510, false, false, false, false⟩ = true ∧ m.len = 0) (mb 0) [] onM ∧
    (fun (m : Mbx) (inp : List Word) (s : State) => s.takes m ⟨0xC603, false, false, false, true⟩ = true ∧ m.len = 0) (mb 0) [] onM ∧
    (fun (m : Mbx) (inp : List Word) (s : State) => s.takes m (.read 0xC005) = true ∧ m.len = 4) (mb 4) [] onM ∧
    (fun (m : Mbx) (inp : List Word) (s : State) => s.takes m (.read 0xC000) = true ∧ m.len = 0) (mb 0) [] onM ∧
    (fun (m : Mbx) (inp : List Word) (s : State) => s.takes m ⟨0xC913, false, false, false, false⟩ = true ∧ m.len = 4) (mb 4) [] onM ∧
    (fun (m : Mbx) (inp : List Word) (i : Nat) (s : State) => s.takes m ⟨0xC532, false, false, false, false⟩ = true ∧ m.len = 4 ∧ instOfInput inp = some i) (mb 4) [] 0 onM ∧
    (fun (m : Mbx) (inp : List Word) (i : Nat) (s : State) => s.takes m ⟨0xC530, false, false, false, false⟩ = true ∧ m.len = 4 ∧ instOfInput inp = some i) (mb 4) [] 0 onM ∧
    (fun (m : Mbx) (inp : List Word) (i : Nat) (s : State) => s.takes m ⟨0xC534, false, false, false, false⟩ = true ∧ m.len = 4 ∧ instOfInput inp = some i) (mb 4) [] 0 onM ∧
    (fun (m : Mbx) (inp : List Word) (s : State) => s.takes m ⟨0xC303, false, false, false, false⟩ = true ∧ m.len = 8 ∧ wordAt inp 1 = 0) (mb 8) [] onM ∧
    (fun (m : Mbx) (inp : List Word) (s : State) => s.takes m (.read 0xC412) = true ∧ m.len = 8) (mb 8) [] onM ∧
    (fun (m : Mbx) (inp : List Word) (s : State) => s.takes m (.read 0xC403) = true ∧ m.len = 8) (mb 8) [] onM ∧
    (fun (m : Mbx) (inp : List Word) (s : State) => s.takes m ⟨0xC502, false, false, false, false⟩ = true ∧ m.len = 4) (mb 4) [] onM ∧
    (fun (m : Mbx) (inp : List Word) (s : State) => s.takes m ⟨0xC602, false, false, false, false⟩ = true ∧ m.len = 0) (mb 0) [] onM ∧
    (fun (m : Mbx) (log : Nat) (s : State) => s.takes m (.all 0x0100) = true ∧ log < 4) (mb 0) 0 onM ∧
    (fun (m : Mbx) (s : State) => s.takes m (.all 0x0102) = true) (mb 0) onM ∧
    (fun (m : Mbx) (s : State) => s.takes m (.priv 0x0200) = true) (mb 0) onM ∧
    (fun (m : Mbx) (s : State) => s.takes m (.all 0x0300) = true) (mb 0) onM ∧
    (fun (m : Mbx) (s : State) => s.takes m (.all 0x0400) = true) (mb 0) onM ∧
    (fun (m : Mbx) (offset length : Nat) (s : State) => s.takes m (.all 0x0401) = true ∧ offset % 4 = 0 ∧ length % 4 = 0 ∧ offset + length ≤ 4 * (s.cel m).length) (mb 0) 4 8 onM ∧
    (fun (m : Mbx) (s : State) => s.takes m (.all 0x4000) = true) (mb 0) onM ∧
    (fun (m : Mbx) (s : State) => s.takes m (.all 0x4100) = true) (mb 0) onM ∧
    (fun (m : Mbx) (s : State) => s.takes m (.all 0x4201) = true) (mb 0) onM ∧
    (fun (m : Mbx) (s : State) => s.takes m (.all 0x4203) = true) (mb 0) onM ∧
    (fun (m : Mbx) (dirty : Bool) (s : State) => s.takes m (.priv 0x4204) = true) (mb 0) true onM ∧
    (fun (m : Mbx) (dpa length : Nat) (s : State) => s.takes m (.all 0x4300) = true) (mb 0) 0 1 onM ∧
    (fun (m : Mbx) (s : State) => s.takes m (.all 0x4303) = true) (mb 0) onM ∧
    (fun (m : Mbx) (l : List Nat) (s : State) => s.takes m (.all 0x4305) = true ∧ (s.func m.fn).scan = some l) (mb 0) [] { onM with cxl := { onM.cxl with funcs := ⟨[(0, { scan := some [] })]⟩ } } ∧
    (fun (m : Mbx) (s : State) => s.takes m ⟨0x5400, false, false, false, false⟩ = true ∧ 32 ≤ m.fn) ((fun n => ⟨0x20, false, n⟩) 0) onF ∧
    (fun (m : Mbx) (start limit : Nat) (s : State) => s.takes m ⟨0x5401, false, false, false, false⟩ = true ∧ 32 ≤ m.fn) ((fun n => ⟨0x20, false, n⟩) 0) 0 4 onF ∧
    (fun (m : Mbx) (opcode : Nat) (s : State) => s.takes m (.all opcode) = true ∧ ((stdOps ++ tilmaOps).all (fun c => c.1 != opcode) = true) ∧ opcode ∉ fmOps) (mb 0) 0xBEEF onM :=
  ⟨by decide, by decide, by decide, by decide, by decide, by decide, by decide, by decide, by decide, by decide, by decide, by decide, by decide, by decide, by decide, by decide, by decide, by decide, by decide, by decide, by decide, by decide, by decide, by decide, by decide, by decide, by decide, by decide, by decide, by decide, by decide, by decide, by decide, by decide, by decide, by decide, by decide, by decide, by decide, by decide, by decide, by decide, by decide⟩

theorem witness_StandardSettings :
    (fun (m : Mbx) (log count : Nat) (s : State) => s.takes m (.all 0x0101) = true ∧ log < 4 ∧ count ≤ ((s.func m.fn).log log).recs.length) (mb 0) 1 0 onM ∧
    (fun (m : Mbx) (vectors : List (Option Nat)) (s : State) => s.takes m (.all 0x0103) = true ∧ vectors.length = 4 ∧ (∀ v ∈ vectors, v.all (fun n => decide (2 ≤ n) && decide (n ≤ 63)) = true)) (mb 0) [none, some 2, some 63, none] onM ∧
    (fun (m : Mbx) (ns : Nat) (s : State) => s.takes m (.priv 0x0301) = true) (mb 0) 5 onM ∧
    (fun (m : Mbx) (life temp : Nat) (s : State) => s.takes m (.priv 0x4202) = true) (mb 0) 80 90 onM ∧
    (fun (m : Mbx) (s : State) => s.takes m (.all 0x4200) = true) (mb 0) onM ∧
    (fun (m : Mbx) (spans : List (Nat × Nat)) (s : State) => s.takes m ⟨0x5402, false, false, false, false⟩ = true ∧ 32 ≤ m.fn ∧ (spans.all (fun c => decide (c.1 < 16) && s.spanOk (16 * (m.fn - 32) + c.1) c.2) = true)) ⟨0x20, false, 0⟩ [(0, 4)] onF :=
  ⟨by decide, by decide, by decide, by decide, by decide, by decide⟩

theorem witness_PoisonAndScans :
    (fun (m : Mbx) (dpa line : Nat) (s : State) => s.takes m (.priv 0x4301) = true ∧ s.mode.mode = .hold ∧ s.mode.holdPurpose = 2 ∧ dpa % 64 = 0 ∧ s.mbxLine m dpa false = some line) (mb 0) 0 0 { onR with mode := { mode := .hold, holdPurpose := 2, bringup := .served } } ∧
    (fun (m : Mbx) (dpa line : Nat) (data : Line) (s : State) => s.takes m (.all 0x4302) = true ∧ dpa % 64 = 0 ∧ s.mbxLine m dpa true = some line) (mb 0) 0 0 5 onR ∧
    (fun (m : Mbx) (dpa length : Nat) (s : State) => s.takes m (.all 0x4304) = true ∧ s.inBackground m = false ∧ dpa % 64 = 0 ∧ length ≠ 0 ∧ ((List.range length).all (fun k => (s.mbxLine m (dpa + 64 * k) false).isSome) = true)) (mb 0) 0 1 onR ∧
    (fun (fn : Nat) (secondary : Bool) (j : Job) (rc ext : Nat) (out : List Word) (s : State) => (s.cmd.jobs.find? (fun j => j.mbx.fn == fn && j.mbx.secondary == secondary && j.background && j.done.isSome) = some j) ∧ j.done = some (rc, ext, out)) 0 false ⟨mb 0, 0x4304, 0, false, true, false, false, some (0, 0, [])⟩ 0 0 [] { onM with cmd := { jobs := [⟨mb 0, 0x4304, 0, false, true, false, false, some (0, 0, [])⟩] } } :=
  ⟨by decide, by decide, by decide, by decide⟩

theorem witness_FirmwareTransferAndActivation :
    (fun (m : Mbx) (slot : Nat) (data : List (BitVec 256)) (s : State) => s.takes m (.priv 0x0201) = true ∧ s.cmd.transfer = none ∧ (slot = 1 ∨ slot = 2) ∧ s.cmd.active ≠ some (slot - 1) ∧ (if slot = 1 then s.fls.protA else s.fls.protB) &&& 0xFFFF = 0) (mb 0) 1 [] onM ∧
    (fun (m : Mbx) (slot : Nat) (data : List (BitVec 256)) (s : State) => s.takes m (.priv 0x0201) = true ∧ s.cmd.transfer = none ∧ (slot = 1 ∨ slot = 2) ∧ s.cmd.active ≠ some (slot - 1) ∧ (if slot = 1 then s.fls.protA else s.fls.protB) &&& 0xFFFF = 0) (mb 0) 1 [] onM ∧
    (fun (m : Mbx) (slot k n : Nat) (data : List (BitVec 256)) (s : State) => s.takes m (.priv 0x0201) = true ∧ s.cmd.transfer = some ⟨m.fn, m.secondary, k, n⟩) (mb 0) 1 0 8 [] { onM with cmd := { transfer := some ⟨0, false, 0, 8⟩ } } ∧
    (fun (m : Mbx) (slot k n : Nat) (data : List (BitVec 256)) (s : State) => s.takes m (.priv 0x0201) = true ∧ s.cmd.transfer = some ⟨m.fn, m.secondary, k, n⟩) (mb 0) 1 0 8 [] { onM with cmd := { transfer := some ⟨0, false, 0, 8⟩ } } ∧
    (fun (m : Mbx) (slot offset k n : Nat) (data : List (BitVec 256)) (s : State) => s.takes m (.priv 0x0201) = true ∧ s.cmd.transfer = some ⟨m.fn, m.secondary, k, n⟩) (mb 0) 1 0 0 8 [] { onM with cmd := { transfer := some ⟨0, false, 0, 8⟩ } } ∧
    (fun (m : Mbx) (slot : Nat) (s : State) => s.takes m (.priv 0x0202) = true ∧ (slot = 1 ∨ slot = 2)) (mb 0) 1 onM ∧
    (fun (m : Mbx) (slot a : Nat) (s : State) => s.takes m (.priv 0x0202) = true ∧ (slot = 1 ∨ slot = 2) ∧ s.mode.mode = .solo ∧ s.cmd.active = some a ∧ a ≠ slot - 1 ∧ s.cmd.activate = none ∧ s.slotField (slot - 1) 12 2 = s.slotField a 12 2 ∧ s.mode.transit = false ∧ s.inBackground m = false) (mb 0) 2 0 { onM with mode := { mode := .solo, bringup := .served }, cmd := { active := some 0 } } ∧
    (fun (a : FwActivate) (s : State) => s.cmd.activate = some a) ⟨mb 0, 0, 1, 2, 0, false⟩ { onM with cmd := { activate := some ⟨mb 0, 0, 1, 2, 0, false⟩ } } ∧
    (fun (a : FwActivate) (s : State) => s.cmd.activate = some a) ⟨mb 0, 0, 1, 2, 0, false⟩ { onM with cmd := { activate := some ⟨mb 0, 0, 1, 2, 0, false⟩ } } :=
  ⟨by decide, by decide, by decide, by decide, by decide, by decide, by decide, by decide, by decide⟩

theorem witness_TenantsSchedulesAndCache :
    (fun (m : Mbx) (inp : List Word) (c : Nat) (s : State) => s.takes m ⟨0xC200, false, true, false, false⟩ = true ∧ m.len = 16 ∧ (wordAt inp 0).field 31 12 = 0 ∧ wordAt inp 3 = 0 ∧ (wordAt inp 1).toNat ≤ c ∧ c = (if (wordAt inp 2).toNat = 0 then s.tier.hbmTotal else (wordAt inp 2).toNat) ∧ s.floors - (s.tenant ((wordAt inp 0).field 11 0)).floor + (wordAt inp 1).toNat ≤ s.tier.hbmTotal ∧ pinHbm s.addr.regions.values ((wordAt inp 0).field 11 0) ≤ c) (mb 16) [] 0 onM ∧
    (fun (m : Mbx) (inp : List Word) (c : Sched) (s : State) => s.takes m ⟨0xC211, true, true, false, false⟩ = true ∧ m.len = 4 ∧ s.limitedTo m = none ∧ s.tier.scheds.find? ((wordAt inp 0).field 9 0) = some c) (mb 4) [] { lead := 1, loop := false, doorbell := 0, subst := 0, steps := [], runs := [], step := 0, late := false, blocked := false, fresh := true, triggers := 0, lates := 0, since := 0 } { onM with tier := { scheds := ⟨[(0, { lead := 1, loop := false, doorbell := 0, subst := 0, steps := [], runs := [], step := 0, late := false, blocked := false, fresh := true, triggers := 0, lates := 0, since := 0 })]⟩ } } ∧
    (fun (m : Mbx) (inp : List Word) (op cls first last : Nat) (s : State) => s.takes m ⟨0xC020, true, false, false, false⟩ = true ∧ m.len = 24 ∧ s.limitedTo m = none ∧ parseCacheOp inp = some (op, cls, first, last) ∧ op ≠ 5 ∧ last < 2 ^ 44 ∧ last + 1 - first ≤ 64 * 16384 ∧ s.opBusy = false) (mb 24) [1, 0, 0, 0, 63, 0] 1 0 0 63 onM ∧
    (fun (m : Mbx) (inp : List Word) (op cls first last : Nat) (s : State) => s.takes m ⟨0xC020, true, false, false, false⟩ = true ∧ m.len = 24 ∧ s.limitedTo m = none ∧ parseCacheOp inp = some (op, cls, first, last) ∧ op ≠ 5 ∧ last < 2 ^ 44 ∧ 64 * 16384 < last + 1 - first ∧ s.inBackground m = false) (mb 24) [1, 0, 0, 0, 0x001FFFFF, 0] 1 0 0 0x1FFFFF onM ∧
    (fun (m : Mbx) (inp : List Word) (cls first last : Nat) (s : State) => s.takes m ⟨0xC020, true, false, false, false⟩ = true ∧ m.len = 24 ∧ s.privileged m = true ∧ parseCacheOp inp = some (5, cls, first, last) ∧ last < 2 ^ 44 ∧ last + 1 - first ≤ 64 * 16384 ∧ s.discardAllowed = true ∧ s.unlocked (requesterOf (s.linkOf m.fn).1 (s.linkOf m.fn).2) = true ∧ s.opBusy = true) (mb 24) [5, 0, 0, 0, 63, 0] 0 0 63 { onM with mode := { mode := .hold, holdPurpose := 2, bringup := .served }, unlocks := { isOpen := BitVec.allOnes 5 }, addr := { fences := [⟨0, false, 9, 0, false⟩] } } ∧
    (fun (m : Mbx) (inp : List Word) (s : State) => s.takes m ⟨0xC210, true, true, false, false⟩ = true ∧ m.len = 32 + 8 * (wordAt inp 1).toNat + 8 * (wordAt inp 2).toNat ∧ m.len ≤ 163872 ∧ s.limitedTo m = none ∧ ((wordAt inp 0).field 15 10 = 0 ∧ (wordAt inp 0).field 23 21 = 0 ∧ (wordAt inp 0).field 31 25 = 0 ∧ wordAt inp 3 = 0 ∧ (wordAt inp 6).field 31 24 = 0) ∧ (1 ≤ (wordAt inp 0).field 20 16 ∧ (wordAt inp 0).field 20 16 ≤ 16) ∧ (1 ≤ (wordAt inp 1).toNat ∧ (wordAt inp 1).toNat ≤ 4096) ∧ (1 ≤ (wordAt inp 2).toNat ∧ (wordAt inp 2).toNat ≤ 16384) ∧ (wide inp 4 % 64 = 0 ∧ wide inp 4 < 2 ^ 44) ∧ s.tier.scheds.has ((wordAt inp 0).field 9 0) = false ∧ s.tier.scheds.size < 1024 ∧ (sumL (s.tier.scheds.values.map (fun c => c.runs.length)) + (wordAt inp 2).toNat ≤ 262144) ∧ (∀ st ∈ schedSteps inp (wordAt inp 1).toNat, 1 ≤ st.count ∧ st.count ≤ 16384 ∧ st.firstRun + st.count ≤ (wordAt inp 2).toNat) ∧ (∀ r ∈ schedRuns inp (wordAt inp 1).toNat (wordAt inp 2).toNat, r.2 ≠ 0 ∧ ∀ k ∈ List.range r.2, ((s.regionOf (k + r.1)).map (fun q => q.2.tier != 2)) = some true) ∧ s.doorbellOf (wide inp 4 / 64) = none) (mb 48) [0x00010000, 1, 1, 0, 0, 0, 0, 0, 0, 0x00010000, 0, 0x00010001] { onM with addr := { regions := ⟨[(0, { id := 0, tenant := 0, base := 0, len := 4, bounded := false, lag := 0, affinity := 0, drop := false, shareable := false, vzone := 0, tier := 0, keySlot := 0, ownerLd := 0, ldWrite := true, noLd := false, dpaBase := 0 })]⟩ } } :=
  ⟨by decide, by decide, by decide, by decide, by decide, by decide⟩

theorem witness_VaultCommands :
    (fun (m : Mbx) (inp : List Word) (s : State) => s.takes m ⟨0xC301, false, true, false, false⟩ = true ∧ m.len = 0 ∧ s.mode.mode = .hold ∧ s.mode.holdPurpose = 2) (mb 0) [] { onM with mode := { mode := .hold, holdPurpose := 2, bringup := .served } } ∧
    (fun (m : Mbx) (inp : List Word) (s : State) => s.takes m ⟨0xC302, false, true, false, false⟩ = true ∧ m.len = 4 ∧ (wordAt inp 0).field 7 3 = 0 ∧ (wordAt inp 0).field 31 11 = 0 ∧ (wordAt inp 0).field 10 8 ≤ 4) (mb 4) [] onM ∧
    (fun (m : Mbx) (inp : List Word) (s : State) => s.takes m ⟨0xC305, false, false, false, false⟩ = true ∧ m.len = 0 ∧ s.formatted = true ∧ s.vlt.formatting = false) (mb 0) [] { onM with vlt := { nand := { supA := some ⟨1, 0, 0, 0, (0, 0, 0, 0), [], 0, 0⟩ } } } :=
  ⟨by decide, by decide, by decide⟩

theorem witness_EngineCommands :
    (fun (m : Mbx) (inp : List Word) (k : Mark) (s : State) => s.takes m ⟨0xC533, false, true, false, false⟩ = true ∧ m.len = 4 ∧ k = ⟨(wordAt inp 0).field 5 0, (wordAt inp 0).field 6 6, (wordAt inp 0).field 15 8, (wordAt inp 0).field 23 16⟩ ∧ (wordAt inp 0).field 31 24 = 0 ∧ k.inst < 48 ∧ (wordAt inp 0).field 7 7 = 0 ∧ s.ec.marks.any k.same = false ∧ k.dev < s.deviceCount k.inst) (mb 4) [] ⟨0, 0, 0, 0⟩ onM ∧
    (fun (m : Mbx) (inp : List Word) (k : Mark) (s : State) => s.takes m ⟨0xC533, false, true, false, false⟩ = true ∧ m.len = 4 ∧ (wordAt inp 0).field 31 24 = 0 ∧ (wordAt inp 0).field 5 0 < 48 ∧ (wordAt inp 0).field 7 7 = 1 ∧ s.ec.marks.find? (Mark.same ⟨(wordAt inp 0).field 5 0, (wordAt inp 0).field 6 6, (wordAt inp 0).field 15 8, (wordAt inp 0).field 23 16⟩) = some k) (mb 4) [0x80] ⟨0, 0, 0, 0⟩ { onM with ec := { marks := [⟨0, 0, 0, 0⟩] } } ∧
    (fun (m : Mbx) (inp : List Word) (r : RepairedRow) (hard : Bool) (s : State) => s.takes m ⟨0xC531, false, true, false, false⟩ = true ∧ m.len = 16 ∧ parseRow inp = some (r, hard) ∧ ((wordAt inp 0).field 7 7 == 1) = hard ∧ (hard = true → s.inBackground m = false ∧ s.mode.mode = .hold ∧ s.mode.holdPurpose = 2) ∧ (s.chan r.inst).state = .frozen ∧ s.ec.repair = none ∧ (r.inst < 16 → r.dev < s.deviceCount r.inst)) (mb 16) [] ⟨0, 0, 0, 0, 0, 0, 0⟩ false { onM with ch := ⟨[(0, { state := .frozen })]⟩ } :=
  ⟨by decide, by decide, by decide⟩

theorem witness_TestsFramesAndLog :
    (fun (m : Mbx) (inp : List Word) (s : State) => s.takes m ⟨0xC503, false, true, false, false⟩ = true ∧ m.len = 16 ∧ s.inBackground m = false ∧ s.mode.mode = .hold ∧ s.mode.holdPurpose = 2 ∧ (wordAt inp 1).field 31 3 = 0 ∧ testFits ((wordAt inp 1).field 2 0) (unitKind (wordAt inp 0).toNat) = true ∧ (s.flt.slots.values.any (fun f => f.unit == (wordAt inp 0).toNat) = false)) (mb 16) [w32 (unitId 1 0)] { onM with mode := { mode := .hold, holdPurpose := 2, bringup := .served } } ∧
    (fun (m : Mbx) (inp : List Word) (s : State) => s.takes m ⟨0xC600, false, true, false, false⟩ = true ∧ m.len = 4 ∧ s.commitCause (wordAt inp 0) = none) (mb 4) [1] onM ∧
    (fun (m : Mbx) (inp : List Word) (f : Frame) (s : State) => s.takes m ⟨0xC601, false, true, false, false⟩ = true ∧ m.len = 4 ∧ (wordAt inp 0).field 31 2 = 0 ∧ (wordAt inp 0).field 1 0 ≠ 0 ∧ s.mode.mode ≠ .preserve ∧ s.shtBusy = false ∧ ((((s.sht.live.take 4).dropWhile (fun f => f.num != s.sht.inForce)).drop ((wordAt inp 0).field 1 0)).head? = some f) ∧ f.state ≠ .rejected) (mb 4) [1] ⟨1, 0, 1, .kept, {}⟩ { onM with sht := { live := [⟨2, 0, 1, .kept, {}⟩, ⟨1, 0, 1, .kept, {}⟩], inForce := 2 } } ∧
    (fun (m : Mbx) (inp : List Word) (s : State) => s.takes m ⟨0xC700, true, false, false, false⟩ = true ∧ m.len = 12 ∧ 64 ≤ (wordAt inp 2).toNat ∧ (wordAt inp 2).toNat ≤ 262112) (mb 12) [0, 0, 64] onM ∧
    (fun (m : Mbx) (inp : List Word) (s : State) => s.takes m ⟨0xC701, false, true, false, false⟩ = true ∧ m.len = 0 ∧ s.unlocked (requesterOf (s.linkOf m.fn).1 (s.linkOf m.fn).2) = true) (mb 0) [] { onM with unlocks := { isOpen := BitVec.allOnes 5 } } ∧
    (fun (m : Mbx) (inp : List Word) (s : State) => s.takes m ⟨0xC702, false, false, false, false⟩ = true ∧ m.len = 0 ∧ s.log.staged = []) (mb 0) [] onM ∧
    (fun (m : Mbx) (inp : List Word) (s : State) => s.takes m ⟨0xC702, false, false, false, false⟩ = true ∧ m.len = 0 ∧ s.log.staged ≠ []) (mb 0) [] { onM with log := { staged := [⟨1, 1, 1, false, 0, 0, []⟩] } } ∧
    (fun (m : Mbx) (inp : List Word) (a : Nat) (s : State) => s.takes m ⟨0xC921, false, true, false, false⟩ = true ∧ m.len = 0 ∧ s.mode.mode = .hold ∧ s.mode.holdPurpose = 2 ∧ s.unlocked (requesterOf (s.linkOf m.fn).1 (s.linkOf m.fn).2) = true ∧ s.cmd.active = some a ∧ s.slotIsEmpty (1 - a) = true) (mb 0) [] 0 { onM with mode := { mode := .hold, holdPurpose := 2, bringup := .served }, unlocks := { isOpen := BitVec.allOnes 5 }, cmd := { active := some 0 } } :=
  ⟨by decide, by decide, by decide, by decide, by decide, by decide, by decide, by decide⟩

theorem witness_ModeRequestAndPairForm :
    (fun (m : Mbx) (inp : List Word) (s : State) => s.takes m ⟨0xC801, false, true, false, true⟩ = true ∧ m.len = 4 ∧ s.mode.transit = false ∧ (wordAt inp 0).field 2 0 = 5 ∧ s.mode.mode = .serve ∧ (wordAt inp 0).field 5 4 ≠ 3) (mb 4) [5] onM ∧
    (fun (m : Mbx) (inp : List Word) (s : State) => s.takes m ⟨0xC801, false, true, false, true⟩ = true ∧ m.len = 4 ∧ s.mode.transit = false ∧ (wordAt inp 0).field 2 0 = 0 ∧ (s.mode.mode = .serve ∨ s.mode.mode = .solo ∨ s.mode.mode = .hold)) (mb 4) [0] onM ∧
    (fun (m : Mbx) (inp : List Word) (s : State) => s.takes m ⟨0xC801, false, true, false, true⟩ = true ∧ m.len = 4 ∧ s.mode.transit = false ∧ ((wordAt inp 0).field 2 0 = 3 ∨ (wordAt inp 0).field 2 0 = 4) ∧ s.mode.mode = .hold) (mb 4) [3] { onM with mode := { mode := .hold, bringup := .served } } ∧
    (fun (m : Mbx) (inp : List Word) (s : State) => s.takes m ⟨0xC801, false, true, false, true⟩ = true ∧ m.len = 4 ∧ s.mode.transit = true) (mb 4) [3] { onM with mode := { mode := .hold, transit := true, bringup := .served } } ∧
    (fun (m : Mbx) (inp : List Word) (s : State) => s.takes m ⟨0xC101, false, true, false, false⟩ = true ∧ m.len = 32 ∧ s.inBackground m = false ∧ s.paired = true ∧ s.mode.mode = .solo ∧ (wordAt inp 1).toNat = s.pairId ∧ (wordAt inp 0).field 31 2 = 0 ∧ (wordAt inp 2).field 31 14 = 0 ∧ wordAt inp 3 = 0 ∧ (wordAt inp 2).field 13 0 / 2 = s.ctrlId / 2 ∧ (wordAt inp 2).field 13 0 % 2 ≠ s.ctrlId % 2 ∧ ((wordAt inp 0).field 0 0 = 1 ∨ s.addr.regions.size = 0 ∨ (wordAt inp 0).field 1 1 = 1) ∧ s.linkUp = true ∧ s.pair.twinIdent = none) (mb 32) [1, 0, 1, 0] { onM with mode := { mode := .solo, bringup := .served }, regs := ⟨[(Reg.SYS_PAIR, BitVec.allOnes 32)]⟩, twl := { pathA := { state := .up } } } :=
  ⟨by decide, by decide, by decide, by decide, by decide⟩

theorem witness_RegionCommands :
    (fun (m : Mbx) (inp : List Word) (r : Region) (idx : Nat) (s : State) => s.takes m ⟨0xC001, false, true, true, false⟩ = true ∧ s.solitary = true ∧ m.len = 32 ∧ Region.parse inp = some r ∧ s.addr.regions.freeKey? 65536 = some idx ∧ r.base + r.len ≤ s.addr.served.len ∧ (s.addr.regions.values.any (fun q => decide (q.base < r.base + r.len) && decide (r.base < q.base + q.len)) = false) ∧ s.regionById r.id = none ∧ s.cmd.keys.has r.keySlot = true ∧ (r.noLd = true ∨ s.windowFits r.ownerLd r.dpaBase r.len = true) ∧ s.pinsFit (s.addr.regions.values ++ [r]) = true) (mb 32) [0, 0, 0, 0, 4, 0, 0x00400000, 0] { r0 with ldWrite := false, noLd := true } 0 { onM with cmd := { keys := ⟨[(0, ⟨0, 0⟩)]⟩ }, addr := { served := { onM.addr.served with len := 4 } }, tier := { hbmTotal := 0, ddrTotal := 4 } } ∧
    (fun (m : Mbx) (inp : List Word) (r q : Region) (idx : Nat) (s : State) => s.takes m ⟨0xC003, false, true, true, false⟩ = true ∧ s.solitary = true ∧ m.len = 16 ∧ s.inBackground m = false ∧ s.regionById ((wordAt inp 0).field 23 0) = some (idx, r) ∧ r.withAttr inp = some q ∧ s.pinsFit ((s.addr.regions.insert idx q).values) = true) (mb 16) [0, 8, 1024, 0] r0 { r0 with drop := true } 0 onR ∧
    (fun (m : Mbx) (inp : List Word) (r : Region) (idx : Nat) (s : State) => s.takes m ⟨0xC004, true, true, true, false⟩ = true ∧ s.solitary = true ∧ m.len = 8 ∧ s.inBackground m = false ∧ s.regionById ((wordAt inp 0).field 23 0) = some (idx, r) ∧ (wordAt inp 0).field 31 24 = 0 ∧ wordAt inp 1 = 0 ∧ (s.addr.fences.any (fun f => f.region == idx) = false) ∧ (s.limitedTo m = none ∨ (r.noLd = false ∧ s.limitedTo m = some r.ownerLd ∧ r.ldWrite = true))) (mb 8) [0, 0] r0 0 onR ∧
    (fun (m : Mbx) (inp : List Word) (r : Region) (idx : Nat) (s : State) => s.takes m ⟨0xC002, false, true, true, false⟩ = true ∧ s.solitary = true ∧ m.len = 8 ∧ s.inBackground m = false ∧ s.regionById ((wordAt inp 0).field 23 0) = some (idx, r) ∧ (wordAt inp 0).field 30 24 = 0 ∧ wordAt inp 1 = 0 ∧ (s.addr.fences.any (fun f => f.region == idx) = false) ∧ ((wordAt inp 0).field 31 31 = 1 ∨ s.addr.shares.values.any (fun h => h.region == idx) = false)) (mb 8) [0, 0] r0 0 onR ∧
    (fun (region : Nat) (f : Fence) (r : Region) (s : State) => (s.addr.fences.find? (fun f => f.region == region && !f.localDone) = some f) ∧ s.addr.regions.find? region = some r ∧ s.fenceClear f = true) 0 ⟨0, true, 7, 0, false⟩ r0 { onR with addr := { onR.addr with fences := [⟨0, true, 7, 0, false⟩] } } ∧
    (fun (m : Mbx) (inp : List Word) (r : Region) (idx id : Nat) (s : State) => s.takes m ⟨0xC010, false, true, true, false⟩ = true ∧ s.solitary = true ∧ m.len = 24 ∧ s.regionById ((wordAt inp 0).field 23 0) = some (idx, r) ∧ s.addr.shares.freeKey? 4096 = some id ∧ (wordAt inp 0).field 31 24 = 0 ∧ (wordAt inp 1).field 31 23 = 0 ∧ (wordAt inp 2).field 31 23 = 0 ∧ (wordAt inp 3).field 31 5 = 0 ∧ (wordAt inp 4).field 31 23 = 0 ∧ wordAt inp 5 = 0 ∧ r.shareable = true ∧ wordAt inp 2 ≠ 0 ∧ (wordAt inp 1).toNat + (wordAt inp 2).toNat ≤ r.len ∧ (r.noLd = true ∨ (wordAt inp 3).toNat ≠ r.ownerLd) ∧ ((s.addr.shares.values.filter (fun h => h.region == idx)).length < 31) ∧ s.windowFits (wordAt inp 3).toNat (wordAt inp 4).toNat (wordAt inp 2).toNat = true) (mb 24) [0, 1, 2, 1, 0, 0] { r0 with shareable := true } 0 0 { onM with addr := { regions := ⟨[(0, { r0 with shareable := true })]⟩ }, regs := ⟨[(Reg.CX_LD_SPAN 0x10 1, 16)]⟩ } ∧
    (fun (m : Mbx) (inp : List Word) (s : State) => s.takes m ⟨0xC011, false, true, true, false⟩ = true ∧ s.solitary = true ∧ m.len = 4 ∧ s.addr.shares.has (wordAt inp 0).toNat = true) (mb 4) [0] { onR with addr := { onR.addr with shares := ⟨[(0, ⟨0, 0, 1, 1, 0⟩)]⟩ } } :=
  ⟨by decide, by decide, by decide, by decide, by decide, by decide, by decide⟩

theorem witness_KeysAndDomains :
    (fun (m : Mbx) (inp : List Word) (x : Nat) (k : KeyEnt) (s : State) => s.takes m ⟨0xC410, true, true, true, false⟩ = true ∧ s.solitary = true ∧ m.len = 32 ∧ s.keyTarget (s.limitedTo m) none inp = some (x, k)) (mb 32) [3, 1, 0, 0, 64, 0, 0, 0] 3 { state := 1, rights := 1, gen := 0, local_ := 0, base := 0, len := 64, owner := keyOwner none } { onR with addr := { onR.addr with served := { onR.addr.served with len := 4 } } } ∧
    (fun (m : Mbx) (inp : List Word) (k : KeyEnt) (s : State) => s.takes m ⟨0xC411, true, true, true, false⟩ = true ∧ s.solitary = true ∧ m.len = 4 ∧ s.net.keys.find? ((wordAt inp 0).field 25 8) = some k ∧ (wordAt inp 0).field 31 26 = 0 ∧ k.state = 1 ∧ k.gen = (wordAt inp 0).field 7 0 ∧ (s.limitedTo m = none ∨ (s.limitedTo m).map (· + 1) = some k.owner)) (mb 4) [5] { state := 1, rights := 1, gen := 5, local_ := 0, base := 0, len := 64, owner := 0 } { onR with net := { keys := ⟨[(0, { state := 1, rights := 1, gen := 5, local_ := 0, base := 0, len := 64, owner := 0 })]⟩ } } ∧
    (fun (m : Mbx) (inp : List Word) (s : State) => s.takes m ⟨0xC420, false, true, true, false⟩ = true ∧ s.solitary = true ∧ m.len = 16 + 24 * (wordAt inp 1).field 6 0 ∧ s.net.domains.find? ((wordAt inp 0).field 15 0) = none ∧ (wordAt inp 1).field 6 0 ≤ 64 ∧ (wordAt inp 0).field 31 16 = 0 ∧ (wordAt inp 1).field 31 7 = 0 ∧ (((List.range ((wordAt inp 1).field 6 0)).all (fun i => (s.grantAt inp i).isSome)) = true) ∧ (sumL ((s.net.domains.cells.filter (fun c => c.1 != (wordAt inp 0).field 15 0)).map (fun c => c.2.grants.length)) + (wordAt inp 1).field 6 0 ≤ 262144)) (mb 40) [7, 1, 0, 0, 0, 0, 64, 0, 1, 0] { onR with addr := { onR.addr with served := { onR.addr.served with len := 4 } } } ∧
    (fun (m : Mbx) (inp : List Word) (d : Domain) (s : State) => s.takes m ⟨0xC421, false, true, true, false⟩ = true ∧ s.solitary = true ∧ m.len = 4 ∧ s.net.domains.find? ((wordAt inp 0).field 15 0) = some d ∧ d.state = 1 ∧ (wordAt inp 0).field 31 16 = 0) (mb 4) [7] ⟨1, 3, []⟩ { onM with net := { domains := ⟨[(7, ⟨1, 3, []⟩)]⟩ } } :=
  ⟨by decide, by decide, by decide, by decide⟩

theorem witness_AddressesAndConnections :
    (fun (m : Mbx) (inp : List Word) (ents : List PortAddr) (s : State) => s.takes m ⟨0xC401, false, true, true, false⟩ = true ∧ s.solitary = true ∧ m.len = 8 + 20 * (wordAt inp 1).field 4 0 ∧ (wordAt inp 1).field 31 5 = 0 ∧ (wordAt inp 0).field 31 5 = 0 ∧ (wordAt inp 1).field 4 0 ≤ 16 ∧ (ents = (List.range ((wordAt inp 1).field 4 0)).map (fun i => PortAddr.mk (BitVec.ofNat 128 (wide inp (2 + 5 * i) + wide inp (2 + 5 * i + 2) * 2 ^ 64)) ((wordAt inp (2 + 5 * i + 4)).field 7 0) ((wordAt inp (2 + 5 * i + 4)).field 8 8 == 1))) ∧ ((ents.filter (fun a => isV4 a.ip)).length ≤ 8) ∧ (ents.length - (ents.filter (fun a => isV4 a.ip)).length ≤ 8)) (mb 28) [5, 1, 1, 2, 3, 4, 64] [⟨BitVec.ofNat 128 (1 + 2 * 2 ^ 32 + 3 * 2 ^ 64 + 4 * 2 ^ 96), 64, false⟩] onM ∧
    (fun (m : Mbx) (inp : List Word) (s : State) => s.takes m ⟨0xC402, false, true, true, false⟩ = true ∧ s.solitary = true ∧ m.len = 16 ∧ (wordAt inp 2).field 31 17 = 0 ∧ (wordAt inp 2).field 16 16 = 1) (mb 16) [9, 0, 0x00010005, 0] onM ∧
    (fun (m : Mbx) (inp : List Word) (s : State) => s.takes m ⟨0xC402, false, true, true, false⟩ = true ∧ s.solitary = true ∧ m.len = 16 ∧ (wordAt inp 2).field 31 17 = 0 ∧ (wordAt inp 2).field 16 16 ≠ 1) (mb 16) [9, 0, 5, 0] onM ∧
    (fun (m : Mbx) (inp : List Word) (c : Conn) (s : State) => s.takes m ⟨0xC404, false, true, true, false⟩ = true ∧ s.solitary = true ∧ m.len = 4 ∧ s.connOfQpn ((wordAt inp 0).field 23 0) = some c ∧ c.closing = false ∧ c.rts = true ∧ (wordAt inp 0).field 31 24 = 0 ∧ c.ops = []) (mb 4) [] c0 { onM with net := { conns := ⟨[(0, c0)]⟩ } } :=
  ⟨by decide, by decide, by decide, by decide⟩

theorem witness_KeySlots :
    (fun (m : Mbx) (inp : List Word) (s : State) => s.takes m ⟨0xC911, false, true, true, false⟩ = true ∧ s.solitary = true ∧ m.len = 4 ∧ s.slotEmpty (wordAt inp 0) = true) (mb 4) [3] onM ∧
    (fun (m : Mbx) (inp : List Word) (s : State) => s.takes m ⟨0xC910, false, true, true, false⟩ = true ∧ s.solitary = true ∧ m.len = 184 ∧ s.slotEmpty (wordAt inp 0) = true ∧ wordAt inp 1 = 0) (mb 184) [3, 0] onM ∧
    (fun (m : Mbx) (inp : List Word) (s : State) => s.takes m ⟨0xC912, false, true, true, false⟩ = true ∧ s.solitary = true ∧ m.len = 4 ∧ (wordAt inp 0).field 31 12 = 0 ∧ (wordAt inp 0).field 11 0 ≠ 0 ∧ (s.addr.regions.values.any (fun r => r.keySlot == (wordAt inp 0).field 11 0) = false)) (mb 4) [3] onM :=
  ⟨by decide, by decide, by decide⟩

theorem witness_RangeOperations :
    (fun (first last : Nat) (s : State) => s.pwr.core = true ∧ s.opBusy = false ∧ (s.reg Reg.LC_OP_FIRST_LO).toNat + s.fld Reg.LC_OP_FIRST_HI Fld.LC_OP_FIRST_HI_ADDR_HI * 2 ^ 32 = first ∧ (s.reg Reg.LC_OP_LAST_LO).toNat + s.fld Reg.LC_OP_LAST_HI Fld.LC_OP_LAST_HI_ADDR_HI * 2 ^ 32 = last ∧ first / 64 ≤ last / 64) 0 0 onS ∧
    (fun (first last : Nat) (s : State) => s.pwr.core = true ∧ s.opBusy = false ∧ (s.reg Reg.LC_OP_FIRST_LO).toNat + s.fld Reg.LC_OP_FIRST_HI Fld.LC_OP_FIRST_HI_ADDR_HI * 2 ^ 32 = first ∧ (s.reg Reg.LC_OP_LAST_LO).toNat + s.fld Reg.LC_OP_LAST_HI Fld.LC_OP_LAST_HI_ADDR_HI * 2 ^ 32 = last ∧ first / 64 ≤ last / 64) 0 0 onS ∧
    (fun (first last : Nat) (s : State) => s.pwr.core = true ∧ s.opBusy = false ∧ (s.reg Reg.LC_OP_FIRST_LO).toNat + s.fld Reg.LC_OP_FIRST_HI Fld.LC_OP_FIRST_HI_ADDR_HI * 2 ^ 32 = first ∧ (s.reg Reg.LC_OP_LAST_LO).toNat + s.fld Reg.LC_OP_LAST_HI Fld.LC_OP_LAST_HI_ADDR_HI * 2 ^ 32 = last ∧ first / 64 ≤ last / 64) 0 0 onS ∧
    (fun (cls : Nat) (first last : Nat) (s : State) => s.pwr.core = true ∧ s.opBusy = false ∧ (s.reg Reg.LC_OP_FIRST_LO).toNat + s.fld Reg.LC_OP_FIRST_HI Fld.LC_OP_FIRST_HI_ADDR_HI * 2 ^ 32 = first ∧ (s.reg Reg.LC_OP_LAST_LO).toNat + s.fld Reg.LC_OP_LAST_HI Fld.LC_OP_LAST_HI_ADDR_HI * 2 ^ 32 = last ∧ first / 64 ≤ last / 64) 5 0 0 onS ∧
    (fun (s : State) => s.pwr.core = true ∧ s.opBusy = true) { onS with addr := { fences := [⟨0, false, 9, 0, false⟩] } } ∧
    (fun (who : Nat) (first last : Nat) (s : State) => s.pwr.core = true ∧ s.opBusy = false ∧ (s.reg Reg.LC_OP_FIRST_LO).toNat + s.fld Reg.LC_OP_FIRST_HI Fld.LC_OP_FIRST_HI_ADDR_HI * 2 ^ 32 = first ∧ (s.reg Reg.LC_OP_LAST_LO).toNat + s.fld Reg.LC_OP_LAST_HI Fld.LC_OP_LAST_HI_ADDR_HI * 2 ^ 32 = last ∧ first / 64 ≤ last / 64 ∧ s.unlocked who = true ∧ s.discardAllowed = true) 0 0 0 { onS with mode := { mode := .hold, holdPurpose := 2, bringup := .served }, unlocks := { isOpen := BitVec.allOnes 5 } } ∧
    (fun (who : Nat) (s : State) => s.pwr.core = true ∧ s.opBusy = false ∧ s.unlocked who = false) 0 onS ∧
    (fun (o : RangeOp) (s : State) => s.lc.op = some o ∧ o.walked = false) ⟨1, [(0, 0xFFFFF)], 0, none, 0, [], false, 0⟩ { onS with lc := { op := some ⟨1, [(0, 0xFFFFF)], 0, none, 0, [], false, 0⟩ } } ∧
    (fun (o : RangeOp) (s : State) => s.lc.op = some o ∧ s.opOver o = true ∧ o.reply = none ∧ s.lc.opq = []) ⟨1, [(0, 0)], 0, none, 0, [], true, 1⟩ { onS with lc := { op := some ⟨1, [(0, 0)], 0, none, 0, [], true, 1⟩ } } ∧
    (fun (s : State) => s.lc.state = .sweeping ∧ s.heldLines = []) { onS with lc := { state := .sweeping } } :=
  ⟨by decide, by decide, by decide, by decide, by decide, by decide, by decide, by decide, by decide, by decide⟩

theorem witness_ChannelCommands :
    (fun (inst sc : Nat) (ready : List Nat) (rank : Nat) (s : State) => (s.chan inst).state = .active ∧ (s.chan inst).owing sc 4 = some rank) 0 0 [] 0 { onS with ch := ⟨[(0, { state := .active, owed := ⟨[(0, 4)]⟩ })]⟩ } ∧
    (fun (inst sc : Nat) (ready : List Nat) (r : ChReq) (s : State) => (s.chan inst).state = .active ∧ (s.chan inst).owing sc 4 = none ∧ s.nextReq inst sc ready = some r ∧ (s.chan inst).rows.find? (s.dramOf r.home).bank = none) 0 0 [1] req0 (onC {}) ∧
    (fun (inst sc : Nat) (ready : List Nat) (r : ChReq) (row n : Nat) (s : State) => (s.chan inst).state = .active ∧ (s.chan inst).owing sc 4 = none ∧ s.nextReq inst sc ready = some r ∧ (s.chan inst).rows.find? (s.dramOf r.home).bank = some (row, n) ∧ row ≠ (s.dramOf r.home).row) 0 0 [1] req0 3 0 (onC ⟨[(0, (3, 0))]⟩) ∧
    (fun (inst sc : Nat) (ready : List Nat) (r : ChReq) (n : Nat) (s : State) => (s.chan inst).state = .active ∧ (s.chan inst).owing sc 4 = none ∧ s.nextReq inst sc ready = some r ∧ (s.chan inst).rows.find? (s.dramOf r.home).bank = some ((s.dramOf r.home).row, n) ∧ n < 32) 0 0 [1] req0 0 (onC ⟨[(0, (0, 0))]⟩) ∧
    (fun (inst sc : Nat) (ready : List Nat) (rank : Nat) (s : State) => (s.chan inst).state = .frozen ∧ (s.chan inst).owing sc 1 = some rank) 0 0 [] 0 { onS with ch := ⟨[(0, { state := .frozen, owed := ⟨[(0, 1)]⟩ })]⟩ } ∧
    (fun (inst req : Nat) (r : ChReq) (s : State) => (((s.chan inst).rq ++ (s.chan inst).wq).find? (fun r => r.id == req && !r.issued) = some r) ∧ r.level < levelAt (s.target inst r.port) (s.now - r.since)) 0 1 req0 { onC {} with tim := { ns := 1000000 } } ∧
    (fun (inst sc rank : Nat) (s : State) => (s.chan inst).state ≠ .off ∧ (s.chan inst).state ≠ .retired) 0 0 0 { onS with ch := ⟨[(0, { state := .active })]⟩ } ∧
    (fun (inst sc rank : Nat) (s : State) => ((s.chan inst).state = .active ∨ (s.chan inst).state = .frozen)) 0 0 0 { onS with ch := ⟨[(0, { state := .active })]⟩ } ∧
    (fun (inst sc rank : Nat) (s : State) => (s.chan inst).state = .active) 0 0 0 { onS with ch := ⟨[(0, { state := .active })]⟩ } :=
  ⟨by decide, by decide, by decide, by decide, by decide, by decide, by decide, by decide, by decide⟩

theorem witness_ChannelErrorsAndActions :
    (fun (inst cause : Nat) (at_ : Option (DramAddr × Home)) (s : State) => (s.chan inst).state = .active) 0 2 none { onS with ch := ⟨[(0, { state := .active })]⟩ } ∧
    (fun (inst : Nat) (s : State) => inst < 16 ∧ (s.chan inst).state = .active) 0 { onS with ch := ⟨[(0, { state := .active })]⟩ } ∧
    (fun (inst : Nat) (s : State) => inst < 16 ∧ (s.chan inst).state = .active) 0 { onS with ch := ⟨[(0, { state := .active })]⟩ } ∧
    (fun (inst : Nat) (s : State) => 16 ≤ inst ∧ inst < 48 ∧ (s.chan inst).state = .active) 16 { onS with ch := ⟨[(16, { state := .active })]⟩ } ∧
    (fun (inst req : Nat) (r : ChReq) (s : State) => inst < 16 ∧ ((s.chan inst).wq.find? (fun r => r.id == req && r.issued) = some r) ∧ (s.chan inst).state = .active) 0 1 { req0 with rd := none, wr := some .poison, issued := true } { onS with ch := ⟨[(0, { state := .active, wq := [{ req0 with rd := none, wr := some .poison, issued := true }] })]⟩ } ∧
    (fun (who inst : Nat) (s : State) => s.unlocked who = true ∧ (s.chan inst).state = .frozen) 0 0 { onS with ch := ⟨[(0, { state := .frozen })]⟩, unlocks := { isOpen := BitVec.allOnes 5 } } ∧
    (fun (who inst : Nat) (a : DramAddr) (cap d : Home) (s : State) => s.unlocked who = true ∧ (s.chan inst).state = .frozen ∧ (s.chan inst).capCause = 1 ∧ (s.chan inst).capAt = some (a, cap) ∧ (s.ec.remaps.find? (fun r => r.dst == cap) = none) ∧ ((s.ec.remaps.filter (fun r => r.inst == (s.dramOf cap).inst)).length < remapCap (s.dramOf cap).inst) ∧ s.firstSpare cap (s.spareArea cap.hbm).2 (s.spareArea cap.hbm).1 = some d) 0 0 ⟨0, 0, 0, 0, 0, 0, 0⟩ ⟨false, 0⟩ ⟨false, 1⟩ { onS with ch := ⟨[(0, { state := .frozen, capCause := 1, capAt := some (⟨0, 0, 0, 0, 0, 0, 0⟩, ⟨false, 0⟩) })]⟩, unlocks := { isOpen := BitVec.allOnes 5 }, addr := { served := { pop := { ddr := 1073741824 }, reserves := [0, 0, 0, 0, 1073741824] } } } ∧
    (fun (inst : Nat) (s : State) => (s.chan inst).state = .frozen ∧ s.mirrored = false ∧ s.tier.refetch.cells = []) 0 { onS with mode := { mode := .solo, bringup := .served }, ch := ⟨[(0, { state := .frozen })]⟩ } :=
  ⟨by decide, by decide, by decide, by decide, by decide, by decide, by decide, by decide⟩

theorem witness_CxlMemRequests :
    (fun (p : CxlMsg) (ld line dpa : Nat) (w : Bool) (s : State) => s.linkOpen p.port p.link = true ∧ (s.link p.port p.link).req ≠ 0 ∧ s.ldOf p.port p.link p.ldid = some ld ∧ (s.setLink p.port p.link { s.link p.port p.link with req := (s.link p.port p.link).req - 1 }).route ld p.hpa = (some line, dpa, w)) msg 0 1 64 true onP ∧
    (fun (p : CxlMsg) (ld dpa : Nat) (w : Bool) (s : State) => s.linkOpen p.port p.link = true ∧ (s.link p.port p.link).req ≠ 0 ∧ s.ldOf p.port p.link p.ldid = some ld ∧ (s.setLink p.port p.link { s.link p.port p.link with req := (s.link p.port p.link).req - 1 }).route ld p.hpa = (none, dpa, w)) far 0 0x80000000 false onP ∧
    (fun (p : CxlMsg) (ld line dpa : Nat) (w : Bool) (s : State) => s.linkOpen p.port p.link = true ∧ (s.link p.port p.link).req ≠ 0 ∧ s.ldOf p.port p.link p.ldid = some ld ∧ (s.setLink p.port p.link { s.link p.port p.link with req := (s.link p.port p.link).req - 1 }).route ld p.hpa = (some line, dpa, w)) msg 0 1 64 true onP ∧
    (fun (p : CxlMsg) (ld dpa : Nat) (w : Bool) (s : State) => s.linkOpen p.port p.link = true ∧ (s.link p.port p.link).req ≠ 0 ∧ s.ldOf p.port p.link p.ldid = some ld ∧ (s.setLink p.port p.link { s.link p.port p.link with req := (s.link p.port p.link).req - 1 }).route ld p.hpa = (none, dpa, w)) far 0 0x80000000 false onP ∧
    (fun (p : CxlMsg) (ld line dpa : Nat) (w : Bool) (s : State) => s.linkOpen p.port p.link = true ∧ (s.link p.port p.link).req ≠ 0 ∧ s.ldOf p.port p.link p.ldid = some ld ∧ (s.setLink p.port p.link { s.link p.port p.link with req := (s.link p.port p.link).req - 1 }).route ld p.hpa = (some line, dpa, w)) msg 0 1 64 true onP ∧
    (fun (p : CxlMsg) (ld dpa : Nat) (w : Bool) (s : State) => s.linkOpen p.port p.link = true ∧ (s.link p.port p.link).req ≠ 0 ∧ s.ldOf p.port p.link p.ldid = some ld ∧ (s.setLink p.port p.link { s.link p.port p.link with req := (s.link p.port p.link).req - 1 }).route ld p.hpa = (none, dpa, w)) far 0 0x80000000 false onP ∧
    (fun (p : CxlMsg) (s : State) => s.linkOpen p.port p.link = true ∧ (s.link p.port p.link).req = 0) msg { onP with cxl := { onP.cxl with portA := { link0 := { state := .l0 } } } } ∧
    (fun (p : CxlMsg) (data : Line) (poison : Bool) (ld line dpa : Nat) (s : State) => s.linkOpen p.port p.link = true ∧ (s.link p.port p.link).rwd ≠ 0 ∧ s.ldOf p.port p.link p.ldid = some ld ∧ (s.setLink p.port p.link { s.link p.port p.link with rwd := (s.link p.port p.link).rwd - 1 }).route ld p.hpa = (some line, dpa, true)) msg 5 true 0 1 64 onP ∧
    (fun (p : CxlMsg) (data : Line) (mask : Mask) (poison : Bool) (ld line dpa : Nat) (s : State) => s.linkOpen p.port p.link = true ∧ (s.link p.port p.link).rwd ≠ 0 ∧ s.ldOf p.port p.link p.ldid = some ld ∧ (s.setLink p.port p.link { s.link p.port p.link with rwd := (s.link p.port p.link).rwd - 1 }).route ld p.hpa = (some line, dpa, true)) msg 5 3 false 0 1 64 onP ∧
    (fun (p : CxlMsg) (data : Line) (poison : Bool) (ld dpa : Nat) (r : Option Nat) (w : Bool) (s : State) => s.linkOpen p.port p.link = true ∧ (s.link p.port p.link).rwd ≠ 0 ∧ s.ldOf p.port p.link p.ldid = some ld ∧ (s.setLink p.port p.link { s.link p.port p.link with rwd := (s.link p.port p.link).rwd - 1 }).route ld p.hpa = (r, dpa, w) ∧ (r = none ∨ w = false)) far 5 false 0 0x80000000 none false onP ∧
    (fun (port link opcode : Nat) (s : State) => s.linkOpen port link = true) 0 0 9 onP ∧
    (fun (leaf : Nat) (mask : BitVec 64) (s : State) => s.addr.fills.find? leaf = some mask) 7 0 { onS with addr := { fills := ⟨[(7, 0)]⟩ } } :=
  ⟨by decide, by decide, by decide, by decide, by decide, by decide, by decide, by decide, by decide, by decide, by decide, by decide⟩

theorem witness_ScrubRepairAndTest :
    (fun (who inst : Nat) (s : State) => s.unlocked who = true ∧ (s.chan inst).state = .frozen ∧ (s.mode.mode = .serve ∨ s.mode.mode = .solo)) 0 0 { onS with ch := ⟨[(0, { state := .frozen })]⟩, unlocks := { isOpen := BitVec.allOnes 5 } } ∧
    (fun (inst : Nat) (s : State) => (s.chan inst).state = .frozen) 0 { onS with ch := ⟨[(0, { state := .frozen })]⟩, unlocks := { isOpen := BitVec.allOnes 5 } } ∧
    (fun (s : State) => s.scrubRuns = true) { onS with regs := ⟨[(Reg.EC_CTL, BitVec.allOnes 32)]⟩ } ∧
    (fun (place line : Nat) (h : Home) (s : State) => s.scrubRuns = true ∧ s.ec.scrubbing = none ∧ s.ec.scrubAll ≠ 0 ∧ s.ec.scrubDone ≠ s.ec.scrubAll ∧ s.scrubNext = some (place, line, h) ∧ (line = reserveLine ∨ s.atCursor line = false) ∧ s.stopped h = false ∧ s.mayGrant 6 = true ∧ s.heldBack 6 = false) (2 ^ 38) reserveLine ⟨false, 0⟩ { onS with regs := ⟨[(Reg.EC_CTL, BitVec.allOnes 32)]⟩, ec := { scrubAll := 1, scrubAt := 2 ^ 38 }, addr := { served := { pop := { ddr := 64 }, reserves := [64] } }, ch := ⟨[(0, { state := .active })]⟩ } ∧
    (fun (place line : Nat) (h : Home) (s : State) => s.scrubRuns = true ∧ s.ec.scrubbing = none ∧ s.ec.scrubAll ≠ 0 ∧ s.ec.scrubDone ≠ s.ec.scrubAll ∧ s.scrubNext = some (place, line, h) ∧ (line = reserveLine ∨ s.atCursor line = false) ∧ s.stopped h = true) (2 ^ 38) reserveLine ⟨false, 0⟩ { onS with regs := ⟨[(Reg.EC_CTL, BitVec.allOnes 32)]⟩, ec := { scrubAll := 1, scrubAt := 2 ^ 38 }, addr := { served := { pop := { ddr := 64 }, reserves := [64] } }, ch := ⟨[(0, { state := .frozen })]⟩ } ∧
    (fun (s : State) => s.scrubRuns = true ∧ s.ec.scrubbing = none ∧ s.ec.scrubAll ≠ 0 ∧ s.ec.scrubDone ≠ s.ec.scrubAll ∧ s.scrubNext = none) { onS with regs := ⟨[(Reg.EC_CTL, BitVec.allOnes 32)]⟩, ec := { scrubAll := 1, scrubAt := 2 ^ 38 } } ∧
    (fun (p : RowRepair) (s : State) => s.ec.repair = some p ∧ ((s.rowCells p.row).any (fun c => match s.lineAt c.1 with | some l => s.tier.refetch.has l | none => false) = false) ∧ p.auto = none) { row := ⟨0, 0, 0, 0, 0, 0, 0⟩, hard := false, reply := mb 0, tag := 0 } { onS with ec := { repair := some { row := ⟨0, 0, 0, 0, 0, 0, 0⟩, hard := false, reply := mb 0, tag := 0 } } } ∧
    (fun (p : RowRepair) (s : State) => s.ec.repair = some p ∧ ((s.rowCells p.row).any (fun c => match s.lineAt c.1 with | some l => s.tier.refetch.has l | none => false) = false) ∧ p.auto = none) { row := ⟨0, 0, 0, 0, 0, 0, 0⟩, hard := false, reply := mb 0, tag := 0 } { onS with ec := { repair := some { row := ⟨0, 0, 0, 0, 0, 0, 0⟩, hard := false, reply := mb 0, tag := 0 } } } ∧
    (fun (who : Nat) (ctl : Word) (u : State) (s : State) => s.pwr.core = true ∧ who < 5 ∧ s.unlocked who = true ∧ u = (s.relock who).setReg Reg.EC_TEST_CTL (guardedWord Reg.EC_TEST_CTL (s.reg Reg.EC_TEST_CTL) (ctl.setField 2 0 1)) ∧ u.testBarred u.testHome = false ∧ u.testConflict u.testHome = false) 0 0 ((State.relock { onS with mode := { mode := .hold, holdPurpose := 2, bringup := .served }, unlocks := { isOpen := BitVec.allOnes 5 } } 0).setReg Reg.EC_TEST_CTL (guardedWord Reg.EC_TEST_CTL (State.reg { onS with mode := { mode := .hold, holdPurpose := 2, bringup := .served }, unlocks := { isOpen := BitVec.allOnes 5 } } Reg.EC_TEST_CTL) ((0 : Word).setField 2 0 1))) { onS with mode := { mode := .hold, holdPurpose := 2, bringup := .served }, unlocks := { isOpen := BitVec.allOnes 5 } } ∧
    (fun (who : Nat) (ctl : Word) (u : State) (s : State) => s.pwr.core = true ∧ who < 5 ∧ s.unlocked who = true ∧ u = (s.relock who).setReg Reg.EC_TEST_CTL (guardedWord Reg.EC_TEST_CTL (s.reg Reg.EC_TEST_CTL) (ctl.setField 2 0 2)) ∧ u.testBarred u.testHome = false ∧ u.testConflict u.testHome = false) 0 0 ((State.relock { onS with mode := { mode := .hold, holdPurpose := 2, bringup := .served }, unlocks := { isOpen := BitVec.allOnes 5 } } 0).setReg Reg.EC_TEST_CTL (guardedWord Reg.EC_TEST_CTL (State.reg { onS with mode := { mode := .hold, holdPurpose := 2, bringup := .served }, unlocks := { isOpen := BitVec.allOnes 5 } } Reg.EC_TEST_CTL) ((0 : Word).setField 2 0 2))) { onS with mode := { mode := .hold, holdPurpose := 2, bringup := .served }, unlocks := { isOpen := BitVec.allOnes 5 } } ∧
    (fun (who : Nat) (ctl : Word) (errs : List (Nat × BitVec 16)) (u : State) (s : State) => s.pwr.core = true ∧ who < 5 ∧ s.unlocked who = true ∧ u = (s.relock who).setReg Reg.EC_TEST_CTL (guardedWord Reg.EC_TEST_CTL (s.reg Reg.EC_TEST_CTL) (ctl.setField 2 0 3)) ∧ u.testConflict u.testHome = false) 0 0 [] ((State.relock { onS with mode := { mode := .hold, holdPurpose := 2, bringup := .served }, unlocks := { isOpen := BitVec.allOnes 5 } } 0).setReg Reg.EC_TEST_CTL (guardedWord Reg.EC_TEST_CTL (State.reg { onS with mode := { mode := .hold, holdPurpose := 2, bringup := .served }, unlocks := { isOpen := BitVec.allOnes 5 } } Reg.EC_TEST_CTL) ((0 : Word).setField 2 0 3))) { onS with mode := { mode := .hold, holdPurpose := 2, bringup := .served }, unlocks := { isOpen := BitVec.allOnes 5 } } ∧
    (fun (who : Nat) (ctl : Word) (errs : List (Nat × BitVec 16)) (u : State) (s : State) => s.pwr.core = true ∧ who < 5 ∧ s.unlocked who = true ∧ u = (s.relock who).setReg Reg.EC_TEST_CTL (guardedWord Reg.EC_TEST_CTL (s.reg Reg.EC_TEST_CTL) (ctl.setField 2 0 4)) ∧ u.testConflict u.testHome = false) 0 0 [] ((State.relock { onS with mode := { mode := .hold, holdPurpose := 2, bringup := .served }, unlocks := { isOpen := BitVec.allOnes 5 } } 0).setReg Reg.EC_TEST_CTL (guardedWord Reg.EC_TEST_CTL (State.reg { onS with mode := { mode := .hold, holdPurpose := 2, bringup := .served }, unlocks := { isOpen := BitVec.allOnes 5 } } Reg.EC_TEST_CTL) ((0 : Word).setField 2 0 4))) { onS with mode := { mode := .hold, holdPurpose := 2, bringup := .served }, unlocks := { isOpen := BitVec.allOnes 5 } } ∧
    (fun (who : Nat) (ctl : Word) (u : State) (s : State) => s.pwr.core = true ∧ who < 5 ∧ s.unlocked who = true ∧ u = (s.relock who).setReg Reg.EC_TEST_CTL (guardedWord Reg.EC_TEST_CTL (s.reg Reg.EC_TEST_CTL) (ctl.setField 2 0 1)) ∧ u.testBarred u.testHome = true) 0 0 ((State.relock { onS with mode := { mode := .serve, bringup := .served }, unlocks := { isOpen := BitVec.allOnes 5 } } 0).setReg Reg.EC_TEST_CTL (guardedWord Reg.EC_TEST_CTL (State.reg { onS with mode := { mode := .serve, bringup := .served }, unlocks := { isOpen := BitVec.allOnes 5 } } Reg.EC_TEST_CTL) ((0 : Word).setField 2 0 1))) { onS with mode := { mode := .serve, bringup := .served }, unlocks := { isOpen := BitVec.allOnes 5 } } ∧
    (fun (who : Nat) (ctl : Word) (s : State) => s.pwr.core = true ∧ who < 5 ∧ s.unlocked who = false) 0 0 onS :=
  ⟨by decide, by decide, by decide, by decide, by decide, by decide, by decide, by decide, by decide, by decide, by decide, by decide, by decide, by decide⟩

theorem witness_FaultManager :
    (fun (unit code cls at_ : Nat) (s : State) => s.pwr.core = true) 0 5 1 0 onS ∧
    (fun (e : FaultEv) (k : Nat) (s : State) => (s.flt.slots.cells.find? (fun c => c.2.unit == e.unit || unitWithin e.unit c.2.unit) = none) ∧ (s.contain e.unit).freeSlot = some k ∧ s.flt.queue = [] ∧ (State.setFlt (s.contain e.unit) k ⟨e.unit, e.code, e.cls, 2, false, false⟩).recurs e.unit e.code = false) ⟨unitId 1 0, 3, 2⟩ 0 onS ∧
    (fun (slot : Nat) (e : FaultEv) (rest : List FaultEv) (s : State) => slot < 8 ∧ s.flt.slots.has slot = false ∧ s.flt.cox = .running ∧ s.flt.queue = e :: rest ∧ s.recurs e.unit e.code = false ∧ s.flt.fenced = []) 0 ⟨unitId 1 0, 3, 2⟩ [] { onS with flt := { queue := [⟨unitId 1 0, 3, 2⟩] } } ∧
    (fun (slot : Nat) (pass row : Bool) (dev us : Nat) (f : FltSlot) (s : State) => s.flt.cox = .running ∧ s.cmd.activate = none ∧ slot ≠ 8 ∧ s.flt.slots.find? slot = some f ∧ f.stage = 2) 0 true false 0 5 ⟨unitId 5 0, 8, 2, 2, false, false⟩ { onS with flt := { slots := ⟨[(0, ⟨unitId 5 0, 8, 2, 2, false, false⟩)]⟩ } } ∧
    (fun (slot : Nat) (pass row : Bool) (dev us : Nat) (j : Job) (s : State) => s.flt.cox = .running ∧ s.cmd.activate = none ∧ slot = 8 ∧ (s.cmd.jobs.find? (fun j => j.opcode == 0xC503 && j.done.isNone) = some j)) 8 true false 0 5 ⟨mb 0, 0xC503, 0, true, true, false, false, none⟩ { onS with cmd := { jobs := [⟨mb 0, 0xC503, 0, true, true, false, false, none⟩] } } ∧
    (fun (id : Nat) (e : Entry) (s : State) => s.entry id = some e ∧ e.state ≠ .held ∧ id ∉ s.flt.stuck) 0 { src := 3, line := 0, op := .read, dst := .internal 0, state := .home, bad := false, since := 0, arr := 0, ord := none, applied := false, result := none, tag := none, sent := false, owed := false } { onS with trk := { entries := ⟨[(0, { src := 3, line := 0, op := .read, dst := .internal 0, state := .home, bad := false, since := 0, arr := 0, ord := none, applied := false, result := none, tag := none, sent := false, owed := false })]⟩ } } ∧
    (fun (eight engine items : Nat) (sp : Nat) (s : State) => eight < 8 ∧ engine ∈ (s.eight eight).active ∧ (s.eight eight).spare = some sp) 0 3 5 7 onS ∧
    (fun (s : State) => s.pwr.core = true ∧ s.flt.cox = .running ∧ s.cmd.activate = none ∧ s.flt.coxAt = none) onS ∧
    (fun (s : State) => s.pwr.core = true ∧ s.flt.cox = .restarting ∧ s.cmd.activate = none ∧ (s.mode.mode = .serve ∨ s.mode.mode = .solo)) { onS with flt := { cox := .restarting } } ∧
    (fun (s : State) => s.flt.cox = .restarting) { onS with flt := { cox := .restarting } } ∧
    (fun (s : State) => s.pwr.core = true ∧ s.flt.cox = .running) onS ∧
    (fun (inst : Nat) (temp : Option Nat) (s : State) => inst < 16 ∧ (s.chan inst).state ≠ .off ∧ (s.chan inst).state ≠ .retired) 0 none { onS with ch := ⟨[(0, { state := .active })]⟩ } :=
  ⟨by decide, by decide, by decide, by decide, by decide, by decide, by decide, by decide, by decide, by decide, by decide, by decide⟩

theorem witness_FlashOperations :
    (fun (who : Nat) (u : State) (b : Bank) (s : State) => s.pwr.core = true ∧ who < 5 ∧ s.unlocked who = true ∧ u = (s.relock who).setFld Reg.FLS_CMD Fld.FLS_CMD_OP 2 ∧ u.areaOk u.flsAddr = true ∧ u.fls.protected_ u.flsAddr = false ∧ u.flashWord u.flsAddr = BitVec.allOnes 256 ∧ b = u.fls.bank (faBank u.flsAddr) ∧ b.state = .idle ∧ b.queue = []) 0 ((State.relock { onS with mode := { mode := .hold, holdPurpose := 2, bringup := .served }, unlocks := { isOpen := BitVec.allOnes 5 }, regs := ⟨[(Reg.FLS_ADDR, 0x01800000)]⟩ } 0).setFld Reg.FLS_CMD Fld.FLS_CMD_OP 2) {} { onS with mode := { mode := .hold, holdPurpose := 2, bringup := .served }, unlocks := { isOpen := BitVec.allOnes 5 }, regs := ⟨[(Reg.FLS_ADDR, 0x01800000)]⟩ } ∧
    (fun (who : Nat) (u : State) (b : Bank) (s : State) => s.pwr.core = true ∧ who < 5 ∧ s.unlocked who = true ∧ u = (s.relock who).setFld Reg.FLS_CMD Fld.FLS_CMD_OP 3 ∧ u.areaOk (u.flsAddr / 65536 * 65536) = true ∧ u.fls.protected_ (u.flsAddr / 65536 * 65536) = false ∧ b = u.fls.bank (faBank (u.flsAddr / 65536 * 65536)) ∧ b.state = .idle ∧ b.queue = []) 0 ((State.relock { onS with mode := { mode := .hold, holdPurpose := 2, bringup := .served }, unlocks := { isOpen := BitVec.allOnes 5 }, regs := ⟨[(Reg.FLS_ADDR, 0x01800000)]⟩ } 0).setFld Reg.FLS_CMD Fld.FLS_CMD_OP 3) {} { onS with mode := { mode := .hold, holdPurpose := 2, bringup := .served }, unlocks := { isOpen := BitVec.allOnes 5 }, regs := ⟨[(Reg.FLS_ADDR, 0x01800000)]⟩ } ∧
    (fun (who : Nat) (u : State) (s : State) => s.pwr.core = true ∧ who < 5 ∧ s.unlocked who = true ∧ u = (s.relock who).setFld Reg.FLS_CMD Fld.FLS_CMD_OP 2 ∧ u.areaOk u.flsAddr = false) 0 ((State.relock { onS with mode := { mode := .hold, holdPurpose := 2, bringup := .served }, unlocks := { isOpen := BitVec.allOnes 5 }, cmd := { active := some 0 } } 0).setFld Reg.FLS_CMD Fld.FLS_CMD_OP 2) { onS with mode := { mode := .hold, holdPurpose := 2, bringup := .served }, unlocks := { isOpen := BitVec.allOnes 5 }, cmd := { active := some 0 } } ∧
    (fun (who : Nat) (u : State) (s : State) => s.pwr.core = true ∧ who < 5 ∧ s.unlocked who = true ∧ u = (s.relock who).setFld Reg.FLS_CMD Fld.FLS_CMD_OP 2 ∧ u.areaOk u.flsAddr = true ∧ u.fls.protected_ u.flsAddr = true) 0 ((State.relock { onS with mode := { mode := .hold, holdPurpose := 2, bringup := .served }, unlocks := { isOpen := BitVec.allOnes 5 }, regs := ⟨[(Reg.FLS_ADDR, 0x01800000)]⟩, fls := { protA := BitVec.allOnes 32 } } 0).setFld Reg.FLS_CMD Fld.FLS_CMD_OP 2) { onS with mode := { mode := .hold, holdPurpose := 2, bringup := .served }, unlocks := { isOpen := BitVec.allOnes 5 }, regs := ⟨[(Reg.FLS_ADDR, 0x01800000)]⟩, fls := { protA := BitVec.allOnes 32 } } ∧
    (fun (who : Nat) (u : State) (b : Bank) (s : State) => s.pwr.core = true ∧ who < 5 ∧ s.unlocked who = true ∧ u = (s.relock who).setFld Reg.FLS_CMD Fld.FLS_CMD_OP 1 ∧ b = u.fls.bank (faBank u.flsAddr) ∧ b.state = .idle) 0 ((State.relock { onS with mode := { mode := .hold, holdPurpose := 2, bringup := .served }, unlocks := { isOpen := BitVec.allOnes 5 } } 0).setFld Reg.FLS_CMD Fld.FLS_CMD_OP 1) {} { onS with mode := { mode := .hold, holdPurpose := 2, bringup := .served }, unlocks := { isOpen := BitVec.allOnes 5 } } ∧
    (fun (who : Nat) (u : State) (b : Bank) (s : State) => s.pwr.core = true ∧ who < 5 ∧ s.unlocked who = true ∧ u = (s.relock who).setFld Reg.FLS_CMD Fld.FLS_CMD_OP 1 ∧ b = u.fls.bank (faBank u.flsAddr) ∧ (b.state = .programming ∨ b.state = .erasing)) 0 ((State.relock { onS with mode := { mode := .hold, holdPurpose := 2, bringup := .served }, unlocks := { isOpen := BitVec.allOnes 5 }, fls := { bankA := { state := .erasing, cur := some ⟨.register, 0, none⟩ } } } 0).setFld Reg.FLS_CMD Fld.FLS_CMD_OP 1) { state := .erasing, cur := some ⟨.register, 0, none⟩ } { onS with mode := { mode := .hold, holdPurpose := 2, bringup := .served }, unlocks := { isOpen := BitVec.allOnes 5 }, fls := { bankA := { state := .erasing, cur := some ⟨.register, 0, none⟩ } } } ∧
    (fun (who : Nat) (u : State) (b : Bank) (s : State) => s.pwr.core = true ∧ who < 5 ∧ s.unlocked who = true ∧ u = (s.relock who).setFld Reg.FLS_CMD Fld.FLS_CMD_OP 4 ∧ b = u.fls.bank (faBank u.flsAddr)) 0 ((State.relock { onS with mode := { mode := .hold, holdPurpose := 2, bringup := .served }, unlocks := { isOpen := BitVec.allOnes 5 }, fls := { bankA := { state := .erasing, cur := some ⟨.register, 0, none⟩ } } } 0).setFld Reg.FLS_CMD Fld.FLS_CMD_OP 4) { state := .erasing, cur := some ⟨.register, 0, none⟩ } { onS with mode := { mode := .hold, holdPurpose := 2, bringup := .served }, unlocks := { isOpen := BitVec.allOnes 5 }, fls := { bankA := { state := .erasing, cur := some ⟨.register, 0, none⟩ } } } ∧
    (fun (who : Nat) (u : State) (b : Bank) (s : State) => s.pwr.core = true ∧ who < 5 ∧ s.unlocked who = true ∧ u = (s.relock who).setFld Reg.FLS_CMD Fld.FLS_CMD_OP 5 ∧ b = u.fls.bank (faBank u.flsAddr)) 0 ((State.relock { onS with mode := { mode := .hold, holdPurpose := 2, bringup := .served }, unlocks := { isOpen := BitVec.allOnes 5 }, fls := { bankA := { state := .eraseSuspended, cur := some ⟨.register, 0, none⟩ } } } 0).setFld Reg.FLS_CMD Fld.FLS_CMD_OP 5) { state := .eraseSuspended, cur := some ⟨.register, 0, none⟩ } { onS with mode := { mode := .hold, holdPurpose := 2, bringup := .served }, unlocks := { isOpen := BitVec.allOnes 5 }, fls := { bankA := { state := .eraseSuspended, cur := some ⟨.register, 0, none⟩ } } } ∧
    (fun (bank : Nat) (o : FlsOp) (w : BitVec 256) (s : State) => s.pwr.core = true ∧ bank < 2 ∧ (s.fls.bank bank).state = .programming ∧ (s.fls.bank bank).cur = some o ∧ o.word = some w ∧ o.client = .register) 0 ⟨.register, 0, some 5⟩ 5 { onS with fls := { bankA := { state := .programming, cur := some ⟨.register, 0, some 5⟩ } } } ∧
    (fun (bank : Nat) (o : FlsOp) (w : BitVec 256) (s : State) => s.pwr.core = true ∧ bank < 2 ∧ (s.fls.bank bank).state = .programming ∧ (s.fls.bank bank).cur = some o ∧ o.word = some w ∧ o.client = .register) 0 ⟨.register, 0, some 5⟩ 5 { onS with fls := { bankA := { state := .programming, cur := some ⟨.register, 0, some 5⟩ } } } ∧
    (fun (bank : Nat) (o : FlsOp) (s : State) => s.pwr.core = true ∧ bank < 2 ∧ (s.fls.bank bank).state = .erasing ∧ (s.fls.bank bank).cur = some o ∧ o.client = .register) 0 ⟨.register, 0, none⟩ { onS with fls := { bankA := { state := .erasing, cur := some ⟨.register, 0, none⟩ } } } ∧
    (fun (bank : Nat) (s : State) => s.pwr.core = true ∧ bank < 2 ∧ ((s.fls.bank bank).state = .erasing ∨ (s.fls.bank bank).state = .programming)) 0 { onS with fls := { bankA := { state := .erasing } } } ∧
    (fun (bank : Nat) (c q : FlsOp) (s : State) => s.pwr.core = true ∧ bank < 2 ∧ (s.fls.bank bank).state = .erasing ∧ (s.fls.bank bank).cur = some c ∧ faOff c.fa < 0x1000000 ∧ q ∈ (s.fls.bank bank).queue ∧ q.word.isSome = true ∧ faSector q.fa ≠ faSector c.fa) 0 ⟨.register, 0, none⟩ ⟨.register, 65536, some 5⟩ { onS with fls := { bankA := { state := .erasing, cur := some ⟨.register, 0, none⟩, queue := [⟨.register, 65536, some 5⟩] } } } ∧
    (fun (s : State) => s.pwr.core = true ∧ s.mode.bringup = .boot) { onS with mode := { mode := .standby, bringup := .boot } } ∧
    (fun (who : Nat) (u : State) (s : State) => s.pwr.core = true ∧ who < 5 ∧ s.unlocked who = true ∧ u = (s.relock who).setFld Reg.FLS_CMD Fld.FLS_CMD_OP 6 ∧ u.fls.locked = false ∧ (u.fls.password = none ∨ u.fls.password = some u.flsPwd) ∧ u.fls.stageA &&& 0x00FF0000 = 0 ∧ u.fls.stageB &&& 0xFFFF0000 = 0 ∧ u.fls.stageInfo &&& 0x3F = 0) 0 ((State.relock { onS with mode := { mode := .hold, holdPurpose := 2, bringup := .served }, unlocks := { isOpen := BitVec.allOnes 5 } } 0).setFld Reg.FLS_CMD Fld.FLS_CMD_OP 6) { onS with mode := { mode := .hold, holdPurpose := 2, bringup := .served }, unlocks := { isOpen := BitVec.allOnes 5 } } ∧
    (fun (who : Nat) (u : State) (p : BitVec 64) (s : State) => s.pwr.core = true ∧ who < 5 ∧ s.unlocked who = true ∧ u = (s.relock who).setFld Reg.FLS_CMD Fld.FLS_CMD_OP 6 ∧ u.fls.locked = false ∧ u.fls.password = some p ∧ p ≠ u.flsPwd) 0 ((State.relock { onS with mode := { mode := .hold, holdPurpose := 2, bringup := .served }, unlocks := { isOpen := BitVec.allOnes 5 }, fls := { password := some 7 } } 0).setFld Reg.FLS_CMD Fld.FLS_CMD_OP 6) 7 { onS with mode := { mode := .hold, holdPurpose := 2, bringup := .served }, unlocks := { isOpen := BitVec.allOnes 5 }, fls := { password := some 7 } } ∧
    (fun (who : Nat) (u : State) (s : State) => s.pwr.core = true ∧ who < 5 ∧ s.unlocked who = true ∧ u = (s.relock who).setFld Reg.FLS_CMD Fld.FLS_CMD_OP 7 ∧ u.fls.password = none) 0 ((State.relock { onS with mode := { mode := .hold, holdPurpose := 2, bringup := .served }, unlocks := { isOpen := BitVec.allOnes 5 } } 0).setFld Reg.FLS_CMD Fld.FLS_CMD_OP 7) { onS with mode := { mode := .hold, holdPurpose := 2, bringup := .served }, unlocks := { isOpen := BitVec.allOnes 5 } } :=
  ⟨by decide, by decide, by decide, by decide, by decide, by decide, by decide, by decide, by decide, by decide, by decide, by decide, by decide, by decide, by decide, by decide, by decide⟩

theorem witness_FramesByRegister :
    (fun (groups : Word) (s : State) => s.pwr.core = true ∧ s.commitCause groups = none) 1 onS ∧
    (fun (groups : Word) (c : Nat) (s : State) => s.pwr.core = true ∧ s.commitCause groups = some c) 0 8 onS ∧
    (fun (back : Nat) (f : Frame) (s : State) => s.pwr.core = true ∧ back % 4 ≠ 0 ∧ s.mode.mode ≠ .preserve ∧ s.shtBusy = false ∧ ((((s.sht.live.take 4).dropWhile (fun f => f.num != s.sht.inForce)).drop (back % 4)).head? = some f) ∧ f.state ≠ .rejected) 1 ⟨1, 0, 1, .kept, {}⟩ { onS with sht := { live := [⟨2, 0, 1, .kept, {}⟩, ⟨1, 0, 1, .kept, {}⟩], inForce := 2 } } ∧
    (fun (n : Nat) (f : Frame) (s : State) => s.sht.writing = some n ∧ s.frame n = some f ∧ s.sht.autoPending = none) 5 ⟨5, 0, 1, .kept, {}⟩ { onS with sht := { live := [⟨5, 0, 1, .kept, {}⟩], writing := some 5, inForce := 5 } } ∧
    (fun (n : Nat) (s : State) => s.sht.writing = some n ∧ s.sht.autoPending = none) 5 { onS with sht := { live := [⟨5, 0, 1, .kept, {}⟩], writing := some 5, inForce := 5 } } ∧
    (fun (n : Nat) (s : State) => s.sht.writing = some n ∧ s.sht.autoPending = none) 5 { onS with sht := { live := [⟨5, 0, 1, .kept, {}⟩], writing := some 5, inForce := 5 } } ∧
    (fun (at_ old : Nat) (s : State) => s.sht.strip = some (at_, old) ∧ s.sht.autoPending = none) 9 0 { onS with sht := { live := [⟨5, 0, 1, .kept, {}⟩], strip := some (9, 0), inForce := 5 } } ∧
    (fun (old : Nat) (s : State) => s.sht.autoPending = some old ∧ s.sht.writing = none ∧ (s.mode.mode = .serve ∨ s.mode.mode = .solo) ∧ s.mode.transit = false) 5 { onS with sht := { live := [⟨5, 0, 1, .kept, {}⟩], autoPending := some 5, inForce := 6 } } ∧
    (fun (old : Nat) (s : State) => s.sht.autoPending = some old ∧ s.sht.writing = none ∧ (s.mode.mode = .hold ∨ s.mode.mode = .restore ∨ s.mode.mode = .standby)) 5 { onS with mode := { mode := .hold, bringup := .served }, sht := { live := [⟨5, 0, 1, .kept, {}⟩], autoPending := some 5, inForce := 6 } } :=
  ⟨by decide, by decide, by decide, by decide, by decide, by decide, by decide, by decide, by decide⟩

theorem witness_RegisterWrites :
    (fun (who width addr : Nat) (data : BitVec 64) (s : State) => s.pwr.core = true ∧ who < 5 ∧ width < 4) 0 2 0 0 onS ∧
    (fun (who addr : Nat) (data : BitVec 64) (a : Nat) (b : Block) (r : RegDesc) (s : State) => s.pwr.core = true ∧ who < 5 ∧ addr % 4 = 0 ∧ blockOfPage (addr / 65536) = some b ∧ addr % 65536 < 32768 ∧ a = addr / 65536 * 65536 + addr % 2 ^ b.w ∧ regAt a = some r ∧ ownRow a = false ∧ r.maskOf [.rwg] = 0 ∧ r.maskOf [.rsc] = 0 ∧ r.maskOf [.rws] = 0 ∧ a ≠ Reg.EC_TEST_CTL ∧ a ≠ Reg.LC_OP_CMD ∧ a ≠ Reg.CRY_BOOT ∧ a % 65536 ≠ 0x60) 0 Reg.LC_OP_FIRST_LO 5 Reg.LC_OP_FIRST_LO ((blockOfPage (Reg.LC_OP_FIRST_LO / 65536)).get (by decide)) ((regAt Reg.LC_OP_FIRST_LO).get (by decide)) onS ∧
    (fun (who addr : Nat) (data : BitVec 64) (a : Nat) (b : Block) (s : State) => s.pwr.core = true ∧ who < 5 ∧ addr % 4 = 0 ∧ blockOfPage (addr / 65536) = some b ∧ 32768 ≤ addr % 65536 ∧ a = addr / 65536 * 65536 + addr % 2 ^ b.w ∧ rwsMask a ≠ 0) 0 (Reg.LC_CTL + 32768) 5 Reg.LC_CTL ((blockOfPage (Reg.LC_CTL / 65536)).get (by decide)) onS ∧
    (fun (who addr : Nat) (data : BitVec 64) (s : State) => s.pwr.core = true ∧ who < 5 ∧ addr % 4 = 0 ∧ blockOfPage (addr / 65536) = none) 0 0xFFF0000 5 onS ∧
    (fun (who addr : Nat) (data : BitVec 64) (s : State) => s.pwr.core = true ∧ who < 5 ∧ addr % 8 = 0) 0 0 5 onS ∧
    (fun (who : Nat) (s : State) => who < 5) 0 onS :=
  ⟨by decide, by decide, by decide, by decide, by decide, by decide⟩

theorem witness_UnlockKey :
    (fun (who key : Nat) (s : State) => s.pwr.core = true ∧ who < 5 ∧ key % 65536 = 0xD47E) 0 0xD47E onS ∧
    (fun (who key : Nat) (s : State) => s.pwr.core = true ∧ who < 5 ∧ key % 65536 ≠ 0xD47E) 0 5 onS :=
  ⟨by decide, by decide⟩

theorem witness_HostLinks :
    (fun (port link : Nat) (s : State) => s.linkInUse port link = true ∧ s.mode.mode ≠ .standby ∧ (s.link port link).state = .training ∧ (s.port port).ideReq = false) 0 0 { onS with cxl := { portA := { link0 := { state := .training } } } } ∧
    (fun (port link : Nat) (s : State) => s.linkInUse port link = true ∧ s.mode.mode ≠ .standby ∧ (s.link port link).state = .training ∧ (s.port port).ideReq = true ∧ (s.link port link).ide ≠ 1) 0 0 { onS with cxl := { portA := { ideReq := true, link0 := { state := .training } } } } ∧
    (fun (port link : Nat) (s : State) => s.linkInUse port link = true ∧ s.mode.mode ≠ .standby ∧ (s.link port link).state = .recovery ∧ (s.link port link).width ≠ 0 ∧ (s.link port link).retry = []) 0 0 { onS with cxl := { portA := { link0 := { state := .recovery, width := 16 } } } } ∧
    (fun (port link : Nat) (good : BitVec 16) (s : State) => s.linkInUse port link = true ∧ ((s.link port link).state = .l0 ∨ (s.link port link).state = .recovery)) 0 0 255 { onS with cxl := { portA := { link0 := { state := .l0, width := 16 } } } } ∧
    (fun (port link : Nat) (s : State) => s.linkInUse port link = true ∧ (s.link port link).state = .recovery) 0 0 { onS with cxl := { portA := { link0 := { state := .recovery } } } } ∧
    (fun (port link : Nat) (s : State) => s.linkInUse port link = true ∧ (s.link port link).state = .l0 ∧ (s.link port link).width < (s.port port).fullWidth) 0 0 { onS with cxl := { portA := { link0 := { state := .l0, width := 8 } } } } ∧
    (fun (port link : Nat) (s : State) => s.linkInUse port link = true ∧ link < 2 ∧ s.mode.mode ≠ .standby ∧ (s.link port link).perst = true ∧ (s.link port link).state = .down) 0 0 { onS with cxl := { portA := { link0 := { perst := true } } } } ∧
    (fun (port link : Nat) (s : State) => s.linkInUse port link = true ∧ (s.link port link).state = .l0) 0 0 { onS with cxl := { portA := { link0 := { state := .l0 } } } } ∧
    (fun (port link : Nat) (g : GpfWait) (s : State) => s.linkInUse port link = true ∧ (s.link port link).gpf = some g ∧ s.gpfClear port link g = true ∧ (s.link port link).state = .l0) 0 0 ⟨[], [], 0⟩ { onS with cxl := { portA := { link0 := { state := .l0, gpf := some ⟨[], [], 0⟩ } } } } ∧
    (fun (port link : Nat) (s : State) => s.linkInUse port link = true ∧ (s.link port link).ide = 1) 0 0 { onS with cxl := { portA := { link0 := { state := .l0, ide := 1 } } } } ∧
    (fun (port link : Nat) (s : State) => s.linkInUse port link = true ∧ (s.link port link).ide = 0 ∧ ((s.linkFuncs port link).any (fun fn => (s.func fn).secured) = true)) 0 0 { onS with cxl := { portA := { link0 := { state := .l0 } }, funcs := ⟨[(0, { secured := true })]⟩ } } ∧
    (fun (port link : Nat) (retry : Bool) (s : State) => s.linkInUse port link = true) 0 0 true { onS with cxl := { portA := { link0 := { state := .l0 } } } } :=
  ⟨by decide, by decide, by decide, by decide, by decide, by decide, by decide, by decide, by decide, by decide, by decide, by decide⟩

theorem witness_HostFunctions :
    (fun (fn : Nat) (hdm : Bool) (s : State) => s.cmd.jobs = [] ∧ s.cmd.transfer = none) 0 true onS ∧
    (fun (fn : Nat) (hdm : Bool) (j : Job) (s : State) => s.cmd.jobs = [j] ∧ j.mbx.fn = fn ∧ j.done = none ∧ j.committed = false) 0 true ⟨mb 0, 0xC305, 0, false, false, false, false, none⟩ { onS with cmd := { jobs := [⟨mb 0, 0xC305, 0, false, false, false, false, none⟩] } } ∧
    (fun (fn : Nat) (s : State) => s.linkInUse (s.linkOf fn).1 (s.linkOf fn).2 = true ∧ (s.linkFuncs (s.linkOf fn).1 (s.linkOf fn).2).contains fn = true) 0 onM ∧
    (fun (port link : Nat) (s : State) => s.linkInUse port link = true ∧ link < 2) 0 0 onM ∧
    (fun (port link : Nat) (c : ResetCause) (s : State) => s.linkInUse port link = true ∧ link < 2 ∧ (c = .hot ∨ c = .secondaryBus) ∧ s.mode.mode ≠ .standby ∧ (s.link port link).perst = false) 0 0 .hot { onM with cxl := { portA := { link0 := { state := .l0, perst := false } } } } ∧
    (fun (port link : Nat) (lds : BitVec 16) (s : State) => s.linkInUse port link = true ∧ link < 2 ∧ (s.port port).mode = 1) 0 0 3 onF ∧
    (fun (fn idx : Nat) (d : HdmProg) (ds : List Hdm) (s : State) => s.pwr.core = true ∧ fn < 32 ∧ idx < 4 ∧ s.fnUp fn = true ∧ (((s.func fn).hdm.getD idx {}).committed = false ∨ ((s.func fn).hdm.getD idx {}).lock = false) ∧ ds = (s.func fn).hdm.set idx { base := d.base, size := d.size, skip := d.skip, iw := d.iw, ig := d.ig, pos := d.pos, lock := d.lock }) 0 0 { base := 0, size := 268435456, skip := 0, iw := 1, ig := 256, pos := 0, lock := false } ([{ size := 268435456 }, {}, {}, {}]) onM ∧
    (fun (fn idx : Nat) (d : HdmProg) (s : State) => ((s.func fn).hdm.getD idx {}).committed = true ∧ ((s.func fn).hdm.getD idx {}).lock = true) 0 0 { base := 0, size := 268435456, skip := 0, iw := 1, ig := 256, pos := 0, lock := false } { onM with cxl := { onM.cxl with funcs := ⟨[(0, { hdm := [{ lock := true, committed := true }] })]⟩ } } ∧
    (fun (fn protocol : Nat) (words : List Word) (s : State) => s.pwr.core = true ∧ s.fnUp fn = true ∧ protocol < 4) 0 3 [] onM ∧
    (fun (port ld span : Nat) (s : State) => s.pwr.core = true ∧ port < 2 ∧ ld < 16 ∧ s.spanOk (16 * port + ld) span = true) 0 0 4 onS ∧
    (fun (port ld span : Nat) (s : State) => s.pwr.core = true ∧ port < 2 ∧ ld < 16 ∧ s.spanOk (16 * port + ld) span = false) 0 0 70000 onS :=
  ⟨by decide, by decide, by decide, by decide, by decide, by decide, by decide, by decide, by decide, by decide, by decide⟩

theorem witness_PoolIdentity :
    (fun (who : Nat) (value : Word) (s : State) => s.pwr.core = true ∧ who < 5 ∧ s.unlocked who = true ∧ (s.mode.mode = .hold ∨ s.mode.mode = .restore)) 0 5 { onS with mode := { mode := .hold, bringup := .served }, unlocks := { isOpen := BitVec.allOnes 5 } } ∧
    (fun (who : Nat) (value : Word) (s : State) => s.pwr.core = true ∧ who < 5 ∧ s.unlocked who = true ∧ s.mode.mode ≠ .hold ∧ s.mode.mode ≠ .restore) 0 5 { onS with unlocks := { isOpen := BitVec.allOnes 5 } } ∧
    (fun (who : Nat) (value : Word) (s : State) => s.pwr.core = true ∧ who < 5 ∧ s.unlocked who = false) 0 5 onS :=
  ⟨by decide, by decide, by decide⟩

theorem witness_LogbookFlushes :
    (fun (n k off : Nat) (r : LogRec) (rest : List LogRec) (s : State) => s.log.staged = r :: rest ∧ s.rollPlace r.len = some (k, off)) 0 0 0 ⟨1, 1, 1, false, 9, 0, []⟩ [] { onS with log := { staged := [⟨1, 1, 1, false, 9, 0, []⟩] } } ∧
    (fun (n : Nat) (u : State) (s : State) => s.log.flushing = some n ∧ s.log.secondFlush = 0 ∧ s.log.waiters = [] ∧ u = State.flushRecs n { s with log := { s.log with flushing := none } }) 1 (State.flushRecs 1 { onS with log := { staged := [⟨1, 1, 1, false, 9, 0, []⟩] } }) { onS with log := { staged := [⟨1, 1, 1, false, 9, 0, []⟩], flushing := some 1 } } ∧
    (fun (s : State) => s.pwr.core = true ∧ s.mode.mode ≠ .preserve ∧ s.log.flushing = none ∧ s.log.staged ≠ []) { onS with log := { staged := [⟨1, 1, 1, false, 9, 0, []⟩] } } ∧
    (fun (n t0 t1 : Nat) (s : State) => s.log.dropped = some (n, t0, t1) ∧ s.pwr.core = true ∧ s.log.used + logLen 5 ≤ logBuf ∧ s.mode.mode ≠ .preserve) 3 0 9 { onS with log := { dropped := some (3, 0, 9) } } ∧
    (fun (k : Nat) (s : State) => s.pwr.core = true ∧ (((List.range 4).map (fun j => (s.log.rollAt.1 + 1 + j) % rollSectors)).find? (fun j => s.log.rollUsed j) = some k)) 1 { onS with log := { roll := [⟨1, 0, ⟨1, 1, 1, false, 9, 0, []⟩⟩] } } :=
  ⟨by decide, by decide, by decide, by decide, by decide⟩

theorem witness_HomeReadsAndWrites :
    (fun (inst req : Nat) (errs : List (Nat × BitVec 16)) (s : State) => ((s.chan inst).rq.find? (fun r => r.id == req && r.issued) = none ∨ (s.chan inst).state ≠ .active)) 0 1 [] onS ∧
    (fun (inst req : Nat) (errs : List (Nat × BitVec 16)) (r : ChReq) (e : Entry) (c : Cell) (p k ld tag id : Nat) (u : State) (s : State) => ((s.chan inst).rq.find? (fun r => r.id == req && r.issued) = some r) ∧ (s.chan inst).state = .active ∧ r.rd = some (.entry id) ∧ (u = ((s.setChan inst { s.chan inst with rq := (s.chan inst).rq.filter (fun q => q.id != req) }).settle inst)) ∧ u.entry id = some e ∧ e.dst = .cxl p k ld tag false ∧ u.cell r.home = some c) 0 1 [] { id := 1, port := 0, home := ⟨false, 0⟩, dev := 0, level := 0, since := 0, rd := some (.entry 0), wr := none, issued := true } { src := 0, line := 0, dst := .cxl 0 0 0 7 false, op := .read, state := .home, bad := false, since := 0, arr := 0, ord := none, applied := false, result := none, tag := none, sent := false, owed := false } .poison 0 0 0 7 0 ((({ onS with ch := ⟨[(0, { state := .active, rq := [] })]⟩, trk := { entries := ⟨[(0, { src := 0, line := 0, dst := .cxl 0 0 0 7 false, op := .read, state := .home, bad := false, since := 0, arr := 0, ord := none, applied := false, result := none, tag := none, sent := false, owed := false })]⟩ }, mem := ⟨[(0, .poison)]⟩ } : State).setChan 0 { state := .active }).settle 0) { onS with ch := ⟨[(0, { state := .active, rq := [{ id := 1, port := 0, home := ⟨false, 0⟩, dev := 0, level := 0, since := 0, rd := some (.entry 0), wr := none, issued := true }] })]⟩, trk := { entries := ⟨[(0, { src := 0, line := 0, dst := .cxl 0 0 0 7 false, op := .read, state := .home, bad := false, since := 0, arr := 0, ord := none, applied := false, result := none, tag := none, sent := false, owed := false })]⟩ }, mem := ⟨[(0, .poison)]⟩ } ∧
    (fun (s : State) (h : Home) (line port : Nat) => (s.chan (s.dramOf h).inst).state = .active) { onS with ch := ⟨[(0, { state := .active })]⟩ } ⟨false, 0⟩ 0 0 ∧
    (fun (s : State) (line : Nat) => s.tier.refetch.has line = false ∧ s.mirrored = false) { onS with mode := { onS.mode with mode := .solo } } 0 ∧
    (fun (s : State) (line : Nat) => s.tier.refetch.has line = false ∧ s.mirrored = true) onS 0 ∧
    (fun (line bad : Nat) (d : Line) (s : State) => s.tier.refetch.find? line = some 1 ∧ bad = 0 ∧ s.vaultLine line = some (.data d)) 0 0 0 { onS with tier := { refetch := ⟨[(0, 1)]⟩ }, addr := { regions := ⟨[(0, { r0 with keySlot := 0 })]⟩ }, vlt := { map := ⟨[(0, ⟨0, 9⟩)]⟩, nand := { leaves := ⟨[(9, { leaf := 0, zone := 0, seq := 1, reloc := false, twinSrc := false, epoch := 0, regionId := 0, keytag := 0, poison := 0, prev := none, time := 0, lines := {}, programmed := true })]⟩ } } } ∧
    (fun (line bad : Nat) (s : State) => s.tier.refetch.find? line = some 1 ∧ bad ≠ 0) 0 1 { onS with tier := { refetch := ⟨[(0, 1)]⟩ } } ∧
    (fun (line bad : Nat) (s : State) => s.tier.refetch.find? line = some 2) 0 1 { onS with tier := { refetch := ⟨[(0, 2)]⟩ } } ∧
    (fun (s : State) (line : Nat) (d : Line) => s.trk.entries.cells = []) onS 0 0 ∧
    (fun (line : Nat) (errs : List (Nat × BitVec 16)) (m : MergeEntry) (s : State) => s.mergeOf line = some m ∧ s.atCursor line = false ∧ s.stopped (s.homeOf line) = false ∧ m.mask = Mask.full) 0 [] { inst := 0, data := 0, mask := Mask.full, since := 0, arr := 0 } { onS with ec := { merge := ⟨[(0, { inst := 0, data := 0, mask := Mask.full, since := 0, arr := 0 })]⟩ } } ∧
    (fun (line : Nat) (errs : List (Nat × BitVec 16)) (m : MergeEntry) (s : State) => s.mergeOf line = some m ∧ s.atCursor line = false ∧ s.stopped (s.homeOf line) = false ∧ m.mask ≠ Mask.full ∧ s.readsZero line = true ∧ s.mergeCount m.inst ≤ 56) 0 [] { inst := 0, data := 0, mask := 0, since := 0, arr := 0 } { onS with ec := { merge := ⟨[(0, { inst := 0, data := 0, mask := 0, since := 0, arr := 0 })]⟩ } } ∧
    (fun (line : Nat) (errs : List (Nat × BitVec 16)) (s : State) => (s.mergeOf line = none ∨ s.atCursor line = true ∨ s.stopped (s.homeOf line) = true)) 0 [] onS ∧
    (fun (inst req : Nat) (r : ChReq) (w : Cell) (s : State) => ((s.chan inst).wq.find? (fun r => r.id == req && r.issued) = some r) ∧ (s.chan inst).state = .active ∧ r.wr = some w) 0 1 { id := 1, port := 1, home := ⟨false, 0⟩, dev := 0, level := 0, since := 0, rd := none, wr := some .poison, issued := true } .poison { onS with ch := ⟨[(0, { state := .active, wq := [{ id := 1, port := 1, home := ⟨false, 0⟩, dev := 0, level := 0, since := 0, rd := none, wr := some .poison, issued := true }] })]⟩ } :=
  ⟨by decide, by decide, by decide, by decide, by decide, by decide, by decide, by decide, by decide, by decide, by decide, by decide, by decide⟩

theorem witness_ExtentMoves :
    (fun (x : Nat) (a : MoveAsk) (p : Nat) (rest : List (Nat × Nat)) (s : State) => s.movesAllowed = true ∧ x < s.addr.served.len ∧ s.moveOf x = none ∧ s.fencedExtent x = false ∧ s.tier.moves.length < s.conc ∧ (s.vlt.unrestored.cells.any (fun c => c.1 / extentLeaves == x) = false) ∧ (s.tier.asks.find? (fun a => a.extent == x && a.toHbm == !(s.placeOf x).1) = some a) ∧ a.why = .pin ∧ a.toHbm = true ∧ s.needsVictim x = false ∧ takePlace s.tier.freeHbm = some (p, rest)) 0 ⟨0, true, .pin⟩ 5 [(6, 1)] ({ onS with addr := { served := { len := 8 } }, tier := { asks := [⟨0, true, .pin⟩], freeHbm := [(5, 2)] } }) ∧
    (fun (x : Nat) (s : State) => s.movesAllowed = true ∧ x < s.addr.served.len ∧ s.moveOf x = none ∧ s.fencedExtent x = false ∧ s.tier.moves.length < s.conc ∧ (s.vlt.unrestored.cells.any (fun c => c.1 / extentLeaves == x) = false) ∧ (s.tier.asks.find? (fun a => a.extent == x && a.toHbm == !(s.placeOf x).1) = none) ∧ x ∉ s.wantedVictims) 0 { onS with addr := { served := { len := 8 } } } ∧
    (fun (x : Nat) (s : State) => s.movesAllowed = true ∧ x < s.addr.served.len ∧ s.moveOf x = none ∧ s.fencedExtent x = false ∧ s.tier.moves.length < s.conc ∧ (s.vlt.unrestored.cells.any (fun c => c.1 / extentLeaves == x) = false) ∧ (s.tier.asks.find? (fun a => a.extent == x && a.toHbm == !(s.placeOf x).1) = none) ∧ x ∈ s.wantedVictims) 1 { onS with addr := { served := { len := 8 } }, tier := { asks := [⟨0, true, .pin⟩], moved := ⟨[(1, (true, 3))]⟩, hbmTotal := 4 } } ∧
    (fun (x : Nat) (a : MoveAsk) (s : State) => s.movesAllowed = true ∧ x < s.addr.served.len ∧ s.moveOf x = none ∧ s.fencedExtent x = false ∧ s.tier.moves.length < s.conc ∧ (s.vlt.unrestored.cells.any (fun c => c.1 / extentLeaves == x) = true) ∧ (s.tier.asks.find? (fun a => a.extent == x && a.toHbm == !(s.placeOf x).1) = some a)) 0 ⟨0, true, .pin⟩ { { onS with addr := { served := { len := 8 } }, tier := { asks := [⟨0, true, .pin⟩], freeHbm := [(5, 2)] } } with vlt := { unrestored := ⟨[(3, { prio := 2, running := false, fromTwin := false, epoch := 0 })]⟩ } } ∧
    (fun (x : Nat) (s : State) => (s.movesAllowed = false ∨ s.addr.served.len ≤ x ∨ (s.moveOf x).isSome = true ∨ s.fencedExtent x = true ∨ s.conc ≤ s.tier.moves.length)) 9 onS ∧
    (fun (s : State) (m : Move) (c : Cell) => s.mergeOf (m.extent * extentLines + m.cursor) = none ∧ s.valid (leafOf (m.extent * extentLines + m.cursor)) = true ∧ m.refetch = false ∧ s.stopped ⟨m.fromHbm, m.fromHome * extentLines + m.cursor⟩ = false ∧ s.stopped ⟨m.toHbm, m.toHome * extentLines + m.cursor⟩ = false ∧ s.readPending ⟨m.fromHbm, m.fromHome * extentLines + m.cursor⟩ = false ∧ s.homeCell ⟨m.fromHbm, m.fromHome * extentLines + m.cursor⟩ = some c ∧ s.recode m.fromHbm m.toHbm c = some c) { onS with addr := { valid := ⟨[(0, ())]⟩ }, mem := ⟨[(Home.key ⟨false, 0⟩, .poison)]⟩ } { extent := 0, fromHbm := false, fromHome := 0, toHbm := true, toHome := 5, cursor := 0, reading := false, refetch := false } .poison ∧
    (fun (x : Nat) (m : Move) (s : State) => (s.moveOf x).isSome = true ∧ (s.ch.values.any (fun c => c.state == .retired) = false) ∧ (s.moveLines extentLines x).moveOf x = some m ∧ extentLines ≤ m.cursor) 0 { extent := 0, fromHbm := false, fromHome := 0, toHbm := true, toHome := 5, cursor := 32768, reading := false, refetch := false } { onS with tier := { moves := [{ extent := 0, fromHbm := false, fromHome := 0, toHbm := true, toHome := 5, cursor := 32768, reading := false, refetch := false }] } } ∧
    (fun (x : Nat) (s : State) => (s.moveOf x = none ∨ s.ch.values.any (fun c => c.state == .retired) = true)) 0 onS ∧
    (fun (s : State) => s.serving = true ∧ SMap.sortedL s.tier.age.cells = true) onS :=
  ⟨by decide, by decide, by decide, by decide, by decide, by decide, by decide, by decide, by decide⟩

theorem witness_WriteBehind :
    (fun (loc : Nat) (bad : List Nat) (leaf : Nat) (tb : Bool) (s : State) => s.wbRuns = true ∧ s.wbNext = some (leaf, tb) ∧ (((List.range leafLines).map (fun k => s.saveLine (leafLines * leaf + k) (bad.contains k))).all (fun r => r != .wait && r != .bad) = true)) 4 [] 0 false ({ onS with pwr := { onS.pwr with riding := true }, vlt := { nand := { supA := some ⟨1, 1, 0, 0, (1, 1, 2, 2), [], 0, 0⟩, pages := 16, blocks := 4, free := [(1, 0)] }, window := [⟨0, false⟩] } }) ∧
    (fun (loc : Nat) (bad : List Nat) (leaf : Nat) (tb : Bool) (k : Nat) (s : State) => s.wbRuns = true ∧ s.wbNext = some (leaf, tb) ∧ (((List.range leafLines).map (fun k => s.saveLine (leafLines * leaf + k) (bad.contains k))).contains .wait = false) ∧ ((List.range leafLines).find? (fun k => ((List.range leafLines).map (fun k => s.saveLine (leafLines * leaf + k) (bad.contains k))).getD k .wait == .bad) = some k) ∧ s.mode.mode ≠ .preserve) 4 [1] 0 false 1 { ({ onS with pwr := { onS.pwr with riding := true }, vlt := { nand := { supA := some ⟨1, 1, 0, 0, (1, 1, 2, 2), [], 0, 0⟩, pages := 16, blocks := 4, free := [(1, 0)] }, window := [⟨0, false⟩] } }) with addr := { valid := ⟨[(0, ())]⟩ }} ∧
    (fun (s u : State) (leaf loc : Nat) (tb : Bool) (l : List SaveRes) (g : Region) (i : Nat) => s.regionOf (leaf / extentLeaves) = some (i, g) ∧ s.locFree loc = true ∧ s.openSeg loc g.vzone = some u ∧ (l.all (fun r => r != .lost && r != .bad) = true)) { onS with addr := { regions := ⟨[(0, r0)]⟩, served := { onS.addr.served with pop := { onS.addr.served.pop with nandCes := 1 } } }, vlt := { nand := { pages := 16, blocks := 4, segs := ⟨[(1, ⟨0, 2, 1, 0, true⟩)]⟩ } } } { onS with addr := { regions := ⟨[(0, r0)]⟩, served := { onS.addr.served with pop := { onS.addr.served.pop with nandCes := 1 } } }, vlt := { nand := { pages := 16, blocks := 4, segs := ⟨[(1, ⟨0, 2, 1, 0, true⟩)]⟩ } } } 0 2147500032 false [] r0 0 ∧
    (fun (s : State) (leaf : Nat) (tb : Bool) (l : List SaveRes) (k : Nat) (d : Line) => l.length = 64 ∧ l[k]? = some (.data d)) onS 0 false (List.replicate 64 (.data 7)) 3 7 ∧
    (fun (s : State) (leaf : Nat) (tb : Bool) (l : List SaveRes) (k : Nat) => l.length = 64 ∧ (l[k]? = some .poison ∨ l[k]? = some .lost ∨ l[k]? = some .bad)) onS 0 false (List.replicate 64 .lost) 3 ∧
    (fun (s : State) (w : WbLeaf) (r : LeafRec) => s.vlt.nand.leaves.find? w.loc = some r ∧ w.reloc = false) { onS with vlt := { nand := { leaves := ⟨[(9, { leaf := 0, zone := 0, seq := 1, reloc := false, twinSrc := false, epoch := 0, regionId := 0, keytag := 0, poison := 0, prev := none, time := 0, lines := {}, programmed := true })]⟩ } } } ⟨0, 9, false, true, false⟩ ({ leaf := 0, zone := 0, seq := 1, reloc := false, twinSrc := false, epoch := 0, regionId := 0, keytag := 0, poison := 0, prev := none, time := 0, lines := {}, programmed := true }) ∧
    (fun (page : Nat) (pass : Bool) (s : State) => s.pwr.core = true ∧ pass = true ∧ locPos (4 * page) ≠ s.parityPos (locGroup (4 * page)) (locPage (4 * page)) ∧ (s.vlt.inflight.any (fun w => locPageId w.loc == page) = true) ∧ (∀ w ∈ s.vlt.inflight, s.vlt.nand.parity.contains (locSeg w.loc, locPage w.loc) = false)) 1 true { onS with vlt := { inflight := [⟨0, 4, false, false, false⟩], nand := { leaves := ⟨[(4, { leaf := 0, zone := 0, seq := 1, reloc := false, twinSrc := false, epoch := 0, regionId := 0, keytag := 0, poison := 0, prev := none, time := 0, lines := {}, programmed := true })]⟩ } } } ∧
    (fun (page : Nat) (pass : Bool) (s : State) => s.pwr.core = true ∧ pass = false ∧ (s.vlt.inflight.any (fun w => locPageId w.loc == page) = true)) 1 false { onS with vlt := { inflight := [⟨0, 4, false, false, false⟩] } } ∧
    (fun (s : State) => s.pwr.core = true ∧ s.formatted = true ∧ s.vlt.formatting = false ∧ (s.mode.mode ≠ .preserve ∨ s.vlt.step < 6)) { onS with vlt := { nand := { supA := some ⟨1, 1, 0, 0, (1, 1, 2, 2), [], 0, 0⟩, pages := 16, blocks := 4, free := [(1, 0)] } } } ∧
    (fun (s : State) => s.pwr.core = true ∧ s.formatted = true ∧ s.vlt.formatting = false ∧ s.vlt.cycle = none ∧ s.mode.mode ≠ .preserve) { onS with vlt := { nand := { supA := some ⟨1, 1, 0, 0, (1, 1, 2, 2), [], 0, 0⟩, pages := 16, blocks := 4, free := [(1, 0)] } } } ∧
    (fun (seq : Nat) (map : SMap LeafLoc) (s : State) => s.vlt.cycle = some (seq, map) ∧ s.mode.mode ≠ .preserve ∧ s.vlt.waiters = [] ∧ s.vlt.cleaning = none) 1 {} { onS with vlt := { cycle := some (1, {}), nand := { supA := some ⟨1, 1, 0, 0, (1, 1, 2, 2), [], 0, 0⟩, pages := 16, blocks := 4, free := [(1, 0)] } } } ∧
    (fun (zone : Nat) (dst : List Nat) (k : Nat) (s : State) => s.pwr.core = true ∧ s.fld Reg.VLT_CTL Fld.VLT_CTL_CLEAN_EN = 1 ∧ s.mode.mode ≠ .preserve ∧ s.vlt.cleaning = none ∧ s.vlt.formatting = false ∧ s.freePct < s.fldIn Reg.VLT_CLEAN Fld.VLT_CLEAN_START_PCT 1 50 ∧ s.cleanPick zone = some k ∧ s.liveIn k = [] ∧ s.segLive k = false) 0 [] 1 { ({ onS with vlt := { nand := { segs := ⟨[(1, ⟨0, 2, 1, 0, false⟩)]⟩ } } } : State) with regs := (onS.setReg Reg.VLT_CTL 0xFF).regs } ∧
    (fun (zone : Nat) (dst : List Nat) (k : Nat) (u : State) (s : State) => s.pwr.core = true ∧ s.fld Reg.VLT_CTL Fld.VLT_CTL_CLEAN_EN = 1 ∧ s.mode.mode ≠ .preserve ∧ s.vlt.cleaning = none ∧ s.vlt.formatting = false ∧ s.freePct < s.fldIn Reg.VLT_CLEAN Fld.VLT_CLEAN_START_PCT 1 50 ∧ s.cleanPick zone = some k ∧ s.relocate (s.liveIn k) dst = some u) 0 [] 1 { ({ onS with vlt := { nand := { segs := ⟨[(1, ⟨0, 2, 1, 0, false⟩)]⟩ } } } : State) with regs := (onS.setReg Reg.VLT_CTL 0xFF).regs } { ({ onS with vlt := { nand := { segs := ⟨[(1, ⟨0, 2, 1, 0, false⟩)]⟩ } } } : State) with regs := (onS.setReg Reg.VLT_CTL 0xFF).regs } ∧
    (fun (seg pos : Nat) (pass : Bool) (zeros : List Nat) (s : State) => pass = true ∧ (s.vlt.erasing.getD seg []).contains pos = true ∧ (zeros.all (fun z => decide (z ≤ 16)) = true) ∧ (s.vlt.erasing.getD seg []).filter (· != pos) = []) 1 3 true [0, 16] { onS with vlt := { erasing := ⟨[(1, [3])]⟩ } } ∧
    (fun (seg pos : Nat) (pass : Bool) (zeros : List Nat) (s : State) => pass = true ∧ (s.vlt.erasing.getD seg []).contains pos = true ∧ (zeros.any (fun z => decide (16 < z)) = true) ∧ s.vlt.checks.getD (16 * seg + pos) 0 < 2) 1 3 true [17] { onS with vlt := { erasing := ⟨[(1, [3])]⟩ } } ∧
    (fun (seg pos : Nat) (pass : Bool) (zeros : List Nat) (s : State) => (s.vlt.erasing.getD seg []).contains pos = true ∧ (pass = false ∨ zeros.any (fun z => decide (16 < z)) = true ∧ 2 ≤ s.vlt.checks.getD (16 * seg + pos) 0)) 1 3 false [17] { onS with vlt := { erasing := ⟨[(1, [3])]⟩ } } :=
  ⟨by decide, by decide, by decide, by decide, by decide, by decide, by decide, by decide, by decide, by decide, by decide, by decide, by decide, by decide, by decide, by decide⟩

theorem witness_SealRestoreAndFormat :
    (fun (s : State) => s.mode.mode = .preserve ∧ (s.vlt.step = 4 ∨ s.vlt.step = 3 ∧ (s.pair.departAcked = true ∨ s.pair.lost = true)) ∧ s.quiesced = true ∧ s.formatted = true) { onS with mode := { mode := .preserve, bringup := .served, leftMode := .solo }, vlt := { step := 4, nand := { supA := some ⟨1, 1, 0, 0, (1, 1, 2, 2), [], 0, 0⟩, pages := 16, blocks := 4, free := [(1, 0)] } } } ∧
    (fun (joules : Nat) (s : State) => s.mode.mode = .preserve ∧ s.vlt.step = 6 ∧ s.vlt.sealLeft = [] ∧ (s.pwr.pfailN = false ∨ s.pwr.holdupOk = false ∨ s.mode.railDropped = true ∨ s.mode.offPending = true)) 9 { ({ onS with mode := { mode := .preserve, bringup := .served, leftMode := .solo }, vlt := { step := 6, nand := { supA := some ⟨1, 1, 0, 0, (1, 1, 2, 2), [], 0, 0⟩, pages := 16, blocks := 4, free := [(1, 0)] } } } : State) with pwr := { onS.pwr with pfailN := false } } ∧
    (fun (joules : Nat) (s : State) => s.mode.mode = .preserve ∧ s.vlt.step = 6 ∧ s.vlt.sealLeft = [] ∧ s.pwr.pfailN = true ∧ s.pwr.holdupOk = true ∧ s.mode.railDropped = false ∧ s.mode.offPending = false ∧ s.pair.departAcked = false ∧ s.pair.twinLeft = false) 9 ({ onS with mode := { mode := .preserve, bringup := .served, leftMode := .solo }, vlt := { step := 6, nand := { supA := some ⟨1, 1, 0, 0, (1, 1, 2, 2), [], 0, 0⟩, pages := 16, blocks := 4, free := [(1, 0)] } } }) ∧
    (fun (joules : Nat) (s : State) => (s.mode.mode ≠ .preserve ∨ s.vlt.step ≠ 6 ∨ s.vlt.sealLeft ≠ [])) 9 onS ∧
    (fun (leaf : Nat) (u : Unrestored) (s : State) => s.vlt.unrestored.find? leaf = some u ∧ s.serving = true ∧ u.running = false ∧ (s.vlt.unrestored.cells.any (fun c => !c.2.running && ((c.2.fromTwin && s.twinGives) == (u.fromTwin && s.twinGives)) && Unrestored.before c (leaf, u)) = false)) 3 ({ fromTwin := false, prio := 2, running := false, got := false, epoch := 0 }) ({ onS with vlt := { unrestored := ⟨[(3, { fromTwin := false, prio := 2, running := false, got := false, epoch := 0 })]⟩ } }) ∧
    (fun (leaf : Nat) (s : State) => (s.vlt.unrestored.find? leaf = none ∨ s.serving = false)) 3 onS ∧
    (fun (leaf : Nat) (reads : List PageRead) (u : Unrestored) (s : State) => s.vlt.unrestored.find? leaf = some u ∧ u.running = true ∧ u.got = true) 3 [] ({ fromTwin := false, prio := 2, running := true, got := true, epoch := 0 }) ({ onS with vlt := { unrestored := ⟨[(3, { fromTwin := false, prio := 2, running := true, got := true, epoch := 0 })]⟩ } }) ∧
    (fun (leaf : Nat) (reads : List PageRead) (u : Unrestored) (r : LeafRec) (s : State) => s.vlt.unrestored.find? leaf = some u ∧ u.running = true ∧ u.got = false ∧ u.fromTwin = false ∧ leaf ∉ s.vlt.lostLeaves ∧ (s.chooseRecord recordTries leaf ((s.vlt.map.find? leaf).map (·.loc)) reads none).2 = some r) 0 [⟨0, 0, 0, 0⟩] ({ fromTwin := false, prio := 2, running := true, got := false, epoch := 0 }) { leaf := 0, zone := 0, seq := 1, reloc := false, twinSrc := false, epoch := 0, regionId := 0, keytag := 0, poison := 0, prev := none, time := 0, lines := {}, programmed := true } ({ onS with vlt := { unrestored := ⟨[(0, { fromTwin := false, prio := 2, running := true, got := false, epoch := 0 })]⟩, map := ⟨[(0, ⟨0, 9⟩)]⟩, nand := { leaves := ⟨[(9, { leaf := 0, zone := 0, seq := 1, reloc := false, twinSrc := false, epoch := 0, regionId := 0, keytag := 0, poison := 0, prev := none, time := 0, lines := {}, programmed := true })]⟩ } } }) ∧
    (fun (leaf : Nat) (reads : List PageRead) (u : Unrestored) (s : State) => s.vlt.unrestored.find? leaf = some u ∧ u.running = true ∧ u.got = false ∧ u.fromTwin = false ∧ leaf ∉ s.vlt.lostLeaves ∧ (s.chooseRecord recordTries leaf ((s.vlt.map.find? leaf).map (·.loc)) reads none).2 = none ∧ (s.twinReachable && decide (s.pair.twinState = 2)) = false) 0 [] ({ fromTwin := false, prio := 2, running := true, got := false, epoch := 0 }) ({ onS with vlt := { unrestored := ⟨[(0, { fromTwin := false, prio := 2, running := true, got := false, epoch := 0 })]⟩ } }) ∧
    (fun (leaf : Nat) (reads : List PageRead) (u : Unrestored) (s : State) => s.vlt.unrestored.find? leaf = some u ∧ u.running = true ∧ u.got = false ∧ u.fromTwin = false ∧ leaf ∈ s.vlt.lostLeaves) 0 [] ({ fromTwin := false, prio := 2, running := true, got := false, epoch := 0 }) ({ onS with vlt := { lostLeaves := [0], unrestored := ⟨[(0, { fromTwin := false, prio := 2, running := true, got := false, epoch := 0 })]⟩ } }) ∧
    (fun (who : Nat) (s : State) => s.pwr.core = true ∧ s.unlocked who = true ∧ s.cmd.formatArmed = true ∧ s.vlt.formatting = false) 0 { onS with unlocks := { isOpen := BitVec.allOnes 5 }, cmd := { formatArmed := true } } ∧
    (fun (who : Nat) (s : State) => s.pwr.core = true ∧ s.unlocked who = false) 0 onS ∧
    (fun (who : Nat) (s : State) => s.pwr.core = true ∧ s.unlocked who = true ∧ s.cmd.formatArmed = false) 0 { onS with unlocks := { isOpen := BitVec.allOnes 5 } } ∧
    (fun (failed : List (Nat × Nat)) (s : State) => s.vlt.formatting = true ∧ s.formatted = false ∧ s.vlt.waiters = []) [(1, 2)] { onS with vlt := { formatting := true } } :=
  ⟨by decide, by decide, by decide, by decide, by decide, by decide, by decide, by decide, by decide, by decide, by decide, by decide, by decide, by decide⟩

theorem witness_RdmaPackets :
    (fun (i : Instr) (p : RdmaPkt) (s : State) => (i = .rdmaWritePacket p ∨ i = .rdmaReadRequest p ∨ i = .cmpSwap p ∨ i = .fetchAdd p ∨ i = .rcUnsupportedOpcode p) ∧ s.portUp p.eth = false) (.cmpSwap (pk 0x14 5 .other)) (pk 0x14 5 .other) onS ∧
    (fun (i : Instr) (p : RdmaPkt) (s : State) => (i = .rdmaWritePacket p ∨ i = .rdmaReadRequest p ∨ i = .cmpSwap p ∨ i = .fetchAdd p ∨ i = .rcUnsupportedOpcode p) ∧ s.portUp p.eth = true ∧ s.forResponder p.eth = false) (.fetchAdd { pk 0x14 5 .other with eth := { eth0 with icrcGood := false } }) { pk 0x14 5 .other with eth := { eth0 with icrcGood := false } } onN ∧
    (fun (i : Instr) (p : RdmaPkt) (s : State) => (i = .rdmaWritePacket p ∨ i = .rdmaReadRequest p ∨ i = .cmpSwap p ∨ i = .fetchAdd p ∨ i = .rcUnsupportedOpcode p) ∧ s.portUp p.eth = true ∧ s.forResponder p.eth = true ∧ s.bufferedPort p.eth.mac p.eth.port + p.eth.bytes ≤ s.portShare p.eth.mac ∧ (s.ethPort p.eth.mac p.eth.port).stopped.contains (s.prioOf p.eth) = false ∧ s.net.ingress = [] ∧ (s.net.conns.cells.all (fun c => c.2.stall.isNone) = true) ∧ s.heldBack 2 = false) (.fetchAdd (pk 0x14 5 (.fetchAdd 8 256 1))) (pk 0x14 5 (.fetchAdd 8 256 1)) onN ∧
    (fun (s : State) (p : RdmaPkt) => (32 ≤ p.bth.opcode ∨ s.barredPkt p = false ∧ s.liveConn p.bth.qpn = none)) onN (pk 0x64 5 .other) ∧
    (fun (s : State) (p : RdmaPkt) (c : Conn) => p.bth.opcode < 32 ∧ s.barredPkt p = true ∧ s.liveConn p.bth.qpn = some c) { onN with mode := { mode := .hold, bringup := .served } } (pk 0x14 5 .other) cN ∧
    (fun (s : State) (p : RdmaPkt) (c : Conn) => p.bth.opcode < 32 ∧ s.barredPkt p = false ∧ s.liveConn p.bth.qpn = some c ∧ s.net.cached.has (p.bth.qpn % 1048576) = true ∧ c.stall = none ∧ (s.net.missbuf.any (fun q => q.1 == (p.bth.qpn % 1048576)) = false)) onN (pk 0x14 5 .other) cN ∧
    (fun (s : State) (p : RdmaPkt) (slot : Nat) (c : Conn) => c.routed = true ∧ (p.bth.tver ≠ 0 ∨ p.bth.pkey ≠ c.pkey)) onN { pk 0x14 5 .other with bth := { (pk 0x14 5 .other).bth with pkey := 7 } } 0 cN ∧
    (fun (s : State) (p : RdmaPkt) (slot : Nat) (c : Conn) => c.routed = true ∧ p.bth.tver = 0 ∧ p.bth.pkey = c.pkey ∧ p.eth.ecn ≠ 3 ∧ c.nakPending = false ∧ 0 < (p.bth.psn + psnMod - c.epsn) % psnMod ∧ (p.bth.psn + psnMod - c.epsn) % psnMod < 8388608 ∧ (s.ethPort c.route.mac c.route.port).link = true ∧ (s.ethPort c.route.mac c.route.port).pausedRx.has c.route.prio = false) onN (pk 0x14 6 .other) 0 cN ∧
    (fun (s : State) (p : RdmaPkt) (slot : Nat) (c : Conn) (dup : Bool) => c.step5 p dup = false) onN (pk 0x14 5 .other) 0 cN false ∧
    (fun (s : State) (p : RdmaPkt) (slot : Nat) (c : Conn) (dup : Bool) (syn : Nat) => c.step5 p dup = true ∧ s.access69 c p = some syn) onN (pk 0x14 5 (.fetchAdd 8 256 1)) 0 cN false 0x62 ∧
    (fun (s : State) (p : RdmaPkt) (c : Conn) (rkey va len right : Nat) => c.access p = (rkey, va, len, right)) onN (pk 0x14 5 (.fetchAdd 8 256 1)) cN 256 8 8 2 ∧
    (fun (s : State) (p : RdmaPkt) (slot : Nat) (c : Conn) (dup : Bool) => c.step5 p dup = true ∧ s.access69 c p = none ∧ s.nonResident c p = true ∧ (match s.oneRegion ((c.access p).2.1 % 2 ^ 44) (c.access p).2.2.1 with | some (_, r) => r.drop | none => false) = false) { onK with vlt := { unrestored := ⟨[(0, { prio := 2, running := false, fromTwin := false, epoch := 0 })]⟩ } } (pk 0x14 5 (.fetchAdd 8 256 1)) 0 cN false ∧
    (fun (addr line : Nat) (pl : List Byte) (j : Nat) => j < 64) 100 1 [1, 2, 3] 37 ∧
    (fun (s : State) (p : RdmaPkt) (slot : Nat) (c : Conn) (ep : Option Nat) (reth : Option Reth) (pl : List Byte) (rkey va len right : Nat) => p.body = .write reth pl ∧ c.access p = (rkey, va, len, right)) onK (pk 10 5 (.write (some ⟨8, 256, 2⟩) [1, 2])) 0 cN none (some ⟨8, 256, 2⟩) [1, 2] 256 8 2 1 ∧
    (fun (s : State) (p : RdmaPkt) (slot : Nat) (c : Conn) (ep : Option Nat) (r : Reth) => p.body = .read r) onK (pk 12 5 (.read ⟨8, 256, 2⟩)) 0 cN none ⟨8, 256, 2⟩ ∧
    (fun (s : State) (p : RdmaPkt) (slot : Nat) (c : Conn) (ep : Option Nat) (va k : Nat) (x y : BitVec 64) => p.body = .cmpSwap va k x y) onK (pk 0x13 5 (.cmpSwap 8 256 1 2)) 0 cN none 8 256 1 2 ∧
    (fun (s : State) (p : RdmaPkt) (slot : Nat) (c : Conn) (ep : Option Nat) (va k : Nat) (x : BitVec 64) => p.body = .fetchAdd va k x) onK (pk 0x14 5 (.fetchAdd 8 256 1)) 0 cN none 8 256 1 ∧
    (fun (id : Nat) (e : Entry) (s : State) => s.entry id = some e ∧ e.sent = true ∧ e.owed = false ∧ s.trk.waiting = [] ∧ (match e.dst with | .command _ => false | _ => true) = true) 0 entS { onS with trk := { entries := ⟨[(0, entS)]⟩ } } ∧
    (fun (id : Nat) (e : Entry) (s : State) => s.entry id = some e ∧ (e.sent = false ∨ e.owed = true)) 0 { entS with sent := false } { onS with trk := { entries := ⟨[(0, { entS with sent := false })]⟩ } } ∧
    (fun (e : Eth) (why : RxDrop) (s : State) => s.portUp e = true) eth0 .badFcs onN ∧
    (fun (e : Eth) (why : RxDrop) (s : State) => s.portUp e = false) eth0 .badFcs onS ∧
    (fun (e : Eth) (target : BitVec 128) (s : State) => s.portUp e = true ∧ e.fcsGood = true ∧ s.addressHere e.mac e.port target = false) eth0 9 onN ∧
    (fun (e : Eth) (target : BitVec 128) (s : State) => s.portUp e = true ∧ e.fcsGood = true ∧ s.addressHere e.mac e.port target = true ∧ (s.ethPort e.mac e.port).pausedRx.has (s.prioOf e) = false) eth0 1 onN ∧
    (fun (e : Eth) (pairId ctrlId : Nat) (seq : BitVec 64) (s : State) => s.pwr.core = true ∧ s.mode.mode ≠ .standby ∧ (s.ethPort e.mac e.port).link = true ∧ ((e.fcsGood && e.dstMacOwn && (s.ethPort e.mac e.port).addrs.any (fun a => a.ip == e.dstIp && !a.twin) && (e.udpDst == (if s.fld Reg.NET_PROBE Fld.NET_PROBE_PORT = 4791 then 4793 else s.fld Reg.NET_PROBE Fld.NET_PROBE_PORT))) = true) ∧ pairId = s.pairId ∧ (s.ethPort e.mac e.port).pausedRx.has (s.prioOf e) = false) { eth0 with udpDst := onN.fld Reg.NET_PROBE Fld.NET_PROBE_PORT } 0 0 9 onN ∧
    (fun (e : Eth) (pairId ctrlId : Nat) (seq : BitVec 64) (s : State) => (s.pwr.core = false ∨ s.mode.mode = .standby ∨ (s.ethPort e.mac e.port).link = false)) eth0 0 0 9 onS :=
  ⟨by decide, by decide, by decide, by decide, by decide, by decide, by decide, by decide, by decide, by decide, by decide, by decide, by decide, by decide, by decide, by decide, by decide, by decide, by decide, by decide, by decide, by decide, by decide, by decide, by decide⟩

theorem witness_PauseAndPorts :
    (fun (mac port : Nat) (prios : BitVec 8) (quanta : List Nat) (q : Nat) (s : State) => (s.ethPort mac port).link = true ∧ q < 8 ∧ prios.getLsbD q = true ∧ quanta.getD q 0 ≠ 0 ∧ q ∉ (s.ethPort mac port).ignore) 0 0 8 [0, 0, 0, 9] 3 onN ∧
    (fun (mac port : Nat) (prios : BitVec 8) (quanta : List Nat) (q : Nat) (s : State) => (s.ethPort mac port).link = true ∧ q < 8 ∧ prios.getLsbD q = true ∧ quanta.getD q 0 = 0) 0 0 8 [] 3 onN ∧
    (fun (mac port : Nat) (prios : BitVec 8) (quanta : List Nat) (q : Nat) (s : State) => (8 ≤ q ∨ prios.getLsbD q = false ∨ (s.ethPort mac port).link = false)) 0 0 8 [] 4 onN ∧
    (fun (mac port prio : Nat) (s : State) => (s.ethPort mac port).pausedRx.has prio = true) 0 0 3 { onN with net := { onN.net with ports := ⟨[(0, { link := true, addrs := [⟨1, 64, false⟩], pausedRx := ⟨[(3, 0)]⟩ })]⟩ } } ∧
    (fun (s : State) (mac port q : Nat) (f : NetFrame) => (s.ethPort mac port).egress = [f] ∧ f.prio = q ∧ f.mac = mac ∧ f.port = port ∧ (s.ethPort mac port).link = true) { onN with net := { onN.net with ports := ⟨[(0, { link := true, addrs := [⟨1, 64, false⟩], pausedRx := ⟨[(3, 0)]⟩, egress := [{ mac := 0, port := 0, prio := 3, dstMac := 5, vlan := 0, dscp := 0, dstIp := 6, udpSrc := 0, what := .ack 1 5 1 }] })]⟩ } } 0 0 3 { mac := 0, port := 0, prio := 3, dstMac := 5, vlan := 0, dscp := 0, dstIp := 6, udpSrc := 0, what := .ack 1 5 1 } ∧
    (fun (mac port prio : Nat) (s : State) => (s.ethPort mac port).pausedTx.has prio = true) 0 0 3 { onN with net := { onN.net with ports := ⟨[(0, { link := true, addrs := [⟨1, 64, false⟩], pausedTx := ⟨[(3, 0)]⟩ })]⟩ } } ∧
    (fun (mac port prio : Nat) (s : State) => (s.ethPort mac port).pausedTx.has prio = false) 0 0 3 onN ∧
    (fun (mac port prio : Nat) (s : State) => (s.ethPort mac port).pausedRx.has prio = true) 0 0 3 { onN with net := { onN.net with ports := ⟨[(0, { link := true, addrs := [⟨1, 64, false⟩], pausedRx := ⟨[(3, 0)]⟩ })]⟩ } } ∧
    (fun (mac port prio : Nat) (s : State) => (s.ethPort mac port).pausedTx.has prio = true) 0 0 3 { onN with net := { onN.net with ports := ⟨[(0, { link := true, addrs := [⟨1, 64, false⟩], pausedTx := ⟨[(3, 0)]⟩ })]⟩ } } ∧
    (fun (mac : Nat) (s : State) => s.net.retrain.contains mac = true ∧ mac < s.net.mode.length) 0 { onN with net := { onN.net with retrain := [0] } } ∧
    (fun (mac port : Nat) (up : Bool) (s : State) => s.pwr.core = true ∧ s.mode.mode ≠ .standby ∧ port ∈ s.activePorts mac ∧ mac ∉ s.net.retrain ∧ (s.ethPort mac port).link ≠ up) 0 0 false onN ∧
    (fun (slot : Nat) (s : State) => s.net.fetching.contains slot = true ∧ s.net.cached.size < 16 ∧ s.net.missbuf = []) 0 { onN with net := { onN.net with fetching := [0], cached := {} } } ∧
    (fun (slot : Nat) (s : State) => s.net.fetching.contains slot = false) 0 onN ∧
    (fun (slot : Nat) (c : Conn) (p : RdmaPkt) (since : Nat) (ep : Option Nat) (s : State) => s.conn slot = some c ∧ c.stall = some (p, since, ep) ∧ (s.barredPkt p = true ∨ s.nonResident c p = true)) 0 { cN with stall := some ((pk 0x14 5 (.fetchAdd 8 256 1)), 0, some 0) } (pk 0x14 5 (.fetchAdd 8 256 1)) 0 (some 0) { onN with mode := { mode := .hold, bringup := .served }, net := { onN.net with conns := ⟨[(0, { cN with stall := some ((pk 0x14 5 (.fetchAdd 8 256 1)), 0, some 0) })]⟩ } } ∧
    (fun (slot : Nat) (s : State) => (match s.conn slot with | some c => c.stall.isNone | none => true) = true) 0 onN ∧
    (fun (slot : Nat) (c : Conn) (s : State) => s.conn slot = some c ∧ c.ackCount ≠ 0 ∧ c.error = false ∧ c.closing = false ∧ (s.ethPort c.route.mac c.route.port).link = true ∧ (s.ethPort c.route.mac c.route.port).pausedRx.has c.route.prio = false) 0 { cN with ackCount := 2 } { onN with net := { onN.net with conns := ⟨[(0, { cN with ackCount := 2 })]⟩ } } ∧
    (fun (index : Nat) (r : Revocation) (i : Nat) (k : KeyEnt) (s : State) => (s.net.revs.all (fun r => r.epoch.isSome) = true) ∧ s.net.revs[index]? = some r ∧ s.drained r = true ∧ r.what = .key i ∧ s.net.keys.find? i = some k ∧ s.cmd.repl = []) 0 ⟨.key 1, some 0, 4⟩ 1 { state := 2, gen := 7 } { onN with net := { onN.net with epoch := 1, revs := [⟨.key 1, some 0, 4⟩], keys := ⟨[(1, { state := 2, gen := 7 })]⟩ } } ∧
    (fun (index : Nat) (r : Revocation) (s : State) => s.revokeAdvance.net.revs[index]? = some r ∧ s.revokeAdvance.drained r = false) 0 ⟨.key 1, some 0, 4⟩ { onN with net := { onN.net with epoch := 1, counts := [1, 0, 0, 0], revs := [⟨.key 1, some 0, 4⟩] } } ∧
    (fun (s : State) => (s.net.revs.any (fun r => r.epoch.isNone) = true) ∧ s.net.counts.getD ((s.net.epoch + 1) % 4) 0 = 0) { onN with net := { onN.net with revs := [⟨.key 1, none, 4⟩] } } :=
  ⟨by decide, by decide, by decide, by decide, by decide, by decide, by decide, by decide, by decide, by decide, by decide, by decide, by decide, by decide, by decide, by decide, by decide, by decide, by decide⟩

theorem witness_ConnectionManagement :
    (fun (i : Instr) (e : Eth) (r : CmReq) (q : Nat) (s : State) => (i = .cmReq e r ∨ i = .cmRtu e q ∨ i = .cmMra e q ∨ i = .cmRej e q ∨ i = .cmDreq e q ∨ i = .cmDrep e q) ∧ s.portUp e = false) (.cmRtu eth0 4) eth0 ⟨3, 9, 0xFFFF, 5, 1024, 4, 4, true⟩ 4 onS ∧
    (fun (i : Instr) (e : Eth) (r : CmReq) (q : Nat) (s : State) => (i = .cmReq e r ∨ i = .cmRtu e q ∨ i = .cmMra e q ∨ i = .cmRej e q ∨ i = .cmDreq e q ∨ i = .cmDrep e q) ∧ s.portUp e = true ∧ s.forResponder e = false) (.cmRtu { eth0 with icrcGood := false } 4) { eth0 with icrcGood := false } ⟨3, 9, 0xFFFF, 5, 1024, 4, 4, true⟩ 4 onN ∧
    (fun (i : Instr) (e : Eth) (r : CmReq) (q : Nat) (s : State) => (i = .cmReq e r ∨ i = .cmRtu e q ∨ i = .cmMra e q ∨ i = .cmRej e q ∨ i = .cmDreq e q ∨ i = .cmDrep e q) ∧ s.portUp e = true ∧ s.forResponder e = true ∧ s.mode.mode = .hold) (.cmRtu eth0 4) eth0 ⟨3, 9, 0xFFFF, 5, 1024, 4, 4, true⟩ 4 { onN with mode := { mode := .hold, bringup := .served } } ∧
    (fun (e : Eth) (r : CmReq) (d slot : Nat) (svc : Nat) (s : State) => s.portUp e = true ∧ s.forResponder e = true ∧ s.mode.mode ≠ .hold ∧ (s.net.listen.find? (fun l => l.1 == r.serviceId) = some (svc, d)) ∧ s.newSlot 0 = some slot ∧ r.rc = true ∧ (r.mtu = 1024 ∨ r.mtu = 2048 ∨ r.mtu = 4096) ∧ s.replicates = false ∧ (s.ethPort e.mac e.port).pausedRx.has (s.prioOf e) = false) eth0 ⟨3, 9, 0xFFFF, 5, 1024, 4, 4, true⟩ 2 1 3 ({ onN with mode := { mode := .solo, bringup := .served }, net := { onN.net with listen := [(3, 2)] } }) ∧
    (fun (e : Eth) (r : CmReq) (d slot : Nat) (svc : Nat) (s : State) => s.portUp e = true ∧ s.forResponder e = true ∧ s.mode.mode ≠ .hold ∧ (s.net.listen.find? (fun l => l.1 == r.serviceId) = some (svc, d)) ∧ s.newSlot 0 = some slot ∧ r.rc = true ∧ (r.mtu = 1024 ∨ r.mtu = 2048 ∨ r.mtu = 4096) ∧ s.replicates = true) eth0 ⟨3, 9, 0xFFFF, 5, 1024, 4, 4, true⟩ 2 1 3 { ({ onN with mode := { mode := .solo, bringup := .served }, net := { onN.net with listen := [(3, 2)] } }) with mode := { mode := .serve, bringup := .served }, twl := { pathA := { state := .up } } } ∧
    (fun (e : Eth) (r : CmReq) (s : State) => s.portUp e = true ∧ s.forResponder e = true ∧ s.mode.mode ≠ .hold ∧ (s.net.listen.find? (fun l => l.1 == r.serviceId) = none ∨ s.newSlot 0 = none ∨ r.rc = false ∨ r.mtu ≠ 1024 ∧ r.mtu ≠ 2048 ∧ r.mtu ≠ 4096) ∧ (s.ethPort e.mac e.port).pausedRx.has (s.prioOf e) = false) eth0 ⟨3, 9, 0xFFFF, 5, 1024, 4, 4, true⟩ onN ∧
    (fun (e : Eth) (qpn : Nat) (c : Conn) (s : State) => s.portUp e = true ∧ s.forResponder e = true ∧ s.mode.mode ≠ .hold ∧ s.liveConn qpn = some c) eth0 8388608 cN onN ∧
    (fun (e : Eth) (qpn : Nat) (s : State) => s.portUp e = true ∧ s.forResponder e = true ∧ s.mode.mode ≠ .hold) eth0 8388608 onN ∧
    (fun (e : Eth) (qpn : Nat) (c : Conn) (s : State) => s.portUp e = true ∧ s.forResponder e = true ∧ s.mode.mode ≠ .hold ∧ s.connOfQpn qpn = some c ∧ c.closing = false ∧ c.rts = true ∧ (c.own && s.replicates) = false ∧ c.ops = [] ∧ c.stall = none) eth0 8388608 cN ({ onN with mode := { mode := .solo, bringup := .served } }) ∧
    (fun (e : Eth) (qpn : Nat) (c : Conn) (s : State) => s.portUp e = true ∧ s.forResponder e = true ∧ s.mode.mode ≠ .hold ∧ s.connOfQpn qpn = some c ∧ c.closing = false ∧ c.rts = true ∧ (c.own && s.replicates) = false ∧ c.ops = [] ∧ c.stall = none ∧ (s.ethPort c.route.mac c.route.port).link = true ∧ (s.ethPort c.route.mac c.route.port).pausedRx.has c.route.prio = false) eth0 8388608 cN ({ onN with mode := { mode := .solo, bringup := .served } }) ∧
    (fun (e : Eth) (qpn : Nat) (c : Conn) (s : State) => s.portUp e = true ∧ s.forResponder e = true ∧ s.mode.mode ≠ .hold ∧ s.connOfQpn qpn = some c ∧ c.closing = true ∧ c.ops = [] ∧ c.twinWait = false) eth0 8388608 { cN with closing := true } { onN with net := { onN.net with conns := ⟨[(0, { cN with closing := true })]⟩ } } ∧
    (fun (qpn : Nat) (c : Conn) (s : State) => s.connOfQpn qpn = some c ∧ c.closing = false ∧ c.rts = true ∧ (c.own && s.replicates) = false ∧ c.ops = [] ∧ c.stall = none ∧ c.error = true ∧ (s.ethPort c.route.mac c.route.port).link = true ∧ (s.ethPort c.route.mac c.route.port).pausedRx.has c.route.prio = false) 8388608 { cN with error := true } { ({ onN with mode := { mode := .solo, bringup := .served } }) with net := { onN.net with conns := ⟨[(0, { cN with error := true })]⟩ } } ∧
    (fun (qpn : Nat) (s : State) => (match s.connOfQpn qpn with | some c => !c.error || c.closing | none => true) = true) 8388608 onN :=
  ⟨by decide, by decide, by decide, by decide, by decide, by decide, by decide, by decide, by decide, by decide, by decide, by decide, by decide⟩

theorem witness_TwinLinkFrames :
    (fun (path : Nat) (h : TwHeader) (payload : List (BitVec 8)) (s : State) => (s.path path).up = false) 0 ⟨0, 0, false, 0, 0, 0, true⟩ [] onS ∧
    (fun (path : Nat) (h : TwHeader) (payload : List (BitVec 8)) (s : State) => path < 2 ∧ (s.path path).up = true ∧ h.pseq = ((s.rxHeader path h).path path).rxPseq) 0 ⟨0, 0, false, 0, 0, 0, true⟩ [] ({ onS with twl := { pathA := { state := .up } } }) ∧
    (fun (path : Nat) (h : TwHeader) (payload : List (BitVec 8)) (s : State) => path < 2 ∧ (s.path path).up = true ∧ h.pseq ≠ ((s.rxHeader path h).path path).rxPseq ∧ ((s.rxHeader path h).path path).nakSent = false) 0 { (⟨0, 0, false, 0, 0, 0, true⟩ : TwHeader) with pseq := 4 } [] ({ onS with twl := { pathA := { state := .up } } }) ∧
    (fun (path : Nat) (h : TwHeader) (payload : List (BitVec 8)) (s : State) => path < 2 ∧ (s.path path).up = true ∧ h.pseq ≠ ((s.rxHeader path h).path path).rxPseq ∧ ((s.rxHeader path h).path path).nakSent = true) 0 { (⟨0, 0, false, 0, 0, 0, true⟩ : TwHeader) with pseq := 4 } [] ({ onS with twl := { pathA := { state := .up, nakSent := true } } }) ∧
    (fun (s : State) (h : TwHeader) (payload : List Byte) => (2 ^ 19 ≤ (h.msn + 2 ^ 20 - s.twl.rxMsn) % 2 ^ 20 ∨ (s.twl.staging.getD h.msn {}).frames.has h.off = true ∨ (s.twl.staging.getD h.msn {}).msg.isSome = true)) { onS with twl := { rxMsn := 5 } } ⟨0, 0, false, 0, 0, 0, true⟩ [] ∧
    (fun (s : State) (h : TwHeader) (payload : List Byte) => (h.msn + 2 ^ 20 - s.twl.rxMsn) % 2 ^ 20 < 2 ^ 19 ∧ (s.twl.staging.getD h.msn {}).frames.has h.off = false ∧ (s.twl.staging.getD h.msn {}).msg = none ∧ h.last = false ∧ (s.twl.staging.getD h.msn {}).count = none) onS ⟨0, 0, false, 0, 0, 0, false⟩ [] ∧
    (fun (s : State) (n : Nat) (h : TwHeader) => h.nak = false ∧ s.twl.pathA.leaves = false ∧ s.twl.pathB.leaves = false ∧ s.twl.sendq = []) onS 0 ⟨0, 0, false, 0, 0, 0, true⟩ ∧
    (fun (s : State) (n : Nat) (h : TwHeader) (f : TxFrame) (rest : List TxFrame) => n < 2 ∧ h.nak = false ∧ (s.path n).replay = f :: rest ∧ (h.ackseq + 4097 - f.pseq) % 4096 ≤ rest.length + 1 ∧ s.twl.pathA.leaves = false ∧ s.twl.pathB.leaves = false ∧ s.twl.sendq = []) ({ onS with twl := { pathA := { state := .up, replay := [⟨7, 0, 0, true⟩] } } }) 0 { (⟨0, 0, false, 0, 0, 0, true⟩ : TwHeader) with ackseq := 7 } ⟨7, 0, 0, true⟩ [] ∧
    (fun (path : Nat) (h : TwHeader) (s : State) => (s.path path).up = true) 0 ⟨0, 0, false, 0, 0, 0, true⟩ ({ onS with twl := { pathA := { state := .up } } }) ∧
    (fun (path : Nat) (h : TwHeader) (s : State) => (s.path path).up = false) 0 ⟨0, 0, false, 0, 0, 0, true⟩ onS ∧
    (fun (path : Nat) (h : TwHeader) (b : TwBeat) (s : State) => path < 2 ∧ (s.path path).up = true ∧ b.pairId = s.pairId ∧ b.ctrlId = s.ctrlId ^^^ 1 ∧ s.pair.twinState = (if s.pair.lost then 7 else b.state % 8)) 0 ⟨0, 0, false, 0, 0, 0, true⟩ ⟨7, false, 1, 0, 0, 0, 0, 0⟩ ({ onS with twl := { pathA := { state := .up, missed := 3 } } }) ∧
    (fun (path : Nat) (h : TwHeader) (b : TwBeat) (s : State) => path < 2 ∧ (s.path path).up = true ∧ b.pairId = s.pairId ∧ b.ctrlId = s.ctrlId ^^^ 1 ∧ s.pair.twinState ≠ (if s.pair.lost then 7 else b.state % 8)) 0 ⟨0, 0, false, 0, 0, 0, true⟩ ⟨2, false, 1, 0, 0, 0, 0, 0⟩ ({ onS with twl := { pathA := { state := .up, missed := 3 } } }) ∧
    (fun (path : Nat) (h : TwHeader) (b : TwBeat) (s : State) => path < 2 ∧ (s.path path).up = true ∧ (b.pairId ≠ s.pairId ∨ b.ctrlId ≠ s.ctrlId ^^^ 1)) 0 ⟨0, 0, false, 0, 0, 0, true⟩ ⟨2, false, 5, 0, 0, 0, 0, 0⟩ ({ onS with twl := { pathA := { state := .up, missed := 3 } } }) ∧
    (fun (s : State) => s.twl.pathA.up = true ∧ s.twl.pathB.up = false ∧ s.twl.owedCredit < 8) { onS with twl := { pathA := { state := .up } } } ∧
    (fun (s : State) => s.twl.pathA.up = false ∧ s.twl.pathB.up = false) onS ∧
    (fun (path : Nat) (s : State) => path < 2 ∧ (s.path path).state = .up ∧ (s.path path).missed + 1 < 25) 0 { onS with twl := { pathA := { state := .up } } } ∧
    (fun (path : Nat) (s : State) => path < 2 ∧ (s.path path).state = .up ∧ 25 ≤ (s.path path).missed + 1) 0 { onS with twl := { pathA := { state := .up, missed := 24 } } } ∧
    (fun (path : Nat) (s : State) => (s.path path).state ≠ .up) 0 onS ∧
    (fun (s : State) (n : Nat) => n < 2 ∧ (s.path n).state ≠ .dead ∧ (s.path n).state ≠ .down ∧ (s.path (1 - n)).up = true) { onS with twl := { pathA := { state := .up }, pathB := { state := .up } } } 0 ∧
    (fun (s : State) (n : Nat) => n < 2 ∧ (s.path n).state ≠ .dead ∧ (s.path n).state ≠ .down ∧ (s.path (1 - n)).up = false ∧ s.twl.cut = false) { onS with twl := { pathA := { state := .up }, cut := false } } 0 ∧
    (fun (path : Nat) (s : State) => path < 2 ∧ (s.path path).state = .up ∧ (s.path path).blocked = false ∧ (s.path path).replay ≠ [] ∧ (s.path path).expired = false) 0 { onS with twl := { pathA := { state := .up, replay := [⟨7, 0, 0, true⟩] } } } ∧
    (fun (path : Nat) (s : State) => path < 2 ∧ (s.path path).state = .up ∧ (s.path path).blocked = false ∧ (s.path path).replay ≠ [] ∧ (s.path path).expired = true ∧ (s.path (1 - path)).takes = false ∧ (s.path (1 - path)).leaves = false ∧ s.twl.sendq = []) 0 { onS with twl := { pathA := { state := .up, expired := true, replay := [⟨7, 0, 0, true⟩] } } } ∧
    (fun (path : Nat) (s : State) => (s.path path).state = .training) 0 { onS with twl := { pathA := { state := .training } } } ∧
    (fun (path : Nat) (s : State) => (s.path path).state ≠ .training ∧ ((s.path path).blocked = true ∨ (s.path path).state = .retiring ∧ (s.path path).upSent = true)) 0 { onS with twl := { pathA := { state := .up, blocked := true } } } ∧
    (fun (path : Nat) (s : State) => (s.path path).state = .dead ∧ s.heldDead path = false ∧ s.twlOn = true) 0 { ({ onS with twl := { pathA := { state := .dead } } } : State) with regs := (onS.setFld Reg.TWL_CTL Fld.TWL_CTL_ENABLE 1).regs } ∧
    (fun (path : Nat) (h : TwHeader) (b : TwPathUp) (s : State) => (s.twlOn = false ∨ (s.path path).state = .down ∨ s.heldDead path = true)) 0 ⟨0, 0, false, 0, 0, 0, true⟩ ⟨0, 0, 0, false, 0⟩ onS ∧
    (fun (path : Nat) (h : TwHeader) (b : TwPathUp) (s : State) => path < 2 ∧ s.twlOn = true ∧ s.heldDead path = false ∧ (s.path path).state = .training ∧ b.pairId = s.pairId ∧ b.ctrlId = s.ctrlId ^^^ 1 ∧ b.ack = false ∧ (s.path path).upSent = true ∧ (s.path path).upAcked = false) 0 ⟨0, 0, false, 0, 0, 0, true⟩ ⟨1, 0, 0, false, 0⟩ { ({ onS with twl := { pathA := { state := .training, upSent := true } } } : State) with regs := (onS.setFld Reg.TWL_CTL Fld.TWL_CTL_ENABLE 1).regs } ∧
    (fun (path : Nat) (h : TwHeader) (b : TwPathUp) (s : State) => path < 2 ∧ s.twlOn = true ∧ s.heldDead path = false ∧ (s.path path).state = .training ∧ b.pairId = s.pairId ∧ b.ctrlId = s.ctrlId ^^^ 1 ∧ b.ack = true ∧ (s.path path).upSent = true ∧ (s.path path).upRecv = true) 0 ⟨0, 0, false, 0, 0, 0, true⟩ ⟨1, 0, 0, true, 0⟩ { ({ onS with twl := { pathA := { state := .training, upSent := true, upRecv := true } } } : State) with regs := (onS.setFld Reg.TWL_CTL Fld.TWL_CTL_ENABLE 1).regs } ∧
    (fun (s : State) (n : Nat) => s.twl.cut = true) onS 0 :=
  ⟨by decide, by decide, by decide, by decide, by decide, by decide, by decide, by decide, by decide, by decide, by decide, by decide, by decide, by decide, by decide, by decide, by decide, by decide, by decide, by decide, by decide, by decide, by decide, by decide, by decide, by decide, by decide, by decide, by decide⟩

theorem witness_LanesAndForcedDeath :
    (fun (path lane : Nat) (lostLock : Bool) (s : State) => ((s.path path).up = false ∨ (s.path path).lanesOut.getLsbD lane = true)) 0 1 false onS ∧
    (fun (path lane : Nat) (lostLock : Bool) (s : State) => path < 2 ∧ (s.path path).up = true ∧ (s.path path).lanesOut.getLsbD lane = false ∧ s.fld Reg.TWL_CTL Fld.TWL_CTL_RETIRE_EN = 0) 0 1 false { ({ onS with twl := { pathA := { state := .up } } } : State) with regs := (onS.setFld Reg.TWL_CTL Fld.TWL_CTL_RETIRE_EN 0).regs } ∧
    (fun (path lane : Nat) (lostLock : Bool) (s : State) => path < 2 ∧ (s.path path).up = true ∧ s.fld Reg.TWL_CTL Fld.TWL_CTL_RETIRE_EN = 1 ∧ (s.path path).target = none ∧ (s.path path).retireWait = none ∧ (s.path path).lanesOut = 0 ∧ ((s.path (1 - path)).state ≠ .retiring ∨ lostLock = true)) 0 1 false { ({ onS with twl := { pathA := { state := .up } } } : State) with regs := (onS.setFld Reg.TWL_CTL Fld.TWL_CTL_RETIRE_EN 1).regs } ∧
    (fun (path lane : Nat) (lostLock : Bool) (s : State) => path < 2 ∧ (s.path path).up = true ∧ lostLock = false ∧ s.fld Reg.TWL_CTL Fld.TWL_CTL_RETIRE_EN = 1 ∧ (s.path path).target = none ∧ (s.path path).retireWait = none ∧ (s.path path).lanesOut = 0 ∧ (s.path (1 - path)).state = .retiring) 0 1 false { onS with twl := { pathA := { state := .up }, pathB := { state := .retiring } }, regs := (onS.setFld Reg.TWL_CTL Fld.TWL_CTL_RETIRE_EN 1).regs } ∧
    (fun (path : Nat) (l : BitVec 8) (s : State) => path < 2 ∧ (s.path path).retireWait = some l ∧ (s.path path).state = .up) 0 15 { onS with twl := { pathA := { state := .up, retireWait := some 15 } } } ∧
    (fun (path : Nat) (s : State) => (s.path path).retireWait = none) 0 onS ∧
    (fun (path : Nat) (h : TwHeader) (which : Nat) (lanes : BitVec 8) (ack : Bool) (s : State) => path < 2 ∧ which < 2 ∧ (s.path path).up = true ∧ ack = false ∧ (s.path which).up = true ∧ (s.path (1 - which)).takes = false ∧ h.nak = false ∧ (s.path path).replay = [] ∧ s.twl.pathA.leaves = false ∧ s.twl.pathB.leaves = false ∧ s.twl.sendq = [] ∧ (s.path (1 - which)).replay = []) 0 ⟨0, 0, false, 0, 0, 0, true⟩ 0 15 false ({ onS with twl := { pathA := { state := .up } } }) ∧
    (fun (path : Nat) (h : TwHeader) (which : Nat) (lanes : BitVec 8) (ack : Bool) (s : State) => path < 2 ∧ which < 2 ∧ (s.path path).up = true ∧ ack = true ∧ (s.path which).state = .retiring) 0 ⟨0, 0, false, 0, 0, 0, true⟩ 0 15 true ({ onS with twl := { pathA := { state := .retiring } } }) ∧
    (fun (path : Nat) (s : State) => path < 2 ∧ (s.path path).state = .retiring ∧ (s.path path).retireAcked = false) 0 { onS with twl := { pathA := { state := .retiring } } } ∧
    (fun (path : Nat) (s : State) => ((s.path path).state ≠ .retiring ∨ (s.path path).retireAcked = true)) 0 onS ∧
    (fun (path : Nat) (locked : Bool) (s : State) => path < 2 ∧ locked = true ∧ (s.path path).state = .retiring ∧ (s.path path).retireAcked = true ∧ (s.path path).upSent = false ∧ (s.path path).upAcked = false) 0 true { onS with twl := { pathA := { state := .retiring, retireAcked := true } } } ∧
    (fun (path : Nat) (locked : Bool) (s : State) => locked = false ∧ (s.path path).state = .retiring ∧ (s.path path).retireAcked = true) 0 false { onS with twl := { pathA := { state := .retiring, retireAcked := true } } } ∧
    (fun (path : Nat) (pass : Bool) (s : State) => path < 2 ∧ pass = true ∧ (s.path path).state = .up ∧ (s.path path).lanesOut ≠ 0) 0 true { onS with twl := { pathA := { state := .up, lanesOut := 15 } } } ∧
    (fun (path : Nat) (pass : Bool) (s : State) => (pass = false ∨ (s.path path).state ≠ .up ∨ (s.path path).lanesOut = 0)) 0 false onS ∧
    (fun (who path : Nat) (dead : Bool) (s : State) => path < 2 ∧ s.unlocked who = true ∧ dead = true ∧ (s.path path).state ≠ .down) 0 0 true { ({ onS with twl := { pathA := { state := .training } } } : State) with unlocks := { isOpen := BitVec.allOnes 5 } } ∧
    (fun (who path : Nat) (dead : Bool) (s : State) => path < 2 ∧ s.unlocked who = true ∧ dead = false) 0 0 false { ({ onS with twl := { pathA := { state := .training } } } : State) with unlocks := { isOpen := BitVec.allOnes 5 } } ∧
    (fun (who path : Nat) (dead : Bool) (s : State) => s.unlocked who = false) 0 0 true onS :=
  ⟨by decide, by decide, by decide, by decide, by decide, by decide, by decide, by decide, by decide, by decide, by decide, by decide, by decide, by decide, by decide, by decide, by decide⟩

theorem witness_TwinWrites :
    (fun (i : Instr) (c : ResyncMsg) (d : CtlMsg) (s : State) => (i = .writeFwd ∨ i = .orderAck ∨ i = .mirror ∨ i = .mirrorAck ∨ i = .intent ∨ i = .intentData ∨ i = .raReq ∨ i = .raResp ∨ i = .checkpoint ∨ i = .handoverMarker ∨ i = .handoverAck ∨ i = .departing ∨ i = .departingAck ∨ i = .resyncCopy ∨ i = .resyncCtl c ∨ i = .control d) ∧ s.twl.staging.find? s.twl.rxMsn = none) .mirror (.ask []) .askTables onS ∧
    (fun (s : State) (r : RxMsg) => s.twl.staging.find? s.twl.rxMsn = some r) (onW ⟨1, 9, []⟩) { frames := ⟨[(0, [])]⟩, count := some 1, msg := some ⟨1, 9, []⟩ } ∧
    (fun (m : TwMsg) (r : LineRec) (d : Line) (s : State) => s.nextMsg 0x01 = some m ∧ m.recs = [.line r] ∧ r.body = .full d ∧ (s.mayGrant 3 && !s.heldBack 3) = true) ⟨1, 9, [.line ⟨64, 1, 0, .full 7⟩]⟩ ⟨64, 1, 0, .full 7⟩ 7 (onW ⟨1, 9, [.line ⟨64, 1, 0, .full 7⟩]⟩) ∧
    (fun (m : TwMsg) (r : LineRec) (k : Nat) (x y : BitVec 64) (s : State) => s.nextMsg 0x01 = some m ∧ m.recs = [.line r] ∧ r.body = .cmpSwap k x y ∧ (s.mayGrant 3 && !s.heldBack 3) = true) ⟨1, 9, [.line ⟨64, 1, 0, .cmpSwap 2 3 4⟩]⟩ ⟨64, 1, 0, .cmpSwap 2 3 4⟩ 2 3 4 (onW ⟨1, 9, [.line ⟨64, 1, 0, .cmpSwap 2 3 4⟩]⟩) ∧
    (fun (i : Instr) (s : State) => (i = .writeFwd ∨ i = .raReq) ∧ (s.mayGrant 3 && !s.heldBack 3) = false) .writeFwd { onS with trk := { waiting := [⟨3, 0, .read, .internal 0, false⟩] } } ∧
    (fun (m : TwMsg) (r : LineRec) (s : State) => s.nextMsg 0x07 = some m ∧ m.recs = [.line r] ∧ (s.mayGrant 3 && !s.heldBack 3) = true) ⟨7, 9, [.line ⟨64, 1, 0, .full 7⟩]⟩ ⟨64, 1, 0, .full 7⟩ (onW ⟨7, 9, [.line ⟨64, 1, 0, .full 7⟩]⟩) ∧
    (fun (m : TwMsg) (r : LineRec) (c : Nat × Entry) (s : State) => s.nextMsg 0x02 = some m ∧ m.recs = [.line r] ∧ (s.trk.entries.cells.find? (fun c => c.2.tag == some m.tag && c.2.line == r.line && c.2.owed && !c.2.sent) = some c)) ⟨2, 9, [.line ⟨64, 1, 0, .nodata⟩]⟩ ⟨64, 1, 0, .nodata⟩ (0, { entS with line := 64, sent := false, owed := true, tag := some 9 }) { onW ⟨2, 9, [.line ⟨64, 1, 0, .nodata⟩]⟩ with trk := { entries := ⟨[(0, { entS with line := 64, sent := false, owed := true, tag := some 9 })]⟩ } } ∧
    (fun (s : State) (id : Nat) (e : Entry) (r : LineRec) => r.body = .nodata ∧ e.forwarded = false ∧ e.bounded = false ∧ ordLater r.ord (s.ordOf e.line) = true) onS 0 entS ⟨64, 1, 0, .nodata⟩ ∧
    (fun (s : State) (id : Nat) (e : Entry) (r : LineRec) => r.body = .nodata ∧ e.forwarded = false ∧ ordLater r.ord (s.ordOf e.line) = false) onS 0 entS ⟨64, 0, 0, .nodata⟩ ∧
    (fun (m : TwMsg) (s : State) => s.nextMsg 0x03 = some m) ⟨3, 9, [.line ⟨64, 1, 0, .full 7⟩]⟩ (onW ⟨3, 9, [.line ⟨64, 1, 0, .full 7⟩]⟩) ∧
    (fun (s : State) (r : LineRec) (d : Line) (k : Mask) (p : Bool) => r.body.write? = some (d, k, p) ∧ ordLater r.ord (s.ordOf r.line) = false ∧ s.trk.entries.cells = []) onS ⟨64, 0, 0, .full 7⟩ 7 Mask.full false ∧
    (fun (s : State) (r : LineRec) (d : Line) (k : Mask) (p : Bool) => r.body.write? = some (d, k, p) ∧ ordLater r.ord (s.ordOf r.line) = true ∧ s.writable r.line = true ∧ k ≠ Mask.full ∧ r.ord ≠ s.ordOf r.line + 1) onS ⟨64, 5, 0, .part 1 7⟩ 7 1 false ∧
    (fun (s : State) (r : LineRec) (d : Line) (k : Mask) (p : Bool) => r.body.write? = some (d, k, p) ∧ ordLater r.ord (s.ordOf r.line) = true ∧ s.writable r.line = true ∧ (k = Mask.full ∨ r.ord = s.ordOf r.line + 1) ∧ (s.putLine r.line d k p 7).isSome = true ∧ s.trk.entries.cells = [] ∧ s.pair.early = []) onS ⟨64, 1, 0, .full 7⟩ 7 Mask.full false ∧
    (fun (m : TwMsg) (n : Nat) (d : Nat × List Nat) (s : State) => s.nextMsg 0x04 = some m ∧ m.recs = [.tag n] ∧ (s.pair.dataSent.find? (fun d => d.1 == n) = some d)) ⟨4, 9, [.tag 5]⟩ 5 (5, [0, 1]) { onW ⟨4, 9, [.tag 5]⟩ with pair := { dataSent := [(5, [0, 1])] } } ∧
    (fun (m : TwMsg) (n : Nat) (id : Nat) (e : Entry) (s : State) => s.nextMsg 0x04 = some m ∧ m.recs = [.tag n] ∧ s.pair.dataSent = [] ∧ s.trk.entries.cells = [(id, e)] ∧ e.tag = some n ∧ e.owed = true ∧ e.bounded = false ∧ e.applied = true ∧ e.sent = true) ⟨4, 9, [.tag 5]⟩ 5 0 { entS with tag := some 5, owed := true, applied := true } { onW ⟨4, 9, [.tag 5]⟩ with trk := { entries := ⟨[(0, { entS with tag := some 5, owed := true, applied := true })]⟩ } } ∧
    (fun (m : TwMsg) (s : State) => s.nextMsg 0x05 = some m ∧ m.ckpts = []) ⟨5, 9, [.line ⟨64, 1, 0, .nodata⟩]⟩ (onW ⟨5, 9, [.line ⟨64, 1, 0, .nodata⟩]⟩) ∧
    (fun (m : TwMsg) (s : State) => s.nextMsg 0x06 = some m) ⟨6, 9, [.line ⟨64, 1, 0, .full 7⟩]⟩ (onW ⟨6, 9, [.line ⟨64, 1, 0, .full 7⟩]⟩) ∧
    (fun (s : State) (n : Nat) => s.pair.owed.take n ≠ []) { onS with pair := { owed := [⟨0, ⟨64, 1, 0, .full 7⟩, 0⟩] } } 195 ∧
    (fun (m : TwMsg) (leaf : Nat) (n : Nat) (s : State) => s.nextMsg 0x08 = some m ∧ (s.pair.restores.find? (fun a => a.1 == m.tag) = some (n, leaf))) ⟨8, 9, []⟩ 3 9 { onW ⟨8, 9, []⟩ with pair := { restores := [(9, 3)] } } ∧
    (fun (s : State) (leaf : Nat) (l : List LineRec) (u : Unrestored) => s.vlt.unrestored.find? leaf = some u) { onS with vlt := { unrestored := ⟨[(3, { prio := 2, running := true, fromTwin := true, epoch := 0 })]⟩ } } 3 [] { prio := 2, running := true, fromTwin := true, epoch := 0 } ∧
    (fun (m : TwMsg) (r : LineRec) (d : Line) (s : State) => s.nextMsg 0x08 = some m ∧ (s.pair.restores.find? (fun a => a.1 == m.tag) = none) ∧ (s.pair.refetches.any (fun a => a.1 == m.tag) = false) ∧ (s.pair.assists.any (fun a => a.1 == m.tag) = true) ∧ m.recs = [.line r] ∧ r.body = .full d ∧ s.pair.refetches = []) ⟨8, 9, [.line ⟨64, 1, 0, .full 7⟩]⟩ ⟨64, 1, 0, .full 7⟩ 7 { onW ⟨8, 9, [.line ⟨64, 1, 0, .full 7⟩]⟩ with pair := { assists := [(9, [])] } } ∧
    (fun (m : TwMsg) (s : State) => s.nextMsg 0x09 = some m) ⟨9, 9, [.ckpt ⟨0, 1, 1, [], []⟩]⟩ (onW ⟨9, 9, [.ckpt ⟨0, 1, 1, [], []⟩]⟩) ∧
    (fun (s : State) (k : Ckpt) (c : Conn) => s.connOfQpn k.qpn = some c ∧ c.own = false) { onN with net := { onN.net with conns := ⟨[(0, { cN with own := false })]⟩ } } ⟨8388608, 9, 3, [], []⟩ { cN with own := false } ∧
    (fun (s : State) (k : Ckpt) => (match s.connOfQpn k.qpn with | some c => c.own | none => true) = true) onN ⟨8388608, 9, 3, [], []⟩ :=
  ⟨by decide, by decide, by decide, by decide, by decide, by decide, by decide, by decide, by decide, by decide, by decide, by decide, by decide, by decide, by decide, by decide, by decide, by decide, by decide, by decide, by decide, by decide, by decide, by decide⟩

theorem witness_HandoverDepartureProbe :
    (fun (x : Nat) (s : State) => (!s.together || s.mode.mode == .hold || s.pair.owned.find? x != some true) = true) 3 onS ∧
    (fun (x : Nat) (s : State) => (!s.together || s.mode.mode == .hold || s.pair.owned.find? x != some true) = false ∧ s.pair.handover.has x = false ∧ s.pair.owed = []) 3 { onS with pair := { owned := ⟨[(3, true)]⟩ } } ∧
    (fun (s : State) (x : Nat) => s.pair.handover.cells = [(x, 1)] ∧ s.orderedAllSent x = true) { onS with pair := { handover := ⟨[(3, 1)]⟩ } } 3 ∧
    (fun (s : State) (x : Nat) => s.pair.handover.cells = [(x, 1)] ∧ s.orderedAllSent x = false) { onS with pair := { handover := ⟨[(3, 1)]⟩, owed := [⟨0, ⟨98304, 1, 0, .nodata⟩, 0⟩] } } 3 ∧
    (fun (m : TwMsg) (x : Nat) (s : State) => s.nextMsg 0x0C = some m ∧ m.recs = [.handover 1 x] ∧ s.mode.mode = .hold) ⟨12, 9, [.handover 1 3]⟩ 3 { onW ⟨12, 9, [.handover 1 3]⟩ with mode := { mode := .hold, bringup := .served } } ∧
    (fun (m : TwMsg) (x : Nat) (s : State) => s.nextMsg 0x0C = some m ∧ m.recs = [.handover 1 x] ∧ s.mode.mode ≠ .hold) ⟨12, 9, [.handover 1 3]⟩ 3 (onW ⟨12, 9, [.handover 1 3]⟩) ∧
    (fun (m : TwMsg) (x : Nat) (s : State) => s.nextMsg 0x0C = some m ∧ m.recs = [.handover 2 x]) ⟨12, 9, [.handover 2 3]⟩ 3 (onW ⟨12, 9, [.handover 2 3]⟩) ∧
    (fun (s : State) => s.nextDepart 1 = true) (onW ⟨13, 9, [.depart 1]⟩) ∧
    (fun (s : State) => s.nextDepart 1 = false) onS ∧
    (fun (s : State) => s.mode.mode = .preserve) { onS with mode := { mode := .preserve } } ∧
    (fun (s : State) => s.mode.mode = .serve) onS ∧
    (fun (s : State) => s.nextDepart 2 = true ∧ s.pair.departSent = true) { onW ⟨13, 9, [.depart 2]⟩ with pair := { departSent := true } } ∧
    (fun (s : State) => s.nextDepart 2 = true ∧ s.pair.departSent = false) (onW ⟨13, 9, [.depart 2]⟩) ∧
    (fun (s : State) => s.mode.mode = .preserve ∧ s.pair.departSent = true ∧ s.pair.departAcked = false) { onS with mode := { mode := .preserve }, pair := { departSent := true } } ∧
    (fun (s : State) => (s.mode.mode ≠ .preserve ∨ s.pair.departSent = false ∨ s.pair.departAcked = true)) onS ∧
    (fun (c : Nat × EthPort) (s : State) => s.pair.probing = true ∧ (s.net.ports.cells.find? (fun c => c.2.link) = some c) ∧ (s.ethPort (c.1 / 4) (c.1 % 4)).link = true ∧ (s.ethPort (c.1 / 4) (c.1 % 4)).pausedRx.has 0 = false) (0, { link := true, addrs := [⟨1, 64, false⟩] }) { onN with pair := { probing := true } } ∧
    (fun (s : State) => s.pair.probing = false) onS ∧
    (fun (seq : Nat) (s : State) => s.pair.probing = true ∧ seq < s.net.probeSeq) 0 { onN with pair := { probing := true }, net := { onN.net with probeSeq := 1 } } ∧
    (fun (seq : Nat) (s : State) => (s.pair.probing = false ∨ s.net.probeSeq ≤ seq)) 0 onS ∧
    (fun (s : State) => s.pair.probing = true ∧ (s.pair.partition && s.isBow) = false) { onN with pair := { probing := true } } ∧
    (fun (s : State) => s.pair.takeover = false) onN :=
  ⟨by decide, by decide, by decide, by decide, by decide, by decide, by decide, by decide, by decide, by decide, by decide, by decide, by decide, by decide, by decide, by decide, by decide, by decide, by decide, by decide, by decide⟩

theorem witness_ResyncAndPair :
    (fun (s : State) (own tw : ExtPair) => 0 < ((own.epoch + 65536 - tw.epoch) % 65536) ∧ ((own.epoch + 65536 - tw.epoch) % 65536) < 32768) onS { epoch := 5 } { epoch := 3 } ∧
    (fun (s : State) (own tw : ExtPair) => 32768 < ((own.epoch + 65536 - tw.epoch) % 65536)) onS { epoch := 3 } { epoch := 5 } ∧
    (fun (s : State) (own tw : ExtPair) => ((own.epoch + 65536 - tw.epoch) % 65536) = 0 ∧ (own.rd && tw.rd) = false ∧ (own.st && tw.st) = false) onS { epoch := 3, st := true } { epoch := 3 } ∧
    (fun (s : State) (own tw : ExtPair) => (((own.epoch + 65536 - tw.epoch) % 65536) = 32768 ∨ ((own.epoch + 65536 - tw.epoch) % 65536) = 0 ∧ ((own.rd && tw.rd) = true ∨ (own.st && tw.st) = true))) onS { epoch := 3, st := true } { epoch := 3, st := true } ∧
    (fun (x : Nat) (i : Nat) (d : Line) (s : State) => s.pair.resync.find? x = some true ∧ s.linkUp = true ∧ s.nextCopy x = some i ∧ s.unrestored (leafOf (x * extentLines + i)) = false ∧ s.lineNow (x * extentLines + i) = some (.data d)) 0 0 0 { onS with twl := { pathA := { state := .up } }, pair := { resync := ⟨[(0, true)]⟩ }, addr := { valid := ⟨[(0, ())]⟩ }, mem := ⟨[(0, .plain 0 0 0)]⟩ } ∧
    (fun (x : Nat) (s : State) => (s.pair.resync.find? x ≠ some true ∨ s.linkUp = false ∨ s.nextCopy x = none)) 0 onS ∧
    (fun (m : TwMsg) (r : LineRec) (s : State) => s.nextMsg 0x0A = some m ∧ m.recs = [.line r] ∧ ordLater (s.ordOf r.line) r.ord = true) ⟨10, 9, [.line ⟨64, 1, 0, .full 7⟩]⟩ ⟨64, 1, 0, .full 7⟩ { onW ⟨10, 9, [.line ⟨64, 1, 0, .full 7⟩]⟩ with trk := { ords := ⟨[(64, 5)]⟩ } } ∧
    (fun (m : TwMsg) (r : LineRec) (d : Line) (u : State) (s : State) => s.nextMsg 0x0A = some m ∧ m.recs = [.line r] ∧ ordLater (s.ordOf r.line) r.ord = false ∧ r.body = .full d ∧ s.writable r.line = true ∧ s.putLine r.line d Mask.full false 7 = some u) ⟨10, 9, [.line ⟨64, 1, 0, .full 7⟩]⟩ ⟨64, 1, 0, .full 7⟩ 7 ((((onW ⟨10, 9, [.line ⟨64, 1, 0, .full 7⟩]⟩).putLine 64 7 Mask.full false 7)).get (by decide)) (onW ⟨10, 9, [.line ⟨64, 1, 0, .full 7⟩]⟩) ∧
    (fun (x : Nat) (s : State) => s.pair.resync.find? x = some true ∧ s.nextCopy x = none ∧ s.linkUp = true) 0 { onS with twl := { pathA := { state := .up } }, pair := { resync := ⟨[(0, true)]⟩ } } ∧
    (fun (x : Nat) (s : State) => (s.pair.resync.find? x ≠ some true ∨ (s.nextCopy x).isSome = true ∨ s.linkUp = false)) 0 onS ∧
    (fun (s : State) (x : Nat) (w : Bool) => s.pair.resync.find? x = some w) { onS with pair := { resync := ⟨[(0, true)]⟩ } } 0 true ∧
    (fun (c : ResyncMsg) (m : TwMsg) (xs : List Nat) (s : State) => s.nextMsg 0x0B = some m ∧ (s.mode.bringup == .rebuild && !s.vlt.loaded) = false ∧ c = .ask xs) (.ask [0]) ⟨11, 9, []⟩ [0] (onW ⟨11, 9, []⟩) ∧
    (fun (c : ResyncMsg) (m : TwMsg) (xs : List Nat) (s : State) => s.nextMsg 0x0B = some m ∧ (s.mode.bringup == .rebuild && !s.vlt.loaded) = false ∧ c = .ended xs) (.ended [0]) ⟨11, 9, []⟩ [0] (onW ⟨11, 9, []⟩) ∧
    (fun (c : ResyncMsg) (m : TwMsg) (e : List (Nat × ExtPair)) (b : ExtPair) (v : List Nat) (q : List (Nat × BitVec 32)) (s : State) => s.nextMsg 0x0B = some m ∧ s.mode.bringup ≠ .rebuild ∧ c = .epochs e b v q ∧ s.twinReachable = true ∧ s.mode.mode = .solo) (.epochs [] {} [] []) ⟨11, 9, []⟩ [] {} [] [] (onB ⟨11, 9, []⟩) ∧
    (fun (c : ResyncMsg) (m : TwMsg) (e : List (Nat × ExtPair)) (b : ExtPair) (v : List Nat) (q : List (Nat × BitVec 32)) (s : State) => s.nextMsg 0x0B = some m ∧ s.mode.bringup ≠ .rebuild ∧ c = .epochs e b v q ∧ s.twinReachable = false) (.epochs [] {} [] []) ⟨11, 9, []⟩ [] {} [] [] (onW ⟨11, 9, []⟩) ∧
    (fun (c : CtlMsg) (m : TwMsg) (v : Nat) (s : State) => s.nextMsg 0x0E = some m ∧ c = .proto v ∧ v / 256 ≠ s.pairProto / 256) (.proto 0xFF00) ⟨14, 9, []⟩ 0xFF00 (onW ⟨14, 9, []⟩) ∧
    (fun (c : CtlMsg) (m : TwMsg) (s : State) => s.nextMsg 0x0E = some m ∧ c = .handedBack) .handedBack ⟨14, 9, []⟩ (onW ⟨14, 9, []⟩) ∧
    (fun (c : CtlMsg) (m : TwMsg) (slot : Nat) (n : Conn) (s : State) => s.nextMsg 0x0E = some m ∧ c = .connSetup slot n ∧ s.conn slot = none ∧ slot < s.net.maxConn) (.connSetup 4 cN) ⟨14, 9, []⟩ 4 cN (onW ⟨14, 9, []⟩) ∧
    (fun (f : Forming) (s : State) => s.pair.forming = some f ∧ f.at_ = 6 ∧ s.mode.mode = .hold ∧ s.linkUp = true ∧ f.donor = true) ⟨true, 1, 0, mb 0, 0, 6, [], [], [], [], {}, [], 0, 0⟩ { onS with mode := { mode := .hold, bringup := .served }, twl := { pathA := { state := .up } }, pair := { forming := some ⟨true, 1, 0, mb 0, 0, 6, [], [], [], [], {}, [], 0, 0⟩ } } ∧
    (fun (s : State) => (s.pair.forming = none ∨ s.mode.mode ≠ .hold ∨ s.linkUp = false)) onS :=
  ⟨by decide, by decide, by decide, by decide, by decide, by decide, by decide, by decide, by decide, by decide, by decide, by decide, by decide, by decide, by decide, by decide, by decide, by decide, by decide, by decide⟩

end Sys2Proof.Tests
end

section
namespace Sys2Proof.Machine

/-! ## What a command touches

A command's frame (R10, R13) and the invariant of the tables and bounded numbers are one fact: of each kind of state it either leaves it as it
was, or, where `mayTouch` names it, keeps its law. -/

/-- SYS_MODE_COUNT is a 16-bit number, PURPOSE a 2-bit one (R22, R24). -/
def ModeCtl.bounded (m : ModeCtl) : Prop := m.count < 65536 ∧ m.holdPurpose < 4

/-- Device time and ticks are 64-bit numbers, RELOCKS saturates at 16 bits (R18, R19). -/
def Timebase.bounded (t : Timebase) : Prop := t.ns < 2 ^ 64 ∧ t.ticks < 2 ^ 64 ∧ t.relocks ≤ 65535

/-- What the invariant `State.lawful` says of a kind of state. -/
def Part.law (p : Part) (s : State) : Prop :=
  match p with
  | .homeLines => Memory.wf s.mem = true
  | .timebase => s.tim.bounded
  | .landing => SMap.sortedL s.rsc.cells = true
  | .copies => SMap.sortedL s.copies.cells = true
  | .modes => s.mode.bounded
  | _ => True

theorem State.lawful_iff (s : State) : s.lawful = true ↔ ∀ p : Part, p.law s := by
  simp only [State.lawful, Bool.and_eq_true, decide_eq_true_eq]
  constructor
  · rintro ⟨⟨⟨⟨⟨⟨⟨hm, hr⟩, hc⟩, hn⟩, ht⟩, hl⟩, hk⟩, hp⟩ p
    cases p
    case homeLines => exact hm
    case timebase => exact ⟨hn, ht, hl⟩
    case landing => exact hr
    case copies => exact hc
    case modes => exact ⟨hk, hp⟩
    all_goals trivial
  · intro h
    obtain ⟨hn, ht, hl⟩ := h .timebase
    obtain ⟨hk, hp⟩ := h .modes
    exact ⟨⟨⟨⟨⟨⟨⟨h .homeLines, h .landing⟩, h .copies⟩, hn⟩, ht⟩, hl⟩, hk⟩, hp⟩

/-- A kind of state that stays keeps its law. -/
theorem Part.law_of_same {p : Part} {s t : State} (h : p.same s t) (l : p.law s) : p.law t := by
  cases p <;> simp_all [Part.law, Part.same]

/-- One state differs from another at most in the kinds of state named, and keeps the law of those. -/
def KeepsBut (ps : List Part) (s t : State) : Prop := ∀ p : Part, if p ∈ ps then p.law s → p.law t else p.same s t

theorem keepsBut_iff (ps : List Part) (s t : State) : KeepsBut ps s t ↔
    (.waiting ∈ ps ∨ t.pending = s.pending) ∧
    (if .homeLines ∈ ps then Memory.wf s.mem = true → Memory.wf t.mem = true else t.mem = s.mem) ∧
    (if .timebase ∈ ps then s.tim.bounded → t.tim.bounded else t.tim = s.tim) ∧
    (.flash ∈ ps ∨ t.fls = s.fls) ∧
    (if .landing ∈ ps then SMap.sortedL s.rsc.cells = true → SMap.sortedL t.rsc.cells = true else t.rsc = s.rsc) ∧
    (if .copies ∈ ps then SMap.sortedL s.copies.cells = true → SMap.sortedL t.copies.cells = true else t.copies = s.copies) ∧
    (.latched ∈ ps ∨ t.latched = s.latched) ∧
    (.sideband ∈ ps ∨ t.sb0 = s.sb0 ∧ t.sb1 = s.sb1 ∧ t.sb2 = s.sb2 ∧ t.sb3 = s.sb3) ∧
    (.frames ∈ ps ∨ t.sht = s.sht) ∧ (.unlocks ∈ ps ∨ t.unlocks = s.unlocks) ∧ (.power ∈ ps ∨ t.pwr = s.pwr) ∧
    (if .modes ∈ ps then s.mode.bounded → t.mode.bounded else t.mode = s.mode) := by
  have lawless : ∀ (p : Part) (q : Prop), (if p ∈ ps then True → True else q) ↔ p ∈ ps ∨ q := fun p q => by
    split <;> simp_all
  simp only [← lawless]
  constructor
  · intro h
    exact ⟨h .waiting, h .homeLines, h .timebase, h .flash, h .landing, h .copies, h .latched, h .sideband, h .frames, h .unlocks,
      h .power, h .modes⟩
  · rintro ⟨h1, h2, h3, h4, h5, h6, h7, h8, h9, h10, h11, h12⟩ p
    cases p <;> assumption

/-- For kinds of state outside `State.quietP`, that group is one equation. -/
theorem keepsBut_quiet {ps : List Part} (s t : State) (hp : ps ⊆ [.homeLines, .flash, .frames, .power, .modes]) : KeepsBut ps s t ↔
    t.quietP = s.quietP ∧ (if .homeLines ∈ ps then Memory.wf s.mem = true → Memory.wf t.mem = true else t.mem = s.mem) ∧
    (.flash ∈ ps ∨ t.fls = s.fls) ∧ (.frames ∈ ps ∨ t.sht = s.sht) ∧ (.power ∈ ps ∨ t.pwr = s.pwr) ∧
    (if .modes ∈ ps then s.mode.bounded → t.mode.bounded else t.mode = s.mode) := by
  have hq : ∀ p, p ∉ [Part.homeLines, .flash, .frames, .power, .modes] → p ∉ ps := fun p h hm => h (hp hm)
  have h1 := hq .waiting (by decide)
  have h2 := hq .timebase (by decide)
  have h3 := hq .landing (by decide)
  have h4 := hq .copies (by decide)
  have h5 := hq .latched (by decide)
  have h6 := hq .sideband (by decide)
  have h7 := hq .unlocks (by decide)
  simp only [keepsBut_iff, h1, h2, h3, h4, h5, h6, h7, State.quietP, Prod.mk.injEq, false_or, if_false]
  constructor
  · rintro ⟨w, hm, ti, fl, la, co, lt, ⟨b0, b1, b2, b3⟩, fr, un, pw, md⟩
    exact ⟨⟨w, la, co, lt, ti, b0, b1, b2, b3, un⟩, hm, fl, fr, pw, md⟩
  · rintro ⟨⟨w, la, co, lt, ti, b0, b1, b2, b3, un⟩, hm, fl, fr, pw, md⟩
    exact ⟨w, hm, ti, fl, la, co, lt, ⟨b0, b1, b2, b3⟩, fr, un, pw, md⟩

/-- In the state given, a command that answers a next state changes at most the kinds of state named, and keeps their law. -/
def Touches (ps : List Part) (i : Instr) (s : State) : Prop := ∀ t, exec i s = .next t → KeepsBut ps s t

/-- A command that answers `u` touches what `u` does not keep. -/
theorem touches_next {i : Instr} {s u : State} {ps : List Part} (e : exec i s = .next u) (h : KeepsBut ps s u) : Touches ps i s := by
  intro t ht
  rw [e, Host.Outcome.next.injEq] at ht
  rwa [← ht]

/-! ## What states passed through keep -/

@[refl] theorem KeepsBut.refl (ps : List Part) (s : State) : KeepsBut ps s s := by
  simp [keepsBut_iff]

theorem KeepsBut.trans {ps : List Part} {s t u : State} (h : KeepsBut ps s t) (k : KeepsBut ps t u) : KeepsBut ps s u := by
  intro p
  have h := h p
  have k := k p
  split
  · next hp => exact fun l => (by simpa [hp] using k : p.law t → p.law u) ((by simpa [hp] using h : p.law s → p.law t) l)
  · next hp =>
    rw [if_neg hp] at h k
    cases p <;> simp_all [Part.same]

/-- What changes nothing of these kinds may stand for what changes some. -/
theorem KeepsBut.weaken {ps : List Part} {s t : State} (h : KeepsBut [] s t) : KeepsBut ps s t := by
  intro p
  have hp : p.same s t := by simpa using h p
  split
  · exact Part.law_of_same hp
  · exact hp

theorem KeepsBut.foldl {β : Type} {ps : List Part} {f : State → β → State} (h : ∀ a x, KeepsBut ps a (f a x)) (l : List β) (s : State) :
    KeepsBut ps s (l.foldl f s) := by
  induction l generalizing s with
  | nil => exact .refl ps s
  | cons x l ih => exact (h s x).trans (ih _)

theorem KeepsBut.foldl_fst {β γ : Type} {ps : List Part} {f : State × γ → β → State × γ} (h : ∀ a x, KeepsBut ps a.1 (f a x).1)
    (l : List β) (a : State × γ) : KeepsBut ps a.1 (l.foldl f a).1 := by
  induction l generalizing a with
  | nil => exact .refl ps a.1
  | cons x l ih => exact (h a x).trans (ih _)

/-- A fold that may fail keeps, where it does not, what each of its steps keeps. -/
theorem KeepsBut.foldl_bind {β : Type} {ps : List Part} {f : State → β → Option State} (h : ∀ a x b, f a x = some b → KeepsBut ps a b)
    (l : List β) (s t : State) (e : l.foldl (fun a x => a.bind (fun b => f b x)) (some s) = some t) : KeepsBut ps s t := by
  induction l generalizing s with
  | nil =>
    obtain rfl : s = t := by simpa using e
    exact .refl ps s
  | cons x l ih =>
    have none_stays : ∀ l : List β, l.foldl (fun a x => Option.bind a (fun b => f b x)) none = none := by
      intro l
      induction l with
      | nil => rfl
      | cons _ _ ih => exact ih
    simp only [List.foldl_cons, Option.bind_some] at e
    cases hx : f s x with
    | none => simp [hx, none_stays] at e
    | some b => exact (h s x b hx).trans (ih b (by rwa [hx] at e))

theorem pump_keeps (ps : List Part) (s : State) : KeepsBut ps s s.pump := KeepsBut.weaken (by simp [keepsBut_quiet])

theorem answer_keeps (ps : List Part) (s : State) (m : Mbx) (op : Nat) (r : Reply) : KeepsBut ps s (s.answer m op r) :=
  KeepsBut.weaken (by simp [keepsBut_quiet])

theorem finish_keeps (ps : List Part) (s : State) (tag : Nat) (r : Reply) : KeepsBut ps s (s.finish tag r) :=
  KeepsBut.weaken (by simp [keepsBut_quiet])

/-- The body of a mailbox command runs between the opening and the answer of its job. -/
theorem KeepsBut.runJob {ps : List Part} {s : State} {m : Mbx} {c : CmdSpec} {b : Bool} {body : Nat → State → State × CmdRes}
    (h : ∀ tag a, KeepsBut ps a (body tag a).1) : KeepsBut ps s (s.runJob m c b body) := by
  unfold State.runJob
  extract_lets tag opened ready
  have start : KeepsBut ps s ready := by
    refine KeepsBut.weaken ?_
    simp only [ready]
    split <;> simp [opened, keepsBut_quiet]
  have ran := start.trans (h tag ready)
  split
  · next e =>
    rw [e] at ran
    exact ran.trans (finish_keeps _ _ _ _)
  · next e => rwa [e] at ran

/-- A mailbox command keeps what its body keeps. -/
theorem KeepsBut.command {ps : List Part} {s : State} {m : Mbx} {c : CmdSpec} {l b : Bool} {body : Nat → State → State × CmdRes}
    (h : ∀ tag a, KeepsBut ps a (body tag a).1) : KeepsBut ps s (s.command m c l b body) := by
  unfold State.command
  split
  · rfl
  iterate 5
    split
    · exact answer_keeps _ _ _ _ _
  exact KeepsBut.runJob h

/-- A mailbox command that answers at once keeps what its body keeps. -/
theorem KeepsBut.simple {ps : List Part} {s : State} {m : Mbx} {c : CmdSpec} {l : Bool} {body : State → State × Reply}
    (h : ∀ a, KeepsBut ps a (body a).1) : KeepsBut ps s (s.simple m c l body) :=
  KeepsBut.command fun _ a => h a

/-- The handling of a CM packet keeps what its body keeps. -/
theorem KeepsBut.cmIn {ps : List Part} {s : State} {e : Eth} {k : State → State} (h : ∀ a, KeepsBut ps a (k a)) :
    KeepsBut ps s (s.cmIn e k) := by
  unfold State.cmIn
  split
  · rfl
  · split
    · exact KeepsBut.weaken (by simp [keepsBut_quiet])
    · split
      · exact KeepsBut.weaken (by simp [keepsBut_quiet])
      · exact KeepsBut.trans (KeepsBut.weaken (by simp [keepsBut_quiet])) (h _)

/-! ## Rising keys (R9, R160, R463) -/

theorem SMap.put_sorted {α : Type} [DecidableEq α] (m : SMap α) (d : α) (k : Nat) (v : α) (h : SMap.sortedL m.cells = true) :
    SMap.sortedL (m.put d k v).cells = true := by
  unfold SMap.put
  split
  · exact SMap.erase_sorted m k h
  · exact SMap.insert_sorted m k v h

theorem State.refreshCopies_sorted (s : State) : SMap.sortedL s.refreshCopies.copies.cells = true := by
  have puts : ∀ (l : List Nat) (m : SMap Word), SMap.sortedL m.cells = true →
      SMap.sortedL (l.foldl (fun (m : SMap Word) a => m.put (resetAt a) a (s.aonView a)) m).cells = true := by
    intro l
    induction l with
    | nil => exact fun _ h => h
    | cons a l ih => exact fun m h => ih _ (SMap.put_sorted m _ _ _ h)
  exact puts aonAddrs {} rfl

theorem State.moveLine_wf (s t : State) (m : Move) (e : s.moveLine m = some t) (w : Memory.wf s.mem = true) : Memory.wf t.mem = true := by
  have landed : ∀ (a : State) (new : Home) (c : Option Cell), a.mem = s.mem → Memory.wf (a.landCell new c).mem = true :=
    fun a new c ha => State.landCell_wf a new c (ha ▸ w)
  unfold State.moveLine at e
  dsimp only at e
  (repeat' split at e) <;> simp only [reduceCtorEq, Option.some.injEq] at e <;> subst e
  · exact w
  all_goals exact landed _ _ _ (by simp)

theorem State.moveLines_wf (n : Nat) (s : State) (x : Nat) (w : Memory.wf s.mem = true) : Memory.wf (State.moveLines n s x).mem = true := by
  induction n generalizing s with
  | zero => exact w
  | succ n ih =>
    unfold State.moveLines
    split
    · exact w
    · split
      · exact w
      · split
        · next e => exact ih _ (by simpa using State.moveLine_wf s _ _ e w)
        · simpa using w

theorem State.restoredLines_wf (s : State) (leaf : Nat) (l : List LineRec) (w : Memory.wf s.mem = true) :
    Memory.wf (s.restoredLines leaf l).mem = true := by
  have done : Memory.wf (l.foldl State.restoredLine
      { s with pair := { s.pair with restores := s.pair.restores.filter (fun a => a.2 != leaf) } }).mem = true :=
    Memory.fold_wf _ State.restoredLine_wf l _ w
  unfold State.restoredLines
  dsimp only
  split <;> exact done

/-! ## Operations keep COUNT and PURPOSE in their bounds (R22, R24) -/

@[simp] theorem ModeCtl.bounded_mk (m : ModeCtl) (mode transit reason reqResult leftMode offPending railDropped preserveDone bringup retrying) :
    ModeCtl.bounded ⟨mode, transit, reason, m.count, reqResult, m.holdPurpose, leftMode, offPending, railDropped, preserveDone, bringup,
      retrying⟩ ↔ m.bounded := Iff.rfl

@[simp] theorem ModeCtl.bounded_counted (m : ModeCtl) (h : m.bounded) (n : Nat)
    (mode transit reason reqResult leftMode offPending railDropped preserveDone bringup retrying) :
    ModeCtl.bounded ⟨mode, transit, reason, n % 65536, reqResult, m.holdPurpose, leftMode, offPending, railDropped, preserveDone, bringup,
      retrying⟩ := ⟨Nat.mod_lt _ (by decide), h.2⟩

@[simp] theorem ModeCtl.bounded_purpose (n p : Nat)
    (mode transit reason reqResult leftMode offPending railDropped preserveDone bringup retrying) :
    ModeCtl.bounded ⟨mode, transit, reason, n % 65536, reqResult, p % 4, leftMode, offPending, railDropped, preserveDone, bringup,
      retrying⟩ := ⟨Nat.mod_lt _ (by decide), Nat.mod_lt _ (by decide)⟩

@[simp] theorem foldl_modeBounded {β : Type} (f : State → β → State) (h : ∀ s a, s.mode.bounded → (f s a).mode.bounded)
    (l : List β) (s : State) (hs : s.mode.bounded) : (l.foldl f s).mode.bounded := by
  induction l generalizing s with
  | nil => exact hs
  | cons a l ih => exact ih _ (h s a hs)

@[simp] theorem ite_modeBounded (c : Prop) [Decidable c] (a b : State) :
    (if c then a else b).mode.bounded ↔ if c then a.mode.bounded else b.mode.bounded := by split <;> rfl

@[simp] theorem State.setMode_bounded (s : State) (dest : Mode) (reason : Nat) (hb : s.mode.bounded) :
    (State.setMode s dest reason).mode.bounded := by
  simp [State.setMode, hb]

@[simp] theorem State.leaveHold_bounded (s : State) (reason : Nat) (hb : s.mode.bounded) : (State.leaveHold s reason).mode.bounded := by
  unfold State.leaveHold
  dsimp only
  split <;> simp [hb]

@[simp] theorem State.enterSolo_bounded (s : State) (reason : Nat) (hb : s.mode.bounded) : (State.enterSolo s reason).mode.bounded := by
  simp [State.enterSolo, hb]

@[simp] theorem State.hostsDown_bounded (s : State) (hb : s.mode.bounded) : (State.hostsDown s).mode.bounded := by
  simp [State.hostsDown, hb]

@[simp] theorem State.powerDown_bounded (s : State) (hb : s.mode.bounded) : (State.powerDown s).mode.bounded := by
  simp [State.powerDown, hb]

@[simp] theorem State.endBringup_bounded (s : State) (reason : Nat) (keepOn : Bool) (hb : s.mode.bounded) :
    (State.endBringup s reason keepOn).mode.bounded := by
  unfold State.endBringup
  split <;> simp [hb]

@[simp] theorem State.seqFault_bounded (s : State) (kind step bits : Nat) (hb : s.mode.bounded) : (State.seqFault s kind step bits).mode.bounded := by
  simp [State.seqFault, hb]

@[simp] theorem State.preserveDown_bounded (s : State) (reason : Nat) (now : Bool) (hb : s.mode.bounded) :
    (State.preserveDown s reason now).mode.bounded := by
  have down := State.hostsDown_bounded _ (State.setMode_bounded s .standby reason hb)
  unfold State.preserveDown
  split
  · exact State.powerDown_bounded _ down
  · exact down

@[simp] theorem State.enterPreserve_bounded (s : State) (reason : Nat) (hb : s.mode.bounded) : (State.enterPreserve s reason).mode.bounded := by
  simp [State.enterPreserve, hb]

@[simp] theorem State.crossBringup_bounded (s : State) (reason : Nat) (keepOn : Bool) (hb : s.mode.bounded) :
    (State.crossBringup s reason keepOn).mode.bounded := by
  unfold State.crossBringup
  (repeat' split) <;> simp [hb]

@[simp] theorem State.offRequest_bounded (s : State) (reason : Nat) (hb : s.mode.bounded) : (State.offRequest s reason).mode.bounded := by
  unfold State.offRequest
  (repeat' split) <;> simp [hb]

@[simp] theorem State.faultOff_bounded (s : State) (hb : s.mode.bounded) : (State.faultOff s).mode.bounded := by
  simp [State.faultOff, hb]

@[simp] theorem State.preserveTrigger_bounded (s : State) (reason : Nat) (hb : s.mode.bounded) : (State.preserveTrigger s reason).mode.bounded := by
  unfold State.preserveTrigger
  (repeat' split) <;> simp [hb]

@[simp] theorem State.loseTwin_bounded (s : State) (hb : s.mode.bounded) : (State.loseTwin s).mode.bounded := by
  unfold State.loseTwin
  dsimp only
  (repeat' split) <;> simp [hb]

@[simp] theorem State.twinDeparts_bounded (s : State) (hb : s.mode.bounded) : (State.twinDeparts s).mode.bounded := by
  unfold State.twinDeparts
  dsimp only
  (repeat' split) <;> simp [hb]

@[simp] theorem State.reqResult_bounded (s : State) (r : Nat) (hb : s.mode.bounded) : (State.reqResult s r).mode.bounded := by
  simp [State.reqResult, hb]

@[simp] theorem State.enterHold_bounded (s : State) (purpose reason : Nat) :
    (State.enterHold s purpose reason).mode.bounded := by
  simp [State.enterHold]

@[simp] theorem State.modeReq_bounded (s : State) (target purpose : Nat) (hb : s.mode.bounded) : (State.modeReq s target purpose).mode.bounded := by
  unfold State.modeReq
  (repeat' split) <;> simp [hb]

@[simp] theorem State.land_bounded (s : State) (a : Nat) (w : Word) (hb : s.mode.bounded) : (State.land s a w).mode.bounded := by
  unfold State.land
  split <;> simp [hb]

@[simp] theorem State.writeRsc_bounded (s : State) (a : Nat) (w : Word) (delayed : Bool) (hb : s.mode.bounded) :
    (State.writeRsc s a w delayed).mode.bounded := by
  unfold State.writeRsc
  split <;> simp [hb]

@[simp] theorem State.cutLink_bounded (s : State) (hb : s.mode.bounded) : (State.cutLink s).mode.bounded := by
  unfold State.cutLink
  split <;> simp [hb]

@[simp] theorem State.declareDead_bounded (s : State) (n : Nat) (hb : s.mode.bounded) : (State.declareDead s n).mode.bounded := by
  unfold State.declareDead
  dsimp only
  split <;> simp [hb]

@[simp] theorem State.twlEnable_bounded (s : State) (on : Bool) (hb : s.mode.bounded) : (State.twlEnable s on).mode.bounded := by
  unfold State.twlEnable
  split <;> simp [hb]

@[simp] theorem State.formatError_bounded (s : State) (msn : Nat) (hb : s.mode.bounded) : (State.formatError s msn).mode.bounded := by
  simp [State.formatError, hb]

@[simp] theorem State.placeFrame_bounded (s : State) (h : TwHeader) (payload : List Byte) (hb : s.mode.bounded) :
    (State.placeFrame s h payload).mode.bounded := by
  unfold State.placeFrame
  extract_lets old m m' put
  have hput : ∀ s m, (put s m).mode = s.mode := fun _ _ => rfl
  clear_value old m m' put
  split
  · simp [hb]
  · split
    · rwa [hput]
    · split
      · extract_lets bytes
        split
        · rwa [hput]
        · exact State.formatError_bounded _ _ (by rwa [hput])
      · rwa [hput]

@[simp] theorem State.activateFw_bounded (s : State) (m : Mbx) (action slot tag : Nat) (hb : s.mode.bounded) :
    (State.activateFw s m action slot tag).1.mode.bounded := by
  unfold State.activateFw
  dsimp only
  (repeat' split) <;> simp [hb]

@[simp] theorem State.activationOver_bounded (s : State) (a : FwActivate) (r : Reply) (hb : s.mode.bounded) :
    (State.activationOver s a r).mode.bounded := by
  unfold State.activationOver
  dsimp only
  split <;> simp [hb]

@[simp] theorem State.revertFw_bounded (s : State) (a : FwActivate) (hb : s.mode.bounded) : (State.revertFw s a).mode.bounded := by
  simp [State.revertFw, hb]

@[simp] theorem State.retireChannels_bounded (s : State) (l : List Nat) (hb : s.mode.bounded) : (State.retireChannels s l).mode.bounded := by
  simp [State.retireChannels, hb]

@[simp] theorem State.retireChannel_bounded (s : State) (inst : Nat) (hb : s.mode.bounded) : (State.retireChannel s inst).mode.bounded := by
  simp [State.retireChannel, hb]

@[simp] theorem State.repairEnd_bounded (s : State) (p : RowRepair) (good : Bool) (hb : s.mode.bounded) :
    (State.repairEnd s p good).mode.bounded := by
  unfold State.repairEnd
  dsimp only
  (repeat' split) <;> simp [hb]

@[simp] theorem State.leaveRestore_bounded (s : State) (hb : s.mode.bounded) : (State.leaveRestore s).mode.bounded := by
  unfold State.leaveRestore
  split <;> simp [hb]

@[simp] theorem State.serveHosts_bounded (s : State) (hb : s.mode.bounded) : (State.serveHosts s).mode.bounded := by
  simp [State.serveHosts, hb]

@[simp] theorem State.reunite_bounded (s : State) (ext : List (Nat × ExtPair)) (base : ExtPair) (valid : List Nat)
    (poisoned : List (Nat × BitVec 32)) (hb : s.mode.bounded) : (State.reunite s ext base valid poisoned).mode.bounded := by
  unfold State.reunite
  extract_lets tw all xs judged logged won copies losing epochOf pair synced parted handed served
  have hlogged : logged.mode = s.mode := foldl_mode _ (fun a j => by split <;> simp) judged s
  have hhanded : handed.mode = s.mode := by
    clear_value logged copies losing
    simp only [handed]
    split <;> simp [parted, synced, hlogged]
  clear_value handed
  have hserved : served.mode.bounded := by
    simp only [served]
    split <;> simp [hhanded, hb]
  simpa using hserved

@[simp] theorem State.formStep_bounded (s : State) (hb : s.mode.bounded) : (State.formStep s).mode.bounded := by
  unfold State.formStep
  (repeat' split) <;> simp [hb]

@[simp] theorem State.pairFormStart_bounded (s : State) (m : Mbx) (tag : Nat) (inp : List Word) :
    (State.pairFormStart s m tag inp).mode.bounded := by
  unfold State.pairFormStart
  dsimp only
  split <;> simp

@[simp] theorem State.react_bounded (old s : State) (hb : s.mode.bounded) : (State.react old s).mode.bounded := by
  unfold State.react
  dsimp only
  (repeat' split) <;> simp [hb]

@[simp] theorem State.commit_bounded (s : State) (mask : Word) (hb : s.mode.bounded) : (State.commit s mask).1.mode.bounded := by
  unfold State.commit
  split <;> simp [hb]

@[simp] theorem State.toFrame_bounded (s : State) (n : Nat) (hb : s.mode.bounded) : (State.toFrame s n).mode.bounded := by
  simp [State.toFrame, hb]

@[simp] theorem State.rewind_bounded (s : State) (back : Nat) (hb : s.mode.bounded) : (State.rewind s back).1.mode.bounded := by
  unfold State.rewind
  dsimp only
  (repeat' split) <;> simp [hb]

@[simp] theorem State.autoTry_bounded (s : State) (hb : s.mode.bounded) : (State.autoTry s).mode.bounded := by
  unfold State.autoTry
  split
  · exact hb
  · next old _ =>
    extract_lets go
    have hgo : ∀ s : State, s.mode.bounded → (go s).mode.bounded := fun s h => State.toFrame_bounded _ old h
    clear_value go
    have there_and_back := State.leaveHold_bounded _ 0x0B (hgo _ (State.enterHold_bounded s 1 0x0B))
    split
    · exact hb
    · split
      · exact hb
      · split
        · exact hb
        · exact there_and_back
      · split
        · exact hb
        · exact there_and_back
      all_goals exact hgo s hb

@[simp] theorem State.frameWritten_bounded (s : State) (pass : Bool) (hb : s.mode.bounded) : (State.frameWritten s pass).mode.bounded := by
  unfold State.frameWritten
  dsimp only
  (repeat' split) <;> simp [hb]

@[simp] theorem State.writeLive_bounded (s : State) (who a : Nat) (w : Word) (hb : s.mode.bounded) : (State.writeLive s who a w).mode.bounded := by
  unfold State.writeLive
  dsimp only
  (repeat' split) <;> simp [hb]

@[simp] theorem State.writeReg_bounded (s : State) (who addr : Nat) (w : Word) (hb : s.mode.bounded) :
    (State.writeReg s who addr w).mode.bounded := by
  unfold State.writeReg
  (repeat' split) <;> simp [hb]

@[simp] theorem State.autoRepair_bounded (s : State) (inst dev : Nat) (row : Bool) (hb : s.mode.bounded) :
    (State.autoRepair s inst dev row).mode.bounded := by
  unfold State.autoRepair
  (repeat' split) <;> simp [hb]

@[simp] theorem State.actChannel_bounded (s : State) (inst code : Nat) (row : Bool) (dev : Nat) (hb : s.mode.bounded) :
    (State.actChannel s inst code row dev).mode.bounded := by
  unfold State.actChannel
  dsimp only
  (repeat' split) <;> simp [hb]

@[simp] theorem State.actUnit_bounded (s : State) (unit code : Nat) (row : Bool) (dev : Nat) (hb : s.mode.bounded) :
    (State.actUnit s unit code row dev).mode.bounded := by
  unfold State.actUnit
  (repeat' split) <;> simp [hb]

@[simp] theorem State.actSlot_bounded (s : State) (k : Nat) (row : Bool) (dev : Nat) (hb : s.mode.bounded) :
    (State.actSlot s k row dev).mode.bounded := by
  unfold State.actSlot
  split <;> simp [hb]

@[simp] theorem State.openSlot_bounded (s : State) (k : Nat) (e : FaultEv) (hb : s.mode.bounded) : (State.openSlot s k e).mode.bounded := by
  unfold State.openSlot
  dsimp only
  split <;> simp [hb]

@[simp] theorem State.handle_bounded (s : State) (e : FaultEv) (hb : s.mode.bounded) : (State.handle s e).mode.bounded := by
  unfold State.handle
  dsimp only
  (repeat' split) <;> simp [hb]

@[simp] theorem State.retireStack_bounded (s : State) (st : Nat) (hb : s.mode.bounded) : (State.retireStack s st).mode.bounded := by
  unfold State.retireStack
  split <;> simp [hb]

@[simp] theorem State.stackFreeze_bounded (s : State) (inst : Nat) (hb : s.mode.bounded) : (State.stackFreeze s inst).mode.bounded := by
  unfold State.stackFreeze
  dsimp only
  split <;> simp [hb]

@[simp] theorem State.faultEffects_bounded (s : State) (e : FaultEv) (line : Nat) (hb : s.mode.bounded) :
    (State.faultEffects s e line).mode.bounded := by
  unfold State.faultEffects
  (repeat' split) <;> simp [hb]

@[simp] theorem State.slotTested_bounded (s : State) (k : Nat) (f : FltSlot) (pass row : Bool) (dev : Nat) (hb : s.mode.bounded) :
    (State.slotTested s k f pass row dev).mode.bounded := by
  unfold State.slotTested
  split <;> simp [hb]

@[simp] theorem State.leavePreserve_bounded (s : State) (hb : s.mode.bounded) : (State.leavePreserve s).mode.bounded := by
  have left := State.setMode_bounded s s.returnMode 0x09 hb
  refine State.leaveRestore_bounded _ ?_
  simp only [State.netRun_frame, State.pump_frame]
  refine State.autoTry_bounded _ ?_
  simp only [State.takeMarkers_frame]
  split
  · simpa using left
  · exact left

@[simp] theorem State.leafRestored_bounded (s : State) (leaf : Nat) (hb : s.mode.bounded) : (State.leafRestored s leaf).mode.bounded := by
  simp [State.leafRestored, hb]

@[simp] theorem State.energyLow_bounded (s : State) (hb : s.mode.bounded) : (State.energyLow s).mode.bounded := by
  unfold State.energyLow
  dsimp only
  (repeat' split) <;> simp [hb]

@[simp] theorem State.bankReading_bounded (s : State) (joules : Nat) (hb : s.mode.bounded) : (State.bankReading s joules).mode.bounded := by
  unfold State.bankReading
  extract_lets e need ceil cap p u
  have hu : u.mode.bounded := hb
  clear_value e need u
  simp only [State.pump_frame]
  split
  · exact State.energyLow_bounded u hu
  · exact hu

@[simp] theorem State.supervisorRead_bounded (s : State) (n : Nat) (data : List (BitVec 8)) (hb : s.mode.bounded) :
    (State.supervisorRead s n data).mode.bounded := by
  unfold State.supervisorRead
  split <;> simp [hb]

@[simp] theorem State.unpowered_bounded (s : State) : (State.unpowered s).mode.bounded := by
  simp [State.unpowered, ModeCtl.bounded]

@[simp] theorem State.bringupFail_bounded (s : State) (hb : s.mode.bounded) : (State.bringupFail s).mode.bounded := by
  unfold State.bringupFail
  dsimp only
  split <;> simp [hb]

@[simp] theorem State.bootCore_bounded (s : State) (pop : Option BootPop) (hb : s.mode.bounded) : (State.bootCore s pop).mode.bounded := by
  unfold State.bootCore
  extract_lets m p powered logged ready
  have h3 : (ready.bootFirmware).1.mode.bounded := by simp [ready, logged, powered, m, hb]
  clear_value ready
  split
  · next e =>
    rw [e] at h3
    simp [h3]
  · next e =>
    rw [e] at h3
    dsimp only
    (repeat' split) <;> simp [h3]

@[simp] theorem State.enterRestore_bounded (s : State) (hb : s.mode.bounded) : (State.enterRestore s).mode.bounded := by
  simp [State.enterRestore, hb]

@[simp] theorem State.rangeShort_bounded (s : State) (hb : s.mode.bounded) : (State.rangeShort s).mode.bounded := by
  simp [State.rangeShort, hb]

@[simp] theorem State.beginRestore_bounded (s : State) (hb : s.mode.bounded) : (State.beginRestore s).mode.bounded := by
  simp [State.beginRestore, hb]

@[simp] theorem State.checkRestore_bounded (s : State) (hb : s.mode.bounded) : (State.checkRestore s).mode.bounded := by
  unfold State.checkRestore
  (repeat' split) <;> simp [hb]

@[simp] theorem State.railLost_bounded (s : State) (pres : Bool) (hb : s.mode.bounded) : (State.railLost s pres).mode.bounded := by
  unfold State.railLost
  dsimp only
  (repeat' split) <;> simp [hb]

@[simp] theorem State.lowerNext_bounded (s : State) (hb : s.mode.bounded) : (State.lowerNext s).mode.bounded := by
  unfold State.lowerNext
  split <;> simp [hb]

@[simp] theorem State.chainDown_bounded (s : State) (hb : s.mode.bounded) : (State.chainDown s).mode.bounded := by
  simp [State.chainDown, hb]

/-! ## The timebase, the RSC values not landed and the copies keep their laws -/

@[simp] theorem Timebase.bounded_mk (m : Timebase) (locked capDev capAon capValid capPending) :
    Timebase.bounded ⟨m.ns, m.ticks, locked, m.relocks, capDev, capAon, capValid, capPending⟩ ↔ m.bounded := Iff.rfl

@[simp] theorem Timebase.bounded_tick (m : Timebase) (h : m.bounded) (n k : Nat) (locked capDev capAon capValid capPending) :
    Timebase.bounded ⟨n % 18446744073709551616, k % 18446744073709551616, locked, m.relocks, capDev, capAon, capValid, capPending⟩ :=
  ⟨Nat.mod_lt _ (by decide), Nat.mod_lt _ (by decide), h.2.2⟩

@[simp] theorem Timebase.bounded_relock (m : Timebase) (h : m.bounded) (n : Nat) (hn : n ≤ 65535)
    (locked capDev capAon capValid capPending) :
    Timebase.bounded ⟨m.ns, m.ticks, locked, n, capDev, capAon, capValid, capPending⟩ := ⟨h.1, h.2.1, hn⟩

@[simp] theorem Memory.wf_empty : Memory.wf {} = true := rfl

theorem State.land_sorted (s : State) (a : Nat) (w : Word) (h : SMap.sortedL s.rsc.cells = true) :
    SMap.sortedL (s.land a w).rsc.cells = true := by
  have erased := SMap.erase_sorted s.rsc a h
  unfold State.land
  dsimp only
  split <;> simp [erased]

theorem State.writeRsc_sorted (s : State) (a : Nat) (w : Word) (delayed : Bool) (h : SMap.sortedL s.rsc.cells = true) :
    SMap.sortedL (s.writeRsc a w delayed).rsc.cells = true := by
  unfold State.writeRsc
  split
  · exact SMap.insert_sorted s.rsc a w h
  · exact State.land_sorted s a w h

theorem State.writeReg_sorted (s : State) (who addr : Nat) (w : Word) (h : SMap.sortedL s.rsc.cells = true) :
    SMap.sortedL (s.writeReg who addr w).rsc.cells = true := by
  unfold State.writeReg
  split
  · exact h
  · dsimp only
    split
    · unfold State.writeLive
      dsimp only
      (repeat' split) <;> simp [h, State.writeRsc_sorted]
    · split <;> simp [h]

theorem State.bootCore_sorted (s : State) (pop : Option BootPop) : SMap.sortedL (s.bootCore pop).copies.cells = true := by
  unfold State.bootCore
  extract_lets m p powered logged ready
  have h : SMap.sortedL ready.bootFirmware.1.copies.cells = true := by simp [ready, logged, State.refreshCopies_sorted]
  clear_value ready
  split
  · next e =>
    rw [e] at h
    simpa using h
  · next e =>
    rw [e] at h
    dsimp only
    (repeat' split) <;> simpa using h

@[simp] theorem State.coreOff_mem (s : State) : s.coreOff.mem = {} := rfl
@[simp] theorem State.coreOff_copies (s : State) : s.coreOff.copies = {} := rfl
@[simp] theorem State.unpowered_mem (s : State) : s.unpowered.mem = {} := rfl
@[simp] theorem State.unpowered_copies (s : State) : s.unpowered.copies = {} := rfl
@[simp] theorem State.unpowered_rsc (s : State) : s.unpowered.rsc = {} := rfl
@[simp] theorem State.unpowered_tim (s : State) : s.unpowered.tim = {} := rfl
@[simp] theorem State.unpowered_mode (s : State) : s.unpowered.mode = {} := rfl

/-! ## The commands one by one

First the commands that go through a fold, a guard or several states; then, by family, those whose branches each end in
operations with a frame of their own. -/

theorem sysModeReqWrite_touches (who target purpose : Nat) (delayed : Bool) (s : State) :
    Touches [.landing, .power, .modes] (.sysModeReqWrite who target purpose delayed) s := by
  refine touches_next rfl ?_
  split <;> simp +contextual [keepsBut_iff, State.writeRsc_sorted]

theorem pwrVcoreTargetWrite_touches (who target : Nat) (delayed : Bool) (s : State) :
    Touches [.landing, .power, .modes] (.pwrVcoreTargetWrite who target delayed) s := by
  refine touches_next rfl ?_
  split <;> simp +contextual [keepsBut_iff, State.writeRsc_sorted]

theorem rscWriteLands_touches (addr : Nat) (s : State) : Touches [.landing, .power, .modes] (.rscWriteLands addr) s := by
  refine touches_next rfl ?_
  split <;> simp +contextual [keepsBut_iff, State.land_sorted]

theorem registerWrite_touches (who width addr : Nat) (data : BitVec 64) (s : State) :
    Touches [.flash, .landing, .sideband, .frames, .unlocks, .power, .modes] (.registerWrite who width addr data) s := by
  refine touches_next rfl ?_
  (repeat' split) <;> simp +contextual [keepsBut_iff, State.writeReg_sorted]

theorem aonTick_touches (ns : Nat) (pins : Pins) (s : State) : Touches [.timebase, .copies, .power] (.aonTick ns pins) s := by
  refine touches_next rfl ?_
  split
  · rfl
  · extract_lets t sampled m ticked
    have tick : KeepsBut [.timebase, .copies, .power] s ticked := by
      simp +contextual [keepsBut_iff, ticked, sampled, m]
    refine tick.trans ?_
    clear_value ticked
    split
    · simp [keepsBut_iff, State.refreshCopies_sorted]
    · rfl

theorem timCapture_touch (s : State) : (∀ go : Bool, Touches [.timebase] (.timCaptureGo go) s) ∧ Touches [.timebase] .timCaptureLands s := by
  and_intros
  all_goals
    intros
    refine touches_next rfl ?_
    split <;> simp [keepsBut_iff]

theorem activateFw_touches (m : Mbx) (action slot : Nat) (s : State) : Touches [.flash, .modes] (.activateFw m action slot) s :=
  touches_next rfl (KeepsBut.command fun tag a => by simp +contextual [keepsBut_quiet])

theorem pprDone_touches (outcome : Nat) (s : State) : Touches [.homeLines, .power, .modes] (.pprDone outcome) s := by
  refine touches_next rfl ?_
  split
  · rfl
  · next p _ =>
    have freed : ∀ (s : State) (r : Reply) (good : Bool), KeepsBut [.homeLines, .power, .modes] s
        (({ s with ec := { s.ec with repair := none } }.finish p.tag r).repairEnd p good) :=
      fun s r good => by simp +contextual [keepsBut_quiet]
    extract_lets r cells free written unremapped rows c d a logged
    have written_keeps : KeepsBut [.homeLines, .power, .modes] s written :=
      KeepsBut.foldl (fun a c => by simp +contextual [keepsBut_quiet, State.rowBack_wf]) cells s
    have unremapped_keeps : KeepsBut [.homeLines, .power, .modes] written unremapped :=
      KeepsBut.foldl (fun a c => by simp +contextual [keepsBut_quiet, State.unremap_wf]) _ written
    have logged_keeps : KeepsBut [.homeLines, .power, .modes] unremapped logged := by
      clear_value unremapped
      simp [logged, d, keepsBut_quiet]
    clear_value logged unremapped written
    split
    · rfl
    · split
      · exact freed _ _ _
      · refine written_keeps.trans ?_
        split
        · exact freed _ _ _
        · exact (unremapped_keeps.trans logged_keeps).trans ((freed _ _ _).trans (pump_keeps _ _))

theorem KeepsBut.testOp {ps : List Part} (hu : .unlocks ∈ ps) {s : State} {who op : Nat} {ctl : Word} {run : State → Home → State}
    (h : ∀ a k, KeepsBut ps a (run a k)) : KeepsBut ps s (s.testOp who op ctl run) := by
  have guarded : KeepsBut ps s (s.guarded who).2 := by simp [keepsBut_iff, hu]
  unfold State.testOp
  split
  · rfl
  · split
    · next e =>
      rwa [e] at guarded
    · next t e =>
      rw [e] at guarded
      refine guarded.trans ?_
      extract_lets w named k
      have set : KeepsBut ps t named := KeepsBut.weaken (by simp [named, keepsBut_quiet])
      refine set.trans ?_
      have res : ∀ (a : State) (r : Nat), KeepsBut ps a (a.testRes r) := fun a r => KeepsBut.weaken (by simp [keepsBut_quiet])
      split
      · exact res _ _
      · split
        · exact res _ _
        · exact (h _ _).trans (res _ _)

theorem testWrite_touches (who : Nat) (ctl : Word) (s : State) :
    Touches [.homeLines, .unlocks] (.rawWrite who ctl) s ∧ Touches [.homeLines, .unlocks] (.encWrite who ctl) s := by
  constructor
  all_goals
    refine touches_next rfl (KeepsBut.testOp (by decide) fun a h => ?_)
    simp +contextual [keepsBut_iff, State.setCell_wf]

theorem departingAckTimeout_touches (s : State) : Touches [.modes] .departingAckTimeout s := by
  refine touches_next rfl ?_
  have dead : ∀ (s : State) (n : Nat), KeepsBut [.modes] s (s.declareDead n) := fun s n => by simp +contextual [keepsBut_quiet]
  split
  · have lost : ∀ s : State, KeepsBut [.modes] s s.loseTwin := fun s => by simp +contextual [keepsBut_quiet]
    exact ((dead _ _).trans (dead _ _)).trans (lost _)
  · rfl

theorem faultEvent_touches (unit code cls at_ : Nat) (s : State) :
    Touches [.flash, .frames, .power, .modes] (.faultEvent unit code cls at_) s := by
  refine touches_next rfl ?_
  split
  · rfl
  · extract_lets e m taken noted stripped hurt told handled
    have stripped_keeps : KeepsBut [.flash, .frames, .power, .modes] s stripped := by
      simp +contextual [stripped, noted, taken, keepsBut_quiet]
    have told_keeps : KeepsBut [.flash, .frames, .power, .modes] stripped told := by
      clear_value stripped
      simp +contextual [told, hurt, keepsBut_quiet]
    refine (stripped_keeps.trans told_keeps).trans (KeepsBut.trans ?_ (pump_keeps _ _))
    clear_value told
    simp only [handled]
    split
    · simp +contextual [keepsBut_quiet]
    · rfl

theorem referenceClockLost_touches (clock : Nat) (s : State) : Touches [.timebase, .power, .modes] (.referenceClockLost clock) s := by
  refine touches_next rfl ?_
  dsimp only
  (repeat' split) <;> simp +contextual [keepsBut_iff]

theorem referenceClockRestored_touches (clock : Nat) (s : State) : Touches [.timebase, .power] (.referenceClockRestored clock) s := by
  refine touches_next rfl ?_
  extract_lets note relocks m p locked noted
  have note_keeps : ∀ s, KeepsBut [.timebase, .power] s (note s) := fun s => KeepsBut.weaken (by simp [note, keepsBut_quiet])
  have locked_keeps : KeepsBut [.timebase, .power] s locked := by
    have saturates : s.tim.bounded → relocks ≤ 65535 := fun h => by
      have := h.2.2
      simp only [relocks]
      split <;> omega
    clear_value relocks
    simp +contextual [keepsBut_iff, locked, m, saturates]
  clear_value locked
  have noted_keeps : KeepsBut [.timebase, .power] locked noted := note_keeps locked
  clear_value note noted
  split
  · refine locked_keeps.trans ?_
    split
    · rfl
    · refine noted_keeps.trans ?_
      split
      · rfl
      · refine KeepsBut.foldl (fun a c => ?_) _ _
        dsimp only
        split <;> simp [keepsBut_iff]
  · (repeat' split)
    · exact KeepsBut.trans (by simp [keepsBut_iff]) (note_keeps _)
    · exact KeepsBut.trans (by simp [keepsBut_iff]) (note_keeps _)
    · rfl

/-- The kinds of state that the removal of VDD_AON resets: all but the queue. -/
abbrev Part.powered : List Part :=
  [.homeLines, .timebase, .flash, .landing, .copies, .latched, .sideband, .frames, .unlocks, .power, .modes]

theorem unpowered_keeps (s : State) : KeepsBut Part.powered s s.unpowered := by
  simp [keepsBut_iff, SMap.sortedL, ModeCtl.bounded, Timebase.bounded]

theorem vddAonRemoved_touches (s : State) :
    Touches [.homeLines, .timebase, .flash, .landing, .copies, .latched, .sideband, .frames, .unlocks, .power, .modes] .vddAonRemoved s := by
  refine touches_next rfl ?_
  split
  · exact unpowered_keeps s
  · rfl

theorem stepQualified_touches (pop : Option BootPop) (s : State) :
    Touches [.flash, .copies, .sideband, .frames, .power, .modes] (.stepQualified pop) s := by
  refine touches_next rfl ?_
  dsimp only
  (repeat' split) <;> simp +contextual [keepsBut_iff, State.bootCore_sorted]

theorem outHoldExpired_touches (s : State) :
    Touches [.homeLines, .flash, .copies, .latched, .sideband, .frames, .power, .modes] .outHoldExpired s := by
  refine touches_next rfl ?_
  split
  · simp +contextual [keepsBut_iff, SMap.sortedL]
  · rfl

theorem vddAonApplied_touches (pins : Pins) (mt xb : Bool) (eeprom : Option (List (Word × Word))) (s : State) :
    Touches [.homeLines, .timebase, .flash, .landing, .copies, .latched, .sideband, .frames, .unlocks, .power, .modes]
      (.vddAonApplied pins mt xb eeprom) s := by
  refine touches_next rfl ?_
  split
  · rfl
  · extract_lets off p m on loaded
    have on_keeps : KeepsBut Part.powered s on := by
      refine (unpowered_keeps s).trans ?_
      simp [on, off, p, m, keepsBut_iff, Timebase.bounded, bit]
      split <;> decide
    have loaded_keeps : KeepsBut Part.powered on loaded := by
      clear_value on
      simp [loaded, keepsBut_iff]
    have asked : KeepsBut Part.powered loaded loaded.onRequest := by
      generalize loaded = a
      simp [keepsBut_iff]
    split
    · exact (on_keeps.trans loaded_keeps).trans asked
    · exact on_keeps.trans loaded_keeps

theorem modeRequest_touches (m : Mbx) (inp : List Word) (s : State) : Touches [.power, .modes] (.modeRequest m inp) s := by
  refine touches_next rfl (KeepsBut.command fun tag a => ?_)
  dsimp only
  split <;> simp +contextual [keepsBut_quiet]

theorem injectPoison_touches (m : Mbx) (dpa : Nat) (s : State) : Touches [] (.injectPoison m dpa) s := by
  refine touches_next rfl (KeepsBut.command fun tag a => ?_)
  (repeat' split) <;> simp [keepsBut_quiet]

theorem clearPoison_touches (m : Mbx) (dpa : Nat) (data : Line) (s : State) : Touches [] (.clearPoison m dpa data) s := by
  refine touches_next rfl (KeepsBut.command fun tag a => ?_)
  (repeat' split) <;> simp [keepsBut_quiet]

theorem clearEventRecords_touches (m : Mbx) (log count : Nat) (s : State) : Touches [] (.clearEventRecords m log count) s := by
  refine touches_next rfl (KeepsBut.simple fun a => ?_)
  dsimp only
  split <;> simp [keepsBut_quiet]

theorem vaultFormat_touches (m : Mbx) (inp : List Word) (s : State) : Touches [] (.vaultFormat m inp) s := by
  refine touches_next rfl (KeepsBut.simple fun a => ?_)
  dsimp only
  split <;> simp [keepsBut_quiet]

theorem vaultCheckpoint_touches (m : Mbx) (inp : List Word) (s : State) : Touches [] (.vaultCheckpoint m inp) s := by
  refine touches_next rfl (KeepsBut.command fun tag a => ?_)
  dsimp only
  (repeat' split) <;> simp [keepsBut_quiet]

theorem pairForm_touches (m : Mbx) (inp : List Word) (s : State) : Touches [.modes] (.pairForm m inp) s := by
  refine touches_next rfl (KeepsBut.command fun tag a => ?_)
  have hf : KeepsBut [.modes] a (a.formRefused inp).1 := by simp +contextual [keepsBut_quiet]
  split
  · next t e => simpa [e] using hf
  · next t e =>
    rw [e] at hf
    exact hf.trans (by simp +contextual [keepsBut_quiet])

theorem frameCommit_touches (m : Mbx) (inp : List Word) (s : State) : Touches [.frames, .modes] (.frameCommit m inp) s := by
  refine touches_next rfl (KeepsBut.simple fun a => ?_)
  have hc : KeepsBut [.frames, .modes] a (a.commit (wordAt inp 0)).1 := by simp +contextual [keepsBut_quiet]
  split
  all_goals
    next e =>
      rw [e] at hc
      exact hc

theorem frameRewind_touches (m : Mbx) (inp : List Word) (s : State) : Touches [.flash, .frames, .modes] (.frameRewind m inp) s := by
  refine touches_next rfl (KeepsBut.simple fun a => ?_)
  dsimp only
  split
  · rfl
  · have hr : KeepsBut [.flash, .frames, .modes] a (a.rewind ((wordAt inp 0).field 1 0)).1 := by simp +contextual [keepsBut_quiet]
    split
    all_goals
      next e =>
        rw [e] at hr
        exact hr

theorem logClear_touches (m : Mbx) (inp : List Word) (s : State) : Touches [.flash, .unlocks] (.logClear m inp) s := by
  refine touches_next rfl (KeepsBut.simple fun a => ?_)
  dsimp only
  (repeat' split) <;> simp [keepsBut_iff]

theorem logFlush_touches (m : Mbx) (inp : List Word) (s : State) : Touches [] (.logFlush m inp) s := by
  refine touches_next rfl (KeepsBut.command fun tag a => ?_)
  dsimp only
  split <;> simp [keepsBut_quiet]

theorem fwSvnAdvance_touches (m : Mbx) (inp : List Word) (s : State) : Touches [.unlocks] (.fwSvnAdvance m inp) s := by
  refine touches_next rfl (KeepsBut.simple fun a => ?_)
  dsimp only
  (repeat' split) <;> simp [keepsBut_iff]

theorem scanMedia_touches (m : Mbx) (dpa length : Nat) (s : State) : Touches [] (.scanMedia m dpa length) s := by
  refine touches_next rfl (KeepsBut.command fun tag a => ?_)
  dsimp only
  split
  · rfl
  · have hs : ∀ (b : State) (f : Nat) (x : Func), KeepsBut [] b (b.setFunc f x) := fun b f x => by simp [keepsBut_quiet]
    refine KeepsBut.trans ?_ (hs _ _ _)
    refine KeepsBut.foldl_fst (fun a c => ?_) _ (a, [])
    split <;> simp [keepsBut_quiet]

theorem sysPoolWrite_touches (who : Nat) (value : Word) (s : State) : Touches [.unlocks] (.sysPoolWrite who value) s := by
  refine touches_next rfl ?_
  have hg : KeepsBut [.unlocks] s (s.guarded who).2 := by simp [keepsBut_iff]
  split
  · rfl
  · split
    · next e => simpa [e] using hg
    · next e =>
      rw [e] at hg
      refine hg.trans ?_
      split <;> simp [keepsBut_iff]

theorem flashResume_touches (who : Nat) (s : State) : Touches [.flash, .unlocks] (.flashResume who) s := by
  refine touches_next rfl ?_
  unfold State.flsCmd
  split
  · rfl
  · have hg : KeepsBut [.flash, .unlocks] s (s.guarded who).2 := by simp [keepsBut_iff]
    split
    · next e =>
      rw [e] at hg
      refine hg.trans ?_
      dsimp only
      split <;> simp [keepsBut_iff]
    · next e => simpa [e] using hg

theorem setLdAllocations_touches (m : Mbx) (spans : List (Nat × Nat)) (s : State) : Touches [] (.setLdAllocations m spans) s := by
  refine touches_next rfl (KeepsBut.simple fun a => ?_)
  split
  · rfl
  · dsimp only
    split
    · exact KeepsBut.foldl (fun b c => by simp [keepsBut_quiet]) _ _
    · rfl

theorem freezeReadTimeout_touches (inst : Nat) (s : State) : Touches [] (.freezeReadTimeout inst) s := by
  refine touches_next rfl ?_
  split
  · rfl
  · refine KeepsBut.trans (KeepsBut.trans ?_ (KeepsBut.foldl (fun a x => ?_) _ _)) (pump_keeps _ _)
    · refine KeepsBut.foldl (fun a x => ?_) _ _
      simp [keepsBut_quiet]
    · split <;> simp [keepsBut_quiet]

theorem scrubRead_touches (s : State) : Touches [] .scrubRead s := by
  refine touches_next rfl ?_
  have hr : ∀ r, KeepsBut [] s (s.request r).1 := fun r => by simp [keepsBut_quiet]
  split
  · rfl
  · split
    · simp [keepsBut_quiet]
    · next line h _ =>
      (repeat' split)
      · rfl
      · simp [keepsBut_quiet]
      · rfl
      · next t id e _ _ _ =>
        have hr := hr ⟨6, line, .read, .internal 0, false⟩
        rw [e] at hr
        exact hr.trans (by simp [keepsBut_quiet])
      · next t id e _ _ =>
        simpa [e] using hr ⟨6, line, .read, .internal 0, false⟩
      · next t e =>
        simpa [e] using hr ⟨6, line, .read, .internal 0, false⟩

theorem cleaningStart_touches (zone : Nat) (dst : List Nat) (s : State) : Touches [] (.cleaningStart zone dst) s := by
  refine touches_next rfl ?_
  split
  · rfl
  · split
    · rfl
    · split
      · rfl
      · next t e =>
        have h := State.relocate_frame _ _ _ _ e
        simp [keepsBut_quiet, h]

theorem cmReq_touches (e : Eth) (r : CmReq) (s : State) : Touches [] (.cmReq e r) s := by
  refine touches_next rfl (KeepsBut.cmIn fun a => ?_)
  extract_lets rt
  split
  · split
    · simp [keepsBut_quiet]
    · extract_lets c
      clear_value c
      simp [keepsBut_quiet]
  · simp [keepsBut_quiet]

theorem cmRtu_touches (e : Eth) (qpn : Nat) (s : State) : Touches [] (.cmRtu e qpn) s := by
  refine touches_next rfl (KeepsBut.cmIn fun a => ?_)
  split <;> simp [keepsBut_quiet]

theorem cmDrep_touches (e : Eth) (qpn : Nat) (s : State) : Touches [] (.cmDrep e qpn) s := by
  refine touches_next rfl (KeepsBut.cmIn fun a => ?_)
  (repeat' split) <;> simp [keepsBut_quiet]

theorem orderAck_touches (s : State) : Touches [] .orderAck s := by
  refine touches_next rfl ?_
  split
  · rfl
  · next m _ =>
    dsimp only
    split
    · next t e =>
      refine (KeepsBut.foldl_bind (fun a x b hb => ?_) _ _ _ e).trans (by simp [keepsBut_quiet])
      split at hb
      · have h := State.ordered_frame _ _ _ _ _ hb
        simp [keepsBut_quiet, h]
      · simp_all [keepsBut_quiet]
    · simp [keepsBut_quiet]

theorem mirror_touches (s : State) : Touches [] .mirror s := by
  refine touches_next rfl ?_
  split
  · rfl
  · split
    · next t e =>
      have h := State.applyRecs_frame _ _ _ e
      simp [keepsBut_quiet, h]
    · simp [keepsBut_quiet]

theorem intentData_touches (s : State) : Touches [] .intentData s := by
  refine touches_next rfl ?_
  split
  · rfl
  · split
    · next t e =>
      have h := State.applyRecs_frame _ _ _ e
      simp [keepsBut_quiet, h]
    · simp [keepsBut_quiet]

theorem mirrorAck_touches (s : State) : Touches [] .mirrorAck s := by
  refine touches_next rfl ?_
  split
  · rfl
  · have hd : ∀ a : State, KeepsBut [] a a.msgDone := fun a => by simp [keepsBut_quiet]
    have ha : ∀ a : State, KeepsBut [] a a.afterData := fun a => by simp [keepsBut_quiet]
    refine KeepsBut.trans ((hd s).trans (KeepsBut.foldl (fun a x => ?_) _ _)) (ha _)
    split
    · split
      · simp [keepsBut_quiet]
      · refine KeepsBut.foldl (fun b c => ?_) _ _
        dsimp only
        split <;> simp [keepsBut_quiet]
    · rfl

theorem raResp_touches (s : State) : Touches [.homeLines] .raResp s := by
  refine touches_next rfl ?_
  split
  · rfl
  · have hd : ∀ a : State, KeepsBut [.homeLines] a a.msgDone := fun a => by simp +contextual [keepsBut_quiet]
    refine (hd s).trans ?_
    generalize s.msgDone = s
    dsimp only
    split
    · simp +contextual [keepsBut_quiet, State.restoredLines_wf]
    · refine KeepsBut.trans (KeepsBut.trans ?_ (KeepsBut.foldl (fun a x => ?_) _ _)) (pump_keeps _ _)
      · simp +contextual [keepsBut_quiet]
      · (repeat' split) <;> simp +contextual [keepsBut_quiet]

theorem resyncCopy_touches (s : State) : Touches [] .resyncCopy s := by
  refine touches_next rfl ?_
  split
  · rfl
  · dsimp only
    split
    · next t e =>
      refine (KeepsBut.foldl_bind (fun a x b hb => ?_) _ _ _ e).trans (by simp [keepsBut_quiet])
      split at hb
      · cases hb
        simp [keepsBut_quiet]
      · split at hb
        · cases hb
          simp [keepsBut_quiet]
        · split at hb
          · obtain ⟨c, hc, rfl⟩ := Option.map_eq_some_iff.mp hb
            have h := State.putLine_frame _ _ _ _ _ _ _ hc
            simp [keepsBut_quiet, h]
          · cases hb
    · simp [keepsBut_quiet]

theorem flashSuspend_touches (who : Nat) (s : State) : Touches [.flash, .unlocks] (.flashSuspend who) s := by
  refine touches_next rfl ?_
  unfold State.flsCmd
  split
  · rfl
  · have hg : KeepsBut [.flash, .unlocks] s (s.guarded who).2 := by simp [keepsBut_iff]
    split
    · next e =>
      rw [e] at hg
      refine hg.trans ?_
      dsimp only
      split <;> simp [keepsBut_iff]
    · next e => simpa [e] using hg

theorem jtagInstruction_touches (j : JtagInstr) (s : State) : Touches [] (.jtagInstruction j) s := by
  intro t h
  have h : execJtagInstruction j s = .next t := h
  unfold execJtagInstruction at h
  dsimp only at h
  (repeat' split at h) <;> simp only [Host.Outcome.next.injEq, reduceCtorEq] at h <;> subst h <;> simp [keepsBut_quiet]

theorem resyncCopySend_touches (x : Nat) (s : State) : Touches [] (.resyncCopySend x) s := by
  refine touches_next rfl ?_
  split
  · rfl
  · split
    · rfl
    · extract_lets line send
      have hn : ∀ t r, KeepsBut [] s (s.handNew t r) := fun t r => by simp [keepsBut_quiet]
      have hs : ∀ b, KeepsBut [] s (send b) := fun b => by
        refine (hn 0x0A [.line ⟨line, s.ordOf line, s.pair.resyncEpoch.getD x 0, b⟩]).trans ?_
        simp [send, keepsBut_quiet]
      clear_value line send
      split
      · simp [keepsBut_quiet]
      · generalize s.lineNow line = now
        rcases now with _ | d | _ | _
        · exact .refl [] s
        · exact hs _
        · exact hs _
        · exact .refl [] s

theorem resyncCtl_touches (c : ResyncMsg) (s : State) : Touches [.modes] (.resyncCtl c) s := by
  refine touches_next rfl ?_
  split
  · rfl
  · have hd : ∀ a : State, KeepsBut [.modes] a a.msgDone := fun a => by simp +contextual [keepsBut_quiet]
    refine (hd s).trans ?_
    generalize s.msgDone = s
    dsimp only
    split
    · (repeat' split) <;> simp +contextual [keepsBut_quiet]
    · refine KeepsBut.foldl (fun a r => ?_) _ _
      split
      · split
        · next d _ =>
          have hp : KeepsBut [.modes] a ((a.putLine r.line d Mask.full false 7).getD a) := by
            cases e : a.putLine r.line d Mask.full false 7 with
            | none => rfl
            | some b => simp +contextual [keepsBut_quiet, State.putLine_frame _ _ _ _ _ _ _ e]
          refine hp.trans ?_
          simp +contextual [keepsBut_quiet]
        · rfl
      · rfl
    · have he : ∀ a : State, KeepsBut [.modes] a ((a.resyncFalls.handBack.pump).attrTry) := fun a => by simp +contextual [keepsBut_quiet]
      refine KeepsBut.trans (KeepsBut.foldl (fun a x => ?_) _ _) (he _)
      simp +contextual [keepsBut_quiet]
    · refine KeepsBut.foldl (fun a r => ?_) _ _
      split <;> simp +contextual [keepsBut_quiet]

/-- The mode controller (R21, R22, R29, R400). -/
theorem modeCommands_touch (s : State) :
    (∀ (m : Mbx) (_inp : List Word), Touches [] (.modeStatus m _inp) s) ∧
    Touches [.modes] .holdDwellExpired s ∧
    Touches [.modes] .holdPurposeFinished s ∧
    (∀ channel unit : Nat, Touches [] (.handshakeStall channel unit) s) := by
  and_intros
  all_goals
    intros
    refine touches_next rfl ?_
    (repeat' split) <;> simp +contextual [keepsBut_quiet]

/-- Write-behind, the NAND and its cycle (R297 to R306). -/
theorem writeBehind_touch (s : State) :
    (∀ (loc : Nat) (bad : List Nat), Touches [] (.writeBehindLeaf loc bad) s) ∧
    (∀ (page : Nat) (pass : Bool), Touches [] (.nandProgramDone page pass) s) ∧
    (∀ (seg pos : Nat) (pass : Bool) (zeros : List Nat), Touches [] (.nandEraseDone seg pos pass zeros) s) ∧
    Touches [] .mapDeltaWrite s ∧
    Touches [] .checkpointCycleStart s ∧
    Touches [] .checkpointCycleDone s ∧
    Touches [] .sealRecordWritten s := by
  and_intros
  all_goals
    intros
    refine touches_next rfl ?_
    try dsimp only
    (repeat' split) <;> simp [keepsBut_quiet]

theorem preserveComplete_touches (joules : Nat) (s : State) : Touches [.flash, .frames, .power, .modes] (.preserveComplete joules) s := by
  refine touches_next rfl ?_
  split
  · rfl
  · extract_lets sealed tables ckpt super ms rec_ nand taken m v done counted slow logged
    have done_keeps : KeepsBut [.flash, .frames, .power, .modes] s done := by
      simp +contextual [done, m, taken, super, tables, sealed, keepsBut_quiet]
    have logged_keeps : KeepsBut [.flash, .frames, .power, .modes] done logged := by
      clear_value done
      simp only [logged, slow]
      split <;> simp +contextual [counted, keepsBut_quiet]
    refine (done_keeps.trans logged_keeps).trans ?_
    clear_value logged
    split <;> simp +contextual [keepsBut_quiet]

/-- RESTORE of leaves (R311 to R318). -/
theorem leafRestore_touch (s : State) :
    (∀ leaf : Nat, Touches [] (.leafRestoreStart leaf) s) ∧
    (∀ (leaf : Nat) (reads : List PageRead), Touches [.homeLines, .modes] (.leafRestoreDone leaf reads) s) := by
  and_intros
  all_goals
    intros
    refine touches_next rfl ?_
    dsimp only
    (repeat' split) <;> simp +contextual [keepsBut_quiet, State.putRecord_wf, State.poisonLeaf_wf]

/-- The commands on the vault (R434). -/
theorem vaultMailbox_touch (s : State) :
    (∀ (m : Mbx) (_inp : List Word), Touches [] (.vaultStatus m _inp) s) ∧
    (∀ who : Nat, Touches [.unlocks] (.vaultEraseGo who) s) ∧
    (∀ (failed : List (Nat × Nat)), Touches [] (.vaultFormatDone failed) s) ∧
    (∀ (m : Mbx) (inp : List Word), Touches [.frames] (.zoneSet m inp) s) ∧
    (∀ (m : Mbx) (inp : List Word), Touches [] (.vaultLostList m inp) s) ∧
    (∀ (m : Mbx) (_inp : List Word), Touches [] (.preserveReport m _inp) s) := by
  and_intros
  all_goals
    intros
    refine touches_next rfl ?_
    dsimp only
    (repeat' split) <;> simp [keepsBut_iff]

/-- Regions and shares (R430, R431). -/
theorem regions_touch (s : State) :
    (∀ (m : Mbx) (inp : List Word), Touches [] (.regionCreate m inp) s) ∧
    (∀ (m : Mbx) (inp : List Word), Touches [] (.regionDelete m inp) s) ∧
    (∀ (m : Mbx) (inp : List Word), Touches [] (.regionSetAttr m inp) s) ∧
    (∀ (m : Mbx) (inp : List Word), Touches [] (.regionZero m inp) s) ∧
    (∀ region : Nat, Touches [] (.regionFenceEnd region) s) ∧
    (∀ (m : Mbx) (inp : List Word), Touches [] (.regionList m inp) s) ∧
    (∀ (m : Mbx) (_inp : List Word), Touches [] (.identifyRegions m _inp) s) ∧
    (∀ (m : Mbx) (inp : List Word), Touches [] (.shareCreate m inp) s) ∧
    (∀ (m : Mbx) (inp : List Word), Touches [] (.shareDelete m inp) s) := by
  and_intros
  all_goals
    intros
    refine touches_next rfl ?_
    (repeat' split) <;> simp [keepsBut_quiet]

/-- CXL.mem requests (R376 to R384). -/
theorem hostRequests_touch (s : State) :
    (∀ leaf : Nat, Touches [] (.leafFillDone leaf) s) ∧
    (∀ p : CxlMsg, Touches [] (.memRd p) s) ∧
    (∀ (p : CxlMsg) (data : Line) (poison : Bool), Touches [] (.memWr p data poison) s) ∧
    (∀ (p : CxlMsg) (data : Line) (mask : Mask) (poison : Bool), Touches [] (.memWrPtl p data mask poison) s) ∧
    (∀ p : CxlMsg, Touches [] (.memSpecRd p) s) ∧
    (∀ p : CxlMsg, Touches [] (.memInv p) s) ∧
    (∀ port link _opcode : Nat, Touches [] (.m2sBadOpcode port link _opcode) s) := by
  and_intros
  all_goals
    intros
    refine touches_next rfl ?_
    (repeat' split) <;> simp [keepsBut_quiet]

/-- The links of the CXL ports (R385 to R392). -/
theorem hostLinks_touch (s : State) :
    (∀ port link : Nat, Touches [] (.gpfPhase2Request port link) s) ∧
    (∀ port link : Nat, Touches [] (.gpfPhase2Response port link) s) ∧
    (∀ (port link : Nat) (cause : ResetCause), Touches [.flash] (.perstNAssert port link cause) s) ∧
    (∀ (port link : Nat) (good : BitVec 16), Touches [] (.cxlLaneFailure port link good) s) ∧
    (∀ port link : Nat, Touches [] (.cxlLinkL0 port link) s) ∧
    (∀ port link : Nat, Touches [] (.cxlLinkRecoveryTimeout port link) s) ∧
    (∀ (port link : Nat) (pass : Bool), Touches [] (.retrainFull port link pass) s) ∧
    (∀ port link : Nat, Touches [] (.ideIntegrityFail port link) s) ∧
    (∀ port link : Nat, Touches [] (.perstNRelease port link) s) ∧
    (∀ (port link : Nat) (retry : Bool), Touches [] (.crcThreshold port link retry) s) := by
  and_intros
  all_goals
    intros
    refine touches_next rfl ?_
    try dsimp only
    (repeat' split) <;> simp [keepsBut_quiet]

/-- The functions of the CXL ports (R369 to R375). -/
theorem hostFunctions_touch (s : State) :
    (∀ (fn idx : Nat) (d : HdmProg), Touches [] (.hdmDecoderCommit fn idx d) s) ∧
    (∀ fn : Nat, Touches [.flash] (.functionLevelReset fn) s) ∧
    (∀ port link : Nat, Touches [] (.ideKm port link) s) ∧
    (∀ m : Mbx, Touches [] (.getLdInfo m) s) ∧
    (∀ (m : Mbx) (start limit : Nat), Touches [] (.getLdAllocations m start limit) s) ∧
    (∀ port ld span : Nat, Touches [] (.cxaLdSpanWrite port ld span) s) ∧
    (∀ (fn protocol : Nat) (words : List Word), Touches [] (.doeRequest fn protocol words) s) := by
  and_intros
  all_goals
    intros
    refine touches_next rfl ?_
    (repeat' split) <;> simp [keepsBut_quiet]

/-- Event records and firmware (R424 to R426). -/
theorem eventsAndFirmware_touch (s : State) :
    (∀ (m : Mbx) (log : Nat), Touches [] (.getEventRecords m log) s) ∧
    (∀ m : Mbx, Touches [] (.getEventInterruptPolicy m) s) ∧
    (∀ (m : Mbx) (vectors : List (Option Nat)), Touches [] (.setEventInterruptPolicy m vectors) s) ∧
    (∀ m : Mbx, Touches [] (.getFwInfo m) s) ∧
    (∀ (m : Mbx) (action slot offset : Nat) (data : List (BitVec 256)), Touches [.flash] (.transferFw m action slot offset data) s) ∧
    Touches [.flash, .modes] .fwReady s ∧
    Touches [.modes] .activationTimeout s ∧
    (∀ m : Mbx, Touches [] (.getTimestamp m) s) ∧
    (∀ (m : Mbx) (ns : Nat), Touches [] (.setTimestamp m ns) s) ∧
    (∀ m : Mbx, Touches [] (.getSupportedLogs m) s) ∧
    (∀ (m : Mbx) (offset length : Nat), Touches [] (.getLog m offset length) s) := by
  and_intros
  all_goals
    intros
    refine touches_next rfl ?_
    (repeat' split) <;> simp +contextual [keepsBut_quiet]

/-- The device queries and settings of the CXL standard. -/
theorem deviceQueries_touch (s : State) :
    (∀ m : Mbx, Touches [] (.identifyMemoryDevice m) s) ∧
    (∀ m : Mbx, Touches [] (.getPartitionInfo m) s) ∧
    (∀ m : Mbx, Touches [] (.getHealthInfo m) s) ∧
    (∀ m : Mbx, Touches [] (.getAlertConfiguration m) s) ∧
    (∀ (m : Mbx) (life temp : Nat), Touches [] (.setAlertConfiguration m life temp) s) ∧
    (∀ m : Mbx, Touches [] (.getShutdownState m) s) ∧
    (∀ (m : Mbx) (_dirty : Bool), Touches [] (.setShutdownState m _dirty) s) ∧
    (∀ (m : Mbx) (dpa length : Nat), Touches [] (.getPoisonList m dpa length) s) ∧
    (∀ m : Mbx, Touches [] (.scanMediaCapabilities m) s) ∧
    (∀ m : Mbx, Touches [] (.getScanMediaResults m) s) ∧
    (∀ (fn : Nat) (secondary : Bool), Touches [] (.backgroundCommandDone fn secondary) s) ∧
    (∀ (m : Mbx) (opcode : Nat), Touches [] (.unsupportedOpcode m opcode) s) := by
  and_intros
  all_goals
    intros
    refine touches_next rfl ?_
    (repeat' split) <;> simp [keepsBut_quiet]

/-- Packets and frames from the network (R324 to R341). -/
theorem packets_touch (s : State) :
    (∀ id : Nat, Touches [] (.trackerEntryFreed id) s) ∧
    (∀ p : RdmaPkt, Touches [] (.rdmaWritePacket p) s) ∧
    (∀ p : RdmaPkt, Touches [] (.rdmaReadRequest p) s) ∧
    (∀ p : RdmaPkt, Touches [] (.cmpSwap p) s) ∧
    (∀ p : RdmaPkt, Touches [] (.fetchAdd p) s) ∧
    (∀ p : RdmaPkt, Touches [] (.rcUnsupportedOpcode p) s) ∧
    (∀ (e : Eth) (_why : RxDrop), Touches [] (.rxFrameDiscarded e _why) s) ∧
    (∀ (e : Eth) (target : BitVec 128), Touches [] (.arpNdFrame e target) s) ∧
    (∀ (e : Eth) (pairId _ctrlId : Nat) (seq : BitVec 64), Touches [] (.probePacket e pairId _ctrlId seq) s) := by
  and_intros
  all_goals
    intros
    refine touches_next rfl ?_
    (repeat' split) <;> simp [keepsBut_quiet]

/-- Ports, pauses and contexts of the network engine. -/
theorem ports_touch (s : State) :
    (∀ (mac port : Nat) (prios : BitVec 8) (quanta : List Nat), Touches [] (.pfcFrameReceived mac port prios quanta) s) ∧
    (∀ mac port prio : Nat, Touches [] (.pauseQuantaExpired mac port prio) s) ∧
    (∀ mac port prio : Nat, Touches [] (.xoffRefresh mac port prio) s) ∧
    (∀ mac port prio : Nat, Touches [] (.rxPauseStorm mac port prio) s) ∧
    (∀ mac port prio : Nat, Touches [] (.rxStormIgnoreEnd mac port prio) s) ∧
    (∀ mac port prio : Nat, Touches [] (.txPauseStorm mac port prio) s) ∧
    (∀ slot : Nat, Touches [] (.contextFetchDone slot) s) ∧
    (∀ slot : Nat, Touches [] (.stallExpired slot) s) ∧
    (∀ slot : Nat, Touches [] (.ackDelayExpired slot) s) ∧
    (∀ index : Nat, Touches [] (.revocationDrainDone index) s) ∧
    (∀ mac : Nat, Touches [] (.macModeRetrainDone mac) s) ∧
    (∀ (mac port : Nat) (up : Bool), Touches [] (.ethernetLinkChange mac port up) s) := by
  and_intros
  all_goals
    intros
    refine touches_next rfl ?_
    try dsimp only
    (repeat' split) <;> simp [keepsBut_quiet]

/-- Home reads and writes as they return (R160, R226). -/
theorem homeReads_touch (s : State) :
    (∀ (inst req : Nat) (errs : List (Nat × BitVec 16)), Touches [] (.homeReadReturn inst req errs) s) ∧
    (∀ line bad : Nat, Touches [] (.mergedRefetchDone line bad) s) ∧
    (∀ inst req : Nat, Touches [.homeLines] (.writeQueueRetire inst req) s) := by
  and_intros
  all_goals
    intros
    refine touches_next rfl ?_
    try dsimp only
    (repeat' split) <;> simp +contextual [keepsBut_quiet, State.setCell_wf]

theorem mergeEntryTimeout_touches (line : Nat) (errs : List (Nat × BitVec 16)) (s : State) : Touches [] (.mergeEntryTimeout line errs) s := by
  refine touches_next rfl ?_
  split
  · rfl
  · next m _ =>
    extract_lets h pressure why level r' counted
    split
    · rfl
    · split
      · simp [keepsBut_quiet]
      · have counted_keeps : KeepsBut [] s counted := by simp [counted, keepsBut_quiet]
        refine counted_keeps.trans ?_
        clear_value counted
        split
        next r corr _ =>
        extract_lets noted
        have noted_keeps : KeepsBut [] counted noted := by
          simp only [noted]
          split <;> simp [keepsBut_quiet]
        refine noted_keeps.trans ?_
        clear_value noted
        split <;> simp [keepsBut_quiet]

/-- The channel controllers (R220 to R245). -/
theorem channels_touch (s : State) :
    (∀ (inst sc : Nat) (ready : List Nat), Touches [] (.dramCommandIssue inst sc ready) s) ∧
    (∀ inst req : Nat, Touches [] (.urgencyLevelUp inst req) s) ∧
    (∀ inst sc rank : Nat, Touches [] (.refreshDue inst sc rank) s) ∧
    (∀ inst sc rank : Nat, Touches [] (.zqCalibrationDue inst sc rank) s) ∧
    (∀ inst sc rank : Nat, Touches [] (.dqsCalibrationDue inst sc rank) s) ∧
    (∀ inst : Nat, Touches [] (.caParityError inst) s) ∧
    (∀ inst req : Nat, Touches [] (.writeCrcError inst req) s) ∧
    (∀ inst : Nat, Touches [] (.alertN inst) s) ∧
    (∀ inst : Nat, Touches [] (.dataParity inst) s) ∧
    (∀ who inst : Nat, Touches [.unlocks] (.release who inst) s) ∧
    (∀ who inst : Nat, Touches [.unlocks] (.retireLine who inst) s) ∧
    (∀ who inst : Nat, Touches [.unlocks, .power, .modes] (.retireChannel who inst) s) ∧
    (∀ inst : Nat, Touches [.power, .modes] (.freezeLimitExpired inst) s) := by
  and_intros
  all_goals
    intros
    refine touches_next rfl ?_
    try dsimp only
    (repeat' split) <;> simp +contextual [keepsBut_iff]

/-- The fault manager (R394 to R418). -/
theorem faults_touch (s : State) :
    (∀ (inst : Nat) (temp : Option Nat), Touches [.power, .modes] (.temperaturePoll inst temp) s) ∧
    (∀ slot : Nat, Touches [.power, .modes] (.faultSlotDispatch slot) s) ∧
    (∀ (slot : Nat) (pass row : Bool) (dev us : Nat), Touches [.power, .modes] (.selftestDone slot pass row dev us) s) ∧
    (∀ id : Nat, Touches [] (.stuckOperation id) s) ∧
    Touches [] .coxRestartDone s ∧
    Touches [] .firmwareCheckpoint s ∧
    (∀ eight engine items : Nat, Touches [] (.engineFault eight engine items) s) ∧
    (∀ (m : Mbx) (_inp : List Word), Touches [] (.faultStatus m _inp) s) ∧
    (∀ (m : Mbx) (inp : List Word), Touches [] (.faultChannels m inp) s) ∧
    (∀ (m : Mbx) (inp : List Word), Touches [] (.selftestRun m inp) s) ∧
    (∀ (m : Mbx) (_inp : List Word), Touches [] (.trackerSnapshot m _inp) s) := by
  and_intros
  all_goals
    intros
    refine touches_next rfl ?_
    try dsimp only
    (repeat' split) <;> simp +contextual [keepsBut_quiet]

theorem lockstepMismatch_touches  (s : State) : Touches [.power, .modes] .lockstepMismatch s := by
  refine touches_next rfl ?_
  dsimp only
  (repeat' split) <;> simp +contextual [keepsBut_quiet]

/-- The code engine (R246 to R282). -/
theorem codeEngine_touch (s : State) :
    Touches [] .scrubPassStart s ∧
    (∀ (m : Mbx) (inp : List Word), Touches [] (.markSet m inp) s) ∧
    (∀ (m : Mbx) (inp : List Word), Touches [] (.markList m inp) s) ∧
    (∀ (m : Mbx) (inp : List Word), Touches [] (.remapList m inp) s) ∧
    (∀ (m : Mbx) (inp : List Word), Touches [] (.errCounts m inp) s) ∧
    (∀ (m : Mbx) (inp : List Word), Touches [] (.pprRun m inp) s) ∧
    (∀ (who : Nat) (ctl : Word) (errs : List (Nat × BitVec 16)), Touches [.unlocks] (.rawRead who ctl errs) s) ∧
    (∀ (who : Nat) (ctl : Word) (errs : List (Nat × BitVec 16)), Touches [.unlocks] (.decRead who ctl errs) s) := by
  and_intros
  all_goals
    intros
    refine touches_next rfl ?_
    (repeat' split) <;> simp [keepsBut_iff]

/-- The tier manager (R160 to R190). -/
theorem tiers_touch (s : State) :
    (∀ extent : Nat, Touches [] (.moveStart extent) s) ∧
    (∀ extent : Nat, Touches [.homeLines] (.moveComplete extent) s) ∧
    Touches [] .ageingPeriodEnd s ∧
    (∀ (m : Mbx) (inp : List Word), Touches [] (.tenantSet m inp) s) ∧
    (∀ (m : Mbx) (inp : List Word), Touches [] (.tenantStatus m inp) s) ∧
    (∀ (m : Mbx) (inp : List Word), Touches [] (.schedLoad m inp) s) ∧
    (∀ (m : Mbx) (inp : List Word), Touches [] (.schedUnload m inp) s) ∧
    (∀ (m : Mbx) (inp : List Word), Touches [] (.schedStatus m inp) s) ∧
    (∀ (m : Mbx) (inp : List Word), Touches [] (.homeQuery m inp) s) := by
  and_intros
  all_goals
    intros
    refine touches_next rfl ?_
    try dsimp only
    (repeat' split) <;> simp +contextual [keepsBut_quiet, State.moveLines_wf]

/-- Operations on the line cache (R203 to R219). -/
theorem cacheOperations_touch (s : State) :
    (∀ (m : Mbx) (inp : List Word), Touches [.unlocks] (.cacheOp m inp) s) ∧
    Touches [] .clean s ∧
    Touches [] .invalidate s ∧
    Touches [] .cleanInvalidate s ∧
    (∀ cls : Nat, Touches [] (.zero cls) s) ∧
    (∀ who : Nat, Touches [.unlocks] (.discard who) s) ∧
    Touches [] .rangeWalkSet s ∧
    Touches [] .rangeOpDone s ∧
    Touches [] .cacheSweepDone s := by
  and_intros
  all_goals
    intros
    refine touches_next rfl ?_
    try dsimp only
    (repeat' split) <;> simp [keepsBut_iff]

/-- Connections, keys and addresses (R344 to R367, R437). -/
theorem connections_touch (s : State) :
    (∀ (e : Eth) (qpn : Nat), Touches [] (.cmRej e qpn) s) ∧
    (∀ (e : Eth) (_qpn : Nat), Touches [] (.cmMra e _qpn) s) ∧
    (∀ (e : Eth) (qpn : Nat), Touches [] (.cmDreq e qpn) s) ∧
    (∀ qpn : Nat, Touches [] (.errorDreq qpn) s) ∧
    (∀ (m : Mbx) (inp : List Word), Touches [] (.keyRegister m inp) s) ∧
    (∀ (m : Mbx) (inp : List Word), Touches [] (.keyRevoke m inp) s) ∧
    (∀ (m : Mbx) (inp : List Word), Touches [] (.keyList m inp) s) ∧
    (∀ (m : Mbx) (inp : List Word), Touches [] (.domainSet m inp) s) ∧
    (∀ (m : Mbx) (inp : List Word), Touches [] (.domainRevoke m inp) s) ∧
    (∀ (m : Mbx) (_inp : List Word), Touches [] (.netStatus m _inp) s) ∧
    (∀ (m : Mbx) (inp : List Word), Touches [] (.addrSet m inp) s) ∧
    (∀ (m : Mbx) (inp : List Word), Touches [] (.listenSet m inp) s) ∧
    (∀ (m : Mbx) (inp : List Word), Touches [] (.connList m inp) s) ∧
    (∀ (m : Mbx) (inp : List Word), Touches [] (.connClose m inp) s) := by
  and_intros
  all_goals
    intros
    refine touches_next rfl ?_
    (repeat' split) <;> simp [keepsBut_quiet]

/-- Frames and beats of the twin link (R126 to R141). -/
theorem twinFrames_touch (s : State) :
    (∀ (path : Nat) (h : TwHeader), Touches [] (.idleFrame path h) s) ∧
    (∀ (path : Nat) (h : TwHeader) (b : TwBeat), Touches [] (.beat path h b) s) ∧
    (∀ (path : Nat) (h : TwHeader) (b : TwPathUp), Touches [] (.pathUp path h b) s) ∧
    (∀ (path : Nat) (h : TwHeader) (which : Nat) (lanes : BitVec 8) (ack : Bool), Touches [] (.laneRetire path h which lanes ack) s) ∧
    (∀ path : Nat, Touches [] (.frameBadCrc path) s) := by
  and_intros
  all_goals
    intros
    refine touches_next rfl ?_
    (repeat' split) <;> simp [keepsBut_quiet]

theorem dataFrame_touches (path : Nat) (h : TwHeader) (payload : List (BitVec 8)) (s : State) : Touches [.modes] (.dataFrame path h payload) s := by
  refine touches_next rfl ?_
  dsimp only
  (repeat' split) <;> simp +contextual [keepsBut_quiet]

/-- Paths and lanes of the twin link (R142 to R152). -/
theorem twinPaths_touch (s : State) :
    Touches [] .beatSend s ∧
    (∀ path : Nat, Touches [.modes] (.missedBeatInterval path) s) ∧
    (∀ path : Nat, Touches [] (.replayTimerExpired path) s) ∧
    (∀ path : Nat, Touches [.modes] (.pathUpTimeout path) s) ∧
    (∀ path : Nat, Touches [] (.deadPathRetrain path) s) ∧
    (∀ (path lane : Nat) (lostLock : Bool), Touches [.modes] (.laneFault path lane lostLock) s) ∧
    (∀ path : Nat, Touches [] (.laneRetireAckTimeout path) s) ∧
    (∀ path : Nat, Touches [] (.laneRetireWaitExpired path) s) ∧
    (∀ (path : Nat) (locked : Bool), Touches [.modes] (.laneRetrainDone path locked) s) ∧
    (∀ (path : Nat) (pass : Bool), Touches [] (.restoreLanes path pass) s) ∧
    (∀ (who path : Nat) (dead : Bool), Touches [.unlocks, .modes] (.forceDead who path dead) s) := by
  and_intros
  all_goals
    intros
    refine touches_next rfl ?_
    try dsimp only
    (repeat' split) <;> simp +contextual [keepsBut_iff]

/-- Messages of the twin (R96 to R112). -/
theorem twinMessages_touch (s : State) :
    Touches [] .writeFwd s ∧
    Touches [] .intent s ∧
    Touches [] .raReq s ∧
    Touches [] .checkpoint s ∧
    Touches [] .handoverMarker s ∧
    Touches [] .handoverAck s ∧
    Touches [.modes] .departing s ∧
    Touches [] .departingAck s ∧
    Touches [] .intentDataSend s := by
  and_intros
  all_goals
    refine touches_next rfl ?_
    (repeat' split) <;> simp +contextual [keepsBut_quiet]

/-- Probes, handover and resync (R98 to R119). -/
theorem twinTimers_touch (s : State) :
    Touches [] .probeSend s ∧
    (∀ seq : Nat, Touches [.power, .modes] (.probeReply seq) s) ∧
    Touches [] .probeSilent s ∧
    (∀ extent : Nat, Touches [] (.handoverStart extent) s) ∧
    (∀ extent : Nat, Touches [] (.resyncExtentDone extent) s) ∧
    (∀ (m : Mbx) (_inp : List Word), Touches [] (.resyncStatus m _inp) s) ∧
    Touches [.modes] .pairFormComplete s ∧
    (∀ (m : Mbx) (_inp : List Word), Touches [] (.pairStatus m _inp) s) := by
  and_intros
  all_goals
    intros
    refine touches_next rfl ?_
    try dsimp only
    (repeat' split) <;> simp +contextual [keepsBut_quiet]

theorem control_touches (c : CtlMsg) (s : State) : Touches [.modes] (.control c) s := by
  refine touches_next rfl ?_
  (repeat' split) <;> simp +contextual [keepsBut_quiet]

/-- Configuration frames and unlocks (R458 to R476). -/
theorem frames_touch (s : State) :
    (∀ (m : Mbx) (_inp : List Word), Touches [] (.frameList m _inp) s) ∧
    (∀ (m : Mbx) (_inp : List Word), Touches [] (.frameStatus m _inp) s) ∧
    (∀ groups : Word, Touches [.frames, .modes] (.shtCommitWrite groups) s) ∧
    (∀ back : Nat, Touches [.flash, .frames, .modes] (.shtRewindWrite back) s) ∧
    (∀ pass : Bool, Touches [.flash, .frames, .modes] (.frameWriteDone pass) s) ∧
    Touches [.flash, .frames, .modes] .frameWriteAbandoned s ∧
    Touches [.flash, .frames] .testStripEnd s ∧
    Touches [.flash, .frames, .modes] .autoRewindRetry s ∧
    (∀ who key : Nat, Touches [.unlocks] (.sysUnlockWrite who key) s) ∧
    (∀ who : Nat, Touches [.unlocks] (.unlockExpired who) s) := by
  and_intros
  all_goals
    intros
    refine touches_next rfl ?_
    (repeat' split) <;> simp +contextual [keepsBut_iff]

/-- The logbook (R534 to R546). -/
theorem logbook_touch (s : State) :
    (∀ (m : Mbx) (inp : List Word), Touches [] (.logSnapshot m inp) s) ∧
    Touches [.flash] .rollErase s ∧
    Touches [] .logFlushAge s ∧
    Touches [.power, .modes] .logFlushDone s ∧
    Touches [] .overflowRecord s := by
  and_intros
  all_goals
    intros
    refine touches_next rfl ?_
    try dsimp only
    (repeat' split) <;> simp +contextual [keepsBut_quiet]

/-- Power-up, bring-up and power-down (R499 to R507). -/
theorem powerSequence_touch (s : State) :
    (∀ (m : Mbx) (_inp : List Word), Touches [] (.powerStatus m _inp) s) ∧
    Touches [.power, .modes] .powerUpStart s ∧
    Touches [.power, .modes] .stepTimeout s ∧
    Touches [.flash, .frames, .power, .modes] .trainingComplete s ∧
    Touches [.modes] .leafMapRebuilt s ∧
    (∀ cause : Nat, Touches [.flash, .frames, .power, .modes] (.bringupFailure cause) s) ∧
    (∀ bit ns : Nat, Touches [.power, .modes] (.pgFall bit ns) s) ∧
    Touches [.power, .modes] .seqInLow s ∧
    (∀ chain : Nat, Touches [.power, .modes] (.chainDischarged chain) s) ∧
    (∀ step : Nat, Touches [.power, .modes] (.dischargeTimeout step) s) ∧
    Touches [.power] .offWaitEnd s := by
  and_intros
  all_goals
    intros
    refine touches_next rfl ?_
    try dsimp only
    (repeat' split) <;> simp +contextual [keepsBut_quiet]

/-- Hold-up, bank, heat and reset (R510 to R530). -/
theorem powerEvents_touch (s : State) :
    Touches [.power, .modes] .pfailNFall s ∧
    Touches [.power] .pfailNRise s ∧
    Touches [.power] .rideRearmExpired s ∧
    Touches [.modes] .rideTimerExpired s ∧
    Touches [.power, .modes] .bankReadingStale s ∧
    Touches [.power, .modes] .holdupOkLow s ∧
    Touches [.power, .modes] .resetNLow s ∧
    (∀ temp : Nat, Touches [.power, .modes] (.junctionOvertemp temp) s) ∧
    (∀ temp : Nat, Touches [.power] (.thermN temp) s) := by
  and_intros
  all_goals
    intros
    refine touches_next rfl ?_
    try dsimp only
    (repeat' split) <;> simp +contextual [keepsBut_quiet]

/-- The bank and the core supply (R516, R521). -/
theorem coreSupply_touch (s : State) :
    (∀ joules : Option Nat, Touches [.sideband, .power, .modes] (.bankReading joules) s) ∧
    Touches [.sideband, .power] .vcoreStep s ∧
    (∀ mv : Nat, Touches [.sideband, .power] (.vcoreReadback mv) s) := by
  and_intros
  all_goals
    intros
    refine touches_next rfl ?_
    (repeat' split) <;> simp +contextual [keepsBut_iff]

/-- Identity and key slots (R547 to R551). -/
theorem security_touch (s : State) :
    (∀ (m : Mbx) (_inp : List Word), Touches [] (.secStatus m _inp) s) ∧
    (∀ (m : Mbx) (_inp : List Word), Touches [] (.identityGet m _inp) s) ∧
    (∀ (m : Mbx) (inp : List Word), Touches [] (.keyslotLoad m inp) s) ∧
    (∀ (m : Mbx) (inp : List Word), Touches [] (.keyslotGenerate m inp) s) ∧
    (∀ (m : Mbx) (inp : List Word), Touches [] (.keyslotClear m inp) s) ∧
    (∀ (m : Mbx) (inp : List Word), Touches [] (.keyslotList m inp) s) := by
  and_intros
  all_goals
    intros
    refine touches_next rfl ?_
    simp [keepsBut_quiet]

/-- Flash operations by register (R478 to R490). -/
theorem flashRegister_touch (s : State) :
    (∀ who : Nat, Touches [.flash, .unlocks] (.flashRead who) s) ∧
    (∀ who : Nat, Touches [.flash, .unlocks] (.flashProgram who) s) ∧
    (∀ who : Nat, Touches [.flash, .unlocks] (.flashErase who) s) := by
  and_intros
  all_goals
    intros
    refine touches_next rfl ?_
    simp [keepsBut_iff]

/-- Protection of the flash (R491, R492). -/
theorem flashProtection_touch (s : State) :
    (∀ who : Nat, Touches [.flash, .unlocks] (.protWrite who) s) ∧
    (∀ who : Nat, Touches [.flash, .unlocks] (.pwdSet who) s) := by
  and_intros
  all_goals
    intros
    refine touches_next rfl ?_
    simp [keepsBut_iff]

/-- What the banks of the flash report (R478 to R490). -/
theorem flashBanks_touch (s : State) :
    (∀ (bank : Nat) (pass : Bool), Touches [.flash] (.flashProgramDone bank pass) s) ∧
    (∀ (bank : Nat) (pass : Bool), Touches [.flash] (.flashEraseDone bank pass) s) ∧
    (∀ bank : Nat, Touches [] (.fetchSuspend bank) s) ∧
    (∀ bank : Nat, Touches [.flash] (.progWaitExpired bank) s) ∧
    Touches [.flash] .journalScan s := by
  and_intros
  all_goals
    intros
    refine touches_next rfl ?_
    try dsimp only
    (repeat' split) <;> simp [keepsBut_quiet]

/-- The sideband buses (R531 to R533, R556 to R560). -/
theorem sideband_touch (s : State) :
    (∀ bus sender data : Nat, Touches [.sideband, .power, .modes] (.hostNotify bus sender data) s) ∧
    (∀ (who bus : Nat) (cmd : Word) (hung : Option (Option Nat)), Touches [.sideband] (.sbCmd who bus cmd hung) s) ∧
    (∀ (bus result : Nat) (data : List (BitVec 8)), Touches [.sideband, .power, .modes] (.sbTransferDone bus result data) s) ∧
    (∀ (bus : Nat) (freed : Option Nat), Touches [.sideband] (.sclLowTimeout bus freed) s) ∧
    (∀ (bus : Nat) (freed : Option Nat), Touches [.sideband] (.hangCureRetry bus freed) s) ∧
    (∀ bus : Nat, Touches [.sideband] (.arbitrationLost bus) s) ∧
    (∀ (bus : Nat) (hung : Option (Option Nat)), Touches [.sideband] (.busError bus hung) s) := by
  and_intros
  all_goals
    intros
    refine touches_next rfl ?_
    try dsimp only
    (repeat' split) <;> simp +contextual [keepsBut_iff]

/-! ## The frame of every command -/

/-- Every command touches at most what `mayTouch` names, and keeps the law of that. -/
theorem exec_touches (i : Instr) (s : State) : Touches (mayTouch i) i s := by
  cases i <;> dsimp only [mayTouch] <;> simp only [
    sysModeReqWrite_touches, pwrVcoreTargetWrite_touches, rscWriteLands_touches, registerWrite_touches, aonTick_touches,
    timCapture_touch, activateFw_touches, pprDone_touches, testWrite_touches, departingAckTimeout_touches, faultEvent_touches,
    referenceClockLost_touches, referenceClockRestored_touches, vddAonRemoved_touches, stepQualified_touches, outHoldExpired_touches,
    vddAonApplied_touches, modeRequest_touches, injectPoison_touches, clearPoison_touches, clearEventRecords_touches,
    vaultFormat_touches, vaultCheckpoint_touches, pairForm_touches, frameCommit_touches, frameRewind_touches, logClear_touches,
    logFlush_touches, fwSvnAdvance_touches, scanMedia_touches, sysPoolWrite_touches, flashResume_touches, setLdAllocations_touches,
    freezeReadTimeout_touches, scrubRead_touches, cleaningStart_touches, cmReq_touches, cmRtu_touches, cmDrep_touches,
    orderAck_touches, mirror_touches, intentData_touches, mirrorAck_touches, raResp_touches, resyncCopy_touches, flashSuspend_touches,
    jtagInstruction_touches, resyncCopySend_touches, resyncCtl_touches, modeCommands_touch, writeBehind_touch,
    preserveComplete_touches, leafRestore_touch, vaultMailbox_touch, regions_touch, hostRequests_touch, hostLinks_touch,
    hostFunctions_touch, eventsAndFirmware_touch, deviceQueries_touch, packets_touch, ports_touch, homeReads_touch,
    mergeEntryTimeout_touches, channels_touch, faults_touch, lockstepMismatch_touches, codeEngine_touch, tiers_touch,
    cacheOperations_touch, connections_touch, twinFrames_touch, dataFrame_touches, twinPaths_touch, twinMessages_touch,
    twinTimers_touch, control_touches, frames_touch, logbook_touch, powerSequence_touch, powerEvents_touch, coreSupply_touch,
    security_touch, flashRegister_touch, flashProtection_touch, flashBanks_touch, sideband_touch]

/-! ## RSC values that land (R10, R15, R463) -/

theorem State.land_of_ne (s : State) (a : Nat) (w : Word) (h : a ≠ Reg.SYS_MODE_REQ) :
    s.land a w = { s.setReg a (landed a (s.reg a) w) with rsc := s.rsc.erase a } := if_neg h

theorem Word.field_setField_low (w : Word) (v : Nat) (h : v < 1024) : (w.setField 9 0 v).field 9 0 = v := by
  have hw := w.isLt
  simp only [Word.setField, Word.field, BitVec.toNat_ofNat]
  omega

/-- The low bits of a word made of two by a mask are those of the word that the mask picks. -/
theorem Word.field_merge_low (old w : Word) : Word.field ((old &&& ~~~0x3FF#32) ||| (w &&& 0x3FF#32)) 9 0 = w.field 9 0 := by
  have low : ∀ x : Word, x.field 9 0 = (x.setWidth 10).toNat := fun x => by simp [Word.field]
  have ones : (0x3FF#32).setWidth 10 = BitVec.allOnes 10 := rfl
  rw [low, low, BitVec.setWidth_or, BitVec.setWidth_and, BitVec.setWidth_and, BitVec.setWidth_not (by decide), ones,
    BitVec.not_allOnes, BitVec.and_zero, BitVec.and_allOnes, BitVec.zero_or]

theorem clamp_vcore (v : Nat) : 650 ≤ clamp 650 850 v ∧ clamp 650 850 v ≤ 850 ∧ (650 ≤ v → v ≤ 850 → clamp 650 850 v = v) := by
  unfold clamp
  (repeat' split) <;> omega

/-- PWR_VCORE.TARGET lands clamped (R15). -/
theorem landed_vcore (old w : Word) : (landed Reg.PWR_VCORE old w).field 9 0 = clamp 650 850 (w.field 9 0) := by
  have mask : ∀ r, regAt Reg.PWR_VCORE = some r → r.maskOf [.rsc] = 0x3FF#32 := by decide
  have clamped := clamp_vcore (w.field 9 0)
  unfold landed
  split
  · next e => exact absurd e (by decide)
  · next r e =>
    simp only [if_true, mask r e, Word.field_merge_low]
    exact Word.field_setField_low _ _ (by omega)

theorem State.land_vcore (s : State) (w : Word) :
    (s.land Reg.PWR_VCORE w).fld Reg.PWR_VCORE Fld.PWR_VCORE_TARGET = clamp 650 850 (w.field 9 0) := by
  rw [State.land_of_ne s _ w (by decide)]
  exact (congrArg (Word.field · 9 0) (State.reg_setReg_self s _ _)).trans (landed_vcore _ w)

/-! ## The timebase (R18 to R20) -/

/-- The state after an AON tick, before the copies follow. -/
def State.ticked (s : State) (ns : Nat) (p : Pins) : State :=
  { s.sample p with
    tim := { s.tim with ns := (if s.tim.locked then max s.tim.ns ns else s.tim.ns + 1000) % 2 ^ 64, ticks := (s.tim.ticks + 1) % 2 ^ 64 } }

/-- The state after an AON tick: the copies follow while the core is powered. -/
def State.tickedCopied (s : State) (ns : Nat) (p : Pins) : State :=
  if s.pwr.core then (s.ticked ns p).refreshCopies else s.ticked ns p

theorem exec_aonTick (ns : Nat) (p : Pins) (s : State) (ha : s.pwr.aon = true) :
    exec (.aonTick ns p) s = .next (s.tickedCopied ns p) := by
  simp only [exec, execAonTick, ha]
  rfl

theorem State.tickedCopied_tim (s : State) (ns : Nat) (p : Pins) : (s.tickedCopied ns p).tim = (s.ticked ns p).tim := by
  unfold State.tickedCopied
  split <;> simp

theorem State.tickedCopied_pwr (s : State) (ns : Nat) (p : Pins) : (s.tickedCopied ns p).pwr = (s.sample p).pwr := by
  unfold State.tickedCopied
  split
  · simp [State.ticked]
  · rfl

theorem State.ticked_tim_unlocked (s : State) (ns : Nat) (p : Pins) (hl : s.tim.locked = false) (hn : s.tim.ns + 1000 < 2 ^ 64)
    (ht : s.tim.ticks + 1 < 2 ^ 64) : (s.ticked ns p).tim = { s.tim with ns := s.tim.ns + 1000, ticks := s.tim.ticks + 1 } := by
  simp only [State.ticked, hl, if_neg Bool.false_ne_true, Nat.mod_eq_of_lt hn, Nat.mod_eq_of_lt ht]

theorem State.ticked_tim_locked (s : State) (ns : Nat) (p : Pins) (hl : s.tim.locked = true) (hns : ns < 2 ^ 64) (hn : s.tim.ns < 2 ^ 64)
    (ht : s.tim.ticks + 1 < 2 ^ 64) : (s.ticked ns p).tim = { s.tim with ns := max s.tim.ns ns, ticks := s.tim.ticks + 1 } := by
  simp only [State.ticked, hl, if_true, Nat.mod_eq_of_lt (Nat.max_lt.mpr ⟨hn, hns⟩), Nat.mod_eq_of_lt ht]

/-! ## VDD_AON applied (R12, R498, R500) -/

/-- The state after VDD_AON is applied and the step table is read from the EEPROM, before an on request. -/
def State.tableLoaded (s : State) (p : Pins) (mt xb : Bool) (eeprom : Option (List (Word × Word))) : State :=
  (State.sample { s.unpowered with
    pwr := { s.unpowered.pwr with aon := true, mfgTestN := mt, xtalBypass := xb },
    tim := { s.unpowered.tim with locked := s.unpowered.pwr.refCxl, relocks := bit s.unpowered.pwr.refCxl } } p).loadTable eeprom

theorem exec_vddAonApplied (p : Pins) (mt xb : Bool) (eeprom : Option (List (Word × Word))) (s : State) (ha : s.pwr.aon = false) :
    exec (.vddAonApplied p mt xb eeprom) s =
      .next (if (s.tableLoaded p mt xb eeprom).fld Reg.PWR_CTL Fld.PWR_CTL_AUTO_ON = 1 then (s.tableLoaded p mt xb eeprom).onRequest
        else s.tableLoaded p mt xb eeprom) := by
  simp only [exec, execVddAonApplied, ha]
  rfl

theorem State.loadTable_pwr (s : State) (l : List (Word × Word)) (h : l.length = 14) :
    (s.loadTable (some l)).pwr = { s.pwr with seq := .off } := by
  simp [State.loadTable, h]

/-- A full table read leaves the supervisor in OFF, with no on request pending. -/
theorem State.tableLoaded_some_pwr (s : State) (p : Pins) (mt xb : Bool) (l : List (Word × Word)) (h : l.length = 14) :
    let q := (s.tableLoaded p mt xb (some l)).pwr
    q.aon = true ∧ q.seq = .off ∧ q.mfgTestN = mt ∧ q.onPending = false := by
  dsimp only
  rw [State.tableLoaded, State.loadTable_pwr _ l h]
  exact ⟨rfl, rfl, rfl, rfl⟩

theorem State.tableLoaded_mode (s : State) (p : Pins) (mt xb : Bool) (eeprom : Option (List (Word × Word))) :
    (s.tableLoaded p mt xb eeprom).mode = {} := by
  simp [State.tableLoaded]

theorem State.onRequest_pwr (s : State) : s.onRequest.pwr.aon = s.pwr.aon ∧ s.onRequest.pwr.seq = s.pwr.seq ∧
    s.onRequest.pwr.mfgTestN = s.pwr.mfgTestN ∧ s.onRequest.pwr.xtalBypass = s.pwr.xtalBypass ∧ s.onRequest.pwr.core = s.pwr.core := by
  unfold State.onRequest
  split
  · exact ⟨rfl, rfl, rfl, rfl, rfl⟩
  · split
    · exact ⟨rfl, rfl, rfl, rfl, rfl⟩
    · simp

theorem State.onRequest_taken (s : State) (ha : s.pwr.aon = true) (ht : s.pwr.mfgTestN = true) (hm : s.mode.mode = .standby)
    (hs : s.pwr.seq = .off) : s.onRequest.pwr.onPending = true := by
  by_cases hp : s.pwr.onPending <;> simp [State.onRequest, ha, ht, hm, hs, hp]

theorem State.fld_onRequest (s : State) (a : Nat) (f : Fld) : s.onRequest.fld a f = s.fld a f := by
  simp [State.fld, State.reg]

/-- What a removal of VDD_AON leaves: every register at its reset word, and what the non-volatile parts hold. -/
theorem State.unpowered_nonvolatile (s : State) : (∀ a, s.unpowered.reg a = resetAt a) ∧ s.unpowered.vlt.nand = s.vlt.nand ∧
    s.unpowered.pair.record = s.pair.record ∧ s.unpowered.fls.password = s.fls.password ∧ s.unpowered.cmd.fusedSvn = s.cmd.fusedSvn ∧
    s.unpowered.log.roll = s.log.roll ∧ s.unpowered.sht.frames = s.sht.frames :=
  ⟨fun _ => rfl, rfl, rfl, rfl, rfl, rfl, rfl⟩

/-! ## Register words (R451 to R456) -/

theorem State.unlocked_relock (s : State) (who : Nat) : (s.relock who).unlocked who = false := by
  by_cases h : who < 5
  · have own : (BitVec.ofNat 5 (2 ^ who)).getLsbD who = true := by
      rw [BitVec.getLsbD_ofNat, Nat.testBit_two_pow_self, decide_eq_true h, Bool.and_self]
    rw [State.unlocked, State.relock, BitVec.getLsbD_and, BitVec.getLsbD_not, own, Bool.not_true, Bool.and_false, Bool.and_false, Bool.and_false]
  · rw [State.unlocked, decide_eq_false h, Bool.false_and]

theorem State.writeReg_none (s : State) (who addr : Nat) (w : Word) (hb : blockOfPage (addr / 65536) = none) :
    s.writeReg who addr w = s := by
  simp only [State.writeReg, hb]

theorem State.writeReg_live (s : State) (who addr : Nat) (w : Word) (b : Block) (hb : blockOfPage (addr / 65536) = some b)
    (hl : addr % 65536 < 32768) : s.writeReg who addr w = s.writeLive who (addr / 65536 * 65536 + addr % 2 ^ b.w) w := by
  simp only [State.writeReg, hb, if_pos hl]

theorem State.writeReg_image (s : State) (who addr : Nat) (w : Word) (b : Block) (hb : blockOfPage (addr / 65536) = some b)
    (hi : 32768 ≤ addr % 65536) (hm : rwsMask (addr / 65536 * 65536 + addr % 2 ^ b.w) ≠ 0) :
    s.writeReg who addr w = s.stage (addr / 65536 * 65536 + addr % 2 ^ b.w) w := by
  simp only [State.writeReg, hb, if_neg (Nat.not_lt.mpr hi), if_neg hm]

/-- A write to a register with no guarded, RSC or RWS bits and no row of its own in the live view takes its RW, WO and W1C bits. -/
theorem State.writeLive_plain (s : State) (who a : Nat) (w : Word) (r : RegDesc) (hr : regAt a = some r) (hown : ownRow a = false)
    (hrwg : r.maskOf [.rwg] = 0) (hrsc : r.maskOf [.rsc] = 0) (hrws : r.maskOf [.rws] = 0) (htest : a ≠ Reg.EC_TEST_CTL)
    (hop : a ≠ Reg.LC_OP_CMD) (hboot : a ≠ Reg.CRY_BOOT) (h60 : a % 65536 ≠ 0x60) :
    s.writeLive who a w =
      (s.setReg a (((s.reg a &&& ~~~(r.maskOf [.rw, .wo])) ||| (w &&& r.maskOf [.rw, .wo])) &&& ~~~(r.maskOf [.w1c] &&& w))).writeSide a w := by
  simp [State.writeLive, hr, hown, hrwg, hrsc, hrws, htest, hop, hboot, h60]

theorem State.reg_writeSide (s : State) (a : Nat) (w : Word) (c : Nat) : (s.writeSide a w).reg c = s.reg c := by
  simp [State.reg]

end Sys2Proof.Machine
end

section
namespace Sys2Proof
open Sys2Proof.Machine

/-- Settles O4: a command's frame is what `exec_touches` says of the kinds of state it does not touch. -/
theorem commandFrames : Obligations.CommandFrames := by
  intro i s t p e hp
  have h := exec_touches i s t e p
  rwa [if_neg hp] at h

theorem exec_lawful (i : Instr) (s t : State) (hs : s.lawful = true) (e : exec i s = .next t) : t.lawful = true := by
  rw [State.lawful_iff] at hs ⊢
  intro p
  have h := exec_touches i s t e p
  split at h
  · exact h (hs p)
  · exact Part.law_of_same h (hs p)

/-- Settles O6: the queue carries no law, and a command keeps that of each kind of state, touched or not. -/
theorem stepKeepsLawful : Obligations.StepKeepsLawful := by
  intro s t hs e
  unfold step at e
  split at e
  · cases e
    exact hs
  · next c rest _ => exact exec_lawful c { s with pending := rest } t hs e
/-- Settles O8: `State.land` stores `landed` and drops the pending value; PWR_VCORE.TARGET is clamped in `landed`. -/
theorem rscLanding : Obligations.RscLanding := by
  refine ⟨fun a w s hw ha => ?_, fun w s hw => ?_, fun who target s hc hw => ?_⟩
  · refine ⟨s.land a w, by simp [exec, execRscWriteLands, hw], ?_⟩
    rw [State.land_of_ne s a w ha]
    exact ⟨State.reg_setReg_self s a _, SMap.find?_erase_self s.rsc a, fun b hb => State.reg_setReg_other s a b _ hb.symm,
      fun b hb => SMap.find?_erase_other s.rsc a b hb.symm, rfl⟩
  · refine ⟨s.land Reg.PWR_VCORE w, by simp [exec, execRscWriteLands, hw], ?_⟩
    have clamped := clamp_vcore (w.field 9 0)
    rw [← State.land_vcore s w] at clamped
    exact clamped
  · refine ⟨s.land Reg.PWR_VCORE (w32 (target % 1024)), by simp [exec, execPwrVcoreTargetWrite, hc, hw, State.writeRsc], ?_, ?_⟩
    · rw [State.land_vcore]
      congr 1
      simp [Word.field, w32]
    · rw [State.land_of_ne s _ _ (by decide)]
      rfl

/-- Settles O9: an AON tick samples the inputs, then moves the timebase, then refreshes the copies. -/
theorem timebaseCommands : Obligations.TimebaseCommands := by
  refine ⟨fun ns p s ha hl hn ht => ⟨_, exec_aonTick ns p s ha, ?_, s.tickedCopied_pwr ns p⟩,
    fun ns p s ha hl hns hn ht => ⟨_, exec_aonTick ns p s ha, ?_⟩,
    fun ns a p s ha hc hm => ⟨_, exec_aonTick ns p s ha, ?_⟩, fun s hc => ⟨_, rfl, by simp [hc]⟩,
    fun d a s hp => ⟨_, rfl, by simp [hp]⟩⟩
  · exact (s.tickedCopied_tim ns p).trans (s.ticked_tim_unlocked ns p hl hn ht)
  · exact (s.tickedCopied_tim ns p).trans (s.ticked_tim_locked ns p hl hns hn ht)
  · rw [State.tickedCopied, if_pos hc]
    exact State.copyOf_refreshCopies _ a hm

/-- Settles O11: the supply brings up the state without it, with the straps sampled and the table read; an on request follows where
PWR_CTL.AUTO_ON is set. -/
theorem supplyAppliedRemoved : Obligations.SupplyAppliedRemoved := by
  refine ⟨fun p mt xb s ha => ⟨_, exec_vddAonApplied p mt xb none s ha, ?_⟩,
    fun p l s ha hl => ⟨_, exec_vddAonApplied p true false (some l) s ha, ?_⟩,
    fun s ha => ⟨s.unpowered, by simp [exec, execVddAonRemoved, ha], ?_⟩⟩
  · split
    · obtain ⟨aon, seq, mfg, bypass, core⟩ := (s.tableLoaded p mt xb none).onRequest_pwr
      simp only [aon, seq, mfg, bypass, core, State.onRequest_frame]
      exact ⟨rfl, rfl, rfl, rfl, rfl, rfl, rfl, rfl⟩
    · exact ⟨rfl, rfl, rfl, rfl, rfl, rfl, rfl, rfl⟩
  · obtain ⟨aon, seq, mfg, pend⟩ := s.tableLoaded_some_pwr p true false l hl
    split
    · next auto =>
      obtain ⟨aon', seq', -⟩ := (s.tableLoaded p true false (some l)).onRequest_pwr
      have taken := (s.tableLoaded p true false (some l)).onRequest_taken aon mfg (by rw [State.tableLoaded_mode]) seq
      refine ⟨aon'.trans aon, seq'.trans seq, taken.trans ?_⟩
      rw [State.fld_onRequest, auto]
      rfl
    · next auto => exact ⟨aon, seq, pend.trans (beq_eq_false_iff_ne.mpr auto).symm⟩
  · obtain ⟨regs, nand, record, password, svn, roll, frames⟩ := s.unpowered_nonvolatile
    exact ⟨rfl, regs, rfl, rfl, nand, record, password, svn, roll, frames⟩

/-- Settles O42: a narrow write is only counted; a wide one goes through `State.writeReg` to the live view or the image. -/
theorem registerWrites : Obligations.RegisterWrites := by
  refine ⟨fun who width addr data s hc hw hn => ⟨_, rfl, by simp [hc, hw, hn]⟩,
    fun who addr data a b r s hc hw h4 hb hlive ha hr hown hrwg hrsc hrws h1 h2 h3 h60 => ?_,
    fun who addr data a b s hc hw h4 hb himg ha hm => ⟨s.writeReg who addr (data.setWidth 32), by simp [exec, execRegisterWrite, hc, hw, h4], ?_⟩,
    fun who addr data s hc hw h4 hb => ⟨s.writeReg who addr (data.setWidth 32), by simp [exec, execRegisterWrite, hc, hw, h4],
      State.writeReg_none s who addr _ hb⟩,
    fun who addr data s hc hw h8 => ⟨_, rfl, by simp [hc, hw, h8]⟩,
    fun who s hw => ⟨s.relock who, by simp [exec, execUnlockExpired, hw], rfl, State.unlocked_relock s who⟩⟩
  · refine ⟨s.writeReg who addr (data.setWidth 32), by simp [exec, execRegisterWrite, hc, hw, h4], ?_⟩
    rw [State.writeReg_live s who addr _ b hb hlive, ← ha, State.writeLive_plain s who a _ r hr hown hrwg hrsc hrws h1 h2 h3 h60]
    refine ⟨?_, fun c hne => ?_, by simp, by simp, by simp⟩
    · rw [State.reg_writeSide, State.reg_setReg_self]
    · rw [State.reg_writeSide, State.reg_setReg_other s a c _ hne.symm]
  · subst ha
    exact State.writeReg_image s who addr _ b hb himg hm

/-- Settles O2: the reset state is the structure's defaults. -/
theorem resetState : Obligations.ResetState := by
  refine ⟨⟨fun a => rfl, fun a => rfl⟩, ?_, ?_⟩ <;> decide

end Sys2Proof
end

section
namespace Sys2Proof.Machine

/-! ## Mode requests (R21, R22, R463) -/

theorem modeReq_word_fields (target purpose : Nat) :
    (w32 (target % 8 + purpose % 4 * 16)).field 2 0 = target % 8 ∧ (w32 (target % 8 + purpose % 4 * 16)).field 5 4 = purpose % 4 := by
  simp only [w32, Word.field, BitVec.toNat_ofNat]
  omega

/-- The state as a word of SYS_MODE_REQ has landed, before the request acts. -/
def State.modeReqStored (s : State) (w : Word) : State :=
  { s.setReg Reg.SYS_MODE_REQ (landed Reg.SYS_MODE_REQ (s.reg Reg.SYS_MODE_REQ) w) with rsc := s.rsc.erase Reg.SYS_MODE_REQ }

theorem exec_sysModeReqWrite_delayed (who target purpose : Nat) (s : State) (hc : s.pwr.core = true) (hw : who < 5) :
    exec (.sysModeReqWrite who target purpose true) s =
      .next { s with rsc := s.rsc.insert Reg.SYS_MODE_REQ (w32 (target % 8 + purpose % 4 * 16)) } := by
  simp [exec, execSysModeReqWrite, hc, hw, State.writeRsc]

/-- A request that lands at once acts by its TARGET and PURPOSE. -/
theorem exec_sysModeReqWrite_lands (who target purpose : Nat) (s : State) (hc : s.pwr.core = true) (hw : who < 5) :
    exec (.sysModeReqWrite who target purpose false) s =
      .next ((s.modeReqStored (w32 (target % 8 + purpose % 4 * 16))).modeReq (target % 8) (purpose % 4)) := by
  obtain ⟨ht, hp⟩ := modeReq_word_fields target purpose
  simp [exec, execSysModeReqWrite, hc, hw, State.writeRsc, State.land, State.modeReqStored, ht, hp]

theorem State.modeReq_transit (s : State) (target purpose : Nat) (ht : s.mode.transit = true) :
    s.modeReq target purpose = s.reqResult 3 := if_pos ht

/-- HOLD is entered from SERVE with a PURPOSE other than 3, and from SOLO with any. -/
theorem State.modeReq_hold (s : State) (purpose : Nat) (ht : s.mode.transit = false)
    (hm : (s.mode.mode = .serve ∧ purpose % 4 ≠ 3) ∨ s.mode.mode = .solo) :
    s.modeReq 5 purpose = (s.reqResult 1).enterHold purpose 0x0B := by
  rcases hm with ⟨hm, hp⟩ | hm
  · simp [State.modeReq, ht, hm, hp, Mode.ofCode]
  · simp [State.modeReq, ht, hm, Mode.ofCode]

theorem State.modeReq_standby (s : State) (purpose : Nat) (ht : s.mode.transit = false) (hm : s.mode.mode ≠ .standby) :
    s.modeReq 0 purpose = (s.reqResult 1).offRequest 0x08 := by
  unfold State.modeReq
  rw [if_neg (by simp [ht])]
  cases h : s.mode.mode with
  | standby => exact absurd h hm
  | _ => rfl

theorem State.enterHold_mode (s : State) (purpose reason : Nat) : (s.enterHold purpose reason).mode =
    { s.mode with mode := .hold, holdPurpose := purpose % 4, reason := reason, count := (s.mode.count + 1) % 65536 } :=
  State.setMode_mode _ .hold reason

/-- PRESERVE is entered by one transition, which remembers the mode left. -/
theorem State.enterPreserve_mode (s : State) (reason : Nat) : (s.enterPreserve reason).mode =
    { s.mode with mode := .preserve, reason := reason, count := (s.mode.count + 1) % 65536, leftMode := s.mode.mode,
                  railDropped := false, preserveDone := false } := by
  have left : (if s.mode.mode == .hold then s.abandonHold else s).mode = s.mode := by simp
  simp only [State.enterPreserve, State.seal_frame, State.setMode_mode, left]

theorem State.running_of_mode (s : State) (hm : s.mode.mode = .serve ∨ s.mode.mode = .solo ∨ s.mode.mode = .hold) : s.running = true := by
  unfold State.running
  rcases hm with hm | hm | hm <;> rw [hm]

theorem State.offRequest_running (s : State) (reason : Nat) (hr : s.running = true) :
    s.offRequest reason = State.enterPreserve { s with mode := { s.mode with offPending := true } } reason := if_pos hr

/-- An off request in a mode that serves hosts enters PRESERVE, and stays pending there (R22, R26). -/
theorem State.offRequest_enters_preserve (s : State) (reason : Nat) (hr : s.running = true) :
    let m := (s.offRequest reason).mode
    m.mode = .preserve ∧ m.reason = reason ∧ m.offPending = true ∧ m.leftMode = s.mode.mode ∧
      m.count = (s.mode.count + 1) % 65536 ∧ m.reqResult = s.mode.reqResult := by
  rw [State.offRequest_running s reason hr, State.enterPreserve_mode]
  exact ⟨rfl, rfl, rfl, rfl, rfl, rfl⟩

theorem State.offRequest_running_pwr (s : State) (reason : Nat) (hr : s.running = true) : (s.offRequest reason).pwr = s.pwr := by
  simp [State.offRequest_running s reason hr]

theorem exec_sysModeReqWrite_transit (who target purpose : Nat) (s : State) (hc : s.pwr.core = true) (hw : who < 5)
    (ht : s.mode.transit = true) : exec (.sysModeReqWrite who target purpose false) s =
      .next ((s.modeReqStored (w32 (target % 8 + purpose % 4 * 16))).reqResult 3) := by
  rw [exec_sysModeReqWrite_lands who target purpose s hc hw, State.modeReq_transit (s.modeReqStored _) _ _ ht]

theorem exec_sysModeReqWrite_hold (who purpose : Nat) (s : State) (hc : s.pwr.core = true) (hw : who < 5) (ht : s.mode.transit = false)
    (hm : (s.mode.mode = .serve ∧ purpose % 4 ≠ 3) ∨ s.mode.mode = .solo) :
    exec (.sysModeReqWrite who 5 purpose false) s =
      .next (((s.modeReqStored (w32 (5 % 8 + purpose % 4 * 16))).reqResult 1).enterHold (purpose % 4) 0x0B) := by
  have entered : (s.mode.mode = .serve ∧ purpose % 4 % 4 ≠ 3) ∨ s.mode.mode = .solo := by rwa [Nat.mod_mod]
  rw [exec_sysModeReqWrite_lands who 5 purpose s hc hw, State.modeReq_hold (s.modeReqStored _) (purpose % 4) ht entered]

theorem exec_sysModeReqWrite_standby (who purpose : Nat) (s : State) (hc : s.pwr.core = true) (hw : who < 5) (ht : s.mode.transit = false)
    (hm : s.mode.mode ≠ .standby) : exec (.sysModeReqWrite who 0 purpose false) s =
      .next (((s.modeReqStored (w32 (0 % 8 + purpose % 4 * 16))).reqResult 1).offRequest 0x08) := by
  rw [exec_sysModeReqWrite_lands who 0 purpose s hc hw, State.modeReq_standby (s.modeReqStored _) (purpose % 4) ht hm]

/-! ## A stalled handshake (R16, R400) -/

/-- The state after a handshake stall: the channel is fenced, its acknowledging unit reported, the stall counted. -/
def State.stalled (s : State) (ch unit : Nat) : State :=
  (State.report { s with flt := { s.flt with channels := s.flt.channels.filter (fun (c : Nat × Nat) => c.1 != ch) ++ [(ch, unit)] } }
    unit 0x0D Cls.major).bump Ctr.FLT_CNT_STALL

theorem exec_handshakeStall (ch unit : Nat) (s : State) (hc : s.pwr.core = true) :
    exec (.handshakeStall ch unit) s = .next (s.stalled ch unit) := by
  simp only [exec, execHandshakeStall, hc]
  rfl

theorem State.stalled_flt (s : State) (ch unit : Nat) : (s.stalled ch unit).flt =
    { s.flt with channels := s.flt.channels.filter (fun (c : Nat × Nat) => c.1 != ch) ++ [(ch, unit)],
                 reports := s.flt.reports ++ [⟨unit, 0x0D, Cls.major⟩] } := rfl

theorem State.stalled_ctr (s : State) (ch unit : Nat) :
    (s.stalled ch unit).ctr Ctr.FLT_CNT_STALL = s.ctr Ctr.FLT_CNT_STALL + 1 := by
  rw [State.stalled, State.ctr_bump_self]
  rfl

/-! ## The bring-up (R22, R34, R312, R561) -/

theorem State.enterRestore_mode (s : State) : s.enterRestore.mode =
    { s.mode with mode := .restore, reason := 0x01, count := (s.mode.count + 1) % 65536, bringup := .rebuild, transit := false } := by
  simp [State.enterRestore]

/-- The TABLE records do not change what the served range was computed from, or what came of that. -/
theorem State.loadTables_served (s : State) : s.loadTables.addr.served = s.addr.served := rfl

theorem State.enterRestore_served (s : State) : s.enterRestore.addr.served = s.addr.served := by
  simp [State.enterRestore, State.loadTables_served]

/-- Whether the vault is too small rests on the NAND, the served range and the stacks lost alone (R300). -/
theorem State.vaultShort_of (s t : State) (hn : t.vlt = s.vlt) (hs : t.addr.served = s.addr.served) (hl : t.flt = s.flt) :
    t.vaultShort = s.vaultShort := by
  unfold State.vaultShort State.usable
  rw [hn, hs, hl]

theorem State.twlEnable_on_mode (s : State) : (s.twlEnable true).mode = s.mode := by
  refine foldl_mode _ (fun t n => ?_) _ _
  split <;> simp

/-- RESTORE begins within the mode reached: with the twin link enabled nothing is cut. -/
theorem State.beginRestore_mode (s : State) (he : s.fld Reg.TWL_CTL Fld.TWL_CTL_ENABLE = 1) : s.beginRestore.mode = s.mode := by
  have on : (((((s.loadRepair).placeAll).rebuildTransient).scrubPass).trainLinks).fld Reg.TWL_CTL Fld.TWL_CTL_ENABLE = 1 := by
    simpa [State.fld, State.reg] using he
  simp [State.beginRestore, on, State.twlEnable_on_mode]

theorem State.checkRestore_passed (s : State) (hr : s.highestRegion ≤ s.addr.served.len) (hv : s.vaultShort = false) :
    s.checkRestore = s.beginRestore := by
  simp [State.checkRestore, Nat.not_lt.mpr hr, hv]

/-- Training complete, with the served range and the vault large enough: RESTORE begins. -/
theorem exec_trainingComplete (s : State) (hb : s.mode.bringup = .boot) (hc : s.pwr.core = true) (hf : s.cmd.active.isNone = false)
    (hr : s.channelsTrained.enterRestore.highestRegion ≤ s.addr.served.len) (hv : s.vaultShort = false) :
    exec .trainingComplete s = .next s.channelsTrained.enterRestore.beginRestore := by
  have range : s.channelsTrained.enterRestore.highestRegion ≤ s.channelsTrained.enterRestore.addr.served.len := by
    simpa [State.enterRestore_served] using hr
  have vault : s.channelsTrained.enterRestore.vaultShort = false := by
    rw [State.vaultShort_of s _ (by simp) (by simp [State.enterRestore_served]) (by simp), hv]
  rw [← State.checkRestore_passed _ range vault]
  simp [exec, execTrainingComplete, hb, hc, hf]

theorem State.twinReachable_of_linkDown (s : State) (hl : s.linkUp = false) : s.twinReachable = false := by
  simp [State.twinReachable, hl]

theorem exec_leafMapRebuilt_alone (s : State) (hb : s.mode.bringup = .rebuild) (hm : s.mode.mode = .restore) (hv : s.vlt.loaded = false)
    (hl : s.linkUp = false) : exec .leafMapRebuilt s = .next s.rebuildMap.serveHosts := by
  have alone : s.rebuildMap.twinReachable = false := State.twinReachable_of_linkDown _ (by simpa [State.linkUp] using hl)
  simp [exec, execLeafMapRebuilt, hb, hm, hv, alone]

theorem State.leaveRestore_keeps_bringup (s : State) :
    s.leaveRestore.mode.bringup = s.mode.bringup ∧ s.leaveRestore.mode.retrying = s.mode.retrying := by
  unfold State.leaveRestore
  split <;> simp

theorem State.serveHosts_served (s : State) : s.serveHosts.mode.bringup = .served ∧ s.serveHosts.mode.retrying = false := by
  obtain ⟨bringup, retrying⟩ := State.leaveRestore_keeps_bringup
    ({ s with mode := { s.mode with bringup := .served, retrying := false }, cxl := { s.cxl with memActive := true } } : State).pump.netRun
  refine ⟨bringup.trans ?_, retrying.trans ?_⟩ <;> simp

/-- With no frame kept there is none to retry with: the bring-up is over. -/
theorem State.bringupFail_of_no_frame (s : State) (hf : s.sht.frames = []) : s.bringupFail = s.endBringup 0x0D false := by
  simp [State.bringupFail, hf]

/-- A bring-up that ends while STATE reads STANDBY changes REASON alone of SYS_MODE, and the rails go down. -/
theorem State.endBringup_standby (s : State) (reason : Nat) (keepOn : Bool) (hm : s.mode.mode = .standby) :
    let t := s.endBringup reason keepOn
    t.mode.reason = reason ∧ t.mode.mode = .standby ∧ t.mode.bringup = .none ∧ t.pwr.seq = .downSeq ∧ t.pwr.onPending = keepOn := by
  simp [State.endBringup, State.powerDown, State.hostsDown, State.powerEvent, hm]

theorem exec_bringupFailure_boot (cause : Nat) (s : State) (hb : s.mode.bringup = .boot) (hf : s.sht.frames = []) :
    exec (.bringupFailure cause) s =
      .next ((s.logRec LogT.config Src.cox Cls.critical [0, w32 cause]).endBringup 0x0D false) := by
  rw [← State.bringupFail_of_no_frame _ (by simpa using hf)]
  simp [exec, execBringupFailure, hb]

/-! ## The JTAG port and the reference clocks (R18, R396, R397, R553 to R556) -/

/-- IDCODE: version and part above, the manufacturer's code between, bit 0 set. -/
theorem idcode_word (n : Nat) : let b := BitVec.ofNat 64 (0xB9160001 + n % 2048 * 2)
    b.toNat / 2 ^ 12 = 0xB9160 ∧ b.toNat % 2 = 1 := by
  simp only [BitVec.toNat_ofNat]
  omega

theorem exec_jtagIdcode (s : State) (ha : s.pwr.aon = true) : exec (.jtagInstruction .idcode) s =
    .next (s.freed.emit (.jtag 1 (BitVec.ofNat 64 (0xB9160001 + s.freeVal % 2048 * 2)))) := by
  simp [exec, execJtagInstruction, ha]

/-- Without the core, REFCLK_CXL lost unlocks the timebase and does no more. -/
theorem exec_referenceClockLost_cxl_coreOff (s : State) (hc : s.pwr.core = false) : exec (.referenceClockLost 0) s =
    .next { s with pwr := { s.pwr with refCxl := false }, tim := { s.tim with locked := false } } := by
  simp [exec, execReferenceClockLost, hc]

/-- Without the core, REFCLK_CXL restored locks the timebase again and does no more. -/
theorem exec_referenceClockRestored_cxl_coreOff (s : State) (hc : s.pwr.core = false) (ha : s.pwr.aon = true) (hl : s.tim.locked = false) :
    exec (.referenceClockRestored 0) s =
      .next { s with pwr := { s.pwr with refCxl := true },
                     tim := { s.tim with locked := true, relocks := min 65535 (s.tim.relocks + 1) } } := by
  simp [exec, execReferenceClockRestored, hc, ha, hl]

/-- The state after REFCLK_ETH is lost in SERVE, before the off request. -/
def State.ethClockLost (s : State) : State :=
  (State.tell { s with pwr := { s.pwr with refEth := false } } (unitId 0x17 1) 0x1B Cls.critical).ethDown

theorem State.ethClockLost_mode (s : State) : s.ethClockLost.mode = s.mode := by simp [State.ethClockLost]

theorem State.ethClockLost_refEth (s : State) : s.ethClockLost.pwr.refEth = false := by simp [State.ethClockLost]

theorem exec_referenceClockLost_eth (s : State) (hc : s.pwr.core = true) (hm : s.mode.mode = .serve) :
    exec (.referenceClockLost 1) s = .next (s.ethClockLost.offRequest 0x08) := by
  simp [exec, execReferenceClockLost, State.faultOff, State.ethClockLost, hc, hm]

end Sys2Proof.Machine
end

section
namespace Sys2Proof
open Sys2Proof.Machine

/-- Settles O7: a write still to cross is kept; one that lands sets RESULT and acts by the row of R22 for its TARGET. -/
theorem modeRequestResult : Obligations.ModeRequestResult := by
  refine ⟨fun who target purpose s hc hw => ⟨_, exec_sysModeReqWrite_delayed who target purpose s hc hw, SMap.find?_insert_self _ _ _, rfl⟩,
    fun who target purpose s hc hw ht => ⟨_, exec_sysModeReqWrite_transit who target purpose s hc hw ht, rfl, rfl, rfl, rfl⟩,
    fun who purpose s hc hw ht hm => ⟨_, exec_sysModeReqWrite_hold who purpose s hc hw ht hm, ?_⟩,
    fun who purpose s hc hw ht hm => ?_⟩
  · refine (State.enterHold_mode _ _ _).trans ?_
    rw [Nat.mod_mod]
    rfl
  · have notStandby : s.mode.mode ≠ .standby := by rcases hm with h | h | h <;> simp [h]
    exact ⟨_, exec_sysModeReqWrite_standby who purpose s hc hw ht notStandby,
      State.offRequest_enters_preserve _ 0x08 (State.running_of_mode _ hm)⟩

/-- Settles O10: both ways out of HOLD are `State.leaveHold`. -/
theorem leavingHold : Obligations.LeavingHold := by
  refine ⟨fun s hm => ⟨s.leaveHold 0x0C, by simp [exec, execHoldDwellExpired, hm], s.leaveHold_mode 0x0C⟩,
    fun s hm => ⟨s.leaveHold 0x0B, by simp [exec, execHoldPurposeFinished, hm], s.leaveHold_mode 0x0B⟩,
    fun ch unit s hc => ⟨_, exec_handshakeStall ch unit s hc, by simp [State.stalled_flt], rfl, s.stalled_ctr ch unit⟩⟩

/-- Settles O13: the checks of RESTORE's start pass; the leaf map without a twin ends in step 6 of R312; a failure with no frame ends the
bring-up. -/
theorem bringupEnds : Obligations.BringupEnds := by
  refine ⟨fun s hb hc hf hr hv he => ⟨_, exec_trainingComplete s hb hc hf hr hv, ?_, by simp⟩,
    fun s hb hm hv hl => ⟨_, exec_leafMapRebuilt_alone s hb hm hv hl, State.serveHosts_served _⟩,
    fun cause s hb hm hf => ⟨_, exec_bringupFailure_boot cause s hb hf, State.endBringup_standby _ _ _ (by simpa using hm)⟩⟩
  have enabled : s.channelsTrained.enterRestore.fld Reg.TWL_CTL Fld.TWL_CTL_ENABLE = 1 := by
    simpa [State.fld, State.reg] using he
  rw [State.beginRestore_mode _ enabled, State.enterRestore_mode]
  simp

/-- Settles O18: each instruction of the port and each clock event is one branch of its command. -/
theorem packagePort : Obligations.PackagePort := by
  refine ⟨fun s ha => ⟨s.emit (.jtag 0 0), by simp [exec, execJtagInstruction, ha], rfl⟩, fun s ha => ⟨_, exec_jtagIdcode s ha, ?_⟩,
    fun b s ha => ⟨s.emit (.jtag 2 b), by simp [exec, execJtagInstruction, ha], rfl⟩,
    fun s ha hn => ⟨s.emit (.jtag 0 0), by simp [exec, execJtagInstruction, ha, hn], rfl⟩,
    fun s ha hn => by simp [exec, execJtagInstruction, ha, hn],
    fun s hc => ⟨_, exec_referenceClockLost_cxl_coreOff s hc, rfl⟩,
    fun s hc hm => ⟨_, exec_referenceClockLost_eth s hc hm, ?_⟩,
    fun s hc => ⟨_, rfl, by simp [hc, State.tell, State.report]⟩,
    fun s hc ha hl => ⟨_, exec_referenceClockRestored_cxl_coreOff s hc ha hl, rfl⟩, fun s hc => ⟨_, rfl, by simp⟩⟩
  · obtain ⟨part, low⟩ := idcode_word s.freeVal
    exact ⟨_, rfl, part, low, rfl, rfl⟩
  · have serves : s.ethClockLost.mode.mode = .serve := by rw [s.ethClockLost_mode, hm]
    have running := State.running_of_mode _ (.inl serves)
    obtain ⟨mode, reason, pending, -⟩ := State.offRequest_enters_preserve s.ethClockLost 0x08 running
    have pwr := State.offRequest_running_pwr s.ethClockLost 0x08 running
    exact ⟨(congrArg PowerSup.refEth pwr).trans s.ethClockLost_refEth, mode, reason, pending⟩

/-- Settles O1: `step` is the case split on the queue. -/
theorem stepRunsFront : Obligations.StepRunsFront :=
  ⟨fun s c rest hp => by rw [step, hp], fun s hp => by rw [step, hp]⟩

end Sys2Proof
end

section
namespace Sys2Proof.Machine

/-! ## P commands in the background without a twin (R421, R423)

A P command that runs alone ends in `State.replTry` of its own entry: where its body leaves something of its tag to wait for, nothing more
happens; where it leaves none, and no fence, the completion is all that follows. -/

/-- The state in which the body of a background command runs: its job open, Background Command Started answered. -/
def State.started (s : State) (m : Mbx) (c : CmdSpec) : State := (s.openJob m c true).emit (.mbx m c.opcode 1 0 [])

/-- The state after the body of a P command of this side's own: the command committed, its entry waiting for this side alone. -/
def State.ranOwn (s : State) (tag op : Nat) (r : Reply) : State :=
  { s.commitJob tag with cmd := { (s.commitJob tag).cmd with
      repl := s.cmd.repl ++ [⟨tag, op, .own, true, (r.rc, r.ext, r.out)⟩] } }

@[simp] theorem State.ranOwn_addr (s : State) (tag op : Nat) (r : Reply) : (s.ranOwn tag op r).addr = s.addr := rfl
@[simp] theorem State.ranOwn_out (s : State) (tag op : Nat) (r : Reply) : (s.ranOwn tag op r).out = s.out := rfl

/-- Whether a P command goes to the twin rests on the mode and the link alone. -/
theorem State.replicates_of (s t : State) (hm : t.mode = s.mode) (hl : t.twl = s.twl) : t.replicates = s.replicates := by
  unfold State.replicates State.linkUp
  rw [hm, hl]

theorem State.solitary_iff (s : State) : s.solitary = true ↔
    s.replicates = false ∧ s.pair.record = none ∧ (∀ r ∈ s.cmd.repl, r.tag ≠ s.tagNow) ∧ (∀ f ∈ s.addr.fences, f.tag ≠ s.tagNow) ∧
      (∀ r ∈ s.net.revs, r.tag ≠ s.tagNow) ∧ ∀ a ∈ s.pair.attrWait, a.1 ≠ s.tagNow := by
  simp [State.solitary, and_assoc]

theorem State.replRun_alone (s u : State) (tag op : Nat) (ld : Option Nat) (inp : List Word) (body : Nat → State → State × Reply) (r : Reply)
    (hb : body tag s = (u, r)) (h0 : r.rc = 0) (ha : u.replicates = false) (hr : u.pair.record = none) :
    s.replRun tag op ld inp .own body = (u.ranOwn tag op r).replTry tag := by
  have own : (ReplRole.own == ReplRole.own) = true := rfl
  have unrecorded : (u.commitJob tag).pair.record.isSome = false := by simp [hr]
  simp only [State.replRun, hb, h0, ha, own, unrecorded, State.ranOwn, Bool.true_and, Bool.and_false, Bool.not_false, Bool.or_true, Bool.true_or,
    decide_true, if_true, Bool.false_eq_true, if_false]
  rfl

/-- A background P command that runs alone and whose body succeeds. -/
theorem State.pCommand_background (s u : State) (m : Mbx) (c : CmdSpec) (inp : List Word) (body : Option Nat → Nat → State → State × Reply)
    (r : Reply) (ht : s.takes m c = true) (ha : s.solitary = true) (hn : s.inBackground m = false)
    (hb : body (s.limitedTo m) s.tagNow (s.started m c) = (u, r)) (h0 : r.rc = 0)
    (hm : u.mode = s.mode) (hl : u.twl = s.twl) (hr : u.pair.record = s.pair.record) :
    s.pCommand m c true true inp body = (u.ranOwn s.tagNow c.opcode r).replTry s.tagNow := by
  obtain ⟨alone, unrecorded, -⟩ := s.solitary_iff.mp ha
  rw [State.pCommand, State.command_background s m c _ ht hn]
  have here : ((s.openJob m c true).emit (.mbx m c.opcode 1 0 [])).replicates = false := alone
  simp only [State.runJob, if_true, here, Bool.false_and, Bool.false_eq_true, if_false]
  exact State.replRun_alone _ u _ _ _ inp (body (s.limitedTo m)) r hb h0 ((State.replicates_of s u hm hl).trans alone) (hr.trans unrecorded)

/-- A command waits while a fence of its tag stands here (R42). -/
theorem State.replTry_waits (s : State) (f : Fence) (hf : f ∈ s.addr.fences) (hd : f.localDone = false) : s.replTry f.tag = s := by
  have fenced : s.addr.fences.any (fun g => g.tag == f.tag && !g.localDone) = true :=
    List.any_eq_true.mpr ⟨f, hf, by simp [hd]⟩
  unfold State.replTry
  split
  · rfl
  · simp [State.replLocal, fenced]

/-- A completion takes back nothing sent. -/
theorem State.mem_out_finish (s : State) (tag : Nat) (r : Reply) (o : Output) (ho : o ∈ s.out) : o ∈ (s.finish tag r).out := by
  unfold State.finish
  split
  · exact ho
  · dsimp only
    split
    · simpa using ho
    · split
      · exact ho
      · simpa [State.answer, State.emit] using Or.inr (Or.inr ho)

/-- A P command of this side's own, with no fence of its tag: the regions stay, and nothing sent is taken back. -/
theorem State.replTry_own_unfenced (s : State) (tag : Nat) (e : Repl)
    (he : s.cmd.repl.find? (fun r => r.tag == tag && r.role != .carried) = some e) (hr : e.role = .own)
    (hf : ∀ f ∈ s.addr.fences, f.tag ≠ tag) :
    (s.replTry tag).addr.regions = s.addr.regions ∧ ∀ o ∈ s.out, o ∈ (s.replTry tag).out := by
  have unfenced : s.addr.fences.any (fun f => f.tag == tag) = false := by simpa using hf
  simp only [State.replTry, he, unfenced, Bool.false_eq_true, if_false]
  split
  · simp only [State.replEnd, hr]
    exact ⟨by simp, fun o ho => State.mem_out_finish _ _ _ o ho⟩
  · exact ⟨rfl, fun _ ho => ho⟩

theorem State.ranOwn_find (s : State) (tag op : Nat) (r : Reply) (h : ∀ q ∈ s.cmd.repl, q.tag ≠ tag) :
    (s.ranOwn tag op r).cmd.repl.find? (fun r => r.tag == tag && r.role != .carried) =
      some ⟨tag, op, .own, true, (r.rc, r.ext, r.out)⟩ := by
  have unused : s.cmd.repl.find? (fun r => r.tag == tag && r.role != .carried) = none := by
    simpa using fun q hq e => absurd e (h q hq)
  simp [State.ranOwn, unused]

/-- The job of a background P command is open after its body. -/
theorem State.ranOwn_open (s u : State) (m : Mbx) (c : CmdSpec) (r : Reply) (hc : u.cmd = (s.started m c).cmd) :
    (u.ranOwn s.tagNow c.opcode r).cmd.jobs.any (fun j => j.tag == s.tagNow && j.opcode == c.opcode && j.done.isNone) = true := by
  have jobs : u.cmd.jobs = s.cmd.jobs ++ [⟨m, c.opcode, s.tagNow, c.cfg, true, false, false, none⟩] := by rw [hc]; rfl
  simp [State.ranOwn, State.commitJob, State.setJob, jobs]

/-! ## Regions and shares (R35 to R48, R428 to R430) -/

/-- REGION_CREATE of a descriptor that passes the checks of R35, R45 and R177. -/
theorem State.regionCreate_fits (s : State) (inp : List Word) (r : Region) (idx : Nat) (hp : Region.parse inp = some r)
    (hk : s.addr.regions.freeKey? 65536 = some idx) (hl : r.base + r.len ≤ s.addr.served.len)
    (hd : s.addr.regions.values.any (fun q => decide (q.base < r.base + r.len) && decide (r.base < q.base + q.len)) = false)
    (hi : s.regionById r.id = none) (hs : s.cmd.keys.has r.keySlot = true)
    (hw : r.noLd = true ∨ s.windowFits r.ownerLd r.dpaBase r.len = true) (hf : s.pinsFit (s.addr.regions.values ++ [r]) = true) :
    s.regionCreate inp = (State.enterTier { s with addr := { s.addr with regions := s.addr.regions.insert idx r } } r,
      .ok (r.words idx r.dpaBase)) := by
  have window : (!r.noLd && !s.windowFits r.ownerLd r.dpaBase r.len) = false := by rcases hw with h | h <;> simp [h]
  unfold State.regionCreate
  rw [hp, hk]
  dsimp only
  rw [decide_eq_false (Nat.not_lt.mpr hl), hd, hi, hs, window, hf]
  rfl

/-- A completion and its interrupt are the newest outputs (R420). -/
theorem State.answer_out (s : State) (m : Mbx) (op : Nat) (r : Reply) :
    (s.answer m op r).out = .msix m.fn (if m.secondary then 1 else 0) :: .mbx m op r.rc r.ext r.out :: s.out := by
  simp only [State.answer, State.emit_out]
  (repeat' split) <;> simp

/-- REGION_CREATE that runs alone: the region under its index, and its descriptor answered. -/
theorem State.pCommand_create (s : State) (m : Mbx) (c : CmdSpec) (inp : List Word) (r : Region) (idx : Nat) (ht : s.takes m c = true)
    (ha : s.solitary = true) (hb : (s.openJob m c false).regionCreate inp =
      (State.enterTier { s.openJob m c false with addr := { s.addr with regions := s.addr.regions.insert idx r } } r,
        .ok (r.words idx r.dpaBase))) :
    let t := s.pCommand m c true false inp (fun _ _ s => s.regionCreate inp)
    t.addr.regions = s.addr.regions.insert idx r ∧ t.cmd.jobs = s.cmd.jobs ∧
      t.out.take 2 = [.msix m.fn (if m.secondary then 1 else 0), .mbx m c.opcode 0 0 (r.words idx r.dpaBase)] := by
  rw [State.pCommand_alone s _ m c inp _ _ ht ha hb rfl (by simp) (by simp) (by simp) (by simp) (by simp) (by simp) (by simp)]
  refine ⟨by simp, by simp, ?_⟩
  rw [State.answer_out]
  rfl

/-- The owners kept until their handover are no part of the pair record. -/
theorem State.keepOwners_record (old new : State) (r : Region) : (State.keepOwners old new r).pair.record = new.pair.record := by
  unfold State.keepOwners
  split
  · rfl
  · refine List.foldlRecOn r.extents _ (motive := fun t : State => t.pair.record = new.pair.record) rfl fun t kept x _ => ?_
    dsimp only
    split <;> exact kept

/-- REGION_SET_ATTR of fields that R38 and R177 allow: in the address map it changes the region alone, whatever owners, moves and waits follow. -/
theorem State.regionSetAttr_fits (s : State) (inp : List Word) (tag idx : Nat) (r q : Region)
    (hi : s.regionById ((wordAt inp 0).field 23 0) = some (idx, r)) (hq : r.withAttr inp = some q)
    (hf : s.pinsFit ((s.addr.regions.insert idx q).values) = true) :
    let u := (s.regionSetAttr inp tag).1
    s.regionSetAttr inp tag = (u, .ok []) ∧ u.addr = { s.addr with regions := s.addr.regions.insert idx q } ∧ u.pair.record = s.pair.record := by
  simp only [State.regionSetAttr, hi, hq, hf, Bool.not_true, Bool.false_eq_true, if_false]
  refine ⟨trivial, ?_, ?_⟩
  · (repeat' split) <;> simp
  · (repeat' split) <;> simp [State.keepOwners_record]

/-- The state after REGION_ZERO or REGION_DELETE of a region: the fence up and, for a deletion, the revocations of R361 begun. -/
def State.fenceRaised (s : State) (delete : Bool) (idx tag : Nat) : State :=
  let t := s.fence idx delete tag
  if delete then
    if (t.revokedWith idx).isEmpty then t else (t.markGrants idx).revokeStart (t.revokedWith idx) tag
  else t

/-- The revocations of a deletion touch the network engine alone. -/
theorem State.fenceRaised_keeps (s : State) (delete : Bool) (idx tag : Nat) : let t := s.fenceRaised delete idx tag
    t.addr = (s.fence idx delete tag).addr ∧ t.mem = s.mem ∧ t.cmd = s.cmd ∧ t.out = s.out ∧ t.mode = s.mode ∧ t.twl = s.twl ∧ t.pair = s.pair := by
  unfold State.fenceRaised
  (repeat' split) <;> simp

/-- Eight clear bits are seven clear bits under a clear bit. -/
theorem Word.field_top (w : Word) (h : w.field 31 24 = 0) : w.field 30 24 = 0 ∧ w.field 31 31 = 0 := by
  simp only [Word.field, Nat.reduceAdd, Nat.reduceSub, Nat.reducePow] at h ⊢
  omega

/-- A mailbox that takes a command of privileged mailboxes alone acts for no LD. -/
theorem State.limitedTo_of_takes (s : State) (m : Mbx) (c : CmdSpec) (ht : s.takes m c = true) (hc : c.ld = false) : s.limitedTo m = none := by
  have privileged : s.privileged m = true := by
    simp only [State.takes, Bool.and_eq_true, hc, Bool.or_false] at ht
    obtain ⟨⟨⟨⟨-, privileged⟩, -⟩, -⟩, -⟩ := ht
    exact privileged
  rw [State.limitedTo, if_pos privileged]

/-- REGION_ZERO of a region with no fence, by a privileged mailbox or that of the LD which owns the region and may write it. -/
theorem State.regionFence_zero (s : State) (ld : Option Nat) (inp : List Word) (tag idx : Nat) (r : Region)
    (hi : s.regionById ((wordAt inp 0).field 23 0) = some (idx, r)) (h0 : (wordAt inp 0).field 31 24 = 0) (h1 : wordAt inp 1 = 0)
    (hf : s.addr.fences.any (fun f => f.region == idx) = false)
    (hl : ld = none ∨ r.noLd = false ∧ ld = some r.ownerLd ∧ r.ldWrite = true) :
    s.regionFence false ld inp tag = (s.fenceRaised false idx tag, .ok []) := by
  obtain ⟨reserved, keep⟩ := Word.field_top _ h0
  unfold State.regionFence
  rcases hl with rfl | ⟨owned, rfl, writes⟩
  · simp [hi, reserved, keep, h1, hf, State.fenceRaised]
  · simp [hi, reserved, keep, h1, hf, owned, writes, State.fenceRaised]

/-- REGION_DELETE of a region with no fence, with no share or the shares to go with it. -/
theorem State.regionFence_delete (s : State) (inp : List Word) (tag idx : Nat) (r : Region)
    (hi : s.regionById ((wordAt inp 0).field 23 0) = some (idx, r)) (h0 : (wordAt inp 0).field 30 24 = 0) (h1 : wordAt inp 1 = 0)
    (hf : s.addr.fences.any (fun f => f.region == idx) = false)
    (hs : (wordAt inp 0).field 31 31 = 1 ∨ s.addr.shares.values.any (fun h => h.region == idx) = false) :
    s.regionFence true none inp tag = (s.fenceRaised true idx tag, .ok []) := by
  have shares : (decide ((wordAt inp 0).field 31 31 = 0) && s.addr.shares.values.any (fun h => h.region == idx)) = false := by
    rcases hs with h | h <;> rw [h]
    · rfl
    · exact Bool.and_false _
  unfold State.regionFence
  simp [hi, h0, h1, hf, shares, State.fenceRaised]

/-- A background P command that runs alone and raises a fence waits for the end of its fence (R42 to R44). -/
theorem State.pCommand_fence (s : State) (m : Mbx) (c : CmdSpec) (inp : List Word) (body : Option Nat → Nat → State → State × Reply)
    (delete : Bool) (idx : Nat) (ht : s.takes m c = true) (ha : s.solitary = true) (hn : s.inBackground m = false)
    (hb : body (s.limitedTo m) s.tagNow (s.started m c) = ((s.started m c).fenceRaised delete idx s.tagNow, .ok [])) :
    let t := s.pCommand m c true true inp body
    t.addr.fences = s.addr.fences ++ [⟨idx, delete, s.tagNow, s.trk.nextArr, false⟩] ∧ t.addr.regions = s.addr.regions ∧ t.mem = s.mem ∧
      t.cmd.jobs.any (fun j => j.tag == s.tagNow && j.opcode == c.opcode && j.done.isNone) = true ∧ t.out = .mbx m c.opcode 1 0 [] :: s.out := by
  obtain ⟨addr, mem, cmd, out, mode, twl, pair⟩ := (s.started m c).fenceRaised_keeps delete idx s.tagNow
  have fences : (((s.started m c).fenceRaised delete idx s.tagNow).ranOwn s.tagNow c.opcode (.ok [])).addr.fences =
      s.addr.fences ++ [⟨idx, delete, s.tagNow, s.trk.nextArr, false⟩] := congrArg AddrMap.fences addr
  rw [State.pCommand_background s _ m c inp body (.ok []) ht ha hn hb rfl mode twl (congrArg Pair.record pair),
    State.replTry_waits _ ⟨idx, delete, s.tagNow, s.trk.nextArr, false⟩ (by rw [fences]; exact List.mem_append_right _ List.mem_cons_self) rfl]
  exact ⟨fences, (congrArg AddrMap.regions addr).trans rfl, mem, s.ranOwn_open _ m c _ cmd, out⟩

/-- REGION_SET_ATTR that runs alone, of fields that R38 and R177 allow: the region has them, and the command started. -/
theorem State.pCommand_setAttr (s : State) (m : Mbx) (c : CmdSpec) (inp : List Word) (idx : Nat) (r q : Region)
    (ht : s.takes m c = true) (ha : s.solitary = true) (hn : s.inBackground m = false)
    (hi : s.regionById ((wordAt inp 0).field 23 0) = some (idx, r)) (hq : r.withAttr inp = some q)
    (hf : s.pinsFit ((s.addr.regions.insert idx q).values) = true) :
    let t := s.pCommand m c true true inp (fun _ tag s => s.regionSetAttr inp tag)
    t.addr.regions = s.addr.regions.insert idx q ∧ .mbx m c.opcode 1 0 [] ∈ t.out := by
  obtain ⟨body, addr, record⟩ := (s.started m c).regionSetAttr_fits inp s.tagNow idx r q hi hq hf
  obtain ⟨-, -, ⟨-, mode, -, -, cmd⟩, out, -, -, -, -, twl, -⟩ := (s.started m c).regionSetAttr_frame inp s.tagNow
  obtain ⟨-, -, tags, fences, -, -⟩ := s.solitary_iff.mp ha
  rw [State.pCommand_background s _ m c inp _ (.ok []) ht ha hn body rfl mode twl record]
  have entry := (((s.started m c).regionSetAttr inp s.tagNow).1).ranOwn_find s.tagNow c.opcode (.ok []) (by rw [cmd]; exact tags)
  obtain ⟨regions, sent⟩ := State.replTry_own_unfenced _ s.tagNow _ entry rfl (by rw [State.ranOwn_addr, addr]; exact fences)
  refine ⟨?_, sent _ ?_⟩
  · rw [regions, State.ranOwn_addr, addr]
    rfl
  · rw [State.ranOwn_out, out]
    exact List.mem_cons_self

/-- SHARE_CREATE of a part of a shareable region (R45, R48). -/
theorem State.shareCreate_fits (s : State) (inp : List Word) (r : Region) (idx id : Nat)
    (hi : s.regionById ((wordAt inp 0).field 23 0) = some (idx, r)) (hk : s.addr.shares.freeKey? 4096 = some id)
    (h0 : (wordAt inp 0).field 31 24 = 0) (h1 : (wordAt inp 1).field 31 23 = 0) (h2 : (wordAt inp 2).field 31 23 = 0)
    (h3 : (wordAt inp 3).field 31 5 = 0) (h4 : (wordAt inp 4).field 31 23 = 0) (h5 : wordAt inp 5 = 0)
    (hr : r.shareable = true) (hz : wordAt inp 2 ≠ 0) (hl : (wordAt inp 1).toNat + (wordAt inp 2).toNat ≤ r.len)
    (ho : r.noLd = true ∨ (wordAt inp 3).toNat ≠ r.ownerLd)
    (hn : (s.addr.shares.values.filter (fun h => h.region == idx)).length < 31)
    (hw : s.windowFits (wordAt inp 3).toNat (wordAt inp 4).toNat (wordAt inp 2).toNat = true) :
    let h : Share := ⟨idx, (wordAt inp 1).toNat, (wordAt inp 2).toNat, (wordAt inp 3).toNat, (wordAt inp 4).toNat⟩
    s.shareCreate inp = ({ s with addr := { s.addr with shares := s.addr.shares.insert id h } }, .ok [w32 id]) := by
  have other : (!r.noLd && (wordAt inp 3).toNat == r.ownerLd) = false := by rcases ho with h | h <;> simp [h]
  unfold State.shareCreate
  dsimp only
  rw [hi, hk]
  dsimp only
  rw [decide_eq_false (not_not_intro h0), decide_eq_false (not_not_intro h1), decide_eq_false (not_not_intro h2), decide_eq_false (not_not_intro h3),
    decide_eq_false (not_not_intro h4), decide_eq_false (not_not_intro h5), hr, decide_eq_false hz, decide_eq_false (Nat.not_lt.mpr hl), other,
    decide_eq_false (Nat.not_le.mpr hn), hw]
  rfl

/-! ## The end of a fence (R42 to R44) -/

/-- The leaves of a region. -/
def Region.holdsLeaf (r : Region) (k : Nat) : Bool := decide (r.base * extentLeaves ≤ k) && decide (k < (r.base + r.len) * extentLeaves)

/-- The discard walk clears the valid bits of the region's leaves and frees their entries in the leaf map (R37, R43). -/
theorem State.discardRegion_leaves (s : State) (r : Region) :
    (s.discardRegion r).addr.valid = s.addr.valid.filter (fun k _ => !r.holdsLeaf k) ∧
      (s.discardRegion r).vlt.map = s.vlt.map.filter (fun k _ => !r.holdsLeaf k) := ⟨rfl, rfl⟩

/-- The state after the local discard of a fence: the region's contents gone, the region too where the fence is a deletion, the fence done here. -/
def State.fenceDone (s : State) (region : Nat) (r : Region) (f : Fence) : State :=
  let t := if f.delete then (s.discardRegion r).removeRegion region r else s.discardRegion r
  { t with addr := { t.addr with fences := t.addr.fences.map (fun (g : Fence) => if g.tag = f.tag then { g with localDone := true } else g) } }

theorem exec_regionFenceEnd (region : Nat) (f : Fence) (r : Region) (s : State)
    (hf : s.addr.fences.find? (fun f => f.region == region && !f.localDone) = some f) (hr : s.addr.regions.find? region = some r)
    (hc : s.fenceClear f = true) :
    exec (.regionFenceEnd region) s = .next (((s.fenceDone region r f).replTry f.tag).netRun) := by
  simp only [exec, execRegionFenceEnd, hf, hr, hc, State.fenceDone, Bool.not_true, Bool.false_eq_true, if_false]

/-- What the end of a fence clears does not rest on whether the region goes too; home lines, tracker and outputs stay. -/
theorem State.fenceDone_leaves (s : State) (region : Nat) (r : Region) (f : Fence) : let u := s.fenceDone region r f
    u.addr.valid = s.addr.valid.filter (fun k _ => !r.holdsLeaf k) ∧ u.vlt.map = s.vlt.map.filter (fun k _ => !r.holdsLeaf k) ∧
      u.addr.fences = s.addr.fences.map (fun (g : Fence) => if g.tag = f.tag then { g with localDone := true } else g) ∧
      u.mem = s.mem ∧ u.trk = s.trk ∧ u.out = s.out := by
  obtain ⟨valid, map⟩ := s.discardRegion_leaves r
  unfold State.fenceDone
  split <;> exact ⟨valid, map, rfl, rfl, rfl, rfl⟩

theorem State.fenceDone_regions (s : State) (region : Nat) (r : Region) (f : Fence) : let u := s.fenceDone region r f
    if f.delete then u.addr.regions = s.addr.regions.erase region ∧ u.addr.shares = s.addr.shares.filter (fun _ h => h.region != region)
    else u.addr.regions = s.addr.regions ∧ u.addr.shares = s.addr.shares := by
  unfold State.fenceDone
  split <;> exact ⟨rfl, rfl⟩

/-! ## The pool identity (R54, R459) -/

theorem State.guarded_open (s : State) (who : Nat) (hu : s.unlocked who = true) : s.guarded who = (true, s.relock who) := if_pos hu

theorem State.guarded_closed (s : State) (who : Nat) (hu : s.unlocked who = false) :
    s.guarded who = (false, s.bump Ctr.SYS_CNT_GUARD_REFUSED) := if_neg (Bool.eq_false_iff.mp hu)

/-- SYS_POOL takes a write in HOLD or RESTORE. -/
theorem exec_sysPoolWrite_takes (who : Nat) (value : Word) (s : State) (hc : s.pwr.core = true) (hw : who < 5) (hu : s.unlocked who = true)
    (hm : s.mode.mode = .hold ∨ s.mode.mode = .restore) : exec (.sysPoolWrite who value) s =
      .next ((s.relock who).setReg Reg.SYS_POOL (guardedWord Reg.SYS_POOL (s.reg Reg.SYS_POOL) value)) := by
  have allowed : (s.mode.mode == .hold || s.mode.mode == .restore) = true := by simpa using hm
  simp only [exec, execSysPoolWrite, hc, hw, s.guarded_open who hu, State.relock_frame, allowed, Bool.not_true, decide_true, Bool.or_false,
    Bool.false_eq_true, if_false, if_true]
  rfl

/-- SYS_POOL refuses a write in any other mode: it is counted, and the unlock closes. -/
theorem exec_sysPoolWrite_refuses (who : Nat) (value : Word) (s : State) (hc : s.pwr.core = true) (hw : who < 5) (hu : s.unlocked who = true)
    (hh : s.mode.mode ≠ .hold) (hr : s.mode.mode ≠ .restore) : exec (.sysPoolWrite who value) s =
      .next ((s.relock who).bump Ctr.SYS_CNT_GUARD_REFUSED) := by
  have barred : (s.mode.mode == .hold || s.mode.mode == .restore) = false := by simp [hh, hr]
  simp only [exec, execSysPoolWrite, hc, hw, s.guarded_open who hu, State.relock_frame, barred, Bool.not_true, decide_true, Bool.or_false,
    Bool.false_eq_true, if_false]

/-- Through a closed unlock SYS_POOL refuses a write in every mode. -/
theorem exec_sysPoolWrite_closed (who : Nat) (value : Word) (s : State) (hc : s.pwr.core = true) (hw : who < 5) (hu : s.unlocked who = false) :
    exec (.sysPoolWrite who value) s = .next (s.bump Ctr.SYS_CNT_GUARD_REFUSED) := by
  simp only [exec, execSysPoolWrite, hc, hw, s.guarded_closed who hu, Bool.not_true, decide_true, Bool.or_false, Bool.false_eq_true, if_false]

end Sys2Proof.Machine
end

section
namespace Sys2Proof
open Sys2Proof.Machine

/-- Settles O46: the guard closes the unlock, then the mode decides whether the write is stored or counted. -/
theorem poolIdentity : Obligations.PoolIdentity := by
  refine ⟨fun who value s hc hw hu hm => ⟨_, exec_sysPoolWrite_takes who value s hc hw hu hm, State.reg_setReg_self _ _ _,
      fun a ha => State.reg_setReg_other _ _ a _ ha.symm, s.unlocked_relock who, rfl⟩,
    fun who value s hc hw hu hh hr => ⟨_, exec_sysPoolWrite_refuses who value s hc hw hu hh hr, rfl⟩,
    fun who value s hc hw hu => ⟨_, exec_sysPoolWrite_closed who value s hc hw hu, rfl⟩⟩

/-- Settles O30: each command runs alone (R423), so that its body's effect and its answer, or the wait for its fence, are all there is. -/
theorem regionCommands : Obligations.RegionCommands := by
  refine ⟨fun m inp r idx s ht ha hl hp hk hs hd hi hks hw hf => ⟨_, rfl, ?_⟩,
    fun m inp r q idx s ht ha hl hn hi hq hf => ⟨_, rfl, ?_⟩,
    fun m inp r idx s ht ha hl hn hi h0 h1 hf hld => ⟨_, rfl, ?_⟩,
    fun m inp r idx s ht ha hl hn hi h0 h1 hf hs => ⟨_, rfl, ?_⟩,
    fun region f r s hf hr hc => ⟨_, exec_regionFenceEnd region f r s hf hr hc, s.fenceDone region r f, rfl, ?_⟩,
    fun m inp r idx id s ht ha hl hi hk h0 h1 h2 h3 h4 h5 hr hz hlen ho hn hw => ⟨_, rfl, ?_⟩,
    fun m inp s ht ha hl hh => ⟨_, rfl, ?_⟩⟩
  · rw [hl, beq_self_eq_true]
    exact s.pCommand_create m _ inp r idx ht ha (State.regionCreate_fits _ inp r idx hp hk hs hd hi hks hw hf)
  · rw [hl, beq_self_eq_true]
    exact s.pCommand_setAttr m _ inp idx r q ht ha hn hi hq hf
  · rw [hl, beq_self_eq_true]
    exact s.pCommand_fence m _ inp _ false idx ht ha hn (State.regionFence_zero _ _ inp s.tagNow idx r hi h0 h1 hf hld)
  · rw [hl, beq_self_eq_true]
    have all := s.limitedTo_of_takes m _ ht rfl
    exact s.pCommand_fence m _ inp _ true idx ht ha hn (by rw [all]; exact State.regionFence_delete _ inp s.tagNow idx r hi h0 h1 hf hs)
  · obtain ⟨valid, map, fences, mem, trk, out⟩ := s.fenceDone_leaves region r f
    exact ⟨valid, map, fences, s.fenceDone_regions region r f, mem, trk, out⟩
  · exact State.pCommand_answered s _ m _ inp _ _ _ (by simp [hl]) ht ha
      (State.shareCreate_fits _ inp r idx id hi hk h0 h1 h2 h3 h4 h5 hr hz hlen ho hn hw) rfl rfl rfl rfl rfl rfl rfl rfl rfl
  · exact State.pCommand_answered s _ m _ inp _ _ _ (by simp [hl]) ht ha (if_pos hh) rfl rfl rfl rfl rfl rfl rfl rfl rfl

end Sys2Proof
end

section
namespace Sys2Proof.Machine

/-! ## Poison and scans through a mailbox (R255, R383, R421, R426) -/

/-- A foreground command whose body leaves its job open (R421). -/
theorem State.command_waits (s u : State) (m : Mbx) (c : CmdSpec) (body : Nat → State → State × CmdRes) (ht : s.takes m c = true)
    (hb : body s.tagNow (s.openJob m c false) = (u, .later)) : s.command m c true false body = u := by
  rw [State.command_takes s m c body ht]
  simp [State.runJob, hb]

/-- A background command whose body has its answer ready, to be given once BACKGROUND_COMMAND_DONE reports it (R421). -/
theorem State.command_background_ends (s u : State) (m : Mbx) (c : CmdSpec) (r : Reply) (body : Nat → State → State × CmdRes)
    (ht : s.takes m c = true) (hn : s.inBackground m = false) (hb : body s.tagNow (s.started m c) = (u, .now r)) :
    s.command m c true true body = u.finish s.tagNow r := by
  rw [State.command_background s m c body ht hn]
  simp only [State.started] at hb
  simp [State.runJob, hb]

theorem exec_injectPoison (m : Mbx) (dpa line : Nat) (s : State) (ht : s.takes m (.priv 0x4301) = true) (hm : s.mode.mode = .hold)
    (hp : s.mode.holdPurpose = 2) (hd : dpa % 64 = 0) (hl : s.mbxLine m dpa false = some line) :
    exec (.injectPoison m dpa) s = .next ((s.openJob m (.priv 0x4301) false).submit
      ⟨7, line, .write 0 Mask.full true, .command s.tagNow, false⟩) := by
  have window : (s.openJob m (.priv 0x4301) false).mbxLine m dpa false = some line := hl
  exact congrArg _ (State.command_waits s _ m _ _ ht (by simp [hm, hp, hd, window]))

theorem exec_clearPoison (m : Mbx) (dpa line : Nat) (data : Line) (s : State) (ht : s.takes m (.all 0x4302) = true) (hd : dpa % 64 = 0)
    (hl : s.mbxLine m dpa true = some line) :
    exec (.clearPoison m dpa data) s = .next ((s.openJob m (.all 0x4302) false).submit
      ⟨7, line, .write data Mask.full false, .command s.tagNow, false⟩) := by
  have window : (s.openJob m (.all 0x4302) false).mbxLine m dpa true = some line := hl
  exact congrArg _ (State.command_waits s _ m _ _ ht (by simp [hd, window]))

/-- The scan of the lines of a range of addresses: the state after it and the poisoned addresses found. -/
def State.scanLines (s : State) (lines : List (Nat × Option Nat)) : State × List Nat :=
  lines.foldl (fun (a : State × List Nat) c =>
    match c.2 with
    | some line => let (s, p) := a.1.scanLine line; (s, if p then a.2 ++ [c.1] else a.2)
    | none => a) (s, [])

/-- A scan opens and closes no mailbox command. -/
theorem State.scanLines_cmd (s : State) (lines : List (Nat × Option Nat)) : (s.scanLines lines).1.cmd = s.cmd := by
  unfold State.scanLines
  suffices h : ∀ a : State × List Nat, (lines.foldl _ a).1.cmd = a.1.cmd from h (s, [])
  induction lines with
  | nil => exact fun _ => rfl
  | cons c lines ih =>
    obtain ⟨dpa, line⟩ := c
    intro a
    refine (ih _).trans ?_
    cases line with
    | none => rfl
    | some line => exact (a.1.scanLine_frame line).2.2.2.2

/-- The state after a scan, its result stored with the function. -/
def State.scanned (s : State) (fn : Nat) (lines : List (Nat × Option Nat)) : State :=
  (s.scanLines lines).1.setFunc fn { (s.scanLines lines).1.func fn with scan := some (s.scanLines lines).2 }

/-- A background command that has just come ends its body: its answer waits with its job for BACKGROUND_COMMAND_DONE. -/
theorem State.finish_background (s u : State) (m : Mbx) (c : CmdSpec) (r : Reply)
    (hf : s.cmd.jobs.any (fun j => j.tag == s.tagNow) = false)
    (hj : u.cmd.jobs = s.cmd.jobs ++ [⟨m, c.opcode, s.tagNow, c.cfg, true, false, false, none⟩]) :
    u.finish s.tagNow r = { u with cmd := { u.cmd with
      jobs := s.cmd.jobs ++ [⟨m, c.opcode, s.tagNow, c.cfg, true, false, false, some (r.rc, r.ext, r.out)⟩] } } := by
  have others : ∀ j ∈ s.cmd.jobs, j.tag ≠ s.tagNow := by simpa using hf
  have own : u.cmd.jobs.find? (fun j => j.tag == s.tagNow && j.done.isNone) =
      some ⟨m, c.opcode, s.tagNow, c.cfg, true, false, false, none⟩ := by
    rw [hj, List.find?_append, List.find?_eq_none.mpr (fun j hm => by simp [others j hm])]
    simp
  have kept : ∀ f : Job → Job, s.cmd.jobs.map (fun j => if j.tag = s.tagNow then f j else j) = s.cmd.jobs := fun f =>
    (List.map_congr_left fun j hm => if_neg (others j hm)).trans (List.map_id _)
  simp only [State.finish, own, Bool.false_eq_true, if_false, if_true]
  simp only [State.setJob, hj, List.map_append, kept, List.map_cons, List.map_nil, if_true]

theorem exec_scanMedia (m : Mbx) (dpa length : Nat) (s : State) (ht : s.takes m (.all 0x4304) = true) (hn : s.inBackground m = false)
    (hd : dpa % 64 = 0) (h0 : length ≠ 0)
    (hl : (List.range length).all (fun k => (s.mbxLine m (dpa + 64 * k) false).isSome) = true) :
    exec (.scanMedia m dpa length) s = .next (((s.started m (.all 0x4304)).scanned m.fn
      ((List.range length).map (fun k => (dpa + 64 * k, s.mbxLine m (dpa + 64 * k) false)))).finish s.tagNow (.ok [])) := by
  have window : ∀ k, (s.started m (.all 0x4304)).mbxLine m (dpa + 64 * k) false = s.mbxLine m (dpa + 64 * k) false := fun _ => rfl
  have inside : ((List.range length).map (fun k => (dpa + 64 * k, s.mbxLine m (dpa + 64 * k) false))).any (fun c => c.2.isNone) = false := by
    simpa [Option.isSome_iff_ne_none] using hl
  refine congrArg _ (State.command_background_ends s _ m _ _ _ ht hn ?_)
  simp only [window, inside, hd, h0, ne_eq, not_true_eq_false, decide_false, Bool.or_false, Bool.false_eq_true, if_false]
  rfl

theorem exec_backgroundCommandDone (fn : Nat) (secondary : Bool) (j : Job) (rc ext : Nat) (out : List Word) (s : State)
    (hj : s.cmd.jobs.find? (fun j => j.mbx.fn == fn && j.mbx.secondary == secondary && j.background && j.done.isSome) = some j)
    (hd : j.done = some (rc, ext, out)) :
    exec (.backgroundCommandDone fn secondary) s =
      .next (({ s with cmd := { s.cmd with jobs := s.cmd.jobs.filter (fun k => k.tag != j.tag) } } : State).answer j.mbx j.opcode
        ⟨rc, ext, out⟩) := by
  simp only [exec, execBackgroundCommandDone, hj, hd]

theorem State.func_setFunc_self (s : State) (fn : Nat) (f : Func) : (s.setFunc fn f).func fn = f := by
  simp [State.func, State.setFunc]

end Sys2Proof.Machine
end

section
namespace Sys2Proof
open Sys2Proof.Machine

/-- Settles O23: INJECT_POISON and CLEAR_POISON end in the tracker; a scan's answer waits with its job until BACKGROUND_COMMAND_DONE. -/
theorem poisonAndScans : Obligations.PoisonAndScans := by
  refine ⟨fun m dpa line s ht hm hp hd hl => ⟨_, exec_injectPoison m dpa line s ht hm hp hd hl, rfl⟩,
    fun m dpa line data s ht hd hl => ⟨_, exec_clearPoison m dpa line data s ht hd hl, rfl⟩,
    fun m dpa length s ht hn hd h0 hl => ⟨_, exec_scanMedia m dpa length s ht hn hd h0 hl, ?_⟩,
    fun fn secondary j rc ext out s hj hd => ⟨_, exec_backgroundCommandDone fn secondary j rc ext out s hj hd, ?_, ?_, ?_, ?_⟩⟩
  · rw [s.finish_background _ m (.all 0x4304) (.ok []) (s.takes_fresh m _ ht) (congrArg Control.jobs (State.scanLines_cmd _ _))]
    exact ⟨⟨_, congrArg Func.scan (State.func_setFunc_self _ _ _)⟩, rfl⟩
  · simp
  · exact State.answer_out _ _ _ _
  · simp
  · simp

end Sys2Proof
end

section
namespace Sys2Proof.Machine

/-! ## Messages of the twin in the order of their numbers (R143, R147) -/

theorem State.nextMsg_none (s : State) (typ : Nat) (h : s.twl.staging.find? s.twl.rxMsn = none) : s.nextMsg typ = none := by
  rw [State.nextMsg, h]

theorem State.nextDepart_none (s : State) (kind : Nat) (h : s.twl.staging.find? s.twl.rxMsn = none) : s.nextDepart kind = false := by
  rw [State.nextDepart, s.nextMsg_none _ h]

/-- Where the next message is not there, no command of the twin does anything. -/
theorem exec_waits_for_message (i : Instr) (c : ResyncMsg) (d : CtlMsg) (s : State)
    (hi : i = .writeFwd ∨ i = .orderAck ∨ i = .mirror ∨ i = .mirrorAck ∨ i = .intent ∨ i = .intentData ∨ i = .raReq ∨ i = .raResp ∨
      i = .checkpoint ∨ i = .handoverMarker ∨ i = .handoverAck ∨ i = .departing ∨ i = .departingAck ∨ i = .resyncCopy ∨ i = .resyncCtl c ∨
      i = .control d)
    (h : s.twl.staging.find? s.twl.rxMsn = none) : exec i s = .next s := by
  have message := fun typ => s.nextMsg_none typ h
  have depart := fun kind => s.nextDepart_none kind h
  rcases hi with rfl | rfl | rfl | rfl | rfl | rfl | rfl | rfl | rfl | rfl | rfl | rfl | rfl | rfl | rfl | rfl
  all_goals simp [exec, execWriteFwd, execOrderAck, execMirror, execMirrorAck, execIntent, execIntentData, execRaReq, execRaResp,
    execCheckpoint, execHandoverMarker, execHandoverAck, execDeparting, execDepartingAck, execResyncCopy, execResyncCtl, execControl,
    message, depart]

theorem TwMsg.lines_line (m : TwMsg) (r : LineRec) (h : m.recs = [.line r]) : m.lines = [r] := by
  simp [TwMsg.lines, h]

/-- A message of one line record carries no checkpoint. -/
theorem State.applyCkpts_line (s : State) (m : TwMsg) (r : LineRec) (h : m.recs = [.line r]) : s.applyCkpts m = s := by
  simp [State.applyCkpts, TwMsg.ckpts, h]

theorem State.msgDone_counts (s : State) (r : RxMsg) (h : s.twl.staging.find? s.twl.rxMsn = some r) :
    s.msgDone.twl.owedCredit = s.twl.owedCredit + r.frames.size ∧
      s.msgDone.ctr Ctr.TWL_CNT_MSG_APPLIED = s.ctr Ctr.TWL_CNT_MSG_APPLIED + 1 := by
  simp only [State.msgDone, h]
  exact ⟨rfl, State.ctr_bump_self _ _⟩

/-! ## Forwarded writes and read-assists (R71, R189) -/

/-- What keeps a request of the twin waiting (R64, R69). -/
theorem State.twinWaits_eq (s : State) : (!s.mayGrant 3 || s.heldBack 3) = !(s.mayGrant 3 && !s.heldBack 3) := by
  rw [Bool.not_and, Bool.not_not]

theorem exec_writeFwd_full (m : TwMsg) (r : LineRec) (d : Line) (s : State) (hm : s.nextMsg 0x01 = some m) (hr : m.recs = [.line r])
    (hb : r.body = .full d) (hg : (s.mayGrant 3 && !s.heldBack 3) = true) :
    exec .writeFwd s = .next (s.msgDone.submit ⟨3, r.line, .write d Mask.full false, .fwd m.tag 0, false⟩) := by
  simp [exec, execWriteFwd, hm, s.twinWaits_eq, hg, m.lines_line r hr, hb, State.applyCkpts_line _ m r hr]

theorem exec_writeFwd_cmpSwap (m : TwMsg) (r : LineRec) (k : Nat) (x y : BitVec 64) (s : State) (hm : s.nextMsg 0x01 = some m)
    (hr : m.recs = [.line r]) (hb : r.body = .cmpSwap k x y) (hg : (s.mayGrant 3 && !s.heldBack 3) = true) :
    exec .writeFwd s = .next (s.msgDone.submit ⟨3, r.line, .cmpSwap k x y, .fwd m.tag 0, false⟩) := by
  simp [exec, execWriteFwd, hm, s.twinWaits_eq, hg, m.lines_line r hr, hb, State.applyCkpts_line _ m r hr]

theorem exec_raReq (m : TwMsg) (r : LineRec) (s : State) (hm : s.nextMsg 0x07 = some m) (hr : m.recs = [.line r])
    (hg : (s.mayGrant 3 && !s.heldBack 3) = true) :
    exec .raReq s = .next (s.msgDone.submit ⟨3, r.line, .read, .assist m.tag 0, false⟩) := by
  simp [exec, execRaReq, hm, s.twinWaits_eq, hg, m.lines_line r hr]

/-- Without an entry to grant, a write or a read-assist of the twin waits (R69). -/
theorem exec_waits_for_grant (i : Instr) (s : State) (hi : i = .writeFwd ∨ i = .raReq) (hg : (s.mayGrant 3 && !s.heldBack 3) = false) :
    exec i s = .next s := by
  rcases hi with rfl | rfl
  · cases hm : s.nextMsg 0x01 <;> simp only [exec, execWriteFwd, hm, s.twinWaits_eq, hg, Bool.not_false, if_true]
  · cases hm : s.nextMsg 0x07 <;> simp only [exec, execRaReq, hm, s.twinWaits_eq, hg, Bool.not_false, if_true]

/-! ## Order numbers that come back (R81) -/

theorem exec_orderAck (m : TwMsg) (r : LineRec) (c : Nat × Entry) (s : State) (hm : s.nextMsg 0x02 = some m) (hr : m.recs = [.line r])
    (hc : s.trk.entries.cells.find? (fun c => c.2.tag == some m.tag && c.2.line == r.line && c.2.owed && !c.2.sent) = some c) :
    exec .orderAck s = .next (match s.ordered c.1 c.2 r with | some u => u.msgDone.pump | none => s.raiseRecs m) := by
  simp only [exec, execOrderAck, hm, m.lines_line r hr, List.foldl_cons, List.foldl_nil, Option.bind_some, hc] <;> rfl

theorem State.ordered_mirrored (s : State) (id : Nat) (e : Entry) (r : LineRec) (hb : r.body = .nodata) (hf : e.forwarded = false)
    (hn : e.bounded = false) (hl : ordLater r.ord (s.ordOf e.line) = true) :
    s.ordered id e r = some (s.setEntry id { e with ord := some r.ord }) := by
  simp only [Entry.forwarded] at hf
  simp [State.ordered, Entry.forwarded, hb, hf, hn, hl]

theorem State.ordered_overtaken (s : State) (id : Nat) (e : Entry) (r : LineRec) (hb : r.body = .nodata) (hf : e.forwarded = false)
    (hl : ordLater r.ord (s.ordOf e.line) = false) :
    s.ordered id e r = some ((s.setEntry id { e with ord := some r.ord, applied := true, owed := false }).tryComplete id
      { e with ord := some r.ord, applied := true, owed := false }) := by
  simp only [Entry.forwarded] at hf
  simp [State.ordered, Entry.forwarded, hb, hf, hl]

/-! ## Records applied in order-number order (R72) -/

theorem State.ownApplied_no_entries (s : State) (line : Nat) (n : BitVec 32) (h : s.trk.entries.cells = []) : s.ownApplied line n = s := by
  simp [State.ownApplied, h]

theorem State.applyRec_older (s : State) (r : LineRec) (w : Line × Mask × Bool) (hw : r.body.write? = some w)
    (hl : ordLater r.ord (s.ordOf r.line) = false) (he : s.trk.entries.cells = []) : s.applyRec r = some s := by
  simp [State.applyRec, hw, hl, s.ownApplied_no_entries _ _ he]

theorem State.applyRec_ahead (s : State) (r : LineRec) (d : Line) (k : Mask) (p : Bool) (hw : r.body.write? = some (d, k, p))
    (hl : ordLater r.ord (s.ordOf r.line) = true) (hs : s.writable r.line = true) (hk : k ≠ Mask.full) (hn : r.ord ≠ s.ordOf r.line + 1) :
    s.applyRec r = some { s with pair := { s.pair with early := s.pair.early ++ [r] } } := by
  have turn : (decide (k = Mask.full) || r.ord == s.ordOf r.line + 1) = false :=
    Bool.or_eq_false_iff.mpr ⟨decide_eq_false hk, beq_eq_false_iff_ne.mpr hn⟩
  simp only [State.applyRec, hw, hl, hs, turn, Bool.not_true, Bool.false_eq_true, if_false]

theorem State.noteApplied_early (s : State) (line : Nat) : (s.noteApplied line).pair.early = s.pair.early := by
  have leaf : (s.noteLeaf line).pair = s.pair := by simp
  rw [← leaf]
  unfold State.noteApplied State.noteEpoch
  dsimp only
  split <;> rfl

theorem State.putLine_early (s u : State) (line : Nat) (d : Line) (m : Mask) (poison : Bool) (cause : Nat)
    (h : s.putLine line d m poison cause = some u) : u.pair.early = s.pair.early := by
  obtain ⟨v, hv, rfl⟩ := Option.map_eq_some_iff.mp h
  have pair : v.pair = s.pair := by simp [State.applyLine_frame _ _ _ _ _ _ _ hv]
  have early : (v.noteApplied line).pair.early = s.pair.early := by rw [State.noteApplied_early, pair]
  dsimp only
  split
  · simpa using early
  · exact early

theorem State.ordOf_setOrd (s : State) (line l : Nat) (n : BitVec 32) :
    (s.setOrd line n).ordOf l = if l = line then n else s.ordOf l := by
  split
  · next h => simp [State.ordOf, State.setOrd, h]
  · next h => simp [State.ordOf, State.setOrd, SMap.getD_put_other _ _ _ _ _ _ (Ne.symm h)]

/-- A record whose turn has come sets the order number of its line, and of no other. -/
theorem State.applyRec_in_turn (s : State) (r : LineRec) (d : Line) (k : Mask) (p : Bool) (hw : r.body.write? = some (d, k, p))
    (hl : ordLater r.ord (s.ordOf r.line) = true) (hs : s.writable r.line = true) (hk : k = Mask.full ∨ r.ord = s.ordOf r.line + 1)
    (hp : (s.putLine r.line d k p 7).isSome = true) (he : s.trk.entries.cells = []) (hq : s.pair.early = []) :
    ∃ u : State, s.applyRec r = some u ∧ ∀ l, u.ordOf l = if l = r.line then r.ord else s.ordOf l := by
  obtain ⟨v, hv⟩ := Option.isSome_iff_exists.mp hp
  have turn : (decide (k = Mask.full) || r.ord == s.ordOf r.line + 1) = true := by simpa using hk
  have trk : v.trk = s.trk := (State.putLine_frame _ _ _ _ _ _ _ hv).2.2.2.2.2.1
  have early : v.pair.early = [] := (State.putLine_early _ _ _ _ _ _ _ hv).trans hq
  have entries : (v.setOrd r.line r.ord).trk.entries.cells = [] := by simpa [State.setOrd, trk] using he
  have applied : s.applyRec r = some { v.setOrd r.line r.ord with pair := { v.pair with early := [] } } := by
    simp only [State.applyRec, hw, hl, hs, turn, hv, Option.map_some, Bool.not_true, Bool.false_eq_true, if_false, if_true]
    rw [State.ownApplied_no_entries _ _ _ (by exact entries), early]
    rfl
  refine ⟨_, applied, fun l => (State.ordOf_setOrd v r.line l r.ord).trans ?_⟩
  simp only [State.ordOf, trk]

theorem exec_mirror (m : TwMsg) (s : State) (hm : s.nextMsg 0x03 = some m) :
    exec .mirror s = .next (match s.applyRecs m.lines with
      | some u => ((u.applyCkpts m).msgDone.hand 0x04 0 [.tag m.tag]).pump
      | none => s.raiseRecs m) := by
  simp only [exec, execMirror, hm] <;> rfl

/-! ## Acknowledgements, intents and their data (R81, R101 to R103) -/

theorem exec_mirrorAck_data (m : TwMsg) (n : Nat) (d : Nat × List Nat) (s : State) (hm : s.nextMsg 0x04 = some m) (hr : m.recs = [.tag n])
    (hd : s.pair.dataSent.find? (fun d => d.1 == n) = some d) :
    exec .mirrorAck s = .next (State.afterData { s.msgDone with pair := { s.pair with
      intentCredit := min 131072 (s.pair.intentCredit + d.2.length), dataSent := s.pair.dataSent.erase d } }) := by
  have pair : s.msgDone.pair = s.pair := by simp
  simp only [exec, execMirrorAck, hm, hr, List.foldl_cons, List.foldl_nil, pair, hd]

theorem exec_mirrorAck_mirror (m : TwMsg) (n : Nat) (id : Nat) (e : Entry) (s : State) (hm : s.nextMsg 0x04 = some m)
    (hr : m.recs = [.tag n]) (hd : s.pair.dataSent = []) (he : s.trk.entries.cells = [(id, e)]) (ht : e.tag = some n)
    (ho : e.owed = true) (hb : e.bounded = false) (ha : e.applied = true) (hs : e.sent = true) :
    exec .mirrorAck s = .next (s.msgDone.setEntry id { e with owed := false }).afterData := by
  have pair : s.msgDone.pair = s.pair := by simp
  have trk : s.msgDone.trk = s.trk := by simp
  simp [exec, execMirrorAck, hm, hr, hd, he, ht, ho, hb, ha, hs]

theorem exec_intent (m : TwMsg) (s : State) (hm : s.nextMsg 0x05 = some m) (hc : m.ckpts = []) :
    exec .intent s = .next (State.msgDone { s with pair := { s.pair with
      intents := s.pair.intents ++ m.lines.map (fun (r : LineRec) => (r.line, r.ord)) } }) := by
  simp [exec, execIntent, hm, State.applyCkpts, hc]

theorem exec_intentData (m : TwMsg) (s : State) (hm : s.nextMsg 0x06 = some m) :
    exec .intentData s = .next (match s.applyRecs m.lines with
      | some u => (({ u with pair := { u.pair with
          intents := u.pair.intents.filter (fun i => !m.lines.any (fun r => r.line == i.1 && r.ord == i.2)) } } : State).msgDone.hand
            0x04 0 [.tag m.tag]).afterData
      | none => s.raiseRecs m) := by
  simp only [exec, execIntentData, hm] <;> rfl

theorem State.sendFrame_out (s : State) (n msn off : Nat) (last : Bool) : s.out ⊆ (s.sendFrame n msn off last).out :=
  List.subset_cons_of_subset _ (fun o ho => by simpa using ho)

theorem State.sendFrames_out (k : Nat) (s : State) (msn total : Nat) : s.out ⊆ (s.sendFrames msn total k).out := by
  induction k generalizing s with
  | zero => exact List.Subset.refl _
  | succ k ih =>
    unfold State.sendFrames
    split
    · exact List.Subset.refl _
    · exact List.Subset.trans (s.sendFrame_out _ _ _ _) (ih _)

/-- Frames follow what has been sent; nothing sent is taken back. -/
theorem State.drainN_out (k : Nat) (s : State) : s.out ⊆ (s.drainN k).out := by
  induction k generalizing s with
  | zero => exact List.Subset.refl _
  | succ k ih =>
    unfold State.drainN
    dsimp only
    (repeat' split) <;> try exact List.Subset.refl _
    next =>
      refine fun o ho => ih _ ?_
      exact State.sendFrames_out _ _ _ _ ho

theorem State.mem_out_hand (s : State) (typ tag : Nat) (recs : List TwRec) : .twMessage ⟨typ, tag, recs⟩ ∈ (s.hand typ tag recs).out :=
  State.drainN_out _ _ List.mem_cons_self

theorem State.sendOwed_effect (s : State) (n : Nat) (hn : s.pair.owed.take n ≠ []) :
    (s.sendOwed n).pair.owed = s.pair.owed.drop n ∧
      .twMessage ⟨0x06, s.twl.nextTag, (s.pair.owed.take n).map (fun o => TwRec.line o.record)⟩ ∈ (s.sendOwed n).out := by
  have sending : (s.pair.owed.take n).isEmpty = false := by simpa using hn
  simp only [State.sendOwed, sending, Bool.false_eq_true, if_false]
  constructor
  · refine (congrArg Pair.owed (foldl_pair _ (fun s o => ?_) _ _)).trans (by simp)
    exact foldl_pair _ (by exact fun _ _ => rfl) _ s
  · rw [foldl_out]
    · exact State.mem_out_hand _ _ _ _
    · intro s o
      exact foldl_out _ (by exact fun _ _ => rfl) _ s

theorem State.entry_setEntry_self (s : State) (id : Nat) (e : Entry) : (s.setEntry id e).entry id = some e :=
  SMap.find?_insert_self _ _ _

/-! ## Answers to read-assists, checkpoints (R108, R124, R190, R313, R363) -/

theorem exec_raResp_restore (m : TwMsg) (leaf n : Nat) (s : State) (hm : s.nextMsg 0x08 = some m)
    (hr : s.pair.restores.find? (fun a => a.1 == m.tag) = some (n, leaf)) :
    exec .raResp s = .next (s.msgDone.restoredLines leaf m.lines) := by
  have pair : s.msgDone.pair = s.pair := by simp
  simp only [exec, execRaResp, hm, pair, hr]

theorem exec_raResp_assist (m : TwMsg) (r : LineRec) (d : Line) (s : State) (hm : s.nextMsg 0x08 = some m)
    (hr : s.pair.restores.find? (fun a => a.1 == m.tag) = none)
    (ha : s.pair.assists.any (fun a => a.1 == m.tag) = true) (hl : m.recs = [.line r]) (hb : r.body = .full d)
    (he : s.pair.refetches = []) :
    exec .raResp s = .next ((({ s.msgDone with pair := { s.pair with
      assists := s.pair.assists.filter (fun a => a.1 != m.tag) } } : State).deliver r.line d false false).pump) := by
  have pair : s.msgDone.pair = s.pair := by simp
  simp [exec, execRaResp, hm, hr, ha, m.lines_line r hl, hb, he]

theorem State.restoredLines_effect (s : State) (leaf : Nat) (l : List LineRec) (u : Unrestored)
    (hu : s.vlt.unrestored.find? leaf = some u) :
    (s.restoredLines leaf l).vlt.unrestored.find? leaf = some { u with got := true } ∧
      (s.restoredLines leaf l).pair.restores = s.pair.restores.filter (fun a => a.2 != leaf) := by
  have vlt : ∀ t : State, (l.foldl State.restoredLine t).vlt = t.vlt := fun t => by simp
  have pair : ∀ t : State, (l.foldl State.restoredLine t).pair = t.pair := fun t => by simp
  simp only [State.restoredLines, vlt, pair, hu, SMap.find?_insert_self, and_self]

theorem State.applyCkpt_own (s : State) (k : Ckpt) (h : (match s.connOfQpn k.qpn with | some c => c.own | none => true) = true) :
    s.applyCkpt k = s := by
  unfold State.applyCkpt
  split
  · next c hc => rw [hc] at h; exact if_pos h
  · rfl

theorem State.applyCkpt_shadow (s : State) (k : Ckpt) (c : Conn) (hc : s.connOfQpn k.qpn = some c) (ho : c.own = false) :
    s.applyCkpt k = s.setConn (k.qpn % 1048576) { c with
      nakPending := false, wr := none, epsn := k.epsn, msn := k.msn, donePsn := (k.epsn + psnMod - 1) % psnMod,
      res := k.reads.map (fun r => Res.read r.1 r.2.1 r.2.2) ++ k.atomics.map (fun a => Res.atomic a.1 a.2) } := by
  rw [State.applyCkpt, hc]
  exact if_neg (by simp [ho])

end Sys2Proof.Machine
end

section
namespace Sys2Proof
open Sys2Proof.Machine

/-- Settles O57: each message is one branch of its command; what it calls is stated lemma by lemma above. -/
theorem twinWrites : Obligations.TwinWrites := by
  refine ⟨fun i c d s hi hn => ⟨s, exec_waits_for_message i c d s hi hn, rfl⟩,
    fun s r hr => ?_,
    fun m r d s hm hr hb hg => ⟨_, exec_writeFwd_full m r d s hm hr hb hg, rfl⟩,
    fun m r k x y s hm hr hb hg => ⟨_, exec_writeFwd_cmpSwap m r k x y s hm hr hb hg, rfl⟩,
    fun i s hi hg => ⟨s, exec_waits_for_grant i s hi hg, rfl⟩,
    fun m r s hm hr hg => ⟨_, exec_raReq m r s hm hr hg, rfl⟩,
    fun m r c s hm hr hc => ⟨_, exec_orderAck m r c s hm hr hc, rfl⟩,
    State.ordered_mirrored, State.ordered_overtaken,
    fun m s hm => ⟨_, exec_mirror m s hm, rfl⟩,
    fun s r d k p => s.applyRec_older r (d, k, p), State.applyRec_ahead,
    fun s r d k p hw hl hs hk hp he hq => ?_,
    fun m n d s hm hr hd => ⟨_, exec_mirrorAck_data m n d s hm hr hd, _, rfl, rfl, rfl, by simp, by simp⟩,
    fun m n id e s hm hr hd he ht ho hb ha hs =>
      ⟨_, exec_mirrorAck_mirror m n id e s hm hr hd he ht ho hb ha hs, _, rfl, State.entry_setEntry_self _ _ _, by simp, by simp⟩,
    fun m s hm hc => ⟨_, exec_intent m s hm hc, by simp, rfl, by simp, by simp, by simp⟩,
    fun m s hm => ⟨_, exec_intentData m s hm, rfl⟩,
    fun s => ⟨_, rfl, rfl⟩,
    fun s n hn => ?_,
    fun m leaf n s hm hr => ⟨_, exec_raResp_restore m leaf n s hm hr, rfl⟩,
    fun s leaf l u hu => ?_,
    fun m r d s hm hr _ ha hl hb he => ⟨_, exec_raResp_assist m r d s hm hr ha hl hb he, rfl⟩,
    fun m s hm => ⟨_, by simp only [exec, execCheckpoint, hm], rfl⟩,
    fun s k c hc ho => ⟨_, s.applyCkpt_shadow k c hc ho, rfl, rfl, rfl, rfl, rfl, ho⟩, State.applyCkpt_own⟩
  · obtain ⟨credit, applied⟩ := s.msgDone_counts r hr
    exact ⟨rfl, SMap.find?_erase_self _ _, credit, applied, by simp, by simp, by simp⟩
  · obtain ⟨u, hu, ord⟩ := s.applyRec_in_turn r d k p hw hl hs hk hp he hq
    exact ⟨u, hu, by simp [ord], fun l hne => by simp [ord, hne]⟩
  · obtain ⟨owed, out⟩ := s.sendOwed_effect n hn
    exact ⟨owed, out, by simp⟩
  · obtain ⟨unrestored, restores⟩ := s.restoredLines_effect leaf l u hu
    exact ⟨unrestored, restores, by simp⟩

end Sys2Proof
end

section
namespace Sys2Proof.Machine

/-! ## Frames at a port (R324 to R327) -/

/-- Every packet for the RDMA responder goes one way: through its ingress buffer. -/
theorem exec_rdmaPacket (i : Instr) (p : RdmaPkt) (s : State)
    (hi : i = .rdmaWritePacket p ∨ i = .rdmaReadRequest p ∨ i = .cmpSwap p ∨ i = .fetchAdd p ∨ i = .rcUnsupportedOpcode p) :
    exec i s = .next (s.netArrive p) := by
  rcases hi with rfl | rfl | rfl | rfl | rfl <;> rfl

theorem State.netArrive_down (s : State) (p : RdmaPkt) (hu : s.portUp p.eth = false) : s.netArrive p = s := by
  simp [State.netArrive, hu]

theorem State.netArrive_discards (s : State) (p : RdmaPkt) (hu : s.portUp p.eth = true) (hr : s.forResponder p.eth = false) :
    s.netArrive p = s.discard p.eth := by
  simp [State.netArrive, hu, hr]

/-- With no packet stalled, none is tried again. -/
theorem State.retryStalls_none (s : State) (h : s.net.conns.cells.all (fun c => c.2.stall.isNone) = true) : s.retryStalls = s := by
  have stalled : s.net.conns.cells.filter (fun c => c.2.stall.isSome) = [] := by
    rw [List.filter_eq_nil_iff]
    intro c hc
    simpa using List.all_eq_true.mp h c hc
  rw [State.retryStalls, stalled]
  rfl

/-- A packet that finds its ingress buffer empty and no packet stalled is taken from it at once. -/
theorem State.netRun_single (s : State) (p : RdmaPkt) (hi : s.net.ingress = [])
    (hs : s.net.conns.cells.all (fun c => c.2.stall.isNone) = true) (hb : s.heldBack 2 = false) :
    ({ s with net := { s.net with ingress := s.net.ingress ++ [p] } } : State).netRun = (s.netIn p).sendXons := by
  have unheld : ({ s with net := { s.net with ingress := [p] } } : State).heldBack 2 = false := hb
  have drained : ({ s with net := { s.net with ingress := [] } } : State) = s := by rw [← hi]
  rw [hi, List.nil_append, State.netRun, State.retryStalls_none _ (by exact hs)]
  simp only [List.length_cons, List.length_nil, State.drainIn, unheld, Bool.false_eq_true, if_false, drained]

theorem State.netArrive_taken (s : State) (p : RdmaPkt) (hu : s.portUp p.eth = true) (hr : s.forResponder p.eth = true)
    (hf : s.bufferedPort p.eth.mac p.eth.port + p.eth.bytes ≤ s.portShare p.eth.mac)
    (hx : (s.ethPort p.eth.mac p.eth.port).stopped.contains (s.prioOf p.eth) = false) (hi : s.net.ingress = [])
    (hs : s.net.conns.cells.all (fun c => c.2.stall.isNone) = true) (hb : s.heldBack 2 = false) :
    let t := ((s.bump (Ctr.E_CNT_RX_PKT (macPage p.eth.mac) p.eth.port)).netIn p).sendXons
    s.netArrive p = if t.lossless.contains (s.prioOf p.eth) then t.sendXoff p.eth.mac p.eth.port (s.prioOf p.eth) else t := by
  have fits : decide (s.portShare p.eth.mac < s.bufferedPort p.eth.mac p.eth.port + p.eth.bytes) = false := decide_eq_false (by omega)
  have run := (s.bump (Ctr.E_CNT_RX_PKT (macPage p.eth.mac) p.eth.port)).netRun_single p hi hs hb
  simp only [State.netArrive, hu, hr, fits, hx, run, Bool.not_true, Bool.and_false, Bool.false_and, Bool.false_eq_true, if_false]

theorem State.netIn_discards (s : State) (p : RdmaPkt) (h : 32 ≤ p.bth.opcode ∨ s.barredPkt p = false ∧ s.liveConn p.bth.qpn = none) :
    s.netIn p = s.discard p.eth := by
  rcases h with h | ⟨hb, hl⟩
  · simp [State.netIn, h]
  · simp [State.netIn, State.netCtx, hb, hl]

theorem State.netIn_barred (s : State) (p : RdmaPkt) (c : Conn) (ho : p.bth.opcode < 32) (hb : s.barredPkt p = true)
    (hl : s.liveConn p.bth.qpn = some c) :
    s.netIn p = (s.bump Ctr.NET_CNT_DROP).setConn (p.bth.qpn % 1048576) { c with nakPending := true } := by
  have live : (s.bump Ctr.NET_CNT_DROP).liveConn p.bth.qpn = some c := hl
  simp [State.netIn, State.netCtx, Nat.not_le.mpr ho, hb, live]

theorem State.netIn_taken (s : State) (p : RdmaPkt) (c : Conn) (ho : p.bth.opcode < 32) (hb : s.barredPkt p = false)
    (hl : s.liveConn p.bth.qpn = some c) (hc : s.net.cached.has (p.bth.qpn % 1048576) = true) (hs : c.stall = none)
    (hm : s.net.missbuf.any (fun q => q.1 == (p.bth.qpn % 1048576)) = false) :
    s.netIn p = s.takePkt (p.bth.qpn % 1048576) c p := by
  simp only [State.netIn, State.netCtx, Nat.not_le.mpr ho, hb, hl, hc, hs, hm, Bool.not_true, Option.isSome_none, Bool.or_false,
    Bool.false_eq_true, if_false]

/-! ## Frames sent (R325, R329) -/

/-- A port whose link is up and whose priority is not paused sends. -/
theorem State.sendFrameEth_free (s : State) (f : NetFrame) (hl : (s.ethPort f.mac f.port).link = true)
    (hp : (s.ethPort f.mac f.port).pausedRx.has f.prio = false) :
    s.sendFrameEth f = (s.emit (.frame f)).bump (Ctr.E_CNT_TX_PKT (macPage f.mac) f.port) := by
  simp [State.sendFrameEth, hl, hp]

theorem State.conn_setConn_self (s : State) (slot : Nat) (c : Conn) : (s.setConn slot c).conn slot = some c :=
  SMap.find?_insert_self _ _ _

/-! ## The checks of a request (R341 to R345, R353 to R356) -/

/-- A packet of another partition is counted, and its context is looked up; nothing else. -/
theorem State.takePkt_otherKey (s : State) (p : RdmaPkt) (slot : Nat) (c : Conn) (hr : c.routed = true)
    (hk : p.bth.tver ≠ 0 ∨ p.bth.pkey ≠ c.pkey) :
    s.takePkt slot c p = (State.setConn { s with net := { s.net with
      cached := s.net.cached.insert slot s.net.useTick, useTick := s.net.useTick + 1 } } slot c).bump Ctr.NET_CNT_PKEY := by
  simp only [State.takePkt, hr, if_true]
  exact if_pos (by simpa using hk)

/-- A packet ahead of the PSN expected draws one NAK 0x60. -/
theorem State.takePkt_ahead (s : State) (p : RdmaPkt) (slot : Nat) (c : Conn) (hr : c.routed = true) (ht : p.bth.tver = 0)
    (hk : p.bth.pkey = c.pkey) (he : p.eth.ecn ≠ 3) (hn : c.nakPending = false) (h0 : 0 < (p.bth.psn + psnMod - c.epsn) % psnMod)
    (h1 : (p.bth.psn + psnMod - c.epsn) % psnMod < 8388608) (hl : (s.ethPort c.route.mac c.route.port).link = true)
    (hp : (s.ethPort c.route.mac c.route.port).pausedRx.has c.route.prio = false) :
    s.takePkt slot c p = ((((State.setConn { s with net := { s.net with
      cached := s.net.cached.insert slot s.net.useTick, useTick := s.net.useTick + 1 } } slot c).emit
        (.frame (c.frame (.nak c.reqQpn 0x60 ((c.epsn + psnMod - 1) % psnMod) c.msn)))).bump
          (Ctr.E_CNT_TX_PKT (macPage c.route.mac) c.route.port)).setConn slot { c with nakPending := true }).bump Ctr.NET_CNT_NAK_SEQ := by
  have own : (decide (p.bth.tver ≠ 0) || decide (p.bth.pkey ≠ c.pkey)) = false := by simp [ht, hk]
  have uncongested : ∀ t : State, t.cnp slot c p = (t, c) := fun t => by simp [State.cnp, he]
  simp only [State.takePkt, hr, if_true, own, Bool.false_eq_true, if_false, uncongested, Nat.ne_of_gt h0, h1, hn]
  rw [State.sendFrameEth_free _ _ hl hp]
  rfl

theorem State.ctr_setConn (s : State) (slot a : Nat) (c : Conn) : (s.setConn slot c).ctr a = s.ctr a := rfl

/-- A counter of the transport is none of a port. -/
theorem State.ctr_bump_txPkt (s : State) (a mac port : Nat) (ha : a < 0x180000) :
    (s.bump (Ctr.E_CNT_TX_PKT (macPage mac) port)).ctr a = s.ctr a :=
  State.ctr_bump_other _ _ _ (by simp only [Ctr.E_CNT_TX_PKT, macPage]; omega)

theorem State.checkPkt_order (s : State) (p : RdmaPkt) (slot : Nat) (c : Conn) (dup : Bool) (h5 : c.step5 p dup = false) :
    s.checkPkt slot c p dup = s.nakError slot c 0x61 p.bth.psn := by
  simp [State.checkPkt, h5]

theorem State.checkPkt_access (s : State) (p : RdmaPkt) (slot : Nat) (c : Conn) (dup : Bool) (syn : Nat) (h5 : c.step5 p dup = true)
    (ha : s.access69 c p = some syn) : s.checkPkt slot c p dup = s.nakError slot c syn p.bth.psn := by
  simp [State.checkPkt, h5, ha]

theorem State.nakError_conn (s : State) (slot : Nat) (c : Conn) (syn psn : Nat) : (s.nakError slot c syn psn).conn slot =
    some { c with error := true, res := [], wr := none, ops := c.ops.map NetOp.abandon } := by
  unfold State.nakError
  dsimp only
  (repeat' split) <;> exact State.conn_setConn_self _ _ _

/-- Steps 6 to 9 of R341: an access of no byte passes; any other needs a pool address here, a key or grant with the right and the range, one
region, and an aligned atomic. -/
theorem State.access69_none_iff (s : State) (p : RdmaPkt) (c : Conn) (rkey va len right : Nat) (h : c.access p = (rkey, va, len, right)) :
    s.access69 c p = none ↔ (len = 0 ∨ s.poolHere va = true ∧ (∃ ks k, s.keyEntries c rkey = some ks ∧ k ∈ ks ∧ k.rights / 2 ^ right % 2 = 1 ∧
      k.base ≤ va % 2 ^ 44 ∧ va % 2 ^ 44 + len ≤ k.base + k.len) ∧ (s.oneRegion (va % 2 ^ 44) len).isSome = true ∧
      (right = 2 → va % 2 ^ 44 % 8 = 0)) := by
  simp only [State.access69, h]
  generalize va % 2 ^ 44 = dev
  by_cases h0 : len = 0
  · simp [h0]
  cases hp : s.poolHere va with
  | false => simp [h0]
  | true =>
    cases hk : s.keyEntries c rkey with
    | none => simp [h0]
    | some ks =>
      have granted : (∃ ks' k, some ks = some ks' ∧ k ∈ ks' ∧ k.rights / 2 ^ right % 2 = 1 ∧ k.base ≤ dev ∧ dev + len ≤ k.base + k.len) ↔
          ks.any (fun k => k.rights / 2 ^ right % 2 == 1 && decide (k.base ≤ dev) && decide (dev + len ≤ k.base + k.len)) = true := by
        simp [and_assoc]
      rw [granted]
      simp only [h0, if_false, Bool.not_true, Bool.false_eq_true, false_or, true_and]
      split
      · next hg => exact ⟨nofun, fun ⟨hk, _⟩ => by simp [hk] at hg⟩
      · next hg =>
        have found := by simpa only [Bool.not_eq_true', Bool.not_eq_false] using hg
        cases s.oneRegion dev len <;> simp [found]

/-- Asking for the data of a packet counts restores asked for, no stall. -/
theorem State.raiseData_ctr_stall (s : State) (c : Conn) (p : RdmaPkt) :
    (s.raiseData c p).ctr Ctr.NET_CNT_STALL = s.ctr Ctr.NET_CNT_STALL := by
  have one : ∀ (t : State) (leaf : Nat), (t.onDemand leaf).ctr Ctr.NET_CNT_STALL = t.ctr Ctr.NET_CNT_STALL := by
    intro t leaf
    unfold State.onDemand
    (repeat' split) <;> try rfl
    exact State.ctr_bump_other _ _ _ (by decide)
  have all : ∀ (l : List Nat) (t : State), (l.foldl State.onDemand t).ctr Ctr.NET_CNT_STALL = t.ctr Ctr.NET_CNT_STALL := by
    intro l
    induction l with
    | nil => exact fun _ => rfl
    | cons leaf l ih => exact fun t => (ih _).trans (one t leaf)
  exact all _ s

theorem State.checkPkt_stalls (s : State) (p : RdmaPkt) (slot : Nat) (c : Conn) (dup : Bool) (h5 : c.step5 p dup = true)
    (ha : s.access69 c p = none) (hn : s.nonResident c p = true)
    (hd : ∀ i r, s.oneRegion ((c.access p).2.1 % 2 ^ 44) (c.access p).2.2.1 = some (i, r) → r.drop = false) :
    s.checkPkt slot c p dup = ((s.raiseData c p).epochEnter.setConn slot { c with stall := some (p, s.now, some s.net.epoch) }).bump
      Ctr.NET_CNT_STALL := by
  have addr : (s.raiseData c p).addr = s.addr := by simp
  have now : (s.raiseData c p).now = s.now := by simp [State.now]
  have net : (s.raiseData c p).net = s.net := by simp
  have region : ∀ dev len, (s.raiseData c p).oneRegion dev len = s.oneRegion dev len := by
    intro dev len
    simp only [State.oneRegion, State.regionOf, addr]
  simp only [State.checkPkt, h5, ha, hn, region, now, net, Bool.not_true, Bool.false_eq_true, if_false, if_true]
  cases hr : s.oneRegion ((c.access p).2.1 % 2 ^ 44) (c.access p).2.2.1 with
  | none => rfl
  | some ir => simp only [hd ir.1 ir.2 hr, Bool.false_eq_true, if_false]

theorem State.dropPkts_eq (s : State) (slot : Nat) (c : Conn) : s.dropPkts slot c =
    State.bumpBy { s.setConn slot { c with nakPending := true } with net := { (s.setConn slot { c with nakPending := true }).net with
      missbuf := s.net.missbuf.filter (fun q => q.1 != slot) } } Ctr.NET_CNT_DROP ((s.net.missbuf.filter (fun q => q.1 == slot)).length + 1) := by
  simp only [State.dropPkts, State.dropWaiting, List.partition_eq_filter_filter]
  rfl

/-! ## The bytes a packet writes (R349) -/

theorem bytesVal_testBit (l : List Byte) (k b : Nat) (hb : b < 8) : (bytesVal l).testBit (8 * k + b) = (l.getD k 0).getLsbD b := by
  induction l generalizing k with
  | nil => simp [bytesVal]
  | cons x l ih =>
    have value : bytesVal (x :: l) = 2 ^ 8 * bytesVal l + x.toNat := by simp only [bytesVal]; omega
    rw [value, Nat.testBit_two_pow_mul_add _ x.isLt]
    cases k with
    | zero => simp [hb, BitVec.getLsbD]
    | succ k =>
      rw [if_neg (by omega), show 8 * (k + 1) + b - 8 = 8 * k + b by omega, ih k]
      rfl

theorem lineBytes_mask (addr line : Nat) (pl : List Byte) (j : Nat) (hj : j < 64) :
    (lineBytes addr pl line).2.getLsbD j = true ↔ addr ≤ 64 * line + j ∧ 64 * line + j < addr + pl.length := by
  simp only [lineBytes, BitVec.getLsbD_ofNat, Nat.testBit_mul_two_pow, Nat.testBit_two_pow_sub_one, Bool.and_eq_true, decide_eq_true_eq]
  omega

theorem lineBytes_data (addr line : Nat) (pl : List Byte) (j : Nat) (hj : j < 64) (ha : addr ≤ 64 * line + j)
    (hl : 64 * line + j < addr + pl.length) :
    some ((lineBytes addr pl line).1.extractLsb' (8 * j) 8) = pl[64 * line + j - addr]? := by
  rw [List.getElem?_eq_getElem (by omega)]
  refine congrArg some (BitVec.eq_of_getLsbD_eq fun b hb => ?_)
  have place : 8 * j + b - 8 * (max addr (64 * line) - 64 * line) = 8 * (j - (max addr (64 * line) - 64 * line)) + b := by omega
  have above : 8 * (max addr (64 * line) - 64 * line) ≤ 8 * j + b := by omega
  have inLine : 8 * j + b < 512 := by omega
  simp only [lineBytes, BitVec.getLsbD_extractLsb', BitVec.getLsbD_ofNat, Nat.testBit_mul_two_pow, place, bytesVal_testBit _ _ _ hb, hb, above,
    inLine, decide_true, Bool.true_and]
  rw [List.getD_eq_getElem?_getD, List.getElem?_take_of_lt (by omega), List.getElem?_drop,
    show max addr (64 * line) - addr + (j - (max addr (64 * line) - 64 * line)) = 64 * line + j - addr by omega,
    List.getElem?_eq_getElem (by omega)]
  rfl

end Sys2Proof.Machine
end

section
namespace Sys2Proof.Machine

/-! ## Acceptance (R338, R349, R351) -/

/-- The state in which an accepted packet's operation is stored: its serial is used up. -/
def State.serialTaken (s : State) : State := { s with net := { s.net with nextSerial := s.net.nextSerial + 1 } }

/-- An accepted WRITE writes its payload bytes, line by line. -/
theorem State.acceptPkt_write (s : State) (p : RdmaPkt) (slot : Nat) (c : Conn) (ep : Option Nat) (reth : Option Reth) (pl : List Byte)
    (rkey va len right : Nat) (hb : p.body = .write reth pl) (ha : c.access p = (rkey, va, len, right)) :
    ∃ c' : Conn, s.acceptPkt slot c p false ep = ((List.range (linesSpan (va % 2 ^ 44) pl.length)).foldl (fun (u : State) k =>
        u.submit ⟨2, va % 2 ^ 44 / 64 + k, .write (lineBytes (va % 2 ^ 44) pl (va % 2 ^ 44 / 64 + k)).1
          (lineBytes (va % 2 ^ 44) pl (va % 2 ^ 44 / 64 + k)).2 false, .rdma slot s.net.nextSerial k, false⟩)
        (s.serialTaken.setConn slot c')).connRun slot ∧
      c'.epsn = (c.epsn + 1) % psnMod ∧ c'.wr.isNone = (p.bth.opcode == 8 || p.bth.opcode == 10) ∧ c'.ops.length = c.ops.length + 1 ∧
      c'.route = s.routeOf p.eth := by
  simp only [State.acceptPkt, ha, hb, Bool.false_eq_true, if_false]
  refine ⟨_, rfl, rfl, ?_, List.length_append, rfl⟩
  dsimp only
  split <;> simp [*]

/-- An accepted READ takes its PSNs and a responder resource. -/
theorem State.acceptPkt_read (s : State) (p : RdmaPkt) (slot : Nat) (c : Conn) (ep : Option Nat) (r : Reth) (hb : p.body = .read r) :
    ∃ c' : Conn, s.acceptPkt slot c p false ep = ((s.serialTaken.setConn slot c').connRun slot).pump ∧
      c'.epsn = (c.epsn + readPkts c.mtu r.len) % psnMod ∧ c'.res = c.takeRes (.read p.bth.psn r.len r.va) ∧
      c'.ops.length = c.ops.length + 1 ∧ c'.route = s.routeOf p.eth := by
  simp only [State.acceptPkt, Conn.access, hb, Bool.false_eq_true, if_false]
  exact ⟨_, rfl, rfl, rfl, List.length_append, rfl⟩

/-- An accepted CMP_SWAP acts on its 8-byte word. -/
theorem State.acceptPkt_cmpSwap (s : State) (p : RdmaPkt) (slot : Nat) (c : Conn) (ep : Option Nat) (va k : Nat) (x y : BitVec 64)
    (hb : p.body = .cmpSwap va k x y) :
    ∃ c' : Conn, s.acceptPkt slot c p false ep = (s.serialTaken.setConn slot c').submit
        ⟨2, va % 2 ^ 44 / 64, .cmpSwap (va % 2 ^ 44 / 8 % 8) x y, .rdma slot s.net.nextSerial 0, false⟩ ∧
      c'.epsn = (c.epsn + 1) % psnMod ∧ c'.res = c.takeRes (.atomic p.bth.psn 0) ∧ c'.ops.length = c.ops.length + 1 := by
  simp only [State.acceptPkt, Conn.access, hb, Bool.false_eq_true, if_false]
  exact ⟨_, rfl, rfl, rfl, List.length_append⟩

/-- An accepted FETCH_ADD acts on its 8-byte word. -/
theorem State.acceptPkt_fetchAdd (s : State) (p : RdmaPkt) (slot : Nat) (c : Conn) (ep : Option Nat) (va k : Nat) (x : BitVec 64)
    (hb : p.body = .fetchAdd va k x) :
    ∃ c' : Conn, s.acceptPkt slot c p false ep = (s.serialTaken.setConn slot c').submit
        ⟨2, va % 2 ^ 44 / 64, .fetchAdd (va % 2 ^ 44 / 8 % 8) x, .rdma slot s.net.nextSerial 0, false⟩ ∧
      c'.epsn = (c.epsn + 1) % psnMod ∧ c'.res = c.takeRes (.atomic p.bth.psn 0) ∧ c'.ops.length = c.ops.length + 1 := by
  simp only [State.acceptPkt, Conn.access, hb, Bool.false_eq_true, if_false]
  exact ⟨_, rfl, rfl, rfl, List.length_append⟩

/-! ## Entries freed (R63, R65) -/

theorem State.entryFreed_drops (s : State) (id : Nat) (e : Entry) (he : s.entry id = some e) (hs : e.sent = true) (ho : e.owed = false)
    (hw : s.trk.waiting = []) (hd : ∀ tag, e.dst ≠ .command tag) : s.entryFreed id = s.dropEntry id := by
  have granted : (s.dropEntry id).grantWaiting = (s.dropEntry id, []) := by
    rw [State.grantWaiting, show (s.dropEntry id).trk.waiting = [] from hw]
    rfl
  simp only [State.entryFreed, he, hs, ho, Bool.not_true, Bool.or_false, Bool.false_eq_true, if_false, granted, List.foldl_nil]

theorem State.entryFreed_keeps (s : State) (id : Nat) (e : Entry) (he : s.entry id = some e) (h : e.sent = false ∨ e.owed = true) :
    s.entryFreed id = s := by
  simp only [State.entryFreed, he]
  exact if_pos (by rcases h with h | h <;> simp [h])

theorem State.entry_dropEntry_self (s : State) (id : Nat) : (s.dropEntry id).entry id = none := SMap.find?_erase_self _ _

theorem State.entry_dropEntry_other (s : State) (id k : Nat) (h : k ≠ id) : (s.dropEntry id).entry k = s.entry k :=
  SMap.find?_erase_other _ _ _ h.symm

/-! ## Frames answered by the port itself (R324, R364, R366) -/

theorem State.portUp_link (s : State) (e : Eth) (hu : s.portUp e = true) : (s.ethPort e.mac e.port).link = true := by
  simp only [State.portUp, Bool.and_eq_true] at hu
  exact hu.2

theorem exec_arpNdFrame_elsewhere (e : Eth) (target : BitVec 128) (s : State) (hu : s.portUp e = true) (hf : e.fcsGood = true)
    (ha : s.addressHere e.mac e.port target = false) :
    exec (.arpNdFrame e target) s = .next (s.emit (.toFirmware e.mac e.port 0)) := by
  have here : (s.toFirmware e 0).addressHere e.mac e.port target = false := ha
  simp only [exec, execArpNdFrame, hu, hf, here, Bool.not_true, Bool.or_false, Bool.false_eq_true, if_false]
  rfl

/-- The answer of a port to an ARP or neighbour discovery for one of its addresses. -/
def State.arpReply (s : State) (e : Eth) (target : BitVec 128) : NetFrame :=
  { mac := e.mac, port := e.port, prio := s.prioOf e, dstMac := e.srcMac, vlan := e.vlan, dscp := e.dscp, dstIp := e.srcIp, udpSrc := 0,
    what := .arpReply target }

theorem exec_arpNdFrame_here (e : Eth) (target : BitVec 128) (s : State) (hu : s.portUp e = true) (hf : e.fcsGood = true)
    (ha : s.addressHere e.mac e.port target = true) (hp : (s.ethPort e.mac e.port).pausedRx.has (s.prioOf e) = false) :
    exec (.arpNdFrame e target) s = .next (((s.emit (.toFirmware e.mac e.port 0)).emit (.frame (s.arpReply e target))).bump
      (Ctr.E_CNT_TX_PKT (macPage e.mac) e.port)) := by
  have here : (s.toFirmware e 0).addressHere e.mac e.port target = true := ha
  simp only [exec, execArpNdFrame, hu, hf, here, Bool.not_true, Bool.or_false, Bool.false_eq_true, if_false, if_true]
  exact congrArg _ (State.sendFrameEth_free (s.toFirmware e 0) (s.arpReply e target) (s.portUp_link e hu) hp)

/-- The answer to a probe of the pair. -/
def State.probeReply (s : State) (e : Eth) (seq : BitVec 64) : NetFrame :=
  { mac := e.mac, port := e.port, prio := s.prioOf e, dstMac := e.srcMac, vlan := e.vlan, dscp := e.dscp, dstIp := e.srcIp, udpSrc := e.udpDst,
    what := .probeReply s.pairId s.ctrlId seq }

theorem exec_probePacket_returned (e : Eth) (ctrlId : Nat) (seq : BitVec 64) (s : State) (hc : s.pwr.core = true)
    (hm : s.mode.mode ≠ .standby) (hl : (s.ethPort e.mac e.port).link = true)
    (ho : (e.fcsGood && e.dstMacOwn && (s.ethPort e.mac e.port).addrs.any (fun a => a.ip == e.dstIp && !a.twin) &&
      (e.udpDst == (if s.fld Reg.NET_PROBE Fld.NET_PROBE_PORT = 4791 then 4793 else s.fld Reg.NET_PROBE Fld.NET_PROBE_PORT))) = true)
    (hp : (s.ethPort e.mac e.port).pausedRx.has (s.prioOf e) = false) :
    exec (.probePacket e s.pairId ctrlId seq) s = .next ((s.emit (.frame (s.probeReply e seq))).bump
      (Ctr.E_CNT_TX_PKT (macPage e.mac) e.port)) := by
  have running : (s.mode.mode == Mode.standby) = false := by simpa using hm
  simp only [exec, execProbePacket, hc, running, hl, ho, Bool.not_true, Bool.or_false, Bool.false_eq_true, if_false, ne_eq, not_true_eq_false]
  exact congrArg _ (State.sendFrameEth_free s (s.probeReply e seq) hl hp)

theorem exec_probePacket_off (e : Eth) (pairId ctrlId : Nat) (seq : BitVec 64) (s : State)
    (h : s.pwr.core = false ∨ s.mode.mode = .standby ∨ (s.ethPort e.mac e.port).link = false) :
    exec (.probePacket e pairId ctrlId seq) s = .next s := by
  have off : (!s.pwr.core || s.mode.mode == .standby || !(s.ethPort e.mac e.port).link) = true := by
    rcases h with h | h | h <;> simp [h]
  exact congrArg _ (if_pos off)

/-! ## The clause on the access check -/

/-- The clause on the access check, bracketed as it is written: `→` binds tighter than `↔`, so the clause also speaks of tuples that the packet
does not access. `State.access69_none_iff` is the clause as its words have it. -/
def AccessCheckAsWritten : Prop :=
  ∀ (s : State) (p : RdmaPkt) (c : Conn) (rkey va len right : Nat),
    (c.access p = (rkey, va, len, right) → s.access69 c p = none) ↔
      (len = 0 ∨ s.poolHere va = true ∧ (∃ ks k, s.keyEntries c rkey = some ks ∧ k ∈ ks ∧ k.rights / 2 ^ right % 2 = 1 ∧
        k.base ≤ va % 2 ^ 44 ∧ va % 2 ^ 44 + len ≤ k.base + k.len) ∧ (s.oneRegion (va % 2 ^ 44) len).isSome = true ∧
        (right = 2 → va % 2 ^ 44 % 8 = 0))

/-- A connection without operations. -/
def idleConn : Conn :=
  { own := true, qpn := 8388608, reqQpn := 1, pkey := 0xFFFF, mtu := 1024, udpSrc := 49152, domain := 0, respRes := 16, epsn := 5, msn := 0,
    nakPending := false, rts := true, ready := true, error := false, closing := false, wr := none, route := {}, res := [], ops := [],
    ackCount := 0, ackSince := 0, donePsn := 4, cnpAt := none, stall := none, routed := true, usedBy := [], twinWait := false,
    drepOwed := false }

/-- A READ of the 64 bytes at address 0. -/
def readAtZero : RdmaPkt :=
  { eth := { mac := 0, port := 0, pcp := 0, dscp := 0, ecn := 0, vlan := 0, srcMac := 1, srcIp := 1, dstIp := 2, dstMacOwn := true,
             fcsGood := true, icrcGood := true, udpSrc := 49152, udpDst := 4791, bytes := 128 },
    bth := { opcode := 0x0C, tver := 0, pkey := 0xFFFF, qpn := 8388608, psn := 5, ackReq := false },
    body := .read ⟨0, 256, 64⟩ }

/-- The READ at address 0 does not access address 2^44, no pool address: of that tuple the clause's left side is true, its right side false. -/
theorem not_accessCheckAsWritten : ¬ AccessCheckAsWritten := by
  intro clause
  have elsewhere : idleConn.access readAtZero ≠ (256, 2 ^ 44, 64, 0) := by decide
  have outside : State.poolHere {} (2 ^ 44) = false := by simp [State.poolHere]
  have passes := (clause {} readAtZero idleConn 256 (2 ^ 44) 64 0).mp fun h => absurd h elsewhere
  rw [outside] at passes
  simp at passes

end Sys2Proof.Machine
end

section
namespace Sys2Proof
open Sys2Proof.Machine

/-- Of the clauses of O52 the one on the access check alone is in doubt: a frame is taken, judged by the steps of R341 in their order, and
executed, each as stated lemma by lemma above. -/
theorem rdmaPackets_iff_accessCheckAsWritten : Obligations.RdmaPackets ↔ AccessCheckAsWritten := by
  refine ⟨fun ⟨_, _, _, _, _, _, _, _, _, _, access, _⟩ => access, fun access => ?_⟩
  refine ⟨fun i p s hi hu => ⟨_, exec_rdmaPacket i p s hi, s.netArrive_down p hu⟩,
    fun i p s hi hu hr => ⟨_, exec_rdmaPacket i p s hi, s.netArrive_discards p hu hr⟩,
    fun i p s hi hu hr hf hx hn hs hb => ⟨_, exec_rdmaPacket i p s hi, s.netArrive_taken p hu hr hf hx hn hs hb⟩,
    State.netIn_discards, State.netIn_barred, State.netIn_taken,
    fun s p slot c hr hk => ?_,
    fun s p slot c hr ht hk he hn h0 h1 hl hp => ?_,
    State.checkPkt_order,
    fun s p slot c dup syn h5 ha => ⟨s.checkPkt_access p slot c dup syn h5 ha, s.nakError_conn slot c syn _, by simp, by simp⟩,
    access,
    fun s p slot c dup h5 ha hn hd => ?_,
    fun s slot c => ?_,
    fun addr line pl j hj => ⟨lineBytes_mask addr line pl j hj, fun hm => ?_⟩,
    fun s p slot c ep reth pl rkey va len right hb ha => ?_,
    fun s p slot c ep r hb => ?_,
    fun s p slot c ep va k x y hb => ?_,
    fun s p slot c ep va k x hb => ?_,
    fun id e s he hs ho hw hd => ⟨_, rfl, ?_, s.entry_dropEntry_self id, fun k => s.entry_dropEntry_other id k⟩,
    fun id e s he h => ⟨_, rfl, congrArg State.netRun (s.entryFreed_keeps id e he h)⟩,
    fun e why s hu => ⟨_, rfl, if_pos hu⟩,
    fun e why s hu => ⟨_, rfl, if_neg (by simp [hu])⟩,
    fun e target s hu hf ha => ⟨_, exec_arpNdFrame_elsewhere e target s hu hf ha, rfl⟩,
    fun e target s hu hf ha hp => ⟨_, exec_arpNdFrame_here e target s hu hf ha hp, ⟨s.arpReply e target, rfl, rfl, rfl, rfl, rfl, rfl⟩, rfl, rfl⟩,
    fun e pairId ctrlId seq s hc hm hl ho hi hp => ?_,
    fun e pairId ctrlId seq s h => ⟨_, exec_probePacket_off e pairId ctrlId seq s h, rfl⟩⟩
  · rw [s.takePkt_otherKey p slot c hr hk]
    exact ⟨State.ctr_bump_self _ _, State.conn_setConn_self _ _ _, rfl, rfl⟩
  · rw [s.takePkt_ahead p slot c hr ht hk he hn h0 h1 hl hp]
    refine ⟨rfl, State.conn_setConn_self _ _ _, (State.ctr_bump_self _ _).trans (congrArg (· + 1) ?_), rfl, rfl⟩
    rw [State.ctr_setConn, State.ctr_bump_txPkt _ _ _ _ (by decide)]
    rfl
  · rw [s.checkPkt_stalls p slot c dup h5 ha hn (fun i r h => by rwa [h] at hd)]
    refine ⟨State.conn_setConn_self _ _ _, (State.ctr_bump_self _ _).trans (congrArg (· + 1) (s.raiseData_ctr_stall c p)), ?_, ?_⟩
    · have net : (s.raiseData c p).net = s.net := by simp
      exact congrArg (fun n : Net => n.counts.set n.epoch (n.counts.getD n.epoch 0 + 1)) net
    · simp
  · rw [s.dropPkts_eq slot c]
    exact ⟨State.conn_setConn_self _ _ _, rfl, State.ctr_bumpBy_self _ _ _⟩
  · obtain ⟨ha, hl⟩ := (lineBytes_mask addr line pl j hj).mp hm
    exact lineBytes_data addr line pl j hj ha hl
  · obtain ⟨c', hc, epsn, wr, ops, route⟩ := s.acceptPkt_write p slot c ep reth pl rkey va len right hb ha
    exact ⟨c', _, hc, epsn, wr, ops, route, rfl, rfl, rfl⟩
  · obtain ⟨c', hc, epsn, res, ops, route⟩ := s.acceptPkt_read p slot c ep r hb
    exact ⟨c', _, hc, epsn, res, ops, route, rfl, rfl, rfl⟩
  · obtain ⟨c', hc, epsn, res, ops⟩ := s.acceptPkt_cmpSwap p slot c ep va k x y hb
    exact ⟨c', _, hc, epsn, res, ops, rfl, rfl, rfl⟩
  · obtain ⟨c', hc, epsn, res, ops⟩ := s.acceptPkt_fetchAdd p slot c ep va k x hb
    exact ⟨c', _, hc, epsn, res, ops, rfl, rfl, rfl⟩
  · exact congrArg State.netRun (s.entryFreed_drops id e he hs ho hw (fun tag h => by simp [h] at hd))
  · subst hi
    exact ⟨_, exec_probePacket_returned e ctrlId seq s hc hm hl ho hp, ⟨s.probeReply e seq, rfl, rfl, rfl, rfl, rfl⟩, rfl, rfl⟩

/-- Refutes O52: by its brackets the clause on the access check also speaks of tuples that the packet does not access, as (rkey 256, address
2^44, 64 bytes) beside a READ at address 0. -/
theorem not_rdmaPackets : ¬ Obligations.RdmaPackets :=
  fun h => not_accessCheckAsWritten (rdmaPackets_iff_accessCheckAsWritten.mp h)

end Sys2Proof
end

section
namespace Sys2Proof.Machine

/-! ## Whose copy of an extent is kept (R123) -/

theorem State.winner_later (s : State) (own tw : ExtPair) (h0 : 0 < (own.epoch + 65536 - tw.epoch) % 65536)
    (h : (own.epoch + 65536 - tw.epoch) % 65536 < 32768) : s.winner own tw = (some true, false) := by
  simp only [State.winner, if_neg (Nat.ne_of_gt h0), if_neg (Nat.ne_of_lt h), h, decide_true]

theorem State.winner_earlier (s : State) (own tw : ExtPair) (h : 32768 < (own.epoch + 65536 - tw.epoch) % 65536) :
    s.winner own tw = (some false, false) := by
  have nonzero : (own.epoch + 65536 - tw.epoch) % 65536 ≠ 0 := Nat.ne_of_gt (Nat.zero_lt_of_lt h)
  simp only [State.winner, if_neg nonzero, if_neg (Nat.ne_of_gt h), Nat.not_lt.mpr (Nat.le_of_lt h), decide_false]

theorem State.winner_equal (s : State) (own tw : ExtPair) (h : (own.epoch + 65536 - tw.epoch) % 65536 = 0)
    (hr : (own.rd && tw.rd) = false) (hs : (own.st && tw.st) = false) :
    s.winner own tw = (if own.st then (some false, false) else if tw.st then (some true, false) else (none, false)) := by
  simp only [State.winner, h, hr, hs, if_true, Bool.false_eq_true, if_false]

/-- Where neither the epochs nor the marks decide, the bow loses its copy, and a record names the extent. -/
theorem State.winner_tie (s : State) (own tw : ExtPair) (h : (own.epoch + 65536 - tw.epoch) % 65536 = 32768 ∨
      (own.epoch + 65536 - tw.epoch) % 65536 = 0 ∧ ((own.rd && tw.rd) = true ∨ (own.st && tw.st) = true)) :
    s.winner own tw = (some (!s.isBow), true) := by
  rcases h with h | ⟨h, hr | hs⟩
  · simp only [State.winner, h]; rfl
  · simp only [State.winner, h, hr, if_true]
  · simp only [State.winner, h, hs, if_true, ite_self]

/-! ## The winning side's copies (R126, R127) -/

theorem exec_resyncCopySend (x i : Nat) (d : Line) (s : State) (hx : s.pair.resync.find? x = some true) (hl : s.linkUp = true)
    (hi : s.nextCopy x = some i) (hu : s.unrestored (leafOf (x * extentLines + i)) = false)
    (hd : s.lineNow (x * extentLines + i) = some (.data d)) :
    exec (.resyncCopySend x) s = .next { s.handNew 0x0A [.line ⟨x * extentLines + i, s.ordOf (x * extentLines + i),
        s.pair.resyncEpoch.getD x 0, .full d⟩] with
      pair := { s.pair with resyncAt := s.pair.resyncAt.insert x (i + 1), resyncLines := s.pair.resyncLines + 1 } } := by
  simp [exec, execResyncCopySend, hx, hl, hi, hu, hd]

theorem exec_resyncCopySend_idle (x : Nat) (s : State)
    (h : s.pair.resync.find? x ≠ some true ∨ s.linkUp = false ∨ s.nextCopy x = none) : exec (.resyncCopySend x) s = .next s := by
  refine congrArg Host.Outcome.next ?_
  rcases h with h | h | h
  · exact if_pos (by rw [bne_iff_ne.mpr h, Bool.true_or])
  · exact if_pos (by rw [h, Bool.not_false, Bool.or_true])
  · split
    · rfl
    · rw [h]

theorem exec_resyncExtentDone (x : Nat) (s : State) (hx : s.pair.resync.find? x = some true) (hi : s.nextCopy x = none)
    (hl : s.linkUp = true) :
    exec (.resyncExtentDone x) s =
      .next ((((s.hand 0x0B 0 [.resync (.ended [x])]).extentEnds x).resyncFalls.handBack).pump).attrTry := by
  simp [exec, execResyncExtentDone, hx, hi, hl]

theorem exec_resyncExtentDone_idle (x : Nat) (s : State)
    (h : s.pair.resync.find? x ≠ some true ∨ (s.nextCopy x).isSome = true ∨ s.linkUp = false) :
    exec (.resyncExtentDone x) s = .next s := by
  rcases h with h | h | h <;> simp [exec, execResyncExtentDone, h]

/-! ## The losing side's copies (R126) -/

/-- A copied line has been dealt with: the cursor of its extent is past it, and it counts. -/
def State.noteCopy (s : State) (line : Nat) : State :=
  { s with pair := { s.pair with resyncAt := s.pair.resyncAt.insert (extentOf line) (line % extentLines + 1),
                                 resyncLines := s.pair.resyncLines + 1 } }

/-- A newer write of the line has been: its copy only counts. -/
theorem exec_resyncCopy_newer (m : TwMsg) (r : LineRec) (s : State) (hm : s.nextMsg 0x0A = some m) (hr : m.recs = [.line r])
    (hn : ordLater (s.ordOf r.line) r.ord = true) : exec .resyncCopy s = .next (s.noteCopy r.line).msgDone.pump := by
  simp [exec, execResyncCopy, hm, m.lines_line r hr, hn, State.noteCopy]

theorem exec_resyncCopy_applied (m : TwMsg) (r : LineRec) (d : Line) (u s : State) (hm : s.nextMsg 0x0A = some m)
    (hr : m.recs = [.line r]) (hn : ordLater (s.ordOf r.line) r.ord = false) (hb : r.body = .full d) (hw : s.writable r.line = true)
    (hu : s.putLine r.line d Mask.full false 7 = some u) :
    exec .resyncCopy s = .next ((u.setOrd r.line r.ord).noteCopy r.line).msgDone.pump := by
  have body : r.body.write? = some (d, Mask.full, false) := by rw [hb]; rfl
  simp [exec, execResyncCopy, hm, m.lines_line r hr, hn, body, hw, hu, State.noteCopy]

/-! ## The end of an extent's resync (R127) -/

theorem State.setExtPair_same (s : State) (x : Nat) (e : ExtPair) : (s.setExtPair x e).extPair x = e := SMap.getD_put_self _ _ _ _

theorem State.setExtPair_other (s : State) (x y : Nat) (e : ExtPair) (h : y ≠ x) : (s.setExtPair x e).extPair y = s.extPair y :=
  SMap.getD_put_other _ _ _ _ _ _ (Ne.symm h)

/-- The end of an extent's resync, but for its handover to the owner that R97 names. -/
theorem State.extentEnds_pair (s : State) (x : Nat) (w : Bool) (h : s.pair.resync.find? x = some w) : ∃ owned : SMap Bool,
    s.extentEnds x = State.bump { s with pair := { s.pair with
      ext := s.pair.ext.put s.pair.base x ⟨s.pair.resyncEpoch.getD x (s.extPair x).epoch, false, false⟩, owned := owned,
      resync := s.pair.resync.erase x, resyncAt := s.pair.resyncAt.erase x, resyncEpoch := s.pair.resyncEpoch.erase x,
      raised := s.pair.raised.erase x, resyncDone := s.pair.resyncDone + 1 } } Ctr.SYS_CNT_RESYNC_EXT := by
  simp only [State.extentEnds, h]
  split
  · exact ⟨s.pair.owned, rfl⟩
  · exact ⟨s.pair.owned.insert x w, rfl⟩

theorem State.extentEnds_effect (s : State) (x : Nat) (w : Bool) (h : s.pair.resync.find? x = some w) :
    (s.extentEnds x).pair.resync.find? x = none ∧
      (s.extentEnds x).extPair x = ⟨s.pair.resyncEpoch.getD x (s.extPair x).epoch, false, false⟩ ∧
      (∀ y, y ≠ x → (s.extentEnds x).extPair y = s.extPair y) ∧ (s.extentEnds x).pair.resyncDone = s.pair.resyncDone + 1 ∧
      (s.extentEnds x).ctr Ctr.SYS_CNT_RESYNC_EXT = s.ctr Ctr.SYS_CNT_RESYNC_EXT + 1 := by
  obtain ⟨owned, ends⟩ := s.extentEnds_pair x w h
  rw [ends]
  exact ⟨SMap.find?_erase_self _ _, s.setExtPair_same _ _, fun y hy => s.setExtPair_other x y _ hy, rfl, State.ctr_bump_self _ _⟩

/-! ## RESYNC_CTL (R123, R124, R127) -/

/-- The winning side is to copy these extents again from their start. -/
def State.restartCopies (s : State) (xs : List Nat) : State :=
  xs.foldl (fun s x => if s.pair.resync.find? x = some true then
    { s with pair := { s.pair with resyncAt := s.pair.resyncAt.erase x } } else s) s

/-- Only cursors go, and they go from each extent named whose copy wins. -/
theorem State.restartCopies_pair (xs : List Nat) (s : State) : ∃ cursors : SMap Nat,
    s.restartCopies xs = { s with pair := { s.pair with resyncAt := cursors } } ∧
      (∀ x, s.pair.resyncAt.find? x = none → cursors.find? x = none) ∧
      ∀ x ∈ xs, s.pair.resync.find? x = some true → cursors.find? x = none := by
  induction xs generalizing s with
  | nil => exact ⟨s.pair.resyncAt, rfl, fun _ h => h, by simp⟩
  | cons y xs ih =>
    by_cases hy : s.pair.resync.find? y = some true
    · obtain ⟨cursors, eq, stay, gone⟩ := ih { s with pair := { s.pair with resyncAt := s.pair.resyncAt.erase y } }
      refine ⟨cursors, ?_, fun x hx => stay x ?_, ?_⟩
      · simpa only [State.restartCopies, List.foldl_cons, hy, if_true] using eq
      · by_cases hxy : y = x
        · exact hxy ▸ SMap.find?_erase_self _ _
        · exact (SMap.find?_erase_other _ _ _ hxy).trans hx
      · simp only [List.mem_cons, forall_eq_or_imp]
        exact ⟨fun _ => stay y (SMap.find?_erase_self _ _), gone⟩
    · obtain ⟨cursors, eq, stay, gone⟩ := ih s
      refine ⟨cursors, ?_, stay, ?_⟩
      · simpa only [State.restartCopies, List.foldl_cons, hy, if_false] using eq
      · simp only [List.mem_cons, forall_eq_or_imp]
        exact ⟨fun h => absurd h hy, gone⟩

theorem State.msgDone_rxMsn (s : State) : s.msgDone.twl.rxMsn = (s.twl.rxMsn + 1) % 2 ^ 20 := by
  simp only [State.msgDone]
  split <;> rfl

theorem State.twinReachable_msgDone (s : State) : s.msgDone.twinReachable = s.twinReachable := by
  simp only [State.msgDone]
  split <;> rfl

theorem exec_resyncCtl_ask (m : TwMsg) (xs : List Nat) (s : State) (hm : s.nextMsg 0x0B = some m)
    (hb : (s.mode.bringup == .rebuild && !s.vlt.loaded) = false) :
    exec (.resyncCtl (.ask xs)) s = .next (s.msgDone.restartCopies xs) := by
  simp [exec, execResyncCtl, hm, hb, State.restartCopies]

theorem exec_resyncCtl_ended (m : TwMsg) (xs : List Nat) (s : State) (hm : s.nextMsg 0x0B = some m)
    (hb : (s.mode.bringup == .rebuild && !s.vlt.loaded) = false) :
    exec (.resyncCtl (.ended xs)) s =
      .next ((xs.foldl State.extentEnds s.msgDone).resyncFalls.handBack.pump).attrTry := by
  simp [exec, execResyncCtl, hm, hb]

theorem exec_resyncCtl_reunites (m : TwMsg) (e : List (Nat × ExtPair)) (b : ExtPair) (v : List Nat) (q : List (Nat × BitVec 32))
    (s : State) (hm : s.nextMsg 0x0B = some m) (hb : s.mode.bringup ≠ .rebuild) (hr : s.twinReachable = true)
    (hs : s.mode.mode = .solo) : exec (.resyncCtl (.epochs e b v q)) s = .next (s.msgDone.reunite e b v q).netRun := by
  simp [exec, execResyncCtl, hm, hb, s.twinReachable_msgDone, hr, hs]

theorem exec_resyncCtl_unreachable (m : TwMsg) (e : List (Nat × ExtPair)) (b : ExtPair) (v : List Nat) (q : List (Nat × BitVec 32))
    (s : State) (hm : s.nextMsg 0x0B = some m) (hb : s.mode.bringup ≠ .rebuild) (hr : s.twinReachable = false) :
    exec (.resyncCtl (.epochs e b v q)) s = .next s.msgDone := by
  simp [exec, execResyncCtl, hm, hb, s.twinReachable_msgDone, hr]

theorem State.loseExtents_entries (s : State) (xs twValid : List Nat) : (s.loseExtents xs twValid).trk.entries = s.trk.entries := by
  simp only [State.loseExtents]
  refine (congrArg Tracker.entries ?_ : _ = s.trk.entries)
  rw [foldl_trk _ (fun a l => by simp), foldl_trk _ (fun a l => by split <;> simp)]

/-- The reunion of a SOLO controller is a transition to SERVE (R22); it leaves the tracker's entries and the home lines. -/
theorem State.reunite_solo (s : State) (ext : List (Nat × ExtPair)) (base : ExtPair) (valid : List Nat)
    (poisoned : List (Nat × BitVec 32)) (hs : s.mode.mode = .solo) : ∃ u : State, s.reunite ext base valid poisoned = u.pump ∧
      u.mode = { s.mode with mode := .serve, reason := 0x04, count := (s.mode.count + 1) % 65536 } ∧
      u.trk.entries = s.trk.entries ∧ u.mem = s.mem := by
  unfold State.reunite
  extract_lets tw all xs judged logged won copies losing epochOf pair synced parted handed served
  have logged_eq : logged.mode = s.mode ∧ logged.trk = s.trk ∧ logged.mem = s.mem :=
    ⟨foldl_mode _ (fun a j => by split <;> simp) judged s, foldl_trk _ (fun a j => by split <;> simp) judged s,
      foldl_mem _ (fun a j => by split <;> simp) judged s⟩
  have parted_eq : parted.mode = s.mode ∧ parted.trk.entries = s.trk.entries ∧ parted.mem = s.mem := by
    simp [parted, synced, State.loseExtents_entries, logged_eq]
  clear_value logged copies losing parted
  have handed_eq : handed.mode = s.mode ∧ handed.trk.entries = s.trk.entries ∧ handed.mem = s.mem := by
    simp only [handed]
    split <;> simp [parted_eq]
  clear_value handed
  obtain ⟨hmode, hentries, hmem⟩ := handed_eq
  have serves : served = handed.setMode .serve 0x04 := if_pos (by rw [hmode, hs]; rfl)
  exact ⟨served, rfl, by rw [serves, State.setMode_mode, hmode], by simp [serves, hentries], by simp [serves, hmem]⟩

/-! ## CONTROL messages (R335, R365, R449) -/

theorem exec_control_proto (v : Nat) (m : TwMsg) (s : State) (hm : s.nextMsg 0x0E = some m) :
    exec (.control (.proto v)) s = .next (s.msgDone.protoIn v) := by
  simp [exec, execControl, hm]

theorem exec_control_handedBack (m : TwMsg) (s : State) (hm : s.nextMsg 0x0E = some m) :
    exec (.control .handedBack) s = .next { s.msgDone with
      pair := { s.pair with takeover := false }, net := { s.net with handback := [] } } := by
  simp [exec, execControl, hm]

theorem exec_control_connSetup (slot : Nat) (n : Conn) (m : TwMsg) (s : State) (hm : s.nextMsg 0x0E = some m) :
    exec (.control (.connSetup slot n)) s = .next (s.msgDone.connSetupRx slot n) := by
  simp [exec, execControl, hm]

theorem State.pairProto_msgDone (s : State) : s.msgDone.pairProto = s.pairProto := by
  simp [State.pairProto]

/-- A twin of another protocol version is recorded, and nothing is sent to it. -/
theorem State.protoIn_mismatch (s : State) (v : Nat) (h : v / 256 ≠ s.pairProto / 256) : (s.protoIn v).cmd.twinProto = some v ∧
    (s.protoIn v).mode = s.mode ∧ (s.protoIn v).mem = s.mem ∧ (s.protoIn v).twl = s.twl := by
  unfold State.protoIn
  extract_lets cmd known net shadows
  have shadows_eq : shadows.cmd = { s.cmd with twinProto := some v } ∧ shadows.mode = s.mode ∧ shadows.mem = s.mem ∧
      shadows.twl = s.twl ∧ shadows.fls = s.fls := by
    simp only [shadows, known]
    split <;> exact ⟨rfl, rfl, rfl, rfl, rfl⟩
  clear_value shadows
  obtain ⟨hcmd, hmode, hmem, htwl, hfls⟩ := shadows_eq
  have proto : shadows.pairProto = s.pairProto := by
    simp only [State.pairProto, hcmd, hfls]
  rw [if_pos (by simpa [proto] using h)]
  simp [hcmd, hmode, hmem, htwl]

theorem State.connSetupRx_free (s : State) (slot : Nat) (c : Conn) (hc : s.conn slot = none) (hs : slot < s.net.maxConn) :
    s.connSetupRx slot c = (s.setConn slot c).control (.connOk slot) := by
  simp only [State.connSetupRx, hc, hs, if_true]

theorem State.conn_of_net {s t : State} (h : t.net = s.net) (slot : Nat) : t.conn slot = s.conn slot := by
  rw [State.conn, h, State.conn]

theorem State.conn_setConn_other (s : State) (slot k : Nat) (c : Conn) (h : k ≠ slot) : (s.setConn slot c).conn k = s.conn k :=
  SMap.find?_insert_other _ _ _ _ (Ne.symm h)

/-! ## The pair is formed (R118 step 6, R120) -/

/-- A table in which each key listed holds one value. -/
theorem SMap.find?_insertAll {α : Type} (xs : List Nat) (f : Nat → α) (m : SMap α) (x : Nat) :
    (xs.foldl (fun (m : SMap α) x => m.insert x (f x)) m).find? x = if x ∈ xs then some (f x) else m.find? x := by
  induction xs generalizing m with
  | nil => simp
  | cons y xs ih =>
    rw [List.foldl_cons, ih]
    by_cases hx : x ∈ xs
    · simp [hx]
    · by_cases hy : y = x
      · subst hy; simp [hx]
      · simp [hx, Ne.symm hy, SMap.find?_insert_other _ _ _ _ hy]

/-- The donor's side once the pair is formed: the pair record, and every allocated extent in resync with its copy the winning one. -/
def State.donorPaired (s : State) (f : Forming) : State :=
  let r := s.newRecord f
  let xs := (s.addr.regions.values.flatMap Region.extents).eraseDups
  { s with
    pair := { s.pair with
      record := some r, twinTag := some r.tag, probeAddr := f.probeAddr, forming := none, twinIdent := none, lost := false,
      departed := false, resync := xs.foldl (fun (m : SMap Bool) x => m.insert x true) {},
      resyncEpoch := xs.foldl (fun (m : SMap Nat) x => m.insert x (s.extPair x).epoch) {},
      resyncAt := {}, resyncing := true, resyncDone := 0, resyncLines := 0, resyncStart := s.now },
    cmd := { s.cmd with replay := [] } }

theorem exec_pairFormComplete_donor (f : Forming) (s : State) (hf : s.pair.forming = some f) (ha : f.at_ = 6)
    (hm : s.mode.mode = .hold) (hl : s.linkUp = true) (hd : f.donor = true) :
    exec .pairFormComplete s =
      .next (((s.donorPaired f).saveTables.finish f.tag (.ok [])).leaveHold 0x0B).resyncFalls := by
  simp [exec, execPairFormComplete, hf, ha, hm, hl, hd, State.donorPaired]

theorem exec_pairFormComplete_idle (s : State) (h : s.pair.forming = none ∨ s.mode.mode ≠ .hold ∨ s.linkUp = false) :
    exec .pairFormComplete s = .next s := by
  cases hf : s.pair.forming with
  | none => simp [exec, execPairFormComplete, hf]
  | some f =>
    rcases h with h | h | h
    · exact absurd (hf.symm.trans h) (by simp)
    · simp [exec, execPairFormComplete, hf, h]
    · simp [exec, execPairFormComplete, hf, h]

theorem State.donorPaired_resync (s : State) (f : Forming) (x : Nat) : (s.donorPaired f).pair.resync.find? x =
    if x ∈ s.addr.regions.values.flatMap Region.extents then some true else none := by
  simp only [State.donorPaired, SMap.find?_insertAll _ (fun _ => true), List.mem_eraseDups]
  rfl

/-- The configuration tables that are saved hold the pair record (R120, R293). -/
theorem State.donorPaired_saved (s : State) (f : Forming) :
    (s.donorPaired f).saveTables.vlt.nand.tables.pair = some (s.newRecord f) := rfl

end Sys2Proof.Machine
end

section
namespace Sys2Proof
open Sys2Proof.Machine

/-- Settles O59: each command is one branch of its definition; the reunion and the end of an extent's resync are read off the states
that they end in. -/
theorem resyncAndPair : Obligations.ResyncAndPair := by
  refine ⟨State.winner_later, State.winner_earlier, State.winner_equal, State.winner_tie,
    fun x i d s hx hl hi hu hd => ⟨_, exec_resyncCopySend x i d s hx hl hi hu hd, State.mem_out_hand _ _ _ _,
      SMap.find?_insert_self _ _ _, rfl, by simp, rfl⟩,
    fun x s h => ⟨s, exec_resyncCopySend_idle x s h, rfl⟩,
    fun m r s hm hr hn => ⟨_, exec_resyncCopy_newer m r s hm hr hn, ?_⟩,
    fun m r d u s hm hr hn hb hw hu => ⟨_, exec_resyncCopy_applied m r d u s hm hr hn hb hw hu, rfl⟩,
    fun x s hx hi hl => ⟨_, exec_resyncExtentDone x s hx hi hl, rfl⟩,
    fun x s h => ⟨s, exec_resyncExtentDone_idle x s h, rfl⟩,
    State.extentEnds_effect,
    fun c m xs s hm hb hc => ?_,
    fun c m xs s hm hb hc => hc ▸ ⟨_, exec_resyncCtl_ended m xs s hm hb, rfl⟩,
    fun c m e b v q s hm hb hc hr hs => ?_,
    fun c m e b v q s hm hb hc hr => hc ▸ ⟨_, exec_resyncCtl_unreachable m e b v q s hm hb hr, rfl⟩,
    fun c m v s hm hc hv => ?_,
    fun c m s hm hc => hc ▸ ⟨_, exec_control_handedBack m s hm, rfl, rfl, rfl, by simp⟩,
    fun c m slot n s hm hc hn hs => ?_,
    fun f s hf ha hm hl hd => ⟨_, exec_pairFormComplete_donor f s hf ha hm hl hd, _, rfl, ?_⟩,
    fun s h => ⟨s, exec_pairFormComplete_idle s h, rfl⟩⟩
  · exact ⟨_, rfl, by simp [State.ordOf, State.noteCopy], by simp [State.noteCopy], by simp [State.noteCopy],
      by simp [State.noteCopy], by simp [State.noteCopy]⟩
  · subst hc
    obtain ⟨cursors, restarted, -, gone⟩ := s.msgDone.restartCopies_pair xs
    have pair : s.msgDone.pair = s.pair := by simp
    refine ⟨_, exec_resyncCtl_ask m xs s hm hb, ?_⟩
    rw [restarted]
    exact ⟨s.msgDone_rxMsn, fun x hx hw => gone x hx (pair ▸ hw), by simp, by simp, by simp⟩
  · subst hc
    obtain ⟨u, reunited, mode, entries, mem⟩ := s.msgDone.reunite_solo e b v q (by simpa using hs)
    refine ⟨_, exec_resyncCtl_reunites m e b v q s hm hb hr hs, u, by rw [reunited], ?_⟩
    rw [mode, entries, mem]
    simp
  · subst hc
    obtain ⟨known, mode, mem, twl⟩ := s.msgDone.protoIn_mismatch v (by rwa [s.pairProto_msgDone])
    exact ⟨_, exec_control_proto v m s hm, known, mode.trans (by simp), mem.trans (by simp), twl ▸ s.msgDone_rxMsn⟩
  · subst hc
    have net : s.msgDone.net = s.net := by simp
    have after : ∀ k, ((s.msgDone.setConn slot n).control (.connOk slot)).conn k = (s.msgDone.setConn slot n).conn k :=
      State.conn_of_net (by simp)
    refine ⟨_, exec_control_connSetup slot n m s hm, ?_⟩
    rw [State.connSetupRx_free _ _ _ ((State.conn_of_net net slot).trans hn) (by rwa [net])]
    exact ⟨(after slot).trans (State.conn_setConn_self _ _ _), State.mem_out_hand _ _ _ _,
      fun k hk => (after k).trans ((State.conn_setConn_other _ _ _ _ hk).trans (State.conn_of_net net k))⟩
  · have pair : ((s.donorPaired f).saveTables.finish f.tag (.ok [])).pair = (s.donorPaired f).pair := by simp
    have vlt : ((s.donorPaired f).saveTables.finish f.tag (.ok [])).vlt = (s.donorPaired f).saveTables.vlt := by simp
    rw [pair, vlt]
    exact ⟨rfl, rfl, rfl, rfl, rfl, s.donorPaired_resync f, s.donorPaired_saved f, by simp [State.donorPaired], by simp [State.donorPaired]⟩

end Sys2Proof
end

section
namespace Sys2Proof.Machine

/-! ## What stays of the link and of the twin's standing

The states of both paths change only where the link itself is worked on, whether the twin counts as lost or departed only where it is lost,
departs or comes back. Everything else, the request path and the loss of the twin above all, leaves these four. -/

/-- `t` keeps them. -/
@[simp] abbrev Same.standing (s t : State) : Prop :=
  t.twl.pathA.state = s.twl.pathA.state ∧ t.twl.pathB.state = s.twl.pathB.state ∧ t.pair.lost = s.pair.lost ∧
    t.pair.departed = s.pair.departed

@[simp] theorem foldl_standing {β : Type} (f : State → β → State) (h : ∀ s a, Same.standing s (f s a)) (l : List β) (s : State) :
    Same.standing s (l.foldl f s) := by
  induction l generalizing s with
  | nil => simp
  | cons a l ih => simp [ih, h]

@[simp] theorem foldl_fst_standing {β γ : Type} (f : State × γ → β → State × γ) (h : ∀ a b, Same.standing a.1 (f a b).1) (l : List β)
    (a : State × γ) : Same.standing a.1 (l.foldl f a).1 := by
  induction l generalizing a with
  | nil => simp
  | cons b l ih => simp [ih, h]

/-! ### The link -/

theorem State.setPath_standing (s : State) (n : Nat) (p : TwPath) (h : p.state = (s.path n).state) : Same.standing s (s.setPath n p) := by
  unfold State.setPath
  unfold State.path at h
  split <;> simp_all

@[simp] theorem State.takeCrd_standing (s : State) : Same.standing s s.takeCrd.1 := ⟨rfl, rfl, rfl, rfl⟩

@[simp] theorem State.sendFrame_standing (s : State) (n msn off : Nat) (last : Bool) : Same.standing s (s.sendFrame n msn off last) := by
  unfold State.sendFrame
  dsimp only
  simp [State.setPath_standing]

@[simp] theorem State.sendFrames_standing (k : Nat) (s : State) (msn total : Nat) : Same.standing s (s.sendFrames msn total k) := by
  induction k generalizing s with
  | zero => simp [State.sendFrames]
  | succ k ih =>
    unfold State.sendFrames
    split <;> simp [ih]

@[simp] theorem State.drainN_standing (k : Nat) (s : State) : Same.standing s (s.drainN k) := by
  induction k generalizing s with
  | zero => simp [State.drainN]
  | succ k ih =>
    unfold State.drainN
    dsimp only
    (repeat' split) <;> simp [ih]

@[simp] theorem State.drainLink_standing (s : State) : Same.standing s s.drainLink := s.drainN_standing _

@[simp] theorem State.hand_standing (s : State) (typ tag : Nat) (recs : List TwRec) : Same.standing s (s.hand typ tag recs) := by
  simp [State.hand]

@[simp] theorem State.handNew_standing (s : State) (typ : Nat) (recs : List TwRec) : Same.standing s (s.handNew typ recs) := by
  simp [State.handNew]

@[simp] theorem State.control_standing (s : State) (c : CtlMsg) : Same.standing s (s.control c) := s.hand_standing _ _ _

@[simp] theorem State.crossN_standing (k : Nat) (s : State) (n : Nat) : Same.standing s (s.crossN k n) := by
  induction k generalizing s with
  | zero => simp [State.crossN]
  | succ k ih =>
    unfold State.crossN
    dsimp only
    (repeat' split) <;> simp [ih, State.setPath_standing]

@[simp] theorem State.crossAll_standing (s : State) : Same.standing s s.crossAll := by
  simp [State.crossAll]

/-! ### The request path -/

@[simp] theorem State.connStep_standing (k : Nat) (s : State) (slot : Nat) : Same.standing s (s.connStep k slot) := by
  induction k generalizing s slot with
  | zero => simp [State.connStep]
  | succ k ih =>
    unfold State.connStep
    dsimp only
    (repeat' split) <;> simp [ih]

@[simp] theorem State.connRun_standing (s : State) (slot : Nat) : Same.standing s (s.connRun slot) := by
  unfold State.connRun
  split <;> simp

@[simp] theorem State.netLine_standing (s : State) (slot serial idx : Nat) (res : Option (Line × Bool)) :
    Same.standing s (s.netLine slot serial idx res) := by
  unfold State.netLine
  (repeat' split) <;> simp

@[simp] theorem State.assistDone_standing (s : State) (tag : Nat) : Same.standing s (s.assistDone tag) := by
  unfold State.assistDone
  dsimp only
  split <;> simp

@[simp] theorem State.complete_standing (s : State) (id : Nat) (e : Entry) (res : Option (Line × Bool)) :
    Same.standing s (s.complete id e res) := by
  unfold State.complete
  dsimp only
  (repeat' split) <;> simp

@[simp] theorem State.tryComplete_standing (s : State) (id : Nat) (e : Entry) : Same.standing s (s.tryComplete id e) := by
  unfold State.tryComplete
  (repeat' split) <;> simp

@[simp] theorem State.orderAck_standing (s : State) (tag : Nat) : Same.standing s (s.orderAck tag) := by
  unfold State.orderAck
  dsimp only
  split <;> simp

@[simp] theorem State.tryIntent_standing (s : State) (id : Nat) (e : Entry) (body : LineBody) : Same.standing s (s.tryIntent id e body) := by
  unfold State.tryIntent
  dsimp only
  (repeat' split) <;> simp

@[simp] theorem State.propagate_standing (s : State) (id : Nat) (e : Entry) (body : LineBody) : Same.standing s (s.propagate id e body) := by
  unfold State.propagate
  dsimp only
  (repeat' split) <;> simp

@[simp] theorem State.noteApplied_standing (s : State) (line : Nat) : Same.standing s (s.noteApplied line) := by
  unfold State.noteApplied State.noteEpoch
  dsimp only
  split <;> simp [State.setExtPair]

@[simp] theorem State.orderHere_standing (s : State) (id : Nat) (e : Entry) (d : Line) (m : Mask) (poison : Bool)
    (res : Option (Line × Bool)) : Same.standing s (s.orderHere id e d m poison res) := by
  unfold State.orderHere
  split
  · simp
  · next u hu =>
    have applied := State.applyLine_frame _ _ _ _ _ _ _ hu
    dsimp only
    split <;> simp [applied]

@[simp] theorem State.atomicHere_standing (s : State) (id : Nat) (e : Entry) (d : Line) (poison : Bool) :
    Same.standing s (s.atomicHere id e d poison) := by
  unfold State.atomicHere
  dsimp only
  (repeat' split) <;> simp

@[simp] theorem State.forward_standing (s : State) (id : Nat) (e : Entry) : Same.standing s (s.forward id e) := by
  simp [State.forward]

@[simp] theorem State.askTwin_standing (s : State) (id : Nat) (e : Entry) : Same.standing s (s.askTwin id e) := by
  simp [State.askTwin]

theorem State.fetch_standing (s : State) (id : Nat) (e : Entry) : Same.standing s (s.fetch id e).st := by
  unfold State.fetch
  dsimp only
  repeat' split
  all_goals simp [Fetch.st]

@[simp] theorem State.tryRead_standing (s : State) (id : Nat) (e : Entry) : Same.standing s (s.tryRead id e) := by
  have fetched := s.fetch_standing id e
  unfold State.tryRead
  (repeat' split) <;> simp_all [Fetch.st]

@[simp] theorem State.tryAssist_standing (s : State) (id : Nat) (e : Entry) : Same.standing s (s.tryAssist id e) := by
  have fetched := s.fetch_standing id e
  unfold State.tryAssist
  dsimp only
  (repeat' split) <;> simp_all [Fetch.st]

@[simp] theorem State.lateIntent_standing (s : State) (id : Nat) (e : Entry) : Same.standing s (s.lateIntent id e) := by
  unfold State.lateIntent
  (repeat' split) <;> simp

@[simp] theorem State.ringDoorbell_standing (s : State) (id : Nat) (e : Entry) (k : Nat) : Same.standing s (s.ringDoorbell id e k) := by
  unfold State.ringDoorbell
  dsimp only
  split <;> simp

@[simp] theorem State.placeWrite_standing (s : State) (id : Nat) (e : Entry) : Same.standing s (s.placeWrite id e) := by
  have fetched := s.fetch_standing id e
  unfold State.placeWrite
  (repeat' split) <;> simp_all [Fetch.st]

@[simp] theorem State.tryWrite_standing (s : State) (id : Nat) (e : Entry) : Same.standing s (s.tryWrite id e) := by
  unfold State.tryWrite
  (repeat' split) <;> simp

@[simp] theorem State.tryInv_standing (s : State) (id : Nat) (e : Entry) : Same.standing s (s.tryInv id e) := by
  unfold State.tryInv
  dsimp only
  (repeat' split) <;> simp

@[simp] theorem State.tryEntry_standing (s : State) (id : Nat) : Same.standing s (s.tryEntry id) := by
  unfold State.tryEntry
  (repeat' split) <;> simp

@[simp] theorem State.pumpN_standing (n : Nat) (s : State) : Same.standing s (s.pumpN n) := by
  induction n generalizing s with
  | zero => simp [State.pumpN]
  | succ n ih => simp [State.pumpN, ih]

@[simp] theorem State.pump_standing (s : State) : Same.standing s s.pump := s.pumpN_standing _

/-! ### Going on without the twin (R91, R97, R105, R110, R128) -/

@[simp] theorem State.replEnd_standing (s : State) (r : Repl) : Same.standing s (s.replEnd r) := by
  unfold State.replEnd
  split <;> simp

@[simp] theorem State.replTry_standing (s : State) (tag : Nat) : Same.standing s (s.replTry tag) := by
  unfold State.replTry
  dsimp only
  (repeat' split) <;> simp

theorem State.putLine_standing (s u : State) (line : Nat) (d : Line) (m : Mask) (poison : Bool) (cause : Nat)
    (h : s.putLine line d m poison cause = some u) : Same.standing s u := by
  obtain ⟨v, hv, rfl⟩ := Option.map_eq_some_iff.mp h
  have applied := State.applyLine_frame _ _ _ _ _ _ _ hv
  dsimp only
  split <;> simp [applied]

@[simp] theorem State.poisonLine_standing (s : State) (line cause : Nat) : Same.standing s (s.poisonLine line cause) := by
  unfold State.poisonLine
  cases h : s.putLine line 0 Mask.full true cause with
  | none => simp
  | some u => simpa using s.putLine_standing u _ _ _ _ _ h

@[simp] theorem State.forceLine_standing (s : State) (line : Nat) (d : Line) (m : Mask) (poison : Bool) :
    Same.standing s (s.forceLine line d m poison) := by
  unfold State.forceLine
  split
  · next u hu => exact s.putLine_standing u _ _ _ _ _ hu
  · simp

@[simp] theorem State.ownApplied_standing (s : State) (line : Nat) (n : BitVec 32) : Same.standing s (s.ownApplied line n) := by
  simp [State.ownApplied]

@[simp] theorem State.flushEarly_standing (n : Nat) (s : State) : Same.standing s (s.flushEarly n) := by
  induction n generalizing s with
  | zero => simp [State.flushEarly]
  | succ n ih =>
    unfold State.flushEarly
    dsimp only
    (repeat' split) <;> simp [ih]

@[simp] theorem State.lastCopy_standing (s : State) (line epoch : Nat) : Same.standing s (s.lastCopy line epoch).1 := by
  unfold State.lastCopy
  (repeat' split) <;> simp

@[simp] theorem State.loseLine_standing (s : State) (epoch : Nat) (a : State × List Nat) (line : Nat) :
    Same.standing a.1 (s.loseLine epoch a line).1 := by
  unfold State.loseLine
  split <;> simp

@[simp] theorem State.abandonResync_standing (s : State) : Same.standing s s.abandonResync := by
  unfold State.abandonResync
  extract_lets losing
  split
  next t bad settled =>
    have kept : Same.standing s (t, bad).1 := by
      rw [← settled]
      exact foldl_fst_standing _ (fun a c => by simp) losing (s, [])
    dsimp only at kept ⊢
    split <;> simp [kept]

@[simp] theorem State.goAlone_standing (s : State) : Same.standing s s.goAlone := by
  simp [State.goAlone]

@[simp] theorem State.releaseCommands_standing (s : State) : Same.standing s s.releaseCommands := by
  simp [State.releaseCommands]

@[simp] theorem State.poisonIntents_standing (s : State) : Same.standing s s.poisonIntents := by
  unfold State.poisonIntents
  dsimp only
  split <;> simp

@[simp] theorem State.dropTwin_standing (s : State) (poison : Bool) : Same.standing s (s.dropTwin poison) := by
  unfold State.dropTwin
  dsimp only
  split <;> simp

@[simp] theorem State.probeOrTakeOver_standing (s : State) (departing : Bool) : Same.standing s (s.probeOrTakeOver departing) := by
  unfold State.probeOrTakeOver State.takeOver
  (repeat' split) <;> simp

/-! ## The twin is lost, or departs (R110, R114 to R116) -/

/-- A lost twin counts as lost; no path changes its state. -/
@[simp] theorem State.loseTwin_standing (s : State) : s.loseTwin.twl.pathA.state = s.twl.pathA.state ∧
    s.loseTwin.twl.pathB.state = s.twl.pathB.state ∧ s.loseTwin.pair.lost = true ∧ s.loseTwin.pair.departed = s.pair.departed := by
  unfold State.loseTwin
  dsimp only
  split
  · next h => simp [h]
  · (repeat' split) <;> simp

/-- Nothing in transit on a link that is down leaves the states of its paths. -/
@[simp] theorem State.cutLink_paths (s : State) :
    s.cutLink.twl.pathA.state = s.twl.pathA.state ∧ s.cutLink.twl.pathB.state = s.twl.pathB.state := by
  unfold State.cutLink
  split <;> simp

theorem TwPath.up_of_state {p q : TwPath} (h : p.state = q.state) : p.up = q.up := by
  simp only [TwPath.up, h]

/-- Declaring path A dead leaves it not up. -/
theorem State.declareDead_downA (s : State) : (s.declareDead 0).twl.pathA.up = false := by
  unfold State.declareDead
  dsimp only
  split
  · next h =>
    have dead_or_down : s.twl.pathA.state = .dead ∨ s.twl.pathA.state = .down := by simpa [State.path] using h
    rcases dead_or_down with h | h <;> simp [TwPath.up, h]
  · simp [TwPath.up, State.setPath]

/-- Declaring path B dead leaves it not up, and path A in its state. -/
theorem State.declareDead_downB (s : State) :
    (s.declareDead 1).twl.pathB.up = false ∧ (s.declareDead 1).twl.pathA.state = s.twl.pathA.state := by
  unfold State.declareDead
  dsimp only
  split
  · next h =>
    have dead_or_down : s.twl.pathB.state = .dead ∨ s.twl.pathB.state = .down := by simpa [State.path] using h
    rcases dead_or_down with h | h <;> simp [TwPath.up, h]
  · simp [TwPath.up, State.setPath]

/-- With both paths forced dead and the twin lost, the link is down. -/
theorem State.linkUp_lost (s : State) : ((s.declareDead 0).declareDead 1).loseTwin.linkUp = false := by
  obtain ⟨downB, stateA⟩ := (s.declareDead 0).declareDead_downB
  obtain ⟨lostA, lostB, -, -⟩ := ((s.declareDead 0).declareDead 1).loseTwin_standing
  rw [State.linkUp, TwPath.up_of_state (lostA.trans stateA), TwPath.up_of_state lostB, s.declareDead_downA, downB]
  rfl

/-- A twin that departs from a controller in SERVE counts as departed, and the controller goes to SOLO (R115). -/
theorem State.twinDeparts_serve (s : State) (hs : s.mode.mode = .serve) : ∃ u : State, s.twinDeparts = u.pump ∧
    u.pair.departed = true ∧ u.mode = { s.mode with mode := .solo, reason := 0x03, count := (s.mode.count + 1) % 65536 } := by
  unfold State.twinDeparts
  extract_lets acked was pair marked dropped
  have served : was = .serve := by simpa [was, acked] using hs
  clear_value was
  subst served
  have dropped_eq : dropped.mode = s.mode ∧ dropped.pair.departed = true := by simp [dropped, marked, acked]
  clear_value dropped
  obtain ⟨hmode, hdeparted⟩ := dropped_eq
  exact ⟨dropped.setMode .solo 0x03, rfl, by simpa using hdeparted, by rw [State.setMode_mode, hmode]⟩

theorem State.twinDeparts_preserve (s : State) (hs : s.mode.mode = .preserve) : s.twinDeparts.pair.twinLeft = true ∧
    .twMessage ⟨0x0D, 0, [.depart 2]⟩ ∈ s.twinDeparts.out ∧ s.twinDeparts.mode = s.mode := by
  have acks : s.twinDeparts = { s.hand 0x0D 0 [.depart 2] with
      pair := { (s.hand 0x0D 0 [.depart 2]).pair with twinLeft := true } } := by
    simp [State.twinDeparts, hs]
  rw [acks]
  exact ⟨rfl, State.mem_out_hand _ _ _ _, by simp⟩

theorem exec_departing (s : State) : exec .departing s = .next (if s.nextDepart 1 then s.msgDone.twinDeparts.netRun else s) := rfl

theorem exec_departingAck_own (s : State) (hn : s.nextDepart 2 = true) (hd : s.pair.departSent = true) :
    exec .departingAck s = .next (State.pump { s.msgDone with pair := { s.pair with departAcked := true } }) := by
  simp [exec, execDepartingAck, hn, hd]

theorem exec_departingAck_other (s : State) (hn : s.nextDepart 2 = true) (hd : s.pair.departSent = false) :
    exec .departingAck s = .next s.msgDone := by
  simp [exec, execDepartingAck, hn, hd]

theorem exec_departingAckTimeout (s : State) (hm : s.mode.mode = .preserve) (hd : s.pair.departSent = true)
    (ha : s.pair.departAcked = false) :
    exec .departingAckTimeout s = .next ((s.declareDead 0).declareDead 1).loseTwin := by
  simp [exec, execDepartingAckTimeout, hm, hd, ha]

theorem exec_departingAckTimeout_idle (s : State)
    (h : s.mode.mode ≠ .preserve ∨ s.pair.departSent = false ∨ s.pair.departAcked = true) :
    exec .departingAckTimeout s = .next s := by
  rcases h with h | h | h <;> simp [exec, execDepartingAckTimeout, h]

/-! ## Handover (R98, R117) -/

theorem exec_handoverStart_idle (x : Nat) (s : State)
    (h : (!s.together || s.mode.mode == .hold || s.pair.owned.find? x != some true) = true) :
    exec (.handoverStart x) s = .next s := by
  simp only [exec, execHandoverStart, h, if_true]

/-- With nothing owed, no data goes. -/
theorem State.sendOwed_none (s : State) (n : Nat) (h : s.pair.owed = []) : s.sendOwed n = s := by
  simp [State.sendOwed, h]

theorem exec_handoverStart_begins (x : Nat) (s : State)
    (h : (!s.together || s.mode.mode == .hold || s.pair.owned.find? x != some true) = false) (hx : s.pair.handover.has x = false)
    (ho : s.pair.owed = []) :
    exec (.handoverStart x) s =
      .next (State.afterData { s with pair := { s.pair with handover := s.pair.handover.insert x 1 } }) := by
  simp only [exec, execHandoverStart, h, hx, Bool.false_eq_true, if_false]
  rw [State.sendOwed_none _ _ (by exact ho)]

theorem State.sendMarkers_clear (s : State) (x : Nat) (hx : s.pair.handover.cells = [(x, 1)]) (ho : s.orderedAllSent x = true) :
    s.sendMarkers =
      State.hand { s with pair := { s.pair with handover := s.pair.handover.insert x 3 } } 0x0C 0 [.handover 1 x] := by
  simp [State.sendMarkers, hx, ho]

theorem State.sendMarkers_waits (s : State) (x : Nat) (hx : s.pair.handover.cells = [(x, 1)]) (ho : s.orderedAllSent x = false) :
    s.sendMarkers = s := by
  simp [State.sendMarkers, hx, ho]

theorem TwMsg.handoverOf_handover (m : TwMsg) (k x : Nat) (h : m.recs = [.handover k x]) : m.handoverOf k = some x := by
  simp [TwMsg.handoverOf, h]

theorem exec_handoverMarker_hold (m : TwMsg) (x : Nat) (s : State) (hm : s.nextMsg 0x0C = some m) (hr : m.recs = [.handover 1 x])
    (hh : s.mode.mode = .hold) :
    exec .handoverMarker s = .next { s.msgDone with pair := { s.pair with markers := s.pair.markers ++ [x] } } := by
  simp [exec, execHandoverMarker, hm, m.handoverOf_handover 1 x hr, hh]

theorem exec_handoverMarker_takes (m : TwMsg) (x : Nat) (s : State) (hm : s.nextMsg 0x0C = some m) (hr : m.recs = [.handover 1 x])
    (hh : s.mode.mode ≠ .hold) : exec .handoverMarker s = .next (s.msgDone.acceptMarker x).pump.attrTry := by
  simp [exec, execHandoverMarker, hm, m.handoverOf_handover 1 x hr, hh]

/-- The old owner's side of an extent once the twin has taken it. -/
def State.handedOver (s : State) (x : Nat) : State :=
  (State.bump { s with pair := { s.pair with handover := s.pair.handover.erase x, owned := s.pair.owned.erase x } }
    Ctr.SYS_CNT_HANDOVER).resyncFalls

theorem exec_handoverAck (m : TwMsg) (x : Nat) (s : State) (hm : s.nextMsg 0x0C = some m) (hr : m.recs = [.handover 2 x]) :
    exec .handoverAck s = .next (s.msgDone.handedOver x).pump.attrTry := by
  simp [exec, execHandoverAck, hm, m.handoverOf_handover 2 x hr, State.handedOver]

/-- RESYNC falls where nothing is left to return; nothing else changes. -/
theorem State.resyncFalls_eq (s : State) : s.resyncFalls = { s with pair := { s.pair with
    resyncing := s.pair.resyncing && !(s.pair.resync.size == 0 && s.pair.owned.size == 0 && s.pair.handover.size == 0) } } := by
  unfold State.resyncFalls
  split
  · next h =>
    have all : (s.pair.resync.size == 0 && s.pair.owned.size == 0 && s.pair.handover.size == 0) = true := by simpa using h
    rw [all, Bool.not_true, Bool.and_false]
  · next h =>
    have left : (s.pair.resync.size == 0 && s.pair.owned.size == 0 && s.pair.handover.size == 0) = false := by
      rw [Bool.not_eq_true] at h
      exact h
    rw [left, Bool.not_false, Bool.and_true]

theorem State.handedOver_pair (s : State) (x : Nat) : (s.handedOver x).pair = { s.pair with
    handover := s.pair.handover.erase x, owned := s.pair.owned.erase x,
    resyncing := s.pair.resyncing && !(s.pair.resync.size == 0 && (s.pair.owned.erase x).size == 0 &&
      (s.pair.handover.erase x).size == 0) } := by
  rw [State.handedOver, State.resyncFalls_eq]
  rfl

theorem State.handedOver_counts (s : State) (x : Nat) :
    (s.handedOver x).ctr Ctr.SYS_CNT_HANDOVER = s.ctr Ctr.SYS_CNT_HANDOVER + 1 := by
  have kept : ∀ u : State, u.resyncFalls.ctr Ctr.SYS_CNT_HANDOVER = u.ctr Ctr.SYS_CNT_HANDOVER := fun u => by
    rw [State.resyncFalls_eq]
    rfl
  rw [State.handedOver, kept, State.ctr_bump_self]
  rfl

theorem State.ctr_msgDone_other (s : State) (a : Nat) (h : Ctr.TWL_CNT_MSG_APPLIED ≠ a) : s.msgDone.ctr a = s.ctr a :=
  State.ctr_bump_other _ _ _ h

/-! ## The probe (R111 to R113) -/

/-- What goes on the wire as the next probe, from a port of the port table. -/
def State.probeFrame (s : State) (key : Nat) : NetFrame :=
  { mac := key / 4, port := key % 4, prio := 0, dstMac := 0, vlan := 0, dscp := 0, dstIp := s.pair.probeAddr,
    udpSrc := s.fld Reg.NET_PROBE Fld.NET_PROBE_PORT, what := .probe s.pairId s.ctrlId (BitVec.ofNat 64 s.net.probeSeq) }

theorem exec_probeSend (c : Nat × EthPort) (s : State) (hp : s.pair.probing = true)
    (hc : s.net.ports.cells.find? (fun c => c.2.link) = some c) (hl : (s.ethPort (c.1 / 4) (c.1 % 4)).link = true)
    (hf : (s.ethPort (c.1 / 4) (c.1 % 4)).pausedRx.has 0 = false) :
    exec .probeSend s = .next ((State.emit { s with net := { s.net with probeSeq := s.net.probeSeq + 1 } }
      (.frame (s.probeFrame c.1))).bump (Ctr.E_CNT_TX_PKT (macPage (c.1 / 4)) (c.1 % 4))) := by
  have sends : exec .probeSend s = .next (State.sendFrameEth { s with net := { s.net with probeSeq := s.net.probeSeq + 1 } }
      (s.probeFrame c.1)) := by
    simp only [exec, execProbeSend, hp, hc] <;> rfl
  exact sends.trans (congrArg Host.Outcome.next (State.sendFrameEth_free _ (s.probeFrame c.1) hl hf))

theorem exec_probeReply_partition (seq : Nat) (s : State) (hp : s.pair.probing = true) (hq : seq < s.net.probeSeq) :
    exec (.probeReply seq) s = .next (if s.isBow then
      State.offRequest { s with pair := { s.pair with partition := true } } 0x08
      else { s with pair := { s.pair with partition := true } }) := by
  have known : (!s.pair.probing || decide (s.net.probeSeq ≤ seq)) = false := by simp [hp, hq]
  simp only [exec, execProbeReply, known] <;> rfl

theorem exec_probeReply_idle (seq : Nat) (s : State) (h : s.pair.probing = false ∨ s.net.probeSeq ≤ seq) :
    exec (.probeReply seq) s = .next s := by
  rcases h with h | h <;> simp [exec, execProbeReply, h]

theorem exec_probeSilent (s : State) (hp : s.pair.probing = true) (hb : (s.pair.partition && s.isBow) = false) :
    exec .probeSilent s = .next ((State.pump { s with pair := { s.pair with probing := false } }).takeOver).netRun := by
  simp only [exec, execProbeSilent, hp, hb] <;> rfl

theorem State.takeOver_takes (s : State) (h : s.pair.takeover = false) :
    s.takeOver.pair = { s.pair with takeover := true } ∧ s.takeOver.mode = s.mode ∧ s.takeOver.mem = s.mem := by
  have takes : s.takeOver = { s.announce true with pair := { (s.announce true).pair with takeover := true } } := by
    simp [State.takeOver, h]
  rw [takes]
  exact ⟨by simp, by simp, by simp⟩

end Sys2Proof.Machine
end

section
namespace Sys2Proof
open Sys2Proof.Machine

/-- Settles O58: each command is one branch of its definition; that a lost or departed twin counts as such, and that the link is down, rests
on what the request path leaves of the link and of the twin's standing. -/
theorem handoverDepartureProbe : Obligations.HandoverDepartureProbe := by
  refine ⟨fun x s h => ⟨s, exec_handoverStart_idle x s h, rfl⟩,
    fun x s h hx ho => ⟨_, exec_handoverStart_begins x s h hx ho, rfl⟩,
    fun s x hx ho => ?_, State.sendMarkers_waits,
    fun m x s hm hr hh => ⟨_, exec_handoverMarker_hold m x s hm hr hh, rfl⟩,
    fun m x s hm hr hh => ⟨_, exec_handoverMarker_takes m x s hm hr hh, rfl⟩,
    fun s x => ⟨by simp [State.acceptMarker], State.mem_out_hand _ _ _ _, by simp⟩,
    fun m x s hm hr => ⟨_, exec_handoverAck m x s hm hr, _, rfl, ?_⟩,
    fun s h => ⟨_, exec_departing s, if_pos h⟩,
    fun s h => ⟨_, exec_departing s, if_neg (by rw [h]; exact Bool.false_ne_true)⟩,
    State.twinDeparts_preserve,
    fun s hs => ?_,
    fun s hn hd => ⟨_, exec_departingAck_own s hn hd, _, rfl, rfl, by simp, by simp, by simp⟩,
    fun s hn hd => ⟨_, exec_departingAck_other s hn hd, rfl⟩,
    fun s hm hd ha => ⟨_, exec_departingAckTimeout s hm hd ha, rfl, (State.loseTwin_standing _).2.2.1, s.linkUp_lost⟩,
    fun s h => ⟨s, exec_departingAckTimeout_idle s h, rfl⟩,
    fun c s hp hc hl hf => ⟨_, exec_probeSend c s hp hc hl hf, ⟨s.probeFrame c.1, by simp, rfl, rfl, rfl, rfl⟩, by simp, by simp⟩,
    fun s hp => ⟨s, by simp [exec, execProbeSend, hp], rfl⟩,
    fun seq s hp hq => ⟨_, exec_probeReply_partition seq s hp hq, rfl⟩,
    fun seq s h => ⟨s, exec_probeReply_idle seq s h, rfl⟩,
    fun s hp hb => ⟨_, exec_probeSilent s hp hb, rfl⟩,
    State.takeOver_takes⟩
  · rw [s.sendMarkers_clear x hx ho]
    exact ⟨by simp, State.mem_out_hand _ _ _ _⟩
  · have pair : s.msgDone.pair = s.pair := by simp
    rw [State.handedOver_counts, State.ctr_msgDone_other _ _ (by decide), State.handedOver_pair, pair]
    refine ⟨SMap.find?_erase_self _ _, SMap.find?_erase_self _ _, rfl, ?_, ?_, rfl⟩ <;> simp [State.handedOver]
  · obtain ⟨u, departs, departed, mode⟩ := s.twinDeparts_serve hs
    exact ⟨u, departs, departed, by rw [mode], by rw [mode], by rw [mode]⟩

end Sys2Proof
end

section
namespace Sys2Proof.Machine

/-! ## What a home line holds rests on the home lines alone; where a line lies, on the tier manager and the remap table (R160, R263) -/

theorem State.cell_congr {s t : State} (e : t.mem = s.mem) (h : Home) : t.cell h = s.cell h := by simp only [State.cell, e]

theorem State.remapOf_congr {s t : State} (e : t.ec.remaps = s.ec.remaps) (h : Home) : t.remapOf h = s.remapOf h := by
  simp only [State.remapOf, e]

theorem State.homeOf_congr {s t : State} (e : t.tier = s.tier) (line : Nat) : t.homeOf line = s.homeOf line := by
  simp only [State.homeOf, State.moveOf, State.placeOf, e]

theorem State.dramOf_congr {s t : State} (er : t.regs = s.regs) (ef : t.flt = s.flt) (h : Home) : t.dramOf h = s.dramOf h := by
  have fld : t.fld = s.fld := by funext a f; simp only [State.fld, State.reg, er]
  have selects : t.selects = s.selects := by funext a nn n; simp only [State.selects, State.xmask, fld]
  unfold State.dramOf
  rw [fld, selects, ef]

theorem State.inRow_congr {s t : State} (er : t.regs = s.regs) (ef : t.flt = s.flt) (r : RepairedRow) (h : Home) :
    t.inRow r h = s.inRow r h := by
  simp only [State.inRow, State.dramOf_congr er ef]

/-- A fold leaves a home line alone where each of its steps does. -/
theorem foldl_cell {β : Type} (f : State → β → State) (h : Home) (l : List β) (s : State) (k : ∀ a, ∀ x ∈ l, (f a x).cell h = a.cell h) :
    (l.foldl f s).cell h = s.cell h :=
  List.foldlRecOn l f (motive := fun t => t.cell h = s.cell h) rfl fun a ha x hx => (k a x hx).trans ha

theorem State.pump_cell (s : State) (h : Home) : s.pump.cell h = s.cell h := State.cell_congr (by simp) h

theorem State.logRec_cell (s : State) (typ source cls : Nat) (payload : List Word) (h : Home) :
    (s.logRec typ source cls payload).cell h = s.cell h := State.cell_congr (by simp) h

theorem State.ecRecord_cell (s : State) (typ cls dev nsym port flags : Nat) (k : Home) (devaddr syms : Nat) (h : Home) :
    (s.ecRecord typ cls dev nsym port flags k devaddr syms).cell h = s.cell h := State.cell_congr (by simp) h

theorem State.poisonWritten_cell (s : State) (port cause line : Nat) (h : Home) : (s.poisonWritten port cause line).cell h = s.cell h :=
  State.cell_congr (s.poisonWritten_mem port cause line) h

/-- In the state given, a command that answers a next state leaves what a home line holds as it was. -/
def LeavesCell (i : Instr) (s : State) (h : Home) : Prop := ∀ t, exec i s = .next t → t.cell h = s.cell h

theorem leavesCell_next {i : Instr} {s u : State} {h : Home} (e : exec i s = .next u) (k : u.cell h = s.cell h) : LeavesCell i s h := by
  intro t ht
  rw [e, Host.Outcome.next.injEq] at ht
  rwa [← ht]

/-! ## Writes that retire (R226) -/

/-- The state in which a write has left its channel's queue. -/
def State.dequeued (s : State) (inst req : Nat) : State :=
  (s.setChan inst { s.chan inst with wq := (s.chan inst).wq.filter (fun q => q.id != req) }).settle inst

theorem exec_writeQueueRetire (inst req : Nat) (r : ChReq) (s : State)
    (hr : (s.chan inst).wq.find? (fun r => r.id == req && r.issued) = some r) : exec (.writeQueueRetire inst req) s =
      .next (if (s.chan inst).state = .active then (r.wr.elim (s.dequeued inst req) ((s.dequeued inst req).setCell r.home)).pump else s) := by
  simp only [exec, execWriteQueueRetire, hr]
  by_cases ha : (s.chan inst).state = .active
  · cases hw : r.wr <;> simp [ha, State.dequeued]
  · simp [ha]

theorem State.dequeued_keeps (s : State) (inst req : Nat) : (s.dequeued inst req).mem = s.mem ∧ (s.dequeued inst req).trk = s.trk ∧
    (s.dequeued inst req).ec = s.ec := by
  simp [State.dequeued]

theorem writeQueueRetire_leavesCell (inst req : Nat) (r : ChReq) (s : State) (h : Home)
    (hr : (s.chan inst).wq.find? (fun r => r.id == req && r.issued) = some r) (hh : h.key ≠ r.home.key) :
    LeavesCell (.writeQueueRetire inst req) s h := by
  refine leavesCell_next (exec_writeQueueRetire inst req r s hr) ?_
  have left : (s.dequeued inst req).cell h = s.cell h := State.cell_congr (s.dequeued_keeps inst req).1 h
  split
  · rw [State.pump_cell]
    cases r.wr with
    | none => exact left
    | some w => exact (State.cell_setCell_other _ _ _ w hh).trans left
  · rfl

/-! ## Moves (R165) -/

theorem State.landCell_ec (s : State) (k : Home) (c : Option Cell) : (s.landCell k c).ec = s.ec := by simp

theorem State.cell_landCell_other (s : State) (h k : Home) (c : Option Cell) (n : h.key ≠ (s.remapOf k).key) :
    (s.landCell k c).cell h = s.cell h := by
  have ec : (s.unqueue k).ec = s.ec := by simp
  rw [← State.remapOf_congr (congrArg _ ec)] at n
  have left : (s.unqueue k).cell h = s.cell h := State.cell_congr (State.unqueue_mem s k) h
  unfold State.landCell
  cases c with
  | none => exact (SMap.find?_erase_other _ _ _ (Ne.symm n)).trans left
  | some c => exact (State.cell_setCell_other _ _ _ c n).trans left

/-- Moving a line leaves every home line alone but the one it comes to, and the remap table as it was. -/
theorem State.moveLine_cell (s t : State) (m : Move) (h : Home) (e : s.moveLine m = some t)
    (n : h.key ≠ (s.remapOf ⟨m.toHbm, m.toHome * extentLines + m.cursor⟩).key) :
    t.ec.remaps = s.ec.remaps ∧ t.cell h = s.cell h := by
  have landed : ∀ (a : State) (c : Option Cell), a.ec.remaps = s.ec.remaps → a.mem = s.mem →
      (a.landCell ⟨m.toHbm, m.toHome * extentLines + m.cursor⟩ c).ec.remaps = s.ec.remaps ∧
      (a.landCell ⟨m.toHbm, m.toHome * extentLines + m.cursor⟩ c).cell h = s.cell h := fun a c hr hm =>
    ⟨(congrArg _ (a.landCell_ec _ c)).trans hr,
      (State.cell_landCell_other a h _ c (by rwa [State.remapOf_congr hr])).trans (State.cell_congr hm h)⟩
  unfold State.moveLine at e
  dsimp only at e
  (repeat' split at e) <;> simp only [reduceCtorEq, Option.some.injEq] at e <;> subst e
  · exact ⟨rfl, rfl⟩
  all_goals exact landed _ _ (by simp [State.setMerge]) (by simp)

theorem State.moveOf_extent {s : State} {x : Nat} {m : Move} (e : s.moveOf x = some m) : m.extent = x := by
  simpa using List.find?_some e

theorem State.moveOf_setMove (s : State) (x : Nat) (k m : Move) (e : s.moveOf x = some k) (hm : m.extent = x) :
    (s.setMove m).moveOf x = some m := by
  simp only [State.moveOf, State.setMove, List.find?_map] at e ⊢
  have same : ((fun a : Move => a.extent == x) ∘ fun a => if a.extent = m.extent then m else a) = fun a => a.extent == x := by
    funext a
    by_cases h : a.extent = x <;> simp [h, hm]
  rw [same, e]
  simp [State.moveOf_extent (s := s) e, hm]

/-- Moving lines leaves alone every home line that is no line of the place the extent moves to. -/
theorem State.moveLines_cell (n : Nat) (s : State) (x : Nat) (m : Move) (h : Home) (e : s.moveOf x = some m)
    (k : ∀ o ∈ List.range extentLines, h.key ≠ (s.remapOf ⟨m.toHbm, m.toHome * extentLines + o⟩).key) :
    (State.moveLines n s x).cell h = s.cell h := by
  induction n generalizing s m with
  | zero => rfl
  | succ n ih =>
    simp only [State.moveLines, e]
    split
    · rfl
    · next hc =>
      split
      · next t ht =>
        obtain ⟨remaps, cell⟩ := s.moveLine_cell t m h ht (k _ (List.mem_range.mpr (Nat.lt_of_not_le hc)))
        have tier : t.tier = s.tier := by simp [State.moveLine_frame s m t ht]
        have moving : t.moveOf x = some m := by rwa [State.moveOf, tier]
        have next := t.moveOf_setMove x m { m with cursor := m.cursor + 1 } moving (State.moveOf_extent (m := m) e)
        have remapped : ∀ o, (t.setMove { m with cursor := m.cursor + 1 }).remapOf o = s.remapOf o := State.remapOf_congr remaps
        exact (ih _ _ next (by simpa only [remapped] using k)).trans cell
      · exact State.cell_congr (by simp) h

theorem moveComplete_leavesCell (x : Nat) (m : Move) (s : State) (h : Home) (e : s.moveOf x = some m)
    (k : ∀ o ∈ List.range extentLines, h.key ≠ (s.remapOf ⟨m.toHbm, m.toHome * extentLines + o⟩).key) :
    LeavesCell (.moveComplete x) s h := by
  refine leavesCell_next rfl ?_
  split
  · rfl
  · have moved := State.moveLines_cell extentLines s x m h e k
    dsimp only
    generalize State.moveLines extentLines s x = u at moved ⊢
    split
    · exact moved
    · refine (State.cell_congr ?_ h).trans moved
      split <;> simp

/-! ## Restores of leaves (R313) -/

/-- A home line is the home of no line of the leaf. -/
def State.OffLeaf (s : State) (leaf : Nat) (h : Home) : Prop :=
  ∀ k ∈ List.range leafLines, h.key ≠ (s.remapOf (s.homeOf (leafLines * leaf + k))).key

theorem State.offLeaf_congr {s t : State} (ht : t.tier = s.tier) (he : t.ec = s.ec) (leaf : Nat) (h : Home) :
    t.OffLeaf leaf h ↔ s.OffLeaf leaf h := by
  have remaps : t.ec.remaps = s.ec.remaps := congrArg _ he
  simp only [State.OffLeaf, State.homeOf_congr ht, State.remapOf_congr remaps]

/-- Writing lines one after another leaves a home line alone that no step writes; the steps keep the places of the lines. -/
theorem foldl_cell_placed {β : Type} (f : State → β → State) (h : Home) (l : List β) (s : State)
    (hf : ∀ a x, (f a x).tier = a.tier ∧ (f a x).ec = a.ec)
    (k : ∀ a, ∀ x ∈ l, a.tier = s.tier → a.ec = s.ec → (f a x).cell h = a.cell h) : (l.foldl f s).cell h = s.cell h := by
  have kept : (l.foldl f s).tier = s.tier ∧ (l.foldl f s).ec = s.ec ∧ (l.foldl f s).cell h = s.cell h :=
    List.foldlRecOn l f (motive := fun t => t.tier = s.tier ∧ t.ec = s.ec ∧ t.cell h = s.cell h) ⟨rfl, rfl, rfl⟩
      fun a ⟨ht, he, hc⟩ x hx => ⟨(hf a x).1.trans ht, (hf a x).2.trans he, (k a x hx ht he).trans hc⟩
  obtain ⟨_, _, cell⟩ := kept
  exact cell

theorem State.putRecord_cell (s : State) (r : LeafRec) (h : Home) (n : s.OffLeaf r.leaf h) : (s.putRecord r).cell h = s.cell h := by
  refine foldl_cell_placed _ h _ s (fun a k => by simp) fun a k hk ht he => ?_
  have off := (State.offLeaf_congr ht he r.leaf h).mpr n k hk
  unfold State.putRecLine
  dsimp only
  split <;> exact State.cell_setCell_other a _ _ _ off

theorem State.poisonLeaf_cell (s : State) (leaf cause : Nat) (h : Home) (n : s.OffLeaf leaf h) :
    (s.poisonLeaf leaf cause).cell h = s.cell h := by
  unfold State.poisonLeaf
  refine (State.logRec_cell _ _ _ _ _ h).trans ?_
  refine foldl_cell_placed _ h _ s (fun a k => by simp) fun a k hk ht he => ?_
  exact (State.poisonWritten_cell _ _ _ _ h).trans
    (State.cell_setCell_other a _ _ _ ((State.offLeaf_congr ht he leaf h).mpr n k hk))

/-- The record chosen for a leaf is a record of the leaf (R314). -/
theorem State.chooseRecord_leaf (n leaf : Nat) (loc : Option Nat) (reads : List PageRead) (epoch : Option Nat) (s : State) (r : LeafRec)
    (e : (State.chooseRecord n leaf loc reads epoch s).2 = some r) : r.leaf = leaf := by
  induction n generalizing loc reads s with
  | zero => simp [State.chooseRecord] at e
  | succ n ih =>
    unfold State.chooseRecord at e
    split at e
    · simp at e
    · split at e
      · simp at e
      · split at e
        · simp at e
        · next hl =>
          dsimp only at e
          generalize (_ && _) = fits at e
          cases fits with
          | true => exact Option.some.inj e ▸ Decidable.not_not.mp hl
          | false => exact ih _ _ _ e

theorem State.leafRestored_cell (s : State) (leaf : Nat) (h : Home) : (s.leafRestored leaf).cell h = s.cell h :=
  State.cell_congr (by simp) h

theorem leafRestoreDone_leavesCell (leaf : Nat) (reads : List PageRead) (s : State) (h : Home) (n : s.OffLeaf leaf h) :
    LeavesCell (.leafRestoreDone leaf reads) s h := by
  refine leavesCell_next rfl ?_
  have poisoned : ∀ (a : State) (cause : Nat), a.tier = s.tier → a.ec = s.ec → a.mem = s.mem →
      ((a.poisonLeaf leaf cause).leafRestored leaf).cell h = s.cell h := fun a cause ht he hm => by
    rw [State.leafRestored_cell, a.poisonLeaf_cell leaf cause h ((State.offLeaf_congr ht he leaf h).mpr n), State.cell_congr hm]
  have put : ∀ (k : Nat) (loc epoch : Option Nat) (r : LeafRec), (State.chooseRecord k leaf loc reads epoch s).2 = some r →
      (((State.chooseRecord k leaf loc reads epoch s).1.putRecord r).leafRestored leaf).cell h = s.cell h := fun k loc epoch r hr => by
    have off : (State.chooseRecord k leaf loc reads epoch s).1.OffLeaf r.leaf h := by
      rw [State.chooseRecord_leaf _ _ _ _ _ _ _ hr, State.offLeaf_congr (s := s) (by simp) (by simp)]
      exact n
    rw [State.leafRestored_cell, State.putRecord_cell _ r h off, State.cell_congr (s := s) (by simp)]
  split
  · rfl
  · split
    · rfl
    · split
      · exact State.cell_congr (by simp) h
      · split
        · split
          · rfl
          · dsimp only
            split
            · next r hr =>
              split
              · exact put _ _ _ r hr
              · exact poisoned _ 5 (by simp) (by simp) (by simp)
            · exact poisoned _ 5 (by simp) (by simp) (by simp)
        · split
          · exact poisoned s 6 rfl rfl rfl
          · dsimp only
            split
            · next r hr =>
              split
              · exact put _ _ _ r hr
              · exact State.cell_congr (by simp) h
            · split
              · exact State.cell_congr (by simp) h
              · exact poisoned _ 6 (by simp) (by simp) (by simp)

/-! ## Lines that the twin restores (R124, R313) -/

theorem State.restoredLines_cell (s : State) (leaf : Nat) (l : List LineRec) (h : Home)
    (n : ∀ r ∈ l, h.key ≠ (s.remapOf (s.homeOf r.line)).key) : (s.restoredLines leaf l).cell h = s.cell h := by
  have lines : ∀ s' : State, s'.tier = s.tier → s'.ec = s.ec → s'.mem = s.mem → (l.foldl State.restoredLine s').cell h = s.cell h :=
    fun s' ht he hm => by
    refine Eq.trans ?_ (State.cell_congr hm h)
    refine foldl_cell_placed _ h l s' (fun a r => by simp) fun a r hr hta hea => ?_
    have remaps : a.ec.remaps = s.ec.remaps := congrArg _ (hea.trans he)
    have off : h.key ≠ (a.remapOf (a.homeOf r.line)).key := by
      rw [State.homeOf_congr (hta.trans ht), State.remapOf_congr remaps]
      exact n r hr
    unfold State.restoredLine
    split <;> exact State.cell_setCell_other a _ _ _ off
  unfold State.restoredLines
  dsimp only
  split <;> exact lines _ rfl rfl rfl

theorem raResp_leavesCell (m : TwMsg) (s : State) (h : Home) (hm : s.nextMsg 0x08 = some m)
    (n : ∀ r ∈ m.lines, h.key ≠ (s.remapOf (s.homeOf r.line)).key) : LeavesCell .raResp s h := by
  refine leavesCell_next rfl ?_
  rw [hm]
  have remaps : s.msgDone.ec.remaps = s.ec.remaps := by simp
  have done : s.msgDone.cell h = s.cell h := State.cell_congr (by simp) h
  dsimp only
  split
  · refine (State.restoredLines_cell _ _ _ h fun r hr => ?_).trans done
    rw [State.homeOf_congr (s := s) (by simp), State.remapOf_congr remaps]
    exact n r hr
  · rw [State.pump_cell]
    refine (State.cell_congr ?_ h).trans done
    exact foldl_mem _ (fun a r => by (repeat' split) <;> simp) m.lines _

/-! ## Checker tests (R279) -/

theorem State.testHome_setReg_ctl (s : State) (w : Word) : (s.setReg Reg.EC_TEST_CTL w).testHome = s.testHome := by
  have other : ∀ a, Reg.EC_TEST_CTL ≠ a → (s.setReg Reg.EC_TEST_CTL w).reg a = s.reg a := fun a n => State.reg_setReg_other s _ a w n
  simp only [State.testHome, State.fld, other _ (by decide : Reg.EC_TEST_CTL ≠ Reg.EC_TEST_ADDR_HI),
    other _ (by decide : Reg.EC_TEST_CTL ≠ Reg.EC_TEST_ADDR_LO)]

theorem State.testHome_congr {s t : State} (e : t.regs = s.regs) : t.testHome = s.testHome := by
  have reg : t.reg = s.reg := funext fun a => by simp only [State.reg, e]
  simp only [State.testHome, State.fld, reg]

/-- A checker test leaves a home line alone where its operation on the line EC_TEST_ADDR names does. -/
theorem State.testOp_cell (s : State) (who op : Nat) (ctl : Word) (run : State → Home → State) (h : Home)
    (k : ∀ a, (run a s.testHome).cell h = a.cell h) : (s.testOp who op ctl run).cell h = s.cell h := by
  have left : (s.guarded who).2.cell h = s.cell h := State.cell_congr (by simp) h
  have regs : (s.guarded who).2.regs = s.regs := by simp
  have res : ∀ (a : State) (r : Nat), (a.testRes r).cell h = a.cell h := fun _ _ => rfl
  unfold State.testOp
  split
  · rfl
  · split
    · next t e => rwa [e] at left
    · next t e =>
      rw [e] at left regs
      have named : ∀ w, (t.setReg Reg.EC_TEST_CTL w).testHome = s.testHome := fun w =>
        (t.testHome_setReg_ctl w).trans (State.testHome_congr regs)
      dsimp only
      refine Eq.trans ?_ left
      split
      · exact res _ _
      · split
        · exact res _ _
        · rw [res, named]
          exact k _

theorem testWrite_leavesCell (who : Nat) (ctl : Word) (i : Instr) (s : State) (h : Home) (hi : i = .rawWrite who ctl ∨ i = .encWrite who ctl)
    (n : h.key ≠ s.testHome.key) : LeavesCell i s h := by
  rcases hi with rfl | rfl <;>
    exact leavesCell_next rfl (State.testOp_cell s who _ ctl _ h fun a => State.cell_setCell_other a _ _ _ n)

/-! ## Row repairs (R267) -/

theorem State.key_ne_of_inRow (s : State) (r : RepairedRow) (h k : Home) (hh : s.inRow r h = false) (hk : s.inRow r k = true) :
    h.key ≠ k.key := by
  intro e
  rw [Home.key_inj h k e, hk] at hh
  exact Bool.noConfusion hh

theorem State.rowBack_cell (s : State) (r : RepairedRow) (h k : Home) (c : Cell) (n : h.key ≠ k.key) :
    (s.rowBack r k c).cell h = s.cell h := by
  have set : ∀ d, (s.setCell k d).cell h = s.cell h := fun d => State.cell_setCell_other s k h d n
  unfold State.rowBack
  split
  · exact set _
  · split
    · exact set _
    · split
      · exact set _
      · split
        · exact set _
        · exact (State.poisonWritten_cell _ _ _ _ h).trans (set _)

theorem State.unremap_cell (s : State) (r : Remap) (h : Home) (n : h.key ≠ r.src.key) : (s.unremap r).cell h = s.cell h := by
  have left : (s.unqueue r.src).cell h = s.cell h := State.cell_congr (State.unqueue_mem s r.src) h
  unfold State.unremap
  refine (State.ecRecord_cell _ _ _ _ _ _ _ _ _ _ h).trans ?_
  split
  · exact (State.cell_setCell_other _ r.src h _ n).trans left
  · exact (SMap.find?_erase_other _ _ _ (Ne.symm n)).trans left

theorem pprDone_leavesCell (outcome : Nat) (p : RowRepair) (s : State) (h : Home) (hp : s.ec.repair = some p)
    (n : s.inRow p.row h = false) : LeavesCell (.pprDone outcome) s h := by
  refine leavesCell_next rfl ?_
  split
  · rfl
  · next q hq =>
    obtain rfl : p = q := Option.some.inj (hp.symm.trans hq)
    extract_lets r cells free written unremapped rows c d a logged
    have freed : ∀ (a : State) (q : Reply) (good : Bool), (((free a).finish p.tag q).repairEnd p good).cell h = a.cell h :=
      fun a q good => State.cell_congr (by simp [free]) h
    have written_cell : written.cell h = s.cell h :=
      foldl_cell _ h cells s fun a c hc => a.rowBack_cell r h c.1 c.2 (s.key_ne_of_inRow r h c.1 n (List.mem_filter.mp hc).2)
    have outside : written.inRow r h = false := by
      rw [State.inRow_congr (s := s) (by simp [written]) (by simp [written])]
      exact n
    have unremapped_cell : unremapped.cell h = written.cell h :=
      foldl_cell _ h _ written fun a q hq => a.unremap_cell q h (written.key_ne_of_inRow r h q.src outside (List.mem_filter.mp hq).2)
    have logged_cell : logged.cell h = unremapped.cell h := by
      clear_value unremapped
      exact State.cell_congr (by simp [logged, d]) h
    clear_value logged unremapped written
    split
    · rfl
    · split
      · exact freed s _ _
      · refine Eq.trans ?_ written_cell
        split
        · exact freed written _ _
        · rw [State.pump_cell, freed, logged_cell, unremapped_cell]

end Sys2Proof.Machine
end

section
namespace Sys2Proof
open Sys2Proof.Machine

/-- Settles O5: each command writes home lines in one or two folds, of which each step writes a home line that the statement names; what comes after,
the request path included, leaves the home lines alone. -/
theorem homeLineFrames : Obligations.HomeLineFrames :=
  ⟨fun inst req r s t h hr ht hh => writeQueueRetire_leavesCell inst req r s h hr hh t ht,
    fun x m s t h hm ht hh => moveComplete_leavesCell x m s h hm hh t ht,
    fun leaf reads s t h ht hh => leafRestoreDone_leavesCell leaf reads s h hh t ht,
    fun m s t h hm ht hh => raResp_leavesCell m s h hm hh t ht,
    fun who ctl i s t h hi ht hh => testWrite_leavesCell who ctl i s h hi hh t ht,
    fun outcome p s t h hp ht hh => pprDone_leavesCell outcome p s h hp hh t ht⟩

end Sys2Proof
end

section
namespace Sys2Proof.Machine

/-! ## Home reads as they return (R188, R226, R240) -/

theorem exec_homeReadReturn_idle (inst req : Nat) (errs : List (Nat × BitVec 16)) (s : State)
    (h : (s.chan inst).rq.find? (fun r => r.id == req && r.issued) = none ∨ (s.chan inst).state ≠ .active) :
    exec (.homeReadReturn inst req errs) s = .next s := by
  simp only [exec, execHomeReadReturn]
  rcases h with h | h
  · rw [h]
  · split
    · rfl
    · rw [if_pos (by simpa using h)]

theorem exec_homeReadReturn_entry (inst req id : Nat) (errs : List (Nat × BitVec 16)) (r : ChReq) (s : State)
    (hr : (s.chan inst).rq.find? (fun r => r.id == req && r.issued) = some r) (ha : (s.chan inst).state = .active)
    (hd : r.rd = some (.entry id)) : exec (.homeReadReturn inst req errs) s = .next
      ((((s.setChan inst { s.chan inst with rq := (s.chan inst).rq.filter (fun q => q.id != req) }).settle inst).readReturn id r.port r.home
        (errWord errs)).pump) := by
  simp [exec, execHomeReadReturn, hr, ha, hd]

/-- What comes of a host's read whose home line has been read. -/
def State.hostRead (s : State) (e : Entry) (h : Home) (port : Nat) (r : ReadRes × List (Nat × Nat)) : State :=
  match r with
  | (.data d, corr) => (s.noteCorrected h e.line port corr).deliver e.line d false false
  | (.poison, corr) => ((s.noteCorrected h e.line port corr).bump Ctr.EC_CNT_POISON_RD).deliver e.line 0 true false
  | (.uncorrectable, corr) => (s.noteCorrected h e.line port corr).uncorrectable h e.line port

theorem State.readReturn_host (s : State) (id port : Nat) (h : Home) (errs : List (Nat × Nat)) (e : Entry) (c : Cell) (p k ld tag : Nat)
    (he : s.entry id = some e) (hd : e.dst = .cxl p k ld tag false) (hc : s.cell h = some c) : s.readReturn id port h errs =
      s.hostRead e h port (s.readCell h.hbm (s.markOf h) (some c) e.line (s.keySlotOf e.line) errs) := by
  simp only [State.readReturn, he, hd, hc, Option.isNone_some, Bool.false_eq_true, if_false]
  obtain ⟨r, corr⟩ := s.readCell h.hbm (s.markOf h) (some c) e.line (s.keySlotOf e.line) errs
  cases r <;> rfl

/-! ## Refetches (R188, R190) -/

theorem State.chan_setChan_self (s : State) (inst : Nat) (c : Channel) : (s.setChan inst c).chan inst = c := SMap.getD_put_self _ _ _ _

theorem State.chan_congr {s t : State} (e : t.ch = s.ch) (inst : Nat) : t.chan inst = s.chan inst := by simp only [State.chan, e]

/-- An active channel freezes with its capture (R240). -/
theorem State.freeze_active (s : State) (inst cause : Nat) (at_ : Option (DramAddr × Home)) (ha : (s.chan inst).state = .active) :
    (s.freeze inst cause at_).chan inst = { s.chan inst with state := .frozen, capCause := cause, capAt := at_, capTime := s.now,
                                                             frozenAt := s.now } := by
  have frozen : (s.freeze inst cause at_).chan inst =
      (s.setChan inst { s.chan inst with state := .frozen, capCause := cause, capAt := at_, capTime := s.now, frozenAt := s.now }).chan inst := by
    simp only [State.freeze, ha, reduceCtorEq, beq_iff_eq, if_false, if_true]
    exact State.chan_congr (by simp [State.report]) inst
  exact frozen.trans (s.chan_setChan_self inst _)

theorem State.noteUncorrectable_freezes (s : State) (h : Home) (line port : Nat) (ha : (s.chan (s.dramOf h).inst).state = .active) :
    let c := (s.noteUncorrectable h line port).chan (s.dramOf h).inst
    c.state = .frozen ∧ c.capCause = 1 ∧ c.capAt = some (s.dramOf h, h) := by
  have chan : ((s.bump Ctr.EC_CNT_UE).ecRecord 0x32 Cls.major 0xFF 0 port 0 h (64 * line) 0).chan (s.dramOf h).inst =
      s.chan (s.dramOf h).inst := State.chan_congr (by simp) _
  unfold State.noteUncorrectable
  dsimp only
  rw [State.freeze_active _ _ _ _ (by rwa [chan])]
  exact ⟨rfl, rfl, rfl⟩

theorem State.refetchStart_local (s : State) (line : Nat) (hn : s.tier.refetch.has line = false) (hm : s.mirrored = false) :
    s.refetchStart line = s.setRefetch line (some (if s.windowHas (leafOf line) then 2 else 1)) := by
  simp [State.refetchStart, hn, hm, State.refetchLocal]

theorem State.refetchStart_twin (s : State) (line : Nat) (hn : s.tier.refetch.has line = false) (hm : s.mirrored = true) :
    (s.refetchStart line).tier.refetch.find? line = some 0 ∧
    (s.refetchStart line).pair.refetches = s.pair.refetches ++ [(s.twl.nextTag, line)] ∧ (s.refetchStart line).mem = s.mem ∧
    (s.refetchStart line).ch = s.ch := by
  have asked : s.refetchStart line = { (s.handNew 0x07 [.line ⟨line, 0, 0, .nodata⟩]).setRefetch line (some 0) with
      pair := { (s.handNew 0x07 [.line ⟨line, 0, 0, .nodata⟩]).pair with
        refetches := (s.handNew 0x07 [.line ⟨line, 0, 0, .nodata⟩]).pair.refetches ++ [(s.newTag, line)] } } := by
    simp only [State.refetchStart, hn, hm, Bool.false_eq_true, if_false, if_true]
  rw [asked]
  exact ⟨SMap.find?_insert_self _ _ _, by simp [State.newTag], by simp, by simp⟩

theorem exec_mergedRefetchDone_vault (line : Nat) (d : Line) (s : State) (hr : s.tier.refetch.find? line = some 1)
    (hd : s.vaultLine line = some (.data d)) : exec (.mergedRefetchDone line 0) s = .next ((s.refetchGood line d).pump) := by
  simp [exec, execMergedRefetchDone, hr, hd]

theorem exec_mergedRefetchDone_bad (line bad : Nat) (s : State) (hr : s.tier.refetch.find? line = some 1) (hb : bad ≠ 0) :
    exec (.mergedRefetchDone line bad) s =
      .next (if s.mirrored then (s.refetchPoison line).pump else s.setRefetch line (some 2)) := by
  simp [exec, execMergedRefetchDone, hr, hb]

theorem exec_mergedRefetchDone_frozen (line bad : Nat) (s : State) (hr : s.tier.refetch.find? line = some 2) :
    exec (.mergedRefetchDone line bad) s = .next ((s.refetchPoison line).pump) := by
  simp [exec, execMergedRefetchDone, hr]

/-- With no entry in the tracker the data of a line is delivered to its slice alone. -/
theorem State.deliver_no_entries (s : State) (line : Nat) (d : Line) (poison dirty : Bool) (h : s.trk.entries.cells = []) :
    s.deliver line d poison dirty = (s.arrive 6 line d poison dirty).1 := by
  simp [State.deliver, State.byArrival, h]

/-! ## Merge entries (R76, R269 to R272) -/

theorem exec_mergeEntryTimeout_idle (line : Nat) (errs : List (Nat × BitVec 16)) (s : State)
    (h : s.mergeOf line = none ∨ s.atCursor line = true ∨ s.stopped (s.homeOf line) = true) :
    exec (.mergeEntryTimeout line errs) s = .next s := by
  simp only [exec, execMergeEntryTimeout]
  split
  · rfl
  · next m hm => rw [if_pos (by simpa [hm] using h)]

theorem State.not_retired_of_not_stopped (s : State) (h : Home) (hs : s.stopped h = false) : (s.chan (s.instOf h)).state ≠ .retired := by
  simp only [State.stopped, Bool.or_eq_false_iff, beq_eq_false_iff_ne] at hs
  exact hs.2

theorem exec_mergeEntryTimeout_full (line : Nat) (errs : List (Nat × BitVec 16)) (m : MergeEntry) (s : State) (hm : s.mergeOf line = some m)
    (hc : s.atCursor line = false) (hs : s.stopped (s.homeOf line) = false) (hf : m.mask = Mask.full) :
    exec (.mergeEntryTimeout line errs) s = .next
      ((((s.setMerge line none).writeHome 1 0 line (s.homeOf line) (s.cellOf line m.data false)).bump Ctr.EC_CNT_MERGE_FULL).pump) := by
  have running := s.not_retired_of_not_stopped _ hs
  simp [exec, execMergeEntryTimeout, hm, hc, hs, hf, State.mergeFlushFull, running]

/-- A write to a home line leaves the merge buffers alone. -/
theorem State.writeHome_merge (s : State) (port level line : Nat) (h : Home) (c : Cell) :
    (s.writeHome port level line h c).ec.merge = s.ec.merge := by
  unfold State.writeHome
  dsimp only
  repeat' split
  all_goals simp

theorem exec_mergeEntryTimeout_zero (line : Nat) (errs : List (Nat × BitVec 16)) (m : MergeEntry) (s : State) (hm : s.mergeOf line = some m)
    (hc : s.atCursor line = false) (hs : s.stopped (s.homeOf line) = false) (hp : m.mask ≠ Mask.full) (hz : s.readsZero line = true)
    (hn : s.mergeCount m.inst ≤ 56) : exec (.mergeEntryTimeout line errs) s = .next
      (((((s.bump Ctr.EC_CNT_MERGE_TIMEOUT).bump Ctr.EC_CNT_RMW).setMerge line none).writeHome 5
        (if s.trk.entries.cells.any (fun c => c.2.state == .merge) then 3 else 0) line (s.homeOf line)
        (((s.bump Ctr.EC_CNT_MERGE_TIMEOUT).bump Ctr.EC_CNT_RMW).cellOf line (m.overlay (.data 0)) false)).pump) := by
  have calm : ¬ 56 < s.mergeCount m.inst := Nat.not_lt.mpr hn
  have zero : ((s.bump Ctr.EC_CNT_MERGE_TIMEOUT).bump Ctr.EC_CNT_RMW).readsZero line = true := hz
  simp [exec, execMergeEntryTimeout, hm, hc, hs, hp, calm, zero, State.noteCorrected]

end Sys2Proof.Machine
end

section
namespace Sys2Proof
open Sys2Proof.Machine

/-- Settles O48: each command is one branch of its definition; a delivery to an empty tracker is the arrival of the line, and the settling of a
channel's queues leaves home lines, tracker and code engines alone. -/
theorem homeReadsAndWrites : Obligations.HomeReadsAndWrites := by
  refine ⟨fun inst req errs s h => ⟨s, exec_homeReadReturn_idle inst req errs s h, rfl⟩,
    fun inst req errs r e c p k ld tag id u s hr ha hd hu he ht hc => ⟨_, exec_homeReadReturn_entry inst req id errs r s hr ha hd, ?_⟩,
    fun s h line port ha => ?_,
    State.refetchStart_local,
    State.refetchStart_twin,
    fun line bad d s hr hb hd => ⟨_, hb ▸ exec_mergedRefetchDone_vault line d s hr hd, rfl⟩,
    fun line bad s hr hb => ⟨_, exec_mergedRefetchDone_bad line bad s hr hb, rfl⟩,
    fun line bad s hr => ⟨_, exec_mergedRefetchDone_frozen line bad s hr, rfl⟩,
    fun s line d h => ?_,
    fun line errs m s hm hc hs hf => ⟨_, exec_mergeEntryTimeout_full line errs m s hm hc hs hf, _, rfl, ?_, rfl⟩,
    fun line errs m s hm hc hs hp hz hn => ⟨_, exec_mergeEntryTimeout_zero line errs m s hm hc hs hp hz hn, rfl⟩,
    fun line errs s h => ⟨s, exec_mergeEntryTimeout_idle line errs s h, rfl⟩,
    fun inst req r w s hr ha hw => ⟨_, exec_writeQueueRetire inst req r s hr, ?_⟩⟩
  · rw [← hu, u.readReturn_host id r.port r.home (errWord errs) e c p k ld tag he ht hc]
    rfl
  · obtain ⟨state, cause, captured⟩ := s.noteUncorrectable_freezes h line port ha
    exact ⟨state, cause, captured, by simp, by simp⟩
  · have empty : ((s.setRefetch line none).bump Ctr.TM_CNT_MERGE_REFETCH).trk.entries.cells = [] := h
    simp only [State.refetchGood, State.deliver_no_entries _ line d false true empty]
  · simp only [State.mergeOf, State.bump_frame, State.writeHome_merge]
    exact SMap.find?_erase_self _ _
  · obtain ⟨mem, trk, ec⟩ := s.dequeued_keeps inst req
    rw [if_pos ha, hw, Option.elim_some]
    exact ⟨_, rfl, State.cell_setCell_self _ _ _, fun h n => (State.cell_setCell_other _ _ _ _ n).trans (State.cell_congr mem h),
      by simpa using trk, by simpa using ec⟩

end Sys2Proof
end

section
namespace Sys2Proof.Machine

/-! ## Moves begin (R164, R169, R171) -/

/-- MOVE_START has no effect: no move is allowed, or the extent is outside the served range, moves, is fenced, or CONC moves run. -/
def State.MoveBarred (s : State) (x : Nat) : Prop :=
  s.movesAllowed = false ∨ s.addr.served.len ≤ x ∨ (s.moveOf x).isSome = true ∨ s.fencedExtent x = true ∨ s.conc ≤ s.tier.moves.length

/-- The move of an extent that has been asked for, away from where it lies. -/
def State.askOf (s : State) (x : Nat) : Option MoveAsk := s.tier.asks.find? (fun a => a.extent == x && a.toHbm == !(s.placeOf x).1)

/-- A leaf of the extent waits for its restore. -/
def State.leafWaits (s : State) (x : Nat) : Bool := s.vlt.unrestored.cells.any (fun c => c.1 / extentLeaves == x)

theorem State.moveBarred_iff (s : State) (x : Nat) : s.MoveBarred x ↔ (!s.movesAllowed || !decide (x < s.addr.served.len) ||
    (s.moveOf x).isSome || s.fencedExtent x || decide (s.conc ≤ s.tier.moves.length)) = true := by
  simp [State.MoveBarred, or_assoc]

theorem State.not_moveBarred (s : State) (x : Nat) (ha : s.movesAllowed = true) (hx : x < s.addr.served.len) (hm : s.moveOf x = none)
    (hf : s.fencedExtent x = false) (hc : s.tier.moves.length < s.conc) : ¬ s.MoveBarred x := by
  simp [State.MoveBarred, ha, hx, hm, hf, hc]

theorem exec_moveStart_barred (x : Nat) (s : State) (h : s.MoveBarred x) : exec (.moveStart x) s = .next s := by
  simp only [exec, execMoveStart]
  rw [if_pos ((s.moveBarred_iff x).mp h)]

theorem exec_moveStart_unrestored (x : Nat) (a : MoveAsk) (s : State) (h : ¬ s.MoveBarred x) (hw : s.leafWaits x = true)
    (hq : s.askOf x = some a) : exec (.moveStart x) s = .next (s.raiseLeaves x) := by
  simp only [State.askOf, State.leafWaits] at hq hw
  simp only [exec, execMoveStart, hq, hw]
  rw [if_neg (fun b => h ((s.moveBarred_iff x).mpr b)), if_pos trivial, if_pos Option.isSome_some]

theorem exec_moveStart_unasked (x : Nat) (s : State) (h : ¬ s.MoveBarred x) (hw : s.leafWaits x = false) (hq : s.askOf x = none) :
    exec (.moveStart x) s = .next (if x ∈ s.wantedVictims then { s.beginMove x with tier := { (s.beginMove x).tier with scan := x + 1 } }
      else s) := by
  simp only [State.askOf, State.leafWaits] at hq hw
  simp only [exec, execMoveStart, hq, hw]
  rw [if_neg (fun b => h ((s.moveBarred_iff x).mpr b)), if_neg Bool.false_ne_true]
  simp only [List.contains_iff_mem]

theorem exec_moveStart_pin (x : Nat) (a : MoveAsk) (s : State) (h : ¬ s.MoveBarred x) (hw : s.leafWaits x = false)
    (hq : s.askOf x = some a) (hp : a.why = .pin) (hv : s.needsVictim x = false) : exec (.moveStart x) s = .next (s.beginMove x) := by
  have turn : s.inTurn a = true := by simp [State.inTurn, hp]
  simp only [State.askOf, State.leafWaits] at hq hw
  simp only [exec, execMoveStart, hq, hw]
  rw [if_neg (fun b => h ((s.moveBarred_iff x).mpr b)), if_neg Bool.false_ne_true]
  simp [turn, hv, hp]

/-- A promotion takes a place in HBM; its cursor stands at the first line. -/
theorem State.beginMove_promotes (s : State) (x p : Nat) (rest : List (Nat × Nat)) (hd : (s.placeOf x).1 = false)
    (ht : takePlace s.tier.freeHbm = some (p, rest)) : s.beginMove x = { s with tier := { s.tier with
      moves := s.tier.moves ++ [⟨x, (s.placeOf x).1, (s.placeOf x).2, true, p, 0, false, false⟩],
      asks := s.tier.asks.filter (fun a => a.extent != x || a.toHbm != true), freeHbm := rest } } := by
  simp [State.beginMove, hd, ht]

theorem State.beginMove_promotion (s : State) (x p : Nat) (rest : List (Nat × Nat)) (hd : (s.placeOf x).1 = false)
    (hm : s.moveOf x = none) (ht : takePlace s.tier.freeHbm = some (p, rest)) : let t := s.beginMove x
    t.moveOf x = some ⟨x, (s.placeOf x).1, (s.placeOf x).2, true, p, 0, false, false⟩ ∧ t.tier.freeHbm = rest ∧
    t.tier.freeDdr = s.tier.freeDdr ∧ (∀ y, y ≠ x → t.moveOf y = s.moveOf y) ∧ t.tier.moved = s.tier.moved ∧ t.mem = s.mem := by
  rw [State.moveOf] at hm
  intro t
  simp only [t, s.beginMove_promotes x p rest hd ht, State.moveOf, List.find?_append, hm]
  refine ⟨by simp, trivial, trivial, fun y hy => ?_, trivial, trivial⟩
  simp [Ne.symm hy]

/-- An extent is asked for in the memory where it does not lie. -/
theorem State.placeOf_of_askOf (s : State) (x : Nat) (a : MoveAsk) (h : s.askOf x = some a) : a.toHbm = !(s.placeOf x).1 := by
  have found := List.find?_some h
  simp only [Bool.and_eq_true, beq_iff_eq] at found
  exact found.2

/-! ## A line moves (R165) -/

theorem State.cell_landCell_self (s : State) (h : Home) (c : Cell) : (s.landCell h (some c)).cell (s.remapOf h) = some c := by
  have remapped : (s.unqueue h).remapOf h = s.remapOf h := State.remapOf_congr (by simp) h
  rw [State.landCell, remapped]
  exact State.cell_setCell_self _ _ _

theorem State.moveLine_lands (s : State) (m : Move) (c : Cell) (hm : s.mergeOf (m.extent * extentLines + m.cursor) = none)
    (hv : s.valid (leafOf (m.extent * extentLines + m.cursor)) = true) (hr : m.refetch = false)
    (ho : s.stopped ⟨m.fromHbm, m.fromHome * extentLines + m.cursor⟩ = false)
    (hn : s.stopped ⟨m.toHbm, m.toHome * extentLines + m.cursor⟩ = false)
    (hp : s.readPending ⟨m.fromHbm, m.fromHome * extentLines + m.cursor⟩ = false)
    (hc : s.homeCell ⟨m.fromHbm, m.fromHome * extentLines + m.cursor⟩ = some c) (he : s.recode m.fromHbm m.toHbm c = some c) :
    s.moveLine m = some (((s.bumpBy Ctr.TM_CNT_MOVE_BYTES 64).unqueue ⟨m.fromHbm, m.fromHome * extentLines + m.cursor⟩).landCell
      ⟨m.toHbm, m.toHome * extentLines + m.cursor⟩ (some c)) := by
  have merge : (s.bumpBy Ctr.TM_CNT_MOVE_BYTES 64).mergeOf (m.extent * extentLines + m.cursor) = none := hm
  have held : (s.bumpBy Ctr.TM_CNT_MOVE_BYTES 64).homeCell ⟨m.fromHbm, m.fromHome * extentLines + m.cursor⟩ = some c := hc
  have coded : (s.bumpBy Ctr.TM_CNT_MOVE_BYTES 64).recode m.fromHbm m.toHbm c = some c := he
  simp [State.moveLine, hv, hr, ho, hn, hp, merge, held, coded]

/-! ## A move ends (R164, R173) -/

theorem State.endMove_tier (s : State) (m : Move) : (s.endMove m).tier = { s.tier with
    moves := s.tier.moves.filter (fun k => k.extent != m.extent), moved := s.tier.moved.insert m.extent (m.toHbm, m.toHome),
    freeHbm := if m.fromHbm then s.tier.freeHbm ++ [(m.fromHome, 1)] else s.tier.freeHbm,
    freeDdr := if m.fromHbm then s.tier.freeDdr else s.tier.freeDdr ++ [(m.fromHome, 1)],
    age := s.tier.age.put 15 m.extent (if m.toHbm then 0 else 15) } := rfl

theorem State.endMove_moved (s : State) (m : Move) : (s.endMove m).placeOf m.extent = (m.toHbm, m.toHome) ∧
    (s.endMove m).moveOf m.extent = none ∧ (s.endMove m).ageOf m.extent = if m.toHbm then 0 else 15 := by
  refine ⟨?_, ?_, ?_⟩
  · simp only [State.placeOf, s.endMove_tier, SMap.find?_insert_self]
  · simp [State.moveOf, s.endMove_tier]
  · simp only [State.ageOf, s.endMove_tier, SMap.getD_put_self]

theorem State.endMove_others (s : State) (m : Move) (y : Nat) (h : y ≠ m.extent) : (s.endMove m).placeOf y = s.placeOf y ∧
    (s.endMove m).moveOf y = s.moveOf y ∧ (s.endMove m).ageOf y = s.ageOf y := by
  refine ⟨?_, ?_, ?_⟩
  · simp only [State.placeOf, s.endMove_tier, SMap.find?_insert_other _ _ _ _ (Ne.symm h)]
  · simp only [State.moveOf, s.endMove_tier, List.find?_filter]
    congr 1
    funext k
    by_cases hk : k.extent = y <;> simp [hk, h]
  · simp only [State.ageOf, s.endMove_tier, SMap.getD_put_other _ _ _ _ _ _ (Ne.symm h)]

theorem exec_moveComplete_idle (x : Nat) (s : State)
    (h : s.moveOf x = none ∨ s.ch.values.any (fun c => c.state == .retired) = true) : exec (.moveComplete x) s = .next s := by
  simp only [exec, execMoveComplete]
  rw [if_pos (by simpa using h)]

theorem exec_moveComplete_ends (x : Nat) (m : Move) (s : State) (hx : (s.moveOf x).isSome = true)
    (hr : s.ch.values.any (fun c => c.state == .retired) = false) (hm : (s.moveLines extentLines x).moveOf x = some m)
    (hc : extentLines ≤ m.cursor) : exec (.moveComplete x) s = .next ((((s.moveLines extentLines x).endMove m).pump).attrTry) := by
  have moving : (s.moveOf x).isNone = false := by simpa using hx
  simp only [exec, execMoveComplete, moving, hr, hm, hc, Bool.or_self, Bool.false_eq_true, if_false, if_true]

/-! ## Ageing (R173) -/

/-- A key below all keys of a list is not in it. -/
theorem SMap.findL_of_lt {α : Type} (l : List (Nat × α)) (k : Nat) (h : ∀ c ∈ l, k < c.1) : SMap.findL l k = none := by
  induction l with
  | nil => rfl
  | cons c l ih =>
    obtain ⟨j, v⟩ := c
    rw [SMap.findL, if_neg (Nat.ne_of_gt (h _ List.mem_cons_self))]
    exact ih fun c hc => h c (List.mem_cons_of_mem _ hc)

/-- A table with rising keys, its values changed and some of them dropped, lists of a key what its own value becomes. -/
theorem SMap.findL_filterMap {α β : Type} (f : Nat → α → Option β) (l : List (Nat × α)) (h : SMap.sortedL l = true) (x : Nat) :
    SMap.findL (l.filterMap (fun c => (f c.1 c.2).map (c.1, ·))) x = (SMap.findL l x).bind (f x) := by
  induction l with
  | nil => rfl
  | cons c l ih =>
    obtain ⟨k, v⟩ := c
    simp only [SMap.sortedL, Bool.and_eq_true, List.all_eq_true, decide_eq_true_eq] at h
    obtain ⟨below, rising⟩ := h
    rw [List.filterMap_cons]
    by_cases hk : k = x
    · subst hk
      cases hf : f k v with
      | none => simp [SMap.findL, ih rising, SMap.findL_of_lt l k below, hf]
      | some w => simp [SMap.findL, hf]
    · cases hf : f k v with
      | none => simp [SMap.findL, ih rising, hk]
      | some w => simp [SMap.findL, ih rising, hk]

/-- The age of an extent after an ageing period, from the age before. -/
def State.agedTo (s : State) (x n : Nat) : Nat := if ((s.placeOf x).1 && !s.tier.fresh.has x) = true then min 15 (n + 1) else n

/-- The ages after an ageing period: an extent not listed has 15. -/
def State.agedTable (s : State) : SMap Nat :=
  ⟨s.tier.age.cells.filterMap fun c => if s.agedTo c.1 c.2 = 15 then none else some (c.1, s.agedTo c.1 c.2)⟩

theorem exec_ageingPeriodEnd (s : State) (h : s.serving = true) : exec .ageingPeriodEnd s =
    .next { s with tier := { s.tier with age := s.agedTable, fresh := {}, cands := {} } } := by
  simp only [exec, execAgeingPeriodEnd, h, Bool.not_true, Bool.false_eq_true, if_false]
  rfl

theorem State.agedTable_getD (s : State) (h : SMap.sortedL s.tier.age.cells = true) (x : Nat) :
    s.agedTable.getD x 15 = s.agedTo x (s.ageOf x) := by
  have cells : s.agedTable.cells = s.tier.age.cells.filterMap fun c =>
      (if s.agedTo c.1 c.2 = 15 then none else some (s.agedTo c.1 c.2)).map (c.1, ·) :=
    congrArg (List.filterMap · s.tier.age.cells) (funext fun c => by split <;> rfl)
  have table : s.agedTable.find? x = (s.tier.age.find? x).bind fun n => if s.agedTo x n = 15 then none else some (s.agedTo x n) := by
    rw [SMap.find?, cells]
    exact SMap.findL_filterMap (fun k n => if s.agedTo k n = 15 then none else some (s.agedTo k n)) _ h x
  have oldest : s.agedTo x 15 = 15 := by simp [State.agedTo]
  rw [State.ageOf, SMap.getD, SMap.getD, table]
  cases s.tier.age.find? x with
  | none => exact oldest.symm
  | some n =>
    rw [Option.bind_some, Option.getD_some]
    split
    · next ho => exact ho.symm
    · rfl

end Sys2Proof.Machine
end

section
namespace Sys2Proof
open Sys2Proof.Machine

/-- Settles O49: a move begins, waits or is refused by the branches of MOVE_START; a line's cell, taken out of the queue of its old home, lands at its
new one; the end of a move is one update of the tier manager's tables; ageing goes through the table of ages, whose keys rise. -/
theorem extentMoves : Obligations.ExtentMoves := by
  refine ⟨fun x a p rest s ha hx hm hf hc hw hq hp hh hv ht =>
      ⟨_, exec_moveStart_pin x a s (s.not_moveBarred x ha hx hm hf hc) hw hq hp hv, ?_⟩,
    fun x s ha hx hm hf hc hw hq hn => ⟨_, exec_moveStart_unasked x s (s.not_moveBarred x ha hx hm hf hc) hw hq, if_neg hn⟩,
    fun x s ha hx hm hf hc hw hq hn => ⟨_, exec_moveStart_unasked x s (s.not_moveBarred x ha hx hm hf hc) hw hq, if_pos hn⟩,
    fun x a s ha hx hm hf hc hw hq => ⟨_, exec_moveStart_unrestored x a s (s.not_moveBarred x ha hx hm hf hc) hw hq, rfl⟩,
    fun x s h => ⟨s, exec_moveStart_barred x s h, rfl⟩,
    fun s m c hm hv hr ho hn hp hc he => ⟨_, s.moveLine_lands m c hm hv hr ho hn hp hc he, ?_⟩,
    fun s m => ?_,
    fun x m s hx hr hm hc => ⟨_, exec_moveComplete_ends x m s hx hr hm hc, rfl⟩,
    fun x s h => ⟨s, exec_moveComplete_idle x s h, rfl⟩,
    fun s hs ho => ⟨_, exec_ageingPeriodEnd s hs, s.agedTable_getD ho, rfl, rfl, rfl, rfl, rfl⟩⟩
  · have ddr : (s.placeOf x).1 = false := by simpa [hh] using s.placeOf_of_askOf x a hq
    exact s.beginMove_promotion x p rest ddr hm ht
  · have lands := s.moveLine_lands m c hm hv hr ho hn hp hc he
    have remapped : ∀ h, ((s.bumpBy Ctr.TM_CNT_MOVE_BYTES 64).unqueue ⟨m.fromHbm, m.fromHome * extentLines + m.cursor⟩).remapOf h =
        s.remapOf h := State.remapOf_congr (by simp)
    refine ⟨?_, fun h k => (s.moveLine_cell _ m h lands k).2, ?_⟩
    · rw [← remapped]
      exact State.cell_landCell_self _ _ _
    · simp only [State.ctr, State.landCell_frame, State.unqueue_frame]
      exact State.ctr_bumpBy_self s _ 64
  · obtain ⟨place, move, age⟩ := s.endMove_moved m
    refine ⟨place, move, age, s.endMove_others m, ?_, by simp⟩
    exact State.ctr_bump_self _ _

end Sys2Proof
end

section
namespace Sys2Proof.Machine

/-! ## Range operations of the line cache (R209 to R219) -/

/-- The same operation further on: only the count of lines acted on and the write-backs outstanding may differ. -/
def RangeOp.Advances (o q : RangeOp) : Prop := ∃ n p, q = { o with acted := n, pending := p }

theorem RangeOp.Advances.refl (o : RangeOp) : o.Advances o := ⟨o.acted, o.pending, rfl⟩

theorem RangeOp.Advances.trans {o q r : RangeOp} (h : o.Advances q) (k : q.Advances r) : o.Advances r := by
  obtain ⟨n, p, rfl⟩ := h
  obtain ⟨n', p', rfl⟩ := k
  exact ⟨n', p', rfl⟩

theorem State.opLine_advances (s : State) (o : RangeOp) (line : Nat) : o.Advances (s.opLine o line).2 := by
  unfold State.opLine
  dsimp only
  (repeat' split) <;> exact ⟨_, _, rfl⟩

theorem State.opLines_advance (ls : List Nat) (a : State × RangeOp) :
    a.2.Advances (ls.foldl (fun (a : State × RangeOp) l => a.1.opLine a.2 l) a).2 := by
  induction ls generalizing a with
  | nil => exact .refl a.2
  | cons l ls ih => exact (a.1.opLine_advances a.2 l).trans (ih _)

theorem State.opAct_advances (s : State) (o : RangeOp) (p : Nat → Bool) : o.Advances (s.opAct o p).2 := by
  unfold State.opAct
  split
  · exact ⟨_, _, rfl⟩
  · have acted := State.opLines_advance (s.heldLines.filter (fun l => o.covers l && p l)) (s, o)
    dsimp only
    split <;> exact acted

section
variable (s : State) (op cls : Nat) (hc : s.pwr.core = true) (h0 : op ≠ 0)
include hc h0

/-- LC_OP_CMD begins the operation on the range of LC_OP_FIRST and LC_OP_LAST (R209). -/
theorem State.lcOp_begins (first last : Nat) (h5 : op ≤ 5) (hb : s.opBusy = false)
    (hf : (s.reg Reg.LC_OP_FIRST_LO).toNat + s.fld Reg.LC_OP_FIRST_HI Fld.LC_OP_FIRST_HI_ADDR_HI * 2 ^ 32 = first)
    (hl : (s.reg Reg.LC_OP_LAST_LO).toNat + s.fld Reg.LC_OP_LAST_HI Fld.LC_OP_LAST_HI_ADDR_HI * 2 ^ 32 = last)
    (hr : first / 64 ≤ last / 64) :
    s.lcOp op cls true = s.opBegin ⟨op, [(first / 64, last / 64)], cls, none, 0, [], false, 0⟩ := by
  unfold State.lcOp
  dsimp only
  rw [hf, hl]
  simp [hc, h0, hb, Nat.not_lt.mpr h5, Nat.not_lt.mpr hr]

/-- While an operation runs, or a fence discards, LC_OP_CMD is refused with RESULT 2 (R214). -/
theorem State.lcOp_busy (ok : Bool) (hb : s.opBusy = true) : s.lcOp op cls ok = s.opRes 2 := by
  simp [State.lcOp, hc, h0, hb]

/-- An LC_OP_CMD that lacks what its OP asks for is refused with RESULT 3 (R213). -/
theorem State.lcOp_barred (hb : s.opBusy = false) : s.lcOp op cls false = s.opRes 3 := by
  simp [State.lcOp, hc, h0, hb]

end

/-- DISCARD through an open unlock closes it, and asks for the mode beside (R213). -/
theorem exec_discard_open (who : Nat) (s : State) (hc : s.pwr.core = true) (hu : s.unlocked who = true) :
    exec (.discard who) s = .next ((s.relock who).lcOp 5 0 s.discardAllowed) := by
  simp only [exec, execDiscard, hc, s.guarded_open who hu, Bool.not_true, Bool.false_eq_true, if_false, Bool.true_and]
  rfl

/-- DISCARD through a closed unlock is counted, and refused (R213, R459). -/
theorem exec_discard_closed (who : Nat) (s : State) (hc : s.pwr.core = true) (hu : s.unlocked who = false) :
    exec (.discard who) s = .next ((s.bump Ctr.SYS_CNT_GUARD_REFUSED).lcOp 5 0 false) := by
  simp only [exec, execDiscard, hc, s.guarded_closed who hu, Bool.not_true, Bool.false_eq_true, if_false, Bool.false_and]

/-- The walk handles one set: the operation acts on its lines, and goes on to the next (R215). -/
theorem exec_rangeWalkSet (o : RangeOp) (s : State) (ho : s.lc.op = some o) (hw : o.walked = false) : ∃ n p,
    let t := (s.opAct o (fun l => setIndex l == o.set)).1
    exec .rangeWalkSet s = .next { t with lc := { t.lc with
      op := some { o with acted := n, pending := p, set := o.set + 1, walked := decide (2048 ≤ o.set + 1) } } } := by
  obtain ⟨n, p, advanced⟩ := s.opAct_advances o (fun l => setIndex l == o.set)
  exact ⟨n, p, by simp [exec, execRangeWalkSet, ho, hw, advanced]⟩

/-- An operation of LC_OP_CMD ends with RESULT 1, and no other waits (R211, R216). -/
theorem exec_rangeOpDone_alone (o : RangeOp) (s : State) (ho : s.lc.op = some o) (hd : s.opOver o = true) (hr : o.reply = none)
    (hq : s.lc.opq = []) : exec .rangeOpDone s = .next
      (({ s with lc := { s.lc with op := none, opResult := 1 } } : State).bumpBy Ctr.LC_CNT_OP_LINES o.acted) := by
  simp [exec, execRangeOpDone, ho, hd, hr, State.opNext, hq, State.bumpBy, State.ctr]

/-- The sweep ends where the cache holds no line (R217 to R219). -/
theorem exec_cacheSweepDone_empty (s : State) (hs : s.lc.state = .sweeping) (hh : s.heldLines = []) : exec .cacheSweepDone s =
    .next (State.pump { s with lc := { s.lc with state := if s.lc.reenable then .enabled else .disabled, slice := 0, reenable := false } }) := by
  simp [exec, execCacheSweepDone, hs, hh]

end Sys2Proof.Machine
end

section
namespace Sys2Proof
open Sys2Proof.Machine

/-- Settles O34: LC_OP_CMD begins the operation or sets RESULT by the checks of `State.lcOp`; whatever lines it acts on, an operation itself only
advances. -/
theorem rangeOperations : Obligations.RangeOperations := by
  refine ⟨fun first last s hc hb hf hl hr => ⟨_, rfl, s.lcOp_begins 1 0 hc (by decide) first last (by decide) hb hf hl hr⟩,
    fun first last s hc hb hf hl hr => ⟨_, rfl, s.lcOp_begins 2 0 hc (by decide) first last (by decide) hb hf hl hr⟩,
    fun first last s hc hb hf hl hr => ⟨_, rfl, s.lcOp_begins 3 0 hc (by decide) first last (by decide) hb hf hl hr⟩,
    fun cls first last s hc hb hf hl hr => ⟨_, rfl, s.lcOp_begins 4 (cls % 16) hc (by decide) first last (by decide) hb hf hl hr⟩,
    fun s hc hb => ⟨_, rfl, s.lcOp_busy 1 0 hc (by decide) true hb⟩,
    fun who first last s hc hb hf hl hr hu hd => ⟨_, exec_discard_open who s hc hu, ?_⟩,
    fun who s hc hb hu => ⟨_, exec_discard_closed who s hc hu,
      State.lcOp_barred (s.bump Ctr.SYS_CNT_GUARD_REFUSED) 5 0 hc (by decide) hb⟩,
    fun o s ho hw => ?_,
    fun o s ho hd hr hq => ⟨_, exec_rangeOpDone_alone o s ho hd hr hq, rfl, State.ctr_bumpBy_self _ _ _, rfl⟩,
    fun s hs hh => ⟨_, exec_cacheSweepDone_empty s hs hh, rfl⟩⟩
  · rw [hd]
    exact State.lcOp_begins (s.relock who) 5 0 hc (by decide) first last (by decide) hb hf hl hr
  · obtain ⟨n, p, walks⟩ := exec_rangeWalkSet o s ho hw
    exact ⟨_, walks, n, p, rfl⟩

end Sys2Proof
end

section
namespace Sys2Proof.Machine

/-! ## Commands that wait (R420, R421) -/

/-- A background command whose body waits. -/
theorem State.command_background_waits (s u : State) (m : Mbx) (c : CmdSpec) (body : Nat → State → State × CmdRes) (ht : s.takes m c = true)
    (hn : s.inBackground m = false) (hb : body s.tagNow (s.started m c) = (u, .later)) : s.command m c true true body = u := by
  rw [State.command_background s m c body ht hn]
  simp only [State.started] at hb
  simp [State.runJob, hb]

/-- The LD that a mailbox acts for does not rest on the jobs. -/
theorem State.limitedTo_openJob (s : State) (m : Mbx) (c : CmdSpec) (background : Bool) :
    (s.openJob m c background).limitedTo m = s.limitedTo m := rfl

/-! ## CACHE_OP (R209 to R216) -/

/-- What CACHE_OP does with an operation: it waits where one runs or a fence discards, and begins elsewhere (R214). -/
def State.opArrives (s : State) (o : RangeOp) : State :=
  if s.opBusy then { s with lc := { s.lc with opq := s.lc.opq ++ [o] } } else s.opBegin o

theorem State.opArrives_busy (s : State) (o : RangeOp) (h : s.opBusy = true) :
    s.opArrives o = { s with lc := { s.lc with opq := s.lc.opq ++ [o] } } := if_pos h

theorem State.opArrives_idle (s : State) (o : RangeOp) (h : s.opBusy = false) : s.opArrives o = s.opBegin o := if_neg (Bool.eq_false_iff.mp h)

/-- A well-formed CACHE_OP names whole lines, and its operation is in its first word. -/
theorem parseCacheOp_fields (inp : List Word) (op cls first last : Nat) (h : parseCacheOp inp = some (op, cls, first, last)) :
    (wordAt inp 0).field 2 0 = op ∧ wide inp 2 = first ∧ wide inp 4 = last ∧ first % 64 = 0 ∧ last % 64 = 63 := by
  unfold parseCacheOp at h
  dsimp only at h
  split at h
  · cases h
  · next valid =>
    simp only [Option.some.injEq, Prod.mk.injEq] at h
    obtain ⟨rfl, -, rfl, rfl⟩ := h
    simp only [Bool.or_eq_true, decide_eq_true_eq, not_or, ne_eq, Decidable.not_not] at valid
    obtain ⟨⟨⟨-, aligned⟩, whole⟩, -⟩ := valid
    exact ⟨rfl, rfl, rfl, aligned, whole⟩

/-- A range of more than 16,384 lines is walked: its operation acts on no line yet (R215). -/
theorem State.opBegin_walks (s : State) (o : RangeOp) (h : 16384 < o.lines) : s.opBegin o = { s with lc := { s.lc with op := some o } } := by
  rw [State.opBegin, if_neg (Nat.not_le.mpr h)]

/-- CACHE_OP other than DISCARD of a privileged mailbox, for a range the device has. -/
theorem State.cacheOp_privileged (s : State) (m : Mbx) (inp : List Word) (tag op cls first last : Nat) (hm : s.limitedTo m = none)
    (hp : parseCacheOp inp = some (op, cls, first, last)) (h5 : op ≠ 5) (hl : last < 2 ^ 44) :
    s.cacheOp m inp tag = (s.opArrives ⟨op, [(first / 64, last / 64)], cls, some (m, tag), 0, [], false, 0⟩, .later) := by
  have own : (wordAt inp 0).field 2 0 = op := (parseCacheOp_fields inp op cls first last hp).1
  unfold State.cacheOp
  simp only [own, h5, decide_false, Bool.false_and, Bool.false_eq_true, if_false, hp, hm, if_pos hl]
  rfl

/-- CACHE_OP DISCARD where R213 allows it: the unlock closes, and the operation arrives. -/
theorem State.cacheOp_discard (s : State) (m : Mbx) (inp : List Word) (tag cls first last : Nat) (hm : s.privileged m = true)
    (hp : parseCacheOp inp = some (5, cls, first, last)) (hl : last < 2 ^ 44) (hd : s.discardAllowed = true)
    (hu : s.unlocked (requesterOf (s.linkOf m.fn).1 (s.linkOf m.fn).2) = true) : s.cacheOp m inp tag =
      ((s.relock (requesterOf (s.linkOf m.fn).1 (s.linkOf m.fn).2)).opArrives ⟨5, [(first / 64, last / 64)], cls, some (m, tag), 0, [], false, 0⟩,
        .later) := by
  have own : (wordAt inp 0).field 2 0 = 5 := (parseCacheOp_fields inp 5 cls first last hp).1
  have unlimited : ∀ who, (s.relock who).limitedTo m = none := fun who => if_pos hm
  have allowed : ∀ who, (s.relock who).discardAllowed = true := fun who => hd
  unfold State.cacheOp
  simp only [own, hm, decide_true, Bool.and_true, if_true, s.guarded_open _ hu, hp, unlimited, if_pos hl, allowed, Bool.not_true, Bool.and_false,
    Bool.false_eq_true, if_false]
  rfl

section
variable (m : Mbx) (inp : List Word) (op cls first last : Nat) (s : State) (ht : s.takes m ⟨0xC020, true, false, false, false⟩ = true)
  (hn : m.len = 24) (hp : parseCacheOp inp = some (op, cls, first, last)) (hl : last < 2 ^ 44)
include ht hn hp hl

/-- Up to 16,384 lines CACHE_OP runs in the foreground. -/
theorem exec_cacheOp_foreground (hm : s.limitedTo m = none) (h5 : op ≠ 5) (hr : last + 1 - first ≤ 64 * 16384) :
    exec (.cacheOp m inp) s = .next ((s.openJob m ⟨0xC020, true, false, false, false⟩ false).opArrives
      ⟨op, [(first / 64, last / 64)], cls, some (m, s.tagNow), 0, [], false, 0⟩) := by
  obtain ⟨-, hfirst, hlast, -, -⟩ := parseCacheOp_fields inp op cls first last hp
  simp only [exec, execCacheOp, hn, hfirst, hlast, beq_self_eq_true, decide_eq_false (Nat.not_lt.mpr hr)]
  exact congrArg _ (State.command_waits s _ m _ _ ht (State.cacheOp_privileged _ m inp _ op cls first last hm hp h5 hl))

/-- Above 16,384 lines CACHE_OP runs in the background. -/
theorem exec_cacheOp_background (hm : s.limitedTo m = none) (h5 : op ≠ 5) (hr : 64 * 16384 < last + 1 - first)
    (hb : s.inBackground m = false) : exec (.cacheOp m inp) s = .next ((s.started m ⟨0xC020, true, false, false, false⟩).opArrives
      ⟨op, [(first / 64, last / 64)], cls, some (m, s.tagNow), 0, [], false, 0⟩) := by
  obtain ⟨-, hfirst, hlast, -, -⟩ := parseCacheOp_fields inp op cls first last hp
  simp only [exec, execCacheOp, hn, hfirst, hlast, beq_self_eq_true, decide_eq_true hr]
  exact congrArg _ (State.command_background_waits s _ m _ _ ht hb (State.cacheOp_privileged _ m inp _ op cls first last hm hp h5 hl))

/-- CACHE_OP DISCARD of up to 16,384 lines closes the unlock (R213, R459). -/
theorem exec_cacheOp_discard (h5 : op = 5) (hm : s.privileged m = true) (hr : last + 1 - first ≤ 64 * 16384) (hd : s.discardAllowed = true)
    (hu : s.unlocked (requesterOf (s.linkOf m.fn).1 (s.linkOf m.fn).2) = true) : exec (.cacheOp m inp) s =
      .next (((s.openJob m ⟨0xC020, true, false, false, false⟩ false).relock (requesterOf (s.linkOf m.fn).1 (s.linkOf m.fn).2)).opArrives
        ⟨5, [(first / 64, last / 64)], cls, some (m, s.tagNow), 0, [], false, 0⟩) := by
  subst h5
  obtain ⟨-, hfirst, hlast, -, -⟩ := parseCacheOp_fields inp 5 cls first last hp
  simp only [exec, execCacheOp, hn, hfirst, hlast, beq_self_eq_true, decide_eq_false (Nat.not_lt.mpr hr)]
  exact congrArg _ (State.command_waits s _ m _ _ ht (State.cacheOp_discard _ m inp _ cls first last hm hp hl hd hu))

end

/-- A range with more bytes than 16,384 lines hold has more than 16,384 lines. -/
theorem RangeOp.lines_of_bytes (o : RangeOp) (first last : Nat) (ho : o.spans = [(first / 64, last / 64)]) (hf : first % 64 = 0)
    (hl : last % 64 = 63) (hr : 64 * 16384 < last + 1 - first) : 16384 < o.lines := by
  simp only [RangeOp.lines, ho, sumL, List.map_cons, List.map_nil, List.foldl_cons, List.foldl_nil]
  omega

/-! ## Tenants and schedules (R172, R178 to R180) -/

/-- The state with a tenant's floor and ceiling, and the TABLE record of them (R172, R293). -/
def State.withTenant (s : State) (t : Nat) (v : Tenant) : State :=
  let ts := s.tier.tenants.put {} t v
  { s with tier := { s.tier with tenants := ts },
           vlt := { s.vlt with nand := { s.vlt.nand with tables := { s.vlt.nand.tables with tenants := ts } } } }

/-- TENANT_SET of a floor and a ceiling that R172 allows. -/
theorem State.tenantSet_fits (s : State) (inp : List Word) (c : Nat) (h0 : (wordAt inp 0).field 31 12 = 0) (h3 : wordAt inp 3 = 0)
    (hc : c = if (wordAt inp 2).toNat = 0 then s.tier.hbmTotal else (wordAt inp 2).toNat) (hf : (wordAt inp 1).toNat ≤ c)
    (ht : s.floors - (s.tenant ((wordAt inp 0).field 11 0)).floor + (wordAt inp 1).toNat ≤ s.tier.hbmTotal)
    (hp : pinHbm s.addr.regions.values ((wordAt inp 0).field 11 0) ≤ c) :
    s.tenantSet inp = (s.withTenant ((wordAt inp 0).field 11 0) ⟨(wordAt inp 1).toNat, (wordAt inp 2).toNat⟩, .ok []) := by
  unfold State.tenantSet
  dsimp only
  rw [← hc]
  simp only [h0, h3, ne_eq, not_true_eq_false, Nat.not_lt.mpr hf, Nat.not_lt.mpr ht, Nat.not_lt.mpr hp, decide_false, Bool.or_false,
    Bool.false_eq_true, if_false]
  rfl

theorem exec_tenantSet (m : Mbx) (inp : List Word) (t : Nat) (v : Tenant) (s : State) (ht : s.takes m ⟨0xC200, false, true, false, false⟩ = true)
    (hn : m.len = 16) (hb : (s.openJob m ⟨0xC200, false, true, false, false⟩ false).tenantSet inp =
      ((s.openJob m ⟨0xC200, false, true, false, false⟩ false).withTenant t v, .ok [])) :
    exec (.tenantSet m inp) s = .next ((s.withTenant t v).answered m 0xC200 (.ok [])) :=
  congrArg _ (s.simple_answered (s.withTenant t v) m _ _ _ _ (by simp [hn]) ht hb rfl rfl)

/-- What TENANT_SET of a tenant leaves: its record, the completion, and the address map as it was. -/
theorem State.withTenant_answered (s : State) (m : Mbx) (t : Nat) (v : Tenant) : let u := (s.withTenant t v).answered m 0xC200 (.ok [])
    u.tenant t = v ∧ u.vlt.nand.tables.tenants = u.tier.tenants ∧ u.addr = s.addr ∧
      u.out = .msix m.fn (if m.secondary then 1 else 0) :: .mbx m 0xC200 0 0 [] :: s.out := by
  simp only [State.answered, State.answer_out, State.tenant, State.answer_frame]
  exact ⟨SMap.getD_put_self _ _ _ _, rfl, rfl, rfl⟩

/-- The state with a schedule and the moves it has asked for gone (R180). -/
def State.unscheduled (s : State) (id : Nat) : State :=
  { s with tier := { s.tier with scheds := s.tier.scheds.erase id, asks := s.tier.asks.filter (fun a => match a.why with
      | .sched k _ => k != id
      | _ => true) } }

theorem State.schedUnload_found (s : State) (id : Nat) (c : Sched) (hs : s.tier.scheds.find? id = some c) :
    s.schedUnload none id = ((c.window.flatMap (s.stepExtents c)).foldl State.ageSpent (s.unscheduled id), .ok []) := by
  simp only [State.schedUnload, hs, Bool.false_eq_true, if_false]
  rfl

theorem State.ageSpent_tier (s : State) (x : Nat) : (s.ageSpent x).tier.scheds = s.tier.scheds ∧ (s.ageSpent x).tier.asks = s.tier.asks := by
  unfold State.ageSpent
  (repeat' split) <;> exact ⟨rfl, rfl⟩

/-- Ages say nothing of schedules or of moves asked for. -/
theorem State.ageSpents_tier (s : State) (xs : List Nat) : let t := xs.foldl State.ageSpent s
    t.tier.scheds = s.tier.scheds ∧ t.tier.asks = s.tier.asks := by
  refine List.foldlRecOn xs _ (motive := fun t : State => t.tier.scheds = s.tier.scheds ∧ t.tier.asks = s.tier.asks) ⟨rfl, rfl⟩ ?_
  rintro t ⟨scheds, asks⟩ x -
  obtain ⟨scheds', asks'⟩ := t.ageSpent_tier x
  exact ⟨scheds'.trans scheds, asks'.trans asks⟩

theorem State.askMove_scheds (s : State) (x : Nat) (toHbm : Bool) (why : MoveWhy) : (s.askMove x toHbm why).tier.scheds = s.tier.scheds := by
  unfold State.askMove
  split <;> rfl

/-- Staging asks for moves, and leaves the schedules alone. -/
theorem State.stageSteps_scheds (s : State) (id : Nat) (c : Sched) (steps : List Nat) :
    (s.stageSteps id c steps).tier.scheds = s.tier.scheds := by
  unfold State.stageSteps
  split
  · rfl
  · refine List.foldlRecOn steps _ (motive := fun t : State => t.tier.scheds = s.tier.scheds) rfl fun t kept j _ => ?_
    refine List.foldlRecOn (t.stepExtents c j) _ (motive := fun t : State => t.tier.scheds = s.tier.scheds) kept fun u kept x _ => ?_
    split
    · exact kept
    · exact (u.askMove_scheds x true _).trans kept

/-- SCHED_UNLOAD of a privileged mailbox removes the schedule and its moves, whatever ages follow (R180). -/
theorem exec_schedUnload (m : Mbx) (inp : List Word) (c : Sched) (s : State) (ht : s.takes m ⟨0xC211, true, true, false, false⟩ = true)
    (hn : m.len = 4) (hm : s.limitedTo m = none) (hs : s.tier.scheds.find? ((wordAt inp 0).field 9 0) = some c) :
    ∃ u : State, exec (.schedUnload m inp) s = .next (u.answer m 0xC211 (.ok [])) ∧
      u.tier.scheds = (s.unscheduled ((wordAt inp 0).field 9 0)).tier.scheds ∧
      u.tier.asks = (s.unscheduled ((wordAt inp 0).field 9 0)).tier.asks ∧ u.out = s.out := by
  have body := (s.openJob m ⟨0xC211, true, true, false, false⟩ false).schedUnload_found _ c hs
  rw [← hm, ← s.limitedTo_openJob m ⟨0xC211, true, true, false, false⟩ false] at body
  obtain ⟨scheds, asks⟩ := State.ageSpents_tier ((s.openJob m ⟨0xC211, true, true, false, false⟩ false).unscheduled ((wordAt inp 0).field 9 0))
    (c.window.flatMap ((s.openJob m ⟨0xC211, true, true, false, false⟩ false).stepExtents c))
  simp only [exec, execSchedUnload, hn, beq_self_eq_true]
  rw [s.simple_takes _ m _ _ _ ht body (by simp [State.unscheduled])]
  exact ⟨_, rfl, scheds, asks, by simp [State.unscheduled]⟩

/-- The schedule that a SCHED_LOAD input describes, at its last step and not triggered (R178, R563). -/
def schedOf (inp : List Word) (now : Nat) : Sched :=
  { lead := (wordAt inp 0).field 20 16, loop := (wordAt inp 0).field 24 24 == 1, doorbell := wide inp 4 / 64,
    subst := (wordAt inp 6).field 23 0, steps := schedSteps inp (wordAt inp 1).toNat,
    runs := schedRuns inp (wordAt inp 1).toNat (wordAt inp 2).toNat, step := (wordAt inp 1).toNat - 1, late := false, blocked := false,
    fresh := true, triggers := 0, lates := 0, since := now }

/-- The state with the schedule of a SCHED_LOAD input, the moves of its first LEAD steps asked for (R178, R186, R563). -/
def State.scheduled (s : State) (inp : List Word) : State :=
  (s.setSched ((wordAt inp 0).field 9 0) (schedOf inp s.now)).stageSteps ((wordAt inp 0).field 9 0) (schedOf inp s.now)
    (List.range (min ((wordAt inp 0).field 20 16) (wordAt inp 1).toNat))

/-- Where SCHED_EN is clear a schedule asks for no move (R186). -/
theorem State.stageSteps_disabled (s : State) (id : Nat) (c : Sched) (steps : List Nat) (h : s.fld Reg.TM_CTL Fld.TM_CTL_SCHED_EN = 0) :
    s.stageSteps id c steps = s := if_pos h

theorem State.scheduled_tier (s : State) (inp : List Word) :
    (s.scheduled inp).tier.scheds = s.tier.scheds.insert ((wordAt inp 0).field 9 0) (schedOf inp s.now) ∧
      (s.fld Reg.TM_CTL Fld.TM_CTL_SCHED_EN = 0 → (s.scheduled inp).tier.asks = s.tier.asks) := by
  refine ⟨State.stageSteps_scheds _ _ _ _, fun off => ?_⟩
  rw [State.scheduled, State.stageSteps_disabled (s.setSched _ _) _ _ _ off]
  rfl

/-- A SCHED_LOAD input passes the checks of R178 for a privileged mailbox. -/
structure State.SchedFits (s : State) (inp : List Word) : Prop where
  reserved : (wordAt inp 0).field 15 10 = 0 ∧ (wordAt inp 0).field 23 21 = 0 ∧ (wordAt inp 0).field 31 25 = 0 ∧ wordAt inp 3 = 0 ∧
    (wordAt inp 6).field 31 24 = 0
  lead : 1 ≤ (wordAt inp 0).field 20 16 ∧ (wordAt inp 0).field 20 16 ≤ 16
  steps : 1 ≤ (wordAt inp 1).toNat ∧ (wordAt inp 1).toNat ≤ 4096
  runs : 1 ≤ (wordAt inp 2).toNat ∧ (wordAt inp 2).toNat ≤ 16384
  bell : wide inp 4 % 64 = 0 ∧ wide inp 4 < 2 ^ 44
  unused : s.tier.scheds.has ((wordAt inp 0).field 9 0) = false
  place : s.tier.scheds.size < 1024
  room : sumL (s.tier.scheds.values.map (fun c => c.runs.length)) + (wordAt inp 2).toNat ≤ 262144
  stepRuns : ∀ st ∈ schedSteps inp (wordAt inp 1).toNat, 1 ≤ st.count ∧ st.count ≤ 16384 ∧ st.firstRun + st.count ≤ (wordAt inp 2).toNat
  stageable : ∀ r ∈ schedRuns inp (wordAt inp 1).toNat (wordAt inp 2).toNat, r.2 ≠ 0 ∧ ∀ k ∈ List.range r.2,
    (s.regionOf (k + r.1)).map (fun q => q.2.tier != 2) = some true
  ownBell : s.doorbellOf (wide inp 4 / 64) = none

/-- No step of an input that fits is refused. -/
theorem State.SchedFits.steps_good {s : State} {inp : List Word} (h : s.SchedFits inp) :
    (schedSteps inp (wordAt inp 1).toNat).any
      (fun st => st.count == 0 || decide (16384 < st.count) || decide ((wordAt inp 2).toNat < st.firstRun + st.count)) = false := by
  rw [List.any_eq_false]
  intro st mem
  have fits := h.stepRuns st mem
  simp only [Bool.or_eq_true, beq_iff_eq, decide_eq_true_eq]
  omega

theorem State.schedLoad_fits (s : State) (inp : List Word) (h : s.SchedFits inp) : s.schedLoad none inp = (s.scheduled inp, .ok []) := by
  obtain ⟨r1, r2, r3, r4, r5⟩ := h.reserved
  have unused := h.unused
  unfold State.schedLoad
  dsimp only
  rw [if_neg]
  · rfl
  · rw [Bool.not_eq_true]
    refine Bool.or_eq_false_iff.mpr ⟨Bool.or_eq_false_iff.mpr ⟨Bool.or_eq_false_iff.mpr ⟨Bool.or_eq_false_iff.mpr ⟨?_, h.steps_good⟩,
      List.any_eq_false.mpr fun r mem => ?_⟩, by rw [h.ownBell]; rfl⟩, rfl⟩
    · obtain ⟨-, lead, steps, runs, bell, -, place, room, -, -, -⟩ := h
      simp only [r1, r2, r3, r4, r5, unused, ne_eq, not_true_eq_false, decide_false, Bool.or_false, Bool.false_or, Bool.or_eq_false_iff,
        decide_eq_false_iff_not]
      omega
    · obtain ⟨nonempty, staged⟩ := h.stageable r mem
      simp only [Bool.or_eq_true, beq_iff_eq, nonempty, false_or, List.any_map, List.any_eq_true, Function.comp_apply, not_exists, not_and]
      intro k hk
      have may := staged k hk
      split
      · next g hg => simpa [hg] using may
      · next hg => simp [hg] at may

/-- SCHED_LOAD of a privileged mailbox (R178, R186). -/
theorem exec_schedLoad (m : Mbx) (inp : List Word) (s : State) (ht : s.takes m ⟨0xC210, true, true, false, false⟩ = true)
    (hn : m.len = 32 + 8 * (wordAt inp 1).toNat + 8 * (wordAt inp 2).toNat) (hx : m.len ≤ 163872) (hm : s.limitedTo m = none)
    (h : s.SchedFits inp) :
    ∃ u : State, exec (.schedLoad m inp) s = .next (u.answer m 0xC210 (.ok [])) ∧
      u.tier.scheds = s.tier.scheds.insert ((wordAt inp 0).field 9 0) (schedOf inp s.now) ∧ u.out = s.out ∧
      (s.fld Reg.TM_CTL Fld.TM_CTL_SCHED_EN = 0 → u.tier.asks = s.tier.asks) := by
  have fits : (s.openJob m ⟨0xC210, true, true, false, false⟩ false).SchedFits inp :=
    ⟨h.reserved, h.lead, h.steps, h.runs, h.bell, h.unused, h.place, h.room, h.stepRuns, h.stageable, h.ownBell⟩
  have body := State.schedLoad_fits _ inp fits
  rw [← hm, ← s.limitedTo_openJob m ⟨0xC210, true, true, false, false⟩ false] at body
  simp only [exec, execSchedLoad, hn ▸ hx, hn, beq_self_eq_true, decide_true, Bool.and_true]
  rw [s.simple_takes _ m _ _ _ ht body (by simp [State.scheduled])]
  obtain ⟨scheds, asks⟩ := State.scheduled_tier (s.openJob m ⟨0xC210, true, true, false, false⟩ false) inp
  exact ⟨_, rfl, scheds, by simp [State.scheduled], asks⟩

end Sys2Proof.Machine
end

section
namespace Sys2Proof
open Sys2Proof.Machine

/-- Settles O25: each command runs its body where its mailbox takes it; CACHE_OP's body hands its operation to `State.opArrives`, and a schedule's
moves are asked for, or its ages set, without a change to the table of schedules. -/
theorem tenantsSchedulesAndCache : Obligations.TenantsSchedulesAndCache := by
  refine ⟨fun m inp c s ht hn h0 h3 hf hc hs hp => ⟨_, exec_tenantSet m inp _ _ s ht hn ?_, s.withTenant_answered m _ _⟩,
    fun m inp c s ht hn hm hs => ?_,
    fun m inp op cls first last s ht hn hm hp h5 hl hr hb =>
      ⟨_, exec_cacheOp_foreground m inp op cls first last s ht hn hp hl hm h5 hr, State.opArrives_idle _ _ hb⟩,
    fun m inp op cls first last s ht hn hm hp h5 hl hr hb =>
      ⟨_, exec_cacheOp_background m inp op cls first last s ht hn hp hl hm h5 hr hb, ?_⟩,
    fun m inp cls first last s ht hn hm hp hl hr hd hu hb =>
      ⟨_, exec_cacheOp_discard m inp 5 cls first last s ht hn hp hl rfl hm hr hd hu, ?_⟩,
    fun m inp s ht hn hx hm h0 h1 h2 h3 h4 h5 h6 h7 h8 h9 h10 => ?_⟩
  · exact State.tenantSet_fits (s.openJob m _ false) inp c h0 h3 hc hf hs hp
  · obtain ⟨u, runs, scheds, asks, out⟩ := exec_schedUnload m inp c s ht hn hm hs
    refine ⟨_, runs, ?_, ?_, ?_⟩
    · simp [scheds, State.unscheduled]
    · refine List.all_eq_true.mpr fun a mem => ?_
      have kept : a ∈ (s.unscheduled ((wordAt inp 0).field 9 0)).tier.asks := by simpa [asks] using mem
      exact (List.mem_filter.mp kept).2
    · rw [State.answer_out, out]
      rfl
  · obtain ⟨-, -, -, hfirst, hlast⟩ := parseCacheOp_fields inp op cls first last hp
    have busy : (s.started m ⟨0xC020, true, false, false, false⟩).opBusy = s.opBusy := rfl
    unfold State.opArrives
    rw [busy, State.opBegin_walks _ _ (RangeOp.lines_of_bytes _ first last rfl hfirst hlast hr)]
    split <;> exact ⟨rfl, rfl, rfl⟩
  · rw [State.opArrives_busy ((s.openJob m _ false).relock _) _ hb]
    exact ⟨rfl, State.unlocked_relock _ _⟩
  · obtain ⟨u, runs, scheds, out, asks⟩ := exec_schedLoad m inp s ht hn hx hm ⟨h0, h1, h2, h3, h4, h5, h6, h7, h8, h9, h10⟩
    refine ⟨_, runs, ⟨schedOf inp s.now, ?_, rfl, rfl, rfl, rfl, rfl, rfl⟩, ?_, fun off => ?_⟩
    · simp [scheds]
    · rw [State.answer_out, out]
      rfl
    · simpa using asks off

end Sys2Proof
end

section
namespace Sys2Proof.Machine

/-! ## Commands of the channel controllers (R227 to R239) -/

theorem State.chan_bump (s : State) (a inst : Nat) : (s.bump a).chan inst = s.chan inst := rfl

theorem State.chan_bumpCh (s : State) (inst : Nat) (ctr : Nat → Nat) : (s.bumpCh inst ctr).chan inst = s.chan inst := rfl

theorem State.chan_emit (s : State) (o : Output) (inst : Nat) : (s.emit o).chan inst = s.chan inst := rfl

/-- A refresh goes out, and its rank owes one less (R232). -/
theorem State.issueRefresh_effect (s : State) (inst sc rank : Nat) : let t := s.issueRefresh inst sc rank
    t.out = .dram inst 4 sc rank 0 0 0 0 :: s.out ∧
    t.chan inst = { s.chan inst with owed := (s.chan inst).owed.put 0 (rankKey sc rank) ((s.chan inst).owed.getD (rankKey sc rank) 0 - 1) } := by
  unfold State.issueRefresh
  dsimp only
  refine ⟨by simp, ?_⟩
  rw [State.chan_emit]
  split
  · rw [State.chan_bumpCh, State.chan_setChan_self]
  · rw [State.chan_setChan_self]

/-- The bank of a request is closed: it is opened at the row (R230). -/
theorem State.issueReq_activates (s : State) (inst : Nat) (r : ChReq) (hb : (s.chan inst).rows.find? (s.dramOf r.home).bank = none) :
    s.issueReq inst r = (s.setChan inst { s.chan inst with
      rows := (s.chan inst).rows.insert (s.dramOf r.home).bank ((s.dramOf r.home).row, 0),
      lastCmd := some (s.dramOf r.home, r.home) }).emit
        (.dram inst 3 (s.dramOf r.home).sc (s.dramOf r.home).rank (s.dramOf r.home).bg (s.dramOf r.home).ba (s.dramOf r.home).row 0) := by
  simp only [State.issueReq, hb]

/-- Another row is open in the bank of a request: it is closed (R230). -/
theorem State.issueReq_precharges (s : State) (inst : Nat) (r : ChReq) (row n : Nat)
    (hb : (s.chan inst).rows.find? (s.dramOf r.home).bank = some (row, n)) (hr : row ≠ (s.dramOf r.home).row) :
    s.issueReq inst r = (s.setChan inst { s.chan inst with
      rows := (s.chan inst).rows.erase (s.dramOf r.home).bank, lastCmd := some (s.dramOf r.home, r.home) }).emit
        (.dram inst 2 (s.dramOf r.home).sc (s.dramOf r.home).rank (s.dramOf r.home).bg (s.dramOf r.home).ba row 0) := by
  simp only [State.issueReq, hb, ne_eq, hr, not_false_eq_true, decide_true, Bool.true_or, if_true]

/-- The row of a request is open, and its hits have not reached their cap: its read or write goes out (R230, R231). -/
theorem State.issueReq_transfers (s : State) (inst : Nat) (r : ChReq) (n : Nat)
    (hb : (s.chan inst).rows.find? (s.dramOf r.home).bank = some ((s.dramOf r.home).row, n)) (hn : n < 32) :
    let t := s.issueReq inst r
    let mark := fun (q : ChReq) => if q.id = r.id then { q with issued := true } else q
    t.out = .dram inst (if r.wr.isSome then 1 else 0) (s.dramOf r.home).sc (s.dramOf r.home).rank (s.dramOf r.home).bg
      (s.dramOf r.home).ba (s.dramOf r.home).row (s.dramOf r.home).col :: s.out ∧
    (t.chan inst).rq = (s.chan inst).rq.map mark ∧ (t.chan inst).wq = (s.chan inst).wq.map mark ∧ t.mem = s.mem := by
  unfold State.issueReq
  simp only [hb, ne_eq, not_true_eq_false, decide_false, Bool.false_or, Nat.not_le.mpr hn, Bool.false_and, Bool.false_eq_true, if_false]
  refine ⟨by simp, ?_, ?_, by simp⟩ <;>
  · rw [State.chan_emit]
    split <;> simp only [State.chan_bumpCh, State.chan_setChan_self]

section
variable (inst sc : Nat) (ready : List Nat) (s : State)

theorem exec_dramCommandIssue_refresh (rank : Nat) (ha : (s.chan inst).state = .active) (ho : (s.chan inst).owing sc 4 = some rank) :
    exec (.dramCommandIssue inst sc ready) s = .next (s.issueRefresh inst sc rank) := by
  simp [exec, execDramCommandIssue, ha, ho]

theorem exec_dramCommandIssue_request (r : ChReq) (ha : (s.chan inst).state = .active) (ho : (s.chan inst).owing sc 4 = none)
    (hr : s.nextReq inst sc ready = some r) : exec (.dramCommandIssue inst sc ready) s = .next (s.issueReq inst r) := by
  simp [exec, execDramCommandIssue, ha, ho, hr]

theorem exec_dramCommandIssue_frozen (rank : Nat) (hf : (s.chan inst).state = .frozen) (ho : (s.chan inst).owing sc 1 = some rank) :
    exec (.dramCommandIssue inst sc ready) s = .next (s.issueRefresh inst sc rank) := by
  simp [exec, execDramCommandIssue, hf, ho]

end

/-- Drain mode follows what is stored; the rest of the channel is as given (R228). -/
theorem State.chan_setDrain (s : State) (inst : Nat) (c : Channel) :
    (s.setDrain inst c).chan inst = { c with drain := s.drainNow inst c } := by
  unfold State.setDrain
  dsimp only
  split
  · rw [State.chan_bumpCh, State.chan_setChan_self]
  · rw [State.chan_setChan_self]

/-- The queues with the level of a request raised (R227). -/
def State.leveled (s : State) (inst req level : Nat) : State :=
  let up := fun (q : ChReq) => if q.id = req then { q with level := level } else q
  s.setDrain inst { s.chan inst with rq := (s.chan inst).rq.map up, wq := (s.chan inst).wq.map up }

theorem State.leveled_effect (s : State) (inst req level : Nat) :
    let up := fun (q : ChReq) => if q.id = req then { q with level := level } else q
    let c : Channel := { s.chan inst with rq := (s.chan inst).rq.map up, wq := (s.chan inst).wq.map up }
    let t := s.leveled inst req level
    t.chan inst = { c with drain := s.drainNow inst c } ∧ t.mem = s.mem ∧ t.out = s.out :=
  ⟨s.chan_setDrain inst _, by simp [State.leveled], by simp [State.leveled]⟩

theorem exec_urgencyLevelUp (inst req : Nat) (r : ChReq) (s : State)
    (hr : ((s.chan inst).rq ++ (s.chan inst).wq).find? (fun r => r.id == req && !r.issued) = some r)
    (hl : r.level < levelAt (s.target inst r.port) (s.now - r.since)) :
    let l := levelAt (s.target inst r.port) (s.now - r.since)
    exec (.urgencyLevelUp inst req) s = .next (if l = 3 then (s.leveled inst req l).bump (Ctr.DC_CNT_L3 (chPage inst) r.port)
      else s.leveled inst req l) := by
  simp only [exec, execUrgencyLevelUp, hr, Nat.not_le.mpr hl, if_false]
  rfl

theorem exec_refreshDue (inst sc rank : Nat) (s : State) (ho : (s.chan inst).state ≠ .off) (hr : (s.chan inst).state ≠ .retired) :
    exec (.refreshDue inst sc rank) s = .next (s.setChan inst { s.chan inst with
      owed := (s.chan inst).owed.put 0 (rankKey sc rank) ((s.chan inst).owed.getD (rankKey sc rank) 0 + 1) }) := by
  simp [exec, execRefreshDue, ho, hr]

theorem State.calibrate_effect (s : State) (inst sc rank : Nat) : let t := s.calibrate inst sc rank
    t.out = .dram inst 5 sc rank 0 0 0 0 :: s.out ∧ t.ch = s.ch ∧
    t.ctr (Ctr.DC_CNT_CAL (chPage inst)) = s.ctr (Ctr.DC_CNT_CAL (chPage inst)) + 1 :=
  ⟨by simp [State.calibrate], by simp, State.ctr_bump_self s _⟩

theorem exec_zqCalibrationDue (inst sc rank : Nat) (s : State) (h : (s.chan inst).state = .active ∨ (s.chan inst).state = .frozen) :
    exec (.zqCalibrationDue inst sc rank) s = .next (s.calibrate inst sc rank) := by
  simp [exec, execZqCalibrationDue, h]

theorem exec_dqsCalibrationDue (inst sc rank : Nat) (s : State) (ha : (s.chan inst).state = .active) :
    exec (.dqsCalibrationDue inst sc rank) s =
      .next ((s.setChan inst { s.chan inst with calTemp := (s.chan inst).temp }).calibrate inst sc rank) := by
  simp [exec, execDqsCalibrationDue, ha]

end Sys2Proof.Machine
end

section
namespace Sys2Proof
open Sys2Proof.Machine

/-- Settles O35: DRAM_COMMAND_ISSUE is a refresh or `State.issueReq`, of which each case of the bank's row is one branch. -/
theorem channelCommands : Obligations.ChannelCommands := by
  refine ⟨fun inst sc ready rank s ha ho => ⟨_, exec_dramCommandIssue_refresh inst sc ready s rank ha ho, ?_⟩,
    fun inst sc ready r s ha ho hr hb => ⟨_, exec_dramCommandIssue_request inst sc ready s r ha ho hr, ?_⟩,
    fun inst sc ready r row n s ha ho hr hb hw => ⟨_, exec_dramCommandIssue_request inst sc ready s r ha ho hr, ?_⟩,
    fun inst sc ready r n s ha ho hr hb hn => ⟨_, exec_dramCommandIssue_request inst sc ready s r ha ho hr,
      s.issueReq_transfers inst r n hb hn⟩,
    fun inst sc ready rank s hf ho => ⟨_, exec_dramCommandIssue_frozen inst sc ready s rank hf ho, ?_⟩,
    fun inst req r s hr hl => ⟨_, exec_urgencyLevelUp inst req r s hr hl, ?_⟩,
    fun inst sc rank s ho hr => ⟨_, exec_refreshDue inst sc rank s ho hr, ?_⟩,
    fun inst sc rank s h => ⟨_, exec_zqCalibrationDue inst sc rank s h, s.calibrate_effect inst sc rank⟩,
    fun inst sc rank s ha => ⟨_, exec_dqsCalibrationDue inst sc rank s ha, ?_⟩⟩
  · obtain ⟨out, chan⟩ := s.issueRefresh_effect inst sc rank
    rw [chan]
    exact ⟨out, rfl, rfl, rfl⟩
  · dsimp only
    rw [s.issueReq_activates inst r hb, State.chan_emit, State.chan_setChan_self]
    exact ⟨rfl, rfl, rfl, rfl⟩
  · dsimp only
    rw [s.issueReq_precharges inst r row n hb hw, State.chan_emit, State.chan_setChan_self]
    exact ⟨rfl, rfl, rfl, rfl⟩
  · obtain ⟨out, chan⟩ := s.issueRefresh_effect inst sc rank
    rw [chan]
    exact ⟨out, hf, rfl, rfl⟩
  · obtain ⟨chan, mem, out⟩ := s.leveled_effect inst req (levelAt (s.target inst r.port) (s.now - r.since))
    split
    · rw [State.chan_bump, chan]
      exact ⟨rfl, rfl, mem, out⟩
    · rw [chan]
      exact ⟨rfl, rfl, mem, out⟩
  · dsimp only
    rw [State.chan_setChan_self]
    exact ⟨SMap.getD_put_self _ _ _ _, rfl, rfl⟩
  · obtain ⟨out, ch, ctr⟩ := (s.setChan inst { s.chan inst with calTemp := (s.chan inst).temp }).calibrate_effect inst sc rank
    rw [State.chan_congr ch, State.chan_setChan_self]
    exact ⟨out, rfl, ctr⟩

end Sys2Proof
end

section
namespace Sys2Proof.Machine

/-! ## Errors of a channel (R240 to R242) -/

theorem State.unlocked_congr {s t : State} (e : t.unlocks = s.unlocks) (who : Nat) : t.unlocked who = s.unlocked who := by
  simp only [State.unlocked, e]

/-- A command or data error of a channel is a fault of the channel (R240). -/
theorem State.freezeFault_of_error (s : State) (inst cause : Nat) (h : 2 ≤ cause) :
    s.freezeFault inst cause = (if inst < 16 then 0x05 else 0x06, Cls.critical) := by
  unfold State.freezeFault
  rw [if_neg (by omega)]
  split <;> rfl

theorem State.ctr_report (s : State) (unit code cls a : Nat) : (s.report unit code cls).ctr a = s.ctr a := rfl

/-- An active channel that freezes is counted, and reported (R240, R241). -/
theorem State.freeze_active_reports (s : State) (inst cause : Nat) (at_ : Option (DramAddr × Home)) (ha : (s.chan inst).state = .active) :
    let t := s.freeze inst cause at_
    t.ctr (Ctr.DC_CNT_FREEZE (chPage inst)) = s.ctr (Ctr.DC_CNT_FREEZE (chPage inst)) + 1 ∧
    t.flt.reports = s.flt.reports ++ [⟨chUnit inst, (s.freezeFault inst cause).1, (s.freezeFault inst cause).2⟩] := by
  simp only [State.freeze, ha, reduceCtorEq, beq_iff_eq, if_false, if_true]
  exact ⟨(State.ctr_report _ _ _ _ _).trans (State.ctr_bump_self _ _), rfl⟩

theorem State.commandError_active (s : State) (inst cause : Nat) (at_ : Option (DramAddr × Home)) (ha : (s.chan inst).state = .active) :
    s.commandError inst cause at_ = ((s.freeze inst cause at_).redirectReads inst).pump := by
  simp [State.commandError, ha]

theorem exec_caParityError (inst : Nat) (s : State) (hi : inst < 16) :
    exec (.caParityError inst) s = .next (s.commandError inst 2 (s.chan inst).lastCmd) := by
  simp [exec, execCaParityError, hi]

theorem exec_alertN (inst : Nat) (s : State) (hi : inst < 16) :
    exec (.alertN inst) s = .next (s.commandError inst 4 (s.chan inst).lastCmd) := by
  simp [exec, execAlertN, hi]

theorem exec_dataParity (inst : Nat) (s : State) (hl : 16 ≤ inst) (hh : inst < 48) :
    exec (.dataParity inst) s = .next (s.commandError inst 5 (s.chan inst).lastCmd) := by
  simp [exec, execDataParity, hl, hh]

theorem exec_writeCrcError (inst req : Nat) (r : ChReq) (s : State) (hi : inst < 16)
    (hr : (s.chan inst).wq.find? (fun r => r.id == req && r.issued) = some r) :
    exec (.writeCrcError inst req) s = .next (s.commandError inst 3 (some (s.dramOf r.home, r.home))) := by
  simp [exec, execWriteCrcError, hi, hr]

/-- With no refetch outstanding and no twin, the reads that wait for a frozen channel complete with poison (R242). -/
theorem exec_freezeReadTimeout (inst : Nat) (s : State) (hf : (s.chan inst).state = .frozen) (hm : s.mirrored = false)
    (hr : s.tier.refetch.cells = []) :
    exec (.freezeReadTimeout inst) s = .next (State.pump ((s.byArrival.filter (fun id => match s.entry id with
      | some e => e.op == .read && e.state == .residentWait && !e.sent && e.line != 2 ^ 38 && s.instOf (s.homeOf e.line) == inst &&
          !s.unrestored (leafOf e.line) && !s.fencedFor e
      | none => false)).foldl (fun (u : State) id => match u.entry id with | some e => u.complete id e (some (0, true)) | none => u) s)) := by
  simp only [exec, execFreezeReadTimeout, hf, hm, hr, execFreezeReadTimeout.noHome, bne_self_eq_false, Bool.or_false, Bool.false_eq_true,
    if_false, List.filter_nil, List.map_nil, List.foldl_nil] <;> rfl

/-! ## Release of a channel (R241, R243) -/

theorem enterQueue_keeps (c : Channel) (r : ChReq) : let d := enterQueue c r
    d.state = c.state ∧ d.capCause = c.capCause ∧ d.capAt = c.capAt := by
  unfold enterQueue
  repeat' split
  all_goals exact ⟨rfl, rfl, rfl⟩

theorem enterHeld_keeps (n : Nat) (c : Channel) : let d := enterHeld n c
    d.state = c.state ∧ d.capCause = c.capCause ∧ d.capAt = c.capAt := by
  induction n generalizing c with
  | zero => exact ⟨rfl, rfl, rfl⟩
  | succ n ih =>
    unfold enterHeld
    split
    · exact ⟨rfl, rfl, rfl⟩
    · next r _ =>
      obtain ⟨state, cause, at_⟩ := ih (enterQueue { c with held := c.held.filter (fun e => e.id != r.id) } r)
      obtain ⟨state', cause', at'⟩ := enterQueue_keeps { c with held := c.held.filter (fun e => e.id != r.id) } r
      exact ⟨state.trans state', cause.trans cause', at_.trans at'⟩

/-- Held requests enter a channel's queues; its state and its capture stay, and where none is held so do the queues. -/
theorem State.settle_chan (s : State) (inst : Nat) : let c := s.chan inst
    let d := (s.settle inst).chan inst
    d.state = c.state ∧ d.capCause = c.capCause ∧ d.capAt = c.capAt ∧ (c.held = [] → d.rq = c.rq ∧ d.wq = c.wq) := by
  unfold State.settle
  dsimp only
  rw [State.chan_setDrain]
  obtain ⟨state, cause, at_⟩ := enterHeld_keeps (s.chan inst).held.length (s.chan inst)
  exact ⟨state, cause, at_, fun h => by rw [h]; exact ⟨rfl, rfl⟩⟩

/-- A released channel: active, its capture cleared, its requests to issue anew. -/
def Channel.released (c : Channel) : Channel :=
  let again := fun (r : ChReq) => { r with issued := false }
  { c.clearCap with state := .active, rq := c.rq.map again, wq := c.wq.map again, rows := {}, lastCmd := none, calTemp := c.temp }

/-- The state as a released channel has been stored, before its held requests enter its queues. -/
def State.releasedChannel (s : State) (inst action : Nat) : State :=
  let s := (s.setChan inst (s.chan inst).released).setFld (Reg.DC_ACTION (chPage inst)) Fld.DC_ACTION_ACTION action
  ((s.calibrate inst 0 0).bumpCh inst Ctr.DC_CNT_CAL).unitDone (chUnit inst)

theorem State.releaseChannel_eq (s : State) (inst action : Nat) :
    s.releaseChannel inst action = ((s.releasedChannel inst action).settle inst).pump := rfl

theorem State.releasedChannel_chan (s : State) (inst action : Nat) : (s.releasedChannel inst action).chan inst = (s.chan inst).released := by
  have ch : (s.releasedChannel inst action).ch = (s.setChan inst (s.chan inst).released).ch := by simp [State.releasedChannel]
  rw [State.chan_congr ch, State.chan_setChan_self]

theorem exec_release (who inst : Nat) (s : State) (hu : s.unlocked who = true) (hf : (s.chan inst).state = .frozen) :
    exec (.release who inst) s = .next (((s.relock who).releaseChannel inst 1).netRun) := by
  have frozen : ((s.relock who).chan inst).state = .frozen := hf
  simp [exec, execRelease, s.guarded_open who hu, frozen]

/-! ## RETIRE_LINE (R243, R262) -/

theorem exec_retireLine (who inst : Nat) (s : State) (hu : s.unlocked who = true) (hf : (s.chan inst).state = .frozen) :
    exec (.retireLine who inst) s = .next ((s.relock who).retireLine inst) := by
  have frozen : ((s.relock who).chan inst).state = .frozen := hf
  simp [exec, execRetireLine, s.guarded_open who hu, frozen]

/-- The state as a captured line that had no entry has entered the remap table, before its channel is released. -/
def State.remapped (s : State) (inst : Nat) (src dst : Home) : State :=
  let dev := (s.lineAt src).getD (2 ^ 58 - 1)
  let s := s.setChan inst { s.chan inst with wq := (s.chan inst).wq.filter (fun r => r.home != src) }
  let e : Remap := ⟨(s.dramOf src).inst, src, dst, dev, s.now⟩
  State.ecRecord { s with ec := { s.ec with remaps := s.ec.remaps.filter (fun r => r.src != src) ++ [e] } }
    0x35 Cls.major 0xFF 0 7 0 src (64 * dev) 0

/-- What becomes of the contents of a line just remapped: its spare line takes them, or waits for the line's refetch. -/
def State.fillSpare (s : State) (src : Home) (line : Option Nat) (c : Nat → Cell) : State :=
  match line with
  | none => s
  | some l =>
    if s.tier.refetch.has l then s.setChan (s.instOf src) { s.chan (s.instOf src) with retireWait := some l }
    else (s.writeHome 5 0 l src (c l)).pump

@[simp] theorem State.fillSpare_unlocks (s : State) (src : Home) (line : Option Nat) (c : Nat → Cell) :
    (s.fillSpare src line c).unlocks = s.unlocks := by
  unfold State.fillSpare
  (repeat' split) <;> simp

theorem State.retireLine_remaps (s : State) (inst : Nat) (a : DramAddr) (cap d : Home) (h1 : (s.chan inst).capCause = 1)
    (hc : (s.chan inst).capAt = some (a, cap)) (hn : s.ec.remaps.find? (fun r => r.dst == cap) = none)
    (hr : (s.ec.remaps.filter (fun r => r.inst == (s.dramOf cap).inst)).length < remapCap (s.dramOf cap).inst)
    (hd : s.firstSpare cap (s.spareArea cap.hbm).2 (s.spareArea cap.hbm).1 = some d) :
    s.retireLine inst =
      ((s.remapped inst cap d).releaseChannel inst 2).fillSpare cap (s.lineAt cap) (fun l => s.retireCell l cap) := by
  have room : ¬ remapCap (s.dramOf cap).inst ≤ (s.ec.remaps.filter (fun r => r.inst == (s.dramOf cap).inst)).length := Nat.not_le.mpr hr
  unfold State.retireLine
  extract_lets c
  rw [show c.capAt = some (a, cap) from hc]
  dsimp -zeta only
  rw [hn]
  extract_lets old src table line dev cell drop u ec
  have fits : (decide (c.capCause ≠ 1) || old.isNone && decide (remapCap (s.dramOf src).inst ≤ table.length)) = false := by
    simp [c, old, src, table, h1, room]
  rw [if_neg (by rw [fits]; exact Bool.false_ne_true), show s.firstSpare src _ _ = some d from hd]
  dsimp only [old, src, line, dev, cell, drop, u, ec, Option.isSome_none]
  simp only [Bool.false_eq_true, if_false]
  cases h : s.lineAt cap with
  | none => rw [State.fillSpare, State.remapped, h]
  | some l => rw [State.fillSpare, State.remapped, h]; rfl

theorem State.firstSpare_relock (s : State) (who : Nat) (src : Home) (n i : Nat) :
    (s.relock who).firstSpare src n i = s.firstSpare src n i := by
  induction n generalizing i with
  | zero => rfl
  | succ n ih =>
    simp only [State.firstSpare, ih]
    rfl

theorem State.dramOf_setChan (s : State) (inst : Nat) (c : Channel) (h : Home) : (s.setChan inst c).dramOf h = s.dramOf h :=
  State.dramOf_congr (by simp) (by simp) h

theorem State.remapped_ec (s : State) (inst : Nat) (src dst : Home) : ∃ e : Remap, e.inst = (s.dramOf src).inst ∧ e.src = src ∧ e.dst = dst ∧
    (s.remapped inst src dst).ec.remaps = s.ec.remaps.filter (fun r => r.src != src) ++ [e] :=
  ⟨_, congrArg DramAddr.inst (s.dramOf_setChan inst _ src), rfl, rfl, by simp [State.remapped]; rfl⟩

end Sys2Proof.Machine
end

section
namespace Sys2Proof
open Sys2Proof.Machine

/-- Settles O36: an error freezes its channel and redirects its reads; a channel released is `Channel.released` with what it held settled. -/
theorem channelErrorsAndActions : Obligations.ChannelErrorsAndActions := by
  refine ⟨fun inst cause at_ s ha => ?_,
    fun inst s hi ha => ⟨_, exec_caParityError inst s hi, s.commandError_active inst _ _ ha⟩,
    fun inst s hi ha => ⟨_, exec_alertN inst s hi, s.commandError_active inst _ _ ha⟩,
    fun inst s hl hh ha => ⟨_, exec_dataParity inst s hl hh, s.commandError_active inst _ _ ha⟩,
    fun inst req r s hi hr ha => ⟨_, exec_writeCrcError inst req r s hi hr, s.commandError_active inst _ _ ha⟩,
    fun who inst s hu hf => ⟨_, exec_release who inst s hu hf, ((s.relock who).releasedChannel inst 1).settle inst,
      congrArg State.netRun (State.releaseChannel_eq _ inst 1), ?_⟩,
    fun who inst a cap d s hu hf h1 hc hn hr hd => ⟨_, exec_retireLine who inst s hu hf, ?_⟩,
    fun inst s hf hm hr => ⟨_, exec_freezeReadTimeout inst s hf hm hr, rfl⟩⟩
  · obtain ⟨counted, reported⟩ := s.freeze_active_reports inst cause at_ ha
    rw [s.freeze_active inst cause at_ ha]
    refine ⟨rfl, rfl, rfl, counted, fun h => ?_⟩
    rw [reported, s.freezeFault_of_error inst cause h]
  · obtain ⟨state, cause, at_, queues⟩ := ((s.relock who).releasedChannel inst 1).settle_chan inst
    rw [State.releasedChannel_chan] at state cause at_ queues
    refine ⟨state, cause, at_, queues, ?_, ?_⟩
    · exact (State.unlocked_congr (by simp [State.releasedChannel]) who).trans (State.unlocked_relock s who)
    · simp [State.releasedChannel]
  · have spare : (s.relock who).firstSpare cap (s.spareArea cap.hbm).2 (s.spareArea cap.hbm).1 = some d :=
      (s.firstSpare_relock who cap _ _).trans hd
    rw [State.retireLine_remaps (s.relock who) inst a cap d h1 hc hn hr spare]
    obtain ⟨e, inst', src, dst, remaps⟩ := (s.relock who).remapped_ec inst cap d
    refine ⟨(State.unlocked_congr (by simp [State.remapped]) who).trans (State.unlocked_relock s who),
      e, (s.relock who).remapped inst cap d, inst', src, dst, remaps, ?_⟩
    unfold State.fillSpare
    cases h : s.lineAt cap <;> rw [show (s.relock who).lineAt cap = _ from h]
    rfl

end Sys2Proof
end

section
namespace Sys2Proof.Machine

/-! ## Retirement of a channel (R243 to R246) -/

theorem Word.field_setField_pair (w : Word) (v : Nat) (h : v < 4) : (w.setField 1 0 v).field 1 0 = v := by
  have hw := w.isLt
  simp only [Word.setField, Word.field, BitVec.toNat_ofNat]
  omega

theorem State.fld_setFld_action (s : State) (a v : Nat) (h : v < 4) :
    (s.setFld a Fld.DC_ACTION_ACTION v).fld a Fld.DC_ACTION_ACTION = v := by
  rw [State.fld, State.setFld, State.reg_setReg_self, Word.field_setField_pair _ v h]

theorem State.fld_congr {s t : State} (e : t.regs = s.regs) (a : Nat) (f : Fld) : t.fld a f = s.fld a f := by
  simp only [State.fld, State.reg, e]

theorem State.ch_setFld (s : State) (a : Nat) (f : Fld) (v : Nat) : (s.setFld a f v).ch = s.ch := by simp

/-- The state as a retired channel has been stored, with its ACTION. -/
def State.retiredChannel (s : State) (inst : Nat) : State :=
  (s.setChan inst { (s.chan inst).clearCap with state := .retired }).setFld (Reg.DC_ACTION (chPage inst)) Fld.DC_ACTION_ACTION 3

theorem State.markRetired_keeps (s : State) (inst : Nat) : (s.markRetired inst).ch = (s.retiredChannel inst).ch ∧
    (s.markRetired inst).regs = (s.retiredChannel inst).regs := by
  unfold State.markRetired State.retiredChannel
  dsimp only
  split <;> exact ⟨rfl, rfl⟩

/-- A retired channel has nothing captured; DC_ACTION tells of the retirement (R243). -/
theorem State.markRetired_effect (s : State) (inst : Nat) : let t := s.markRetired inst
    (t.chan inst).state = .retired ∧ (t.chan inst).capCause = 0 ∧ t.fld (Reg.DC_ACTION (chPage inst)) Fld.DC_ACTION_ACTION = 3 := by
  obtain ⟨ch, regs⟩ := s.markRetired_keeps inst
  have chan : (s.retiredChannel inst).chan inst = { (s.chan inst).clearCap with state := .retired } := by
    rw [State.retiredChannel, State.chan_congr (State.ch_setFld _ _ _ _), State.chan_setChan_self]
  dsimp only
  rw [State.chan_congr ch, chan, State.fld_congr regs]
  exact ⟨rfl, rfl, State.fld_setFld_action _ _ 3 (by decide)⟩

/-- Fault handling's off request enters PRESERVE from a mode that serves hosts (R245, R246). -/
theorem State.faultOff_preserve (s : State) (hm : s.mode.mode = .serve ∨ s.mode.mode = .solo) :
    s.faultOff.mode.mode = .preserve ∧ s.faultOff.mode.reason = 0x08 := by
  have running : s.running = true := s.running_of_mode (hm.imp_right .inl)
  obtain ⟨mode, reason, -⟩ := s.offRequest_enters_preserve 0x08 running
  exact ⟨mode, reason⟩

theorem State.retireChannels_preserve (s : State) (l : List Nat) (hm : s.mode.mode = .serve ∨ s.mode.mode = .solo) :
    (s.retireChannels l).mode.mode = .preserve ∧ (s.retireChannels l).mode.reason = 0x08 := by
  unfold State.retireChannels
  simp only [State.pump_frame]
  apply State.faultOff_preserve
  simpa using hm

/-- RETIRE_CHANNEL through an open unlock (R243). -/
theorem exec_retireChannel (who inst : Nat) (s : State) (hu : s.unlocked who = true) (hf : (s.chan inst).state = .frozen) :
    exec (.retireChannel who inst) s = .next ((s.relock who).retireChannels [inst]) := by
  have frozen : ((s.relock who).chan inst).state = .frozen := hf
  simp [exec, execRetireChannel, s.guarded_open who hu, frozen, State.retireChannel]

theorem exec_freezeLimitExpired (inst : Nat) (s : State) (hf : (s.chan inst).state = .frozen) :
    exec (.freezeLimitExpired inst) s = .next
      ((s.logRec LogT.faultEvent Src.ec Cls.critical [w32 (chUnit inst), w32 (s.chan inst).capCause]).retireChannels [inst]) := by
  simp [exec, execFreezeLimitExpired, hf, State.retireChannel]

/-! ## Scrub (R274 to R278) -/

theorem State.request_granted (s : State) (w : Waiting) (hg : s.mayGrant w.src = true) (hb : s.heldBack w.src = false) :
    s.request w = ((s.grant w).1, some (s.grant w).2) := by
  simp [State.request, hg, hb]

/-- The entry of a request as it is granted (R63). -/
def State.newEntry (s : State) (w : Waiting) : Entry :=
  { src := w.src, line := w.line, op := w.op, dst := w.dst, state := .decode, bad := w.bad, since := s.now, arr := s.trk.nextArr,
    ord := none, applied := false, result := none, tag := none, sent := false, owed := false }

theorem State.grant_entry (s : State) (w : Waiting) : (s.grant w).1.entry (s.grant w).2 = some (s.newEntry w) := by
  have entries : (s.grant w).1.trk.entries = s.trk.entries.insert (s.grant w).2 (s.newEntry w) := by
    unfold State.grant
    dsimp only
    simp only [State.returnCredit_frame, ite_trk, State.setFld_frame, ite_self]
    rfl
  rw [State.entry, entries, SMap.find?_insert_self]

/-- The state as scrub has begun to read a line: its entry waits for the home line, and the cursor is past it (R274). -/
def State.scrubReading (s : State) (place line : Nat) (h : Home) : State :=
  let w : Waiting := ⟨6, line, .read, .internal 0, false⟩
  let t := ((s.grant w).1.setEntry (s.grant w).2 { s.newEntry w with state := .home }).readHome 5 0 line h (.entry (s.grant w).2)
  ({ t with ec := { t.ec with scrubbing := some (t.remapOf h, (s.grant w).2, false) } }.scrubPast place).bump Ctr.EC_CNT_SCRUB_LINES

theorem State.scrubReading_effect (s : State) (place line : Nat) (h : Home) : let t := s.scrubReading place line h
    t.ec.scrubAt = place + 1 ∧ t.ec.scrubbing.isSome = true ∧ t.mem = s.mem :=
  ⟨rfl, rfl, by simp [State.scrubReading, State.scrubPast, State.setEntry]⟩

section
variable (place line : Nat) (h : Home) (s : State) (hr : s.scrubRuns = true) (hs : s.ec.scrubbing = none) (ha : s.ec.scrubAll ≠ 0)
  (hd : s.ec.scrubDone ≠ s.ec.scrubAll)
include hr hs ha hd

theorem exec_scrubRead_ends (hn : s.scrubNext = none) : exec .scrubRead s =
    .next { s with ec := { s.ec with scrubDone := s.ec.scrubAll, passes := (s.ec.passes + 1) % 65536 } } := by
  simp [exec, execScrubRead, hr, hs, ha, hd, hn]

variable (hn : s.scrubNext = some (place, line, h)) (hc : line = reserveLine ∨ s.atCursor line = false)
include hn hc

theorem exec_scrubRead_reads (hp : s.stopped h = false) (hg : s.mayGrant 6 = true) (hb : s.heldBack 6 = false) :
    exec .scrubRead s = .next (s.scrubReading place line h) := by
  have free : (line != reserveLine && s.atCursor line) = false := by rcases hc with hc | hc <;> simp [hc]
  have granted := s.request_granted ⟨6, line, .read, .internal 0, false⟩ hg hb
  have entry := s.grant_entry ⟨6, line, .read, .internal 0, false⟩
  simp only [exec, execScrubRead, hr, hs, ha, hd, hn, free, hp, hg, hb, granted, entry, Option.isSome_none, Bool.not_true, decide_false,
    Bool.or_false, Bool.false_eq_true, if_false, State.scrubReading]

theorem exec_scrubRead_skips (hp : s.stopped h = true) : exec .scrubRead s = .next (s.scrubPast place) := by
  have free : (line != reserveLine && s.atCursor line) = false := by rcases hc with hc | hc <;> simp [hc]
  simp [exec, execScrubRead, hr, hs, ha, hd, hn, free, hp]

end

/-! ## Row repair (R266, R267) -/

/-- The refetch of a line of the row runs yet: the repair does not end before it. -/
def State.rowWaits (s : State) (r : RepairedRow) : Bool :=
  (s.rowCells r).any (fun c => match s.lineAt c.1 with | some l => s.tier.refetch.has l | none => false)

/-- The repair of a command leaves its channel as it is (R406). -/
theorem State.repairEnd_command (s : State) (p : RowRepair) (good : Bool) (h : p.auto = none) : s.repairEnd p good = s := by
  unfold State.repairEnd
  dsimp only
  rw [h]

theorem exec_pprDone_exhausted (p : RowRepair) (s : State) (hp : s.ec.repair = some p) (hw : s.rowWaits p.row = false) (ha : p.auto = none) :
    exec (.pprDone 1) s = .next (State.finish { s with ec := { s.ec with repair := none } } p.tag .exhausted) := by
  simp only [exec, execPprDone, hp, if_true, State.repairEnd_command _ p _ ha]
  split
  · next h => exact absurd (hw.symm.trans h) Bool.false_ne_true
  · rfl

/-- The state as a repaired row is listed, with its record, where it is soft (R266, R282). -/
def State.rowListed (s : State) (p : RowRepair) : State :=
  let r := p.row
  let rows := s.ec.rows.filter (fun q => q != r)
  let a : DramAddr := ⟨r.inst, r.sc, r.rank, r.bg, r.ba, r.row, 0⟩
  (State.logRec { s with ec := { s.ec with rows := if p.hard then rows else rows ++ [r] } } 0x36 Src.ec Cls.major
    (ecPayload a (if r.inst < 16 then r.dev else 0xFF) 0 6 0 ⟨16 ≤ r.inst, 0⟩ (64 * reserveLine) 0)).bump Ctr.EC_CNT_PPR

/-- The state as the lines of a repaired row are written back, and the remap entries of it freed (R267 step 5). -/
def State.rowRestored (s : State) (r : RepairedRow) : State :=
  let s' := (s.rowCells r).foldl (fun s c => s.rowBack r c.1 c.2) s
  (s'.ec.remaps.filter (fun q => s'.inRow r q.src)).foldl State.unremap s'

theorem exec_pprDone_repaired (p : RowRepair) (s : State) (hp : s.ec.repair = some p) (hw : s.rowWaits p.row = false) (ha : p.auto = none) :
    let u := (s.rowRestored p.row).rowListed p
    exec (.pprDone 0) s = .next (State.finish { u with ec := { u.ec with repair := none } } p.tag (.ok [])).pump := by
  simp only [exec, execPprDone, hp, if_false, Nat.zero_ne_one, ne_eq, not_true_eq_false, State.repairEnd_command _ p _ ha]
  split
  · next h => exact absurd (hw.symm.trans h) Bool.false_ne_true
  · rfl

theorem State.mem_rowListed (s : State) (p : RowRepair) : p.row ∈ (s.rowListed p).ec.rows ↔ p.hard = false := by
  have rows : (s.rowListed p).ec.rows = if p.hard then s.ec.rows.filter (fun q => q != p.row)
      else s.ec.rows.filter (fun q => q != p.row) ++ [p.row] := by
    simp [State.rowListed]
  rw [rows]
  cases p.hard <;> simp

theorem State.rowRestored_mode (s : State) (r : RepairedRow) : (s.rowRestored r).mode = s.mode := by
  simp [State.rowRestored]

theorem State.finish_ec_mode (s : State) (tag : Nat) (r : Reply) : (s.finish tag r).ec = s.ec ∧ (s.finish tag r).mode = s.mode :=
  ⟨by simp, by simp⟩

/-- A repair that succeeds ends, its row listed where it is soft. -/
theorem State.repaired_effect (s : State) (p : RowRepair) : let u := (s.rowRestored p.row).rowListed p
    let t := State.finish { u with ec := { u.ec with repair := none } } p.tag (.ok [])
    t.ec.repair = none ∧ (p.row ∈ t.ec.rows ↔ p.hard = false) ∧ t.mode = s.mode := by
  have listed : ((s.rowRestored p.row).rowListed p).mode = s.mode := by simp [State.rowListed, s.rowRestored_mode]
  dsimp only
  generalize hu : (s.rowRestored p.row).rowListed p = u at listed
  obtain ⟨ec, mode⟩ := State.finish_ec_mode { u with ec := { u.ec with repair := none } } p.tag (.ok [])
  rw [ec, mode]
  exact ⟨rfl, hu ▸ (s.rowRestored p.row).mem_rowListed p, listed⟩

/-! ## Checker test (R279 to R281, R459) -/

/-- The state as EC_TEST_CTL has taken the TMARK fields and the OP of a write through an open unlock (R279). -/
def State.testStarted (s : State) (who op : Nat) (ctl : Word) : State :=
  (s.relock who).setReg Reg.EC_TEST_CTL (guardedWord Reg.EC_TEST_CTL (s.reg Reg.EC_TEST_CTL) (ctl.setField 2 0 op))

theorem State.testStarted_mem (s : State) (who op : Nat) (ctl : Word) (u : State) (h : u = s.testStarted who op ctl) : u.mem = s.mem := by
  simp [h, State.testStarted]

section
variable (s : State) (who op : Nat) (ctl : Word) (run : State → Home → State) (hc : s.pwr.core = true) (hw : who < 5)
include hc hw

theorem State.testOp_closed (hu : s.unlocked who = false) : s.testOp who op ctl run = s.bump Ctr.SYS_CNT_GUARD_REFUSED := by
  simp [State.testOp, hc, Nat.not_le.mpr hw, s.guarded_closed who hu]

variable (hu : s.unlocked who = true)
include hu

theorem State.testOp_open : let u := s.testStarted who op ctl
    s.testOp who op ctl run =
      if op ≤ 2 && u.testBarred u.testHome then u.testRes 3
      else if u.testConflict u.testHome then u.testRes 4 else (run u u.testHome).testRes 1 := by
  unfold State.testOp
  rw [if_neg (by simp [hc, hw]), s.guarded_open who hu]
  rfl

variable (u : State) (he : u = s.testStarted who op ctl)
include he

theorem State.testOp_barred (ho : op ≤ 2) (hb : u.testBarred u.testHome = true) : s.testOp who op ctl run = u.testRes 3 := by
  subst he
  rw [s.testOp_open who op ctl run hc hw hu, if_pos (by simp [ho, hb])]

theorem State.testOp_runs (hb : op ≤ 2 → u.testBarred u.testHome = false) (hk : u.testConflict u.testHome = false) :
    s.testOp who op ctl run = (run u u.testHome).testRes 1 := by
  subst he
  rw [s.testOp_open who op ctl run hc hw hu, if_neg (by simpa using hb), if_neg (by simp [hk])]

end

theorem exec_rawRead (who : Nat) (ctl : Word) (errs : List (Nat × BitVec 16)) (s : State) (hc : s.pwr.core = true) (hw : who < 5)
    (hu : s.unlocked who = true) (u : State) (he : u = s.testStarted who 3 ctl) (hk : u.testConflict u.testHome = false) :
    exec (.rawRead who ctl errs) s = .next ((u.testRead u.testHome (u.markOf u.testHome) false (errWord errs)).testRes 1) :=
  congrArg _ (State.testOp_runs s who 3 ctl _ hc hw hu u he (fun h => absurd h (by decide)) hk)

theorem exec_decRead (who : Nat) (ctl : Word) (errs : List (Nat × BitVec 16)) (s : State) (hc : s.pwr.core = true) (hw : who < 5)
    (hu : s.unlocked who = true) (u : State) (he : u = s.testStarted who 4 ctl) (hk : u.testConflict u.testHome = false) :
    exec (.decRead who ctl errs) s = .next ((u.testRead u.testHome (u.testMark u.testHome) true (errWord errs)).testRes 1) :=
  congrArg _ (State.testOp_runs s who 4 ctl _ hc hw hu u he (fun h => absurd h (by decide)) hk)

theorem State.testRead_kept (s : State) (h : Home) (mark : Option Nat) (dec : Bool) (errs : List (Nat × Nat)) :
    ((s.testRead h mark dec errs).testRes 1).ec.testResult = 1 ∧ ((s.testRead h mark dec errs).testRes 1).mem = s.mem :=
  ⟨rfl, by simp [State.testRes]⟩

end Sys2Proof.Machine
end

section
namespace Sys2Proof
open Sys2Proof.Machine

/-- Settles O38: each command is one branch of its definition; what a repair writes back and frees leaves the mode and the list of rows alone,
and the operations of the checker test are the runs of `State.testOp`. -/
theorem scrubRepairAndTest : Obligations.ScrubRepairAndTest := by
  refine ⟨fun inst s => s.markRetired_effect inst,
    fun who inst s hu hf hm => ?_,
    fun inst s hf => ⟨_, exec_freezeLimitExpired inst s hf, rfl⟩,
    fun s hr => ⟨s.scrubPass, by simp [exec, execScrubPassStart, hr], rfl, rfl, rfl, rfl, rfl⟩,
    fun place line h s hr hs ha hd hn hc hp hg hb => ⟨_, exec_scrubRead_reads place line h s hr hs ha hd hn hc hp hg hb,
      s.scrubReading_effect place line h⟩,
    fun place line h s hr hs ha hd hn hc hp => ⟨_, exec_scrubRead_skips place line h s hr hs ha hd hn hc hp, rfl⟩,
    fun s hr hs ha hd hn => ⟨_, exec_scrubRead_ends s hr hs ha hd hn, rfl⟩,
    fun p s hp hw ha => ⟨_, exec_pprDone_exhausted p s hp hw ha, rfl⟩,
    fun p s hp hw ha => ⟨_, exec_pprDone_repaired p s hp hw ha, _, rfl, s.repaired_effect p⟩,
    fun who ctl u s hc hw hu he hb hk => ⟨_, rfl, State.testOp_runs s who 1 ctl _ hc hw hu u he (fun _ => hb) hk⟩,
    fun who ctl u s hc hw hu he hb hk => ⟨_, rfl, State.testOp_runs s who 2 ctl _ hc hw hu u he (fun _ => hb) hk⟩,
    fun who ctl errs u s hc hw hu he hk => ⟨_, exec_rawRead who ctl errs s hc hw hu u he hk, rfl, ?_⟩,
    fun who ctl errs u s hc hw hu he hk => ⟨_, exec_decRead who ctl errs s hc hw hu u he hk, rfl, ?_⟩,
    fun who ctl u s hc hw hu he hb => ⟨_, rfl, State.testOp_barred s who 1 ctl _ hc hw hu u he (by decide) hb⟩,
    fun who ctl s hc hw hu => ⟨_, rfl, s.testOp_closed who 1 ctl _ hc hw hu⟩⟩
  · obtain ⟨mode, reason⟩ := (s.relock who).retireChannels_preserve [inst] hm
    exact ⟨_, exec_retireChannel who inst s hu hf, rfl, mode, reason,
      (State.unlocked_congr (by simp) who).trans (State.unlocked_relock s who)⟩
  · obtain ⟨result, mem⟩ := u.testRead_kept u.testHome (u.markOf u.testHome) false (errWord errs)
    exact ⟨result, mem.trans (s.testStarted_mem who 3 ctl u he)⟩
  · obtain ⟨result, mem⟩ := u.testRead_kept u.testHome (u.testMark u.testHome) true (errWord errs)
    exact ⟨result, mem.trans (s.testStarted_mem who 4 ctl u he)⟩

end Sys2Proof
end

section
namespace Sys2Proof.Machine

/-! ## Recording (R394, R418) -/

/-- A record is dropped unseen, or the logbook counts it, or its overflow. -/
theorem State.logRec_ctrs (s : State) (typ source cls : Nat) (payload : List Word) : let t := s.logRec typ source cls payload
    t.ctrs = s.ctrs ∨ t.ctrs = (s.bump Ctr.LOG_CNT_OVERFLOW).ctrs ∨ t.ctrs = (s.bump Ctr.LOG_CNT_RECORD).ctrs := by
  unfold State.logRec State.logAt
  dsimp only
  rw [ite_ctrs, ite_ctrs, ite_ctrs, ite_self]
  split
  · exact .inl rfl
  · split
    · exact .inr (.inl rfl)
    · exact .inr (.inr rfl)

theorem State.ctr_congr {s t : State} (e : t.ctrs = s.ctrs) (a : Nat) : t.ctr a = s.ctr a := by simp only [State.ctr, e]

/-- The logbook's own counters apart, a record leaves every counter as it is. -/
theorem State.ctr_logRec (s : State) (typ source cls a : Nat) (payload : List Word) (hr : Ctr.LOG_CNT_RECORD ≠ a)
    (ho : Ctr.LOG_CNT_OVERFLOW ≠ a) : (s.logRec typ source cls payload).ctr a = s.ctr a := by
  rcases s.logRec_ctrs typ source cls payload with h | h | h
  · exact State.ctr_congr h a
  · rw [State.ctr_congr h, State.ctr_bump_other s _ _ ho]
  · rw [State.ctr_congr h, State.ctr_bump_other s _ _ hr]

theorem clsCounter_cases (cls : Nat) : clsCounter cls = Ctr.FLT_CNT_INFO ∨ clsCounter cls = Ctr.FLT_CNT_MINOR ∨
    clsCounter cls = Ctr.FLT_CNT_MAJOR ∨ clsCounter cls = Ctr.FLT_CNT_CRITICAL := by
  unfold clsCounter
  split
  · exact .inl rfl
  · split
    · exact .inr (.inl rfl)
    · split
      · exact .inr (.inr (.inl rfl))
      · exact .inr (.inr (.inr rfl))

/-- Recording an event sets FLT_LAST and advances the counter of its class. -/
theorem State.recordEvent_effect (s : State) (e : FaultEv) (note : Nat) : let t := s.recordEvent e note
    t.flt = { s.flt with last := e } ∧ t.ctr (clsCounter e.cls) = s.ctr (clsCounter e.cls) + 1 ∧ t.mode = s.mode := by
  have logged : ∀ p, (s.logRec LogT.faultEvent Src.flt e.cls p).ctr (clsCounter e.cls) = s.ctr (clsCounter e.cls) := fun p => by
    rcases clsCounter_cases e.cls with h | h | h | h <;> rw [h] <;> exact State.ctr_logRec s _ _ _ _ p (by decide) (by decide)
  have last : (s.recordEvent e note).flt = { s.flt with last := e } := by
    unfold State.recordEvent
    rw [foldl_flt _ (fun u fn => by simp)]
    simp only [State.logRec_frame]
  have ctrs : (s.recordEvent e note).ctrs =
      ((s.logRec LogT.faultEvent Src.flt e.cls [w32 e.unit, w32 e.code, w32 note]).bump (clsCounter e.cls)).ctrs := by
    unfold State.recordEvent
    rw [foldl_ctrs _ (fun u fn => by simp)]
  exact ⟨last, by rw [State.ctr_congr ctrs, State.ctr_bump_self, logged], by simp⟩

theorem exec_faultEvent (unit code cls at_ : Nat) (s : State) (hc : s.pwr.core = true) :
    let e : FaultEv := ⟨unit % 2 ^ 32, code % 2 ^ 16, cls % 4⟩
    let u := State.recordEvent { s with flt := { s.flt with reports := s.flt.reports.erase e } } e 0
    let v := (((u.stripFault (cls % 4)).autoTry).faultEffects e at_).dependants (code % 2 ^ 16)
    exec (.faultEvent unit code cls at_) s = .next (if 1 ≤ cls % 4 ∧ tested (code % 2 ^ 16) = true then v.handle e else v).pump := by
  simp only [exec, execFaultEvent, hc, Bool.not_true, Bool.false_eq_true, if_false, Bool.and_eq_true, decide_eq_true_eq]

/-! ## Handlings (R405 to R409) -/

theorem State.recurs_congr {s t : State} (er : t.regs = s.regs) (ef : t.flt.transient = s.flt.transient) (et : t.tim = s.tim)
    (unit code : Nat) : t.recurs unit code = s.recurs unit code := by
  have now : t.now = s.now := congrArg Timebase.ns et
  unfold State.recurs
  rw [State.fld_congr er, State.fld_congr er, ef, now]

/-- The handling of a fault as it begins: its test runs (R405). -/
def FaultEv.slot (e : FaultEv) : FltSlot := ⟨e.unit, e.code, e.cls, 2, false, false⟩

theorem State.openSlot_tests (s : State) (k : Nat) (e : FaultEv) (h : (s.setFlt k e.slot).recurs e.unit e.code = false) :
    s.openSlot k e = s.setFlt k e.slot := by
  unfold State.openSlot
  rw [if_neg (by rw [FaultEv.slot] at h; simp [h])]
  rfl

theorem State.slot_setFlt (s : State) (k : Nat) (f : FltSlot) : (s.setFlt k f).flt.slots.find? k = some f := SMap.find?_insert_self _ _ _

theorem State.contain_queue (s : State) (unit : Nat) : (s.contain unit).flt.queue = s.flt.queue := by
  unfold State.contain
  dsimp only
  repeat' split
  all_goals rfl

/-- A fault that no handling covers and that does not recur is tested in a free slot, where no event waits (R407). -/
theorem State.handle_tests (s : State) (e : FaultEv) (k : Nat)
    (hn : s.flt.slots.cells.find? (fun c => c.2.unit == e.unit || unitWithin e.unit c.2.unit) = none)
    (hk : (s.contain e.unit).freeSlot = some k) (hq : s.flt.queue = [])
    (hr : ((s.contain e.unit).setFlt k e.slot).recurs e.unit e.code = false) :
    s.handle e = (s.contain e.unit).setFlt k e.slot := by
  have empty : (s.contain e.unit).flt.queue.isEmpty = true := by rw [s.contain_queue e.unit, hq]; rfl
  simp only [State.handle, hn, hk, empty, if_true]
  exact State.openSlot_tests _ k e hr

/-- Fenced units rejoin the queue while it holds fewer than 32 (R409). -/
def State.rejoined (s : State) : State :=
  let room := 32 - s.flt.queue.length
  { s with flt := { s.flt with queue := (s.flt.fenced.take room).foldl (fun q e => queueIn e q) s.flt.queue,
                               fenced := s.flt.fenced.drop room } }

theorem State.rejoined_keeps (s : State) (h : s.flt.fenced = []) : s.rejoined.flt.slots = s.flt.slots ∧
    s.rejoined.flt.queue = s.flt.queue := by
  refine ⟨rfl, ?_⟩
  unfold State.rejoined
  dsimp only
  rw [h, List.take_nil, List.foldl_nil]

/-- A free slot takes the head of the queue (R407). -/
theorem exec_faultSlotDispatch (slot : Nat) (e : FaultEv) (rest : List FaultEv) (s : State) (hs : slot < 8)
    (hf : s.flt.slots.has slot = false) (hx : s.flt.cox = .running) (hq : s.flt.queue = e :: rest)
    (hr : s.recurs e.unit e.code = false) :
    exec (.faultSlotDispatch slot) s = .next (State.setFlt { s with flt := { s.flt with queue := rest } } slot e.slot).rejoined := by
  have tests : State.openSlot { s with flt := { s.flt with queue := rest } } slot e =
      State.setFlt { s with flt := { s.flt with queue := rest } } slot e.slot :=
    State.openSlot_tests _ slot e ((State.recurs_congr rfl rfl rfl e.unit e.code).trans hr)
  rw [← tests]
  simp only [exec, execFaultSlotDispatch, Nat.not_le.mpr hs, hf, hx, hq, decide_false, bne_self_eq_false, Bool.or_false,
    Bool.false_eq_true, if_false]
  rfl

section
variable (slot : Nat) (pass row : Bool) (dev us : Nat) (s : State) (hx : s.flt.cox = .running) (ha : s.cmd.activate = none)
include hx ha

theorem exec_selftestDone_slot (f : FltSlot) (hs : slot ≠ 8) (hf : s.flt.slots.find? slot = some f) (h2 : f.stage = 2) :
    exec (.selftestDone slot pass row dev us) s = .next (s.slotTested slot f pass row dev).pump := by
  simp [exec, execSelftestDone, hx, ha, hs, hf, h2]

theorem exec_selftestDone_run (j : Job) (hs : slot = 8) (hj : s.cmd.jobs.find? (fun j => j.opcode == 0xC503 && j.done.isNone) = some j) :
    exec (.selftestDone slot pass row dev us) s = .next (s.finish j.tag (.ok [w32 (if pass then 0 else 1), w32 us])) := by
  simp [exec, execSelftestDone, hx, ha, hs, hj]

end

/-- A handling whose unit passed its test frees its slot; the unit returns to service (R405). -/
theorem State.slotTested_eq (s : State) (k : Nat) (f : FltSlot) (pass row : Bool) (dev : Nat) : s.slotTested k f pass row dev =
    if pass then (((State.recordEvent { s.bump Ctr.FLT_CNT_TRANSIENT with
      flt := { s.flt with transient := s.flt.transient ++ [(f.unit, f.code, s.now)] } } ⟨f.unit, f.code, Cls.info⟩ 1).freeFlt k).returnUnit
        f.unit).resumeStall f.unit
    else s.actSlot k row dev := by
  cases pass <;> rfl

/-- A stuck entry is told of once (R402). -/
theorem exec_stuckOperation (id : Nat) (e : Entry) (s : State) (he : s.entry id = some e) (hh : e.state ≠ .held) (hn : id ∉ s.flt.stuck) :
    exec (.stuckOperation id) s = .next
      ((({ s with flt := { s.flt with stuck := s.flt.stuck ++ [id] } } : State).bump Ctr.FLT_CNT_STUCK_OP).report
        (unitId 0 (e.src + 256 * e.state.code)) 0 Cls.major) := by
  simp [exec, execStuckOperation, he, hh, hn]

/-! ## Engines and the cox pair (R411 to R413) -/

theorem State.eight_setEight (s : State) (k : Nat) (e : Eight) : (s.setEight k e).eight k = e := SMap.getD_put_self _ _ _ _

/-- An eight with an engine parked for its test. -/
def Eight.parks (e : Eight) (engine : Nat) : Eight :=
  { e with active := e.active.filter (· != engine), parked := e.parked ++ [engine] }

/-- The work of an engine goes to a spare, where one is left. -/
def State.toSpare (s : State) (k : Nat) : State :=
  match s.spareEight k with
  | none => s
  | some j => s.setEight j { s.eight j with spare := none, active := (s.eight j).active ++ (s.eight j).spare.toList }

/-- An eight that has a spare gives its own. -/
theorem State.toSpare_own (s : State) (k sp : Nat) (h : (s.eight k).spare = some sp) :
    s.toSpare k = s.setEight k { s.eight k with spare := none, active := (s.eight k).active ++ [sp] } := by
  have own : s.spareEight k = some k := by simp [State.spareEight, h]
  simp only [State.toSpare, own, h, Option.toList_some]

theorem exec_engineFault (eight engine items sp : Nat) (s : State) (h8 : eight < 8) (he : engine ∈ (s.eight eight).active)
    (hs : (s.eight eight).spare = some sp) : exec (.engineFault eight engine items) s = .next
      ((((s.setEight eight ((s.eight eight).parks engine)).toSpare eight).bumpBy Ctr.FLT_CNT_ENG_REISSUE items).report
        (unitId 0x07 (8 * eight + engine)) 0x0E Cls.major) := by
  have here : (decide (8 ≤ eight) || !(s.eight eight).active.contains engine) = false := by simp [h8, he]
  have own : (s.eight eight).spare.isSome = true := by rw [hs]; rfl
  simp only [exec, execEngineFault, here, own, Bool.false_eq_true, if_false, if_true]
  rfl

theorem State.engineReplaced (s : State) (eight engine sp : Nat) (hs : (s.eight eight).spare = some sp) :
    let t := (s.setEight eight ((s.eight eight).parks engine)).toSpare eight
    t.eight eight = { s.eight eight with spare := none, active := (s.eight eight).active.filter (· != engine) ++ [sp],
                                         parked := (s.eight eight).parked ++ [engine] } ∧
    t.flt.reports = s.flt.reports ∧ t.ctrs = s.ctrs := by
  have spare : ((s.setEight eight ((s.eight eight).parks engine)).eight eight).spare = some sp := by rw [State.eight_setEight]; exact hs
  dsimp only
  rw [State.toSpare_own _ eight sp spare, State.eight_setEight, State.eight_setEight]
  exact ⟨rfl, rfl, rfl⟩

/-- The state as a lockstep mismatch is counted and reported (R411). -/
def State.mismatched (s : State) : State := (s.bump Ctr.FLT_CNT_LOCKSTEP).report (unitId 0x08 0) 0x0F Cls.major

theorem State.mismatched_effect (s : State) :
    s.mismatched.flt = { s.flt with reports := s.flt.reports ++ [⟨unitId 0x08 0, 0x0F, Cls.major⟩] } ∧ s.mismatched.mode = s.mode ∧
    s.mismatched.cmd = s.cmd ∧ s.mismatched.ctr Ctr.FLT_CNT_LOCKSTEP = s.ctr Ctr.FLT_CNT_LOCKSTEP + 1 :=
  ⟨rfl, rfl, rfl, (State.ctr_report _ _ _ _ _).trans (State.ctr_bump_self _ _)⟩

/-- Outside an activation a mismatch restarts firmware, or, in a restart or soon after one, stops it and the controller departs (R411, R412). -/
theorem exec_lockstepMismatch (s : State) (hc : s.pwr.core = true) (hx : s.flt.cox ≠ .stopped) (ha : s.cmd.activate = none) :
    exec .lockstepMismatch s = .next
      (if s.flt.cox == .restarting || (match s.flt.coxAt with | some t => decide (s.now ≤ t + 1000000000) | none => false) then
        State.faultOff { s.mismatched with flt := { s.mismatched.flt with cox := .stopped } }
      else { s.mismatched with flt := { s.mismatched.flt with cox := .restarting } }) := by
  have runs : (!s.pwr.core || s.flt.cox == .stopped) = false := by simp [hc, hx]
  have alone : ((s.bump Ctr.FLT_CNT_LOCKSTEP).report (unitId 0x08 0) 0x0F Cls.major).cmd.activate = none := ha
  simp only [exec, execLockstepMismatch, runs, alone, Bool.false_eq_true, if_false]
  rfl

/-- The state as firmware runs again (R411). -/
def State.coxRestarted (s : State) : State := { s with flt := { s.flt with cox := .running, coxAt := some s.now } }

/-- The commands that complete with Success as firmware runs again: those that the checkpoint lists and that wait for nothing (R411). -/
def State.checkpointed (s : State) : List Job :=
  s.cmd.jobs.filter (fun j => j.committed && s.flt.ckptTags.contains j.tag && j.done.isNone &&
    !s.cmd.repl.any (fun r => r.tag == j.tag) && s.replLocal j.tag)

theorem exec_coxRestartDone (s : State) (hx : s.flt.cox = .restarting) : exec .coxRestartDone s = .next
    (s.coxRestarted.checkpointed.foldl (fun u j => u.finish j.tag (.ok [])) s.coxRestarted) := by
  simp only [exec, execCoxRestartDone, hx, bne_self_eq_false, Bool.false_eq_true, if_false]
  rfl

theorem exec_temperaturePoll_ddr (inst : Nat) (temp : Option Nat) (s : State) (hi : inst < 16) :
    exec (.temperaturePoll inst temp) s = .next (s.tempReading inst temp) := by
  simp [exec, execTemperaturePoll, hi]

/-- A reading sets a channel's temperature; one that fails asks for refresh at twice the rate (R233). -/
theorem State.tempReading_chan (s : State) (inst : Nat) (temp : Option Nat) (ho : (s.chan inst).state ≠ .off)
    (hr : (s.chan inst).state ≠ .retired) : let c := (s.tempReading inst temp).chan inst
    (∀ t, temp = some t → c.temp = t ∧ c.tempFails = 0) ∧ (temp = none → c.ref2x = true) := by
  have running : ((s.chan inst).state == .off || (s.chan inst).state == .retired) = false := by simp [ho, hr]
  have reported : ∀ (u : State) (p : Bool) (code : Nat), (if p then u.report (chUnit inst) code Cls.info else u).chan inst = u.chan inst :=
    fun u p code => by split <;> rfl
  unfold State.tempReading
  simp only [running, Bool.false_eq_true, if_false, reported, State.chan_setChan_self]
  exact ⟨fun t h => by rw [h]; exact ⟨rfl, rfl⟩, fun h => by rw [h]; rfl⟩

end Sys2Proof.Machine
end

section
namespace Sys2Proof
open Sys2Proof.Machine

/-- Settles O39: each command is one branch of its definition; of what the statement says of states, `State.recordEvent_effect`,
`State.handle_tests`, `State.engineReplaced` and `State.tempReading_chan` are the content. -/
theorem faultManager : Obligations.FaultManager := by
  refine ⟨fun e note s => s.recordEvent_effect e note,
    fun unit code cls at_ s hc => ⟨_, exec_faultEvent unit code cls at_ s hc, _, _, rfl, rfl, rfl⟩,
    fun e k s hn hk hq hr => ?_,
    fun slot e rest s hs hf hx hq hr hn => ⟨_, exec_faultSlotDispatch slot e rest s hs hf hx hq hr, ?_⟩,
    fun slot pass row dev us f s hx ha hs hf h2 => ⟨_, exec_selftestDone_slot slot pass row dev us s hx ha f hs hf h2,
      congrArg State.pump (s.slotTested_eq slot f pass row dev)⟩,
    fun slot pass row dev us j s hx ha hs hj => ⟨_, exec_selftestDone_run slot pass row dev us s hx ha j hs hj, rfl⟩,
    fun id e s he hh hn => ⟨_, exec_stuckOperation id e s he hh hn, rfl, rfl, rfl,
      (State.ctr_report _ _ _ _ _).trans (State.ctr_bump_self _ _)⟩,
    fun eight engine items sp s h8 he hs => ⟨_, exec_engineFault eight engine items sp s h8 he hs, ?_⟩,
    fun s hc hx ha hn => ⟨_, exec_lockstepMismatch s hc (by simp [hx]) ha, ?_⟩,
    fun s hc hx ha hm => ⟨_, exec_lockstepMismatch s hc (by simp [hx]) ha, ?_⟩,
    fun s hx => ⟨_, exec_coxRestartDone s hx, by simp [State.coxRestarted], by simp [State.coxRestarted], by simp [State.coxRestarted]⟩,
    fun s hc hx => ⟨_, rfl, by simp [hc, hx]⟩,
    fun inst temp s hi ho hr => ⟨_, exec_temperaturePoll_ddr inst temp s hi, rfl, s.tempReading_chan inst temp ho hr⟩⟩
  · rw [s.handle_tests e k hn hk hq hr, State.slot_setFlt]
    rfl
  · obtain ⟨slots, queue⟩ := State.rejoined_keeps (State.setFlt { s with flt := { s.flt with queue := rest } } slot e.slot) hn
    rw [slots, queue, State.slot_setFlt]
    exact ⟨rfl, rfl⟩
  · obtain ⟨replaced, reports, ctrs⟩ := s.engineReplaced eight engine sp hs
    refine ⟨replaced, congrArg (· ++ _) reports, ?_⟩
    rw [State.ctr_report, State.ctr_bumpBy_self, State.ctr_congr ctrs]
  · obtain ⟨flt, mode, -, counted⟩ := s.mismatched_effect
    rw [if_neg (by simp [hx, hn])]
    exact ⟨rfl, congrArg FaultMgr.reports flt, mode, counted⟩
  · rw [if_pos (by simp [hx])]
    obtain ⟨mode, reason⟩ := State.faultOff_preserve { s.mismatched with flt := { s.mismatched.flt with cox := .stopped } } hm
    exact ⟨by simp, mode, reason⟩

end Sys2Proof
end

section
namespace Sys2Proof.Machine

/-! ## Marks through a mailbox (R259, R437) -/

/-- A completion without an error counts as a command completed, and in no other counter (R425). -/
theorem State.ctr_answer_ok (s : State) (m : Mbx) (op a : Nat) (out : List Word) (h : Ctr.MBX_CNT_CMD ≠ a) :
    (s.answer m op (.ok out)).ctr a = s.ctr a := State.ctr_bump_other s _ _ h

/-- The state with a mark that MARK_SET set: counted, recorded, and reported to the fault manager. -/
def State.marked (s : State) (k : Mark) : State :=
  (({ s with ec := { s.ec with marks := s.ec.marks ++ [k] } }.bump Ctr.EC_CNT_MARK).markRecord k true).report k.unit 0x02 Cls.major

/-- The state with a mark that MARK_SET cleared: recorded, and nothing more. -/
def State.unmarked (s : State) (k : Mark) : State :=
  { s with ec := { s.ec with marks := s.ec.marks.filter (fun q => q != k) } }.markRecord k false

/-- The record of a mark advances no counter of the engine. -/
theorem State.ctr_markRecord (s : State) (k : Mark) (on : Bool) : (s.markRecord k on).ctr Ctr.EC_CNT_MARK = s.ctr Ctr.EC_CNT_MARK :=
  State.ctr_logRec s _ _ _ _ _ (by decide) (by decide)

theorem State.marked_effect (s : State) (k : Mark) : let t := s.marked k
    t.ec.marks = s.ec.marks ++ [k] ∧ t.flt.reports = s.flt.reports ++ [⟨k.unit, 0x02, Cls.major⟩] ∧
    t.ctr Ctr.EC_CNT_MARK = s.ctr Ctr.EC_CNT_MARK + 1 := by
  refine ⟨by simp [State.marked], by simp [State.marked], ?_⟩
  rw [State.marked, State.ctr_report, State.ctr_markRecord, State.ctr_bump_self]
  rfl

theorem State.unmarked_effect (s : State) (k : Mark) :
    (s.unmarked k).ec.marks = s.ec.marks.filter (fun q => q != k) ∧ (s.unmarked k).flt = s.flt := by
  simp [State.unmarked]

/-- MARK_SET of a device the channel has, where the rank has no mark. -/
theorem State.markSet_sets (s : State) (w : Word) (k : Mark) (hk : k = ⟨w.field 5 0, w.field 6 6, w.field 15 8, w.field 23 16⟩)
    (h0 : w.field 31 24 = 0) (hi : k.inst < 48) (hc : w.field 7 7 = 0) (hs : s.ec.marks.any k.same = false)
    (hd : k.dev < s.deviceCount k.inst) : s.markSet w = (s.marked k, .ok []) := by
  subst hk
  unfold State.markSet
  simp only [h0, hc, hs, Nat.not_le.mpr hi, Nat.not_le.mpr hd, ne_eq, not_true_eq_false, decide_false, Bool.or_self, Bool.false_eq_true,
    Nat.zero_ne_one, if_false]
  rfl

/-- MARK_SET with CLEAR, of a rank that has a mark: whatever device the command names (R437). -/
theorem State.markSet_clears (s : State) (w : Word) (k : Mark) (h0 : w.field 31 24 = 0) (hi : w.field 5 0 < 48) (hc : w.field 7 7 = 1)
    (hs : s.ec.marks.find? (Mark.same ⟨w.field 5 0, w.field 6 6, w.field 15 8, w.field 23 16⟩) = some k) :
    s.markSet w = (s.unmarked k, .ok []) := by
  unfold State.markSet
  simp only [h0, hc, hs, Nat.not_le.mpr hi, ne_eq, not_true_eq_false, decide_false, Bool.or_self, Bool.false_eq_true, if_false, if_true]
  rfl

/-- A MARK_SET that a mailbox takes and that succeeds completes at once: its effect on the codes stays, the completion is the newest output. -/
theorem exec_markSet (m : Mbx) (inp : List Word) (s u : State) (ht : s.takes m ⟨0xC533, false, true, false, false⟩ = true) (hn : m.len = 4)
    (hb : (s.openJob m ⟨0xC533, false, true, false, false⟩ false).markSet (wordAt inp 0) = (u, .ok [])) :
    ∃ t, exec (.markSet m inp) s = .next t ∧ t.ec = u.ec ∧ t.flt = u.flt ∧ t.ctr Ctr.EC_CNT_MARK = u.ctr Ctr.EC_CNT_MARK ∧
      t.out = .msix m.fn (if m.secondary then 1 else 0) :: .mbx m 0xC533 0 0 [] :: s.out := by
  have frame := State.markSet_frame (s.openJob m ⟨0xC533, false, true, false, false⟩ false) (wordAt inp 0)
  rw [hb] at frame
  obtain ⟨-, -, -, out, -, -, -, -, -, -, -, -, cmd⟩ := frame
  have run := State.simple_takes s u m _ (fun s => s.markSet (wordAt inp 0)) _ ht hb (congrArg Control.jobs cmd)
  have entry : exec (.markSet m inp) s = .next (s.simple m ⟨0xC533, false, true, false, false⟩ true (fun s => s.markSet (wordAt inp 0))) := by
    simp only [exec, execMarkSet, hn, beq_self_eq_true]
  refine ⟨_, entry.trans (congrArg _ run), by simp, by simp, State.ctr_answer_ok _ _ _ _ _ (by decide), ?_⟩
  rw [State.answer_out]
  exact congrArg (fun o => _ :: _ :: o) out

/-! ## Row repair through a mailbox (R266, R267) -/

/-- The lines of the row that ask for their refetch leave the repair open. -/
theorem State.startRepair_repair (s : State) (p : RowRepair) : (s.startRepair p).ec.repair = some p := by
  unfold State.startRepair
  dsimp only
  rw [foldl_ec _ (fun u line => by simp)]

/-- PPR_RUN of a row that R266 lets be repaired. -/
theorem State.pprRun_opens (s : State) (m : Mbx) (inp : List Word) (tag : Nat) (r : RepairedRow) (hard : Bool)
    (hp : parseRow inp = some (r, hard)) (hh : hard = true → s.mode.mode = .hold ∧ s.mode.holdPurpose = 2)
    (hf : (s.chan r.inst).state = .frozen) (hn : s.ec.repair = none) (hd : r.inst < 16 → r.dev < s.deviceCount r.inst) :
    s.pprRun m inp tag = (s.startRepair { row := r, hard := hard, reply := m, tag := tag }, .later) := by
  have allowed : (hard && !(s.mode.mode == .hold && s.mode.holdPurpose == 2)) = false := by
    cases hard with
    | false => rfl
    | true => simp [hh rfl]
  have device : (decide (r.inst < 16) && decide (s.deviceCount r.inst ≤ r.dev)) = false := by simpa using hd
  simp only [State.pprRun, hp, hf, hn, allowed, device, bne_self_eq_false, Option.isSome_none, Bool.or_self, Bool.false_eq_true, if_false]

/-- The state in which the body of a command runs: its job open, and a background command's start answered. -/
def State.opened (s : State) (m : Mbx) (c : CmdSpec) (background : Bool) : State :=
  if background then s.started m c else s.openJob m c false

/-- A command whose body leaves its job open, in the foreground or the background (R421). -/
theorem State.command_later (s u : State) (m : Mbx) (c : CmdSpec) (background : Bool) (body : Nat → State → State × CmdRes)
    (ht : s.takes m c = true) (hn : background = true → s.inBackground m = false)
    (hb : body s.tagNow (s.opened m c background) = (u, .later)) : s.command m c true background body = u := by
  cases background with
  | false => exact State.command_waits s u m c body ht hb
  | true => exact State.command_background_waits s u m c body ht (hn rfl) hb

/-- A command that runs has its job open; the mode, the channels, the repair and the memory's population are as they were. -/
theorem State.opened_effect (s : State) (m : Mbx) (c : CmdSpec) (background : Bool) : let t := s.opened m c background
    t.cmd.jobs = s.cmd.jobs ++ [⟨m, c.opcode, s.tagNow, c.cfg, background, false, false, none⟩] ∧
    t.mode = s.mode ∧ t.ch = s.ch ∧ t.ec = s.ec ∧ t.addr = s.addr := by
  cases background <;> exact ⟨rfl, rfl, rfl, rfl, rfl⟩

/-- A PPR_RUN that a mailbox takes, of a row that R266 lets be repaired, opens its repair and stays open. -/
theorem exec_pprRun (m : Mbx) (inp : List Word) (r : RepairedRow) (hard : Bool) (s : State)
    (ht : s.takes m ⟨0xC531, false, true, false, false⟩ = true) (hl : m.len = 16) (hp : parseRow inp = some (r, hard))
    (hw : ((wordAt inp 0).field 7 7 == 1) = hard)
    (hh : hard = true → s.inBackground m = false ∧ s.mode.mode = .hold ∧ s.mode.holdPurpose = 2)
    (hf : (s.chan r.inst).state = .frozen) (hn : s.ec.repair = none) (hd : r.inst < 16 → r.dev < s.deviceCount r.inst) :
    exec (.pprRun m inp) s = .next ((s.opened m ⟨0xC531, false, true, false, false⟩ hard).startRepair
      { row := r, hard := hard, reply := m, tag := s.tagNow }) := by
  obtain ⟨-, mode, ch, ec, addr⟩ := s.opened_effect m ⟨0xC531, false, true, false, false⟩ hard
  have opens := (s.opened m ⟨0xC531, false, true, false, false⟩ hard).pprRun_opens m inp s.tagNow r hard hp
    (by rw [mode]; exact fun h => (hh h).2) (by rw [State.chan, ch]; exact hf) (by rw [ec]; exact hn)
    (by rw [State.deviceCount, addr]; exact hd)
  simp only [exec, execPprRun, hl, hw, beq_self_eq_true]
  exact congrArg _ (State.command_later s _ m _ hard _ ht (fun h => (hh h).1) opens)

end Sys2Proof.Machine
end

section
namespace Sys2Proof
open Sys2Proof.Machine

/-- Settles O27: MARK_SET's body is `State.marked` or `State.unmarked`, and a completion touches neither the codes nor the fault manager; PPR_RUN's
body is `State.startRepair`, whose refetches leave the repair and the open job alone. -/
theorem engineCommands : Obligations.EngineCommands := by
  refine ⟨fun m inp k s ht hn hk h0 hi hc hs hd => ?_, fun m inp k s ht hn h0 hi hc hs => ?_,
    fun m inp r hard s ht hl hp hw hh hf hn hd => ⟨_, exec_pprRun m inp r hard s ht hl hp hw hh hf hn hd, ?_, ?_⟩⟩
  · obtain ⟨t, run, ec, flt, ctr, out⟩ := exec_markSet m inp s _ ht hn (State.markSet_sets _ _ k hk h0 hi hc hs hd)
    obtain ⟨marks, reports, counted⟩ := (s.openJob m ⟨0xC533, false, true, false, false⟩ false).marked_effect k
    exact ⟨t, run, by rw [ec]; exact marks, by rw [flt]; exact reports, ctr.trans counted, out⟩
  · obtain ⟨t, run, ec, flt, -, out⟩ := exec_markSet m inp s _ ht hn (State.markSet_clears _ _ k h0 hi hc hs)
    obtain ⟨marks, reports⟩ := (s.openJob m ⟨0xC533, false, true, false, false⟩ false).unmarked_effect k
    exact ⟨t, run, by rw [ec]; exact marks, by rw [flt, reports]; rfl, out⟩
  · exact State.startRepair_repair _ _
  · obtain ⟨-, -, ⟨-, -, -, -, cmd⟩, -⟩ := (s.opened m ⟨0xC531, false, true, false, false⟩ hard).startRepair_frame
      { row := r, hard := hard, reply := m, tag := s.tagNow }
    rw [cmd]
    exact (s.opened_effect m _ hard).1

end Sys2Proof
end

section
namespace Sys2Proof.Machine

/-! ## Vault commands of a mailbox (R320, R434, R437) -/

theorem exec_vaultFormat (m : Mbx) (inp : List Word) (s : State) (ht : s.takes m ⟨0xC301, false, true, false, false⟩ = true) (hl : m.len = 0)
    (hm : s.mode.mode = .hold) (hp : s.mode.holdPurpose = 2) : exec (.vaultFormat m inp) s =
    .next (State.answered { s with cmd := { s.cmd with formatArmed := true } } m 0xC301 (.ok [])) :=
  congrArg _ (State.simple_answered s { s with cmd := { s.cmd with formatArmed := true } } m _ _ (.ok []) _ (by simp [hl]) ht
    (if_pos (by simp [State.openJob, hm, hp])) rfl rfl)

theorem exec_zoneSet (m : Mbx) (inp : List Word) (s : State) (ht : s.takes m ⟨0xC302, false, true, false, false⟩ = true) (hl : m.len = 4)
    (h3 : (wordAt inp 0).field 7 3 = 0) (h11 : (wordAt inp 0).field 31 11 = 0) (hc : (wordAt inp 0).field 10 8 ≤ 4) :
    exec (.zoneSet m inp) s = .next ((s.stage (Reg.VLT_ZONE ((wordAt inp 0).field 2 0)) (w32 ((wordAt inp 0).field 10 8))).answered
      m 0xC302 (.ok [])) :=
  congrArg _ (State.simple_answered s (s.stage (Reg.VLT_ZONE ((wordAt inp 0).field 2 0)) (w32 ((wordAt inp 0).field 10 8))) m _ _ (.ok []) _
    (by simp [hl]) ht (if_neg (by simp [h3, h11, Nat.not_lt.mpr hc])) rfl rfl)

/-- A waiter joins the cycle that runs; where none runs, one starts (R437). -/
def State.awaitCycle (s : State) (m : Mbx) (tag : Nat) : State :=
  let t := { s with vlt := { s.vlt with waiters := s.vlt.waiters ++ [(m, tag)] } }
  if t.vlt.cycle.isNone then t.startCycle else t

theorem State.awaitCycle_effect (s : State) (m : Mbx) (tag : Nat) : let t := s.awaitCycle m tag
    t.vlt.waiters = s.vlt.waiters ++ [(m, tag)] ∧ t.vlt.cycle.isSome = true ∧ (s.vlt.cycle.isSome = true → t.vlt.cycle = s.vlt.cycle) ∧
    t.cmd = s.cmd ∧ t.out = s.out := by
  cases runs : s.vlt.cycle.isSome with
  | false =>
    have starts : s.awaitCycle m tag = ({ s with vlt := { s.vlt with waiters := s.vlt.waiters ++ [(m, tag)] } } : State).startCycle :=
      if_pos (by simpa using runs)
    rw [starts]
    exact ⟨rfl, rfl, nofun, by simp, by simp⟩
  | true =>
    have waits : s.awaitCycle m tag = { s with vlt := { s.vlt with waiters := s.vlt.waiters ++ [(m, tag)] } } :=
      if_neg (by simpa [Option.isSome_iff_ne_none] using runs)
    rw [waits]
    exact ⟨rfl, runs, fun _ => rfl, rfl, rfl⟩

theorem exec_vaultCheckpoint (m : Mbx) (inp : List Word) (s : State) (ht : s.takes m ⟨0xC305, false, false, false, false⟩ = true)
    (hl : m.len = 0) (hf : s.formatted = true) (hg : s.vlt.formatting = false) :
    exec (.vaultCheckpoint m inp) s = .next ((s.openJob m ⟨0xC305, false, false, false, false⟩ false).awaitCycle m s.tagNow) := by
  simp only [exec, execVaultCheckpoint, hl, beq_self_eq_true]
  refine congrArg _ (State.command_waits s _ m _ _ ht (if_neg ?_))
  rw [show (s.openJob m _ false).formatted = true from hf, show (s.openJob m _ false).vlt.formatting = false from hg]
  simp

end Sys2Proof.Machine
end

section
namespace Sys2Proof
open Sys2Proof.Machine

/-- Settles O26: VAULT_FORMAT and ZONE_SET answer at once; VAULT_CHECKPOINT's body is `State.awaitCycle`, which leaves the open job alone. -/
theorem vaultCommands : Obligations.VaultCommands := by
  refine ⟨fun m inp s ht hl hm hp => ⟨_, exec_vaultFormat m inp s ht hl hm hp, rfl⟩,
    fun m inp s ht hl h3 h11 hc => ⟨_, exec_zoneSet m inp s ht hl h3 h11 hc, rfl⟩,
    fun m inp s ht hl hf hg => ⟨_, exec_vaultCheckpoint m inp s ht hl hf hg, ?_⟩⟩
  obtain ⟨waiters, runs, kept, cmd, out⟩ := (s.openJob m ⟨0xC305, false, false, false, false⟩ false).awaitCycle_effect m s.tagNow
  exact ⟨waiters, runs, kept, congrArg Control.jobs cmd, out⟩

end Sys2Proof
end

section
namespace Sys2Proof.Machine

/-! ## The record of a leaf (R290, R292) -/

/-- A line that a record keeps as a poison bit, not as data. -/
def SaveRes.poisons : SaveRes → Bool
  | .data _ => false
  | _ => true

/-- The poison mask of lines read, the first of them line `i`, on top of a mask `n` of the lines before. -/
def poisonMask (l : List SaveRes) (i n : Nat) : Nat := ((l.zipIdx i).filter (fun c => c.1.poisons)).foldl (fun n c => n + 2 ^ c.2) n

theorem poisonMask_cons (r : SaveRes) (l : List SaveRes) (i n : Nat) :
    poisonMask (r :: l) i n = poisonMask l (i + 1) (if r.poisons then n + 2 ^ i else n) := by
  cases h : r.poisons <;> simp [poisonMask, List.zipIdx_cons, h]

theorem poisonMask_testBit (l : List SaveRes) (i n k : Nat) (hn : n < 2 ^ i) :
    (poisonMask l i n).testBit k = if k < i then n.testBit k else l[k - i]?.any SaveRes.poisons := by
  induction l generalizing i n with
  | nil =>
    split
    · rfl
    · next hk => simpa [poisonMask] using Nat.testBit_lt_two_pow (hn.trans_le (Nat.pow_le_pow_right Nat.two_pos (Nat.not_lt.mp hk)))
  | cons r l ih =>
    have fits : (if r.poisons then n + 2 ^ i else n) < 2 ^ (i + 1) := by split <;> omega
    rw [poisonMask_cons, ih _ _ fits]
    rcases Nat.lt_trichotomy k i with hk | rfl | hk
    · rw [if_pos (hk.trans i.lt_succ_self), if_pos hk]
      split
      · rw [Nat.add_comm, Nat.testBit_two_pow_add_gt hk]
      · rfl
    · rw [if_pos k.lt_succ_self, if_neg k.lt_irrefl, Nat.sub_self, List.getElem?_cons_zero, Option.any_some]
      cases r.poisons with
      | false => exact Nat.testBit_lt_two_pow hn
      | true => rw [if_pos rfl, Nat.add_comm, Nat.testBit_two_pow_add_eq, Nat.testBit_lt_two_pow hn]; rfl
    · obtain ⟨d, rfl⟩ := Nat.exists_eq_add_of_lt hk
      rw [if_neg (by omega), if_neg (by omega), show i + d + 1 - i = d + 1 by omega, show i + d + 1 - (i + 1) = d by omega,
        List.getElem?_cons_succ]

/-- The lines of a record with one line read entered: only data is. -/
def keepData (m : SMap Line) (c : SaveRes × Nat) : SMap Line :=
  match c.1 with
  | .data d => m.put 0 c.2 d
  | _ => m

theorem keepData_other (m : SMap Line) (c : SaveRes × Nat) (k : Nat) (h : c.2 ≠ k) : (keepData m c).getD k 0 = m.getD k 0 := by
  unfold keepData
  split
  · exact SMap.getD_put_other _ _ _ _ _ _ h
  · rfl

/-- The lines after line `k` leave what is entered of it. -/
theorem keepData_below (l : List SaveRes) (i k : Nat) (m : SMap Line) (h : k < i) :
    ((l.zipIdx i).foldl keepData m).getD k 0 = m.getD k 0 := by
  induction l generalizing i m with
  | nil => rfl
  | cons r l ih =>
    rw [List.zipIdx_cons, List.foldl_cons, ih _ _ (h.trans i.lt_succ_self), keepData_other _ _ _ (Nat.ne_of_gt h)]

theorem keepData_at (l : List SaveRes) (i k : Nat) (m : SMap Line) (d : Line) (h : l[k]? = some (.data d)) :
    ((l.zipIdx i).foldl keepData m).getD (i + k) 0 = d := by
  induction l generalizing i k m with
  | nil => nomatch h
  | cons r l ih =>
    rw [List.zipIdx_cons, List.foldl_cons]
    cases k with
    | zero =>
      obtain rfl : r = .data d := by simpa using h
      exact (keepData_below l (i + 1) i _ i.lt_succ_self).trans (SMap.getD_put_self _ _ _ _)
    | succ k => rw [show i + (k + 1) = i + 1 + k by omega]; exact ih _ _ _ (by simpa using h)

theorem State.makeRecord_poison (s : State) (leaf : Nat) (tb : Bool) (l : List SaveRes) :
    (s.makeRecord leaf tb l).poison = BitVec.ofNat 64 (poisonMask l 0 0) := rfl

theorem State.makeRecord_lines (s : State) (leaf : Nat) (tb : Bool) (l : List SaveRes) :
    (s.makeRecord leaf tb l).lines = l.zipIdx.foldl keepData {} := rfl

theorem State.makeRecord_poisonBit (s : State) (leaf : Nat) (tb : Bool) (l : List SaveRes) (k : Nat) (hk : k < 64) :
    (s.makeRecord leaf tb l).poison.getLsbD k = l[k]?.any SaveRes.poisons := by
  rw [State.makeRecord_poison, BitVec.getLsbD_ofNat, decide_eq_true hk, Bool.true_and, poisonMask_testBit _ _ _ _ Nat.one_pos]
  rfl

theorem State.makeRecord_data (s : State) (leaf : Nat) (tb : Bool) (l : List SaveRes) (k : Nat) (d : Line) (hk : k < 64)
    (h : l[k]? = some (.data d)) : (s.makeRecord leaf tb l).line k = .data d := by
  have bit : (s.makeRecord leaf tb l).poison.getLsbD k = false := by rw [State.makeRecord_poisonBit _ _ _ _ _ hk, h]; rfl
  have line := keepData_at l 0 k {} d h
  rw [Nat.zero_add] at line
  rw [LeafRec.line, bit, State.makeRecord_lines, line]
  rfl

theorem State.makeRecord_poisoned (s : State) (leaf : Nat) (tb : Bool) (l : List SaveRes) (k : Nat) (hk : k < 64)
    (h : l[k]?.any SaveRes.poisons = true) : (s.makeRecord leaf tb l).line k = .poison := by
  rw [LeafRec.line, State.makeRecord_poisonBit _ _ _ _ _ hk, h]
  rfl

/-! ## A leaf is written behind (R290, R301) -/

/-- The lines of a leaf as WRITE_BEHIND_LEAF finds them, those of `bad` with an uncorrectable error. -/
def State.leafSaved (s : State) (leaf : Nat) (bad : List Nat) : List SaveRes :=
  (List.range leafLines).map (fun k => s.saveLine (leafLines * leaf + k) (bad.contains k))

/-- The first line with an uncorrectable error. -/
def firstBad (l : List SaveRes) : Option Nat := (List.range leafLines).find? (fun k => l.getD k .wait == .bad)

theorem firstBad_none {l : List SaveRes} (h : .bad ∉ l) : firstBad l = none := by
  refine List.find?_eq_none.mpr fun k _ hk => h ?_
  rw [beq_iff_eq, List.getD_eq_getElem?_getD] at hk
  cases hl : l[k]? with
  | none => rw [hl] at hk; nomatch hk
  | some r => rw [hl] at hk; exact hk ▸ List.mem_of_getElem? hl

theorem exec_writeBehindLeaf_saves (loc : Nat) (bad : List Nat) (leaf : Nat) (tb : Bool) (s : State) (hr : s.wbRuns = true)
    (hn : s.wbNext = some (leaf, tb)) (hl : (s.leafSaved leaf bad).all (fun r => r != .wait && r != .bad) = true) :
    exec (.writeBehindLeaf loc bad) s = .next (s.saveLeaf leaf loc tb (s.leafSaved leaf bad)) := by
  have found : ∀ r ∈ s.leafSaved leaf bad, r ≠ .wait ∧ r ≠ .bad := by simpa using hl
  have waits : (s.leafSaved leaf bad).contains .wait = false := by
    rw [List.contains_eq_mem, decide_eq_false_iff_not]; exact fun h => (found _ h).1 rfl
  have good : firstBad (s.leafSaved leaf bad) = none := firstBad_none fun h => (found _ h).2 rfl
  rw [State.leafSaved] at waits good
  rw [firstBad] at good
  simp only [exec, execWriteBehindLeaf, hr, hn, waits, good, Bool.not_true, Bool.false_eq_true, if_false]
  rfl

theorem exec_writeBehindLeaf_freezes (loc : Nat) (bad : List Nat) (leaf : Nat) (tb : Bool) (k : Nat) (s : State) (hr : s.wbRuns = true)
    (hn : s.wbNext = some (leaf, tb)) (hw : (s.leafSaved leaf bad).contains .wait = false) (hb : firstBad (s.leafSaved leaf bad) = some k)
    (hm : s.mode.mode ≠ .preserve) : exec (.writeBehindLeaf loc bad) s =
    .next ((s.freeze (s.instOf (s.homeOf (leafLines * leaf + k))) 1 (some (s.dramOf (s.remapOf (s.homeOf (leafLines * leaf + k))),
      s.remapOf (s.homeOf (leafLines * leaf + k))))).refetchStart (leafLines * leaf + k)).pump := by
  rw [State.leafSaved] at hw hb
  rw [firstBad] at hb
  simp only [exec, execWriteBehindLeaf, hr, hn, hw, hb, Bool.not_true, Bool.false_eq_true, if_false]
  rw [if_pos (by simpa using hm)]

/-- What the opening of a segment for a record leaves as it was. -/
theorem State.openSeg_keeps {s u : State} {loc zone : Nat} (h : s.openSeg loc zone = some u) :
    u.vlt.window = s.vlt.window ∧ u.vlt.map = s.vlt.map ∧ u.mem = s.mem := by
  obtain ⟨-, ⟨-, -, mem, -⟩, -⟩ := State.openSeg_frame _ _ _ _ h
  have vlt : u.vlt.window = s.vlt.window ∧ u.vlt.map = s.vlt.map := by
    unfold State.openSeg at h
    dsimp only at h
    split at h
    · split at h
      · cases h; exact ⟨rfl, rfl⟩
      · cases h
    · split at h
      · split at h
        · cases h
        · cases h; exact ⟨rfl, rfl⟩
      · cases h
  exact ⟨vlt.1, vlt.2, mem⟩

/-- A record that is written stands at its quarter and is on its way. -/
theorem State.writeLeaf_effect (s : State) (loc : Nat) (r : LeafRec) : let t := s.writeLeaf loc r
    t.vlt.nand.leaves.find? loc = some r ∧ t.vlt.seq = s.vlt.seq + 1 ∧ t.vlt.inflight = s.vlt.inflight ++ [⟨r.leaf, loc, false, false, r.reloc⟩] ∧
    t.vlt.window = s.vlt.window ∧ t.vlt.map = s.vlt.map ∧ t.mem = s.mem :=
  ⟨SMap.find?_insert_self _ _ _, rfl, rfl, rfl, rfl, rfl⟩

/-- A leaf of which every line was read, to a quarter that may be written: no poison is recorded. -/
theorem State.saveLeaf_writes {s u : State} {leaf loc i : Nat} {g : Region} (tb : Bool) {l : List SaveRes}
    (hr : s.regionOf (leaf / extentLeaves) = some (i, g)) (hf : s.locFree loc = true) (ho : s.openSeg loc g.vzone = some u)
    (hl : l.all (fun r => r != .lost && r != .bad) = true) :
    s.saveLeaf leaf loc tb l = (u.writeLeaf loc (u.makeRecord leaf tb l)).freed := by
  have read : l.zipIdx.filter (fun c => c.1 == .lost || c.1 == .bad) = [] := by
    refine List.filter_eq_nil_iff.mpr fun c hc => ?_
    simpa [not_or] using List.all_eq_true.mp hl c.1 (List.fst_mem_of_mem_zipIdx hc)
  simp only [State.saveLeaf, hr, hf, ho, read, Bool.not_true, Bool.false_eq_true, if_false, List.map_nil, List.isEmpty_nil, if_true]

/-- A record of write-behind that has reached NAND with its row parity: the leaf map names it, and the leaf stays in the window only where a line was
applied since. -/
theorem State.leafWritten_effect (s : State) (w : WbLeaf) (r : LeafRec) (hr : s.vlt.nand.leaves.find? w.loc = some r) (hw : w.reloc = false) :
    let t := s.leafWritten w
    t.vlt.map = s.vlt.map.insert w.leaf ⟨r.zone, w.loc⟩ ∧ t.vlt.pending = s.vlt.pending ++ [(w.leaf, some ⟨r.zone, w.loc⟩)] ∧
    t.vlt.window = s.vlt.window.filter (fun x => x.leaf != w.leaf) ++ (if w.dirtied then [⟨w.leaf, false⟩] else []) ∧
    t.ctr Ctr.VLT_CNT_WB_LEAVES = s.ctr Ctr.VLT_CNT_WB_LEAVES + 1 := by
  simp only [State.leafWritten, hr, hw, Bool.false_and, Bool.false_eq_true, if_false, true_and]
  exact (State.ctr_congr (s := s.bump Ctr.VLT_CNT_WB_LEAVES) rfl _).trans (State.ctr_bump_self _ _)

/-- Which leaves a window lists once a leaf has been taken out of it, or has joined it anew. -/
theorem any_leaf_rejoined (l : List WinLeaf) (leaf x : Nat) (again : Bool) :
    (l.filter (fun w => w.leaf != leaf) ++ (if again then [⟨leaf, false⟩] else [] : List WinLeaf)).any (fun w => w.leaf == x) =
      if x = leaf then again else l.any (fun w => w.leaf == x) := by
  have others : (l.filter (fun w => w.leaf != leaf)).any (fun w => w.leaf == x) = if x = leaf then false else l.any (fun w => w.leaf == x) := by
    split
    · next h => subst h; simp
    · next h =>
      rw [List.any_filter]
      congr 1
      funext w
      by_cases hw : w.leaf = x
      · simp [hw, h]
      · simp [hw]
  rw [List.any_append, others]
  by_cases h : x = leaf
  · subst h; cases again <;> simp
  · cases again <;> simp [h, Ne.symm h]

/-! ## Programs (R290, R291) -/

/-- The records of a page have reported PASS: they wait for their row parity. -/
def State.pagePassed (s : State) (page : Nat) : State :=
  { s with vlt := { s.vlt with
    nand := { s.vlt.nand with
      leaves := (s.vlt.inflight.filter (fun w => locPageId w.loc == page)).foldl
        (fun (m : SMap LeafRec) w => m.modify w.loc (fun r => { r with programmed := true })) s.vlt.nand.leaves }
    inflight := s.vlt.inflight.map (fun w => if locPageId w.loc == page then { w with pagePass := true } else w) } }

/-- Where no row parity of a record on its way has passed, nothing is written yet. -/
theorem State.wbSettle_waits (s : State)
    (h : ∀ w ∈ s.vlt.inflight, s.vlt.nand.parity.contains (locSeg w.loc, locPage w.loc) = false) : s.wbSettle = s := by
  have none : s.vlt.inflight.filter (fun w => w.pagePass && s.vlt.nand.parity.contains (locSeg w.loc, locPage w.loc)) = [] :=
    List.filter_eq_nil_iff.mpr fun w hw => by rw [h w hw, Bool.and_false]; exact Bool.false_ne_true
  rw [State.wbSettle, none, List.foldl_nil]

/-- A page that has passed leaves its records' row parities to come. -/
theorem State.pagePassed_waits (s : State) (page : Nat)
    (h : ∀ w ∈ s.vlt.inflight, s.vlt.nand.parity.contains (locSeg w.loc, locPage w.loc) = false) :
    (s.pagePassed page).wbSettle = s.pagePassed page := by
  refine State.wbSettle_waits _ fun w hw => ?_
  obtain ⟨v, hv, rfl⟩ := List.mem_map.mp hw
  split <;> exact h v hv

/-- The records of a page that failed to program are dropped, and leave their quarters; the failure is counted. -/
def State.pageDropped (s : State) (page : Nat) : State :=
  { s.bump Ctr.VLT_CNT_PROG_FAIL with vlt := { s.vlt with
    nand := { s.vlt.nand with
      leaves := (s.vlt.inflight.filter (fun w => locPageId w.loc == page)).foldl (fun (m : SMap LeafRec) w => m.erase w.loc) s.vlt.nand.leaves }
    inflight := s.vlt.inflight.filter (fun w => locPageId w.loc != page) } }

/-- A page has a record on its way. -/
theorem records_of_page {l : List WbLeaf} {page : Nat} (h : l.any (fun w => locPageId w.loc == page) = true) :
    (l.filter (fun w => locPageId w.loc == page)).isEmpty = false := by
  obtain ⟨w, hw, e⟩ := List.any_eq_true.mp h
  exact List.isEmpty_eq_false_iff.mpr (List.ne_nil_of_mem (List.mem_filter.mpr ⟨hw, e⟩))

section
variable (page : Nat) (s : State) (hc : s.pwr.core = true) (hi : s.vlt.inflight.any (fun w => locPageId w.loc == page) = true)
include hc hi

theorem exec_nandProgramDone_passes (hp : locPos (4 * page) ≠ s.parityPos (locGroup (4 * page)) (locPage (4 * page))) :
    exec (.nandProgramDone page true) s = .next (s.pagePassed page).wbSettle.pump := by
  simp only [exec, execNandProgramDone, hc, records_of_page hi, beq_eq_false_iff_ne.mpr hp, Bool.not_true, Bool.false_eq_true, if_false,
    Bool.and_false, if_true]
  rfl

theorem exec_nandProgramDone_fails :
    exec (.nandProgramDone page false) s = .next ((s.pageDropped page).blockFails (locSeg (4 * page)) (locPos (4 * page))) := by
  simp only [exec, execNandProgramDone, hc, records_of_page hi, Bool.not_true, Bool.false_eq_true, if_false, Bool.and_false]
  rfl

end

/-- A table from which each key listed has been taken. -/
theorem SMap.find?_eraseAll {α β : Type} (f : β → Nat) (l : List β) (m : SMap α) (x : Nat) :
    (l.foldl (fun (m : SMap α) a => m.erase (f a)) m).find? x = if x ∈ l.map f then none else m.find? x := by
  induction l generalizing m with
  | nil => simp
  | cons a l ih =>
    rw [List.foldl_cons, ih]
    by_cases ha : f a = x
    · subst ha; simp
    · simp [Ne.symm ha, SMap.find?_erase_other _ _ _ ha]

theorem State.pageDropped_leaves (s : State) {page : Nat} {w : WbLeaf} (hw : w ∈ s.vlt.inflight) (hp : locPageId w.loc = page) :
    (s.pageDropped page).vlt.nand.leaves.find? w.loc = none := by
  refine (SMap.find?_eraseAll WbLeaf.loc _ _ _).trans (if_pos (List.mem_map_of_mem (List.mem_filter.mpr ⟨hw, ?_⟩)))
  rw [hp, beq_self_eq_true]

/-- A failure of a block retires it, and may lose its die: of the vault's state nothing else changes but the list of failures. -/
theorem State.blockFails_vlt (s : State) (seg pos : Nat) : ∃ fails lost, (s.blockFails seg pos).vlt =
    { s.vlt with fails := fails, nand := { s.vlt.nand with retired := s.vlt.nand.retired ++ [(seg, pos)], lost := lost } } := by
  unfold State.blockFails
  dsimp only
  split <;> exact ⟨_, _, rfl⟩

theorem State.ctr_blockFails (s : State) (seg pos a : Nat) : (s.blockFails seg pos).ctr a = s.ctr a :=
  State.ctr_congr (by simp) a

/-! ## Map deltas and checkpoint cycles (R295, R297) -/

/-- The changes not written yet go out as records of 340 entries, each with the SEQ of its record. -/
theorem State.writeDeltas_effect (s : State) : let t := s.writeDeltas
    t.vlt.pending = [] ∧ t.vlt.nand.deltas.map (·.2) = s.vlt.nand.deltas.map (·.2) ++ s.vlt.pending ∧
    t.vlt.seq = s.vlt.seq + ceilDiv s.vlt.pending.length 340 ∧
    t.vlt.deltaBytes = s.vlt.deltaBytes + 4096 * ceilDiv s.vlt.pending.length 340 ∧ t.vlt.map = s.vlt.map ∧ t.vlt.window = s.vlt.window := by
  refine ⟨rfl, ?_, rfl, rfl, rfl, rfl⟩
  have entries : (s.vlt.pending.zipIdx.map fun c => (s.vlt.seq + c.2 / 340, c.1.1, c.1.2)).map (·.2) = s.vlt.pending := by
    rw [List.map_map]
    exact List.zipIdx_map_fst 0 _
  exact List.map_append.trans (congrArg _ entries)

theorem exec_mapDeltaWrite (s : State) (hc : s.pwr.core = true) (hf : s.formatted = true) (hg : s.vlt.formatting = false)
    (hm : s.mode.mode ≠ .preserve ∨ s.vlt.step < 6) : exec .mapDeltaWrite s = .next s.writeDeltas := by
  have sealing : (s.mode.mode == .preserve && decide (6 ≤ s.vlt.step)) = false := by simpa [or_iff_not_imp_left] using hm
  simp only [exec, execMapDeltaWrite, hc, hf, hg, sealing, Bool.not_false, Bool.and_true, if_true]

theorem exec_checkpointCycleStart (s : State) (hc : s.pwr.core = true) (hf : s.formatted = true) (hg : s.vlt.formatting = false)
    (hn : s.vlt.cycle = none) (hm : s.mode.mode ≠ .preserve) : exec .checkpointCycleStart s = .next s.startCycle := by
  have serves : (s.mode.mode != .preserve) = true := by simpa using hm
  simp only [exec, execCheckpointCycleStart, hc, hf, hg, hn, serves, Option.isNone_none, Bool.not_false, Bool.and_true, if_true]

/-- The GEN of the next superblock page. -/
def Nand.nextGen (n : Nand) : Nat := match n.super with | some p => p.gen + 1 | none => 1

/-- A superblock update replaces the older copy, so that its page is the one in force, with the GEN that follows. -/
theorem State.writeSuper_effect (s : State) (seq : Nat) : ∃ n : Nand, s.writeSuper seq = s.setNand n ∧
    n = { s.vlt.nand with supA := n.supA, supB := n.supB } ∧ n.super.map (·.ckptSeq) = some seq ∧
    n.super.map (·.gen) = some s.vlt.nand.nextGen := by
  refine ⟨_, rfl, ?_⟩
  rcases ha : s.vlt.nand.supA with - | a <;> rcases hb : s.vlt.nand.supB with - | b
  · simp [Nand.super, Nand.nextGen, ha, hb]
  · simp [Nand.super, Nand.nextGen, ha, hb]
  · simp [Nand.super, Nand.nextGen, ha, hb]
  · by_cases h : a.gen < b.gen
    · simp [Nand.super, Nand.nextGen, ha, hb, h]
    · simp [Nand.super, Nand.nextGen, ha, hb, h]

/-- The TABLE records hold the tables as they stand; nothing else of the vault's state changes. -/
theorem State.writeTables_effect (s : State) : ∃ tables : Tables, s.writeTables = s.setNand { s.vlt.nand with tables := tables } ∧
    tables.regions = s.addr.regions ∧ tables.keys = s.cmd.keys := ⟨_, rfl, rfl, rfl⟩

/-- The state with a cycle's map and tables written, in `n` records: its superblock is still to come. -/
def State.cycleWritten (s : State) (n seq : Nat) (map : SMap LeafLoc) : State :=
  let t := (s.takeSeq n).writeTables
  t.setNand { t.vlt.nand with ckptMap := map, deltas := t.vlt.nand.deltas.filter (fun d => decide (seq ≤ d.1)) }

theorem State.cycleWritten_effect (s : State) (n seq : Nat) (map : SMap LeafLoc) : ∃ tables : Tables,
    s.cycleWritten n seq map = (s.takeSeq n).setNand { s.vlt.nand with
      tables := tables, ckptMap := map, deltas := s.vlt.nand.deltas.filter (fun d => decide (seq ≤ d.1)) } ∧
    tables.regions = s.addr.regions ∧ tables.keys = s.cmd.keys := by
  obtain ⟨tables, written, held⟩ := (s.takeSeq n).writeTables_effect
  refine ⟨tables, ?_, held⟩
  rw [State.cycleWritten, written]
  rfl

theorem State.eraseTry_idle (s : State) (h : s.vlt.cleaning = none) : s.eraseTry = s := by rw [State.eraseTry, h]

/-- A cycle's superblock is in force, and the NAND holds its map, its tables and the deltas since its start. -/
theorem State.cycleWritten_super (s : State) (n seq : Nat) (map : SMap LeafLoc) : ∃ m : Nand,
    (s.cycleWritten n seq map).writeSuper seq = (s.takeSeq n).setNand m ∧ m.ckptMap = map ∧
    m.deltas = s.vlt.nand.deltas.filter (fun d => decide (seq ≤ d.1)) ∧ m.super.map (·.ckptSeq) = some seq ∧
    m.super.map (·.gen) = some s.vlt.nand.nextGen ∧ m.tables.regions = s.addr.regions ∧ m.tables.keys = s.cmd.keys := by
  obtain ⟨tables, written, regions, keys⟩ := s.cycleWritten_effect n seq map
  obtain ⟨m, super, kept, names, next⟩ := (s.cycleWritten n seq map).writeSuper_effect seq
  rw [written] at kept next
  exact ⟨m, super.trans (by rw [written]; rfl), by rw [kept]; rfl, by rw [kept]; rfl, names, next,
    by rw [kept]; exact regions, by rw [kept]; exact keys⟩

/-- The state after a cycle: it runs no more, and no command waits for it. -/
def State.cycleEnded (s : State) : State := { s with vlt := { s.vlt with cycle := none, waiters := [] } }

/-- With its superblock written, a cycle that began at `seq` ends: the commands that wait for it complete, and the segment that is cleaned may be
erased. -/
def State.endCycle (s : State) (seq : Nat) : State :=
  (s.vlt.waiters.foldl (fun s w => s.finish w.2 (.ok (lohi seq))) s.cycleEnded).eraseTry

/-- Where no command waits and no segment is cleaned, the end of a cycle is no more than that. -/
theorem State.endCycle_idle (s : State) (seq : Nat) (hw : s.vlt.waiters = []) (hn : s.vlt.cleaning = none) : s.endCycle seq = s.cycleEnded := by
  rw [State.endCycle, hw, List.foldl_nil]
  exact State.eraseTry_idle _ hn

theorem exec_checkpointCycleDone (seq : Nat) (map : SMap LeafLoc) (s : State) (hy : s.vlt.cycle = some (seq, map))
    (hm : s.mode.mode ≠ .preserve) :
    ∃ n, exec .checkpointCycleDone s = .next (((s.cycleWritten n seq map).writeSuper seq).endCycle seq) := by
  have serves : (s.mode.mode == .preserve) = false := by simpa using hm
  simp only [exec, execCheckpointCycleDone, hy, serves, Bool.false_eq_true, if_false]
  exact ⟨_, rfl⟩

/-! ## Cleaning and erases (R298, R305, R319, R320) -/

theorem exec_cleaningStart (zone : Nat) (dst : List Nat) (k : Nat) (u s : State) (hc : s.pwr.core = true)
    (he : s.fld Reg.VLT_CTL Fld.VLT_CTL_CLEAN_EN = 1) (hm : s.mode.mode ≠ .preserve) (hn : s.vlt.cleaning = none)
    (hg : s.vlt.formatting = false) (hp : s.freePct < s.fldIn Reg.VLT_CLEAN Fld.VLT_CLEAN_START_PCT 1 50)
    (hk : s.cleanPick zone = some k) (hu : s.relocate (s.liveIn k) dst = some u) :
    exec (.cleaningStart zone dst) s = .next { u with vlt := { u.vlt with cleaning := some k } }.eraseTry := by
  have serves : (s.mode.mode == .preserve) = false := by simpa using hm
  simp only [exec, execCleaningStart, hc, he, serves, hn, hg, Nat.not_le.mpr hp, hk, hu, ne_eq, not_true_eq_false, decide_false, Bool.not_true,
    Option.isSome_none, Bool.or_self, Bool.false_eq_true, if_false]

/-- A segment of which no record is live is erased: its records are gone, its blocks on dies not lost are to be erased. -/
theorem State.eraseTry_erases (s : State) (k : Nat) (hl : s.segLive k = false) :
    let t := ({ s with vlt := { s.vlt with cleaning := some k } } : State).eraseTry
    t.vlt.cleaning = none ∧
    t.vlt.erasing.find? k = some ((List.range 16).filter (fun p => !s.vlt.nand.lost.contains (dieOf s.luns (k / 65536) p))) ∧
    t.vlt.nand.leaves = s.vlt.nand.leaves.filter (fun l _ => locSeg l != k) ∧ t.vlt.map = s.vlt.map ∧ t.vlt.window = s.vlt.window := by
  have dead : ({ s with vlt := { s.vlt with cleaning := some k } } : State).segLive k = false := hl
  rw [State.eraseTry]
  simp only [dead, Bool.false_eq_true, if_false]
  exact ⟨trivial, SMap.find?_insert_self _ _ _, rfl, rfl, rfl⟩

/-- The erase count of a segment after its next erase. -/
def Nand.erasesNext (n : Nand) (seg : Nat) : Nat := match n.segs.find? seg with | some g => g.erases + 1 | none => 1

/-- A block done with is no longer to be erased, and is not retired by that. -/
theorem State.blockErased_effect (s : State) (seg pos : Nat) : let t := s.blockErased seg pos
    t.vlt.nand.retired = s.vlt.nand.retired ∧ (t.vlt.erasing.getD seg []).contains pos = false := by
  unfold State.blockErased
  dsimp only
  split
  · exact ⟨rfl, by simp [SMap.getD]⟩
  · exact ⟨rfl, by rw [SMap.getD_insert_self]; simp⟩

/-- The last block of a segment that is erased frees it, with one erase more to its count. -/
theorem State.blockErased_last (s : State) (seg pos : Nat) (h : (s.vlt.erasing.getD seg []).filter (· != pos) = []) :
    let t := s.blockErased seg pos
    t.vlt.nand = { s.vlt.nand with segs := s.vlt.nand.segs.erase seg, free := s.vlt.nand.free ++ [(seg, s.vlt.nand.erasesNext seg)] } ∧
    t.vlt.erasing = s.vlt.erasing.erase seg := by
  simp only [State.blockErased, h, List.isEmpty_nil, if_true]
  exact ⟨rfl, rfl⟩

theorem not_all_le_of_any_lt {zeros : List Nat} (h : zeros.any (fun z => decide (16 < z)) = true) :
    zeros.all (fun z => decide (z ≤ 16)) = false := by
  obtain ⟨z, hz, h⟩ := List.any_eq_true.mp h
  exact List.all_eq_false.mpr ⟨z, hz, by simpa using h⟩

section
variable (seg pos : Nat) (zeros : List Nat) (s : State) (he : (s.vlt.erasing.getD seg []).contains pos = true)
include he

/-- A block whose erase has passed and whose first and last pages read as erased (R319). -/
theorem exec_nandEraseDone_erased (hz : zeros.all (fun z => decide (z ≤ 16)) = true) :
    exec (.nandEraseDone seg pos true zeros) s = .next ((s.bump Ctr.VLT_CNT_ERASE).blockErased seg pos) := by
  simp only [exec, execNandEraseDone, he, hz, Bool.not_true, Bool.false_eq_true, if_false, if_true]

theorem exec_nandEraseDone_failed :
    exec (.nandEraseDone seg pos false zeros) s = .next (((s.bump Ctr.VLT_CNT_ERASE).blockFails seg pos).blockErased seg pos) := by
  simp only [exec, execNandEraseDone, he, Bool.not_true, Bool.not_false, Bool.false_eq_true, if_false, if_true]

variable (hz : zeros.any (fun z => decide (16 < z)) = true)
include hz

/-- A block that fails the check for the first or second time is erased again (R319). -/
theorem exec_nandEraseDone_again (hn : s.vlt.checks.getD (16 * seg + pos) 0 < 2) : exec (.nandEraseDone seg pos true zeros) s =
    .next { (s.bump Ctr.VLT_CNT_ERASE).bump Ctr.VLT_CNT_ERASE_CHK with
      vlt := { s.vlt with checks := s.vlt.checks.insert (16 * seg + pos) (s.vlt.checks.getD (16 * seg + pos) 0 + 1) } } := by
  simp only [exec, execNandEraseDone, he, not_all_le_of_any_lt hz, Bool.not_true, Bool.false_eq_true, if_false]
  exact congrArg _ (if_neg (Nat.not_le.mpr hn))

/-- A block that fails the check for the third time is retired (R319). -/
theorem exec_nandEraseDone_retires (hn : 2 ≤ s.vlt.checks.getD (16 * seg + pos) 0) : exec (.nandEraseDone seg pos true zeros) s =
    .next ((((s.bump Ctr.VLT_CNT_ERASE).bump Ctr.VLT_CNT_ERASE_CHK).setNand
      { s.vlt.nand with retired := s.vlt.nand.retired ++ [(seg, pos)] }).blockErased seg pos) := by
  simp only [exec, execNandEraseDone, he, not_all_le_of_any_lt hz, Bool.not_true, Bool.false_eq_true, if_false]
  exact congrArg _ (if_pos hn)

end

end Sys2Proof.Machine
end

section
namespace Sys2Proof
open Sys2Proof.Machine

/-- Settles O50: each command is one branch of its definition; what the statement says of a record rests on the poison mask and the lines entered
(`State.makeRecord_poisoned`, `State.makeRecord_data`), of a superblock on `State.writeSuper_effect`, of a block on `State.blockFails_vlt` and
`State.blockErased_effect`. -/
theorem writeBehind : Obligations.WriteBehind := by
  refine ⟨fun loc bad leaf tb s hr hn hl => ⟨_, exec_writeBehindLeaf_saves loc bad leaf tb s hr hn hl, rfl⟩,
    fun loc bad leaf tb k s hr hn hw hb hm => ⟨_, exec_writeBehindLeaf_freezes loc bad leaf tb k s hr hn hw hb hm, rfl⟩,
    fun s u leaf loc tb l g i hr hf ho hl => ?_,
    fun s leaf tb l k d h64 hd => s.makeRecord_data leaf tb l k d (h64 ▸ (List.getElem?_eq_some_iff.mp hd).1) hd,
    fun s leaf tb l k h64 hp => ?_,
    fun s w r hr hw => ?_,
    fun page pass s hc hpass hp hi hw => ?_,
    fun page pass s hc hpass hi => ?_,
    fun s hc hf hg hm => ⟨_, exec_mapDeltaWrite s hc hf hg hm, s.writeDeltas_effect⟩,
    fun s hc hf hg hn hm => ⟨_, exec_checkpointCycleStart s hc hf hg hn hm, rfl, rfl, rfl, rfl⟩,
    fun seq map s hy hm hw hn => ?_,
    fun zone dst k s hc he hm hn hg hp hk hl hs => ⟨_, exec_cleaningStart zone dst k s s hc he hm hn hg hp hk (by rw [hl]; rfl),
      s.eraseTry_erases k hs⟩,
    fun zone dst k u s hc he hm hn hg hp hk hu => ⟨_, exec_cleaningStart zone dst k u s hc he hm hn hg hp hk hu, rfl⟩,
    fun seg pos pass zeros s hpass he hz hl => ?_,
    fun seg pos pass zeros s hpass he hz hn => ?_,
    fun seg pos pass zeros s he hfail => ?_⟩
  · obtain ⟨window, map, mem⟩ := State.openSeg_keeps ho
    obtain ⟨leaves, seq, inflight, kept, keptMap, keptMem⟩ := u.writeLeaf_effect loc (u.makeRecord leaf tb l)
    rw [State.saveLeaf_writes tb hr hf ho hl]
    exact ⟨leaves, seq, inflight, kept.trans window, keptMap.trans map, keptMem.trans mem⟩
  · have poisons : l[k]?.any SaveRes.poisons = true := by rcases hp with hp | hp | hp <;> rw [hp] <;> rfl
    refine s.makeRecord_poisoned leaf tb l k ?_ poisons
    rcases hp with hp | hp | hp <;> exact h64 ▸ (List.getElem?_eq_some_iff.mp hp).1
  · obtain ⟨map, pending, window, counted⟩ := s.leafWritten_effect w r hr hw
    have has : ∀ x, (s.leafWritten w).windowHas x = if x = w.leaf then w.dirtied else s.windowHas x := fun x => by
      rw [State.windowHas, window]; exact any_leaf_rejoined _ _ _ _
    refine ⟨by rw [map, SMap.find?_insert_self], pending, ?_, fun x hx => ?_, counted⟩
    · rw [has, if_pos rfl]
    · rw [has, if_neg hx]
  · subst hpass
    refine ⟨_, exec_nandProgramDone_passes page s hc hi hp, s.pagePassed page, ?_, rfl, rfl, rfl⟩
    rw [s.pagePassed_waits page hw]
  · subst hpass
    obtain ⟨fails, lost, vlt⟩ := (s.pageDropped page).blockFails_vlt (locSeg (4 * page)) (locPos (4 * page))
    refine ⟨_, exec_nandProgramDone_fails page s hc hi, ?_, ?_⟩
    · rw [State.ctr_blockFails]
      exact (State.ctr_congr (s := s.bump Ctr.VLT_CNT_PROG_FAIL) rfl _).trans (State.ctr_bump_self _ _)
    · rw [vlt]
      exact ⟨rfl, rfl, fun w hw hp => s.pageDropped_leaves hw hp, rfl, rfl⟩
  · obtain ⟨n, run⟩ := exec_checkpointCycleDone seq map s hy hm
    obtain ⟨m, super, ckptMap, deltas, names, next, regions, keys⟩ := s.cycleWritten_super n seq map
    rw [super, State.endCycle_idle ((s.takeSeq n).setNand m) seq hw hn] at run
    exact ⟨_, run, rfl, ckptMap, deltas, names, next, rfl, regions, keys⟩
  · subst hpass
    obtain ⟨nand, erasing⟩ := (s.bump Ctr.VLT_CNT_ERASE).blockErased_last seg pos hl
    refine ⟨_, exec_nandEraseDone_erased seg pos zeros s he hz, by rw [nand]; rfl, by rw [nand]; exact SMap.find?_erase_self _ _,
      by rw [erasing]; exact SMap.find?_erase_self _ _, by rw [nand]; rfl, ?_⟩
    exact (State.ctr_congr (by simp) _).trans (State.ctr_bump_self _ _)
  · subst hpass
    refine ⟨_, exec_nandEraseDone_again seg pos zeros s he hz hn, SMap.getD_insert_self _ _ _ _, rfl, rfl, ?_⟩
    calc (s.bump Ctr.VLT_CNT_ERASE |>.bump Ctr.VLT_CNT_ERASE_CHK).ctr Ctr.VLT_CNT_ERASE_CHK
      _ = (s.bump Ctr.VLT_CNT_ERASE).ctr Ctr.VLT_CNT_ERASE_CHK + 1 := State.ctr_bump_self _ _
      _ = s.ctr Ctr.VLT_CNT_ERASE_CHK + 1 := congrArg (· + 1) (State.ctr_bump_other s _ _ (by decide))
  · cases pass with
    | false =>
      obtain ⟨fails, lost, vlt⟩ := (s.bump Ctr.VLT_CNT_ERASE).blockFails_vlt seg pos
      obtain ⟨retired, gone⟩ := ((s.bump Ctr.VLT_CNT_ERASE).blockFails seg pos).blockErased_effect seg pos
      exact ⟨_, exec_nandEraseDone_failed seg pos zeros s he, retired.trans (by rw [vlt]; rfl), gone⟩
    | true =>
      obtain ⟨hz, hn⟩ := hfail.resolve_left nofun
      exact ⟨_, exec_nandEraseDone_retires seg pos zeros s he hz hn, State.blockErased_effect _ _ _⟩

end Sys2Proof
end

section
namespace Sys2Proof.Machine

/-! ## The unlock key (R458) -/

theorem State.unlocked_unlockWrite_key (s : State) (who key : Nat) (hw : who < 5) (hk : key % 65536 = 0xD47E) :
    (s.unlockWrite who key).unlocked who = true ∧ ∀ w, w ≠ who → (s.unlockWrite who key).unlocked w = s.unlocked w := by
  rw [State.unlockWrite, if_pos hk]
  refine ⟨?_, fun w h => ?_⟩
  · simp only [State.unlocked, BitVec.getLsbD_or, BitVec.getLsbD_ofNat, Nat.testBit_two_pow_self, hw, decide_true, Bool.and_self, Bool.or_true]
  · simp only [State.unlocked, BitVec.getLsbD_or, BitVec.getLsbD_ofNat, Nat.testBit_two_pow_of_ne h.symm, Bool.and_false, Bool.or_false]

theorem State.unlocked_relock_other (s : State) (who w : Nat) (h : w ≠ who) : (s.relock who).unlocked w = s.unlocked w := by
  by_cases hw : w < 5
  · simp only [State.unlocked, State.relock, BitVec.getLsbD_and, BitVec.getLsbD_not, BitVec.getLsbD_ofNat, Nat.testBit_two_pow_of_ne h.symm, hw,
      decide_true, Bool.and_false, Bool.not_false, Bool.and_true]
  · simp only [State.unlocked, hw, decide_false, Bool.false_and]

/-- A state whose counters are those of another after one count. -/
theorem State.ctr_of_bump {s t : State} {a : Nat} (h : t.ctrs = (s.bump a).ctrs) : t.ctr a = s.ctr a + 1 :=
  (State.ctr_congr h a).trans (s.ctr_bump_self a)

end Sys2Proof.Machine
end
section
namespace Sys2Proof
open Sys2Proof.Machine

/-- Settles O43: the key sets the requester's bit of the unlocks, any other value clears it. -/
theorem unlockKey : Obligations.UnlockKey := by
  refine ⟨fun who key s hc hw hk => ⟨s.unlockWrite who key, by simp [exec, execSysUnlockWrite, hc, hw], ?_⟩,
    fun who key s hc hw hk => ⟨s.unlockWrite who key, by simp [exec, execSysUnlockWrite, hc, hw], ?_⟩⟩
  · obtain ⟨own, others⟩ := s.unlocked_unlockWrite_key who key hw hk
    exact ⟨own, others, by simp [State.unlockWrite, hk], by simp [State.unlockWrite, hk]⟩
  · rw [State.unlockWrite, if_neg hk]
    exact ⟨s.unlocked_relock who, s.unlocked_relock_other who, State.ctr_bump_self _ _, rfl⟩

end Sys2Proof
end

section
namespace Sys2Proof.Machine

/-! ## Power-up and power-down (R499 to R508) -/

/-- The state in which step 0 of a power-up starts (R500). -/
def State.upBegun (s : State) : State :=
  { s with
    pwr := { s.pwr with table := s.stepRegs, seq := .upSeq, onPending := false, qualified := 0, started := 0, seqEn := 0, crossing := none },
    mode := { s.mode with bringup := .sequencing, transit := true } }

theorem exec_powerUpStart_begins (s : State) (hg : s.powerGate = true) (hb : tableBad s.stepRegs = false)
    (hv : (validSteps s.stepRegs).isEmpty = false) (hp : tablePg s.stepRegs &&& s.pwr.pg.toNat = 0) :
    exec .powerUpStart s = .next (s.upBegun.startStep 0) := by
  simp [exec, execPowerUpStart, hg, hb, hv, hp, State.upBegun]

theorem exec_powerUpStart_rejects (s : State) (hg : s.powerGate = true) (hb : tableBad s.stepRegs = true) :
    exec .powerUpStart s =
      .next (State.powerEvent { s with pwr := { s.pwr with table := s.stepRegs, faultKind := 5, faultStep := 0, faultPg := 0 } } 5 0 0) := by
  simp [exec, execPowerUpStart, hg, hb]

/-- A step qualifies and another follows. -/
theorem exec_stepQualified_next (pop : Option BootPop) (s : State) (hs : s.pwr.seq = .upSeq) (hc : s.pwr.crossing = none)
    (hn : s.pwr.step + 1 < s.stepCount) : exec (.stepQualified pop) s =
      .next (State.startStep { s with pwr := { s.pwr with
        qualified := s.pwr.step + 1, pg := s.pwr.pg ||| BitVec.ofNat 12 (s.stepPg s.pwr.step) } } (s.pwr.step + 1)) := by
  have follows : s.pwr.step + 1 < (validSteps s.pwr.table).length := hn
  simp [exec, execStepQualified, hs, hc, State.stepCount, follows]

theorem exec_stepTimeout_fault (s : State) (hs : s.pwr.seq = .upSeq) (hc : s.pwr.crossing = none) : exec .stepTimeout s =
    .next ((s.seqFault 2 s.pwr.step ((BitVec.ofNat 12 (s.stepPg s.pwr.step) &&& ~~~s.pwr.pg).toNat)).endBringup 0x0D false) := by
  simp [exec, execStepTimeout, hs, hc]

/-- A sequence fault is recorded with its kind and step, and counted (R503). -/
theorem State.seqFault_effect (s : State) (kind step bits : Nat) : let t := s.seqFault kind step bits
    t.pwr.faultKind = kind ∧ t.pwr.faultStep = step ∧ t.mode.mode = s.mode.mode ∧
      t.ctr Ctr.PWR_CNT_SEQ_FAULT = s.ctr Ctr.PWR_CNT_SEQ_FAULT + 1 :=
  ⟨rfl, rfl, rfl, State.ctr_of_bump rfl⟩

/-- The end of a bring-up in STANDBY leaves the fault recorded and the counters. -/
theorem State.endBringup_keeps_fault (s : State) (reason : Nat) (keepOn : Bool) (hm : s.mode.mode = .standby) :
    let t := s.endBringup reason keepOn
    t.pwr.faultKind = s.pwr.faultKind ∧ t.pwr.faultStep = s.pwr.faultStep ∧ t.ctrs = s.ctrs := by
  simp [State.endBringup, State.powerDown, State.hostsDown, State.powerEvent, hm]

theorem exec_outHoldExpired (s : State) (hs : s.pwr.seq = .downSeq) (hh : s.pwr.downHold = true) : exec .outHoldExpired s =
    .next (State.lowerNext { s.coreOff with pwr := { s.coreOff.pwr with downHold := false } }) := by
  simp [exec, execOutHoldExpired, hs, hh]

theorem State.lowerNext_chain (s : State) {c : Nat} {l : List Nat} (h : s.pwr.downChains = c :: l) :
    s.lowerNext = { s with pwr := { s.pwr with seqEn := s.pwr.seqEn &&& ~~~(BitVec.ofNat 4 (2 ^ c)), stuck := [] } } := by
  rw [State.lowerNext, h]

theorem State.lowerNext_last (s : State) (h : s.pwr.downChains = []) :
    s.lowerNext = { s with pwr := { s.pwr with seq := .offWait, started := 0, qualified := 0, stuck := [], seqEn := 0 },
                           mode := { s.mode with transit := false } } := by
  rw [State.lowerNext, h]

/-- The state in which the last chain is done with: its rails read low. -/
def State.chainLow (s : State) (c : Nat) : State :=
  let low := ((s.chainSteps c).filter (fun k => !s.pwr.stuck.contains k)).foldl (fun n k => n ||| s.stepPg k) 0
  { s with pwr := { s.pwr with pg := s.pwr.pg &&& ~~~(BitVec.ofNat 12 low) } }

theorem exec_chainDischarged (c : Nat) (l : List Nat) (s : State) (hs : s.pwr.seq = .downSeq) (hh : s.pwr.downHold = false)
    (hc : s.pwr.downChains = c :: l) : exec (.chainDischarged c) s = .next (s.chainLow c).chainDown := by
  have lowering : s.lowering c = true := by simp [State.lowering, hs, hh, hc]
  simp only [exec, execChainDischarged, lowering, if_true]
  rfl

/-- The state after a discharge that has timed out is recorded (R508). -/
def State.railStuck (s : State) (k : Nat) : State :=
  let high := s.stepPg k &&& s.pwr.pg.toNat
  let bits := if high = 0 then s.stepPg k else high
  (State.bump { s with pwr := { s.pwr with faultKind := 4, faultStep := k, faultPg := BitVec.ofNat 12 bits, stuck := s.pwr.stuck ++ [k] } }
    Ctr.PWR_CNT_RAIL_STUCK).powerEvent 4 k bits

theorem State.railStuck_effect (s : State) (k : Nat) : let t := s.railStuck k
    t.pwr.faultKind = 4 ∧ t.pwr.faultStep = k ∧ t.ctr Ctr.PWR_CNT_RAIL_STUCK = s.ctr Ctr.PWR_CNT_RAIL_STUCK + 1 :=
  ⟨rfl, rfl, State.ctr_of_bump rfl⟩

theorem exec_dischargeTimeout (k c : Nat) (l : List Nat) (s : State) (hs : s.pwr.seq = .downSeq) (hh : s.pwr.downHold = false)
    (hc : s.pwr.downChains = c :: l) (hk : k < s.pwr.started) (hch : s.stepChain k = c) (hn : k ∉ s.pwr.stuck) :
    exec (.dischargeTimeout k) s = .next (if ((s.railStuck k).chainSteps (s.stepChain k)).any (fun j =>
      !(s.railStuck k).pwr.stuck.contains j && ((s.railStuck k).stepPg j &&& (s.railStuck k).pwr.pg.toNat) != 0)
      then s.railStuck k else (s.railStuck k).chainDown) := by
  have lowering : s.lowering (s.stepChain k) = true := by simp [State.lowering, hs, hh, hc, hch]
  have fresh : s.pwr.stuck.contains k = false := by simpa using hn
  have taken : (decide (k < s.pwr.started) && s.lowering (s.stepChain k) && !s.pwr.stuck.contains k) = true := by simp [hk, lowering, hn]
  exact congrArg _ (if_pos taken)

/-- A chain that goes low leaves the fault recorded and the counters. -/
theorem State.chainDown_keeps_fault (s : State) : let t := s.chainDown
    t.pwr.faultKind = s.pwr.faultKind ∧ t.pwr.faultStep = s.pwr.faultStep ∧ t.ctrs = s.ctrs := by
  rw [State.chainDown, State.lowerNext]
  split <;> exact ⟨rfl, rfl, rfl⟩

/-! ## Running rails (R504 to R506) -/

theorem exec_pgFall_glitch (bit ns k : Nat) (s : State) (hs : s.pwr.seq = .up) (hb : s.stepOfBit bit = some k) (hn : ns ≤ 2000) :
    exec (.pgFall bit ns) s = .next (s.bump Ctr.PWR_CNT_PG_GLITCH) := by
  simp [exec, execPgFall, hs, hb, hn]

/-- The state after a rail that PRESERVE does not need is recorded as lost, before PRESERVE is triggered (R505). -/
def State.railFault (s : State) (bit k : Nat) : State :=
  let m := BitVec.ofNat 12 (2 ^ bit)
  ((State.bump { s with pwr := { s.pwr with pg := s.pwr.pg &&& ~~~m, faultKind := 3, faultStep := k, faultPg := m } }
    Ctr.PWR_CNT_RAIL_FAULT).tell (unitId 0x13 bit) 0x18 Cls.critical).powerEvent 3 k (2 ^ bit)

theorem State.railLost_unneeded (s : State) (hm : s.mode.mode ≠ .standby) : s.railLost false =
    { s.preserveTrigger 0x07 with mode := { (s.preserveTrigger 0x07).mode with railDropped := true } } := by
  simp [State.railLost, hm]

theorem State.preserveTrigger_running (s : State) (reason : Nat) (hr : s.running = true) : s.preserveTrigger reason = s.enterPreserve reason :=
  if_pos hr

theorem exec_pgFall_lost (bit ns k : Nat) (s : State) (hs : s.pwr.seq = .up) (hb : s.mode.bringup = .served) (hk : s.stepOfBit bit = some k)
    (hn : 2000 < ns) (hp : (s.stepA k).field 27 27 = 0) : exec (.pgFall bit ns) s = .next ((s.railFault bit k).railLost false) := by
  have keeps : (s.railFault bit k).stepA k = s.stepA k := by simp [State.railFault, State.stepA, State.powerEvent]
  have unneeded : (((s.railFault bit k).stepA k).field 27 27 == 1) = false := by rw [keeps, hp]; rfl
  rw [← unneeded]
  have watched : ¬(s.pwr.seq != .up && s.pwr.seq != .upSeq) = true := by simp [hs]
  have running : ¬(s.pwr.seq == .upSeq || (s.mode.bringup != .none && s.mode.bringup != .served)) = true := by simp [hs, hb]
  simp only [exec, execPgFall, hk, if_neg (Nat.not_le.mpr hn), State.tell_frame, State.bump_frame]
  exact congrArg _ ((if_neg watched).trans (if_neg running))

theorem exec_seqInLow_off (s : State) (hs : s.pwr.seq = .up) (hb : s.mode.bringup = .served)
    (hg : s.fld Reg.PWR_SEQ Fld.PWR_SEQ_IN_GATE ≠ 0) :
    exec .seqInLow s = .next (State.offRequest { s with pwr := { s.pwr with seqIn := false } } 0x08) := by
  have gated : (s.fld Reg.PWR_SEQ Fld.PWR_SEQ_IN_GATE == 0 || (s.pwr.seq != .up && s.pwr.seq != .upSeq)) = false := by simp [hg, hs]
  have served : (s.mode.bringup != .none && s.mode.bringup != .served) = false := by simp [hb]
  exact congrArg _ ((if_neg (Bool.eq_false_iff.mp gated)).trans (if_neg (Bool.eq_false_iff.mp served)))

/-! ## The ride timer and the hold-up bank (R398, R511 to R519) -/

/-- The state in which PFAIL_N reads low and the ride timer counts. -/
def State.riding (s : State) : State := { s with pwr := { s.pwr with pfailN := false, riding := true } }

theorem exec_pfailNFall_rides (s : State) (ha : s.pwr.aon = true) (hm : s.mode.mode = .serve) : exec .pfailNFall s =
    .next (if s.fld Reg.PWR_RIDE Fld.PWR_RIDE_T_RIDE_MS = 0 then s.riding.preserveTrigger 0x05 else s.riding) := by
  have outside : ¬(s.mode.mode == .preserve) = true := by simp [hm]
  have running : s.riding.running = true := State.running_of_mode _ (.inl hm)
  exact congrArg _ ((if_neg (by simp [ha])).trans ((if_neg outside).trans (if_pos running)))

/-- What PRESERVE entry from a running mode does to the mode and to what the power supervisor holds. -/
theorem State.preserveTrigger_effect (s : State) (reason : Nat) (hr : s.running = true) : let t := s.preserveTrigger reason
    t.mode.mode = .preserve ∧ t.mode.reason = reason ∧ t.mode.leftMode = s.mode.mode ∧ t.pwr = s.pwr ∧ t.flt = s.flt := by
  dsimp only
  rw [State.preserveTrigger_running s reason hr, State.enterPreserve_mode]
  simp

/-- The transfer that SB2 runs is the supervisor's own. -/
def State.ownsSb2 (s : State) : Bool := match s.sb2.cur with | some r => r.supervisor | none => false

/-- The bus transfer of a bank reading touches no more than SB2, what is sent and the counters. -/
def State.bankRead (s : State) (result ctr : Nat) : State :=
  if s.ownsSb2 then s.sbEnd 2 result else (s.bump ctr).sbResult 2 result 0

theorem State.bankRead_keeps (s : State) (result ctr : Nat) : let t := s.bankRead result ctr
    t.pwr = s.pwr ∧ t.mode = s.mode ∧ t.tim = s.tim ∧ t.regs = s.regs ∧ t.vlt = s.vlt ∧ t.flt = s.flt := by
  unfold State.bankRead
  split <;> simp

theorem exec_bankReading (e : Option Nat) (s : State) (ha : s.pwr.aon = true) (hb : s.sb2.state ≠ .failed) :
    exec (.bankReading e) s = .next (match e with
      | some e => (s.bankRead 1 (Ctr.SB_CNT_XFER (sbPage 2))).bankReading e
      | none => s.bankRead 2 (Ctr.SB_CNT_NAK (sbPage 2))) := by
  have live : ¬(!s.pwr.aon || s.sb2.state == .failed) = true := by simp [ha, hb]
  cases e <;> exact congrArg _ (if_neg live)

/-- A reading at or above the need is stored, with the need computed anew (R515, R516). -/
theorem State.bankReading_enough (s : State) (e : Nat) (he : s.energy s.needMs ≤ e % 65536) : let t := s.bankReading e
    t.pwr.bank = some (e % 65536, s.tim.ticks) ∧ t.pwr.bankStale = false ∧ t.pwr.needJ = s.energy s.needMs ∧
      t.pwr.ceilNeedJ = s.energy (s.preserveMs s.ceilLeaves) ∧
      t.pwr.cap.isSome = decide (e % 65536 < s.energy (s.preserveMs s.ceilLeaves)) ∧ t.mode = s.mode := by
  simp only [State.bankReading, Nat.not_lt.mpr he, if_false, State.pump_frame]
  refine ⟨trivial, trivial, trivial, trivial, ?_, trivial⟩
  split <;> simp [*]

/-- The needs of PRESERVE rest on the registers and the window alone (R516). -/
theorem State.needs_congr {s t : State} (hr : t.regs = s.regs) (hv : t.vlt = s.vlt) :
    t.energy t.needMs = s.energy s.needMs ∧ t.energy (t.preserveMs t.ceilLeaves) = s.energy (s.preserveMs s.ceilLeaves) := by
  simp only [State.energy, State.needMs, State.preserveMs, State.windowLeaves, State.ceilLeaves, State.wbGbps, State.presW, State.reserveJ,
    State.fldIn, State.fld, State.reg, hr, hv, and_self]

/-- An energy alarm in a running mode is reported and enters PRESERVE (R398, R519). -/
theorem State.energyLow_running (s : State) (hr : s.running = true) (hc : s.pwr.core = true) : let t := s.energyLow
    t.mode.mode = .preserve ∧ t.mode.reason = 0x06 ∧ t.pwr = s.pwr ∧
      t.flt.reports = s.flt.reports ++ [⟨unitId 0x14 0, 0x19, Cls.critical⟩] := by
  have outside : (s.mode.mode == .preserve) = false := by
    by_contra h
    simp [State.running, show s.mode.mode = .preserve by simpa using h] at hr
  have told : (s.tell (unitId 0x14 0) 0x19 Cls.critical).running = true := by simpa [State.running] using hr
  obtain ⟨mode, reason, -, pwr, flt⟩ := (s.tell (unitId 0x14 0) 0x19 Cls.critical).preserveTrigger_effect 0x06 told
  simp only [State.energyLow, outside, hr, told, if_true, Bool.false_eq_true, if_false]
  exact ⟨mode, reason, pwr.trans (by simp), (congrArg FaultMgr.reports flt).trans (by simp [State.tell, hc])⟩

end Sys2Proof.Machine
end

section
namespace Sys2Proof
open Sys2Proof.Machine

/-- Settles O12: each step of the power-up is one branch of its command; a bring-up that ends keeps the fault recorded. -/
theorem powerUpSteps : Obligations.PowerUpSteps := by
  refine ⟨fun s hg hb hv hp => ⟨_, exec_powerUpStart_begins s hg hb hv hp, rfl, rfl, rfl, rfl, rfl, rfl, rfl⟩,
    fun s hg hb => ⟨_, exec_powerUpStart_rejects s hg hb, rfl, rfl, rfl⟩,
    fun pop s hs hc hn => ⟨_, exec_stepQualified_next pop s hs hc hn, rfl, rfl, rfl, hs, rfl, rfl⟩,
    fun s hs hc hm => ⟨_, exec_stepTimeout_fault s hs hc, ?_⟩⟩
  obtain ⟨kind, step, mode, counted⟩ :=
    s.seqFault_effect 2 s.pwr.step ((BitVec.ofNat 12 (s.stepPg s.pwr.step) &&& ~~~s.pwr.pg).toNat)
  obtain ⟨keepsKind, keepsStep, ctrs⟩ := State.endBringup_keeps_fault _ 0x0D false (mode.trans hm)
  obtain ⟨reason, standby, -, seq, pending⟩ := State.endBringup_standby _ 0x0D false (mode.trans hm)
  exact ⟨keepsKind.trans kind, keepsStep.trans step, seq, pending, reason, standby, (State.ctr_congr ctrs _).trans counted⟩

/-- Settles O14: a glitch is only counted; a rail lost, or SEQ_IN low, in SERVE enters PRESERVE. -/
theorem runningRails : Obligations.RunningRails := by
  refine ⟨fun bit ns k s hs hb hn => ⟨_, exec_pgFall_glitch bit ns k s hs hb hn, State.ctr_bump_self _ _, rfl, rfl, rfl⟩,
    fun bit ns k s hs hc hm hb hk hn hp => ⟨_, exec_pgFall_lost bit ns k s hs hb hk hn hp, ?_⟩,
    fun s hs hm hb hg => ⟨_, exec_seqInLow_off s hs hb hg, ?_⟩⟩
  · have serves : (s.railFault bit k).mode.mode = .serve := by simpa [State.railFault] using hm
    obtain ⟨mode, reason, -, pwr, flt⟩ :=
      (s.railFault bit k).preserveTrigger_effect 0x07 (State.running_of_mode _ (.inl serves))
    rw [State.railLost_unneeded _ (by rw [serves]; decide)]
    dsimp only
    rw [pwr, flt]
    exact ⟨by simp [State.railFault, State.powerEvent], by simp [State.railFault, State.powerEvent], by simp [State.railFault, State.powerEvent],
      by simp [State.railFault, State.powerEvent], mode, reason, rfl, by simp [State.railFault, State.tell, State.powerEvent, hc]⟩
  · have running := State.running_of_mode { s with pwr := { s.pwr with seqIn := false } } (.inl hm)
    obtain ⟨mode, reason, pending, -⟩ := State.offRequest_enters_preserve _ 0x08 running
    exact ⟨by rw [State.offRequest_running_pwr _ 0x08 running], mode, reason, pending⟩

/-- Settles O15: the core's reset keeps what `State.coreOff` names; the chains follow one another by `State.lowerNext`. -/
theorem powerDownSteps : Obligations.PowerDownSteps := by
  refine ⟨fun c l s hs hh hc => ⟨_, exec_outHoldExpired s hs hh, ?_⟩, fun c s hs hh hc => ⟨_, exec_chainDischarged c [] s hs hh hc, ?_⟩,
    fun k c l s hs hh hc hk hch hn => ?_, fun s hs => ⟨_, congrArg Host.Outcome.next (if_pos (by simp [hs])), rfl⟩⟩
  · rw [State.lowerNext_chain _ (c := c) (l := l) (by exact hc)]
    exact ⟨rfl, rfl, rfl, rfl, rfl, rfl, rfl, rfl⟩
  · have last : (s.chainLow c).pwr.downChains.drop 1 = [] := by simp [State.chainLow, hc]
    rw [State.chainDown, State.lowerNext_last _ (by exact last)]
    exact ⟨rfl, rfl, last, rfl⟩
  · obtain ⟨kind, step, counted⟩ := s.railStuck_effect k
    refine ⟨_, exec_dischargeTimeout k c l s hs hh hc hk hch hn, ?_⟩
    split
    · exact ⟨kind, step, counted⟩
    · obtain ⟨keepsKind, keepsStep, ctrs⟩ := (s.railStuck k).chainDown_keeps_fault
      exact ⟨keepsKind.trans kind, keepsStep.trans step, (State.ctr_congr ctrs _).trans counted⟩

/-- Settles O16: each event of the ride timer and of the bank is one branch of its command; PRESERVE entry keeps what the supervisor holds. -/
theorem rideAndBank : Obligations.RideAndBank := by
  refine ⟨fun s ha hm hr => ⟨_, (exec_pfailNFall_rides s ha hm).trans (congrArg _ (if_neg hr)), rfl⟩,
    fun s ha hm hr => ⟨_, (exec_pfailNFall_rides s ha hm).trans (congrArg _ (if_pos hr)), ?_⟩,
    fun s ha => ⟨_, congrArg Host.Outcome.next (if_pos ha), rfl⟩,
    fun s hp hr hm => ⟨_, congrArg Host.Outcome.next (if_pos (by simp [hp, hr, hm])), rfl, State.ctr_of_bump rfl, rfl⟩,
    fun s hp hr hm => ?_, fun e s ha hb he => ⟨_, exec_bankReading (some e) s ha hb, ?_⟩,
    fun s ha hb => ⟨_, exec_bankReading none s ha hb, ?_⟩, fun s ha hc hb hm => ?_, fun s ha hc hm => ?_⟩
  · obtain ⟨mode, reason, left, pwr, -⟩ := s.riding.preserveTrigger_effect 0x05 (State.running_of_mode _ (.inl hm))
    exact ⟨pwr, mode, reason, left.trans hm⟩
  · have running := s.running_of_mode (.inr (.inl hm))
    obtain ⟨mode, reason, left, pwr, -⟩ := s.preserveTrigger_effect 0x05 running
    exact ⟨s.preserveTrigger 0x05, by simp [exec, execRideTimerExpired, hp, hr, running], mode, reason, left.trans hm, pwr⟩
  · obtain ⟨-, mode, tim, regs, vlt, -⟩ := s.bankRead_keeps 1 (Ctr.SB_CNT_XFER (sbPage 2))
    obtain ⟨need, ceil⟩ := State.needs_congr regs vlt
    have stored := (s.bankRead 1 (Ctr.SB_CNT_XFER (sbPage 2))).bankReading_enough e (by rw [need]; exact he)
    rw [need, ceil, tim, mode] at stored
    exact stored
  · obtain ⟨pwr, mode, -⟩ := s.bankRead_keeps 2 (Ctr.SB_CNT_NAK (sbPage 2))
    exact ⟨pwr, mode⟩
  · have running := State.running_of_mode { s with pwr := { s.pwr with bankStale := true } } (.inl hm)
    obtain ⟨mode, reason, pwr, -⟩ := State.energyLow_running _ running hc
    refine ⟨_, congrArg Host.Outcome.next (if_pos (by simp [ha, hb])), ?_⟩
    simp only [State.pump_frame, State.bankJ, pwr, mode, reason]
    exact ⟨trivial, by split <;> rfl, trivial, trivial⟩
  · have running := State.running_of_mode { s with pwr := { s.pwr with holdupOk := false } } (.inr (.inl hm))
    obtain ⟨mode, reason, pwr, reports⟩ := State.energyLow_running _ running hc
    refine ⟨_, congrArg Host.Outcome.next ((if_neg (by simp [ha])).trans (if_neg (by simp [hm]))), ?_⟩
    exact ⟨by rw [pwr], mode, reason, reports⟩

end Sys2Proof
end

section
namespace Sys2Proof.Machine

/-! ## The core supply, reset and heat (R521, R552, R558, R559) -/

theorem exec_vcoreStep (v : Nat) (s : State) (hv : s.pwr.vcoreCmd = some v) (hc : s.pwr.core = true) (hn : v ≠ s.vcoreTarget) :
    exec .vcoreStep s =
      .next (s.vcoreCommand (if v < s.vcoreTarget then min s.vcoreTarget (v + 10) else max s.vcoreTarget (v - 10))) := by
  simp [exec, execVcoreStep, hv, hc, hn]

theorem State.vcoreCommand_cmd (s : State) (mv : Nat) : (s.vcoreCommand mv).pwr.vcoreCmd = some mv := by
  simp [State.vcoreCommand]

theorem State.vcoreRead_mv (s : State) (mv : Nat) : (s.vcoreRead mv).pwr.vcoreMv = mv % 4096 := by
  unfold State.vcoreRead
  dsimp only
  (repeat' split) <;> simp

theorem exec_vcoreReadback (mv : Nat) (s : State) (ha : s.pwr.aon = true) (hv : s.pwr.vcoreCmd.isSome = true)
    (hb : s.sb1.state ≠ .failed) :
    exec (.vcoreReadback mv) s = .next (((s.bump (Ctr.SB_CNT_XFER (sbPage 1))).sbResult 1 1 0).vcoreRead mv) := by
  simp [exec, execVcoreReadback, ha, hv, hb]

theorem exec_resetNLow_off (s : State) (ha : s.pwr.aon = true) (hs : s.pwr.seq = .off) :
    exec .resetNLow s = .next { s with pwr := { s.pwr with resetN := false } } := by
  simp [exec, execResetNLow, ha, hs]

theorem exec_resetNLow_up (s : State) (ha : s.pwr.aon = true) (hs : s.pwr.seq = .up) :
    exec .resetNLow s = .next (State.offRequest { s with pwr := { s.pwr with resetN := false } } 0x08) := by
  simp [exec, execResetNLow, ha, hs]

/-- The state after the supervisor has recorded a junction at 115 °C or more, before the off request (R559). -/
def State.overheated (s : State) (c : Nat) : State :=
  State.logRec { s with pwr := { s.pwr with junction := c, hot := true, thermN := false } } LogT.powerEvent Src.power Cls.critical
    [0x11, 0, w32 c]

theorem exec_junctionOvertemp (c : Nat) (s : State) (ha : s.pwr.aon = true) (hc : s.pwr.core = true) (h : 115 ≤ c)
    (hm : s.mode.mode = .serve) (hs : s.pwr.seq = .up) : exec (.junctionOvertemp c) s = .next ((s.overheated c).offRequest 0x08) := by
  simp [exec, execJunctionOvertemp, ha, hc, Nat.not_lt.mpr h, hm, hs, State.overheated]

end Sys2Proof.Machine
end

section
namespace Sys2Proof
open Sys2Proof.Machine

/-- Settles O17: each event of the core supply, of RESET_N and of the junction is one branch of its command. -/
theorem coreSupplyHeatReset : Obligations.CoreSupplyHeatReset := by
  refine ⟨fun v s hv hc hn => ⟨_, exec_vcoreStep v s hv hc hn, s.vcoreCommand_cmd _, by simp, by simp⟩,
    fun mv s ha hv hb => ⟨_, exec_vcoreReadback mv s ha hv hb, State.vcoreRead_mv _ mv, by simp⟩,
    fun s ha hs hm => ⟨_, exec_resetNLow_up s ha hs, ?_⟩, fun s ha hs => ⟨_, exec_resetNLow_off s ha hs, rfl⟩,
    fun c s ha hc h hm hs => ⟨_, exec_junctionOvertemp c s ha hc h hm hs, ?_⟩,
    fun c s ha => ⟨_, congrArg Host.Outcome.next (if_neg (by simp [ha])), rfl, rfl⟩⟩
  · have running := State.running_of_mode { s with pwr := { s.pwr with resetN := false } } (.inl hm)
    obtain ⟨mode, reason, pending, -⟩ := State.offRequest_enters_preserve _ 0x08 running
    exact ⟨by rw [State.offRequest_running_pwr _ 0x08 running], mode, reason, pending⟩
  · have running := State.running_of_mode (s.overheated c) (.inl (by simpa [State.overheated] using hm))
    obtain ⟨mode, reason, pending, -⟩ := State.offRequest_enters_preserve _ 0x08 running
    dsimp only
    rw [State.offRequest_running_pwr _ 0x08 running]
    exact ⟨by simp [State.overheated], by simp [State.overheated], by simp [State.overheated], mode, reason, pending⟩

end Sys2Proof
end

section
namespace Sys2Proof.Machine

/-! ## Sideband transfers (R524 to R531) -/

@[simp] theorem State.sb_setReg (s : State) (n a : Nat) (w : Word) : (s.setReg a w).sb n = s.sb n := rfl

@[simp] theorem State.sb_tell (s : State) (n unit code cls : Nat) : (s.tell unit code cls).sb n = s.sb n := by
  unfold State.tell
  split <;> rfl

theorem State.sbLive_congr {s t : State} (h : t.pwr = s.pwr) (n : Nat) : t.sbLive n = s.sbLive n := by simp only [State.sbLive, h]

theorem State.sb_sbStart (s : State) (n : Nat) (r : SbReq) :
    (s.sbStart n r).sb n = { s.sb n with state := .active, cur := some r } := State.sb_setSb_self _ _ _

theorem State.sbNext_idle (s : State) (n : Nat) (h : (s.sb n).queue = []) :
    s.sbNext n = s.setSb n { s.sb n with state := .idle, cur := none } := by rw [State.sbNext, h]

/-- A write of SBn_CMD on an idle bus found well starts its transfer. -/
theorem exec_sbCmd_starts (who n : Nat) (cmd : Word) (s : State) (hc : s.pwr.core = true) (hw : who < 5) (hl : s.sbLive n = true)
    (hm : cmd.field 11 8 ≠ 0 ∨ cmd.field 15 12 ≠ 0) (hi : (s.sb n).state = .idle) : exec (.sbCmd who n cmd none) s =
      .next (s.sbStart n ⟨false, cmd.field 6 0, (s.sbData n).take (min 8 (cmd.field 11 8)), min 8 (cmd.field 15 12), 0⟩) := by
  have moves : ¬(min 8 (cmd.field 11 8) = 0 ∧ min 8 (cmd.field 15 12) = 0) := by omega
  simp only [exec, execSbCmd, hc, hw, hl, moves, hi, State.sbFound, State.sbSubmit, decide_true, Bool.and_self, Bool.not_true,
    Bool.false_eq_true, if_false, beq_self_eq_true, if_true]

/-- A transfer of software's that ends DONE with nothing read. -/
theorem exec_sbTransferDone_written (n : Nat) (r : SbReq) (s : State) (hl : s.sbLive n = true) (hr : (s.sb n).cur = some r)
    (hs : r.supervisor = false) (hz : r.rlen = 0) : exec (.sbTransferDone n 1 []) s = .next (s.sbEnd n 1) := by
  simp [exec, execSbTransferDone, hl, hr, hs, hz, State.sbStore]

theorem State.sbEnd_done (s : State) (n : Nat) (r : SbReq) (hr : (s.sb n).cur = some r) (hq : (s.sb n).queue = []) :
    let t := s.sbEnd n 1
    t.sb n = { s.sb n with state := .idle, cur := none, result := 1, retry := r.retry } ∧
      t.ctr (Ctr.SB_CNT_XFER (sbPage n)) = s.ctr (Ctr.SB_CNT_XFER (sbPage n)) + 1 := by
  have queue : (((s.sbResult n 1 r.retry).bump (Ctr.SB_CNT_XFER (sbPage n))).sb n).queue = [] := by simp [State.sbResult, hq]
  simp only [State.sbEnd, hr, if_true, State.sbNext_idle _ n queue]
  refine ⟨by simp [State.sbResult], ?_⟩
  rw [State.ctr_congr (s := (s.sbResult n 1 r.retry).bump (Ctr.SB_CNT_XFER (sbPage n))) (by simp), State.ctr_bump_self,
    State.ctr_congr (s := s) (by simp [State.sbResult])]

/-- The state in which the cure follows SCL held low (R526, R527). -/
def State.sclHeld (s : State) (n retry : Nat) : State :=
  let t := (s.bump (Ctr.SB_CNT_TIMEOUT (sbPage n))).sbResult n 6 retry
  t.setSb n { t.sb n with cur := none }

theorem exec_sclLowTimeout (n : Nat) (freed : Option Nat) (r : SbReq) (s : State) (hl : s.sbLive n = true) (hr : (s.sb n).cur = some r) :
    exec (.sclLowTimeout n freed) s = .next (if freed.isSome then ((s.sclHeld n r.retry).sbCure n freed).sbNext n
      else (s.sclHeld n r.retry).sbCure n freed) := by
  simp only [exec, execSclLowTimeout, hl, hr, State.sclHeld, Bool.not_true, Bool.false_eq_true, if_false]

theorem State.sb_sclHeld (s : State) (n retry : Nat) :
    (s.sclHeld n retry).sb n = { s.sb n with cur := none, result := 6, retry := retry } := by
  simp [State.sclHeld, State.sbResult]

/-- A cure that frees the bus leaves what runs and waits there as it was. -/
theorem State.sb_sbCure_freed (s : State) (n k : Nat) : (s.sbCure n (some k)).sb n = s.sb n := by
  simp [State.sbCure]

/-- A cure that fails leaves the bus FAILED with nothing waiting, and tells the fault manager (R528). -/
theorem State.sbCure_failed (s : State) (n : Nat) (hc : s.pwr.core = true) : let t := s.sbCure n none
    (t.sb n).state = .failed ∧ (t.sb n).cur = none ∧ (t.sb n).queue = [] ∧
      t.flt.reports = s.flt.reports ++ [⟨unitId 0x16 n, 0x1C, Cls.major⟩] := by
  simp only [State.sbCure, State.sb_tell, State.sb_setSb_self, State.tell, true_and]
  split <;> simp [State.sbResult, hc]

theorem exec_hangCureRetry_failed (n : Nat) (s : State) (hl : s.sbLive n = true) (hf : (s.sb n).state = .failed) :
    exec (.hangCureRetry n none) s = .next ((s.bump (Ctr.SB_CNT_HANG (sbPage n))).emit (.cure n 9)) := by
  simp [exec, execHangCureRetry, hl, hf]

theorem exec_hangCureRetry_freed (n k : Nat) (s : State) (hl : s.sbLive n = true) (hf : (s.sb n).state = .failed) :
    exec (.hangCureRetry n (some k)) s =
      .next ((s.sbCure n (some k)).setSb n { (s.sbCure n (some k)).sb n with state := .idle }) := by
  simp [exec, execHangCureRetry, hl, hf]

/-- With retries left the transfer that runs starts again (R529). -/
theorem State.sbRetry_again (s : State) (n result : Nat) (r : SbReq) (hr : (s.sb n).cur = some r) (hn : r.retry < s.sbRetries n) :
    s.sbRetry n result = s.sbStart n { r with retry := r.retry + 1 } := by
  rw [State.sbRetry, hr]
  exact if_pos hn

theorem exec_arbitrationLost_again (n : Nat) (r : SbReq) (s : State) (hl : s.sbLive n = true) (hr : (s.sb n).cur = some r)
    (hn : r.retry < s.sbRetries n) : exec (.arbitrationLost n) s =
      .next ((s.bump (Ctr.SB_CNT_ARB_LOST (sbPage n))).sbStart n { r with retry := r.retry + 1 }) := by
  rw [← State.sbRetry_again (s.bump (Ctr.SB_CNT_ARB_LOST (sbPage n))) n 4 r hr hn]
  simp [exec, execArbitrationLost, hl, hr]

/-- The state after a bus error is counted and noted (R531). -/
def State.busErred (s : State) (n : Nat) : State :=
  (s.bump (Ctr.SB_CNT_BUS_ERR (sbPage n))).setFld (Reg.SB_STATUS (sbPage n)) Fld.SB_STATUS_BUS_ERROR 1

theorem State.busErred_retries (s : State) (n : Nat) : (s.busErred n).sbRetries n = s.sbRetries n := by
  have other : Reg.SB_STATUS (sbPage n) ≠ Reg.SB_CTL (sbPage n) := by simp [Reg.SB_STATUS, Reg.SB_CTL]
  simp only [State.sbRetries, State.fld, State.busErred, State.setFld, State.reg_setReg_other _ _ _ _ other]
  rfl

theorem exec_busError_again (n : Nat) (r : SbReq) (s : State) (hl : s.sbLive n = true) (hr : (s.sb n).cur = some r)
    (hn : r.retry < s.sbRetries n) : exec (.busError n none) s = .next ((s.busErred n).sbStart n { r with retry := r.retry + 1 }) := by
  have cur : ((s.busErred n).sb n).cur = some r := by rw [State.busErred, State.setFld, State.sb_setReg, State.sb_bump]; exact hr
  rw [← State.sbRetry_again (s.busErred n) n 5 r cur (by rwa [s.busErred_retries])]
  exact congrArg _ (if_neg (by simp [hl]))

/-! ## Register fields (R453) -/

/-- A field of a number reads what was put in it, whatever the number's other parts. -/
theorem field_of_parts (q f v r n lo : Nat) (hr : r < 2 ^ lo) (hf : f < 2 ^ n) (hv : v < 2 ^ n) (hw : lo + n ≤ 32) :
    ((2 ^ lo * (2 ^ n * q + f) + r - f * 2 ^ lo + v * 2 ^ lo) % 2 ^ 32) / 2 ^ lo % 2 ^ n = v := by
  have parts : 2 ^ lo * (2 ^ n * q + f) + r - f * 2 ^ lo + v * 2 ^ lo = r + 2 ^ lo * (v + 2 ^ n * q) := by
    have : 2 ^ lo * (2 ^ n * q + f) = 2 ^ lo * (2 ^ n * q) + f * 2 ^ lo := by ring
    rw [this, Nat.add_right_comm, Nat.add_sub_cancel, Nat.mul_add, Nat.mul_comm v]
    omega
  have split : 2 ^ 32 = 2 ^ lo * (2 ^ n * 2 ^ (32 - (lo + n))) := by
    rw [← Nat.mul_assoc, ← pow_add, ← pow_add]
    congr 1
    omega
  rw [parts, split, Nat.mod_mul_right_div_self, Nat.add_mul_div_left _ _ (Nat.two_pow_pos lo), Nat.div_eq_of_lt hr, Nat.zero_add,
    Nat.mod_mul_right_mod, Nat.add_mul_mod_self_left, Nat.mod_eq_of_lt hv]

/-- A field reads what was put in it. -/
theorem Word.field_setField (w : Word) (hi lo v : Nat) (hl : lo ≤ hi) (hh : hi < 32) :
    (w.setField hi lo v).field hi lo = v % 2 ^ (hi + 1 - lo) := by
  have parts := field_of_parts (w.toNat / 2 ^ lo / 2 ^ (hi + 1 - lo)) (w.field hi lo) (v % 2 ^ (hi + 1 - lo)) (w.toNat % 2 ^ lo)
    (hi + 1 - lo) lo (Nat.mod_lt _ (Nat.two_pow_pos _)) (Nat.mod_lt _ (Nat.two_pow_pos _)) (Nat.mod_lt _ (Nat.two_pow_pos _)) (by omega)
  rw [Word.field, Nat.div_add_mod, Nat.div_add_mod] at parts
  simpa only [Word.field, Word.setField, BitVec.toNat_ofNat] using parts
/-- A register field reads what was written to it. -/
theorem State.fld_setFld_self (s : State) (a : Nat) (f : Fld) (v : Nat) (hl : f.lo ≤ f.hi) (hh : f.hi < 32) :
    (s.setFld a f v).fld a f = v % 2 ^ (f.hi + 1 - f.lo) :=
  (congrArg (Word.field · f.hi f.lo) (State.reg_setReg_self _ _ _)).trans (Word.field_setField _ f.hi f.lo v hl hh)

end Sys2Proof.Machine
end

section
namespace Sys2Proof
open Sys2Proof.Machine

/-- Settles O19: each event of a transfer is one branch of its command. -/
theorem sidebandTransfers : Obligations.SidebandTransfers := by
  refine ⟨fun who n cmd s hc hw hl hm hi => ⟨_, exec_sbCmd_starts who n cmd s hc hw hl hm hi, ?_⟩,
    fun n r s hl hr hs hq hz => ⟨_, exec_sbTransferDone_written n r s hl hr hs hz, ?_⟩,
    fun n r s hl hc hr => ⟨_, exec_sclLowTimeout n none r s hl hr, ?_⟩,
    fun n k r s hl hr hq => ⟨_, exec_sclLowTimeout n (some k) r s hl hr, ?_⟩,
    fun n k s hl hf => ⟨_, exec_hangCureRetry_freed n k s hl hf, congrArg SbBus.state (State.sb_setSb_self _ _ _)⟩,
    fun n s hl hf => ⟨_, exec_hangCureRetry_failed n s hl hf, hf, State.ctr_bump_self _ _, rfl⟩,
    fun n r s hl hr hn => ⟨_, exec_arbitrationLost_again n r s hl hr hn, ?_⟩,
    fun n r s hl hr hn => ⟨_, exec_busError_again n r s hl hr hn, ?_⟩⟩
  · dsimp only
    rw [State.sb_sbStart]
    exact ⟨rfl, rfl, rfl, by simp [State.sbStart]⟩
  · obtain ⟨bus, counted⟩ := s.sbEnd_done n r hr hq
    rw [bus]
    exact ⟨rfl, rfl, rfl, rfl, counted⟩
  · obtain ⟨state, cur, queue, told⟩ := (s.sclHeld n r.retry).sbCure_failed n (by simpa [State.sclHeld, State.sbResult] using hc)
    exact ⟨state, cur, queue, told.trans (by simp [State.sclHeld, State.sbResult])⟩
  · have bus := (State.sb_sbCure_freed (s.sclHeld n r.retry) n k).trans (s.sb_sclHeld n r.retry)
    simp only [Option.isSome_some, if_true]
    rw [State.sbNext_idle _ n (by rw [bus]; exact hq), State.sb_setSb_self, bus]
    exact ⟨rfl, rfl, rfl⟩
  · dsimp only
    rw [State.sb_sbStart]
    exact ⟨rfl, rfl, State.ctr_of_bump (by simp [State.sbStart])⟩
  · dsimp only
    rw [State.sb_sbStart]
    refine ⟨rfl, rfl, ?_, State.ctr_of_bump (by simp [State.sbStart, State.busErred, State.setFld])⟩
    have regs : (State.sbStart (s.busErred n) n { r with retry := r.retry + 1 }).regs = (s.busErred n).regs := by simp [State.sbStart]
    rw [State.fld, State.reg, regs]
    exact (congrArg (Word.field · 17 17) (State.reg_setReg_self _ _ _)).trans (Word.field_setField _ 17 17 1 (by decide) (by decide))

end Sys2Proof
end

section
namespace Sys2Proof.Machine

/-! ## The logbook's flushes (R538 to R542) -/

theorem State.flushRecs_cons (n k off : Nat) (r : LogRec) (rest : List LogRec) (s : State) (hs : s.log.staged = r :: rest)
    (hp : s.rollPlace r.len = some (k, off)) : State.flushRecs (n + 1) s = State.flushRecs n { s with log := { s.log with
      staged := rest, roll := s.log.roll ++ [⟨k, off, r⟩], rollAt := (k, off + r.len), flashed := r.seq,
      tail := if s.log.roll.isEmpty then r.seq else s.log.tail } } := by
  rw [State.flushRecs, hs]
  dsimp only
  rw [hp]

/-- What the copy to FIX leaves of the logbook (R543). -/
abbrev Logbook.Copied (l k : Logbook) : Prop :=
  k.staged = l.staged ∧ k.roll = l.roll ∧ k.flashed = l.flashed ∧ k.tail = l.tail ∧ k.rollAt = l.rollAt ∧ k.secondFlush = l.secondFlush ∧
    k.waiters = l.waiters

theorem State.fixCopyOne_copied (s : State) (r : LogRec) : s.log.Copied (s.fixCopyOne r).log := by
  unfold State.fixCopyOne
  (repeat' split) <;> exact ⟨rfl, rfl, rfl, rfl, rfl, rfl, rfl⟩

theorem State.fixCopy_copied (s : State) : s.log.Copied s.fixCopy.log := by
  have each : ∀ (l : List LogPlaced) (t : State), s.log.Copied t.log →
      s.log.Copied (l.foldl (fun (s : State) p => s.fixCopyOne p.record) t).log := by
    intro l
    induction l with
    | nil => exact fun _ h => h
    | cons p l ih =>
      refine fun t h => ih _ ?_
      have one := t.fixCopyOne_copied p.record
      simp only [Logbook.Copied] at h one ⊢
      simp only [one, h, and_self]
  unfold State.fixCopy
  split
  · exact ⟨rfl, rfl, rfl, rfl, rfl, rfl, rfl⟩
  · exact each _ s ⟨rfl, rfl, rfl, rfl, rfl, rfl, rfl⟩

/-- A flush that begins leaves the records and where they stand. -/
abbrev Logbook.Standing (l k : Logbook) : Prop :=
  k.staged = l.staged ∧ k.roll = l.roll ∧ k.flashed = l.flashed ∧ k.tail = l.tail ∧ k.rollAt = l.rollAt ∧ k.head = l.head ∧ k.dropped = l.dropped

theorem Logbook.startFlush_standing (l : Logbook) (c : Prop) [Decidable c] : l.Standing (if c then l.startFlush else l) := by
  unfold Logbook.startFlush
  (repeat' split) <;> exact ⟨rfl, rfl, rfl, rfl, rfl, rfl, rfl⟩

theorem Logbook.startFlush_head (l : Logbook) (c : Prop) [Decidable c] : (if c then l.startFlush else l).head = l.head := by
  obtain ⟨-, -, -, -, -, head, -⟩ := l.startFlush_standing c
  exact head

theorem Logbook.startFlush_dropped (l : Logbook) (c : Prop) [Decidable c] : (if c then l.startFlush else l).dropped = l.dropped := by
  obtain ⟨-, -, -, -, -, -, dropped⟩ := l.startFlush_standing c
  exact dropped

theorem State.setLog_if (s : State) (l : Logbook) (c : Prop) [Decidable c] :
    (if c then { s with log := l } else s) = { s with log := if c then l else s.log } := by
  split <;> rfl

theorem State.flushWaiters_none (s : State) (h : s.log.waiters = []) : s.flushWaiters = s := by
  have same : { s.log with waiters := [] } = s.log := by rw [← h]
  have none : ∀ p : Nat × Nat → Bool, List.partition p [] = ([], []) := fun _ => rfl
  simp only [State.flushWaiters, h, none, List.foldl_nil, List.isEmpty_nil, if_true, same]

theorem State.flushRecs_keeps (n : Nat) (s : State) : (State.flushRecs n s).log.secondFlush = s.log.secondFlush ∧
    (State.flushRecs n s).log.waiters = s.log.waiters := by
  induction n generalizing s with
  | zero => exact ⟨rfl, rfl⟩
  | succ n ih =>
    rw [State.flushRecs]
    split
    · exact ⟨rfl, rfl⟩
    · split
      · exact ⟨rfl, rfl⟩
      · exact ih _

/-- A record's payload of four words or more, and no more than a record holds, stands as it is (R534). -/
theorem logPayload_full (p : List Word) (h4 : 4 ≤ p.length) (h : p.length ≤ 249) : logPayload p = p := by
  rw [logPayload, Nat.sub_eq_zero_of_le h4, List.replicate_zero, List.append_nil, List.take_of_length_le h]

theorem exec_overflowRecord (n t0 t1 : Nat) (s : State) (hd : s.log.dropped = some (n, t0, t1)) (hc : s.pwr.core = true)
    (hu : s.log.used + logLen 5 ≤ logBuf) (hm : s.mode.mode ≠ .preserve) : exec .overflowRecord s =
      .next (State.logRec { s with log := { s.log with dropped := none } } LogT.overflow Src.log Cls.minor (w32 n :: (lohi t0 ++ lohi t1))) := by
  have len : (w32 n :: (lohi t0 ++ lohi t1)).length = 5 := rfl
  simp only [exec, execOverflowRecord, hd, hc, len, decide_eq_false (Nat.not_lt.mpr hu), beq_eq_false_iff_ne.mpr hm, Bool.not_true, Bool.false_and,
    Bool.or_self, Bool.false_eq_true, if_false]

/-- A record that finds room is staged as the newest, and drops stay as they were. -/
theorem State.logRec_staged (s : State) (typ source cls : Nat) (payload : List Word) (hc : s.pwr.core = true) (hm : s.mode.mode ≠ .preserve)
    (hu : s.log.used + logLen (logPayload payload).length ≤ logBuf) : let t := s.logRec typ source cls payload
    t.log.dropped = s.log.dropped ∧ t.log.head = s.log.next := by
  have room : (decide (logBuf < s.log.used + logLen (logPayload payload).length) ||
      (s.mode.mode == .preserve && decide (32768 < s.log.preserveBytes + logLen (logPayload payload).length))) = false := by
    simp [Nat.not_lt.mpr hu, hm]
  simp only [State.logRec, State.logAt, hc, room, Bool.not_true, Bool.false_eq_true, if_false, ite_log]
  exact ⟨Logbook.startFlush_dropped _ _, Logbook.startFlush_head _ _⟩

/-- The state after a flush of `n` records has ended: they are in ROLL, the write point rounded up, and FIX has its copies (R541, R543). -/
def State.flushEnded (s : State) (n : Nat) : State :=
  let u := State.flushRecs n { s with log := { s.log with flushing := none } }
  State.fixCopy { u.bump Ctr.LOG_CNT_FLUSH with log := { u.log with rollAt := padWord u.log.rollAt } }

theorem State.flushEnded_effect (s : State) (n : Nat) : let u := State.flushRecs n { s with log := { s.log with flushing := none } }
    { u.log with rollAt := padWord u.log.rollAt }.Copied (s.flushEnded n).log ∧
      (s.flushEnded n).ctr Ctr.LOG_CNT_FLUSH = s.ctr Ctr.LOG_CNT_FLUSH + 1 ∧ (s.flushEnded n).mode = s.mode :=
  ⟨State.fixCopy_copied _, State.ctr_of_bump (by simp [State.flushEnded, State.bump, State.bumpBy, State.ctr]), by simp [State.flushEnded]⟩

/-- In PRESERVE the records from before it are flushed without a pause (R541). -/
abbrev State.flushesOn (s : State) : Bool :=
  s.mode.mode == .preserve && s.log.staged.any (fun r => decide (r.seq < s.log.preserveFrom))

/-- LOG_FLUSH_DONE outside the two flushes of PRESERVE, no command waiting: a flush may begin after it. -/
theorem exec_logFlushDone (n : Nat) (s : State) (hf : s.log.flushing = some n) (hs : s.log.secondFlush = 0) (hw : s.log.waiters = []) :
    exec .logFlushDone s = .next { s.flushEnded n with log :=
      if (s.flushEnded n).flushesOn then (s.flushEnded n).log.startFlush else (s.flushEnded n).log } := by
  obtain ⟨⟨-, -, -, -, -, second, waiters⟩, -⟩ := s.flushEnded_effect n
  obtain ⟨keepsSecond, keepsWaiters⟩ := State.flushRecs_keeps n { s with log := { s.log with flushing := none } }
  have none := (s.flushEnded n).flushWaiters_none (waiters.trans (keepsWaiters.trans hw))
  have zero := second.trans (keepsSecond.trans hs)
  simp only [exec, execLogFlushDone, hf]
  rw [State.flushEnded] at none zero
  rw [none, zero]
  exact congrArg Host.Outcome.next (State.setLog_if _ _ _)

end Sys2Proof.Machine
end

section
namespace Sys2Proof
open Sys2Proof.Machine

/-- Settles O47: each event of the logbook is one branch of its command. -/
theorem logbookFlushes : Obligations.LogbookFlushes := by
  refine ⟨fun n k off r rest s hs hp => State.flushRecs_cons n k off r rest s hs hp,
    fun n u s hf hs hw hu => ⟨_, exec_logFlushDone n s hf hs hw, ?_⟩,
    fun s hc hm hf hs => ⟨_, congrArg Host.Outcome.next (if_pos (by simp [hc, hm])), ?_⟩,
    fun n t0 t1 s hd hc hu hm => ⟨_, exec_overflowRecord n t0 t1 s hd hc hu hm, rfl, ?_⟩,
    fun k s hc hk => ?_⟩
  · subst hu
    obtain ⟨⟨staged, roll, flashed, tail, rollAt, -⟩, counted, mode⟩ := s.flushEnded_effect n
    obtain ⟨staged', roll', flashed', tail', rollAt', -⟩ := (s.flushEnded n).log.startFlush_standing (s.flushEnded n).flushesOn
    exact ⟨staged'.trans staged, roll'.trans roll, flashed'.trans flashed, tail'.trans tail, rollAt'.trans rollAt, counted, mode⟩
  · have idle : (s.log.flushing.isSome || s.log.staged.isEmpty) = false := by simp [hf, hs]
    rw [Logbook.startFlush, if_neg (Bool.eq_false_iff.mp idle)]
  · have payload := logPayload_full (w32 n :: (lohi t0 ++ lohi t1)) (by simp [lohi]) (by simp [lohi])
    exact State.logRec_staged { s with log := { s.log with dropped := none } } LogT.overflow Src.log Cls.minor _ hc hm (by rw [payload]; exact hu)
  · refine ⟨_, congrArg Host.Outcome.next (if_neg (by simp [hc])), ?_⟩
    rw [hk]
    exact ⟨rfl, rfl, rfl, rfl⟩

end Sys2Proof
end

section
namespace Sys2Proof.Machine

/-! ## Every command answers (R554) -/

theorem waiting_notMem_mayTouch (i : Instr) : Part.waiting ∉ mayTouch i := by
  have absent : (mayTouch i).contains .waiting = false := by cases i <;> rfl
  simpa using absent

/-- But for JTAG_INSTRUCTION each command's definition is one next state. -/
theorem exec_answers (i : Instr) (s : State) (h : ∀ j, i ≠ .jtagInstruction j) : ∃ t, exec i s = .next t := by
  cases i with
  | jtagInstruction j => exact absurd rfl (h j)
  | _ => exact ⟨_, rfl⟩

theorem exec_jtagInstruction_answers (j : JtagInstr) (s : State)
    (h : s.pwr.aon = true → s.pwr.mfgTestN = false → j ≠ .extest ∧ j ≠ .scan) : ∃ t, exec (.jtagInstruction j) s = .next t := by
  simp only [exec, execJtagInstruction]
  cases aon : s.pwr.aon with
  | false => exact ⟨s, rfl⟩
  | true =>
    cases test : s.pwr.mfgTestN with
    | true => cases j <;> exact ⟨_, rfl⟩
    | false =>
      obtain ⟨noExtest, noScan⟩ := h aon test
      cases j with
      | extest => exact absurd rfl noExtest
      | scan => exact absurd rfl noScan
      | _ => exact ⟨_, rfl⟩

end Sys2Proof.Machine
end

section
namespace Sys2Proof
open Sys2Proof.Machine

/-- Settles O3: each command answers a next state, and `exec_touches` says that it leaves the queue. -/
theorem everyCommandCompletes : Obligations.EveryCommandCompletes := by
  refine ⟨fun i s h => ?_, fun s ha ht => ⟨?_, ?_⟩⟩
  · have answers : ∃ t, exec i s = .next t := by
      by_cases hj : ∃ j, i = .jtagInstruction j
      · obtain ⟨j, rfl⟩ := hj
        exact exec_jtagInstruction_answers j s fun ha ht => by simpa using h ha ht
      · exact exec_answers i s fun j e => hj ⟨j, e⟩
    obtain ⟨t, run⟩ := answers
    have kept := exec_touches i s t run .waiting
    rw [if_neg (waiting_notMem_mayTouch i)] at kept
    exact ⟨t, run, kept⟩
  · simp only [exec, execJtagInstruction, ha, ht]
    rfl
  · simp only [exec, execJtagInstruction, ha, ht]
    rfl

end Sys2Proof
end

section
namespace Sys2Proof.Machine

/-! ## Queries (R420, R425 to R443) -/

/-- A command that is a query, taken by its mailbox with the defined length, does nothing but answer. -/
theorem query_gives {i : Instr} {s : State} {m : Mbx} {c : CmdSpec} {lenOk : Bool} {body : State → Reply} {r : Reply}
    (run : exec i s = .next (s.query m c lenOk body)) (ht : s.takes m c = true) (hl : lenOk = true)
    (hb : body (s.openJob m c false) = r) : Gives i s (fun t => t = s.answered m c.opcode r) :=
  ⟨_, run, s.query_takes m c body r lenOk hl ht hb⟩

theorem query_gives_some {i : Instr} {s : State} {m : Mbx} {c : CmdSpec} {lenOk : Bool} {body : State → Reply} {out : List Word}
    (run : exec i s = .next (s.query m c lenOk body)) (ht : s.takes m c = true) (hl : lenOk = true)
    (hb : body (s.openJob m c false) = .ok out) : Gives i s (fun t => ∃ out, t = s.answered m c.opcode (.ok out)) :=
  ⟨_, run, out, s.query_takes m c body _ lenOk hl ht hb⟩

/-- A query of the FM API, by the mailbox of an FM-owned LD (R379). -/
theorem State.fmCommand_answers (s u : State) (m : Mbx) (op : Nat) (body : State → State × Reply) (r : Reply)
    (ht : s.takes m ⟨op, false, false, false, false⟩ = true) (hf : 32 ≤ m.fn)
    (hb : body (s.openJob m ⟨op, false, false, false, false⟩ false) = (u.openJob m ⟨op, false, false, false, false⟩ false, r))
    (hg : u.tagNow = s.tagNow) (hj : u.cmd.jobs = s.cmd.jobs) : s.fmCommand m op body = u.answered m op r :=
  s.simple_answered u m ⟨op, false, false, false, false⟩ _ r true rfl ht ((if_neg (Nat.not_lt.mpr hf)).trans hb) hg hj

theorem State.openJob_limitedTo (s : State) (m n : Mbx) (c : CmdSpec) (b : Bool) : (s.openJob m c b).limitedTo n = s.limitedTo n := rfl

theorem State.openJob_func (s : State) (m : Mbx) (c : CmdSpec) (b : Bool) (i : Nat) : (s.openJob m c b).func i = s.func i := rfl

theorem State.openJob_tier (s : State) (m : Mbx) (c : CmdSpec) (b : Bool) : (s.openJob m c b).tier = s.tier := rfl

/-- What SCHED_STATUS answers of a schedule (R433). -/
def State.schedWords (s : State) (c : Sched) (id : Nat) : List Word :=
  let staged := ((c.window.flatMap (s.stepExtents c)).eraseDups.filter (fun x => (s.placeOf x).1 && (s.moveOf x).isNone)).length
  [w32 (id + c.lead * 2 ^ 16 + bit c.loop * 2 ^ 24), w32 c.steps.length, w32 c.runs.length, 0] ++ lohi (64 * c.doorbell) ++
    lohi (c.subst + staged * 2 ^ 40) ++ lohi (s.schedStatus c).toNat ++ [w32 c.triggers, w32 c.lates]

theorem exec_unsupportedOpcode (m : Mbx) (opcode : Nat) (s : State) (hn : ((stdOps ++ tilmaOps).all (fun c => c.1 != opcode)) = true)
    (hf : opcode ∉ fmOps) : exec (.unsupportedOpcode m opcode) s = .next (s.query m (.all opcode) true (fun _ => .unsupported)) := by
  have unlisted : ((stdOps ++ tilmaOps).any (fun c => c.1 == opcode) || fmOps.contains opcode) = false := by
    rw [Bool.or_eq_false_iff, List.any_eq_false]
    exact ⟨fun c hc => by simpa using List.all_eq_true.mp hn c hc, by simpa using hf⟩
  exact congrArg Host.Outcome.next (if_neg (Bool.eq_false_iff.mp unlisted))

end Sys2Proof.Machine
end

section
namespace Sys2Proof
open Sys2Proof.Machine

/-- Settles O21: each command is a query, whose output does not rest on the job opened for it. -/
theorem queriesAnswer : Obligations.QueriesAnswer := by
  refine ⟨fun m inp s ht hl => query_gives rfl ht (by simp [hl]) rfl,
    fun m inp s ht hl => query_gives_some rfl ht (by simp [hl]) rfl,
    fun m inp s ht hl => query_gives rfl ht (by simp [hl]) rfl,
    fun m inp s ht hl => query_gives rfl ht (by simp [hl]) rfl,
    fun m inp s ht hl => query_gives rfl ht (by simp [hl]) rfl,
    fun m inp s ht hl hm hs => ?_,
    fun m inp s ht hl hx => query_gives rfl ht (by simp [hl]) (if_neg (Nat.not_le.mpr hx)),
    fun m inp s ht hl => query_gives_some rfl ht (by simp [hl]) rfl,
    fun m inp s ht hl => query_gives rfl ht (by simp [hl]) rfl,
    fun m inp s ht hl => query_gives_some rfl ht (by simp [hl]) rfl,
    fun m inp s ht hl => query_gives_some rfl ht (by simp [hl]) rfl,
    fun m inp s ht hl => query_gives rfl ht (by simp [hl]) rfl,
    fun m inp s ht hl => query_gives rfl ht (by simp [hl]) rfl,
    fun m inp s ht hl => query_gives_some rfl ht (by simp [hl]) rfl,
    fun m inp s ht hl => query_gives_some rfl ht (by simp [hl]) rfl,
    fun m inp s ht hl => query_gives_some rfl ht (by simp [hl]) rfl,
    fun m inp s ht hl => ?_,
    fun m inp s ht hl => query_gives_some rfl ht (by simp [hl]) rfl,
    fun m inp i s ht hl hi => query_gives_some rfl ht (by simp [hl]) (by rw [hi]),
    fun m inp i s ht hl hi => query_gives_some rfl ht (by simp [hl]) (by rw [hi]),
    fun m inp i s ht hl hi => query_gives_some rfl ht (by simp [hl]) (by rw [hi]),
    fun m inp s ht hl h1 => query_gives_some rfl ht (by simp [hl]) (if_neg (not_not_intro h1)),
    fun m inp s ht hl => query_gives_some rfl ht (by simp [hl]) rfl,
    fun m inp s ht hl => query_gives_some rfl ht (by simp [hl]) rfl,
    fun m inp s ht hl => query_gives_some rfl ht (by simp [hl]) rfl,
    fun m inp s ht hl => query_gives_some rfl ht (by simp [hl]) rfl,
    fun m log s ht hk => query_gives rfl ht rfl (if_neg (Nat.not_le.mpr hk)),
    fun m s ht => query_gives rfl ht rfl rfl,
    fun m s ht => query_gives_some rfl ht rfl rfl,
    fun m s ht => query_gives rfl ht rfl rfl,
    fun m s ht => query_gives rfl ht rfl rfl,
    fun m offset length s ht ho hn hb => query_gives rfl ht rfl ?_,
    fun m s ht => query_gives rfl ht rfl rfl,
    fun m s ht => query_gives rfl ht rfl rfl,
    fun m s ht => query_gives rfl ht rfl rfl,
    fun m s ht => query_gives rfl ht rfl rfl,
    fun m dirty s ht => query_gives rfl ht rfl rfl,
    fun m dpa length s ht => query_gives rfl ht rfl rfl,
    fun m s ht => query_gives rfl ht rfl rfl,
    fun m l s ht hs => query_gives rfl ht rfl ?_,
    fun m s ht hf => ⟨_, rfl, s.fmCommand_answers s m 0x5400 _ _ ht hf rfl rfl rfl⟩,
    fun m start limit s ht hf => ⟨_, rfl, s.fmCommand_answers s m 0x5401 _ _ ht hf rfl rfl rfl⟩,
    fun m opcode s ht hn hf => query_gives (exec_unsupportedOpcode m opcode s hn hf) ht rfl rfl⟩
  · obtain ⟨c, hc⟩ := Option.isSome_iff_exists.mp hs
    refine ⟨_, rfl, s.schedWords c ((wordAt inp 0).field 9 0), s.query_takes m _ _ _ _ (by simp [hl]) ht ?_⟩
    dsimp only
    rw [s.openJob_tier, hc, s.openJob_limitedTo, hm]
    rfl
  · cases hm : s.limitedTo m with
    | none => exact query_gives_some rfl ht (by simp [hl]) (by rw [s.openJob_limitedTo, hm])
    | some ld => exact query_gives_some rfl ht (by simp [hl]) (by rw [s.openJob_limitedTo, hm])
  · have fits : (decide (offset % 4 ≠ 0) || decide (length % 4 ≠ 0) || decide (4 * (s.cel m).length < offset + length)) = false := by
      simp [ho, hn, Nat.not_lt.mpr hb]
    exact if_neg (Bool.eq_false_iff.mp fits)
  · rw [s.openJob_func, hs]

end Sys2Proof
end

section
namespace Sys2Proof.Machine

/-! ## Standard settings (R371, R379, R426) -/

/-- A command that answers at once and touches no job, by its effect on the registers and the rest. -/
theorem State.simple_effect (s u : State) (m : Mbx) (c : CmdSpec) (body : State → State × Reply) (r : Reply) (ht : s.takes m c = true)
    (hb : body (s.openJob m c false) = ({ u with cmd := (s.openJob m c false).cmd }, r)) (hc : u.cmd = s.cmd) :
    s.simple m c true body = u.answered m c.opcode r := by
  rw [State.simple_takes s _ m c body r ht hb rfl]
  simp only [State.openJob, State.answered, ← hc]

theorem exec_clearEventRecords (m : Mbx) (log count : Nat) (s : State) (ht : s.takes m (.all 0x0101) = true) (hl : log < 4)
    (hn : count ≤ ((s.func m.fn).log log).recs.length) : exec (.clearEventRecords m log count) s =
      .next (State.answered (s.setFunc m.fn ((s.func m.fn).setLog log
        (if count = 0 then {} else { (s.func m.fn).log log with recs := ((s.func m.fn).log log).recs.drop count }))) m 0x0101 (.ok [])) := by
  have fits : (decide (4 ≤ log) || decide (((s.func m.fn).log log).recs.length < count)) = false := by
    rw [decide_eq_false (Nat.not_le.mpr hl), decide_eq_false (Nat.not_lt.mpr hn)]; rfl
  exact congrArg _ (s.simple_answered (s.setFunc m.fn _) m (.all 0x0101) _ (.ok []) true rfl ht (if_neg (Bool.eq_false_iff.mp fits)) rfl rfl)

theorem exec_setEventInterruptPolicy (m : Mbx) (vectors : List (Option Nat)) (s : State) (ht : s.takes m (.all 0x0103) = true)
    (hl : vectors.length = 4) (hv : ∀ v ∈ vectors, v.all (fun n => decide (2 ≤ n) && decide (n ≤ 63)) = true) :
    exec (.setEventInterruptPolicy m vectors) s =
      .next (State.answered (s.setFunc m.fn { s.func m.fn with policy := vectors }) m 0x0103 (.ok [])) := by
  refine congrArg _ (s.simple_answered (s.setFunc m.fn _) m (.all 0x0103) _ (.ok []) true rfl ht (if_pos ?_) rfl rfl)
  rw [Bool.and_eq_true, List.all_eq_true]
  refine ⟨decide_eq_true hl, fun v hm => ?_⟩
  cases v with
  | none => rfl
  | some n => exact hv _ hm

/-- An offset of the free-running device time to a value makes TIM_STAMP read the value. -/
theorem stamp_of_offset (now ns off : Nat) (h : off = (ns % 2 ^ 64 + 2 ^ 64 - now % 2 ^ 64) % 2 ^ 64) :
    (now + (w32 off).toNat + (w32 (off / 2 ^ 32)).toNat * 2 ^ 32) % 2 ^ 64 = ns % 2 ^ 64 := by
  simp only [w32, BitVec.toNat_ofNat]
  omega

/-- The state with TIM_STAMP offset from device time (R20). -/
def State.offsetStamp (s : State) (off : Nat) : State :=
  (s.setReg Reg.TIM_STAMP_LO (w32 off)).setReg Reg.TIM_STAMP_HI (w32 (off / 2 ^ 32))

theorem State.stamp_offsetStamp (s : State) (off : Nat) :
    (s.offsetStamp off).stamp = (s.now + (w32 off).toNat + (w32 (off / 2 ^ 32)).toNat * 2 ^ 32) % 2 ^ 64 := by
  have low : (s.offsetStamp off).reg Reg.TIM_STAMP_LO = w32 off :=
    (State.reg_setReg_other _ _ _ _ (by decide)).trans (State.reg_setReg_self _ _ _)
  have high : (s.offsetStamp off).reg Reg.TIM_STAMP_HI = w32 (off / 2 ^ 32) := State.reg_setReg_self _ _ _
  have now : (s.offsetStamp off).now = s.now := rfl
  rw [State.stamp, low, high, now]

theorem State.offsetStamp_answered (s : State) (m : Mbx) (off : Nat) : let t := (s.offsetStamp off).answered m 0x0301 (.ok [])
    t.stamp = (s.now + (w32 off).toNat + (w32 (off / 2 ^ 32)).toNat * 2 ^ 32) % 2 ^ 64 ∧ t.tim = s.tim ∧ t.mode = s.mode ∧
      t.ctr Ctr.MBX_CNT_CMD = s.ctr Ctr.MBX_CNT_CMD + 1 := by
  refine ⟨?_, by simp [State.answered, State.offsetStamp], by simp [State.answered, State.offsetStamp], State.ctr_bump_self _ _⟩
  rw [← s.stamp_offsetStamp off]
  simp [State.answered, State.stamp, State.now, State.reg]

/-- A command that offsets TIM_STAMP by what it reckons from device time. -/
theorem State.stampCommand_takes (s : State) (m : Mbx) (off : Nat → Nat) (ht : s.takes m (.priv 0x0301) = true) :
    s.simple m (.priv 0x0301) true (fun u => (u.offsetStamp (off u.now), .ok [])) = (s.offsetStamp (off s.now)).answered m 0x0301 (.ok []) :=
  s.simple_effect (s.offsetStamp _) m (.priv 0x0301) _ (.ok []) ht rfl rfl

theorem exec_setTimestamp (m : Mbx) (ns : Nat) (s : State) (ht : s.takes m (.priv 0x0301) = true) : exec (.setTimestamp m ns) s =
    .next (State.answered (s.offsetStamp ((ns % 2 ^ 64 + 2 ^ 64 - s.now % 2 ^ 64) % 2 ^ 64)) m 0x0301 (.ok [])) := by
  rw [← s.stampCommand_takes m (fun now => (ns % 2 ^ 64 + 2 ^ 64 - now % 2 ^ 64) % 2 ^ 64) ht]
  simp only [exec, execSetTimestamp, State.offsetStamp]

/-- A span rests on the registers alone, and changes nothing else. -/
theorem State.foldl_setSpan (p : Nat) (spans : List (Nat × Nat)) (s : State) :
    spans.foldl (fun u c => u.setSpan (16 * p + c.1) c.2) s =
      { s with regs := (spans.foldl (fun (u : State) c => u.setSpan (16 * p + c.1) c.2) s).regs } := by
  refine List.foldlRecOn spans _ (motive := fun t : State => t = { s with regs := t.regs }) rfl fun t only c _ => ?_
  rw [only]
  rfl

theorem State.foldl_setSpan_regs (p : Nat) (spans : List (Nat × Nat)) (s u : State) (h : s.regs = u.regs) :
    (spans.foldl (fun (u : State) c => u.setSpan (16 * p + c.1) c.2) s).regs =
      (spans.foldl (fun (u : State) c => u.setSpan (16 * p + c.1) c.2) u).regs := by
  induction spans generalizing s u with
  | nil => exact h
  | cons c rest ih => exact ih _ _ (by simp only [State.setSpan, State.setFld, State.setReg, State.reg, h])

theorem exec_setLdAllocations (m : Mbx) (spans : List (Nat × Nat)) (s : State) (ht : s.takes m ⟨0x5402, false, false, false, false⟩ = true)
    (hf : 32 ≤ m.fn) (ho : (spans.all (fun c => decide (c.1 < 16) && s.spanOk (16 * (m.fn - 32) + c.1) c.2)) = true) :
    exec (.setLdAllocations m spans) s = .next (State.answered
      { s with regs := (spans.foldl (fun (u : State) c => u.setSpan (16 * (m.fn - 32) + c.1) c.2) s).regs } m 0x5402 (.ok [])) := by
  refine congrArg Host.Outcome.next
    (s.simple_effect _ m ⟨0x5402, false, false, false, false⟩ _ (.ok []) ht ((if_neg (Nat.not_lt.mpr hf)).trans ((if_pos ho).trans ?_)) rfl)
  rw [State.foldl_setSpan, State.foldl_setSpan_regs (m.fn - 32) spans (s.openJob m _ false) s rfl]
  rfl

end Sys2Proof.Machine
end

section
namespace Sys2Proof
open Sys2Proof.Machine

/-- Settles O22: each command is its effect and its answer, and a span rests on the registers alone. -/
theorem standardSettings : Obligations.StandardSettings := by
  refine ⟨fun m log count s ht hl hn => ⟨_, exec_clearEventRecords m log count s ht hl hn, rfl⟩,
    fun m vectors s ht hl hv => ⟨_, exec_setEventInterruptPolicy m vectors s ht hl hv, rfl⟩,
    fun m ns s ht => ⟨_, exec_setTimestamp m ns s ht, ?_⟩,
    fun m life temp s ht => ⟨_, congrArg Host.Outcome.next (s.simple_answered { s with cmd := { s.cmd with alert := (life, temp) } } m (.priv 0x4202) _ (.ok []) true rfl ht rfl rfl rfl), rfl⟩,
    fun m s ht => ⟨_, congrArg Host.Outcome.next (s.simple_answered s.freed m (.all 0x4200) _ _ true rfl ht rfl rfl rfl), rfl⟩,
    fun m spans s ht hf ho => ⟨_, exec_setLdAllocations m spans s ht hf ho, rfl, by simp [State.answered], ?_⟩⟩
  · generalize ho : (ns % 2 ^ 64 + 2 ^ 64 - s.now % 2 ^ 64) % 2 ^ 64 = off
    obtain ⟨stamp, kept⟩ := s.offsetStamp_answered m off
    exact ⟨stamp.trans (stamp_of_offset s.now ns off ho.symm), kept⟩
  · rw [State.answered, State.answer_out]
    rfl

end Sys2Proof
end

section
namespace Sys2Proof.Machine

/-! ## P commands in the foreground without a twin (R421, R423) -/

/-- A foreground P command that runs alone runs its body, and its entry then waits for this side alone or for nothing. -/
theorem State.pCommand_runs (s : State) (m : Mbx) (c : CmdSpec) (inp : List Word) (body : Option Nat → Nat → State → State × Reply)
    (ht : s.takes m c = true) (ha : s.solitary = true) : s.pCommand m c true false inp body =
      (s.openJob m c false).replRun s.tagNow c.opcode (s.limitedTo m) inp .own (body (s.limitedTo m)) := by
  obtain ⟨alone, -⟩ := s.solitary_iff.mp ha
  rw [State.pCommand, State.command_takes s m c _ ht]
  have here : (s.openJob m c false).replicates = false := alone
  simp only [State.runJob, here, Bool.false_and, Bool.false_eq_true, if_false]
  rfl

/-- A foreground P command that runs alone and whose body succeeds. -/
theorem State.pCommand_foreground (s u : State) (m : Mbx) (c : CmdSpec) (inp : List Word) (body : Option Nat → Nat → State → State × Reply)
    (r : Reply) (ht : s.takes m c = true) (ha : s.solitary = true) (hb : body (s.limitedTo m) s.tagNow (s.openJob m c false) = (u, r))
    (h0 : r.rc = 0) (hm : u.mode = s.mode) (hl : u.twl = s.twl) (hr : u.pair.record = s.pair.record) :
    s.pCommand m c true false inp body = (u.ranOwn s.tagNow c.opcode r).replTry s.tagNow := by
  obtain ⟨alone, unrecorded, -⟩ := s.solitary_iff.mp ha
  rw [s.pCommand_runs m c inp body ht ha]
  exact State.replRun_alone _ u _ _ _ inp (body (s.limitedTo m)) r hb h0 ((State.replicates_of s u hm hl).trans alone) (hr.trans unrecorded)

/-- A command waits while a revocation of its tag goes on (R359). -/
theorem State.replTry_revoking (s : State) (tag : Nat) (h : s.net.revs.any (fun r => r.tag == tag) = true) : s.replTry tag = s := by
  unfold State.replTry
  split
  · rfl
  · simp [State.replLocal, h]

/-- The job of a foreground P command is open after its body. -/
theorem State.ranOwn_openJob (s u : State) (m : Mbx) (c : CmdSpec) (r : Reply) (hc : u.cmd = (s.openJob m c false).cmd) :
    (u.ranOwn s.tagNow c.opcode r).cmd.jobs.any (fun j => j.tag == s.tagNow && j.opcode == c.opcode && j.done.isNone) = true := by
  have jobs : u.cmd.jobs = s.cmd.jobs ++ [⟨m, c.opcode, s.tagNow, c.cfg, false, false, false, none⟩] := by rw [hc]; rfl
  simp [State.ranOwn, State.commitJob, State.setJob, jobs]

/-- The state with the entry of a P command of this side's own that was refused: there is nothing for a twin to do (R423). -/
def State.refused (s : State) (tag op : Nat) (r : Reply) : State :=
  { s with cmd := { s.cmd with repl := s.cmd.repl ++ [⟨tag, op, .own, true, (r.rc, r.ext, r.out)⟩] } }

theorem State.replRun_refused (s u : State) (tag op : Nat) (ld : Option Nat) (inp : List Word) (body : Nat → State → State × Reply) (r : Reply)
    (hb : body tag s = (u, r)) (h0 : r.rc ≠ 0) : s.replRun tag op ld inp .own body = (u.refused tag op r).replTry tag := by
  have fails : (r.rc != 0) = true := by simpa using h0
  simp only [State.replRun, hb, h0, fails, decide_false, Bool.and_false, Bool.false_and, Bool.false_eq_true, Bool.or_true, if_true, if_false,
    State.refused]

/-- An entry of this side's own that waits for nothing completes its command. -/
theorem State.replTry_completes (s : State) (e : Repl) (hf : s.cmd.repl.find? (fun r => r.tag == e.tag && r.role != .carried) = some e)
    (hr : e.role = .own) (hd : e.twinDone = true) (hn : ∀ f ∈ s.addr.fences, f.tag ≠ e.tag) (hv : ∀ r ∈ s.net.revs, r.tag ≠ e.tag)
    (hw : ∀ a ∈ s.pair.attrWait, a.1 ≠ e.tag) : s.replTry e.tag =
      State.finish { s with cmd := { s.cmd with repl := s.cmd.repl.filter (fun q => q.tag != e.tag || q.role == .carried) } } e.tag
        ⟨e.answer.1, e.answer.2.1, e.answer.2.2⟩ := by
  have unfenced : s.addr.fences.any (fun f => f.tag == e.tag) = false := List.any_eq_false.mpr fun f hf => by simpa using hn f hf
  have unfencedHere : s.addr.fences.any (fun f => f.tag == e.tag && !f.localDone) = false :=
    List.any_eq_false.mpr fun f hf => by simp [hn f hf]
  have drained : s.net.revs.any (fun r => r.tag == e.tag) = false := List.any_eq_false.mpr fun r hr => by simpa using hv r hr
  have written : s.pair.attrWait.any (fun a => a.1 == e.tag) = false := List.any_eq_false.mpr fun a ha => by simpa using hw a ha
  have kept : s.addr.fences.filter (fun f => f.tag != e.tag) = s.addr.fences := List.filter_eq_self.mpr fun f hf => by simpa using hn f hf
  have here : s.replLocal e.tag = true := by rw [State.replLocal, unfencedHere, drained, written]; rfl
  simp only [State.replTry, hf, hd, here, unfenced, kept, Bool.and_self, if_true, Bool.false_eq_true, if_false, State.replEnd, hr]

/-- A foreground P command that runs alone and is refused: what its body has left, and the refusal. -/
theorem State.pCommand_refused (s u : State) (m : Mbx) (c : CmdSpec) (inp : List Word) (body : Option Nat → Nat → State → State × Reply)
    (r : Reply) (lenOk : Bool) (hl : lenOk = true) (ht : s.takes m c = true) (ha : s.solitary = true)
    (hb : body (s.limitedTo m) s.tagNow (s.openJob m c false) = (u, r))
    (h0 : r.rc ≠ 0) (hc : u.cmd = (s.openJob m c false).cmd) (hf : u.addr = s.addr) (hv : u.net = s.net) (hw : u.pair = s.pair) :
    s.pCommand m c lenOk false inp body = { u with cmd := { u.cmd with jobs := s.cmd.jobs } }.answer m c.opcode r := by
  subst hl
  obtain ⟨-, -, tags, fences, revs, waits⟩ := s.solitary_iff.mp ha
  have entries : u.cmd.repl = s.cmd.repl := by rw [hc]; rfl
  have unused : s.cmd.repl.find? (fun r => r.tag == s.tagNow && r.role != .carried) = none := by
    simpa using fun q hq e => absurd e (tags q hq)
  have gone : (u.refused s.tagNow c.opcode r).cmd.repl.filter (fun q => q.tag != s.tagNow || q.role == .carried) = u.cmd.repl := by
    simp only [State.refused, entries, List.filter_append]
    rw [List.filter_eq_self.mpr (fun q hq => by simp [tags q hq])]
    simp [beq_eq_false_iff_ne.mpr (show ReplRole.own ≠ ReplRole.carried from nofun)]
  rw [s.pCommand_runs m c inp body ht ha, State.replRun_refused _ u _ _ _ inp (body (s.limitedTo m)) r hb h0]
  rw [State.replTry_completes (u.refused s.tagNow c.opcode r) ⟨s.tagNow, c.opcode, .own, true, (r.rc, r.ext, r.out)⟩
    (by simp [State.refused, entries, unused]) rfl rfl (by rw [← hf] at fences; exact fences) (by rw [← hv] at revs; exact revs)
    (by rw [← hw] at waits; exact waits), gone]
  refine (State.finish_new s _ m c r false (s.takes_fresh m c ht) (by rw [State.refused, hc]; rfl)).trans ?_
  rfl

theorem State.ctr_answer_other (s : State) (m : Mbx) (op a : Nat) (r : Reply) (hc : Ctr.MBX_CNT_CMD ≠ a) (hb : Ctr.MBX_CNT_BUSY ≠ a)
    (hn : Ctr.MBX_CNT_NOPRIV ≠ a) : (s.answer m op r).ctr a = s.ctr a := by
  have busy (t : State) (p : Prop) [Decidable p] : (if p then t.bump Ctr.MBX_CNT_BUSY else t).ctr a = t.ctr a := by
    split
    · exact State.ctr_bump_other t _ _ hb
    · rfl
  have unprivileged (t : State) (p : Prop) [Decidable p] : (if p then t.bump Ctr.MBX_CNT_NOPRIV else t).ctr a = t.ctr a := by
    split
    · exact State.ctr_bump_other t _ _ hn
    · rfl
  exact (unprivileged _ _).trans ((busy _ _).trans (State.ctr_bump_other s _ _ hc))

/-! ## Key slots (R439 to R441) -/

theorem exec_keyslotGenerate (m : Mbx) (inp : List Word) (s : State) (ht : s.takes m ⟨0xC911, false, true, true, false⟩ = true)
    (ha : s.solitary = true) (hl : m.len = 4) (he : s.slotEmpty (wordAt inp 0) = true) : exec (.keyslotGenerate m inp) s =
      .next (((s.freed.putKey ((wordAt inp 0).field 11 0) (Config.randomKey s.fresh)).1).answered m 0xC911
        (.ok [Config.keyTag (Config.randomKey s.fresh)])) := by
  have empty : (!(s.openJob m ⟨0xC911, false, true, true, false⟩ false).slotEmpty (wordAt inp 0)) = false := congrArg not he
  exact congrArg _ (s.pCommand_answered (s.freed.putKey _ _).1 m _ inp _ _ _ (by simp [hl]) ht ha (if_neg (Bool.eq_false_iff.mp empty))
    rfl rfl rfl rfl rfl rfl rfl rfl rfl)

theorem exec_keyslotClear (m : Mbx) (inp : List Word) (s : State) (ht : s.takes m ⟨0xC912, false, true, true, false⟩ = true)
    (ha : s.solitary = true) (hl : m.len = 4) (h0 : (wordAt inp 0).field 31 12 = 0) (hk : (wordAt inp 0).field 11 0 ≠ 0)
    (hr : s.addr.regions.values.any (fun r => r.keySlot == (wordAt inp 0).field 11 0) = false) : exec (.keyslotClear m inp) s =
      .next (State.answered (State.saveKeys { s with cmd := { s.cmd with keys := s.cmd.keys.erase ((wordAt inp 0).field 11 0) } })
        m 0xC912 (.ok [])) := by
  have free : (decide ((wordAt inp 0).field 31 12 ≠ 0) || decide ((wordAt inp 0).field 11 0 = 0) ||
      s.addr.regions.values.any (fun r => r.keySlot == (wordAt inp 0).field 11 0)) = false := by simp [h0, hk, hr]
  exact congrArg _ (s.pCommand_answered (State.saveKeys { s with cmd := { s.cmd with keys := s.cmd.keys.erase _ } }) m _ inp _ _ _
    (by simp [hl]) ht ha (if_neg (Bool.eq_false_iff.mp free)) rfl rfl rfl rfl rfl rfl rfl rfl rfl)

/-- KEYSLOT_LOAD of an empty slot goes by the point and by what the envelope holds (R441). -/
theorem State.keyslotLoad_offCurve {s : State} {inp : List Word} (hp : Config.pointOnCurve inp = false) :
    s.keyslotLoad none inp = (s, .invalid) := by
  simp [State.keyslotLoad, hp]

section
variable {s : State} {inp : List Word} (he : s.slotEmpty (wordAt inp 0) = true) (h1 : wordAt inp 1 = 0)
  (hp : Config.pointOnCurve inp = true) (m : Mbx) (c : CmdSpec)
include he h1 hp

theorem State.openJob_keyslotLoad (k : BitVec 512) (hu : Config.unwrapKey s.ctrlId ((wordAt inp 0).field 11 0) inp = some k) :
    (s.openJob m c false).keyslotLoad none inp = ((s.putKey ((wordAt inp 0).field 11 0) k).1.openJob m c false, .ok [Config.keyTag k]) := by
  have empty : (s.openJob m c false).slotEmpty (wordAt inp 0) = true := he
  have id : (s.openJob m c false).ctrlId = s.ctrlId := rfl
  simp only [State.keyslotLoad, empty, h1, hp, id, hu, Bool.not_true, Bool.false_or, ne_eq, not_true_eq_false, decide_false, Bool.false_eq_true,
    if_false]
  rfl

theorem State.openJob_keyslotLoad_fails (hu : Config.unwrapKey s.ctrlId ((wordAt inp 0).field 11 0) inp = none) :
    (s.openJob m c false).keyslotLoad none inp = ((s.bump Ctr.CRY_CNT_UNWRAP_FAIL).openJob m c false, .cause 4) := by
  have empty : (s.openJob m c false).slotEmpty (wordAt inp 0) = true := he
  have id : (s.openJob m c false).ctrlId = s.ctrlId := rfl
  simp only [State.keyslotLoad, empty, h1, hp, id, hu, Bool.not_true, Bool.false_or, ne_eq, not_true_eq_false, decide_false, Bool.false_eq_true,
    if_false]
  rfl

end

theorem exec_keyslotLoad_unwraps (m : Mbx) (inp : List Word) (k : BitVec 512) (s : State)
    (ht : s.takes m ⟨0xC910, false, true, true, false⟩ = true) (ha : s.solitary = true) (hl : m.len = 184)
    (he : s.slotEmpty (wordAt inp 0) = true) (h1 : wordAt inp 1 = 0) (hp : Config.pointOnCurve inp = true)
    (hu : Config.unwrapKey s.ctrlId ((wordAt inp 0).field 11 0) inp = some k) : exec (.keyslotLoad m inp) s =
      .next ((s.putKey ((wordAt inp 0).field 11 0) k).1.answered m 0xC910 (.ok [Config.keyTag k])) := by
  exact congrArg Host.Outcome.next (s.pCommand_answered _ m ⟨0xC910, false, true, true, false⟩ inp (fun _ _ s => s.keyslotLoad none inp) _
    (m.len == 184) (by simp [hl]) ht ha (State.openJob_keyslotLoad he h1 hp m _ k hu) rfl rfl rfl rfl rfl rfl rfl rfl rfl)

theorem exec_keyslotLoad_fails (m : Mbx) (inp : List Word) (s : State)
    (ht : s.takes m ⟨0xC910, false, true, true, false⟩ = true) (ha : s.solitary = true) (hl : m.len = 184)
    (he : s.slotEmpty (wordAt inp 0) = true) (h1 : wordAt inp 1 = 0) (hp : Config.pointOnCurve inp = true)
    (hu : Config.unwrapKey s.ctrlId ((wordAt inp 0).field 11 0) inp = none) : exec (.keyslotLoad m inp) s =
      .next (State.answered (s.bump Ctr.CRY_CNT_UNWRAP_FAIL) m 0xC910 (.cause 4)) := by
  refine congrArg Host.Outcome.next ((s.pCommand_refused _ m ⟨0xC910, false, true, true, false⟩ inp (fun _ _ s => s.keyslotLoad none inp) _
    (m.len == 184) (by simp [hl]) ht ha (State.openJob_keyslotLoad_fails he h1 hp m _ hu) nofun rfl rfl rfl rfl).trans ?_)
  rfl

/-- An envelope that does not unwrap is counted once. -/
theorem State.ctr_unwrapFailed (s : State) (m : Mbx) :
    (State.answered (s.bump Ctr.CRY_CNT_UNWRAP_FAIL) m 0xC910 (.cause 4)).ctr Ctr.CRY_CNT_UNWRAP_FAIL = s.ctr Ctr.CRY_CNT_UNWRAP_FAIL + 1 := by
  rw [State.answered, State.ctr_answer_other _ m 0xC910 Ctr.CRY_CNT_UNWRAP_FAIL (.cause 4) (by decide) (by decide) (by decide)]
  exact State.ctr_of_bump rfl

theorem exec_keyslotLoad_offCurve (m : Mbx) (inp : List Word) (s : State)
    (ht : s.takes m ⟨0xC910, false, true, true, false⟩ = true) (ha : s.solitary = true) (hl : m.len = 184)
    (hp : Config.pointOnCurve inp = false) : exec (.keyslotLoad m inp) s = .next (s.answered m 0xC910 .invalid) := by
  refine congrArg Host.Outcome.next ((s.pCommand_refused _ m ⟨0xC910, false, true, true, false⟩ inp (fun _ _ s => s.keyslotLoad none inp) _
    (m.len == 184) (by simp [hl]) ht ha (State.keyslotLoad_offCurve (inp := inp) hp) nofun rfl rfl rfl rfl).trans ?_)
  rfl

end Sys2Proof.Machine
end

section
namespace Sys2Proof
open Sys2Proof.Machine

/-- Settles O33: each command is its body's effect and its answer, a refusal too. -/
theorem keySlots : Obligations.KeySlots := by
  refine ⟨fun m inp s ht ha hl he => ⟨_, exec_keyslotGenerate m inp s ht ha hl he, rfl⟩, fun m inp s ht ha hl he h1 => ?_,
    fun m inp s ht ha hl h0 hk hr => ⟨_, exec_keyslotClear m inp s ht ha hl h0 hk hr, rfl⟩⟩
  cases hp : Config.pointOnCurve inp with
  | false =>
    refine ⟨_, exec_keyslotLoad_offCurve m inp s ht ha hl hp, ?_⟩
    beta_reduce
    rw [if_neg Bool.false_ne_true, State.answered, State.answer_out]
    exact ⟨by simp, rfl⟩
  | true =>
    cases hu : Config.unwrapKey s.ctrlId ((wordAt inp 0).field 11 0) inp with
    | none =>
      refine ⟨_, exec_keyslotLoad_fails m inp s ht ha hl he h1 hp hu, ?_⟩
      have counted := s.ctr_unwrapFailed m
      beta_reduce
      rw [if_pos rfl]
      refine ⟨?_, counted, ?_⟩
      · simp [State.answered]
      · rw [State.answered, State.answer_out]
        rfl
    | some k =>
      refine ⟨_, exec_keyslotLoad_unwraps m inp k s ht ha hl he h1 hp hu, ?_⟩
      beta_reduce
      rw [if_pos rfl, State.answered, State.answer_out]
      exact ⟨by simp [State.putKey, State.saveKeys], by simp [State.putKey, State.saveKeys], rfl⟩

end Sys2Proof
end

section
namespace Sys2Proof.Machine

/-! ## Memory keys and protection domains (R344, R346, R359) -/

/-- KEY_REGISTER of an accepted range: the entry under a GEN that follows the last the index had. -/
theorem State.keyPut_registers (s : State) (x : Nat) (k : KeyEnt) : ∃ fresh gen, s.keyPut none x k =
    (State.saveNet { s with fresh := fresh, net := { s.net with keys := s.net.keys.insert x { k with gen := gen } } }, .ok [w32 (256 * x + gen)]) ∧
      gen < 256 ∧ ∀ o, s.net.keys.find? x = some o → gen = (o.gen + 1) % 256 := by
  cases hx : s.net.keys.find? x with
  | none =>
    refine ⟨s.fresh + 1, s.freeVal % 256, ?_, Nat.mod_lt _ (by decide), nofun⟩
    simp only [State.keyPut, State.keyGen, hx, State.freed]
  | some o =>
    refine ⟨s.fresh, (o.gen + 1) % 256, ?_, Nat.mod_lt _ (by decide), fun p hp => by rw [Option.some.inj hp]⟩
    simp only [State.keyPut, State.keyGen, hx]

theorem State.openJob_keyRegister (s : State) (m : Mbx) (c : CmdSpec) (ld : Option Nat) (inp : List Word) (x : Nat) (k : KeyEnt)
    (h : s.keyTarget ld none inp = some (x, k)) : ∃ fresh gen, (s.openJob m c false).keyRegister ld none inp =
      (State.openJob (State.saveNet { s with fresh := fresh, net := { s.net with keys := s.net.keys.insert x { k with gen := gen } } }) m c false,
        .ok [w32 (256 * x + gen)]) ∧ gen < 256 ∧ ∀ o, s.net.keys.find? x = some o → gen = (o.gen + 1) % 256 := by
  have target : (s.openJob m c false).keyTarget ld none inp = some (x, k) := h
  obtain ⟨fresh, gen, put, small, next⟩ := (s.openJob m c false).keyPut_registers x k
  refine ⟨fresh, gen, ?_, small, next⟩
  simp only [State.keyRegister, target, put]
  rfl

/-- A step from the waiting of a revocation leaves keys, domains and the tags of the revocations as they were (R359, R360). -/
theorem State.revokeAdvance_effect (s : State) : ∃ n : Net, s.revokeAdvance = { s with net := n } ∧ n.keys = s.net.keys ∧
    n.domains = s.net.domains ∧ ∀ tag what, n.revs.any (fun r => r.tag == tag && r.what == what) = s.net.revs.any (fun r => r.tag == tag && r.what == what) := by
  unfold State.revokeAdvance
  dsimp only
  split
  · refine ⟨_, rfl, rfl, rfl, fun tag what => ?_⟩
    rw [List.any_map]
    refine congrArg (s.net.revs.any ·) (funext fun r => ?_)
    simp only [Function.comp_apply]
    split <;> rfl
  · exact ⟨s.net, rfl, rfl, rfl, fun _ _ => rfl⟩

/-- A revocation begun has marked what it revokes and waits under its command's tag. -/
theorem State.revokeStart_effect (s : State) (w : RevokeWhat) (tag : Nat) : ∃ n : Net, s.revokeStart [w] tag = { s with net := n } ∧
    n.keys = (s.markRevoking w).net.keys ∧ n.domains = (s.markRevoking w).net.domains ∧
      n.revs.any (fun r => r.tag == tag && r.what == w) = true := by
  obtain ⟨n, advance, keys, domains, revs⟩ :=
    State.revokeAdvance_effect { s.markRevoking w with net := { (s.markRevoking w).net with revs := (s.markRevoking w).net.revs ++ [⟨w, none, tag⟩] } }
  refine ⟨n, ?_, keys, domains, ?_⟩
  · exact advance.trans (by cases w <;> rfl)
  · rw [revs, List.any_append]
    simp

theorem SMap.modify_found {α : Type} (m : SMap α) (k : Nat) (f : α → α) (v : α) (h : m.find? k = some v) : m.modify k f = m.insert k (f v) := by
  rw [SMap.modify, h]

theorem State.ranOwn_net (s : State) (tag op : Nat) (r : Reply) : (s.ranOwn tag op r).net = s.net := rfl

theorem State.ranOwn_vlt (s : State) (tag op : Nat) (r : Reply) : (s.ranOwn tag op r).vlt = s.vlt := rfl

/-- A foreground P command that runs alone and leaves a revocation to wait for stays open. -/
theorem State.pCommand_revokes (s : State) (m : Mbx) (c : CmdSpec) (inp : List Word) (body : Option Nat → Nat → State → State × Reply)
    (w : RevokeWhat) (lenOk : Bool) (hl : lenOk = true) (ht : s.takes m c = true) (ha : s.solitary = true)
    (hb : body (s.limitedTo m) s.tagNow (s.openJob m c false) = (((s.openJob m c false).revokeStart [w] s.tagNow).saveNet, .ok [])) :
    let t := s.pCommand m c lenOk false inp body
    t.net.keys = (s.markRevoking w).net.keys ∧ t.net.domains = (s.markRevoking w).net.domains ∧
      t.net.revs.any (fun r => r.tag == s.tagNow && r.what == w) = true ∧ t.vlt.nand.tables.memKeys = t.net.keys ∧
      t.vlt.nand.tables.domains = t.net.domains ∧
      t.cmd.jobs.any (fun j => j.tag == s.tagNow && j.opcode == c.opcode && j.done.isNone) = true ∧ t.out = s.out := by
  subst hl
  obtain ⟨n, start, keys, domains, revs⟩ := (s.openJob m c false).revokeStart_effect w s.tagNow
  have marked : (((s.openJob m c false).markRevoking w).net = (s.markRevoking w).net) := by cases w <;> rfl
  rw [marked] at keys domains
  rw [start] at hb
  have waits : n.revs.any (fun r => r.tag == s.tagNow) = true := by
    obtain ⟨r, hr, hw⟩ := List.any_eq_true.mp revs
    exact List.any_eq_true.mpr ⟨r, hr, (Bool.and_eq_true_iff.mp hw).1⟩
  rw [s.pCommand_foreground _ m c inp body (.ok []) ht ha hb rfl rfl rfl rfl, State.replTry_revoking _ _ waits]
  dsimp only
  generalize hu : State.saveNet { s.openJob m c false with net := n } = u
  have net : u.net = n := by rw [← hu]; rfl
  have saved : u.vlt.nand.tables.memKeys = n.keys ∧ u.vlt.nand.tables.domains = n.domains := by rw [← hu]; exact ⟨rfl, rfl⟩
  have out : u.out = s.out := by rw [← hu]; rfl
  have cmd : u.cmd = (s.openJob m c false).cmd := by rw [← hu]; rfl
  have opened := s.ranOwn_openJob u m c (.ok []) cmd
  simp only [State.ranOwn_net, State.ranOwn_vlt, State.ranOwn_out, net, saved, out]
  exact ⟨keys, domains, revs, trivial, trivial, opened, trivial⟩

/-- KEY_REVOKE of a VALID key with the GEN it has, by one that may (R359). -/
theorem State.keyRevoke_starts (s : State) (ld : Option Nat) (inp : List Word) (tag : Nat) (k : KeyEnt)
    (hk : s.net.keys.find? ((wordAt inp 0).field 25 8) = some k) (h0 : (wordAt inp 0).field 31 26 = 0) (h1 : k.state = 1)
    (hg : k.gen = (wordAt inp 0).field 7 0) (ho : (match ld with | none => true | some l => k.owner == l + 1) = true) :
    s.keyRevoke ld inp tag = ((s.revokeStart [.key ((wordAt inp 0).field 25 8)] tag).saveNet, .ok []) := by
  cases ld with
  | none => simp [State.keyRevoke, hk, h0, h1, hg]
  | some l =>
    have own : k.owner = l + 1 := by simpa using ho
    simp [State.keyRevoke, hk, h0, h1, hg, own]

theorem State.domainRevoke_starts (s : State) (inp : List Word) (tag : Nat) (d : Domain)
    (hd : s.net.domains.find? ((wordAt inp 0).field 15 0) = some d) (h1 : d.state = 1) (h0 : (wordAt inp 0).field 31 16 = 0) :
    s.domainRevoke inp tag = ((s.revokeStart [.domain ((wordAt inp 0).field 15 0)] tag).saveNet, .ok []) := by
  simp [State.domainRevoke, hd, h0, h1]

/-- The grant at a place of a DOMAIN_SET input, by the region each range is found in. -/
def grantIn (region : Nat → Nat → Option (Nat × Region)) (inp : List Word) (i : Nat) : Option KeyEnt :=
  let at_ := 4 + 6 * i
  let base := wide inp at_
  let len := wide inp (at_ + 2)
  match region base len with
  | some (r, _) => some { state := 1, rights := (wordAt inp (at_ + 4)).field 2 0, gen := 0, local_ := r, base := base, len := len, owner := 0 }
  | none => none

theorem State.grantAt_eq (s : State) (inp : List Word) : s.grantAt inp = grantIn s.oneRegion inp := rfl

/-- Grants go by the address map alone. -/
theorem State.grantAt_of (s t : State) (inp : List Word) (h : t.addr = s.addr) : t.grantAt inp = s.grantAt inp := by
  have region : t.oneRegion = s.oneRegion := by
    funext dev len
    unfold State.oneRegion State.regionOf
    rw [h]
  rw [t.grantAt_eq, s.grantAt_eq, region]

/-- The entry that DOMAIN_SET gives a domain which had none (R346). -/
def State.firstDomain (s : State) (inp : List Word) : Domain :=
  ⟨1, Config.domainGen ((wordAt inp 0).field 15 0) % 256, (List.range ((wordAt inp 1).field 6 0)).filterMap (s.grantAt inp)⟩

/-- The state with that entry. -/
def State.withDomain (s : State) (inp : List Word) : State :=
  State.saveNet { s with net := { s.net with domains := s.net.domains.insert ((wordAt inp 0).field 15 0) (s.firstDomain inp) } }

/-- Grants that all lie in one region each are all taken. -/
theorem State.grants_length (s : State) (inp : List Word) (n : Nat) (h : (List.range n).all (fun i => (s.grantAt inp i).isSome) = true) :
    ((List.range n).filterMap (s.grantAt inp)).length = n := by
  calc ((List.range n).filterMap (s.grantAt inp)).length
    _ = (List.range n).countP (fun i => (s.grantAt inp i).isSome) := List.length_filterMap_eq_countP
    _ = (List.range n).length := List.countP_eq_length.mpr (List.all_eq_true.mp h)
    _ = n := List.length_range

/-- DOMAIN_SET of a domain with no entry yet, every grant of which lies in one region. -/
theorem State.domainSet_first (s : State) (inp : List Word) (tag : Nat) (n : Net) (grant : Nat → Option KeyEnt)
    (hnet : s.net = n) (hgrant : s.grantAt inp = grant)
    (hd : n.domains.find? ((wordAt inp 0).field 15 0) = none)
    (hn : (wordAt inp 1).field 6 0 ≤ 64) (h0 : (wordAt inp 0).field 31 16 = 0) (h1 : (wordAt inp 1).field 31 7 = 0)
    (hg : ((List.range ((wordAt inp 1).field 6 0)).all (fun i => (grant i).isSome)) = true)
    (hs : sumL ((n.domains.cells.filter (fun c => c.1 != (wordAt inp 0).field 15 0)).map (fun c => c.2.grants.length)) +
      (wordAt inp 1).field 6 0 ≤ 262144) : s.domainSet inp tag = (s.withDomain inp, .ok []) := by
  subst hnet hgrant
  have all := s.grants_length inp _ hg
  simp [State.domainSet, State.withDomain, State.firstDomain, hd, h0, h1, all, Nat.not_lt.mpr hn, Nat.not_lt.mpr hs]

theorem State.openJob_withDomain (s : State) (m : Mbx) (c : CmdSpec) (inp : List Word) :
    (s.openJob m c false).withDomain inp = (s.withDomain inp).openJob m c false := by
  rw [State.withDomain, State.firstDomain, s.grantAt_of (s.openJob m c false) inp rfl]
  rfl

theorem exec_domainSet_first (m : Mbx) (inp : List Word) (s : State) (ht : s.takes m ⟨0xC420, false, true, true, false⟩ = true)
    (ha : s.solitary = true) (hl : m.len = 16 + 24 * (wordAt inp 1).field 6 0)
    (hb : (s.openJob m ⟨0xC420, false, true, true, false⟩ false).domainSet inp s.tagNow =
      ((s.withDomain inp).openJob m ⟨0xC420, false, true, true, false⟩ false, .ok [])) :
    exec (.domainSet m inp) s = .next ((s.withDomain inp).answered m 0xC420 (.ok [])) :=
  congrArg Host.Outcome.next (s.pCommand_answered (s.withDomain inp) m _ inp _ _ _ (by simp [hl]) ht ha hb
      rfl rfl rfl rfl rfl rfl rfl rfl rfl)

theorem State.withDomain_answered (s : State) (m : Mbx) (inp : List Word) : let t := (s.withDomain inp).answered m 0xC420 (.ok [])
    t.net.domains.find? ((wordAt inp 0).field 15 0) = some (s.firstDomain inp) ∧ t.net.keys = s.net.keys ∧
      t.vlt.nand.tables.domains = t.net.domains ∧
      t.out.take 2 = [.msix m.fn (if m.secondary then 1 else 0), .mbx m 0xC420 0 0 []] := by
  refine ⟨?_, ?_, ?_, ?_⟩
  · simp [State.answered, State.withDomain, State.saveNet, State.firstDomain]
  · simp [State.answered, State.withDomain, State.saveNet]
  · simp [State.answered, State.withDomain, State.saveNet]
  · rw [State.answered, State.answer_out]; rfl

end Sys2Proof.Machine
end

section
namespace Sys2Proof
open Sys2Proof.Machine

/-- Settles O31: registrations and grants answer at once, revocations wait for the operations of their epoch. -/
theorem keysAndDomains : Obligations.KeysAndDomains := by
  refine ⟨fun m inp x k s ht ha hl hk => ?_, fun m inp k s ht ha hl hk h0 h1 hg ho => ⟨_, rfl, ?_⟩,
    fun m inp s ht ha hl hd hn h0 h1 hg hs => ?_, fun m inp d s ht ha hl hd h1 h0 => ⟨_, rfl, ?_⟩⟩
  · obtain ⟨fresh, gen, register, small, next⟩ := s.openJob_keyRegister m ⟨0xC410, true, true, true, false⟩ (s.limitedTo m) inp x k hk
    refine ⟨_, congrArg Host.Outcome.next (s.pCommand_answered _ m _ inp _ _ _ (by simp [hl]) ht ha register rfl rfl rfl rfl rfl rfl rfl rfl rfl),
      gen, ?_, small, next, ?_, ?_⟩
    · simp [State.answered, State.saveNet]
    · simp [State.answered, State.saveNet]
    · rw [State.answered, State.answer_out]; rfl
  · have own : (match s.limitedTo m with | none => true | some l => k.owner == l + 1) = true := by
      rcases ho with h | h
      · rw [h]
      · cases hm : s.limitedTo m with
        | none => rfl
        | some l => exact beq_iff_eq.mpr (Option.some.inj (by rw [hm] at h; exact h)).symm
    have body : (s.openJob m ⟨0xC411, true, true, true, false⟩ false).keyRevoke (s.limitedTo m) inp s.tagNow =
        ((State.revokeStart (s.openJob m ⟨0xC411, true, true, true, false⟩ false) [.key ((wordAt inp 0).field 25 8)] s.tagNow).saveNet, .ok []) :=
      State.keyRevoke_starts _ _ inp _ k hk h0 h1 hg own
    obtain ⟨keys, -, revs, saved, -, opened, out⟩ := s.pCommand_revokes m _ inp
      (fun ld tag s => s.keyRevoke ld inp tag) _ _ (show (m.len == 4) = true by simp [hl]) ht ha body
    refine ⟨?_, revs, saved, opened, out⟩
    rw [keys, State.markRevoking, SMap.modify_found _ _ _ _ hk]
    exact SMap.find?_insert_self _ _ _
  · have body := (s.openJob m ⟨0xC420, false, true, true, false⟩ false).domainSet_first inp s.tagNow s.net (s.grantAt inp) rfl
      (s.grantAt_of _ inp rfl) hd hn h0 h1 hg hs
    rw [s.openJob_withDomain] at body
    exact ⟨_, exec_domainSet_first m inp s ht ha hl body, s.withDomain_answered m inp⟩
  · have body := State.domainRevoke_starts (s.openJob m ⟨0xC421, false, true, true, false⟩ false) inp s.tagNow d hd h1 h0
    obtain ⟨-, domains, revs, -, saved, opened, out⟩ := s.pCommand_revokes m _ inp
      (fun _ tag s => s.domainRevoke inp tag) _ _ (show (m.len == 4) = true by simp [hl]) ht ha body
    refine ⟨?_, revs, saved, opened, out⟩
    rw [domains, State.markRevoking, SMap.modify_found _ _ _ _ hd]
    exact SMap.find?_insert_self _ _ _

end Sys2Proof
end

section
namespace Sys2Proof.Machine

theorem State.answered_ethPort (s : State) (m : Mbx) (op : Nat) (r : Reply) (mac p : Nat) : (s.answered m op r).ethPort mac p = s.ethPort mac p := by
  simp [State.answered, State.ethPort]

theorem State.answered_conn (s : State) (m : Mbx) (op : Nat) (r : Reply) (slot : Nat) : (s.answered m op r).conn slot = s.conn slot := by
  simp [State.answered, State.conn]

/-! ## Addresses, listeners, connections (R335, R337, R437) -/

/-- The addresses that an ADDR_SET input lists. -/
def portAddrs (inp : List Word) : List PortAddr :=
  (List.range ((wordAt inp 1).field 4 0)).map (fun i =>
    PortAddr.mk (BitVec.ofNat 128 (wide inp (2 + 5 * i) + wide inp (2 + 5 * i + 2) * 2 ^ 64)) ((wordAt inp (2 + 5 * i + 4)).field 7 0)
      ((wordAt inp (2 + 5 * i + 4)).field 8 8 == 1))

/-- The state with a port's addresses set, and the TABLE record with them. -/
def State.withAddrs (s : State) (key : Nat) (ents : List PortAddr) : State :=
  State.saveNet (s.setEthPort (key / 4) (key % 4) { s.ethPort (key / 4) (key % 4) with addrs := ents })

theorem State.addrSet_fits (s : State) (inp : List Word) (h1 : (wordAt inp 1).field 31 5 = 0) (h0 : (wordAt inp 0).field 31 5 = 0)
    (hn : (wordAt inp 1).field 4 0 ≤ 16) (h4 : ((portAddrs inp).filter (fun a => isV4 a.ip)).length ≤ 8)
    (h6 : (portAddrs inp).length - ((portAddrs inp).filter (fun a => isV4 a.ip)).length ≤ 8) :
    s.addrSet false inp = (s.withAddrs ((wordAt inp 0).field 4 0) (portAddrs inp), .ok []) := by
  have same : ((List.range ((wordAt inp 1).field 4 0)).map (fun i =>
      PortAddr.mk (BitVec.ofNat 128 (wide inp (2 + 5 * i) + wide inp (2 + 5 * i + 2) * 2 ^ 64)) ((wordAt inp (2 + 5 * i + 4)).field 7 0)
        (((wordAt inp (2 + 5 * i + 4)).field 8 8 == 1) != false))) = portAddrs inp := by simp only [Bool.bne_false, portAddrs]
  have count : (portAddrs inp).length = (wordAt inp 1).field 4 0 := by rw [portAddrs, List.length_map, List.length_range]
  rw [count] at h6
  unfold State.addrSet
  dsimp only
  rw [same]
  exact if_neg (by simp [h0, h1, Nat.not_lt.mpr hn, Nat.not_lt.mpr h4, Nat.not_lt.mpr h6])

theorem State.ethPort_withAddrs (s : State) (key : Nat) (ents : List PortAddr) :
    ((s.withAddrs key ents).ethPort (key / 4) (key % 4)).addrs = ents :=
  congrArg EthPort.addrs (SMap.getD_put_self _ _ _ _)

/-- The state with the services listened for, and the TABLE record with them. -/
def State.withListen (s : State) (l : List (Nat × Nat)) : State := State.saveNet { s with net := { s.net with listen := l } }

theorem State.listenSet_lists (s : State) (inp : List Word) (h : (wordAt inp 2).field 31 17 = 0) : s.listenSet inp =
    (s.withListen (if (wordAt inp 2).field 16 16 = 1 then s.net.listen.filter (fun l => l.1 != wide inp 0) ++ [(wide inp 0, (wordAt inp 2).field 15 0)]
      else s.net.listen.filter (fun l => l.1 != wide inp 0)), .ok []) :=
  if_neg (not_not_intro h)

theorem exec_listenSet (m : Mbx) (inp : List Word) (s : State) (ht : s.takes m ⟨0xC402, false, true, true, false⟩ = true)
    (ha : s.solitary = true) (hl : m.len = 16) (h : (wordAt inp 2).field 31 17 = 0) : exec (.listenSet m inp) s =
      .next (State.answered (s.withListen (if (wordAt inp 2).field 16 16 = 1
        then s.net.listen.filter (fun l => l.1 != wide inp 0) ++ [(wide inp 0, (wordAt inp 2).field 15 0)]
        else s.net.listen.filter (fun l => l.1 != wide inp 0))) m 0xC402 (.ok [])) :=
  congrArg Host.Outcome.next (s.pCommand_answered (s.withListen _) m _ inp _ _ _ (by simp [hl]) ht ha
    (State.listenSet_lists (s.openJob m _ false) inp h) rfl rfl rfl rfl rfl rfl rfl rfl rfl)

/-- A closing connection without operations, that waits for no twin, frees its slot (R337). -/
theorem State.connGone_closed (s : State) (slot : Nat) (c : Conn) (hc : s.conn slot = some c) (hcl : c.closing = true) (ho : c.ops = [])
    (ht : c.twinWait = false) : s.connGone slot =
      { s with net := { s.net with conns := s.net.conns.erase slot, cached := s.net.cached.erase slot } } := by
  simp only [State.connGone, hc, hcl, ho, ht, List.isEmpty_nil, Bool.not_false, Bool.and_self, if_true]

theorem State.connRun_closed (s : State) (slot : Nat) (c : Conn) (hc : s.conn slot = some c) (hcl : c.closing = true) (ho : c.ops = [])
    (ht : c.twinWait = false) : s.connRun slot =
      { s with net := { s.net with conns := s.net.conns.erase slot, cached := s.net.cached.erase slot } } := by
  rw [← s.connGone_closed slot c hc hcl ho ht]
  simp only [State.connRun, hc, State.connStep, ho, List.find?_nil, List.filter_nil]

/-- The state in which a stalled connection has left its epoch (R339, R359). -/
def State.stallLeft (s : State) (c : Conn) : State := match c.stall with | some (_, _, ep) => s.epochExit ep | none => s

theorem State.stallLeft_net (s : State) (c : Conn) : ∃ n : Net, s.stallLeft c = { s with net := n } ∧ n.revs = s.net.revs ∧ n.conns = s.net.conns := by
  unfold State.stallLeft
  split
  · unfold State.epochExit
    split
    · exact ⟨s.net, rfl, rfl, rfl⟩
    · exact ⟨_, rfl, rfl, rfl⟩
  · exact ⟨s.net, rfl, rfl, rfl⟩

/-- A connection as it stands while it closes. -/
abbrev Conn.ended (c : Conn) : Conn :=
  { c with closing := true, wr := none, stall := none, res := [], ops := c.ops.map NetOp.abandon, twinWait := false, drepOwed := false }

theorem State.closeConn_eq (s : State) (slot : Nat) (c : Conn) : s.closeConn slot c false false =
    (State.setConn ((s.stallLeft c).dropWaiting slot).1 slot c.ended).connRun slot := rfl

/-- A connection without operations that closes, and waits for no twin, frees its slot at once (R337). -/
theorem State.closeConn_idle (s : State) (slot : Nat) (c : Conn) (ho : c.ops = []) : ∃ n : Net, s.closeConn slot c false false = { s with net := n } ∧
    n.conns.find? slot = none ∧ n.revs = s.net.revs := by
  obtain ⟨n, left, revs, -⟩ := s.stallLeft_net c
  rw [State.closeConn_eq, State.connRun_closed _ slot c.ended (State.conn_setConn_self _ _ _) rfl (by rw [Conn.ended, ho]; rfl) rfl, left]
  exact ⟨_, rfl, SMap.find?_erase_self _ _, revs⟩

theorem State.openJob_connClose (s : State) (m : Mbx) (k : CmdSpec) (inp : List Word) (c : Conn)
    (hc : s.connOfQpn ((wordAt inp 0).field 23 0) = some c) (hn : c.closing = false) (hr : c.rts = true) (h0 : (wordAt inp 0).field 31 24 = 0)
    (ho : c.ops = []) : ∃ n : Net, (s.openJob m k false).connClose inp = (State.openJob { s with net := n } m k false, .ok []) ∧
      n.conns.find? ((wordAt inp 0).field 23 0 % 1048576) = none ∧ n.revs = s.net.revs := by
  obtain ⟨n, closed, free, revs⟩ := (s.openJob m k false).closeConn_idle ((wordAt inp 0).field 23 0 % 1048576) c ho
  have found : (s.openJob m k false).connOfQpn ((wordAt inp 0).field 23 0) = some c := hc
  refine ⟨n, ?_, free, revs⟩
  simp only [State.connClose, found, hn, hr, h0, closed, Bool.not_true, Bool.or_false, ne_eq, not_true_eq_false, decide_false, Bool.false_eq_true,
    if_false]
  rfl

end Sys2Proof.Machine
end

section
namespace Sys2Proof
open Sys2Proof.Machine

/-- Settles O32: each command's body answers at once; a connection without operations goes with its CONN_CLOSE. -/
theorem addressesAndConnections : Obligations.AddressesAndConnections := by
  refine ⟨fun m inp ents s ht ha hl h1 h0 hn he h4 h6 => ?_, fun m inp s ht ha hl h hs => ⟨_, exec_listenSet m inp s ht ha hl h, by rw [if_pos hs]; rfl⟩,
    fun m inp s ht ha hl h hs => ⟨_, exec_listenSet m inp s ht ha hl h, by rw [if_neg hs]; rfl⟩, fun m inp c s ht ha hl hc hn hr h0 ho => ?_⟩
  · subst he
    refine ⟨_, congrArg Host.Outcome.next (s.pCommand_answered (s.withAddrs _ _) m _ inp _ _ _ (by simp [hl]) ht ha
      ((s.openJob m _ false).addrSet_fits inp h1 h0 hn h4 h6) rfl rfl rfl rfl rfl rfl rfl rfl rfl), ?_, ?_⟩
    · rw [State.answered_ethPort]
      exact s.ethPort_withAddrs _ _
    · rw [State.answered, State.answer_out]; rfl
  · obtain ⟨n, closed, free, revs⟩ := s.openJob_connClose m ⟨0xC404, false, true, true, false⟩ inp c hc hn hr h0 ho
    refine ⟨_, congrArg Host.Outcome.next (s.pCommand_answered { s with net := n } m _ inp _ _ _ (by simp [hl]) ht ha closed
      rfl rfl rfl rfl rfl rfl rfl revs rfl), ?_, by simp [State.answered], by simp [State.answered], ?_⟩
    · rw [State.answered_conn]
      exact free
    · rw [State.answered, State.answer_out]; rfl

end Sys2Proof
end

section
namespace Sys2Proof.Machine

/-! ## Pause of a port (R327 to R330) -/

theorem SMap.has_insert_self {α : Type} (m : SMap α) (k : Nat) (v : α) : (m.insert k v).has k = true := by
  rw [SMap.has, SMap.find?_insert_self]; rfl

theorem SMap.has_insert_other {α : Type} (m : SMap α) (k j : Nat) (v : α) (h : k ≠ j) : (m.insert k v).has j = m.has j := by
  rw [SMap.has, SMap.has, SMap.find?_insert_other _ _ _ _ h]

theorem SMap.has_erase_self {α : Type} (m : SMap α) (k : Nat) : (m.erase k).has k = false := by
  rw [SMap.has, SMap.find?_erase_self]; rfl

theorem SMap.has_erase_other {α : Type} (m : SMap α) (k j : Nat) (h : k ≠ j) : (m.erase k).has j = m.has j := by
  rw [SMap.has, SMap.has, SMap.find?_erase_other _ _ _ h]

theorem State.ethPort_setEthPort_self (s : State) (mac port : Nat) (v : EthPort) : (s.setEthPort mac port v).ethPort mac port = v :=
  SMap.getD_put_self _ _ _ _

/-- A frame handed to a port changes at most which frames wait there. -/
theorem State.sendFrameEth_port (s : State) (f : NetFrame) (mac port : Nat) :
    ∃ e, (s.sendFrameEth f).ethPort mac port = { s.ethPort mac port with egress := e } := by
  unfold State.sendFrameEth
  dsimp only
  split
  · exact ⟨_, rfl⟩
  · split
    · by_cases h : portKey f.mac f.port = portKey mac port
      · have same : s.ethPort f.mac f.port = s.ethPort mac port := by rw [State.ethPort, h]; rfl
        refine ⟨(s.ethPort f.mac f.port).egress ++ [f], ?_⟩
        rw [← same]
        refine (congrArg (s.net.ports.put {} _ _ |>.getD · {}) h.symm).trans (SMap.getD_put_self _ _ _ _)
      · exact ⟨(s.ethPort mac port).egress, SMap.getD_put_other _ _ _ _ _ _ h⟩
    · exact ⟨_, rfl⟩

theorem State.sendFrames_port (fs : List NetFrame) (s : State) (mac port : Nat) :
    ∃ e, (fs.foldl State.sendFrameEth s).ethPort mac port = { s.ethPort mac port with egress := e } := by
  induction fs generalizing s with
  | nil => exact ⟨_, rfl⟩
  | cons f fs ih =>
    obtain ⟨e, rest⟩ := ih (s.sendFrameEth f)
    obtain ⟨g, first⟩ := s.sendFrameEth_port f mac port
    exact ⟨e, by rw [List.foldl_cons, rest, first]⟩

/-- A port with one priority released: the frames that waited for it are to go (R329). -/
abbrev EthPort.released (p : EthPort) (q : Nat) : EthPort :=
  { p with pausedRx := p.pausedRx.erase q, egress := (p.egress.partition (fun f => f.prio == q)).2 }

/-- A priority that is released is paused no more, and the port is else as it was but for the frames that wait. -/
theorem State.unpause_port (s : State) (mac port q : Nat) : ∃ e, (s.unpause mac port q).ethPort mac port =
    { s.ethPort mac port with pausedRx := (s.ethPort mac port).pausedRx.erase q, egress := e } := by
  obtain ⟨e, sent⟩ := State.sendFrames_port ((s.ethPort mac port).egress.partition (fun f => f.prio == q)).1
    (s.setEthPort mac port ((s.ethPort mac port).released q)) mac port
  rw [State.ethPort_setEthPort_self] at sent
  exact ⟨e, sent⟩

/-- What a PFC frame does for one priority it names (R329). -/
def State.pfcPrio (mac port : Nat) (quanta : List Nat) (s : State) (q : Nat) : State :=
  let p := s.ethPort mac port
  if quanta.getD q 0 = 0 then s.unpause mac port q
  else if p.ignore.contains q || p.pausedRx.has q then s
  else s.setEthPort mac port { p with pausedRx := p.pausedRx.insert q s.now }

theorem exec_pfcFrameReceived (mac port : Nat) (prios : BitVec 8) (quanta : List Nat) (s : State) (hl : (s.ethPort mac port).link = true) :
    exec (.pfcFrameReceived mac port prios quanta) s =
      .next (((List.range 8).filter (fun q => prios.getLsbD q)).foldl (State.pfcPrio mac port quanta) s) :=
  congrArg Host.Outcome.next (if_neg (by simp [hl]))

/-- Handling a priority leaves what is ignored, and whether any other priority is paused. -/
theorem State.pfcPrio_keeps (mac port : Nat) (quanta : List Nat) (s : State) (q : Nat) :
    ((State.pfcPrio mac port quanta s q).ethPort mac port).ignore = (s.ethPort mac port).ignore ∧
      ∀ k, q ≠ k → ((State.pfcPrio mac port quanta s q).ethPort mac port).pausedRx.has k = (s.ethPort mac port).pausedRx.has k := by
  unfold State.pfcPrio
  dsimp only
  split
  · obtain ⟨e, released⟩ := s.unpause_port mac port q
    rw [released]
    exact ⟨rfl, fun k h => SMap.has_erase_other _ _ _ h⟩
  · split
    · exact ⟨rfl, fun _ _ => rfl⟩
    · rw [State.ethPort_setEthPort_self]
      exact ⟨rfl, fun k h => SMap.has_insert_other _ _ _ _ h⟩

theorem State.pfcPrio_pauses (mac port : Nat) (quanta : List Nat) (s : State) (q : Nat) (hq : quanta.getD q 0 ≠ 0)
    (hi : q ∉ (s.ethPort mac port).ignore) : ((State.pfcPrio mac port quanta s q).ethPort mac port).pausedRx.has q = true := by
  have heeded : (s.ethPort mac port).ignore.contains q = false := by simpa using hi
  unfold State.pfcPrio
  dsimp only
  rw [if_neg hq, heeded, Bool.false_or]
  split
  · assumption
  · rw [State.ethPort_setEthPort_self]
    exact SMap.has_insert_self _ _ _

theorem State.pfcPrio_releases (mac port : Nat) (quanta : List Nat) (s : State) (q : Nat) (hq : quanta.getD q 0 = 0) :
    ((State.pfcPrio mac port quanta s q).ethPort mac port).pausedRx.has q = false := by
  obtain ⟨e, released⟩ := s.unpause_port mac port q
  rw [State.pfcPrio, if_pos hq, released]
  exact SMap.has_erase_self _ _

/-- A priority is paused after the frame where it is named with quanta, or was paused before. -/
theorem State.pfcPrios_pause (mac port : Nat) (quanta : List Nat) (q : Nat) (hq : quanta.getD q 0 ≠ 0) (l : List Nat) (s : State)
    (hi : q ∉ (s.ethPort mac port).ignore) (hl : q ∈ l ∨ (s.ethPort mac port).pausedRx.has q = true) :
    ((l.foldl (State.pfcPrio mac port quanta) s).ethPort mac port).pausedRx.has q = true := by
  induction l generalizing s with
  | nil => exact hl.resolve_left List.not_mem_nil
  | cons k l ih =>
    obtain ⟨ignore, others⟩ := State.pfcPrio_keeps mac port quanta s k
    refine ih _ (by rwa [ignore]) ?_
    by_cases hk : k = q
    · exact .inr (hk ▸ State.pfcPrio_pauses mac port quanta s k (hk ▸ hq) (hk ▸ hi))
    · rw [others q hk]
      exact hl.imp_left fun h => (List.mem_cons.mp h).resolve_left (Ne.symm hk)

/-- A priority is not paused after the frame where it is named with 0, or was not paused before. -/
theorem State.pfcPrios_release (mac port : Nat) (quanta : List Nat) (q : Nat) (hq : quanta.getD q 0 = 0) (l : List Nat) (s : State)
    (hl : q ∈ l ∨ (s.ethPort mac port).pausedRx.has q = false) :
    ((l.foldl (State.pfcPrio mac port quanta) s).ethPort mac port).pausedRx.has q = false := by
  induction l generalizing s with
  | nil => exact hl.resolve_left List.not_mem_nil
  | cons k l ih =>
    obtain ⟨-, others⟩ := State.pfcPrio_keeps mac port quanta s k
    refine ih _ ?_
    by_cases hk : k = q
    · exact .inr (hk ▸ State.pfcPrio_releases mac port quanta s k (hk ▸ hq))
    · rw [others q hk]
      exact hl.imp_left fun h => (List.mem_cons.mp h).resolve_left (Ne.symm hk)

/-- A priority that the frame does not name is paused as before. -/
theorem State.pfcPrios_other (mac port : Nat) (quanta : List Nat) (q : Nat) (l : List Nat) (s : State) (hl : q ∉ l) :
    ((l.foldl (State.pfcPrio mac port quanta) s).ethPort mac port).pausedRx.has q = (s.ethPort mac port).pausedRx.has q := by
  refine List.foldlRecOn l _ (motive := fun t : State => (t.ethPort mac port).pausedRx.has q = (s.ethPort mac port).pausedRx.has q) rfl
    fun t kept k hk => ?_
  obtain ⟨-, others⟩ := State.pfcPrio_keeps mac port quanta t k
  exact (others q (fun h => hl (h ▸ hk))).trans kept

theorem exec_pfcFrameReceived_other (mac port : Nat) (prios : BitVec 8) (quanta : List Nat) (q : Nat) (s : State)
    (h : 8 ≤ q ∨ prios.getLsbD q = false ∨ (s.ethPort mac port).link = false) :
    Gives (.pfcFrameReceived mac port prios quanta) s
      (fun t => (t.ethPort mac port).pausedRx.has q = (s.ethPort mac port).pausedRx.has q) := by
  cases hl : (s.ethPort mac port).link with
  | false => exact ⟨_, congrArg Host.Outcome.next (if_pos (by simp [hl])), rfl⟩
  | true =>
    refine ⟨_, exec_pfcFrameReceived mac port prios quanta s hl, State.pfcPrios_other mac port quanta q _ s ?_⟩
    simp only [List.mem_filter, List.mem_range, not_and_or, Bool.not_eq_true, Nat.not_lt]
    rcases h with h | h | h
    · exact .inl h
    · exact .inr h
    · exact absurd (hl.symm.trans h) nofun

/-- A single frame that waits for the priority goes out when the priority is released. -/
theorem State.unpause_sends (s : State) (mac port q : Nat) (f : NetFrame) (he : (s.ethPort mac port).egress = [f]) (hq : f.prio = q)
    (hm : f.mac = mac) (hp : f.port = port) (hl : (s.ethPort mac port).link = true) : (s.unpause mac port q).out = .frame f :: s.out ∧
      ((s.unpause mac port q).ethPort mac port).egress = [] ∧ ((s.unpause mac port q).ethPort mac port).pausedRx.has q = false := by
  subst hq hm hp
  have waits : (s.ethPort f.mac f.port).egress.partition (fun g => g.prio == f.prio) = ([f], []) := by
    rw [he, List.partition_eq_filter_filter]; simp
  have free := State.ethPort_setEthPort_self s f.mac f.port ((s.ethPort f.mac f.port).released f.prio)
  have gone : s.unpause f.mac f.port f.prio = (s.setEthPort f.mac f.port ((s.ethPort f.mac f.port).released f.prio)).sendFrameEth f := by
    rw [State.unpause, EthPort.released, waits]; rfl
  rw [gone, State.sendFrameEth_free _ f (by rw [free]; exact hl) (by rw [free]; exact SMap.has_erase_self _ _)]
  refine ⟨rfl, (congrArg EthPort.egress free).trans (by rw [EthPort.released, waits]), ?_⟩
  exact (congrArg (fun p : EthPort => p.pausedRx.has f.prio) free).trans (SMap.has_erase_self _ _)

/-- A flag that was set reads 1. -/
theorem State.fld_setFld_flag (s : State) (a : Nat) (f : Fld) (hl : f.lo = f.hi) (hh : f.hi < 32) : (s.setFld a f 1).fld a f = 1 := by
  rw [State.fld_setFld_self s a f 1 (Nat.le_of_eq hl) hh, hl, Nat.add_sub_cancel_left]
  rfl

/-- A storm sets its flag and is reported; the ports stay, and nothing is sent. -/
theorem State.stormReport_keeps (s : State) (a mac port : Nat) (f : Fld) (hl : f.lo = f.hi) (hh : f.hi < 32) :
    let t := (s.setFld a f 1).stormReport mac port
    (∀ m p, t.ethPort m p = s.ethPort m p) ∧ t.fld a f = 1 ∧ t.flt.reports = s.flt.reports ++ [⟨unitId 0x10 (portKey mac port), 0x16, Cls.major⟩] ∧ t.out = s.out :=
  ⟨fun _ _ => rfl, s.fld_setFld_flag a f hl hh, rfl, rfl⟩

theorem exec_rxPauseStorm (mac port prio : Nat) (s : State) (hp : (s.ethPort mac port).pausedRx.has prio = true) :
    exec (.rxPauseStorm mac port prio) s = .next (State.stormReport (State.setFld (State.unpause
      (s.setEthPort mac port { s.ethPort mac port with ignore := (s.ethPort mac port).ignore ++ [prio] }) mac port prio)
        (Reg.E_PORT_STATUS (macPage mac) port) Fld.E_PORT_STATUS_STORM_RX 1) mac port) :=
  congrArg Host.Outcome.next (if_neg (by simp [hp]))

theorem exec_txPauseStorm (mac port prio : Nat) (s : State) (hp : (s.ethPort mac port).pausedTx.has prio = true) :
    exec (.txPauseStorm mac port prio) s = .next (State.stormReport (State.setFld
      (s.setEthPort mac port { s.ethPort mac port with pausedTx := (s.ethPort mac port).pausedTx.erase prio, stopped := (s.ethPort mac port).stopped ++ [prio] })
        (Reg.E_PORT_STATUS (macPage mac) port) Fld.E_PORT_STATUS_STORM_TX 1) mac port) :=
  congrArg Host.Outcome.next (if_neg (by simp [hp]))

/-! ## Ports and modes of a MAC (R323) -/

/-- Linking ports of a MAC changes the ports alone, and links those. -/
theorem State.linkPorts (mac : Nat) (l : List Nat) (s : State) : ∃ ports,
    l.foldl (fun s p => s.setEthPort mac p { s.ethPort mac p with link := true }) s = { s with net := { s.net with ports := ports } } ∧
      ∀ p, p ∈ l ∨ (s.ethPort mac p).link = true → (ports.getD (portKey mac p) {}).link = true := by
  induction l generalizing s with
  | nil => exact ⟨s.net.ports, rfl, fun p h => h.resolve_left List.not_mem_nil⟩
  | cons q l ih =>
    obtain ⟨ports, rest, linked⟩ := ih (s.setEthPort mac q { s.ethPort mac q with link := true })
    refine ⟨ports, rest, fun p h => linked p ?_⟩
    by_cases hq : q = p
    · exact .inr (hq ▸ congrArg EthPort.link (State.ethPort_setEthPort_self _ _ _ _))
    · refine h.imp (fun h => (List.mem_cons.mp h).resolve_left (Ne.symm hq)) fun h => ?_
      have other : portKey mac q ≠ portKey mac p := by simp only [portKey]; omega
      exact (congrArg EthPort.link (SMap.getD_put_other s.net.ports {} {} _ _ _ other)).trans h

/-- The state with a MAC in the mode its register holds. -/
def State.retrained (s : State) (mac : Nat) : State :=
  { s with net := { s.net with mode := s.net.mode.set mac (s.fld (Reg.E_CFG (macPage mac)) Fld.E_CFG_MODE), retrain := s.net.retrain.filter (fun k => k != mac) } }

theorem State.activePorts_retrained (s : State) (mac : Nat) (hm : mac < s.net.mode.length) :
    (s.retrained mac).activePorts mac = portsOfMode (s.fld (Reg.E_CFG (macPage mac)) Fld.E_CFG_MODE) ∧
      ∀ k, k ≠ mac → (s.retrained mac).activePorts k = s.activePorts k := by
  simp only [State.activePorts, State.retrained, List.getD_eq_getElem?_getD]
  refine ⟨by rw [List.getElem?_set_self hm]; rfl, fun k hk => by rw [List.getElem?_set_ne (Ne.symm hk)]⟩

theorem exec_macModeRetrainDone (mac : Nat) (s : State) (hr : s.net.retrain.contains mac = true) : exec (.macModeRetrainDone mac) s =
    .next ((portsOfMode (s.fld (Reg.E_CFG (macPage mac)) Fld.E_CFG_MODE)).foldl
      (fun s p => s.setEthPort mac p { s.ethPort mac p with link := true }) (s.retrained mac)) :=
  congrArg Host.Outcome.next (if_neg (by rw [hr]; decide))

theorem exec_ethernetLinkChange (mac port : Nat) (up : Bool) (s : State) (hc : s.pwr.core = true) (hm : s.mode.mode ≠ .standby)
    (ha : port ∈ s.activePorts mac) (hr : mac ∉ s.net.retrain) (hl : (s.ethPort mac port).link ≠ up) :
    exec (.ethernetLinkChange mac port up) s = .next (if up then s.setEthPort mac port { s.ethPort mac port with link := up }
      else (s.setEthPort mac port { s.ethPort mac port with link := up }).report (unitId 0x10 (portKey mac port)) 0x16 Cls.major) :=
  congrArg Host.Outcome.next (if_neg (by simp [hc, hm, ha, hr, hl]))

/-! ## The context cache, waits and acknowledgements (R339, R340, R352, R354) -/

/-- With no packet waiting for a context nothing is taken from the wait. -/
theorem State.drainMiss_none (n : Nat) (s : State) (slot : Nat) (h : s.net.missbuf = []) : s.drainMiss n slot = s := by
  cases n with
  | zero => rfl
  | succ n =>
    simp only [State.drainMiss, h, List.find?_nil, ite_self]

theorem exec_contextFetchDone (slot : Nat) (s : State) (hf : s.net.fetching.contains slot = true) (hc : s.net.cached.size < 16)
    (hm : s.net.missbuf = []) : exec (.contextFetchDone slot) s =
      .next { s with net := { s.net with
        cached := s.net.cached.insert slot s.net.useTick, useTick := s.net.useTick + 1, fetching := s.net.fetching.filter (fun k => k != slot) } } := by
  refine congrArg Host.Outcome.next ((if_neg (by rw [hf]; decide)).trans ((if_pos (by simp [hc])).trans ?_))
  exact State.drainMiss_none _ _ _ hm

/-- A packet whose wait still holds is not tried again. -/
theorem State.retryStall_waits (s : State) (slot : Nat) (c : Conn) (p : RdmaPkt) (since : Nat) (ep : Option Nat)
    (hc : s.conn slot = some c) (hs : c.stall = some (p, since, ep)) (h : s.barredPkt p = true ∨ s.nonResident c p = true) :
    s.retryStall slot = s := by
  have waits : (s.barredPkt p || s.nonResident c p) = true := by simpa using h
  simp only [State.retryStall, hc, hs, waits, if_true]

theorem State.retryStall_none (s : State) (slot : Nat) (h : (match s.conn slot with | some c => c.stall.isNone | none => true) = true) :
    s.retryStall slot = s := by
  unfold State.retryStall
  split
  · rfl
  · rename_i c hc
    rw [hc] at h
    rw [Option.isNone_iff_eq_none.mp h]

theorem exec_stallExpired (slot : Nat) (c : Conn) (p : RdmaPkt) (since : Nat) (ep : Option Nat) (s : State) (hc : s.conn slot = some c)
    (hs : c.stall = some (p, since, ep)) (h : s.barredPkt p = true ∨ s.nonResident c p = true) : exec (.stallExpired slot) s =
      .next (((s.epochExit ep).bump Ctr.NET_CNT_STALL_EXPIRED).dropPkts slot { c with stall := none }) := by
  simp only [exec, execStallExpired, s.retryStall_waits slot c p since ep hc hs h, hc, hs]

theorem exec_stallExpired_none (slot : Nat) (s : State) (h : (match s.conn slot with | some c => c.stall.isNone | none => true) = true) :
    exec (.stallExpired slot) s = .next s := by
  simp only [exec, execStallExpired, s.retryStall_none slot h]
  refine congrArg Host.Outcome.next ?_
  split
  · rfl
  · rename_i c hc
    rw [hc] at h
    rw [Option.isNone_iff_eq_none.mp h]

/-- A connection whose packets are dropped waits for its requester to send again. -/
theorem State.conn_dropPkts (s : State) (slot : Nat) (c : Conn) : (s.dropPkts slot c).conn slot = some { c with nakPending := true } := by
  rw [State.dropPkts_eq]
  exact State.conn_setConn_self s slot _

theorem exec_ackDelayExpired (slot : Nat) (c : Conn) (s : State) (hc : s.conn slot = some c) (ha : c.ackCount ≠ 0) (he : c.error = false)
    (hcl : c.closing = false) : exec (.ackDelayExpired slot) s = .next (s.sendAck slot c) := by
  simp [exec, execAckDelayExpired, hc, ha, he, hcl]

/-! ## Revocations (R358, R359) -/

theorem State.revokeAdvance_none (s : State) (h : s.net.revs.all (fun r => r.epoch.isSome) = true) : s.revokeAdvance = s := by
  have started : s.net.revs.any (fun r => r.epoch.isNone) = false :=
    List.any_eq_false.mpr fun r hr => by simpa [Option.isSome_iff_ne_none] using List.all_eq_true.mp h r hr
  simp only [State.revokeAdvance, started, Bool.false_and, Bool.false_eq_true, if_false]

/-- With no P command waiting none completes. -/
theorem State.replTry_none (s : State) (tag : Nat) (h : s.cmd.repl = []) : s.replTry tag = s := by
  simp only [State.replTry, h, List.find?_nil]

/-- The state after a revocation has drained: what it revoked is FREE, and it is counted (R359, step 4). -/
def State.revocationEnded (s : State) (index : Nat) (w : RevokeWhat) : State :=
  ((({ s with net := { s.net with revs := s.net.revs.eraseIdx index } } : State).markFree w).bump Ctr.NET_CNT_REVOKE).saveNet

theorem State.revocationEnded_key (s : State) (index i : Nat) (k : KeyEnt) (hk : s.net.keys.find? i = some k) :
    let u := s.revocationEnded index (.key i)
    u.net.keys.find? i = some { gen := k.gen } ∧ (∀ j, j ≠ i → u.net.keys.find? j = s.net.keys.find? j) ∧ u.net.revs = s.net.revs.eraseIdx index ∧
      u.ctr Ctr.NET_CNT_REVOKE = s.ctr Ctr.NET_CNT_REVOKE + 1 ∧ u.vlt.nand.tables.memKeys = u.net.keys ∧ u.mem = s.mem := by
  have free : s.net.keys.modify i (fun k => { gen := k.gen }) = s.net.keys.insert i { gen := k.gen } := SMap.modify_found _ _ _ _ hk
  have ended : s.revocationEnded index (.key i) = State.saveNet (State.bump
      { s with net := { s.net with keys := s.net.keys.insert i { gen := k.gen }, revs := s.net.revs.eraseIdx index } } Ctr.NET_CNT_REVOKE) := by
    rw [← free]; rfl
  rw [ended]
  refine ⟨SMap.find?_insert_self _ _ _, fun j hj => SMap.find?_insert_other _ _ _ _ (Ne.symm hj), rfl, State.ctr_of_bump rfl, rfl, rfl⟩

theorem exec_revocationDrainDone (index : Nat) (r : Revocation) (s : State) (he : s.net.revs.all (fun r => r.epoch.isSome) = true)
    (hr : s.net.revs[index]? = some r) (hd : s.drained r = true) (hc : s.cmd.repl = []) :
    exec (.revocationDrainDone index) s = .next (s.revocationEnded index r.what).netRun := by
  have idle : (s.revocationEnded index r.what).cmd.repl = [] := by
    refine Eq.trans ?_ hc
    unfold State.revocationEnded State.markFree
    split <;> rfl
  simp only [exec, execRevocationDrainDone, s.revokeAdvance_none he, hr, hd, Bool.not_true, Bool.false_eq_true, if_false]
  exact congrArg (fun t : State => Host.Outcome.next t.netRun) ((s.revocationEnded index r.what).replTry_none r.tag idle)

theorem exec_revocationDrainDone_waits (index : Nat) (r : Revocation) (s : State) (hr : s.revokeAdvance.net.revs[index]? = some r)
    (hd : s.revokeAdvance.drained r = false) : exec (.revocationDrainDone index) s = .next s.revokeAdvance := by
  simp only [exec, execRevocationDrainDone, hr, hd, Bool.not_false, if_true]

end Sys2Proof.Machine
end

section
namespace Sys2Proof
open Sys2Proof.Machine

/-- Settles O53: each event is one branch of its command; a PFC frame goes priority by priority. -/
theorem pauseAndPorts : Obligations.PauseAndPorts := by
  refine ⟨fun mac port prios quanta q s hl h8 hp hq hi => ⟨_, exec_pfcFrameReceived mac port prios quanta s hl, ?_⟩,
    fun mac port prios quanta q s hl h8 hp hq => ⟨_, exec_pfcFrameReceived mac port prios quanta s hl, ?_⟩,
    fun mac port prios quanta q s h => exec_pfcFrameReceived_other mac port prios quanta q s h,
    fun mac port prio s hp => ⟨_, congrArg Host.Outcome.next (if_pos hp), rfl, ?_⟩,
    fun s mac port q f he hq hm hp hl => s.unpause_sends mac port q f he hq hm hp hl,
    fun mac port prio s hp => ⟨_, congrArg Host.Outcome.next (if_pos hp), ⟨_, rfl, rfl, rfl, rfl, rfl⟩, rfl⟩,
    fun mac port prio s hp => ⟨_, congrArg Host.Outcome.next (if_neg (by simp [hp])), rfl⟩,
    fun mac port prio s hp => ⟨_, exec_rxPauseStorm mac port prio s hp, ?_⟩,
    fun mac port prio s => ⟨_, rfl, State.ethPort_setEthPort_self _ _ _ _, rfl⟩,
    fun mac port prio s hp => ⟨_, exec_txPauseStorm mac port prio s hp, ?_⟩,
    fun mac s hr hm => ⟨_, exec_macModeRetrainDone mac s hr, ?_⟩,
    fun mac port up s hc hm ha hr hl => ⟨_, exec_ethernetLinkChange mac port up s hc hm ha hr hl, ?_⟩,
    fun slot s hf hc hm => ⟨_, exec_contextFetchDone slot s hf hc hm, rfl, rfl, rfl, rfl, rfl⟩,
    fun slot s hf => ⟨_, congrArg Host.Outcome.next (if_pos (by rw [hf]; rfl)), rfl⟩,
    fun slot c p since ep s hc hs h => ⟨_, exec_stallExpired slot c p since ep s hc hs h, rfl, State.conn_dropPkts _ _ _⟩,
    fun slot s h => ⟨_, exec_stallExpired_none slot s h, rfl⟩,
    fun slot c s hc ha he hcl hl hp => ⟨_, exec_ackDelayExpired slot c s hc ha he hcl, ?_⟩,
    fun index r i k s he hr hd hw hk hc => ⟨_, exec_revocationDrainDone index r s he hr hd hc, s.revocationEnded index r.what, rfl, ?_⟩,
    fun index r s hr hd => ⟨_, exec_revocationDrainDone_waits index r s hr hd, rfl⟩,
    fun s hn he => ?_⟩
  · exact State.pfcPrios_pause mac port quanta q hq _ s hi (.inl (List.mem_filter.mpr ⟨List.mem_range.mpr h8, hp⟩))
  · exact State.pfcPrios_release mac port quanta q hq _ s (.inl (List.mem_filter.mpr ⟨List.mem_range.mpr h8, hp⟩))
  · obtain ⟨e, released⟩ := s.unpause_port mac port prio
    rw [released]
    exact SMap.has_erase_self _ _
  · obtain ⟨e, released⟩ := State.unpause_port
      (s.setEthPort mac port { s.ethPort mac port with ignore := (s.ethPort mac port).ignore ++ [prio] }) mac port prio
    rw [State.ethPort_setEthPort_self] at released
    obtain ⟨kept, flag, reports, -⟩ := State.stormReport_keeps (State.unpause
      (s.setEthPort mac port { s.ethPort mac port with ignore := (s.ethPort mac port).ignore ++ [prio] }) mac port prio)
      (Reg.E_PORT_STATUS (macPage mac) port) mac port Fld.E_PORT_STATUS_STORM_RX rfl (by decide)
    beta_reduce
    rw [kept, released, reports]
    exact ⟨List.mem_append_right _ List.mem_cons_self, SMap.has_erase_self _ _, flag, by simp⟩
  · obtain ⟨kept, flag, reports, out⟩ := State.stormReport_keeps (s.setEthPort mac port { s.ethPort mac port with
        pausedTx := (s.ethPort mac port).pausedTx.erase prio, stopped := (s.ethPort mac port).stopped ++ [prio] })
      (Reg.E_PORT_STATUS (macPage mac) port) mac port Fld.E_PORT_STATUS_STORM_TX rfl (by decide)
    exact ⟨(kept mac port).trans (State.ethPort_setEthPort_self _ _ _ _), flag, reports, out⟩
  · obtain ⟨ports, linked, up⟩ := State.linkPorts mac (portsOfMode (s.fld (Reg.E_CFG (macPage mac)) Fld.E_CFG_MODE)) (s.retrained mac)
    obtain ⟨active, others⟩ := s.activePorts_retrained mac hm
    beta_reduce
    rw [linked]
    exact ⟨active, fun p hp => up p (.inl hp), by simp [State.retrained], others, rfl⟩
  · cases up with
    | true => exact ⟨State.ethPort_setEthPort_self _ _ _ _, (List.append_nil _).symm, rfl, rfl⟩
    | false => exact ⟨State.ethPort_setEthPort_self s mac port _, rfl, rfl, rfl⟩
  · beta_reduce
    rw [State.sendAck, State.sendFrameEth_free _ (c.frame _) hl hp]
    exact ⟨rfl, State.conn_setConn_self _ _ _, rfl⟩
  · rw [hw]
    exact s.revocationEnded_key index i k hk
  · have advance : s.revokeAdvance = { s with net := { s.net with
        epoch := (s.net.epoch + 1) % 4, revs := s.net.revs.map (fun r => if r.epoch.isNone then { r with epoch := some s.net.epoch } else r) } } :=
      if_pos (by rw [hn, he]; rfl)
    rw [advance]
    refine ⟨rfl, List.all_eq_true.mpr fun r hr => ?_, rfl⟩
    obtain ⟨q, -, rfl⟩ := List.mem_map.mp hr
    cases h : q.epoch <;> simp [h]

end Sys2Proof
end

section
namespace Sys2Proof.Machine

/-! ## Connections set up and ended (R335 to R337, R342, R356) -/

/-- The state after a connection-management frame for the responder reached firmware. -/
theorem State.cmIn_up (s : State) (e : Eth) (k : State → State) (hu : s.portUp e = true) (hr : s.forResponder e = true)
    (hm : s.mode.mode ≠ .hold) : s.cmIn e k = k (s.toFirmware e 1) := by
  simp only [State.cmIn, hu, hr, beq_eq_false_iff_ne.mpr hm, Bool.not_true, Bool.false_eq_true, if_false]

/-- A connection-management frame goes by the port, the address and the mode before its own effect. -/
theorem exec_cmFrame (i : Instr) (e : Eth) (r : CmReq) (q : Nat) (s : State)
    (hi : i = .cmReq e r ∨ i = .cmRtu e q ∨ i = .cmMra e q ∨ i = .cmRej e q ∨ i = .cmDreq e q ∨ i = .cmDrep e q) :
    ∃ k, exec i s = .next (s.cmIn e k) := by
  rcases hi with rfl | rfl | rfl | rfl | rfl | rfl <;> exact ⟨_, rfl⟩

/-- The context a connection request asks for, before it has a QPN (R336). -/
def State.reqConn (s : State) (e : Eth) (r : CmReq) (d : Nat) : Conn := {
  own := true, qpn := 0, reqQpn := r.reqQpn, pkey := r.pkey, mtu := r.mtu, udpSrc := e.udpSrc, domain := d,
  respRes := min r.initDepth (s.fldIn Reg.NET_CONN Fld.NET_CONN_RESP_MAX 1 16), epsn := r.startPsn, msn := 0, nakPending := false,
  rts := false, ready := false, error := false, closing := false, wr := none, route := s.routeOf e, res := [], ops := [], ackCount := 0,
  ackSince := 0, donePsn := (r.startPsn + psnMod - 1) % psnMod, cnpAt := none, stall := none, routed := false, usedBy := [],
  twinWait := false, drepOwed := false }

section
variable {e : Eth} {r : CmReq} {s : State} (hu : s.portUp e = true) (hr : s.forResponder e = true) (hm : s.mode.mode ≠ .hold)
include hu hr hm

/-- A request for a service listened for, that a slot is free for and that this controller can serve, proposes the slot. -/
theorem exec_cmReq_proposes (d slot svc : Nat) (hl : s.net.listen.find? (fun l => l.1 == r.serviceId) = some (svc, d))
    (hn : s.newSlot 0 = some slot) (hrc : r.rc = true) (hmtu : r.mtu = 1024 ∨ r.mtu = 2048 ∨ r.mtu = 4096) :
    exec (.cmReq e r) s = .next ((s.toFirmware e 1).propose slot (s.reqConn e r d)) := by
  have mtu : (r.mtu == 1024 || r.mtu == 2048 || r.mtu == 4096) = true := by simpa [or_assoc] using hmtu
  have listened : (s.toFirmware e 1).net.listen.find? (fun l => l.1 == r.serviceId) = some (svc, d) := hl
  have free : (s.toFirmware e 1).newSlot 0 = some slot := hn
  refine congrArg Host.Outcome.next ((s.cmIn_up e _ hu hr hm).trans ?_)
  simp only [listened, free, hrc, mtu, Bool.not_true, Bool.or_self, Bool.false_eq_true, if_false]
  rfl

/-- Any other request is answered REJ. -/
theorem exec_cmReq_rejects (h : s.net.listen.find? (fun l => l.1 == r.serviceId) = none ∨ s.newSlot 0 = none ∨ r.rc = false ∨
    r.mtu ≠ 1024 ∧ r.mtu ≠ 2048 ∧ r.mtu ≠ 4096) :
    exec (.cmReq e r) s = .next ((s.toFirmware e 1).sendRej (s.routeOf e) e.udpSrc) := by
  have listened : (s.toFirmware e 1).net.listen = s.net.listen := rfl
  have free : (s.toFirmware e 1).newSlot 0 = s.newSlot 0 := rfl
  refine congrArg Host.Outcome.next ((s.cmIn_up e _ hu hr hm).trans ?_)
  rcases h with h | h | h | ⟨h1, h2, h4⟩
  · simp only [listened, h]
    rfl
  · simp only [free, h]
    cases (s.toFirmware e 1).net.listen.find? (fun l => l.1 == r.serviceId) <;> rfl
  · split
    · rw [if_pos (by simp [h])]; rfl
    · rfl
  · split
    · rw [if_pos (by simp [h1, h2, h4])]; rfl
    · rfl

end

/-- A slot proposed by a controller that is alone is taken at once, and REP answers (R336). -/
theorem State.propose_alone (s : State) (slot : Nat) (c : Conn) (ha : s.replicates = false) (hl : (s.ethPort c.route.mac c.route.port).link = true)
    (hp : (s.ethPort c.route.mac c.route.port).pausedRx.has c.route.prio = false) : s.propose slot c = State.bump
      (State.emit (s.setConn slot { c with qpn := s.qpnOf slot, rts := true }) (.frame (c.frame (.cmRep (s.qpnOf slot) c.respRes))))
      (Ctr.E_CNT_TX_PKT (macPage c.route.mac) c.route.port) := by
  rw [State.propose, if_neg (by simp [ha])]
  exact State.sendFrameEth_free _ (c.frame (.cmRep (s.qpnOf slot) c.respRes)) hl hp

/-- What a proposal to the twin leaves and sends (R335, R336). -/
theorem State.propose_twin (s : State) (slot : Nat) (c : Conn) (ha : s.replicates = true) : let t := s.propose slot c
    t.conn slot = some { c with qpn := s.qpnOf slot } ∧ .twMessage ⟨0x0E, 0, [.control (.connSetup slot
      { c with qpn := s.qpnOf slot, own := false, rts := true, route := {} })]⟩ ∈ t.out := by
  rw [State.propose, if_pos ha]
  refine ⟨?_, State.mem_out_hand _ _ _ _⟩
  have net : ∀ (u : State) (m : CtlMsg), (u.control m).net = u.net := fun u m => by simp [State.control]
  rw [State.conn, net]
  exact State.conn_setConn_self _ _ _

theorem State.connOfQpn_conn (s : State) (qpn : Nat) (c : Conn) (h : s.connOfQpn qpn = some c) : s.conn (qpn % 1048576) = some c := by
  unfold State.connOfQpn at h
  split at h
  · rename_i d hd
    split at h
    · rw [hd, ← h]
    · exact absurd h nofun
  · exact absurd h nofun

/-- A connection in a slot taken from the table: ended, and gone with its context and what waited for it (R337). -/
def State.connDropped (s : State) (slot : Nat) (c : Conn) : State :=
  let t := (s.dropWaiting slot).1.setConn slot c.ended
  { t with net := { t.net with conns := t.net.conns.erase slot, cached := t.net.cached.erase slot } }

theorem State.connDropped_effect (s : State) (slot : Nat) (c : Conn) : let t := s.connDropped slot c
    t.conn slot = none ∧ (∀ k, k ≠ slot → t.conn k = s.conn k) ∧ t.net.cached.has slot = false ∧ t.out = s.out ∧ t.trk = s.trk :=
  ⟨SMap.find?_erase_self _ _,
    fun k hk => (SMap.find?_erase_other _ _ _ (Ne.symm hk)).trans (SMap.find?_insert_other _ _ _ _ (Ne.symm hk)),
    SMap.has_erase_self _ _, rfl, rfl⟩

section
variable {s : State} {qpn : Nat} {c : Conn} (hq : s.connOfQpn qpn = some c) (hc : c.closing = false) (hr : c.rts = true)
  (ha : (c.own && s.replicates) = false) (ho : c.ops = []) (hs : c.stall = none)
include hq hc hr ha ho hs

/-- A connection without operations that ends, alone, frees its slot at once (R337). -/
theorem State.endConn_idle : s.endConn qpn false = s.connDropped (qpn % 1048576) c := by
  have closed : s.endConn qpn false = s.closeConn (qpn % 1048576) c false false := by
    simp only [State.endConn, hq, hc, hr, ha, Bool.not_true, Bool.false_eq_true, if_false]
  have left : s.stallLeft c = s := by rw [State.stallLeft, hs]
  rw [closed, State.closeConn_eq, left]
  exact State.connRun_closed _ _ c.ended (State.conn_setConn_self _ _ _) rfl (by rw [Conn.ended, ho]; rfl) rfl

/-- A connection without operations that its requester ends frees its slot, and DREP answers. -/
theorem State.endConn_drep (hl : (s.ethPort c.route.mac c.route.port).link = true)
    (hp : (s.ethPort c.route.mac c.route.port).pausedRx.has c.route.prio = false) : s.endConn qpn true =
      State.connDropped ((s.emit (.frame (c.ended.frame (.cmDrep c.reqQpn)))).bump (Ctr.E_CNT_TX_PKT (macPage c.route.mac) c.route.port))
        (qpn % 1048576) c := by
  have closed : s.endConn qpn true = s.closeConn (qpn % 1048576) c true false := by
    simp only [State.endConn, hq, hc, hr, ha, Bool.not_true, Bool.false_eq_true, if_false]
  have left : s.stallLeft c = s := by rw [State.stallLeft, hs]
  have sent : s.closeConn (qpn % 1048576) c true false =
      (State.sendFrameEth (((s.stallLeft c).dropWaiting (qpn % 1048576)).1.setConn (qpn % 1048576) c.ended) (c.ended.frame (.cmDrep c.reqQpn))).connRun
        (qpn % 1048576) := rfl
  have free := State.sendFrameEth_free ((s.dropWaiting (qpn % 1048576)).1.setConn (qpn % 1048576) c.ended) (c.ended.frame (.cmDrep c.reqQpn)) hl hp
  rw [closed, sent, left, free]
  exact State.connRun_closed _ _ c.ended (State.conn_setConn_self (s.dropWaiting (qpn % 1048576)).1 _ _) rfl (by rw [Conn.ended, ho]; rfl) rfl

end

end Sys2Proof.Machine
end

section
namespace Sys2Proof
open Sys2Proof.Machine

/-- Settles O54: each frame is one branch of its command, behind the port, the address and the mode. -/
theorem connectionManagement : Obligations.ConnectionManagement := by
  refine ⟨fun i e r q s hi hu => ?_, fun i e r q s hi hu hr => ?_, fun i e r q s hi hu hr hm => ?_,
    fun e r d slot svc s hu hr hm hl hn hrc hmtu ha hp => ⟨_, exec_cmReq_proposes hu hr hm d slot svc hl hn hrc hmtu, ?_⟩,
    fun e r d slot svc s hu hr hm hl hn hrc hmtu ha => ⟨_, exec_cmReq_proposes hu hr hm d slot svc hl hn hrc hmtu, ?_⟩,
    fun e r s hu hr hm h hp => ⟨_, exec_cmReq_rejects hu hr hm h, ?_⟩,
    fun e qpn c s hu hr hm hc => ⟨_, congrArg Host.Outcome.next (s.cmIn_up e _ hu hr hm), ?_⟩,
    fun e qpn s hu hr hm => ⟨_, congrArg Host.Outcome.next (s.cmIn_up e _ hu hr hm), rfl⟩,
    fun e qpn c s hu hr hm hq hc hrts ha ho hs => ⟨_, congrArg Host.Outcome.next (s.cmIn_up e _ hu hr hm), ?_⟩,
    fun e qpn c s hu hr hm hq hc hrts ha ho hs hl hp => ⟨_, congrArg Host.Outcome.next (s.cmIn_up e _ hu hr hm), ?_⟩,
    fun e qpn c s hu hr hm hq hc ho ht => ⟨_, congrArg Host.Outcome.next (s.cmIn_up e _ hu hr hm), ?_⟩,
    fun qpn c s hq hc hrts ha ho hs he hl hp => ?_, fun qpn s h => ?_⟩
  · obtain ⟨k, run⟩ := exec_cmFrame i e r q s hi
    exact ⟨_, run, if_pos (by rw [hu]; rfl)⟩
  · obtain ⟨k, run⟩ := exec_cmFrame i e r q s hi
    exact ⟨_, run, (if_neg (by rw [hu]; decide)).trans (if_pos (by rw [hr]; rfl))⟩
  · obtain ⟨k, run⟩ := exec_cmFrame i e r q s hi
    exact ⟨_, run, (if_neg (by rw [hu]; decide)).trans ((if_neg (by rw [hr]; decide)).trans (if_pos (by rw [hm]; rfl)))⟩
  · refine ⟨{ s.reqConn e r d with qpn := s.qpnOf slot, rts := true }, ?_⟩
    beta_reduce
    rw [State.propose_alone (s.toFirmware e 1) slot (s.reqConn e r d) ha (s.portUp_link e hu) hp]
    exact ⟨State.conn_setConn_self _ _ _, rfl, rfl, rfl, rfl, rfl, rfl, rfl, rfl, rfl, rfl, rfl, fun k hk => SMap.find?_insert_other _ _ _ _ (Ne.symm hk)⟩
  · obtain ⟨stored, sent⟩ := State.propose_twin (s.toFirmware e 1) slot (s.reqConn e r d) ha
    exact ⟨_, { s.reqConn e r d with qpn := s.qpnOf slot, own := false, rts := true, route := {} }, stored, rfl, rfl, rfl, rfl, rfl, rfl, sent⟩
  · beta_reduce
    rw [State.sendRej, State.sendFrameEth_free _ _ (s.portUp_link e hu) hp]
    exact ⟨rfl, _, _, rfl, rfl, rfl⟩
  · have live : (s.toFirmware e 1).liveConn qpn = some c := hc
    beta_reduce
    rw [live]
    exact ⟨State.conn_setConn_self _ _ _, fun k hk => SMap.find?_insert_other _ _ _ _ (Ne.symm hk), rfl, rfl⟩
  · beta_reduce
    rw [State.endConn_idle (s := s.toFirmware e 1) hq hc hrts ha ho hs]
    exact (s.toFirmware e 1).connDropped_effect _ c
  · beta_reduce
    rw [State.endConn_drep (s := s.toFirmware e 1) hq hc hrts ha ho hs hl hp]
    obtain ⟨gone, others, -⟩ := State.connDropped_effect (((s.toFirmware e 1).emit (.frame (c.ended.frame (.cmDrep c.reqQpn)))).bump
      (Ctr.E_CNT_TX_PKT (macPage c.route.mac) c.route.port)) (qpn % 1048576) c
    exact ⟨gone, others, c.ended, rfl, rfl, rfl⟩
  · have found : (s.toFirmware e 1).connOfQpn qpn = some c := hq
    have slot : (s.toFirmware e 1).conn (qpn % 1048576) = some c := State.connOfQpn_conn _ _ _ hq
    beta_reduce
    rw [found]
    dsimp only
    rw [if_pos hc, State.connGone_closed _ _ c slot hc ho ht]
    exact ⟨SMap.find?_erase_self _ _, fun k hk => SMap.find?_erase_other _ _ _ (Ne.symm hk), rfl⟩
  · have faulty : (c.error && !c.closing) = true := by rw [he, hc]; rfl
    have run : exec (.errorDreq qpn) s = .next ((s.sendFrameEth (c.frame (.cmDreq c.reqQpn))).endConn qpn false) := by
      simp only [exec, execErrorDreq, hq, faulty, if_true]
    rw [State.sendFrameEth_free _ (c.frame _) hl hp] at run
    refine ⟨_, run.trans (congrArg Host.Outcome.next (State.endConn_idle hq hc hrts ha ho hs)), ?_⟩
    obtain ⟨gone, others, -, out, -⟩ := State.connDropped_effect ((s.emit (.frame (c.frame (.cmDreq c.reqQpn)))).bump
      (Ctr.E_CNT_TX_PKT (macPage c.route.mac) c.route.port)) (qpn % 1048576) c
    exact ⟨gone, out, others⟩
  · refine ⟨s, congrArg Host.Outcome.next ?_, rfl⟩
    split
    · rename_i c hq
      rw [hq] at h
      refine if_neg ?_
      cases he : c.error with
      | false => exact Bool.false_ne_true
      | true =>
        have closing : c.closing = true := by simpa [he] using h
        rw [closing]; decide
    · rfl

end Sys2Proof
end

section
namespace Sys2Proof.Machine

/-! ## A rewind that takes the twin link down (R110, R158, R473)

A rewind checks no group of the frame it goes to. A frame with TWL_CTL.ENABLE clear, gone to in SERVE, takes both paths of the twin link DOWN; with
that the twin is lost, and the controller goes on in SOLO. -/

/-- The frame in force, with the twin link enabled. -/
def linkedFrame : Frame := ⟨2, 0, 1, .accepted, ⟨[(Reg.TWL_CTL, 1)]⟩⟩

/-- The frame before it, with the twin link disabled. -/
def unlinkedFrame : Frame := ⟨1, 0, 1, .kept, ⟨[(Reg.TWL_CTL, 0)]⟩⟩

/-- A controller of a pair in SERVE with one path of the twin link up, which has both frames. -/
def linkedInServe : State := { State.reset with
  regs := ⟨[(Reg.TWL_CTL, 1)]⟩
  mode := { State.reset.mode with mode := .serve }
  pwr := { State.reset.pwr with core := true }
  twl := { State.reset.twl with cut := false, pathA := { state := .up } }
  pair := { State.reset.pair with record := some ⟨1, 0, 1, 0, 0⟩ }
  sht := { State.reset.sht with inForce := 2, highest := 2, live := [linkedFrame, unlinkedFrame], committed := ⟨[(Reg.TWL_CTL, 1)]⟩ } }

theorem linkedInServe_rewind : exec (.shtRewindWrite 1) linkedInServe = .next (linkedInServe.rewind 1).1 ∧
    (linkedInServe.rewind 1).1.mode.mode = .solo := ⟨rfl, rfl⟩

end Sys2Proof.Machine
end

section
namespace Sys2Proof
open Sys2Proof.Machine

/-- Refutes O41: in SERVE, a rewind to a frame with the twin link disabled loses the twin, and the mode does not stay. -/
theorem not_framesByRegister : ¬ Obligations.FramesByRegister := by
  rintro ⟨-, -, rewind, -⟩
  obtain ⟨t, run, -, -, -, mode⟩ := rewind 1 unlinkedFrame linkedInServe rfl (by decide) (by decide) rfl rfl (by decide)
  obtain ⟨ran, solo⟩ := linkedInServe_rewind
  have next : t = (linkedInServe.rewind 1).1 := Host.Outcome.next.inj (run.symm.trans ran)
  have stays : Mode.serve = Mode.solo := by
    calc Mode.serve = t.mode.mode := (congrArg (·.mode) mode).symm
      _ = (linkedInServe.rewind 1).1.mode.mode := by rw [next]
      _ = Mode.solo := solo
  exact absurd stays (by decide)

end Sys2Proof
end

section
namespace Sys2Proof.Machine

/-! ## A rewind that ends its own command (R118, R473)

The rewind of `linkedInServe` loses the twin, and with the twin ends the PAIR_FORM under way, by its tag. No statement keeps that tag apart from the
next one to be given out: where they are the same, FRAME_REWIND is what is ended, as aborted, and its own Success finds no command. -/

/-- A pair that has begun to form, under a tag. -/
def formingOf (tag : Nat) : Forming := ⟨false, 0, 0, ⟨0, false, 0⟩, tag, 1, [], [], [], [], {}, [], 0, 0⟩

/-- `linkedInServe` with the link of function 0 up, and a pair forming whose tag is the one the next command gets. -/
def formingInServe : State := { linkedInServe with
  mode := { linkedInServe.mode with bringup := .served }
  cxl := { linkedInServe.cxl with portA := { linkedInServe.cxl.portA with link0 := { state := .l0 } } }
  pair := { linkedInServe.pair with forming := some (formingOf linkedInServe.tagNow) } }

theorem formingInServe_takes : formingInServe.takes ⟨0, false, 4⟩ ⟨0xC601, false, true, false, false⟩ = true := rfl

set_option maxRecDepth 4000 in
theorem formingInServe_rewind : ∃ t, exec (.frameRewind ⟨0, false, 4⟩ [1]) formingInServe = .next t ∧
    t.out.take 2 = [.msix 0 0, .mbx ⟨0, false, 4⟩ 0xC601 17 0 []] := ⟨_, rfl, rfl⟩

end Sys2Proof.Machine
end

section
namespace Sys2Proof
open Sys2Proof.Machine

/-- Refutes O28: a FRAME_REWIND that loses the twin is aborted by the end of PAIR_FORM, where both have one tag. -/
theorem not_testsFramesAndLog : ¬ Obligations.TestsFramesAndLog := by
  rintro ⟨-, -, rewind, -⟩
  obtain ⟨t, run, -, -, out⟩ := rewind ⟨0, false, 4⟩ [1] unlinkedFrame formingInServe formingInServe_takes rfl rfl (by decide) (by decide) rfl
    rfl (by decide)
  obtain ⟨u, ran, aborted⟩ := formingInServe_rewind
  have next : t = u := Host.Outcome.next.inj (run.symm.trans ran)
  rw [next, aborted] at out
  exact absurd out (by decide)

end Sys2Proof
end

section
namespace Sys2Proof.Machine

/-! ## The configuration flash (R478 to R495) -/

/-! ### A register operation -/

/-- With the unlock open an operation runs behind the write of its code, which has closed the unlock. -/
theorem State.flsCmd_open {s u : State} {who op : Nat} (body : State → State) (hc : s.pwr.core = true) (hw : who < 5) (hu : s.unlocked who = true)
    (h : u = (s.relock who).setFld Reg.FLS_CMD Fld.FLS_CMD_OP op) : (.next (s.flsCmd who op body) : Ans) = .next (body u) := by
  rw [State.flsCmd, if_neg (by simp [hc, hw]), s.guarded_open who hu, h]

theorem Bank.ready_idle (b : Bank) (o : FlsOp) (hi : b.state = .idle) : b.ready o = true := by
  simp [Bank.ready, hi]

theorem Bank.start_program (b : Bank) (n : Nat) (c : FlsClient) (fa : Nat) (w : BitVec 256) (hi : b.state = .idle) :
    b.start n ⟨c, fa, some w⟩ = { b with cur := some ⟨c, fa, some w⟩, state := .programming } := by
  rw [Bank.start, hi]
  rfl

theorem Bank.start_erase (b : Bank) (n : Nat) (c : FlsClient) (fa : Nat) (hi : b.state = .idle) :
    b.start n ⟨c, fa, none⟩ =
      { b with cur := some ⟨c, fa, none⟩, state := .erasing, journal := b.journal.pendingErase (journalBase n) (faSector fa) } := by
  rw [Bank.start, hi]
  rfl

theorem State.flsIssue_area (s : State) (o : FlsOp) (ha : s.areaOk o.fa = false) : s.flsIssue o = s.flsResult 7 :=
  if_pos (by simp [ha])

theorem State.flsIssue_protected (s : State) (o : FlsOp) (ha : s.areaOk o.fa = true) (hp : s.fls.protected_ o.fa = true) :
    s.flsIssue o = s.flsResult 5 :=
  (if_neg (by simp [ha])).trans (if_pos hp)

/-- An operation that no check stops starts at once on an idle bank with an empty queue (R479). -/
theorem State.flsIssue_idle (s : State) (o : FlsOp) (ha : s.areaOk o.fa = true) (hp : s.fls.protected_ o.fa = false)
    (hb : o.word.isSome = true → s.flashWord o.fa = BitVec.allOnes 256) (hi : (s.fls.bank (faBank o.fa)).state = .idle)
    (hq : (s.fls.bank (faBank o.fa)).queue = []) :
    s.flsIssue o = (s.setBank (faBank o.fa) ((s.fls.bank (faBank o.fa)).start (faBank o.fa) o)).flsBusy := by
  have free : ¬ ((o.word.isSome && s.flashWord o.fa != BitVec.allOnes 256) = true) := by
    rw [Bool.and_eq_true]
    rintro ⟨h, h'⟩
    simp [hb h] at h'
  rw [State.flsIssue, if_neg (by simp [ha]), if_neg (by simp [hp]), if_neg (by simp [hi]), if_neg free,
    if_pos (by simp [Bank.ready_idle _ _ hi, hq])]

/-- What FLASH_READ does to an idle bank. -/
theorem State.flashRead_idle (who : Nat) (s : State) (u : State) (hc : s.pwr.core = true) (hw : who < 5) (hu : s.unlocked who = true)
    (h : u = (s.relock who).setFld Reg.FLS_CMD Fld.FLS_CMD_OP 1) (hi : (u.fls.bank (faBank u.flsAddr)).state = .idle) :
    exec (.flashRead who) s = .next ((u.setFlsData (u.flashWord u.flsAddr)).flsResult 1).freed := by
  refine (State.flsCmd_open _ hc hw hu h).trans (congrArg Host.Outcome.next (if_neg ?_))
  simp [hi]

/-- What FLASH_READ does to a bank that programs or erases. -/
theorem State.flashRead_busy (who : Nat) (s : State) (u : State) (hc : s.pwr.core = true) (hw : who < 5) (hu : s.unlocked who = true)
    (h : u = (s.relock who).setFld Reg.FLS_CMD Fld.FLS_CMD_OP 1)
    (hb : (u.fls.bank (faBank u.flsAddr)).state = .programming ∨ (u.fls.bank (faBank u.flsAddr)).state = .erasing) :
    ∃ d, exec (.flashRead who) s = .next (((u.setFlsData d).flsResult 3).freed.bump Ctr.FLS_CNT_READ_BUSY) := by
  refine ⟨_, (State.flsCmd_open _ hc hw hu h).trans (congrArg Host.Outcome.next (if_pos ?_))⟩
  rcases hb with hb | hb <;> simp [hb]

/-! ### The end of an operation -/

@[simp] theorem Flash.bank_setBank (f : Flash) (n : Nat) (b : Bank) : (f.setBank n b).bank n = b := by
  by_cases h : n = 0 <;> simp [Flash.setBank, Flash.bank, h]

@[simp] theorem Flash.setBank_words (f : Flash) (n : Nat) (b : Bank) : (f.setBank n b).words = f.words := by
  by_cases h : n = 0 <;> simp [Flash.setBank, h]

theorem State.flsResult_bank (s : State) (r n : Nat) : (s.flsResult r).fls.bank n = s.fls.bank n := rfl

theorem State.flsResult_words (s : State) (r : Nat) : (s.flsResult r).fls.words = s.fls.words := rfl

theorem State.flsFailed_skip (s : State) (n : Nat) (o : FlsOp) : faSector o.fa ∈ (s.flsFailed n o).fls.skip := by
  have listed : ∀ (l : List Nat) (k : Nat), k ∈ (if l.contains k then l else l ++ [k]) := by
    intro l k
    split
    · next h => exact List.contains_iff_mem.mp h
    · exact List.mem_append_right _ (List.mem_singleton_self k)
  exact listed _ _

theorem State.flsFailed_reports (s : State) (n : Nat) (o : FlsOp) :
    (s.flsFailed n o).flt.reports = s.flt.reports ++ [⟨unitId 0x15 n, 0x1A, Cls.major⟩] := rfl

theorem State.flsFailed_ctr (s : State) (n : Nat) (o : FlsOp) (h : o.word.isSome = true) :
    (s.flsFailed n o).ctr Ctr.FLS_CNT_PROG_FAIL = s.ctr Ctr.FLS_CNT_PROG_FAIL + 1 :=
  State.ctr_of_bump (by rw [State.flsFailed, if_pos h]; rfl)

theorem State.flsFailed_fresh (s : State) (n : Nat) (o : FlsOp) : (s.flsFailed n o).fresh = s.fresh := by simp

/-- The bank and the word array after a program of a bank has ended, before its result is set. -/
def State.programEnded (s : State) (bank : Nat) (o : FlsOp) (v : BitVec 256) (failed : Bool) : State :=
  (({ s with fls := { s.fls with words := s.fls.words.put (BitVec.allOnes 256) (o.fa / 32) v } }).setBank bank
    (Bank.next { s.fls.bank bank with cur := none, state := .idle, failed := failed } bank)).flsBusy

theorem State.programEnded_words (s : State) (bank : Nat) (o : FlsOp) (v : BitVec 256) (failed : Bool) :
    (s.programEnded bank o v failed).fls.words = s.fls.words.put (BitVec.allOnes 256) (o.fa / 32) v := Flash.setBank_words _ _ _

theorem State.programEnded_bank (s : State) (bank : Nat) (o : FlsOp) (v : BitVec 256) (failed : Bool) :
    (s.programEnded bank o v failed).fls.bank bank = Bank.next { s.fls.bank bank with cur := none, state := .idle, failed := failed } bank :=
  Flash.bank_setBank _ _ _

section
variable (s : State) (bank : Nat) (o : FlsOp)

theorem State.programDone_passes (w : BitVec 256) (hs : (s.fls.bank bank).state = .programming) (ho : (s.fls.bank bank).cur = some o)
    (hw : o.word = some w) (hr : o.client = .register) (hc : s.pwr.core = true) (hb : bank < 2) :
    exec (.flashProgramDone bank true) s =
      .next ((s.programEnded bank o (s.fls.words.getD (o.fa / 32) (BitVec.allOnes 256) &&& w) false).flsResult 1) := by
  refine congrArg Host.Outcome.next ((if_neg (by simp [hc, hb])).trans ?_)
  simp only [hs, ho, hr, hw, Option.getD_some, if_true]
  rfl

/-- What a program of a register that has passed shows (R478, R482). -/
theorem State.programPassed_shows (w : BitVec 256) :
    let t := (s.programEnded bank o (s.fls.words.getD (o.fa / 32) (BitVec.allOnes 256) &&& w) false).flsResult 1
    t.fls.words.getD (o.fa / 32) (BitVec.allOnes 256) = s.fls.words.getD (o.fa / 32) (BitVec.allOnes 256) &&& w ∧ t.fls.result = 1 ∧
      t.fls.bank bank = Bank.next { s.fls.bank bank with cur := none, state := .idle, failed := false } bank ∧ t.flt = s.flt := by
  refine ⟨?_, rfl, ?_, rfl⟩
  · rw [State.flsResult_words, State.programEnded_words, SMap.getD_put_self]
  · rw [State.flsResult_bank, State.programEnded_bank]

/-- What a failed program of a register shows (R495). -/
theorem State.programFailed_shows (v : BitVec 256) (hw : o.word.isSome = true) :
    let t := ((s.programEnded bank o v true).freed.flsFailed bank o).flsResult 4
    t.fls.result = 4 ∧ faSector o.fa ∈ t.fls.skip ∧ t.fresh = s.fresh + 1 ∧
      t.flt.reports = s.flt.reports ++ [⟨unitId 0x15 bank, 0x1A, Cls.major⟩] ∧ t.ctr Ctr.FLS_CNT_PROG_FAIL = s.ctr Ctr.FLS_CNT_PROG_FAIL + 1 :=
  ⟨rfl, State.flsFailed_skip (s.programEnded bank o v true).freed bank o, State.flsFailed_fresh (s.programEnded bank o v true).freed bank o,
    State.flsFailed_reports (s.programEnded bank o v true).freed bank o, State.flsFailed_ctr (s.programEnded bank o v true).freed bank o hw⟩

theorem State.programDone_fails (hs : (s.fls.bank bank).state = .programming) (ho : (s.fls.bank bank).cur = some o)
    (hr : o.client = .register) (hc : s.pwr.core = true) (hb : bank < 2) :
    exec (.flashProgramDone bank false) s =
      .next (((s.programEnded bank o (BitVec.ofNat 256 s.freeVal) true).freed.flsFailed bank o).flsResult 4) := by
  refine congrArg Host.Outcome.next ((if_neg (by simp [hc, hb])).trans ?_)
  simp only [hs, ho, hr]
  rfl

/-- The bank after its erase has ended, with the DONE entry. -/
def State.erasedBank (s : State) (bank : Nat) (o : FlsOp) : Bank :=
  Bank.next { s.fls.bank bank with
    cur := none, state := .idle, failed := false, auto := false, resume := false
    journal := (s.fls.bank bank).journal.append 2 0 (faSector o.fa * 65536) } bank

/-- The flash after the erase of a bank has ended, before its result is set. -/
def State.eraseEnded (s : State) (bank : Nat) (o : FlsOp) : State :=
  (({ s with fls := s.fls.eraseSector (faSector o.fa) }).setBank bank (s.erasedBank bank o)).flsBusy

theorem State.eraseEnded_words (s : State) (bank : Nat) (o : FlsOp) :
    (s.eraseEnded bank o).fls.words = s.fls.words.filter (fun w _ => faSector (32 * w) != faSector o.fa) := Flash.setBank_words _ _ _

theorem State.eraseEnded_bank (s : State) (bank : Nat) (o : FlsOp) : (s.eraseEnded bank o).fls.bank bank = s.erasedBank bank o :=
  Flash.bank_setBank _ _ _

theorem State.eraseDone_passes (hs : (s.fls.bank bank).state = .erasing) (ho : (s.fls.bank bank).cur = some o)
    (hr : o.client = .register) (hc : s.pwr.core = true) (hb : bank < 2) :
    exec (.flashEraseDone bank true) s =
      .next ((s.eraseEnded bank o).flsResult 1) := by
  refine congrArg Host.Outcome.next ((if_neg (by simp [hc, hb])).trans ?_)
  simp only [hs, ho, hr, beq_self_eq_true, if_true]
  rfl

end

/-! ### Suspension, the journals and the protection -/

theorem State.progWaitExpired_suspends (s : State) (bank : Nat) (c q : FlsOp) (hc : s.pwr.core = true) (hb : bank < 2)
    (hs : (s.fls.bank bank).state = .erasing) (ho : (s.fls.bank bank).cur = some c) (hf : faOff c.fa < 0x1000000)
    (hq : q ∈ (s.fls.bank bank).queue) (hw : q.word.isSome = true) (hn : faSector q.fa ≠ faSector c.fa) :
    exec (.progWaitExpired bank) s =
      .next (s.setBank bank (Bank.next { s.fls.bank bank with state := .eraseSuspended, auto := true } bank)) := by
  have waits : (s.fls.bank bank).queue.any (fun o => o.word.isSome && faSector c.fa != faSector o.fa) = true :=
    List.any_eq_true.mpr ⟨q, hq, by simp [hw, Ne.symm hn]⟩
  refine congrArg Host.Outcome.next ((if_neg (by simp [hc, hb])).trans (if_pos ?_))
  simp [hs, ho, Nat.not_le.mpr hf, waits]

section
variable {who : Nat} {s u : State}

/-- What PROT_WRITE does with the right password and nothing staged outside the protectable areas (R486, R487). -/
theorem State.protWrite_takes (hc : s.pwr.core = true) (hw : who < 5) (hu : s.unlocked who = true)
    (h : u = (s.relock who).setFld Reg.FLS_CMD Fld.FLS_CMD_OP 6) (hl : u.fls.locked = false)
    (hp : u.fls.password = none ∨ u.fls.password = some u.flsPwd) (hA : u.fls.stageA &&& 0x00FF0000 = 0)
    (hB : u.fls.stageB &&& 0xFFFF0000 = 0) (hI : u.fls.stageInfo &&& 0x3F = 0) :
    exec (.protWrite who) s = .next (State.flsResult { u with fls := { u.fls with
      wrong := 0, protA := u.fls.stageA, protB := u.fls.stageB, protInfo := u.fls.stageInfo ||| 0x40 } } 1) := by
  refine (State.flsCmd_open _ hc hw hu h).trans (congrArg Host.Outcome.next ?_)
  exact (if_neg (by simp [hl])).trans ((if_neg (by rcases hp with hp | hp <;> simp [hp])).trans (if_neg (by rw [hA, hB, hI]; decide)))

/-- What PROT_WRITE does with a wrong password (R487). -/
theorem State.protWrite_refuses (hc : s.pwr.core = true) (hw : who < 5) (hu : s.unlocked who = true)
    (h : u = (s.relock who).setFld Reg.FLS_CMD Fld.FLS_CMD_OP 6) (hl : u.fls.locked = false) {p : BitVec 64} (hp : u.fls.password = some p)
    (hne : p ≠ u.flsPwd) :
    exec (.protWrite who) s = .next ((State.flsResult { u with fls := { u.fls with
      wrong := min 4 (u.fls.wrong + 1), locked := decide (4 ≤ u.fls.wrong + 1) } } 8).bump Ctr.FLS_CNT_PWD_REFUSED) := by
  refine (State.flsCmd_open _ hc hw hu h).trans (congrArg Host.Outcome.next ?_)
  exact (if_neg (by simp [hl])).trans (if_pos (by simp [hp, hne]))

end

theorem State.journalScan_clean (s : State) (ha : s.fls.bankA.journal.torn = []) (hb : s.fls.bankB.journal.torn = []) : s.journalScan = s := by
  have a : (s.fls.bank 0).journal.torn = [] := ha
  have b : (s.fls.bank 1).journal.torn = [] := hb
  rw [State.journalScan, show List.range 2 = [0, 1] from rfl, List.foldl_cons, a, List.foldl_nil, List.foldl_cons, b]
  rfl

end Sys2Proof.Machine
end

section
namespace Sys2Proof
open Sys2Proof.Machine

/-- Settles O40: each clause is the branch of its instruction that the hypotheses select. -/
theorem flashOperations : Obligations.FlashOperations := by
  unfold Obligations.FlashOperations
  refine ⟨?program, ?erase, ?area, ?protect, ?read, ?readBusy, ?suspend, ?resume, ?programDone, ?programFailed, ?eraseDone, ?fetch, ?wait, ?scan,
    ?protWrite, ?wrongPassword, ?pwdSet⟩
  case program =>
    rintro who u b s hc hw hu h ha hp hblank rfl hi hq
    refine ⟨_, (State.flsCmd_open _ hc hw hu h).trans (congrArg Host.Outcome.next (State.flsIssue_idle _ _ ha hp (fun _ => hblank) hi hq)), ?_⟩
    beta_reduce
    rw [Bank.start_program _ _ _ _ _ hi]
  case erase =>
    rintro who u b s hc hw hu h ha hp rfl hi hq
    refine ⟨_, (State.flsCmd_open _ hc hw hu h).trans (congrArg Host.Outcome.next (State.flsIssue_idle _ _ ha hp nofun hi hq)), ?_⟩
    beta_reduce
    rw [Bank.start_erase _ _ _ _ hi]
  case area =>
    rintro who u s hc hw hu h ha
    exact ⟨_, (State.flsCmd_open _ hc hw hu h).trans (congrArg Host.Outcome.next (State.flsIssue_area _ _ ha)), rfl⟩
  case protect =>
    rintro who u s hc hw hu h ha hp
    exact ⟨_, (State.flsCmd_open _ hc hw hu h).trans (congrArg Host.Outcome.next (State.flsIssue_protected _ _ ha hp)), rfl⟩
  case read =>
    rintro who u b s hc hw hu h rfl hi
    exact ⟨_, State.flashRead_idle who s u hc hw hu h hi, rfl⟩
  case readBusy =>
    rintro who u b s hc hw hu h rfl hb
    obtain ⟨d, run⟩ := State.flashRead_busy who s u hc hw hu h hb
    subst h
    exact ⟨_, run, rfl, State.ctr_of_bump (by simp [State.bump, State.bumpBy, State.ctr, State.setFld]), by simp [State.flsResult, State.setFld]⟩
  case suspend =>
    rintro who u b s hc hw hu h rfl
    exact ⟨_, State.flsCmd_open _ hc hw hu h, rfl⟩
  case resume =>
    rintro who u b s hc hw hu h rfl
    exact ⟨_, State.flsCmd_open _ hc hw hu h, rfl⟩
  case programDone =>
    intro bank o w s hc hb hs ho hw hr
    exact ⟨_, State.programDone_passes s bank o w hs ho hw hr hc hb, s.programPassed_shows bank o w⟩
  case programFailed =>
    intro bank o w s hc hb hs ho hw hr
    exact ⟨_, State.programDone_fails s bank o hs ho hr hc hb, s.programFailed_shows bank o (BitVec.ofNat 256 s.freeVal) (by rw [hw]; rfl)⟩
  case eraseDone =>
    intro bank o s hc hb hs ho hr
    exact ⟨_, State.eraseDone_passes s bank o hs ho hr hc hb, s.eraseEnded_words bank o, rfl, (State.flsResult_bank _ 1 bank).trans (s.eraseEnded_bank bank o), rfl⟩
  case fetch =>
    intro bank s hc hb hs
    refine ⟨_, congrArg Host.Outcome.next ((if_neg (by simp [hc, hb])).trans (if_pos ?_)), rfl⟩
    rcases hs with hs | hs <;> simp [hs]
  case wait =>
    intro bank c q s hc hb hs ho hf hq hw hn
    exact ⟨_, State.progWaitExpired_suspends s bank c q hc hb hs ho hf hq hw hn, rfl⟩
  case scan =>
    intro s hc hb
    exact ⟨_, congrArg Host.Outcome.next (if_neg (by simp [hc, hb])), rfl, s.journalScan_clean⟩
  case protWrite =>
    rintro who u s hc hw hu h hl hp hA hB hI
    exact ⟨_, State.protWrite_takes hc hw hu h hl hp hA hB hI, by rw [h]; rfl⟩
  case wrongPassword =>
    rintro who u p s hc hw hu h hl hp hne
    exact ⟨_, State.protWrite_refuses hc hw hu h hl hp hne, by rw [h]; rfl, State.ctr_of_bump (by rw [h]; rfl)⟩
  case pwdSet =>
    rintro who u s hc hw hu h hp
    exact ⟨_, (State.flsCmd_open _ hc hw hu h).trans (congrArg Host.Outcome.next (if_neg (by simp [hp]))), by rw [h]; rfl⟩

end Sys2Proof
end

section
namespace Sys2Proof.Machine

/-! ## Links of the CXL host ports (R371 to R393) -/

theorem State.port_setPort (s : State) (p : Nat) (v : Port) : (s.setPort p v).port p = v := by
  by_cases h : p = 0 <;> simp [State.setPort, State.port, h]

theorem State.link_setLink (s : State) (p k : Nat) (l : Link) : (s.setLink p k l).link p k = l := by
  by_cases h : k = 0 <;> simp [State.setLink, State.link, h, State.port_setPort]

/-- Setting a link leaves the settings of its port. -/
theorem State.port_setLink (s : State) (p k : Nat) (l : Link) :
    ((s.setLink p k l).port p).mode = (s.port p).mode ∧ ((s.setLink p k l).port p).lds = (s.port p).lds ∧
      ((s.setLink p k l).port p).ideReq = (s.port p).ideReq := by
  by_cases h : k = 0 <;> simp [State.setLink, h, State.port_setPort]

theorem State.setLink_setLink (s : State) (p k : Nat) (l m : Link) : (s.setLink p k l).setLink p k m = s.setLink p k m := by
  by_cases h : k = 0 <;> by_cases h' : p = 0 <;> simp [State.setLink, State.setPort, State.port, h, h']

theorem State.port_congr {s t : State} (h : t.cxl = s.cxl) (p : Nat) : t.port p = s.port p := by
  rw [State.port, State.port, h]

theorem State.link_congr {s t : State} (h : t.cxl = s.cxl) (p k : Nat) : t.link p k = s.link p k := by
  rw [State.link, State.link, State.port_congr h]

theorem State.linkInUse_setLink (s : State) (p k q j : Nat) (l : Link) (h : q = p) : (s.setLink p k l).linkInUse q j = s.linkInUse q j := by
  subst h
  simp [State.linkInUse, Port.hasLink, s.port_setLink q k l]

/-- The link of a port that is in use. -/
theorem State.linkInUse_port {s : State} {p k : Nat} (h : s.linkInUse p k = true) : p < 2 := by
  simp only [State.linkInUse, Bool.and_eq_true, decide_eq_true_eq] at h
  exact h.1.2

/-- The link after it has gone down. -/
theorem State.link_linkDown (s : State) (p k : Nat) (dest : LinkState) : ∃ d, (s.linkDown p k dest).link p k =
    { s.link p k with state := dest, width := 0, req := 0, rwd := 0, withheld := (0, 0), retry := [], gpf := none, discard := d } :=
  ⟨_, State.link_setLink _ _ _ _⟩

/-! ### Credits and RAS bits -/

theorem State.grantCredits_free (s : State) (p k : Nat) (h : (s.port p).ideReq = false ∨ (s.link p k).ide = 1) :
    s.grantCredits p k = s.setLink p k { s.link p k with req := 256, rwd := 256 } :=
  if_neg (by rcases h with h | h <;> simp [h])

theorem State.grantCredits_waits (s : State) (p k : Nat) (h : (s.port p).ideReq = true) (hi : (s.link p k).ide ≠ 1) : s.grantCredits p k = s :=
  if_pos (by simp [h, hi])

/-- Setting a RAS bit sets the bit and leaves the stream of the link. -/
theorem State.ras_link (s : State) (p k bit : Nat) (hb : bit < 6) :
    ((s.ras p k bit).link p k).ras.getLsbD bit = true ∧ ((s.ras p k bit).link p k).ide = (s.link p k).ide := by
  rw [State.ras]
  split
  · next h => exact ⟨h, rfl⟩
  · refine (State.link_congr (foldl_cxl _ (fun s fn => ?_) _ _) p k).symm ▸ ?_
    · split <;> rfl
    · refine (State.link_setLink s p k _).symm ▸ ⟨?_, rfl⟩
      simp only [BitVec.getLsbD_or, BitVec.getLsbD_ofNat, hb, decide_true, Bool.true_and, Nat.testBit_two_pow_self, Bool.or_true]

/-! ### What the instructions do to a link in use -/

section
variable {s : State} {port link : Nat} (hu : s.linkInUse port link = true)
include hu

theorem State.cxlLinkL0_trained (hm : s.mode.mode ≠ .standby) (ht : (s.link port link).state = .training) :
    ∃ w, exec (.cxlLinkL0 port link) s = .next
      ((s.setLink port link { s.link port link with state := .l0, width := w }).grantCredits port link) := by
  refine ⟨if (s.link port link).width = 0 then (s.port port).fullWidth else (s.link port link).width,
    congrArg Host.Outcome.next ((if_neg (by simp [hu, hm])).trans ?_)⟩
  dsimp only
  rw [ht]

theorem State.cxlLinkL0_replayed (hm : s.mode.mode ≠ .standby) (ht : (s.link port link).state = .recovery) (hw : (s.link port link).width ≠ 0)
    (hr : (s.link port link).retry = []) :
    exec (.cxlLinkL0 port link) s = .next (s.setLink port link { s.link port link with state := .l0, retry := [] }) := by
  refine congrArg Host.Outcome.next ((if_neg (by simp [hu, hm])).trans ?_)
  dsimp only
  rw [ht, hr]
  exact if_neg hw

/-- A link that retrains on the lanes that are good (R388). -/
def State.laneRetrained (s : State) (port link : Nat) (good : BitVec 16) : State :=
  s.setLink port link { s.link port link with
    state := .recovery, width := bestWidth (s.port port).fullWidth good
    degraded := (s.link port link).degraded || (decide (bestWidth (s.port port).fullWidth good < (s.port port).fullWidth) &&
      bestWidth (s.port port).fullWidth good != 0) }

theorem State.cxlLaneFailure_retrains (good : BitVec 16) (hs : (s.link port link).state = .l0 ∨ (s.link port link).state = .recovery) :
    ∃ t, exec (.cxlLaneFailure port link good) s = .next t ∧ t.cxl = (s.laneRetrained port link good).cxl ∧
      (bestWidth (s.port port).fullWidth good < (s.port port).fullWidth → t.flt.reports = s.flt.reports ++ [⟨linkUnit port link, 0x14, Cls.major⟩]) := by
  have known : ¬ (((s.link port link).state != .l0 && (s.link port link).state != .recovery) = true) := by rcases hs with hs | hs <;> simp [hs]
  refine ⟨_, congrArg Host.Outcome.next ((if_neg (by simp [hu])).trans (if_neg known)), ?_⟩
  by_cases low : bestWidth (s.port port).fullWidth good < (s.port port).fullWidth
  · simp only [low, decide_true, if_true]
    refine ⟨?_, fun _ => ?_⟩
    · split <;> simp [State.report, State.laneRetrained, low]
    · split <;> simp [State.report]
  · simp only [low, decide_false, Bool.false_eq_true, if_false]
    exact ⟨by simp [State.laneRetrained, low], fun h => absurd h not_false⟩

theorem State.gpfPhase2Response_sent (g : GpfWait) (hg : (s.link port link).gpf = some g) (hc : s.gpfClear port link g = true)
    (hs : (s.link port link).state = .l0) :
    exec (.gpfPhase2Response port link) s =
      .next (((s.setLink port link { s.link port link with gpf := none }).emit (.gpf port link)).bumpLink port link Ctr.CX_CNT_GPF) := by
  refine congrArg Host.Outcome.next ((if_neg (by simp [hu])).trans ?_)
  dsimp only
  rw [hg]
  exact if_pos (by simp [hc, hs])

end

end Sys2Proof.Machine
end

section
namespace Sys2Proof
open Sys2Proof.Machine

/-- Settles O44: each clause is the branch of its instruction that the hypotheses select. -/
theorem hostLinks : Obligations.HostLinks := by
  unfold Obligations.HostLinks
  refine ⟨?trained, ?trainedHeld, ?replayed, ?lanes, ?recovery, ?retrain, ?release, ?gpfRequest, ?gpfResponse, ?ideFail, ?keys, ?crc⟩
  case trained =>
    intro port link s hu hm ht hi
    obtain ⟨w, run⟩ := State.cxlLinkL0_trained hu hm ht
    rw [State.grantCredits_free _ _ _ (.inl ((s.port_setLink port link _).2.2.trans hi)), State.link_setLink, State.setLink_setLink] at run
    refine ⟨_, run, ?_⟩
    beta_reduce
    rw [State.link_setLink]
    exact ⟨rfl, rfl, rfl, by simp, by simp⟩
  case trainedHeld =>
    intro port link s hu hm ht hi hne
    obtain ⟨w, run⟩ := State.cxlLinkL0_trained hu hm ht
    rw [State.grantCredits_waits _ _ _ ((s.port_setLink port link _).2.2.trans hi) (by rw [State.link_setLink]; exact hne)] at run
    refine ⟨_, run, ?_⟩
    beta_reduce
    rw [State.link_setLink]
    exact ⟨rfl, rfl, rfl, by simp⟩
  case replayed =>
    intro port link s hu hm ht hw hr
    exact ⟨_, State.cxlLinkL0_replayed hu hm ht hw hr, rfl⟩
  case lanes =>
    intro port link good s hu hs
    obtain ⟨t, run, cxl, reported⟩ := State.cxlLaneFailure_retrains hu good hs
    refine ⟨t, run, ?_⟩
    beta_reduce
    rw [State.link_congr cxl, State.laneRetrained, State.link_setLink]
    exact ⟨rfl, rfl, reported, fun hw low => by simp [hw, low]⟩
  case recovery =>
    intro port link s hu hs
    obtain ⟨d, down⟩ := s.link_linkDown port link .down
    refine ⟨_, congrArg Host.Outcome.next (if_neg (by simp [hu, hs])), _, rfl, ?_⟩
    rw [State.link_congr (s := s.linkDown port link .down) (by simp [State.report]), down]
    exact ⟨rfl, rfl, rfl, rfl, by simp [State.report], by simp [State.report], by simp [State.report, State.linkDown]⟩
  case retrain =>
    intro port link s hu hs hw
    exact ⟨_, congrArg Host.Outcome.next ((if_neg (by simp [hu])).trans (if_pos (by simp [hs, hw]))), rfl⟩
  case release =>
    intro port link s hu hl hm hp hs
    refine ⟨_, congrArg Host.Outcome.next (if_neg (by simp [State.linkInUse_port hu, hl])), ?_⟩
    simp [hp, hu, hm, hs]
  case gpfRequest =>
    intro port link s hu hs
    refine ⟨_, congrArg Host.Outcome.next (if_neg (by simp [hu, hs])), ?_⟩
    beta_reduce
    rw [State.link_setLink]
    exact ⟨rfl, by simp, by simp⟩
  case gpfResponse =>
    intro port link g s hu hg hc hs
    refine ⟨_, State.gpfPhase2Response_sent hu g hg hc hs, ?_, ?_, State.ctr_of_bump ?_⟩
    · simp [State.emit]
    · rw [State.link_congr (s := s.setLink port link { s.link port link with gpf := none }) (by simp [State.emit]), State.link_setLink]
    · simp [State.bumpLink, State.bump, State.bumpBy, State.ctr, State.emit]
  case ideFail =>
    intro port link s hu hi
    obtain ⟨bit, ide⟩ := ((s.setLink port link { s.link port link with ide := 2 }).bumpLink port link Ctr.CX_CNT_IDE_FAIL).ras_link port link 5 (by decide)
    refine ⟨_, congrArg Host.Outcome.next (if_neg (by simp [hu, hi])), ide.trans ?_, bit, State.ctr_of_bump ?_⟩
    · rw [State.link_congr (s := s.setLink port link { s.link port link with ide := 2 }) (by simp), State.link_setLink]
    · simp [State.bumpLink, State.bump, State.bumpBy, State.ctr]
  case keys =>
    intro port link s hu hi hf
    have run : exec (.ideKm port link) s = _ := congrArg Host.Outcome.next (if_neg (by simp [hu, hi, hf]))
    refine ⟨_, run, ?_⟩
    dsimp only
    split
    · rw [State.grantCredits_free _ _ _ (.inr (congrArg Link.ide (s.link_setLink port link _))), State.link_setLink, State.setLink_setLink, State.link_setLink]
      exact ⟨rfl, fun _ _ => ⟨rfl, rfl⟩, by simp⟩
    · next waits =>
      rw [State.link_setLink]
      exact ⟨rfl, fun hr hs => absurd (by simp [hr, hs]) waits, by simp⟩
  case crc =>
    intro port link retry s hu
    have bits : (if retry then 3 else 2) < 6 := by cases retry <;> decide
    exact ⟨_, congrArg Host.Outcome.next (if_pos hu), (s.ras_link port link _ bits).1, by simp, by simp⟩

end Sys2Proof
end

section
namespace Sys2Proof.Machine

/-! ## Functions of the CXL host ports (R370 to R393, R424) -/

/-! ### The reset of a function -/

theorem State.cancelJobs_none (s : State) (fn : Nat) (h : s.cmd.jobs = []) : s.cancelJobs fn = s := by
  rw [State.cancelJobs, h]
  rfl

theorem State.dropTransfer_none (s : State) (fn : Nat) (h : s.cmd.transfer = none) : s.dropTransfer fn = s := by
  rw [State.dropTransfer, h]

theorem State.dropTransfer_jobs (s : State) (fn : Nat) : (s.dropTransfer fn).cmd.jobs = s.cmd.jobs := by
  unfold State.dropTransfer
  repeat' split
  all_goals rfl

/-- A command before its commit point goes with its function. -/
theorem State.cancelJobs_one (s : State) (fn : Nat) (j : Job) (h : s.cmd.jobs = [j]) (hf : j.mbx.fn = fn) (hd : j.done = none)
    (hc : j.committed = false) : (s.cancelJobs fn).cmd.jobs = [] := by
  have mine : s.cmd.jobs.filter (fun j => j.mbx.fn == fn) = [j] := by simp [h, hf]
  rw [State.cancelJobs, mine, List.foldl_cons, List.foldl_nil, hd, hc]
  simp [h]

/-- A reset of a function leaves the ports. -/
theorem State.port_resetIo (s : State) (fn : Nat) (hdm : Bool) (p : Nat) : (s.resetIo fn hdm).port p = s.port p := by
  simp [State.port, State.resetIo, State.setFunc]

/-- The resets of several functions leave links, memory and mode. -/
theorem State.resetIo_all_keeps (l : List Nat) (s : State) (p k : Nat) :
    (l.foldl (fun s fn => s.resetIo fn true) s).link p k = s.link p k ∧ (l.foldl (fun s fn => s.resetIo fn true) s).mem = s.mem ∧
      (l.foldl (fun s fn => s.resetIo fn true) s).mode = s.mode := by
  induction l generalizing s with
  | nil => exact ⟨rfl, rfl, rfl⟩
  | cons fn l ih =>
    obtain ⟨links, mem, mode⟩ := ih (s.resetIo fn true)
    refine ⟨links.trans ?_, mem.trans (by simp), mode.trans (by simp)⟩
    rw [State.link, State.link, State.port_resetIo]

/-! ### The reset of a link -/

/-- A link in use taken down by PERST_N, a hot reset or a secondary bus reset, with its functions reset. -/
def State.linkReset (s : State) (port link : Nat) (cause : ResetCause) : State :=
  let l := s.link port link
  let held := s.setLink port link { l with perst := l.perst || cause == .perst }
  let down := held.linkDown port link (if cause != .perst && held.mode.mode != .standby && !l.perst then .training else .down)
  let plain := down.setLink port link { down.link port link with ide := 0 }
  (plain.linkFuncs port link).foldl (fun s fn => s.resetIo fn true) plain

theorem State.perstNAssert_resets (s : State) (port link : Nat) (cause : ResetCause) (hu : s.linkInUse port link = true) (hl : link < 2)
    (hv : ∀ lds, cause ≠ .ldVector lds) : exec (.perstNAssert port link cause) s = .next (s.linkReset port link cause).pump := by
  have used : ∀ l, ¬ ((!(s.setLink port link l).linkInUse port link) = true) := fun l => by simp [State.linkInUse_setLink _ _ _ _ _ _ rfl, hu]
  cases cause with
  | ldVector lds => exact absurd rfl (hv lds)
  | _ => exact congrArg Host.Outcome.next ((if_neg (by simp [State.linkInUse_port hu, hl])).trans (if_neg (used _)))

/-- A link after its reset: its destination, its pin, no credits, no stream; memory and mode as before. -/
theorem State.linkReset_link (s : State) (port link : Nat) (cause : ResetCause) :
    ∃ d, (s.linkReset port link cause).link port link = { s.link port link with
      state := if cause != .perst && s.mode.mode != .standby && !(s.link port link).perst then .training else .down
      perst := (s.link port link).perst || cause == .perst
      width := 0, req := 0, rwd := 0, withheld := (0, 0), retry := [], gpf := none, ide := 0, discard := d } := by
  obtain ⟨d, down⟩ := (s.setLink port link { s.link port link with perst := (s.link port link).perst || cause == .perst }).link_linkDown port link
    (if cause != .perst && s.mode.mode != .standby && !(s.link port link).perst then .training else .down)
  refine ⟨d, ?_⟩
  rw [State.linkReset, (State.resetIo_all_keeps _ _ _ _).1, State.link_setLink]
  dsimp only
  rw [(State.setLink_frame s port link _).2.2.1.2.1, down, State.link_setLink]

theorem State.linkReset_keeps (s : State) (port link : Nat) (cause : ResetCause) :
    (s.linkReset port link cause).mem = s.mem ∧ (s.linkReset port link cause).mode = s.mode :=
  ⟨(State.resetIo_all_keeps _ _ port link).2.1.trans (by simp), (State.resetIo_all_keeps _ _ port link).2.2.trans (by simp)⟩

end Sys2Proof.Machine
end

section
namespace Sys2Proof
open Sys2Proof.Machine

/-- Settles O45: a link reset by the state of its link, what a function's reset leaves, and the branch each other instruction takes. -/
theorem hostFunctions : Obligations.HostFunctions := by
  unfold Obligations.HostFunctions
  refine ⟨?reset, ?cancel, ?functionLevel, ?perst, ?hot, ?vector, ?commit, ?locked, ?doe, ?span, ?spanRefused⟩
  case reset =>
    intro fn hdm s hj ht
    exact (congrArg (State.dropTransfer · fn) (State.cancelJobs_none (s.setFunc fn _) fn hj)).trans (State.dropTransfer_none (s.setFunc fn _) fn ht)
  case cancel =>
    intro fn hdm j s hj hf hd hc
    rw [State.resetIo, State.dropTransfer_jobs]
    exact State.cancelJobs_one _ fn j hj hf hd hc
  case functionLevel =>
    intro fn s hu hf
    have used : (s.linkInUse (s.linkOf fn).1 (s.linkOf fn).2 && (s.linkFuncs (s.linkOf fn).1 (s.linkOf fn).2).contains fn) = true := by rw [hu, hf]; rfl
    exact ⟨_, congrArg Host.Outcome.next (if_pos used), rfl⟩
  case perst =>
    intro port link s hu hl
    obtain ⟨d, reset⟩ := s.linkReset_link port link .perst
    refine ⟨_, s.perstNAssert_resets port link .perst hu hl nofun, _, rfl, ?_⟩
    rw [reset]
    exact ⟨rfl, Bool.or_true _, rfl, rfl, rfl, s.linkReset_keeps port link .perst⟩
  case hot =>
    intro port link c s hu hl hc hm hp
    obtain ⟨d, reset⟩ := s.linkReset_link port link c
    have trains : (c != .perst && s.mode.mode != .standby && !(s.link port link).perst) = true := by rcases hc with rfl | rfl <;> simp [hm, hp]
    refine ⟨_, s.perstNAssert_resets port link c hu hl (by rcases hc with rfl | rfl <;> exact nofun), _, rfl, ?_⟩
    rw [reset, if_pos trains]
    exact ⟨rfl, rfl, rfl, rfl, s.linkReset_keeps port link c⟩
  case vector =>
    intro port link lds s hu hl hm
    refine ⟨_, congrArg Host.Outcome.next ((if_neg (by simp [State.linkInUse_port hu, hl])).trans ((if_neg ?_).trans (if_pos ?_))), rfl⟩
    · rw [State.linkInUse_setLink _ _ _ _ _ _ rfl, hu]; decide
    · exact (s.port_setLink port link _).1.trans hm
  case commit =>
    rintro fn idx d ds s hc hf hi hup ho rfl
    refine ⟨_, congrArg Host.Outcome.next ((if_neg (by simp [hc, hf, hi, hup])).trans (if_neg ?_)), rfl⟩
    rw [Bool.and_eq_true, not_and_or, Bool.not_eq_true, Bool.not_eq_true]
    exact ho
  case locked =>
    intro fn idx d s hc hl
    refine ⟨_, congrArg Host.Outcome.next ((congrArg (ite _ _) (if_pos ?_)).trans (ite_self _)), rfl⟩
    rw [hc, hl]; rfl
  case doe =>
    intro fn protocol words s hc hup hp
    refine ⟨_, congrArg Host.Outcome.next (if_neg (by simp [hc, hup, hp])), ?_⟩
    dsimp only
    split
    · next secured =>
      exact ⟨rfl, fun _ => congrArg Func.secured (s.func_setFunc_self fn _), fun h => absurd secured h⟩
    · next plain => exact ⟨rfl, fun h => absurd h plain, fun _ => rfl⟩
  case span =>
    intro port ld span s hc hp hl hok
    refine ⟨_, congrArg Host.Outcome.next ((if_neg (by simp [hc, hp, hl])).trans (if_pos hok)), ?_, rfl, rfl, rfl⟩
    refine congrArg (· * 268435456) ((State.fld_setFld_self s _ _ _ (by decide) (by decide)).trans (Nat.mod_eq_of_lt ?_))
    simp only [State.spanOk, Bool.and_eq_true, decide_eq_true_eq] at hok
    exact Nat.lt_of_le_of_lt hok.1.2 (by decide)
  case spanRefused =>
    intro port ld span s hc hp hl hok
    exact ⟨_, congrArg Host.Outcome.next ((if_neg (by simp [hc, hp, hl])).trans (if_neg (by simp [hok]))), rfl⟩

end Sys2Proof
end

section
namespace Sys2Proof.Machine

/-! ## What leaves CRY_CNT_ACT_REVERT (R448)

The counter of the activations reverted advances in `State.revertFw` alone. What runs with the end of an activation, the pump of the request path above
all, counts on other pages; one lemma a function, in the order of the definitions. -/

/-- The activations reverted so far. -/
abbrev State.reverts (s : State) : BitVec 64 := s.ctrs.getD Ctr.CRY_CNT_ACT_REVERT 0#64

@[simp] theorem foldl_reverts {β : Type} (f : State → β → State) (h : ∀ s a, (f s a).reverts = s.reverts) (l : List β) (s : State) :
    (l.foldl f s).reverts = s.reverts := by
  induction l generalizing s with
  | nil => rfl
  | cons a l ih => exact (ih _).trans (h s a)

@[simp] theorem State.bumpBy_reverts (s : State) (a n : Nat) (h : a ≠ Ctr.CRY_CNT_ACT_REVERT) : (s.bumpBy a n).reverts = s.reverts :=
  SMap.getD_put_other _ _ _ _ _ _ h

@[simp] theorem State.bump_reverts (s : State) (a : Nat) (h : a ≠ Ctr.CRY_CNT_ACT_REVERT) : (s.bump a).reverts = s.reverts :=
  s.bumpBy_reverts a 1 h

@[simp] theorem State.bump_frameSent_reverts (s : State) (n : Nat) : (s.bump (Ctr.TWL_CNT_TX n)).reverts = s.reverts :=
  s.bump_reverts _ (by unfold Ctr.TWL_CNT_TX Ctr.CRY_CNT_ACT_REVERT; omega)

@[simp] theorem State.bump_lineHit_reverts (s : State) (cls : Nat) : (s.bump (Ctr.LC_CNT_HIT cls)).reverts = s.reverts :=
  s.bump_reverts _ (by unfold Ctr.LC_CNT_HIT Ctr.CRY_CNT_ACT_REVERT; omega)

@[simp] theorem State.bump_lineMiss_reverts (s : State) (cls : Nat) : (s.bump (Ctr.LC_CNT_MISS cls)).reverts = s.reverts :=
  s.bump_reverts _ (by unfold Ctr.LC_CNT_MISS Ctr.CRY_CNT_ACT_REVERT; omega)

theorem State.bumpLink_reverts (s : State) (p k : Nat) (c : Nat → Nat → Nat) (h : ∀ q, 0x10 ≤ q → Ctr.CRY_CNT_ACT_REVERT < c q k) :
    (s.bumpLink p k c).reverts = s.reverts :=
  s.bump_reverts _ (Nat.ne_of_gt (h _ (by unfold portPage; split <;> decide)))

@[simp] theorem State.bumpLink_poisonRead_reverts (s : State) (p k : Nat) : (s.bumpLink p k Ctr.CX_CNT_POISON_RD).reverts = s.reverts :=
  s.bumpLink_reverts p k _ (fun q hq => by unfold Ctr.CRY_CNT_ACT_REVERT Ctr.CX_CNT_POISON_RD; omega)

@[simp] theorem State.bumpLink_write_reverts (s : State) (p k : Nat) : (s.bumpLink p k Ctr.CX_CNT_WR).reverts = s.reverts :=
  s.bumpLink_reverts p k _ (fun q hq => by unfold Ctr.CRY_CNT_ACT_REVERT Ctr.CX_CNT_WR; omega)

@[simp] theorem State.bumpLink_read_reverts (s : State) (p k : Nat) : (s.bumpLink p k Ctr.CX_CNT_RD).reverts = s.reverts :=
  s.bumpLink_reverts p k _ (fun q hq => by unfold Ctr.CRY_CNT_ACT_REVERT Ctr.CX_CNT_RD; omega)

theorem State.bumpCh_reverts (s : State) (inst : Nat) (c : Nat → Nat) (h : ∀ q, 0x40 ≤ q → Ctr.CRY_CNT_ACT_REVERT < c q) :
    (s.bumpCh inst c).reverts = s.reverts :=
  s.bump_reverts _ (Nat.ne_of_gt (h _ (by unfold chPage; split <;> omega)))

@[simp] theorem State.bumpCh_forward_reverts (s : State) (inst : Nat) : (s.bumpCh inst Ctr.DC_CNT_FWD).reverts = s.reverts :=
  s.bumpCh_reverts inst _ (fun q hq => by unfold Ctr.CRY_CNT_ACT_REVERT Ctr.DC_CNT_FWD; omega)

@[simp] theorem State.bumpCh_drain_reverts (s : State) (inst : Nat) : (s.bumpCh inst Ctr.DC_CNT_DRAIN).reverts = s.reverts :=
  s.bumpCh_reverts inst _ (fun q hq => by unfold Ctr.CRY_CNT_ACT_REVERT Ctr.DC_CNT_DRAIN; omega)

@[simp] theorem State.bumpCh_forced_reverts (s : State) (inst : Nat) : (s.bumpCh inst Ctr.DC_CNT_FORCED).reverts = s.reverts :=
  s.bumpCh_reverts inst _ (fun q hq => by unfold Ctr.CRY_CNT_ACT_REVERT Ctr.DC_CNT_FORCED; omega)

@[simp] theorem State.bump_packetSent_reverts (s : State) (mac port : Nat) : (s.bump (Ctr.E_CNT_TX_PKT (macPage mac) port)).reverts = s.reverts :=
  s.bump_reverts _ (by unfold Ctr.E_CNT_TX_PKT Ctr.CRY_CNT_ACT_REVERT macPage; omega)

@[simp] theorem State.park_reverts : ∀ s x1 x2 x3, (State.park s x1 x2 x3).reverts = s.reverts := by
  intro s x1 x2 x3
  unfold State.park
  dsimp only
  (repeat' split) <;> simp [State.reverts]

@[simp] theorem State.poisonRead_reverts : ∀ s x1 x2 x3 x4 x5, (State.poisonRead s x1 x2 x3 x4 x5).reverts = s.reverts := by
  intro s x1 x2 x3 x4 x5
  unfold State.poisonRead
  dsimp only
  (repeat' split) <;> simp [State.reverts]

@[simp] theorem State.holdBack_reverts : ∀ s x1, (State.holdBack s x1).reverts = s.reverts := by
  intro s x1
  unfold State.holdBack
  dsimp only
  (repeat' split) <;> simp [State.reverts]

@[simp] theorem State.request_reverts : ∀ s x1, (State.request s x1).1.reverts = s.reverts := by
  intro s x1
  unfold State.request
  dsimp only
  (repeat' split) <;> simp [State.reverts]

@[simp] theorem State.beginRead_reverts : ∀ s x1 x2, (State.beginRead s x1 x2).reverts = s.reverts := by
  intro s x1 x2
  unfold State.beginRead
  (repeat' split) <;> simp [State.reverts]

@[simp] theorem State.sendFrameEth_reverts : ∀ s x1, (State.sendFrameEth s x1).reverts = s.reverts := by
  intro s x1
  unfold State.sendFrameEth
  dsimp only
  (repeat' split) <;> simp [State.reverts]

@[simp] theorem State.sendAck_reverts : ∀ s x1 x2, (State.sendAck s x1 x2).reverts = s.reverts := by
  intro s x1 x2
  unfold State.sendAck
  (repeat' split) <;> simp [State.reverts]

@[simp] theorem State.messageDone_reverts : ∀ s x1 x2 x3 x4, (State.messageDone s x1 x2 x3 x4).reverts = s.reverts := by
  intro s x1 x2 x3 x4
  unfold State.messageDone
  dsimp only
  (repeat' split) <;> simp [State.reverts]

@[simp] theorem State.logAt_reverts : ∀ s x1 x2 x3 x4 x5 x6, (State.logAt s x1 x2 x3 x4 x5 x6).reverts = s.reverts := by
  intro s x1 x2 x3 x4 x5 x6
  unfold State.logAt
  dsimp only
  (repeat' split) <;> simp [State.reverts]

@[simp] theorem State.logRec_reverts : ∀ s x1 x2 x3 x4, (State.logRec s x1 x2 x3 x4).reverts = s.reverts := by
  intro s x1 x2 x3 x4
  unfold State.logRec
  (repeat' split) <;> simp [State.reverts]

@[simp] theorem State.nakError_reverts : ∀ s x1 x2 x3 x4, (State.nakError s x1 x2 x3 x4).reverts = s.reverts := by
  intro s x1 x2 x3 x4
  unfold State.nakError
  dsimp only
  (repeat' split) <;> simp [State.reverts]

@[simp] theorem State.sendReads_reverts : ∀ x0 s x2 x3, (State.sendReads x0 s x2 x3).reverts = s.reverts := by
  intro x0 s x2 x3
  induction x0 generalizing s x2 x3 with
  | zero => simp [State.reverts, State.sendReads]
  | succ k ih =>
    unfold State.sendReads
    dsimp only
    (repeat' split) <;> simp [State.reverts, ih]

@[simp] theorem State.sendFrame_reverts : ∀ s x1 x2 x3 x4, (State.sendFrame s x1 x2 x3 x4).reverts = s.reverts := by
  intro s x1 x2 x3 x4
  unfold State.sendFrame
  dsimp only
  (repeat' split) <;> simp [State.reverts]

@[simp] theorem State.sendFrames_reverts : ∀ s x1 x2 x3, (State.sendFrames s x1 x2 x3).reverts = s.reverts := by
  intro s x1 x2 x3
  induction x3 generalizing s with
  | zero => simp [State.reverts, State.sendFrames]
  | succ k ih =>
    unfold State.sendFrames
    split <;> simp [State.reverts, ih]

@[simp] theorem State.drainN_reverts : ∀ x0 s, (State.drainN x0 s).reverts = s.reverts := by
  intro x0 s
  induction x0 generalizing s with
  | zero => simp [State.reverts, State.drainN]
  | succ k ih =>
    unfold State.drainN
    dsimp only
    (repeat' split) <;> simp [State.reverts, ih]

@[simp] theorem State.drainLink_reverts : ∀ s, (State.drainLink s).reverts = s.reverts := by
  intro s
  unfold State.drainLink
  (repeat' split) <;> simp [State.reverts]

@[simp] theorem State.hand_reverts : ∀ s x1 x2 x3, (State.hand s x1 x2 x3).reverts = s.reverts := by
  intro s x1 x2 x3
  unfold State.hand
  dsimp only
  (repeat' split) <;> simp [State.reverts]

@[simp] theorem State.handNew_reverts : ∀ s x1 x2, (State.handNew s x1 x2).reverts = s.reverts := by
  intro s x1 x2
  unfold State.handNew
  dsimp only
  (repeat' split) <;> simp [State.reverts]

@[simp] theorem State.connStep_reverts : ∀ x0 s x2, (State.connStep x0 s x2).reverts = s.reverts := by
  intro x0 s x2
  induction x0 generalizing s x2 with
  | zero => simp [State.reverts, State.connStep]
  | succ k ih =>
    unfold State.connStep
    dsimp only
    (repeat' split) <;> simp [State.reverts, ih]

@[simp] theorem State.connRun_reverts : ∀ s x1, (State.connRun s x1).reverts = s.reverts := by
  intro s x1
  unfold State.connRun
  (repeat' split) <;> simp [State.reverts]

@[simp] theorem State.netLine_reverts : ∀ s x1 x2 x3 x4, (State.netLine s x1 x2 x3 x4).reverts = s.reverts := by
  intro s x1 x2 x3 x4
  unfold State.netLine
  dsimp only
  (repeat' split) <;> simp [State.reverts]

@[simp] theorem State.assistDone_reverts : ∀ s x1, (State.assistDone s x1).reverts = s.reverts := by
  intro s x1
  unfold State.assistDone
  dsimp only
  (repeat' split) <;> simp [State.reverts]

@[simp] theorem State.complete_reverts : ∀ s x1 x2 x3, (State.complete s x1 x2 x3).reverts = s.reverts := by
  intro s x1 x2 x3
  unfold State.complete
  dsimp only
  (repeat' split) <;> simp [State.reverts]

@[simp] theorem State.tryInv_reverts : ∀ s x1 x2, (State.tryInv s x1 x2).reverts = s.reverts := by
  intro s x1 x2
  unfold State.tryInv
  dsimp only
  (repeat' split) <;> simp [State.reverts]

@[simp] theorem State.onDemand_reverts : ∀ s x1, (State.onDemand s x1).reverts = s.reverts := by
  intro s x1
  unfold State.onDemand
  dsimp only
  (repeat' split) <;> simp [State.reverts]

@[simp] theorem State.hit_reverts : ∀ s x1 x2 x3, (State.hit s x1 x2 x3).reverts = s.reverts := by
  intro s x1 x2 x3
  unfold State.hit
  (repeat' split) <;> simp [State.reverts]

@[simp] theorem State.setDrain_reverts : ∀ s x1 x2, (State.setDrain s x1 x2).reverts = s.reverts := by
  intro s x1 x2
  unfold State.setDrain
  dsimp only
  (repeat' split) <;> simp [State.reverts]

@[simp] theorem State.toChannel_reverts : ∀ s x1 x2 x3 x4 x5 x6 x7, (State.toChannel s x1 x2 x3 x4 x5 x6 x7).reverts = s.reverts := by
  intro s x1 x2 x3 x4 x5 x6 x7
  unfold State.toChannel
  dsimp only
  (repeat' split) <;> simp [State.reverts]

@[simp] theorem State.remapHit_reverts : ∀ s x1, (State.remapHit s x1).reverts = s.reverts := by
  intro s x1
  unfold State.remapHit
  (repeat' split) <;> simp [State.reverts]

@[simp] theorem State.writeHome_reverts : ∀ s x1 x2 x3 x4 x5, (State.writeHome s x1 x2 x3 x4 x5).reverts = s.reverts := by
  intro s x1 x2 x3 x4 x5
  unfold State.writeHome
  dsimp only
  (repeat' split) <;> simp [State.reverts]

@[simp] theorem State.writeBack_reverts : ∀ s x1 x2 x3, (State.writeBack s x1 x2 x3).reverts = s.reverts := by
  intro s x1 x2 x3
  unfold State.writeBack
  (repeat' split) <;> simp [State.reverts]

@[simp] theorem State.place_reverts : ∀ s x1 x2 x3 x4 x5, (State.place s x1 x2 x3 x4 x5).1.reverts = s.reverts := by
  intro s x1 x2 x3 x4 x5
  unfold State.place
  dsimp only
  (repeat' split) <;> simp [State.reverts]

@[simp] theorem State.arrive_reverts : ∀ s x1 x2 x3 x4 x5, (State.arrive s x1 x2 x3 x4 x5).1.reverts = s.reverts := by
  intro s x1 x2 x3 x4 x5
  unfold State.arrive
  dsimp only
  (repeat' split) <;> simp [State.reverts]

@[simp] theorem State.askTwin_reverts : ∀ s x1 x2, (State.askTwin s x1 x2).reverts = s.reverts := by
  intro s x1 x2
  unfold State.askTwin
  dsimp only
  (repeat' split) <;> simp [State.reverts]

@[simp] theorem State.readHome_reverts : ∀ s x1 x2 x3 x4 x5, (State.readHome s x1 x2 x3 x4 x5).reverts = s.reverts := by
  intro s x1 x2 x3 x4 x5
  unfold State.readHome
  (repeat' split) <;> simp [State.reverts]

theorem State.fetch_reverts (s : State) (id : Nat) (e : Entry) : (s.fetch id e).st.reverts = s.reverts := by
  unfold State.fetch
  dsimp only
  (repeat' split) <;> simp [Fetch.st, State.reverts]

@[simp] theorem State.tryAssist_reverts : ∀ s x1 x2, (State.tryAssist s x1 x2).reverts = s.reverts := by
  intro s x1 x2
  have fetched := s.fetch_reverts x1 x2
  unfold State.tryAssist
  dsimp only
  (repeat' split) <;> simp_all [State.reverts, Fetch.st]

@[simp] theorem State.tryRead_reverts : ∀ s x1 x2, (State.tryRead s x1 x2).reverts = s.reverts := by
  intro s x1 x2
  have fetched := s.fetch_reverts x1 x2
  unfold State.tryRead
  (repeat' split) <;> simp_all [State.reverts, Fetch.st]

@[simp] theorem State.tryComplete_reverts : ∀ s x1 x2, (State.tryComplete s x1 x2).reverts = s.reverts := by
  intro s x1 x2
  unfold State.tryComplete
  (repeat' split) <;> simp [State.reverts]

@[simp] theorem State.tryIntent_reverts : ∀ s x1 x2 x3, (State.tryIntent s x1 x2 x3).reverts = s.reverts := by
  intro s x1 x2 x3
  unfold State.tryIntent
  dsimp only
  (repeat' split) <;> simp [State.reverts]

@[simp] theorem State.lateIntent_reverts : ∀ s x1 x2, (State.lateIntent s x1 x2).reverts = s.reverts := by
  intro s x1 x2
  unfold State.lateIntent
  (repeat' split) <;> simp [State.reverts]

@[simp] theorem State.trigger_reverts : ∀ s x1 x2, (State.trigger s x1 x2).reverts = s.reverts := by
  intro s x1 x2
  unfold State.trigger
  dsimp only
  (repeat' split) <;> simp [State.reverts]

@[simp] theorem State.doorbellWrite_reverts : ∀ s x1 x2 x3, (State.doorbellWrite s x1 x2 x3).reverts = s.reverts := by
  intro s x1 x2 x3
  unfold State.doorbellWrite
  (repeat' split) <;> simp [State.reverts]

@[simp] theorem State.doorbellAtomic_reverts : ∀ s x1 x2, (State.doorbellAtomic s x1 x2).1.reverts = s.reverts := by
  intro s x1 x2
  unfold State.doorbellAtomic
  dsimp only
  (repeat' split) <;> simp [State.reverts]

@[simp] theorem State.ringDoorbell_reverts : ∀ s x1 x2 x3, (State.ringDoorbell s x1 x2 x3).reverts = s.reverts := by
  intro s x1 x2 x3
  have rung := s.doorbellAtomic_reverts x3 x2.op
  unfold State.ringDoorbell
  (repeat' split) <;> simp_all [State.reverts]

@[simp] theorem State.forward_reverts : ∀ s x1 x2, (State.forward s x1 x2).reverts = s.reverts := by
  intro s x1 x2
  unfold State.forward
  dsimp only
  (repeat' split) <;> simp [State.reverts]

@[simp] theorem State.mergeFlushFull_reverts : ∀ s x1 x2, (State.mergeFlushFull s x1 x2).reverts = s.reverts := by
  intro s x1 x2
  unfold State.mergeFlushFull
  dsimp only
  (repeat' split) <;> simp [State.reverts]

theorem State.applyLine_reverts (s : State) (cls line : Nat) (d : Line) (m : Mask) (poison : Bool) (t : State)
    (h : State.applyLine s cls line d m poison = some t) : t.reverts = s.reverts := by
  unfold State.applyLine at h
  split at h
  · simp at h; subst h; simp [State.reverts]
  · split at h
    · simp at h; subst h; split <;> simp [State.reverts]
    · split at h
      · rw [Option.map_eq_some_iff] at h
        obtain ⟨a, ha, rfl⟩ := h
        have hq := State.mergeBytes_frame _ _ _ _ _ ha
        split
        · split <;> simp [State.reverts, hq]
        · simp [State.reverts, hq]
      · split at h
        · dsimp only at h
          split at h
          · simp at h; subst h; simp [State.reverts]
          · rw [Option.map_eq_some_iff] at h
            obtain ⟨a, ha, rfl⟩ := h
            have hq := State.mergeBytes_frame _ _ _ _ _ ha
            split <;> simp [State.reverts, hq]
        · have hq := State.mergeBytes_frame _ _ _ _ _ h
          simp [State.reverts, hq]

@[simp] theorem State.ecRecord_reverts : ∀ s x1 x2 x3 x4 x5 x6 x7 x8 x9, (State.ecRecord s x1 x2 x3 x4 x5 x6 x7 x8 x9).reverts = s.reverts := by
  intro s x1 x2 x3 x4 x5 x6 x7 x8 x9
  unfold State.ecRecord
  (repeat' split) <;> simp [State.reverts]

@[simp] theorem State.poisonWritten_reverts : ∀ s x1 x2 x3, (State.poisonWritten s x1 x2 x3).reverts = s.reverts := by
  intro s x1 x2 x3
  unfold State.poisonWritten
  (repeat' split) <;> simp [State.reverts]

@[simp] theorem State.orderAck_reverts : ∀ s x1, (State.orderAck s x1).reverts = s.reverts := by
  intro s x1
  unfold State.orderAck
  dsimp only
  (repeat' split) <;> simp [State.reverts]

@[simp] theorem State.propagate_reverts : ∀ s x1 x2 x3, (State.propagate s x1 x2 x3).reverts = s.reverts := by
  intro s x1 x2 x3
  unfold State.propagate
  dsimp only
  (repeat' split) <;> simp [State.reverts]

@[simp] theorem State.orderHere_reverts : ∀ s x1 x2 x3 x4 x5 x6, (State.orderHere s x1 x2 x3 x4 x5 x6).reverts = s.reverts := by
  intro s x1 x2 x3 x4 x5 x6
  have written := s.applyLine_reverts (s.classFor x2) x2.line x3 x4 x5
  unfold State.orderHere
  (repeat' split) <;> simp_all [State.reverts]

@[simp] theorem State.atomicHere_reverts : ∀ s x1 x2 x3 x4, (State.atomicHere s x1 x2 x3 x4).reverts = s.reverts := by
  intro s x1 x2 x3 x4
  unfold State.atomicHere
  dsimp only
  (repeat' split) <;> simp [State.reverts]

@[simp] theorem State.placeWrite_reverts : ∀ s x1 x2, (State.placeWrite s x1 x2).reverts = s.reverts := by
  intro s x1 x2
  have fetched := s.fetch_reverts x1 x2
  unfold State.placeWrite
  (repeat' split) <;> simp_all [State.reverts, Fetch.st]

@[simp] theorem State.tryWrite_reverts : ∀ s x1 x2, (State.tryWrite s x1 x2).reverts = s.reverts := by
  intro s x1 x2
  unfold State.tryWrite
  (repeat' split) <;> simp [State.reverts]

@[simp] theorem State.tryEntry_reverts : ∀ s x1, (State.tryEntry s x1).reverts = s.reverts := by
  intro s x1
  unfold State.tryEntry
  (repeat' split) <;> simp [State.reverts]

@[simp] theorem State.pumpN_reverts : ∀ x0 s, (State.pumpN x0 s).reverts = s.reverts := by
  intro x0 s
  induction x0 generalizing s with
  | zero => simp [State.reverts, State.pumpN]
  | succ k ih =>
    unfold State.pumpN
    (repeat' split) <;> simp [State.reverts, ih]

@[simp] theorem State.pump_reverts : ∀ s, (State.pump s).reverts = s.reverts := by
  intro s
  unfold State.pump
  (repeat' split) <;> simp [State.reverts]

@[simp] theorem State.acceptMarker_reverts : ∀ s x1, (State.acceptMarker s x1).reverts = s.reverts := by
  intro s x1
  unfold State.acceptMarker
  dsimp only
  (repeat' split) <;> simp [State.reverts]

@[simp] theorem State.takeMarkers_reverts : ∀ s, (State.takeMarkers s).reverts = s.reverts := by
  intro s
  unfold State.takeMarkers
  dsimp only
  (repeat' split) <;> simp [State.reverts]

@[simp] theorem State.lostCompletion_reverts : ∀ s x1 x2 x3, (State.lostCompletion s x1 x2 x3).reverts = s.reverts := by
  intro s x1 x2 x3
  unfold State.lostCompletion
  (repeat' split) <;> simp [State.reverts]

@[simp] theorem State.answer_reverts : ∀ s x1 x2 x3, (State.answer s x1 x2 x3).reverts = s.reverts := by
  intro s x1 x2 x3
  unfold State.answer
  dsimp only
  (repeat' split) <;> simp [State.reverts]

@[simp] theorem State.finish_reverts : ∀ s x1 x2, (State.finish s x1 x2).reverts = s.reverts := by
  intro s x1 x2
  unfold State.finish
  dsimp only
  (repeat' split) <;> simp [State.reverts]

@[simp] theorem State.endHold_reverts : ∀ s, (State.endHold s).reverts = s.reverts := by
  intro s
  unfold State.endHold
  dsimp only
  (repeat' split) <;> simp [State.reverts]

@[simp] theorem State.setMode_reverts : ∀ s x1 x2, (State.setMode s x1 x2).reverts = s.reverts := by
  intro s x1 x2
  unfold State.setMode
  dsimp only
  (repeat' split) <;> simp [State.reverts]

end Sys2Proof.Machine
end

section
namespace Sys2Proof.Machine

/-! ## Firmware transfer and activation (R446 to R448) -/

/-- Whether an image is good rests on its slot, the key hashes and the fused security version. -/
theorem State.imageGood_congr {s t : State} (k : Nat) (hf : t.fls = s.fls) (h0 : t.cmd.hash0 = s.cmd.hash0) (h1 : t.cmd.hash1 = s.cmd.hash1)
    (hr : t.cmd.hash0Revoked = s.cmd.hash0Revoked) (hv : t.cmd.fusedSvn = s.cmd.fusedSvn) : t.imageGood k = s.imageGood k := by
  have words : t.slotWords k = s.slotWords k := by rw [State.slotWords, State.slotWords, hf]
  have field : t.slotField k 8 2 = s.slotField k 8 2 := by rw [State.slotField, State.slotField, hf]
  have empty : t.slotIsEmpty k = s.slotIsEmpty k := by rw [State.slotIsEmpty, State.slotIsEmpty, hf]
  rw [State.imageGood, State.imageGood, words, field, empty, h0, h1, hr, hv]

/-! ### The transfer -/

/-- A transfer may begin in a CXL slot: none is open, the slot is not the active one, its sectors are not protected (R446, R485). -/
def State.slotFree (s : State) (slot : Nat) : Prop :=
  s.cmd.transfer = none ∧ (slot = 1 ∨ slot = 2) ∧ s.cmd.active ≠ some (slot - 1) ∧ (if slot = 1 then s.fls.protA else s.fls.protB) &&& 0xFFFF = 0

theorem State.transferFw_begins (s : State) (m : Mbx) (action slot : Nat) (data : List (BitVec 256)) (ha : action = 0 ∨ action = 1)
    (hf : s.slotFree slot) : s.transferFw m action slot 0 data =
      if action = 0 then (State.putFw { s with fls := s.fls.emptySlot (slot - 1) } (slot - 1) 0 data).endTransfer (slot - 1)
      else ({ State.putFw { s with fls := s.fls.emptySlot (slot - 1) } (slot - 1) 0 data with
        cmd := { s.cmd with transfer := some ⟨m.fn, m.secondary, slot - 1, ceilDiv data.length 4⟩ } }, .ok []) := by
  obtain ⟨none, range, idle, open_⟩ := hf
  have allowed : ¬ ((slot = 0 || 2 < slot || s.cmd.active == some (slot - 1) ||
      (if slot - 1 = 0 then s.fls.protA else s.fls.protB) &&& 0xFFFF ≠ 0 : Bool) = true) := by
    rcases range with rfl | rfl
    · simpa using And.intro idle open_
    · simpa [idle] using open_
  exact (if_pos ha).trans ((if_neg (by rw [none]; exact Bool.false_ne_true)).trans ((if_neg allowed).trans (if_neg (not_not_intro rfl))))

section
variable (s : State) (m : Mbx) (slot k n : Nat) (data : List (BitVec 256)) (ht : s.cmd.transfer = some ⟨m.fn, m.secondary, k, n⟩)
include ht

theorem State.transferFw_continues : s.transferFw m 2 slot n data =
    ({ s.putFw k (4 * n) data with cmd := { s.cmd with transfer := some ⟨m.fn, m.secondary, k, n + ceilDiv data.length 4⟩ } }, .ok []) := by
  simp [State.transferFw, ht, State.putFw]

theorem State.transferFw_ends : s.transferFw m 3 slot n data = (s.putFw k (4 * n) data).endTransfer k := by
  simp [State.transferFw, ht]

theorem State.transferFw_aborts (offset : Nat) : s.transferFw m 4 slot offset data =
    ({ s with fls := s.fls.emptySlot k, cmd := { s.cmd with transfer := none } }, .ok []) := by
  simp [State.transferFw, ht]

end

/-- A TRANSFER_FW by its effect on the state before it. -/
theorem State.transferFw_answers {s u : State} {m : Mbx} {action slot offset : Nat} {data : List (BitVec 256)} {r : Reply}
    (ht : s.takes m (.priv 0x0201) = true)
    (hb : (s.openJob m (.priv 0x0201) false).transferFw m action slot offset data = (u.openJob m (.priv 0x0201) false, r))
    (hg : u.tagNow = s.tagNow) (hj : u.cmd.jobs = s.cmd.jobs) :
    exec (.transferFw m action slot offset data) s = .next (u.answered m 0x0201 r) :=
  congrArg Host.Outcome.next (s.simple_answered u m (.priv 0x0201) (fun s => s.transferFw m action slot offset data) r true rfl ht hb hg hj)

/-- A state whose transfer has ended, the slot emptied where its image is bad. -/
def State.transferEnded (s : State) (slot : Nat) : State :=
  if s.imageGood slot then { s with cmd := { s.cmd with transfer := none } }
  else { s with cmd := { s.cmd with transfer := none }, fls := s.fls.emptySlot slot }

/-- The end of a transfer by a command, with the program of its last words. -/
theorem State.endTransfer_openJob (s : State) (m : Mbx) (slot : Nat) :
    (s.openJob m (.priv 0x0201) false).endTransfer slot =
      ((s.transferEnded slot).openJob m (.priv 0x0201) false, if s.imageGood slot then .ok [] else ⟨10, 0, []⟩) := by
  have same : State.imageGood { s.openJob m (.priv 0x0201) false with cmd := { (s.openJob m (.priv 0x0201) false).cmd with transfer := none } } slot =
      s.imageGood slot := State.imageGood_congr slot rfl rfl rfl rfl rfl
  rw [State.endTransfer, State.transferEnded]
  dsimp only
  rw [same]
  by_cases good : s.imageGood slot = true
  · rw [if_pos good, if_pos good, if_pos good]; rfl
  · rw [if_neg good, if_neg good, if_neg good]; rfl

/-- The answer to the end of a transfer. -/
theorem State.transferEnded_answered (s : State) (m : Mbx) (slot : Nat) :
    (s.transferEnded slot).answered m 0x0201 (if s.imageGood slot then .ok [] else ⟨10, 0, []⟩) =
      if s.imageGood slot then State.answered { s with cmd := { s.cmd with transfer := none } } m 0x0201 (.ok [])
      else State.answered { s with cmd := { s.cmd with transfer := none }, fls := s.fls.emptySlot slot } m 0x0201 ⟨10, 0, []⟩ := by
  rw [State.transferEnded]
  split <;> rfl

/-- The answer to the end of a transfer that was never open: it has ended within its command. -/
theorem State.transferEnded_answered_closed (s : State) (m : Mbx) (slot : Nat) (h : s.cmd.transfer = none) :
    (s.transferEnded slot).answered m 0x0201 (if s.imageGood slot then .ok [] else ⟨10, 0, []⟩) =
      if s.imageGood slot then State.answered s m 0x0201 (.ok [])
      else State.answered { s with fls := s.fls.emptySlot slot } m 0x0201 ⟨10, 0, []⟩ := by
  have closed : { s.cmd with transfer := none } = s.cmd := by rw [← h]
  rw [State.transferEnded_answered, closed]

theorem State.transferEnded_jobs (s : State) (slot : Nat) :
    (s.transferEnded slot).tagNow = s.tagNow ∧ (s.transferEnded slot).cmd.jobs = s.cmd.jobs := by
  rw [State.transferEnded]
  split <;> exact ⟨rfl, rfl⟩

/-! ### The activation -/

theorem State.activateFw_names (s : State) (m : Mbx) (slot tag : Nat) (hs : slot = 1 ∨ slot = 2) :
    s.activateFw m 1 slot tag = (s.forceLog 0x12 0 (slot - 1), .now (.ok [])) := by
  rcases hs with rfl | rfl <;> rfl

/-- An online activation in SOLO of an image of the same formats (R447). -/
theorem State.activateFw_opens (s : State) (m : Mbx) (slot tag a : Nat) (hs : slot = 1 ∨ slot = 2) (hm : s.mode.mode = .solo)
    (ha : s.cmd.active = some a) (hne : a ≠ slot - 1) (hf : s.cmd.activate = none) (hk : s.slotField (slot - 1) 12 2 = s.slotField a 12 2)
    (ht : s.mode.transit = false) : s.activateFw m 0 slot tag =
      ((State.reqResult { s with cmd := { s.cmd with activate := some ⟨m, tag, slot - 1, 2, s.now, false⟩ } } 1).enterHold 0 0x0B, .later) := by
  have range : ¬ ((slot = 0 || 2 < slot : Bool) = true) := by rcases hs with rfl | rfl <;> decide
  rw [State.activateFw, if_neg range, if_neg (by decide), if_neg (by decide), if_neg (by rw [hm]; decide), if_neg (by simp [ha, hf, hne.symm]),
    if_neg (by rw [ha]; exact not_not_intro hk), if_neg (by rw [hm]; exact Bool.false_ne_true), if_neg (by simp [ht])]

/-! ### The end of an activation -/

theorem State.fwReady_good (s : State) (a : FwActivate) (ha : s.cmd.activate = some a) (hg : s.imageGood a.slot = true) :
    exec .fwReady s = .next (((State.forceLog { s with cmd := { s.cmd with active := some a.slot } } 0x12 0 a.slot).logRec LogT.firmware Src.cox Cls.info
      [w32 a.slot]).activationOver a (.ok [])) := by
  refine congrArg Host.Outcome.next ?_
  rw [ha]
  exact if_neg (by rw [hg]; decide)

theorem State.fwReady_bad (s : State) (a : FwActivate) (ha : s.cmd.activate = some a) (hg : s.imageGood a.slot = false) :
    exec .fwReady s = .next ((s.bump Ctr.CRY_CNT_BOOT_REJECT).revertFw a) := by
  refine congrArg Host.Outcome.next ?_
  rw [ha]
  exact if_pos (by rw [hg]; decide)

theorem State.endHold_cmd (s : State) : ∃ jobs, s.endHold.cmd = { s.cmd with formatArmed := false, jobs := jobs } := by
  unfold State.endHold
  dsimp only
  split
  · exact State.finish_cmd _ _ _
  · exact ⟨_, rfl⟩

/-- Leaving HOLD with no activation open leaves none open, the running image, the flash and the count of activations reverted. -/
theorem State.leaveHold_keeps (s : State) (reason : Nat) (h : s.cmd.activate = none) :
    (s.leaveHold reason).cmd.activate = none ∧ (s.leaveHold reason).cmd.active = s.cmd.active ∧ (s.leaveHold reason).reverts = s.reverts := by
  obtain ⟨jobs, cmd⟩ := s.endHold_cmd
  have none_ : s.endHold.cmd.activate = none := by rw [cmd]; exact h
  unfold State.leaveHold
  dsimp only
  rw [none_]
  refine ⟨?_, ?_, by simp [State.reverts]⟩
  · simp [none_]
  · simp [cmd]

/-- What the end of an activation leaves (R447 step 7, R448). -/
theorem State.activationOver_keeps (s : State) (a : FwActivate) (r : Reply) :
    (s.activationOver a r).cmd.activate = none ∧ (s.activationOver a r).cmd.active = s.cmd.active ∧ (s.activationOver a r).fls = s.fls ∧
      (s.activationOver a r).reverts = s.reverts := by
  obtain ⟨jobs, cmd⟩ := State.finish_cmd { s with cmd := { s.cmd with activate := none } } a.tag r
  have closed : (State.finish { s with cmd := { s.cmd with activate := none } } a.tag r).cmd.activate = none := by rw [cmd]
  unfold State.activationOver
  dsimp only
  split
  · exact ⟨closed, by rw [cmd], by simp, by simp [State.reverts]⟩
  · obtain ⟨activate, active, reverts⟩ := State.leaveHold_keeps _ 0x0B closed
    exact ⟨activate, active.trans (by rw [cmd]), by simp, reverts.trans (by simp [State.reverts])⟩

/-- The transition out of HOLD at the end of an activation. -/
theorem State.activationOver_mode (s : State) (a : FwActivate) (r : Reply) (hl : a.left = false) (hm : s.mode.mode = .hold) :
    (s.activationOver a r).mode.reason = 0x0B ∧ (s.activationOver a r).mode.count = (s.mode.count + 1) % 65536 := by
  unfold State.activationOver
  rw [if_neg (by simp [hl, hm]), State.leaveHold_mode]
  simp

theorem State.revertFw_reverts (s : State) (a : FwActivate) : (s.revertFw a).ctr Ctr.CRY_CNT_ACT_REVERT = s.ctr Ctr.CRY_CNT_ACT_REVERT + 1 :=
  (State.ctr_bump_self _ _).trans (congrArg (· + 1) (s.activationOver_keeps a .reverted).2.2.2)

end Sys2Proof.Machine
end

section
namespace Sys2Proof
open Sys2Proof.Machine

/-- Settles O24: a transfer by its effect on the state before it; an activation by what its end keeps, the count of reverts among it. -/
theorem firmwareTransferAndActivation : Obligations.FirmwareTransferAndActivation := by
  unfold Obligations.FirmwareTransferAndActivation
  refine ⟨?initiate, ?full, ?continue_, ?end_, ?abort, ?names, ?activate, ?ready, ?timeout⟩
  case initiate =>
    intro m slot data s ht hf hs ha hp
    exact ⟨_, State.transferFw_answers (u := { State.putFw { s with fls := s.fls.emptySlot (slot - 1) } (slot - 1) 0 data with
        cmd := { s.cmd with transfer := some ⟨m.fn, m.secondary, slot - 1, ceilDiv data.length 4⟩ } }) ht
      (State.transferFw_begins (s.openJob m (.priv 0x0201) false) m 1 slot data (.inr rfl) ⟨hf, hs, ha, hp⟩) rfl rfl, rfl⟩
  case full =>
    intro m slot data s ht hf hs ha hp
    have begins := State.transferFw_begins (s.openJob m (.priv 0x0201) false) m 0 slot data (.inl rfl) ⟨hf, hs, ha, hp⟩
    have ends := (State.putFw { s with fls := s.fls.emptySlot (slot - 1) } (slot - 1) 0 data).endTransfer_openJob m (slot - 1)
    obtain ⟨tag, jobs⟩ := (State.putFw { s with fls := s.fls.emptySlot (slot - 1) } (slot - 1) 0 data).transferEnded_jobs (slot - 1)
    exact ⟨_, State.transferFw_answers ht (begins.trans ends) tag jobs, State.transferEnded_answered_closed _ m (slot - 1) hf⟩
  case continue_ =>
    intro m slot k n data s ht hf
    exact ⟨_, State.transferFw_answers (u := { s.putFw k (4 * n) data with
        cmd := { s.cmd with transfer := some ⟨m.fn, m.secondary, k, n + ceilDiv data.length 4⟩ } }) ht
      (State.transferFw_continues (s.openJob m (.priv 0x0201) false) m slot k n data hf) rfl rfl, rfl⟩
  case end_ =>
    intro m slot k n data s ht hf
    have ends := (State.transferFw_ends (s.openJob m (.priv 0x0201) false) m slot k n data hf).trans ((s.putFw k (4 * n) data).endTransfer_openJob m k)
    obtain ⟨tag, jobs⟩ := (s.putFw k (4 * n) data).transferEnded_jobs k
    refine ⟨_, State.transferFw_answers ht ends tag jobs, ?_⟩
    have same : State.imageGood { s.putFw k (4 * n) data with cmd := { s.cmd with transfer := none } } k = (s.putFw k (4 * n) data).imageGood k :=
      State.imageGood_congr k rfl rfl rfl rfl rfl
    dsimp only
    rw [State.transferEnded_answered, same]
    rfl
  case abort =>
    intro m slot offset k n data s ht hf
    exact ⟨_, State.transferFw_answers (u := { s with fls := s.fls.emptySlot k, cmd := { s.cmd with transfer := none } }) ht
      (State.transferFw_aborts (s.openJob m (.priv 0x0201) false) m slot k n data hf offset) rfl rfl, rfl⟩
  case names =>
    intro m slot s ht hs
    have named : (fun (tag : Nat) (s : State) => s.activateFw m 1 slot tag) = fun _ s => (s.forceLog 0x12 0 (slot - 1), .now (.ok [])) :=
      funext fun tag => funext fun s => s.activateFw_names m slot tag hs
    refine ⟨_, congrArg Host.Outcome.next ((congrArg (s.command m (.priv 0x0202) true false) named).trans ?_), rfl⟩
    exact s.simple_answered (s.forceLog 0x12 0 (slot - 1)) m (.priv 0x0202) (fun s => (s.forceLog 0x12 0 (slot - 1), .ok [])) _ true rfl ht rfl rfl rfl
  case activate =>
    intro m slot a s ht hs hm ha hne hf hk htr hb
    have opens := State.activateFw_opens (s.started m (.priv 0x0202)) m slot s.tagNow a hs hm ha hne hf hk htr
    refine ⟨_, congrArg Host.Outcome.next (s.command_background_waits _ m (.priv 0x0202) (fun tag s => s.activateFw m 0 slot tag) ht hb opens), ?_⟩
    beta_reduce
    rw [State.enterHold_mode]
    refine ⟨rfl, rfl, rfl, ?_, ?_, ?_⟩
    · simp [State.reqResult, State.started, State.openJob, State.emit, State.now]
    · simp [State.reqResult, State.started, State.openJob, State.emit, ha]
    · simp [State.reqResult, State.started, State.openJob, State.emit, CmdSpec.priv]
  case ready =>
    intro a s ha
    cases good : s.imageGood a.slot with
    | true =>
      obtain ⟨activate, active, fls, -⟩ := State.activationOver_keeps
        ((State.forceLog { s with cmd := { s.cmd with active := some a.slot } } 0x12 0 a.slot).logRec LogT.firmware Src.cox Cls.info [w32 a.slot]) a (.ok [])
      refine ⟨_, s.fwReady_good a ha good, activate, fun hl hm => ?_, active.trans (by simp [State.forceLog]), ?_⟩
      · simpa [State.forceLog] using State.activationOver_mode
          ((State.forceLog { s with cmd := { s.cmd with active := some a.slot } } 0x12 0 a.slot).logRec LogT.firmware Src.cox Cls.info [w32 a.slot])
          a (.ok []) hl (by simpa [State.forceLog] using hm)
      · exact (congrArg Flash.force fls).trans (by simp [State.forceLog])
    | false =>
      obtain ⟨activate, active, fls, -⟩ := (s.bump Ctr.CRY_CNT_BOOT_REJECT).activationOver_keeps a .reverted
      exact ⟨_, s.fwReady_bad a ha good, activate, fun hl hm => State.activationOver_mode (s.bump Ctr.CRY_CNT_BOOT_REJECT) a .reverted hl hm, active, fls,
        ((s.bump Ctr.CRY_CNT_BOOT_REJECT).revertFw_reverts a).trans (congrArg (· + 1) (s.bump_reverts _ (by decide)))⟩
  case timeout =>
    intro a s ha
    have run : exec .activationTimeout s = .next (s.revertFw a) := by
      show Host.Outcome.next _ = _
      rw [ha]
    obtain ⟨activate, active, fls, -⟩ := s.activationOver_keeps a .reverted
    exact ⟨_, run, active, activate, fls, s.revertFw_reverts a⟩

end Sys2Proof
end
